-- ==== Sys2Proof/Word.lean ====
section
/-!
DEFINITION. Word.lean: bytes, little-endian numbers and the two's-complement reading of the encodings
of the table "Data types" (R167, 09_object_dictionary.md). Nothing of the device's behaviour stands here.
-/
namespace Sys2Proof

/-- One byte as it travels in a frame. -/
abbrev Byte := BitVec 8

/-- A byte from a number, taken modulo 256. -/
def byte (n : Nat) : Byte := BitVec.ofNat 8 n

/-- The number that bytes hold in little-endian order (R167). -/
def leNat : List Byte → Nat
  | [] => 0
  | b :: bs => b.toNat + 256 * leNat bs

/-- `n` little-endian bytes of a number (R167). -/
def toLe : Nat → Nat → List Byte
  | 0, _ => []
  | n + 1, v => byte v :: toLe n (v / 256)

/-- The number read as a two's-complement value of `w` bits (R167). -/
def signedOf (w n : Nat) : Int :=
  if n % 2 ^ w < 2 ^ (w - 1) then (n % 2 ^ w : Nat) else ((n % 2 ^ w : Nat) : Int) - (2 ^ w : Nat)

/-- The two's-complement encoding in `w` bits of an integer (R167). -/
def encSigned (w : Nat) (i : Int) : Nat := (i % ((2 ^ w : Nat) : Int)).toNat

/-- The number with bit `i` set or cleared. -/
def setBitOf (n i : Nat) (b : Bool) : Nat :=
  if b then n ||| (2 ^ i) else if n.testBit i then n - 2 ^ i else n

/-- Bits `hi` down to `lo` of a number. -/
def bitsOf (n hi lo : Nat) : Nat := (n / 2 ^ lo) % 2 ^ (hi + 1 - lo)

/-- The 16-bit field at byte `i` of an OCT value. -/
def u16At (v i : Nat) : Nat := (v / 256 ^ i) % 65536

/-- The 32-bit field at byte `i` of an OCT value. -/
def u32At (v i : Nat) : Nat := (v / 256 ^ i) % 4294967296

/-- The byte `i` of an OCT value. -/
def u8At (v i : Nat) : Nat := (v / 256 ^ i) % 256

/-- An OCT value of 16-bit fields in order. -/
def pack16 : List Nat → Nat
  | [] => 0
  | x :: xs => x % 65536 + 65536 * pack16 xs

/-- The 1 or 0 of a condition. -/
def bitVal (b : Bool) : Nat := if b then 1 else 0

/-- A number from its bits, the least significant first. -/
def ofBits : List Bool → Nat
  | [] => 0
  | b :: bs => bitVal b + 2 * ofBits bs

/-- Zero padding of a byte list to `n` bytes. -/
def padTo (n : Nat) (bs : List Byte) : List Byte := bs ++ List.replicate (n - bs.length) 0

/-- The least multiple of 4 not below `n`. -/
def roundUp4 (n : Nat) : Nat := (n + 3) / 4 * 4

end Sys2Proof
end

