-- ==== Sys2Proof/Syntax.lean ====
section
/-!
DEFINITION. Syntax.lean: the commands, one constructor per row of the table of operations and events, and
the operands they carry. A transaction row names the execution lane that carries its transaction; an event
row carries what the outside world shows the device at that event.
-/
namespace Sys2Proof

/-- The transport of a session (16#1101+m.02). -/
inductive Transport where
  /-- UDP over port NA -/
  | udpA
  /-- UDP over port NB -/
  | udpB
  /-- the local host link -/
  | link
  deriving DecidableEq, Repr

/-- A UDP peer: IPv4 address and port (R206). -/
structure Peer where
  ip : Nat
  port : Nat
  deriving DecidableEq, Repr

/-- A lattice input: a pair of contacts (table "Lattice inputs", R24). -/
inductive LatInput where
  | closed (l : Fin 24)
  | locked (l : Fin 24)
  | iso (l : Fin 24)
  | handle (d : Fin 12)
  | train (t : Fin 3)
  deriving DecidableEq, Repr

/-- A PTP message as the switch and the ordinary clock see it (R202, R203). `port` is its sourcePortIdentity,
for a Delay_Resp its requestingPortIdentity. -/
inductive PtpKind where
  | sync (twoStep : Bool)
  | followUp
  | delayReq
  | delayResp
  | announce
  | other
  deriving DecidableEq, Repr

/-- What a frame carries, as far as the switch looks (R185, R202, R203). -/
inductive FrameKind where
  | data
  /-- a PTP message: over UDP or over Ethernet, its domain, sequenceId and identity -/
  | ptp (udp : Bool) (domain : Nat) (msg : PtpKind) (seq port : Nat)
  /-- 31: MAC control -/
  | pause
  deriving DecidableEq, Repr

/-- An Ethernet frame: addresses as 48-bit numbers (the first byte most significant), its tag as PCP and VID,
its length with FCS, and whether its FCS is good (R183). -/
structure EthFrame where
  dst : Nat
  src : Nat
  tag : Option (Nat × Nat)
  len : Nat
  fcsOk : Bool
  kind : FrameKind
  deriving DecidableEq, Repr

/-- The fields of an Announce that the best master clock algorithm compares, in its order (R202):
priority1, clockClass, clockAccuracy, variance, priority2, grandmaster identity, stepsRemoved; and its transport
and domain, the sender, the UTC offset where it is valid, and the interval in ms. -/
structure Announce where
  udp : Bool
  domain : Nat
  priority1 : Nat
  clockClass : Nat
  accuracy : Nat
  variance : Nat
  priority2 : Nat
  grandmaster : Nat
  steps : Nat
  sender : Nat
  utcOffset : Option Int
  intervalMs : Nat
  deriving DecidableEq, Repr

/-- The commands that the block takes. -/
inductive Instr where
  /-- HELLO (R210). A HELLO open frame asks for a master slot or observer place and is answered with a CHALLENGE or a refusal. -/
  | hello (t : Transport) (p : Peer) (frame : List Byte)
  /-- PROOF (R208). A PROOF open frame is checked against proof_host and, if correct, binds the session, derives SK and returns a RESULT with proof_dev. -/
  | proof (t : Transport) (p : Peer) (frame : List Byte)
  /-- AUTH_LOCKOUT_EXPIRY (R211). The 30 s lockout ends and OPENs for the slot or role are accepted again. -/
  | authLockoutExpiry (role : Fin 3)
  /-- CHALLENGE_TIMEOUT (R207). No correct PROOF arrives within 1 s of the challenge, so the slot returns to FREE. -/
  | challengeTimeout (p : Fin 8)
  /-- HOST_FRAME_RX (R273). A HOST frame arrives at NI ingress, is checked for tag and FrameCount, and is discarded if NI ingress already holds 16 frames. -/
  | hostFrameRx (t : Transport) (p : Peer) (frame : List Byte)
  /-- FRAME_ADMISSION (R235). Once its session has enough free refusal entries, a HOST frame leaves NI ingress and its elements are admitted one by one under the credit, tag and safety checks. -/
  | frameAdmission (link : Bool)
  /-- LANE_GRANT (R266). A free execution lane is granted to a head transaction by MinLanes and the virtual-time rule. -/
  | laneGrant
  /-- KEEP (R234). KEEP restarts the session timer and completes at once with the free slot and device credits. -/
  | keep (l : Fin 32)
  /-- CLOSE (R218). CLOSE refuses later frames and completes after earlier completions are sent, then releases semaphores and puts the slot in HOLDOFF. -/
  | close (l : Fin 32)
  /-- READ (R240). READ returns an object value or a DOM block with TotalLength and Generation. -/
  | read (l : Fin 32)
  /-- WRITE (R173). WRITE of an object that has no row of its own runs the ordered checks and stores the value. -/
  | write (l : Fin 32)
  /-- READ_MULTI (R240). READ_MULTI reads up to 32 objects in one lane, each entry with its own status. -/
  | readMulti (l : Fin 32)
  /-- WRITE_MULTI (R240). WRITE_MULTI writes up to 32 objects in order in one lane, each entry with its own status. -/
  | writeMulti (l : Fin 32)
  /-- BURST_BEGIN (R242). BURST_BEGIN opens the master's burst buffer. -/
  | burstBegin (l : Fin 32)
  /-- BURST_SEG (R242). BURST_SEG stages one segment, or poisons the burst on refusal. -/
  | burstSeg (l : Fin 32)
  /-- BURST_END (R243). BURST_END checks the count and CRC, runs every segment's checks and loaders, and applies the whole burst in one step or nothing of it. -/
  | burstEnd (l : Fin 32)
  /-- BURST_ABORT (R244). BURST_ABORT discards the staged burst, and its unstarted segments and END complete with 16#0606. -/
  | burstAbort (m : Fin 2) (tag frame elem : Nat)
  /-- BURST_IDLE_EXPIRY (R244). An open burst that receives no segment for BurstIdleTime is discarded and BurstExpiredCount increments. -/
  | burstIdleExpiry (m : Fin 2)
  /-- SEMA_TAKE (R223). SEMA_TAKE takes a free semaphore or waits for it up to WaitMs. -/
  | semaTake (l : Fin 32)
  /-- SEMA_GIVE (R223). SEMA_GIVE releases a semaphore that the session holds. -/
  | semaGive (l : Fin 32)
  /-- SEMA_WAIT_EXPIRY (R223). WaitMs of a waiting SEMA_TAKE expires and the take completes with 16#0402. -/
  | semaWaitExpiry (m : Fin 2) (sema : Fin 64)
  /-- SEMA_QUERY (R223). SEMA_QUERY returns the holder, the waiting masters and the remaining hold-off of a semaphore. -/
  | semaQuery (l : Fin 32)
  /-- SUBSCRIBE (R247). SUBSCRIBE creates a notice subscription to a function stream with a class mask and flags. -/
  | subscribe (l : Fin 32)
  /-- UNSUBSCRIBE (R247). UNSUBSCRIBE ends a subscription. -/
  | unsubscribe (l : Fin 32)
  /-- STORE (R176). STORE snapshots the P objects of its scope into the copy not in force and completes at the commit. -/
  | store (l : Fin 32)
  /-- NOTICE_ACK (R249). NOTICE_ACK acknowledges ACKED notices up to AckSeq per source at admission. -/
  | noticeAck (p : Fin 8) (entries : List (Nat × Nat × Nat))
  /-- NOTICE_RESEND (R249). Every NoticeRetry the unacknowledged ACKED notices are sent again with RESENT set. -/
  | noticeResend (p : Fin 8)
  /-- COMPLETION_FRAME_SEND (R238). A COMPLETION frame is sent when it holds 32 elements, when the next completion does not fit, or when CompletionDelay expires. -/
  | completionFrameSend (p : Fin 8)
  /-- SESSION_TIMEOUT (R216). A session timer reaches SessionTimeout and the session ends with cause TIMEOUT. -/
  | sessionTimeout (p : Fin 8)
  /-- SEMA_HOLDOFF_EXPIRY (R221). SemaHoldOff ends with the slot in HOLDOFF, so semaphores are released, HOST channels take their orphan states and the slot becomes FREE. -/
  | semaHoldoffExpiry (m : Fin 2)
  /-- SLOT_RESET (R217). A write of 16#A5 to SlotReset ends the session bound to the slot with cause SLOT_RESET. -/
  | slotReset (l : Fin 32)
  /-- KEY_WRITE (R212). A wrapped key written to KeyM0, KeyM1 or KeyObserver is unwrapped and governs the next OPEN, and KeyWriteNo increments. -/
  | keyWrite (l : Fin 32)
  /-- MAINTAINER_WRITE (R215). A write to Maintainer from the local host link holding SEM0 flags a master slot as maintainer. -/
  | maintainerWrite (l : Fin 32)
  /-- HOST_LINK_RESET (R216). A reset of the local host link ends its session with cause TRANSPORT. -/
  | hostLinkReset
  /-- LINK_WRITE_EXCHANGE (R227). An SPI write exchange delivers one frame into the link ingress buffer if CRC, RX_READY and the chip-select timing are right. -/
  | linkWriteExchange (header : List Byte) (frame : List Byte) (timingOk : Bool)
  /-- LINK_READ_EXCHANGE (R228). An SPI read exchange offers the oldest link egress frame, which leaves the queue only on complete transfer. -/
  | linkReadExchange (header : List Byte) (taken : Nat) (timingOk : Bool)
  /-- LINK_STATUS_EXCHANGE (R226). A status-only SPI exchange returns LinkStatus and clears ERR. -/
  | linkStatusExchange (header : List Byte)
  /-- SIDE_COMMAND (R56). A CMD to SideCommand delivers a command code to a side instance, where it becomes pending at the next tick. -/
  | sideCommand (l : Fin 32)
  /-- AXIS_COMMAND (R56). A CMD to AxisCommand delivers a command code to an axis instance, where it becomes pending at the next tick. -/
  | axisCommand (l : Fin 32)
  /-- FLUSH_NOW (R157). A CMD of 1 to FlushNow starts a flush and completes at its commit. -/
  | flushNow (l : Fin 32)
  /-- POWER_COMMAND_OFF (R315). PowerCommand 1 raises an off request with target OFF. -/
  | powerCommandOff (l : Fin 32)
  /-- POWER_COMMAND_STANDBY (R315). PowerCommand 2 raises an off request with target STANDBY. -/
  | powerCommandStandby (l : Fin 32)
  /-- POWER_COMMAND_STAY (R315). PowerCommand 3 during D0 or D1 is an on request that returns the device to RUN. -/
  | powerCommandStay (l : Fin 32)
  /-- SEQ_TICK (R46). At each 100 µs TB boundary every running instance evaluates its transitions against one snapshot and the entry actions take effect together. -/
  | seqTick
  /-- CMD_WAIT_EXPIRY (R56). A pending command named but not taken within CmdWait completes with 16#0322. -/
  | cmdWaitExpiry (inst : Fin 32)
  /-- CMD_LIFE_EXPIRY (R58). An accepted command not answered within CmdLife completes with 16#0323. -/
  | cmdLifeExpiry (inst : Fin 32)
  /-- SEQ_TIMER_EXPIRY (R49). A running timer T0–T3 reaches the end of its duration and its literal becomes true at that tick. -/
  | seqTimerExpiry (inst : Fin 32) (t : Fin 4)
  /-- BINDING_WRITE (R45). A write to SeqTable, CarTable or a base object is checked as a whole binding and refused with 16#0331 on failure. -/
  | bindingWrite (l : Fin 32)
  /-- LOAD_FACTORY_IMAGE (R42). A write of 16#A5 to LoadFactoryImage makes the factory image pending after the image checks. -/
  | loadFactoryImage (l : Fin 32)
  /-- LATTICE_FRAME (R25). A lattice-lane frame from a field die delivers the raw lattice states, and permits and unlock gates are published. -/
  | latticeFrame (k : Fin 4) (crcOk : Bool)
  /-- LATTICE_LINK_TIMEOUT (R25). No good lattice frame arrives from a die for 150 µs, so all its lattice inputs count as not asserted. -/
  | latticeLinkTimeout (k : Fin 4)
  /-- LATTICE_FILTER_EXPIRY (R26). A lattice input has shown a new state for its filter time and its filtered state changes. -/
  | latticeFilterExpiry (c : Fin 256)
  /-- CHANNEL_DISAGREE (R23). Channels LA and LB differ in a term for two SCLK cycles and the lattice enters HELD. -/
  | channelDisagree (cycles : Nat)
  /-- DISCREPANCY_TIMEOUT (R30). An inconsistent contact pair outlasts DiscrepancyTime and becomes an input fault. -/
  | discrepancyTimeout (x : LatInput)
  /-- INPUT_FAULT_CLEAR (R30). A pair consistent for 1.0 s clears its input fault and an event is recorded. -/
  | inputFaultClear (x : LatInput)
  /-- READBACK_SAMPLE (R33). Each 50 µs a readback is sampled, pending coil energising is checked and LOOP_CLOSED is evaluated. -/
  | readbackSample (rb1 rb2 : Bool)
  /-- RB_NO_PULL (R34). An energised relay not pulled in within ReadbackTimeout takes the lattice to HELD. -/
  | rbNoPull (coil : Fin 2)
  /-- RB_STUCK_PULLED (R34). A relay still pulled in 20 ms after its coil went off takes the lattice to HELD. -/
  | rbStuckPulled (coil : Fin 2)
  /-- TEST_PULSE_START (R35). Every TestPulsePeriod an energised coil is switched off for TestPulseWidth. -/
  | testPulseStart (coil : Fin 2)
  /-- TEST_PULSE_END (R35). The test pulse ends and the coil is driven again. -/
  | testPulseEnd (coil : Fin 2)
  /-- PULSE_FAULT (R35). The coil driver output has not fallen below its off level within 100 µs of the pulse start, so the lattice enters HELD. -/
  | pulseFault (coil : Fin 2)
  /-- COIL_DRIVE (R35). A coil driver short or over-current takes the lattice to HELD with cause COIL_DRIVE. -/
  | coilDrive (coil : Fin 2)
  /-- MONITOR_WINDOW (R37). A 256-period monitor window ends and the SCLK count is checked. -/
  | monitorWindow (count : Nat)
  /-- MONITOR_COUNT (R37). SCLK logic counts monitor edges over 1600 SCLK cycles and checks the count. -/
  | monitorCount (count : Nat)
  /-- LATTICE_INIT_END (R38). The INIT checks end and the lattice enters RUN, or HELD if a check failed. -/
  | latticeInitEnd (vectorsOk : Bool)
  /-- SPEED_LOOP_UPDATE (R70). Every 1 ms the speed loop of each driven axis computes a new duty. -/
  | speedLoopUpdate
  /-- DIR_GUARD_END (R66). DirGuard elapses with the duty at 0 and DIR_a changes. -/
  | dirGuardEnd (a : Fin 24)
  /-- CURRENT_WINDOW (R67). A 1 ms current window ends and CurrentMean is published. -/
  | currentWindow (a : Fin 24) (mean : Int)
  /-- AT_TARGET (R71). The trajectory reaches its target within TargetWindow, AT_TARGET rises and the axis holds. -/
  | atTarget (a : Fin 24)
  /-- OVERTIME (R71). A motion has not reached AT_TARGET within its overtime figure and OVERTIME rises. -/
  | overtime (a : Fin 24)
  /-- END_STOP_DETECT (R88). An UNREFERENCED axis sees end-stop current and low speed for EndStopTime and AT_TARGET rises. -/
  | endStopDetect (a : Fin 24)
  /-- ARM_DELAY_EXPIRY (R77). ArmDelay after a MOVE elapses and obstacle detection is armed. -/
  | armDelayExpiry (a : Fin 24)
  /-- CURRENT_TRIP (R78). CurrentMean stays above the bin threshold for EnvDebounce and a current trip exists. -/
  | currentTrip (a : Fin 24)
  /-- SPEED_TRIP (R79). Speed stays below the deficit limit at cruise and a speed trip exists. -/
  | speedTrip (a : Fin 24)
  /-- TRIP_INPUT (R80). A trip channel shows its trip level during an armed CLOSED_END motion. -/
  | tripInput (a : Fin 24) (n : Fin 2)
  /-- OVERCURRENT (R72). Three converter samples at or above ITrip raise FAULT and set EN_a low. -/
  | overcurrent (a : Fin 24) (s1 s2 s3 : Nat)
  /-- SENSE_FAULT (R72). Converter over-range or a common-mode fault raises FAULT and sets EN_a low. -/
  | senseFault (a : Fin 24) (heldUs : Nat)
  /-- DIRECTION_FAULT (R72). The position moves DirErrCounts against DIR_a at a significant duty, so FAULT rises and EN_a goes low. -/
  | directionFault (a : Fin 24)
  /-- SETPOINT_UPDATE (R74). Every 10 µs each set-point output slews towards its latched target. -/
  | setpointUpdate
  /-- CAPTURE_SEED (R85). EnvCommand 1 starts seed capture over the next four clean strokes each way. -/
  | captureSeed (l : Fin 32)
  /-- RESET_TO_SEED (R85). EnvCommand 2 copies the seeds into the envelopes. -/
  | resetToSeed (l : Fin 32)
  /-- SEED_WRITE (R85). A direct seed write replaces the envelope of its direction. -/
  | seedWrite (l : Fin 32)
  /-- FEEDBACK_CONFIG_WRITE (R89). A write to FeedbackMode, CountsPerRev or SsiLayout sets UNREFERENCED and clears the counts. -/
  | feedbackConfigWrite (l : Fin 32)
  /-- ENCODER_EDGE (R91). A filtered A or B change moves InRev by one count. -/
  | encoderEdge (a : Fin 24) (levelA levelB : Bool)
  /-- PAIR_GLITCH (R92). An input pair disagrees for 8 samples and PairGlitchCount increments. -/
  | pairGlitch (a : Fin 24) (line : Fin 3) (live : Bool)
  /-- PAIR_FAULT (R92). An input pair disagrees for PairFaultTime and a PAIR feedback fault is raised. -/
  | pairFault (a : Fin 24) (line : Fin 3) (heldUs : Nat)
  /-- REFERENCE_MARK (R99). A reference mark is checked against its expected count. -/
  | referenceMark (a : Fin 24)
  /-- TONE_TOOTH (R94). A tone-wheel tooth moves InRev and its gap is tested for the missing or the extra tooth. -/
  | toneTooth (a : Fin 24)
  /-- SSI_WORD_START (R96). Every SsiPeriod the device starts clocking one serial word. -/
  | ssiWordStart (a : Fin 24) (lineHigh : Bool)
  /-- SSI_WORD_END (R97). A received serial word is validated and sets the counts, or counts as invalid. -/
  | ssiWordEnd (a : Fin 24) (word : Nat)
  /-- SPEED_COMPUTE (R103). Every 1 ms Speed is computed from the timestamped edges of the window. -/
  | speedCompute (a : Fin 24)
  /-- LATCH_ARM (R104). A write to LatchArm re-arms a SINGLE latch. -/
  | latchArm (l : Fin 32)
  /-- LATCH_SOURCE_WRITE (R104). A write to LatchSource is checked for its encoding and for the owning function's mask. -/
  | latchSourceWrite (l : Fin 32)
  /-- COMPARE_PULSE_END (R105). The compare pulse ends after PulseWidth. -/
  | comparePulseEnd (a : Fin 24)
  /-- COMPARE_ARM (R105). A write to CompareArm re-arms ONCE entries. -/
  | compareArm (l : Fin 32)
  /-- FUNCTIONAL_FRAME (R108). A functional-lane frame delivers the filtered input states of a die into InputState. -/
  | functionalFrame (k : Fin 4) (crcOk : Bool)
  /-- FUNCTIONAL_LINK_TIMEOUT (R109). No good functional frame arrives for 150 µs, so the die's InputStates read 0 and LINK is set. -/
  | functionalLinkTimeout (k : Fin 4)
  /-- INPUT_FILTER_EXPIRY (R108). An input's new raw state or band persists for InputFilter and the filtered state changes. -/
  | inputFilterExpiry (c : Fin 256)
  /-- INPUT_FILTER_WRITE (R108). A write of InputFilter restarts a pending change under the new value. -/
  | inputFilterWrite (l : Fin 32)
  /-- INPUT_VOLTAGE_WINDOW (R417). A 1 ms window ends and InputVoltage is published. -/
  | inputVoltageWindow (c : Fin 256) (mv : Nat)
  /-- MARGINAL (R112). r has stayed in a gap for 20 ms and MARGINAL is set. -/
  | marginal (c : Fin 256)
  /-- XCHECK_SET (R114). The functional and lattice samples disagree for XcheckTime, so XCHECK is set and a fault record is written. -/
  | xcheckSet (c : Fin 256)
  /-- XCHECK_CLEAR (R114). The two paths agree for 1.0 s and XCHECK clears. -/
  | xcheckClear (c : Fin 256)
  /-- COMPARATOR_SELFTEST (R115). Every 100 ms a channel's comparators are tested against internal levels and COMP_FAIL is updated. -/
  | comparatorSelftest (c : Fin 256) (pass : Bool)
  /-- TEST_WINDOW_START (R117). Every TestPeriod the test source is switched off for TestWidth. -/
  | testWindowStart (c : Fin 256)
  /-- TEST_WINDOW_END (R117). At the end of TestWidth the inputs fed by the source are judged and TEST_STUCK is updated. -/
  | testWindowEnd (c : Fin 256)
  /-- FILTER_HOLD_END (R117). The functional filter hold ends 100 µs after the test window. -/
  | filterHoldEnd (c : Fin 256)
  /-- INPUT_OVERLOAD (R118). The input voltage is out of range for 1 ms and OVERLOAD is set. -/
  | inputOverload (c : Fin 256)
  /-- OVERLOAD_CLEAR (R118). The input voltage is in range for 100 ms and OVERLOAD clears. -/
  | overloadClear (c : Fin 256)
  /-- DIAG_STICKY_WRITE (R119). A write of 1s to DiagSticky clears those sticky bits. -/
  | diagStickyWrite (l : Fin 32)
  /-- CHANNEL_MODE_WRITE (R120). An accepted ChannelMode write takes effect at the next sample and restarts the channel. -/
  | channelModeWrite (l : Fin 32)
  /-- GANG_MODE_WRITE (R126). A gang mode written to a lead channel joins its followers, or is refused with 16#0333. -/
  | gangModeWrite (l : Fin 32)
  /-- TEST_SOURCE_WRITE (R116). A write of TestSource names a holding source on the same die. -/
  | testSourceWrite (l : Fin 32)
  /-- OUTPUT_FRAME (R125). An output-lane frame delivers demands and the cells switch under R124. -/
  | outputFrame (k : Fin 4) (crcOk : Bool)
  /-- OUTPUT_LINK_TIMEOUT (R125). No good output frame arrives for 150 µs, so non-DIRECT output cells turn off. -/
  | outputLinkTimeout (k : Fin 4)
  /-- OUTPUT_DEMAND_WRITE (R123). A host write of OutputDemand sets the base demand of a HOST channel. -/
  | outputDemandWrite (l : Fin 32)
  /-- CURRENT_LATCH_OFF (R127). The load current exceeds the threshold for the trip filter, so the cell latches OC_LATCH. -/
  | currentLatchOff (c : Fin 256) (mA heldUs : Nat)
  /-- INRUSH_WINDOW_END (R128). The inrush window ends and the plain trip threshold applies. -/
  | inrushWindowEnd (c : Fin 256)
  /-- CLAMP_EVENT_END (R129). A clamp event ends, its energy is measured and accumulated, and CLAMP_LOCK may latch. -/
  | clampEventEnd (c : Fin 256) (energyUj : Nat)
  /-- CLAMP_DECAY (R129). Every 1 ms ClampEnergyAcc decreases by ClampDecay / 1000. -/
  | clampDecay (c : Fin 256)
  /-- FW_MISSING (R130). The output falls below −4.0 V at an EXTERNAL turn-off and FW_MISSING latches. -/
  | fwMissing (c : Fin 256) (mv : Int) (offMa afterUs : Nat)
  /-- OUTPUT_RESET (R131). A write of 16#A5 to OutputReset clears the latches whose conditions allow it. -/
  | outputReset (l : Fin 32)
  /-- CELL_OVERTEMP (R132). A cell junction passes its limit, so the cell turns off and OVERTEMP is set. -/
  | cellOvertemp (c : Fin 256) (tj : Int)
  /-- THERMAL_RETRY (R132). The cell has cooled 15 K below the limit for 10 ms, so OVERTEMP clears and the cell resumes. -/
  | thermalRetry (c : Fin 256) (tj : Int) (heldUs : Nat)
  /-- OPEN_LOAD_ON (R133). The load current stays below OpenLoadOnCurrent for 100 ms and OPEN_LOAD is set. -/
  | openLoadOn (c : Fin 256) (mA heldUs : Nat)
  /-- OFF_STATE_CHECK (R134). The off-state pull-up reading in a band for 50 ms sets OPEN_LOAD or SHORT_VFLD. -/
  | offStateCheck (c : Fin 256) (mv heldUs : Nat)
  /-- OFF_CHECK_CLEAR (R134). A passed check for 100 ms clears OPEN_LOAD and SHORT_VFLD. -/
  | offCheckClear (c : Fin 256) (onCheck : Bool) (value heldUs : Nat)
  /-- PWM_COMPENSATION (R135). Every 1 ms the effective PWM duty is recomputed from VFLDk. -/
  | pwmCompensation (k : Fin 4) (vfldMv : Nat)
  /-- DIRECT_PIN_CHANGE (R136). A DIRECT ball changes and the OUT_DIRECT cells follow it within 50 µs. -/
  | directPinChange (n : Fin 16) (level : Bool)
  /-- DIE_UNDER_VOLTAGE (R138). VFLDk below 15.5 V for 100 µs turns every cell of the die off and sets DIE_UV. -/
  | dieUnderVoltage (k : Fin 4) (mv : Int) (heldUs : Nat)
  /-- DIE_UV_EXIT (R139). VFLDk at or above 16.5 V for 10 ms ends UNDER_VOLTAGE and the cells resume with inrush windows. -/
  | dieUvExit (k : Fin 4) (mv : Int) (heldUs : Nat)
  /-- FIELD_POR (R138). VFLDk below 8.0 V loses the die's registers and every channel goes OFF. -/
  | fieldPor (k : Fin 4) (mv : Int)
  /-- FIELD_POR_RELOAD (R138). At the first good link frame after FIELD_POR the logic die reloads the die and counts DiePorCount. -/
  | fieldPorReload (k : Fin 4)
  /-- SURGE_ENTRY (R138). VFLDk above 31.5 V for 1 ms sets SURGE and writes a record. -/
  | surgeEntry (k : Fin 4) (mv heldUs : Nat)
  /-- SURGE_EXIT (R138). VFLDk at or below 30.5 V for 10 ms ends SURGE. -/
  | surgeExit (k : Fin 4) (mv heldUs : Nat)
  /-- GND_SHIFT_ENTRY (R138). FGNDk and GND more than 2.0 V apart for 1 ms act as UNDER_VOLTAGE. -/
  | gndShiftEntry (k : Fin 4) (mv heldUs : Nat)
  /-- GND_SHIFT_EXIT (R139). The grounds within 1.0 V for 10 ms end GND_SHIFT. -/
  | gndShiftExit (k : Fin 4) (mv heldUs : Nat)
  /-- REVERSE_SUPPLY (R138). VFLDk below FGNDk unpowers the die and turns its output cells fully on. -/
  | reverseSupply (k : Fin 4)
  /-- POR_SEEN_CLEAR (R138). A write of 1 to DieSupplyStatus bit 3 clears POR_SEEN. -/
  | porSeenClear (l : Fin 32)
  /-- FLUSH_PERIOD_EXPIRY (R157). FlushPeriod since the last commit expires and a flush starts. -/
  | flushPeriodExpiry
  /-- FLUSH_START (R157). The Crystalliser starts a flush by cutting the Brine buffer and writing the records and stores. -/
  | flushStart
  /-- JOURNAL_COMMIT (R145). The commit word of a journalled transaction is written and the transaction becomes the committed state. -/
  | journalCommit
  /-- WINDOW_READ (R159). A READ of Window returns whole records from CursorSeq and advances the cursor. -/
  | windowRead (l : Fin 32)
  /-- CLEAR_LOG (R163). A write to ClearLog removes records of the named log or store as a journalled transaction. -/
  | clearLog (l : Fin 32)
  /-- HISTOGRAM_SAMPLE (R161). Once per second the voltage and temperature histograms count a sample. -/
  | histogramSample (vfld : List Nat) (temp : Int)
  /-- EXTREME_SAMPLE (R162). Every 100 ms the voltage and temperature extremes are updated. -/
  | extremeSample (vfld : List Nat) (vrsv : Nat) (rails : List Nat) (temp : Int)
  /-- RESTORE_DEFAULTS (R177). A write of 16#A5 to RestoreDefaults sets the covered P objects of F0 and of disabled functions to their defaults. -/
  | restoreDefaults (l : Fin 32)
  /-- PORT_FRAME_RX (R185). A frame received on NA or NB is counted, learned and forwarded to the other port or NI. -/
  | portFrameRx (p : Fin 2) (f : EthFrame)
  /-- NI_FRAME_TX (R187). A frame from NI is queued and sent on the learned port or both ports. -/
  | niFrameTx (dst : Nat)
  /-- LEARN_AGEING (R186). A learning-table entry ages out after LearnAgeing. -/
  | learnAgeing (mac : Nat)
  /-- FLUSH_LEARNED (R186). A write of 1 to FlushLearned empties the learning table. -/
  | flushLearned (l : Fin 32)
  /-- BLOCKED_PORT_WRITE (R193). A write of BlockedPort blocks a port between frames and discards its queue. -/
  | blockedPortWrite (l : Fin 32)
  /-- FRAME_AGE_DISCARD (R194). A queued frame older than FrameMaxAge is discarded at its queue's head. -/
  | frameAgeDiscard (p : Fin 2)
  /-- LINK_UP (R184). A port link comes up at 100BASE-TX full duplex. -/
  | linkUp (p : Fin 2) (common eee mdix rbA rbB : Bool)
  /-- LINK_DOWN (R194). A port link goes down and its queued frames are discarded. -/
  | linkDown (p : Fin 2)
  /-- ARP_REQUEST (R195). An ARP request for IpAddress is answered. -/
  | arpRequest (p : Fin 2) (target sender : Nat)
  /-- ICMP_ECHO (R195). An ICMP echo request is answered. -/
  | icmpEcho (p : Fin 2) (target sender bytes : Nat)
  /-- BYPASS_SELFTEST_START (R197). With the PHYs powered and the retry delay elapsed, BYPASSED moves to SELFTEST. -/
  | bypassSelftestStart
  /-- BYPASS_SELFTEST_END (R197). The loopback self-test ends and the bypass energises the coils, returns to BYPASSED or enters FAILED. -/
  | bypassSelftestEnd (pass rbA rbB : Bool)
  /-- BYPASS_NO_PULL (R197). A readback not energised within 20 ms of INSERTING takes the bypass to FAILED. -/
  | bypassNoPull (rbA rbB : Bool)
  /-- INSERT_LINK_TIMEOUT (R197). The links are not up within InsertLinkTime, so the coils go off and the retry delay starts. -/
  | insertLinkTimeout
  /-- BYPASS_DROPPED (R197). A readback shows released for 20 ms while INSERTED and the bypass enters FAILED. -/
  | bypassDropped (rbA rbB : Bool) (heldUs : Nat)
  /-- INSERT_GRANT (R197). A write of 1 to InsertGrant allows insertion in ON_GRANT mode. -/
  | insertGrant (l : Fin 32)
  /-- BYPASS_MODE_WRITE (R199). A write of STAY_BYPASSED takes the coils off and the bypass to BYPASSED. -/
  | bypassModeWrite (l : Fin 32)
  /-- PORT_RESET (R200). A write of 16#A5 to PortReset resets both PHYs, clears the port and re-enters BYPASSED. -/
  | portReset (l : Fin 32)
  /-- LPI_ENTRY (R201). In DOZE a port whose queues stayed empty for 1 ms asserts LPI. -/
  | lpiEntry (p : Fin 2)
  /-- LPI_WAKE (R201). A frame for a port in LPI waits the 30 µs wake and then leaves. -/
  | lpiWake (p : Fin 2)
  /-- ANNOUNCE_RX (R202). An Announce is run through the best master clock algorithm and sets the port states. -/
  | announceRx (p : Fin 2) (a : Announce)
  /-- ANNOUNCE_TIMEOUT (R202). Three Announce intervals without receipt return the port to LISTENING. -/
  | announceTimeout (p : Fin 2)
  /-- SYNC_RX (R202). A Sync or Follow_Up from the master is timestamped for the offset measurement. -/
  | syncRx (p : Fin 2) (udp : Bool) (domain sender seq : Nat) (followUp twoStep : Bool) (origin : Int) (intervalMs : Nat)
  /-- DELAY_REQ_TX (R202). The SLAVE port sends Delay_Req at the master's interval. -/
  | delayReqTx
  /-- DELAY_RESP_RX (R202). A Delay_Resp completes a measurement of offset and mean path delay. -/
  | delayRespRx (p : Fin 2) (udp : Bool) (domain sender seq : Nat) (received : Int) (intervalMs : Nat)
  /-- TC_EVENT_FORWARD (R203). A PTP event message forwarded between NA and NB stores a pending residence time. -/
  | tcEventForward (p : Fin 2) (f : EthFrame) (residence : Nat)
  /-- TC_CORRECTION (R203). A matching Follow_Up or Delay_Resp leaves with its correctionField updated. -/
  | tcCorrection (p : Fin 2) (f : EthFrame)
  /-- TC_ENTRY_EXPIRY (R203). A pending residence time expires after 1 s. -/
  | tcEntryExpiry
  /-- FUNCTION_ENABLE (R255). FunctionControl ENABLE checks the function and starts its instances. -/
  | functionEnable (l : Fin 32)
  /-- FUNCTION_DISABLE (R258). FunctionControl DISABLE takes the function into DRAINING with target DISABLED. -/
  | functionDisable (l : Fin 32)
  /-- FUNCTION_RESET (R262). FunctionControl RESET drains the function, applies its defaults and re-enables it. -/
  | functionReset (l : Fin 32)
  /-- DRAIN_END (R261). InFlight reaches 0 and the function enters its target state, completing every joined write. -/
  | drainEnd (n : Fin 8)
  /-- FUNCTION_MASK_WRITE (R251). A write of a mask or SeqSet moves resources into or out of a disabled function. -/
  | functionMaskWrite (l : Fin 32)
  /-- BOUND_SLOT_WRITE (R252). A write of BoundSlot binds a function to a master slot. -/
  | boundSlotWrite (l : Fin 32)
  /-- WEIR_NOTICE_INTERVAL_END (R278). WeirNoticeInterval ends after a suppressed crossing and one further WEIR notice is raised. -/
  | weirNoticeIntervalEnd (q : Fin 15) (high : Bool)
  /-- WEIR_STATUS_WRITE (R277). A write of 1s to WeirStatus clears the sticky bits. -/
  | weirStatusWrite (l : Fin 32)
  /-- ECC_UNCORRECTABLE (R281). A double-bit queue error writes a MEMORY_FAULT record and has its queue-specific effect. -/
  | eccUncorrectable (q : Fin 15) (double : Bool) (unit word : Nat)
  /-- MAIN_FAIL (R288). VmainVoltage stays below MainFailVoltage for MainFailTime and PathState becomes ON_RESERVE or HOLDUP. -/
  | mainFail (mv heldUs : Nat)
  /-- MAIN_OK (R288). VmainVoltage stays at or above MainOkVoltage for 2 ms and MAIN_OK is declared. -/
  | mainOk (mv heldUs : Nat)
  /-- CHARGER_RESUME (R304). 1 s after MAIN_OK the charger resumes. -/
  | chargerResume
  /-- MAIN_OV (R289). VmainVoltage above MainOvVoltage for 100 µs turns PP_MAIN_G off. -/
  | mainOv (mv heldUs : Nat)
  /-- MAIN_OV_CLEAR (R289). VmainVoltage 1000 mV below MainOvVoltage for 10 ms turns PP_MAIN_G on again. -/
  | mainOvClear (mv heldUs : Nat)
  /-- RESERVE_CYCLE (R293). Every 100 ms the reserve monitor samples cells and pack, balances, runs one wire test and recomputes the energies. -/
  | reserveCycle (cells : List Nat) (pack : Nat) (test : List Nat)
  /-- CHEMISTRY_WRITE (R292). A write of Chemistry or CellCount loads defaults and clears the reserve faults. -/
  | chemistryWrite (l : Fin 32)
  /-- RAIL_BROWN_OUT (R286). VCORE, VAUX or VIO falls below its brown-out level and the logic die resets. -/
  | railBrownOut (rail : Fin 3) (mv : Int) (heldUs : Nat)
  /-- VPHY_BROWN_OUT (R286). VPHY brown-out holds the PHYs in reset and takes the bypass coils off. -/
  | vphyBrownOut (mv : Int) (heldUs : Nat)
  /-- VAON_POR (R338). VAON below its brown-out level resets the whole device, the VAON domain included. -/
  | vaonPor (mv : Int) (heldUs : Nat)
  /-- RAIL_POWER_GOOD (R285). A rail reaches power-good and the next PEN rises 1 ms later. -/
  | railPowerGood (rail : Fin 4) (mv : Int)
  /-- RAIL_START_TIMEOUT (R285). A rail not power-good within 10 ms of its PEN unwinds the start as a failed start. -/
  | railStartTimeout
  /-- FAILED_START_RETRY (R285). 1 s after a failed start the device makes a new attempt. -/
  | failedStartRetry
  /-- TRIM_ENTRY (R307). With no lane, flush or motion busy the device gates CCLK outside tick evaluation. -/
  | trimEntry
  /-- TRIM_EXIT (R307). A TRIM condition ends and the device leaves TRIM within 2 µs. -/
  | trimExit
  /-- PLANNER_EVALUATION (R313). Every 10 ms or at an event change the planner chooses the deepest allowed state. -/
  | plannerEvaluation
  /-- SLEEP_EXIT (R310). A wake from SLEEP restarts clocks, runs lattice INIT and resumes ticks. -/
  | sleepExit
  /-- WAKE_PIN (R311). A selected wake pin is active for 1 ms and wakes the device. -/
  | wakePin (n : Fin 16) (level : Bool) (heldUs : Nat)
  /-- PLANNED_WAKE (R313). The RTC reaches the planned wake time and wakes the device. -/
  | plannedWake
  /-- HOST_LINK_WAKE (R311). HSPI_CS_N falling wakes the device from SLEEP. -/
  | hostLinkWake
  /-- DEEP_GRANT_WRITE (R314). A write of DeepGrant sets the slot's limit on the planner. -/
  | deepGrantWrite (l : Fin 32)
  /-- NEXT_SERVICE_WRITE (R314). A write of NextService gives the planner a next-service hint. -/
  | nextServiceWrite (l : Fin 32)
  /-- WAKE_AT_REACHED (R333). The calendar reaches WakeAt, which clears, and a STATE notice is raised. -/
  | wakeAtReached
  /-- PHASE_P0 (R316). A start latches its wake source and sets the PP gates. -/
  | phaseP0
  /-- PHASE_P1 (R316). The start raises PEN0–PEN3 in sequence. -/
  | phaseP1
  /-- PHASE_P2 (R316). The start locks the PLL, releases the logic die and initialises the SRAM. -/
  | phaseP2
  /-- PHASE_P3 (R316). The start opens the Saltpan, restores P objects and admits the START record. -/
  | phaseP3
  /-- PHASE_P4 (R349). The start configures the dies, filters inputs, self-tests, enables functions and starts lattice INIT. -/
  | phaseP4 (fails : Nat) (axes : List (Fin 24)) (chans : List (Fin 256)) (clocks us : Nat)
  /-- PHASE_P5 (R316). The start sets NodeState READY, starts the planner and enters RUN. -/
  | phaseP5
  /-- PHASE_D0 (R318). An off request starts the power-down notice, with NodeState POWERING_DOWN. -/
  | phaseD0
  /-- PHASE_D1 (R318). Every enabled function is disabled and the locks settle. -/
  | phaseD1
  /-- PHASE_D2 (R318). New elements are refused and the final flush runs. -/
  | phaseD2
  /-- PHASE_D3 (R318). Sessions end, coils and outputs go off, the PHYs power down and the escrow hold runs. -/
  | phaseD3
  /-- PHASE_D4 (R318). PENs fall and the device enters its target state. -/
  | phaseD4
  /-- RESTART_HOLDOFF_EXPIRY (R319). RestartHoldOff after the last PEN fell elapses and a pending restart begins at P0. -/
  | restartHoldoffExpiry
  /-- PLL_UNLOCK (R322). Loss of PLL lock for 1 µs resets the logic die. -/
  | pllUnlock (heldUs : Nat)
  /-- XTAL_FREQ (R322). Two crystal-frequency windows out of limits reset the logic die. -/
  | xtalFreq (count : Nat)
  /-- CLOCK_DIV_FAULT (R322). A CCLK, FCLK or SCLK count out by more than 1 in 1 ms resets the logic die. -/
  | clockDivFault (which : Fin 3) (count : Nat)
  /-- NCLK_DIV (R322). An NCLK count fault holds the PHYs in reset and bypasses the node. -/
  | nclkDiv (count : Nat)
  /-- NCLK_RECOVER (R322). 1 s of good NCLK counts releases the PHYs. -/
  | nclkRecover (heldUs : Nat)
  /-- RTC_STOP (R322). No RTC edge for 1 ms suspends the crystal check and limits the planner to DOZE. -/
  | rtcStop (heldUs : Nat)
  /-- CAL_SET (R331). A write of CalSet sets the calendar and CalState becomes HOST_SET. -/
  | calSet (l : Fin 32)
  /-- RTC_AUTO_TRIM (R327). Every 1024 s while PTP_LOCKED the RTC error is written to RtcTrim. -/
  | rtcAutoTrim (err : Int)
  /-- CAL_OFFSET_SAVE (R332). Once per second CalOffset is written into the VAON domain. -/
  | calOffsetSave
  /-- HOLDOVER_EXPIRY (R328). LastDisciplineAge exceeds HoldoverLimit and the calendar becomes INVALID. -/
  | holdoverExpiry
  /-- OPERATING_SECOND (R335). TB passes a whole second and OperatingSeconds increments. -/
  | operatingSecond
  /-- XRESET_ASSERT (R344). XRESET_N low for 2 µs asserts a logic-die reset. -/
  | xresetAssert (heldUs : Nat)
  /-- XRESET_RELEASE (R344). XRESET_N rises and the start runs from P0. -/
  | xresetRelease
  /-- WATCHDOG_EXPIRY (R346). No tick completed or a lane occupied for WatchdogTimeout resets the logic die. -/
  | watchdogExpiry
  /-- DEVICE_RESET (R347). A write of 16#A5 to DeviceReset refuses new work, runs the final flush and completes at its commit. -/
  | deviceReset (l : Fin 32)
  /-- DEVICE_RESET_ASSERT (R347). 2 ms after the commit the logic-die reset with cause DEVICE is asserted. -/
  | deviceResetAssert
  /-- OUTPUT_LEVEL_WRITE (R356). A write of OutputLevel sets the GP pin levels of the writer's pins. -/
  | outputLevelWrite (l : Fin 32)
  /-- SET_BITS (R356). A write to SetBits sets the OutputLevel bits written as 1. -/
  | setBits (l : Fin 32)
  /-- CLEAR_BITS (R356). A write to ClearBits clears the OutputLevel bits written as 1. -/
  | clearBits (l : Fin 32)
  /-- PATTERN_UNIT_WRITE (R360). A write to a pattern unit clears MATCH and restarts the hold. -/
  | patternUnitWrite (l : Fin 32)
  /-- PATTERN_MATCH (R360). The pattern condition holds for HoldTime and a match is declared with a PIN notice. -/
  | patternMatch (u : Fin 4)
  /-- PATTERN_MATCH_END (R360). The pattern condition fails and MATCH clears. -/
  | patternMatchEnd (u : Fin 4)
  /-- LINE_EDGE (R361). A selected edge on a pin notice line counts and raises a PIN notice or is suppressed. -/
  | lineEdge (n : Fin 8)
  /-- MIN_INTERVAL_END (R361). MinInterval ends after a suppressed edge and one notice is raised if the level changed. -/
  | minIntervalEnd (n : Fin 8)
  /-- PPS_PULSE (R358). The running calendar reaches a UTC second and the PPS pin goes high for PpsWidth. -/
  | ppsPulse
  /-- SRAM_SCRUB_ROUND (R383). The SRAM scrubber completes a round and rechecks the mask-ROM CRC. -/
  | sramScrubRound (romOk : Bool)
  /-- MRAM_SCRUB (R384). The MRAM scrubber reads committed areas and corrects or flags their words. -/
  | mramScrub (err : Option (Nat × Nat × Bool)) (last : Bool)
  /-- DIE_TEMP_SAMPLE (R386). Once per second the logic-die temperature is measured and TEMP_HIGH is updated. -/
  | dieTempSample (t : Int)
  /-- OVER_TEMP_SHUTDOWN (R386). A junction above its limit for 10 s raises an off request with target OFF. -/
  | overTempShutdown
  /-- FIELD_INPUT_CHANGE (R108). The voltage at an input channel crosses a threshold or band edge, updating the raw samples and starting a pending filtered change. -/
  | fieldInputChange (c : Fin 256) (mv lattMv : Int)
  /-- GP_PIN_CHANGE (R356). A GP pin's pad level changes and its SyncValue follows two FCLK periods later. -/
  | gpPinChange (n : Fin 96) (level : Bool)
  /-- FLASH_TOGGLE (R124). A flashing output's half-period elapses and its base demand alternates between off and on. -/
  | flashToggle (c : Fin 256)
  /-- RTC_EDGES_RETURN (R322). RTC edges return after RTC_STOP, RTC_OK sets, the crystal check resumes and the DOZE limit on the planner lifts. -/
  | rtcEdgesReturn
  /-- PPS_PULSE_END (R358). PpsWidth after a PPS pulse started, the PPS pin goes low. -/
  | ppsPulseEnd
  /-- NOTICE_FRAME_SEND (R275). NI egress forms a NOTICE frame from the notice pool in virtual-time order and frees the entries of non-ACKED notices. -/
  | noticeFrameSend
  /-- EGRESS_FRAME_END (R189). A frame finishes leaving its egress port and its frame-buffer cells are freed. -/
  | egressFrameEnd (p : Fin 2)
  /-- PARTNER_LPI (R201). The link partner enters or leaves LPI and the port honours it, updating RX_LPI. -/
  | partnerLpi (p : Fin 2) (on : Bool)
  /-- ILLEGAL_BIT_EXPIRY (R91). 1 s after the last illegal quadrature transition, the ILLEGAL bit of FeedbackStatus clears. -/
  | illegalBitExpiry (a : Fin 24)
  deriving DecidableEq, Repr

end Sys2Proof
end

