-- ==== Sys2Proof/Machine/Crypto.lean ====
section
/-!
DEFINITION. Machine/Crypto.lean: the checks and keyed functions that frames, images and sessions use:
CRC-8 and CRC-32C (R25, R40, R226, R243, R245), SHA-256 and HMAC-SHA-256 (R208).
Readings and choices in the log: DEDUCED 141.
-/
namespace Sys2Proof.Machine
open Sys2Proof

/-- One bit of a reflected CRC with polynomial `poly`. -/
def crcBit (poly c : Nat) : Nat := if c % 2 = 1 then (c / 2) ^^^ poly else c / 2

/-- One byte into a reflected CRC. -/
def crcByte (poly c : Nat) (b : Byte) : Nat :=
  crcBit poly (crcBit poly (crcBit poly (crcBit poly
    (crcBit poly (crcBit poly (crcBit poly (crcBit poly (c ^^^ b.toNat))))))))

/-- CRC-32C (Castagnoli): reflected polynomial 16#82F6_3B78, start and final XOR all ones. -/
def crc32c (bs : List Byte) : Nat :=
  (bs.foldl (crcByte 0x82F63B78) 0xFFFFFFFF) ^^^ 0xFFFFFFFF

/-- One bit of a CRC-8 with the most significant bit first. -/
def crc8Bit (poly c : Nat) : Nat := if 128 ≤ c then ((c * 2) % 256) ^^^ poly else c * 2

/-- CRC-8 with polynomial `poly` and start value `init`. -/
def crc8 (poly init : Nat) (bs : List Byte) : Nat :=
  bs.foldl (fun c b =>
    crc8Bit poly (crc8Bit poly (crc8Bit poly (crc8Bit poly
      (crc8Bit poly (crc8Bit poly (crc8Bit poly (crc8Bit poly (c ^^^ b.toNat))))))))) init

/-! SHA-256. Words are numbers below 2^32. -/

/-- A word from its number. -/
def w32 (n : Nat) : Nat := n % 4294967296
/-- Rotation to the right. -/
def rotr (n x : Nat) : Nat := (x >>> n) ||| w32 (x <<< (32 - n))
/-- Complement of a word. -/
def not32 (x : Nat) : Nat := 4294967295 - x

/-- The 64 round constants. -/
def shaK : List Nat := [
  0x428a2f98, 0x71374491, 0xb5c0fbcf, 0xe9b5dba5, 0x3956c25b, 0x59f111f1, 0x923f82a4, 0xab1c5ed5,
  0xd807aa98, 0x12835b01, 0x243185be, 0x550c7dc3, 0x72be5d74, 0x80deb1fe, 0x9bdc06a7, 0xc19bf174,
  0xe49b69c1, 0xefbe4786, 0x0fc19dc6, 0x240ca1cc, 0x2de92c6f, 0x4a7484aa, 0x5cb0a9dc, 0x76f988da,
  0x983e5152, 0xa831c66d, 0xb00327c8, 0xbf597fc7, 0xc6e00bf3, 0xd5a79147, 0x06ca6351, 0x14292967,
  0x27b70a85, 0x2e1b2138, 0x4d2c6dfc, 0x53380d13, 0x650a7354, 0x766a0abb, 0x81c2c92e, 0x92722c85,
  0xa2bfe8a1, 0xa81a664b, 0xc24b8b70, 0xc76c51a3, 0xd192e819, 0xd6990624, 0xf40e3585, 0x106aa070,
  0x19a4c116, 0x1e376c08, 0x2748774c, 0x34b0bcb5, 0x391c0cb3, 0x4ed8aa4a, 0x5b9cca4f, 0x682e6ff3,
  0x748f82ee, 0x78a5636f, 0x84c87814, 0x8cc70208, 0x90befffa, 0xa4506ceb, 0xbef9a3f7, 0xc67178f2]

/-- The eight words of the hash state. -/
structure Sha where
  a : Nat
  b : Nat
  c : Nat
  d : Nat
  e : Nat
  f : Nat
  g : Nat
  h : Nat
  deriving DecidableEq, Repr

/-- The initial hash state. -/
def Sha.init : Sha :=
  ⟨0x6a09e667, 0xbb67ae85, 0x3c6ef372, 0xa54ff53a, 0x510e527f, 0x9b05688c, 0x1f83d9ab, 0x5be0cd19⟩

/-- One round with constant `k` and schedule word `w`. -/
def Sha.round (s : Sha) (k w : Nat) : Sha :=
  let s1 := rotr 6 s.e ^^^ rotr 11 s.e ^^^ rotr 25 s.e
  let ch := (s.e &&& s.f) ^^^ (not32 s.e &&& s.g)
  let t1 := s.h + s1 + ch + k + w
  let s0 := rotr 2 s.a ^^^ rotr 13 s.a ^^^ rotr 22 s.a
  let maj := (s.a &&& s.b) ^^^ (s.a &&& s.c) ^^^ (s.b &&& s.c)
  ⟨w32 (t1 + s0 + maj), s.a, s.b, s.c, w32 (s.d + t1), s.e, s.f, s.g⟩

/-- The next schedule word from the 16 words before it, the oldest first. -/
def shaNext (ws : List Nat) : Nat :=
  let w (i : Nat) := ws.getD i 0
  let x := w 1
  let y := w 14
  let s0 := rotr 7 x ^^^ rotr 18 x ^^^ (x >>> 3)
  let s1 := rotr 17 y ^^^ rotr 19 y ^^^ (y >>> 10)
  w32 (w 0 + s0 + w 9 + s1)

/-- The rounds over the constants that remain; `ws` holds the present word and the 15 after it. -/
def shaRounds : List Nat → List Nat → Sha → Sha
  | [], _, s => s
  | k :: ks, ws, s => shaRounds ks (ws.tail ++ [shaNext ws]) (s.round k (ws.headD 0))

/-- Big-endian number of bytes. -/
def beNat (bs : List Byte) : Nat := bs.foldl (fun n b => 256 * n + b.toNat) 0
/-- `n` big-endian bytes of a number. -/
def toBe (n v : Nat) : List Byte := (toLe n v).reverse

/-- The words of a 64-byte block. -/
def blockWords (bs : List Byte) : List Nat := (List.range 16).map fun i => beNat ((bs.drop (4 * i)).take 4)

/-- One block into the hash state. -/
def Sha.block (s : Sha) (bs : List Byte) : Sha :=
  let t := shaRounds shaK (blockWords bs) s
  ⟨w32 (s.a + t.a), w32 (s.b + t.b), w32 (s.c + t.c), w32 (s.d + t.d),
   w32 (s.e + t.e), w32 (s.f + t.f), w32 (s.g + t.g), w32 (s.h + t.h)⟩

/-- `n` blocks into the hash state. -/
def shaBlocks : Nat → List Byte → Sha → Sha
  | 0, _, s => s
  | n + 1, bs, s => shaBlocks n (bs.drop 64) (s.block (bs.take 64))

/-- SHA-256 of a byte string. -/
def sha256 (bs : List Byte) : List Byte :=
  let l := bs.length
  let pad := (119 - l % 64) % 64
  let m := bs ++ [0x80] ++ List.replicate pad 0 ++ toBe 8 (8 * l)
  let s := shaBlocks (m.length / 64) m Sha.init
  [s.a, s.b, s.c, s.d, s.e, s.f, s.g, s.h].flatMap (toBe 4)

/-- HMAC-SHA-256. -/
def hmac (key msg : List Byte) : List Byte :=
  let k := padTo 64 (if 64 < key.length then sha256 key else key)
  sha256 (k.map (· ^^^ 0x5C) ++ sha256 (k.map (· ^^^ 0x36) ++ msg))

end Sys2Proof.Machine
end

