-- ==== Sys2Proof/Config.lean ====
section
/-!
DEFINITION. Config.lean: what is fixed for one module: the twelve fused variants and what each has
(R1, R2, R3, R5, R13, 00_scope.md), and the values that the spec leaves open (free values, without a body).
Readings and choices in the log: DESIGN CHOICE 3, 60, 122.
-/
namespace Sys2Proof.Config

/-- Capacity codes (table "Capacity codes", R1). -/
inductive Capacity where
  | c2624 | c1916 | c1212 | c0606
  deriving DecidableEq, Repr

/-- Feature letters (table "Feature letters", R1). -/
inductive Letter where
  | t | p | e
  deriving DecidableEq, Repr

/-- A variant: which field dies are bonded and which resources are fused off (R1). -/
structure Variant where
  cap : Capacity
  letter : Letter
  deriving DecidableEq, Repr

/-- The twelve variants. -/
def variants : List Variant :=
  [⟨.c2624, .t⟩, ⟨.c2624, .p⟩, ⟨.c2624, .e⟩, ⟨.c1916, .t⟩, ⟨.c1916, .p⟩, ⟨.c1916, .e⟩,
   ⟨.c1212, .t⟩, ⟨.c1212, .p⟩, ⟨.c1212, .e⟩, ⟨.c0606, .t⟩, ⟨.c0606, .p⟩, ⟨.c0606, .e⟩]

/-- ProductCode of the table "Identity and capability values" (R13). -/
def Variant.productCode (v : Variant) : Nat :=
  match v.cap with
  | .c2624 => 0x4A442624
  | .c1916 => 0x4A441916
  | .c1212 => 0x4A441212
  | .c0606 => 0x4A440606

/-- FeatureCode: the feature letter in ASCII (R13). -/
def Variant.featureCode (v : Variant) : Nat :=
  match v.letter with
  | .t => 0x54
  | .p => 0x50
  | .e => 0x45

/-- 16#1001.01 AxisMask (R13). -/
def Variant.axisMask (v : Variant) : Nat :=
  match v.cap with
  | .c2624 => 0x00FFFFFF
  | .c1916 => 0x000F0FFF
  | .c1212 => 0x000F00FF
  | .c0606 => 0x0003000F

/-- 16#1001.02 FieldDieMask (R13). -/
def Variant.dieMask (v : Variant) : Nat :=
  match v.cap with
  | .c2624 => 0x0F
  | .c1916 => 0x07
  | .c1212 => 0x03
  | .c0606 => 0x01

/-- 16#1001.03 FeatureMask (R13). -/
def Variant.featureMask (v : Variant) : Nat :=
  match v.letter with
  | .t => 0x3FF
  | .p => 0x5EF
  | .e => 0x325

/-- 16#1001.04 FunctionMask (R13). -/
def Variant.functionMask (v : Variant) : Nat :=
  match v.letter with
  | .e => 0x03
  | _ => 0xFF

/-- The number of field channels present; the last present channel is one less (R1). -/
def Variant.channels (v : Variant) : Nat :=
  match v.cap with
  | .c2624 => 256
  | .c1916 => 192
  | .c1212 => 128
  | .c0606 => 64

/-- Axis `a` is present (R1). -/
def Variant.hasAxis (v : Variant) (a : Nat) : Bool := v.axisMask.testBit a
/-- Field channel `c` is present (R1). -/
def Variant.hasChan (v : Variant) (c : Nat) : Bool := decide (c < v.channels)
/-- Field die `k` is bonded (R1). -/
def Variant.hasDie (v : Variant) (k : Nat) : Bool := v.dieMask.testBit k
/-- Function `n` is present (R1). -/
def Variant.hasFn (v : Variant) (n : Nat) : Bool := v.functionMask.testBit n
/-- The E letter: one port, fixed thresholds, two functions (R4). -/
def Variant.isE (v : Variant) : Bool := decide (v.letter = .e)
/-- The P letter: platform loop polarity, no steps (R2, R3). -/
def Variant.isP (v : Variant) : Bool := decide (v.letter = .p)
/-- The T letter: the reserve monitor and the escrow are present (R1). -/
def Variant.isT (v : Variant) : Bool := decide (v.letter = .t)
/-- Port NB is present (R1, R4). -/
def Variant.hasNb (v : Variant) : Bool := v.featureMask.testBit 1

/-- The axis runs as a step (R1, R2): AX16 to AX23 of T and E variants. -/
def Variant.isStep (v : Variant) (a : Nat) : Bool := decide (16 ≤ a) && !v.isP

/-- Doorways present (table "Factory doorway layout", R5). -/
def Variant.doorways (v : Variant) : List Nat :=
  let base := match v.cap with
    | .c2624 => List.range 8
    | .c1916 => List.range 6
    | .c1212 => List.range 4
    | .c0606 => List.range 2
  if v.isP then
    base ++ (match v.cap with
      | .c2624 => [8, 9, 10, 11]
      | .c1916 => [8, 9]
      | .c1212 => [8, 9]
      | .c0606 => [8])
  else base

/-- Leaf `l` is present: it runs on axis `l` (R1, R2). -/
def Variant.hasLeaf (v : Variant) (l : Nat) : Bool := v.hasAxis l && !v.isStep l
/-- Doorway `d` is present (R5). -/
def Variant.hasDoorway (v : Variant) (d : Nat) : Bool := v.doorways.contains d

/-- Doorways that the factory image enables: FC16d to FC16d+15 all present (R42). -/
def Variant.factoryEnabled (v : Variant) (d : Nat) : Bool :=
  v.hasDoorway d && v.hasChan (16 * d + 15)

/-- Side of doorway `d` in the factory layout, true for right (R5). -/
def Variant.factoryRight (v : Variant) (d : Nat) : Bool :=
  if v.isP then false
  else match v.cap with
    | .c2624 => decide (4 ≤ d)
    | .c1916 => decide (3 ≤ d)
    | .c1212 => decide (2 ≤ d)
    | .c0606 => decide (1 ≤ d)

/-- Doorway that step `k` serves (table "Factory doorway layout", R5). -/
def Variant.stepDoorway (v : Variant) (k : Nat) : Nat :=
  match v.cap with
  | .c1916 => match k with
    | 0 => 0
    | 1 => 2
    | 2 => 3
    | _ => 5
  | _ => k

/-- AuxBase of doorway `d` (table "Factory auxiliary channels", R63). -/
def Variant.auxBase (v : Variant) (d : Nat) : Nat :=
  match v.cap with
  | .c2624 => if v.isP then 192 + 4 * d else 128 + 4 * d
  | .c1916 => if v.isP && decide (8 ≤ d) then 160 + 4 * (d - 8) else 96 + 4 * d
  | .c1212 => 64 + 4 * d
  | .c0606 => 32 + 4 * d

/-- InputBase of step `k` (table "Factory auxiliary channels", R63). -/
def Variant.stepInputBase (v : Variant) (k : Nat) : Nat :=
  match v.cap with
  | .c2624 => 160 + 2 * k
  | .c1916 => 120 + 2 * k
  | .c1212 => 80 + 2 * k
  | .c0606 => 40 + 2 * k

/-! Free values: what the spec says exists and gives no value for. They have no body, so nothing in
Lean can know a value of one. -/

/-- 16#1000.04 SerialNumber, unique per module (R414). Free value. -/
opaque serialNumber : Nat
/-- The unique part of 16#1200.01 MacAddress (R414). Free value. -/
opaque macSeed : Nat
/-- 16#1000.05 DieRevision, per mask set (09_object_dictionary.md). Free value. -/
opaque dieRevision : Nat
/-- The device nonce Nd of a challenge (R208), drawn from the random source. Free value, applied to
the counter of draws. -/
opaque nonce : Nat → Nat
/-- The SessionId of a challenge (R210 gives it 16 bits and no rule). Free value, applied to the
counter of draws. -/
opaque sessionId : Nat → Nat

/-- Where the search for the SubscriptionId of a new subscription begins (R247 gives it 8 bits and no rule). Free value,
applied to the counter of draws. -/
opaque subscriptionId : Nat → Nat

/-- Whether the journal entry of an interrupted transaction was already written (R145 gives its place in the order, no
time). Free value, applied to the counter of draws. -/
opaque entryWritten : Nat → Bool

/-- The cell current limit of this module's field dies, of which the spec gives a range (R127, R398). -/
opaque cellLimit : Nat

/-- Cell current limit in mA, within 1.20 A to 2.20 A (table "Field outputs", R398). -/
def cellLimitMa : Nat := 1200 + cellLimit % 1001
/-- SerialNumber as OCT[8]. -/
def serial : Nat := serialNumber % 2 ^ 64
/-- MacAddress as OCT[6] with bits 0 and 1 of its byte 0 at 0 (R414). -/
def mac : Nat := (macSeed % 2 ^ 46) * 4
/-- Nd as 16 bytes. -/
def nd (k : Nat) : Nat := nonce k % 2 ^ 128
/-- SessionId as U16. -/
def sid (k : Nat) : Nat := sessionId k % 2 ^ 16

end Sys2Proof.Config
end

