-- ==== Sys2Proof/Machine/TypesDoor.lean ====
section
/-!
DEFINITION. Machine/TypesDoor.lean: the internal state of the interlock lattice (02_interlock_lattice.md)
and of the sequencers (03_sequencers.md) as plain data: images, tables, filters, coils and instances.
-/
namespace Sys2Proof.Machine
open Sys2Proof

/-- A leaf entry of a lattice image (table "Leaf entry", R41). -/
structure LatLeaf where
  enabled : Bool
  iso : Bool
  closedNo : Nat
  closedNc : Nat
  lockedNo : Nat
  lockedNc : Nat
  isoNo : Nat
  isoNc : Nat
  unlock : Nat
  deriving DecidableEq, Repr

/-- A doorway entry of a lattice image (table "Doorway entry", R41). -/
structure LatDoor where
  enabled : Bool
  right : Bool
  opensLoop : Bool
  handle : Bool
  no : Nat
  nc : Nat
  deriving DecidableEq, Repr

/-- A lattice configuration image (table "Lattice image layout", R41). The train fields are ZERO_SPEED A, B;
RELEASE_LEFT A, B; RELEASE_RIGHT A, B. -/
structure LatImage where
  platform : Bool
  leafFilter : Nat
  trainFilter : Nat
  handleFilter : Nat
  discrepancy : Nat
  readback : Nat
  pulseWidth : Nat
  pulsePeriod : Nat
  train : List Nat
  leaves : List LatLeaf
  doors : List LatDoor
  deriving DecidableEq, Repr

/-- The lattice path of one field channel (R25, R26). -/
structure Contact where
  /-- the state that the latest good frames show, and since when -/
  seen : Bool
  since : Nat
  filtered : Bool
  /-- its lattice filter has completed once since INIT began (R38) -/
  primed : Bool
  deriving DecidableEq, Repr

/-- The discrepancy watch of one pair (R30). -/
structure PairWatch where
  badSince : Option Nat
  goodSince : Option Nat
  fault : Bool
  deriving DecidableEq, Repr

/-- One loop readback (R33): what the samples show, and the filtered state, none while not received. -/
structure Readback where
  seen : Bool
  since : Nat
  filtered : Option Bool
  deriving DecidableEq, Repr

/-- One coil driver (R31 to R35). -/
structure Coil where
  on : Bool
  /-- the terms demand it -/
  want : Bool
  onAt : Nat
  offAt : Nat
  pulse : Bool
  pulseAt : Nat
  pulseDue : Nat
  deriving DecidableEq, Repr

/-- The lattice's hidden state. -/
structure Lattice where
  contacts : List Contact
  pairs : List PairWatch
  rb : List Readback
  coils : List Coil
  /-- unlock gates as published, one per leaf (R29) -/
  gates : List Bool
  /-- runs of outside-limit and of good windows of the monitor (R37): its own, then the SCLK side's -/
  badWindows : Nat
  goodWindows : Nat
  badCounts : Nat
  goodCounts : Nat
  /-- the filters run: INIT has begun (R38) -/
  started : Bool
  /-- when steps 2 to 5 of INIT began -/
  initAt : Option Nat
  /-- when the coils last went off, or the reset was released (R22, R350) -/
  loopOpenAt : Nat
  /-- LOOP_CLOSED as last confirmed (R33) -/
  closed : Bool
  deriving DecidableEq, Repr

/-- A transition of a state record: five literals, the target and the flags byte (R59, R60). -/
structure Trans where
  lits : List Nat
  target : Nat
  flags : Nat
  deriving DecidableEq, Repr

/-- An action of a state record (R61). -/
structure Act where
  op : Nat
  b1 : Nat
  b2 : Nat
  b3 : Nat
  deriving DecidableEq, Repr

/-- A state record (table "State record", R59). -/
structure StateRec where
  flags : Nat
  report : Nat
  actionCount : Nat
  transCount : Nat
  name : List Byte
  acts : List Act
  trans : List Trans
  deriving DecidableEq, Repr

/-- A sequence table: the header's fields and its state records (R59). -/
structure SeqTab where
  kind : Nat
  initial : Nat
  faultState : Nat
  owner : Nat
  start : Nat
  states : List StateRec
  deriving DecidableEq, Repr

/-- A timer T0 to T3 (R49): off, running until a time, or expired. -/
inductive SeqTimer where
  | off
  | running (until_ : Nat)
  | expired
  deriving DecidableEq, Repr

/-- A command at an instance (R56, R58). -/
structure SeqCmd where
  code : Nat
  flight : Nat
  at_ : Nat
  deriving DecidableEq, Repr

/-- A sequencer instance: side instances 0 to 7 (2k + s), axis instances 8 + a (R44 to R58). Its state
number, RetryCount and ReportBits stand in the object store. -/
structure SeqInst where
  running : Bool
  /-- FAULT rose: FaultState at the next tick (R47) -/
  forced : Bool
  timers : List SeqTimer
  /-- delivered, not yet pending -/
  inbox : List SeqCmd
  waiting : List SeqCmd
  accepted : List SeqCmd
  dbus0 : Option Nat
  dbus1 : Option Nat
  unlock : Bool
  deriving DecidableEq, Repr

/-- The sequencers' hidden state. -/
structure Sequencers where
  insts : List SeqInst
  lastTick : Option Nat
  deriving DecidableEq, Repr

def Contact.reset : Contact := ⟨false, 0, false, false⟩
def PairWatch.reset : PairWatch := ⟨none, none, false⟩
def Readback.reset : Readback := ⟨false, 0, none⟩
def Coil.reset : Coil := ⟨false, false, 0, 0, false, 0, 0⟩
def SeqInst.reset : SeqInst :=
  ⟨false, false, [.off, .off, .off, .off], [], [], [], none, none, false⟩

/-- The lattice on leaving a logic-die reset: INIT, nothing driven, nothing filtered (R38). -/
def Lattice.reset : Lattice :=
  { contacts := List.replicate 256 Contact.reset
    pairs := List.replicate 87 PairWatch.reset
    rb := [Readback.reset, Readback.reset]
    coils := [Coil.reset, Coil.reset]
    gates := List.replicate 24 false
    badWindows := 0
    goodWindows := 0
    badCounts := 0
    goodCounts := 0
    started := false
    initAt := none
    loopOpenAt := 0
    closed := false }

/-- No instance runs (R48, R57). -/
def Sequencers.reset : Sequencers :=
  { insts := List.replicate 32 SeqInst.reset, lastTick := none }

end Sys2Proof.Machine
end

