-- ==== Sys2Proof/Machine/Image.lean ====
section
/-!
DEFINITION. Machine/Image.lean: the lattice configuration image (R41, R42, 02_interlock_lattice.md): its bytes,
its reading, its counted fields and the factory image of each variant.
Readings and choices in the log: DEDUCED 105.
-/
namespace Sys2Proof.Machine
open Sys2Proof Sys2Proof.Config

/-- The channel field that names no channel. -/
abbrev noChan : Nat := 0xFFFF

/-- The 16 bytes of a leaf entry (table "Leaf entry"). -/
def LatLeaf.bytes (l : LatLeaf) : List Byte :=
  [byte (bitVal l.enabled + 2 * bitVal l.iso), 0]
    ++ ([l.closedNo, l.closedNc, l.lockedNo, l.lockedNc, l.isoNo, l.isoNc, l.unlock].flatMap (toLe 2))

/-- The 8 bytes of a doorway entry (table "Doorway entry"). -/
def LatDoor.bytes (d : LatDoor) : List Byte :=
  [byte (bitVal d.enabled + 2 * bitVal d.right + 4 * bitVal d.opensLoop + 8 * bitVal d.handle), 0]
    ++ toLe 2 d.no ++ toLe 2 d.nc ++ [0, 0]

/-- Bytes 0 to 527 of an image (table "Lattice image layout"). -/
def LatImage.body (i : LatImage) : List Byte :=
  [0x4C, 0x54, 0x43, 0x31] ++ toLe 2 1 ++ toLe 2 532 ++ [24, 12, byte (bitVal i.platform), 0]
    ++ [i.leafFilter, i.trainFilter, i.handleFilter, i.discrepancy, i.readback, i.pulseWidth,
        i.pulsePeriod].flatMap (toLe 2)
    ++ List.replicate 6 0 ++ i.train.flatMap (toLe 2) ++ List.replicate 4 0
    ++ i.leaves.flatMap LatLeaf.bytes ++ i.doors.flatMap LatDoor.bytes

/-- CRC-32C of an image's bytes 0 to 527. -/
def LatImage.crc (i : LatImage) : Nat := crc32c i.body

/-- The 532 bytes of an image. -/
def LatImage.bytes (i : LatImage) : List Byte := i.body ++ toLe 4 i.crc

/-- The 16-bit field at byte `o`. -/
def le16At (bs : List Byte) (o : Nat) : Nat := leNat ((bs.drop o).take 2)

/-- The leaf entry in 16 bytes. -/
def LatLeaf.ofBytes (bs : List Byte) : LatLeaf :=
  let f := leNat (bs.take 1)
  ⟨f.testBit 0, f.testBit 1, le16At bs 2, le16At bs 4, le16At bs 6, le16At bs 8, le16At bs 10,
   le16At bs 12, le16At bs 14⟩

/-- The doorway entry in 8 bytes. -/
def LatDoor.ofBytes (bs : List Byte) : LatDoor :=
  let f := leNat (bs.take 1)
  ⟨f.testBit 0, f.testBit 1, f.testBit 2, f.testBit 3, le16At bs 2, le16At bs 4⟩

/-- `n` entries of `w` bytes. -/
def chunks (w : Nat) : Nat → List Byte → List (List Byte)
  | 0, _ => []
  | n + 1, bs => bs.take w :: chunks w n (bs.drop w)

/-- The image in 532 bytes, whatever the fixed and reserved bytes hold. -/
def LatImage.ofBytes (bs : List Byte) : LatImage :=
  { platform := (leNat ((bs.drop 10).take 1)).testBit 0
    leafFilter := le16At bs 12, trainFilter := le16At bs 14, handleFilter := le16At bs 16
    discrepancy := le16At bs 18, readback := le16At bs 20, pulseWidth := le16At bs 22
    pulsePeriod := le16At bs 24
    train := (chunks 2 6 (bs.drop 32)).map leNat
    leaves := (chunks 16 24 (bs.drop 48)).map LatLeaf.ofBytes
    doors := (chunks 8 12 (bs.drop 432)).map LatDoor.ofBytes }

/-- Check 1: the CRC at bytes 528 to 531 (R40). -/
def imageCrcOk (bs : List Byte) : Bool := leNat ((bs.drop 528).take 4) == crc32c (bs.take 528)

/-- Check 2: magic, version, length and entry counts (R40). -/
def imageHeadOk (bs : List Byte) : Bool :=
  bs.length == 532 && bs.take 4 == [0x4C, 0x54, 0x43, 0x31] && le16At bs 4 == 1 && le16At bs 6 == 532
    && (bs.drop 8).take 2 == [24, 12]

/-- The reserved bytes and bits are 0 (R41). -/
def imageReservedOk (bs : List Byte) : Bool := (LatImage.ofBytes bs).body == bs.take 528

/-- Leaf `l` counts as enabled. -/
def LatImage.leaf (i : LatImage) (l : Nat) : LatLeaf :=
  i.leaves.getD l ⟨false, false, noChan, noChan, noChan, noChan, noChan, noChan, noChan⟩
/-- Doorway `d`. -/
def LatImage.door (i : LatImage) (d : Nat) : LatDoor :=
  i.doors.getD d ⟨false, false, false, false, noChan, noChan⟩

/-- The counted input fields of a leaf entry (R41). -/
def LatLeaf.inputs (l : LatLeaf) : List Nat :=
  if l.enabled then
    [l.closedNo, l.closedNc, l.lockedNo, l.lockedNc] ++ (if l.iso then [l.isoNo, l.isoNc] else [])
  else []

/-- The counted input fields of a doorway entry (R41). -/
def LatDoor.inputs (d : LatDoor) : List Nat := if d.enabled && d.handle then [d.no, d.nc] else []

/-- Channels that an image names as inputs (R41, R43). -/
def LatImage.inputs (i : LatImage) : List Nat :=
  (i.train ++ i.leaves.flatMap LatLeaf.inputs ++ i.doors.flatMap LatDoor.inputs).filter (· != noChan)

/-- Unlock channels of the enabled leaves (R41). -/
def LatImage.unlocks (i : LatImage) : List Nat :=
  ((i.leaves.filter (·.enabled)).map (·.unlock)).filter (· != noChan)

/-- Channels that an image claims (R43). -/
def LatImage.claims (i : LatImage) : List Nat := i.inputs ++ i.unlocks

/-- The two contacts of a lattice input, where the image names them (R24, R41). -/
def LatImage.contacts (i : LatImage) : LatInput → Option (Nat × Nat)
  | .closed l => let e := i.leaf l; if e.enabled then some (e.closedNo, e.closedNc) else none
  | .locked l => let e := i.leaf l; if e.enabled then some (e.lockedNo, e.lockedNc) else none
  | .iso l => let e := i.leaf l; if e.enabled && e.iso then some (e.isoNo, e.isoNc) else none
  | .handle d => let e := i.door d; if e.enabled && e.handle then some (e.no, e.nc) else none
  | .train t =>
    let a := i.train.getD (2 * t.val) noChan
    let b := i.train.getD (2 * t.val + 1) noChan
    if a == noChan || b == noChan then none else some (a, b)

/-- The parameters within their ranges (check 6, table "Lattice image layout"). -/
def LatImage.paramsOk (i : LatImage) : Bool :=
  let f (x : Nat) := decide (500 ≤ x) && decide (x ≤ 4800) && x % 50 == 0
  f i.leafFilter && f i.trainFilter && f i.handleFilter
    && decide (5 ≤ i.discrepancy ∧ i.discrepancy ≤ 500) && decide (10 ≤ i.readback ∧ i.readback ≤ 100)
    && decide (100 ≤ i.pulseWidth ∧ i.pulseWidth ≤ 380)
    && decide (100 ≤ i.pulsePeriod ∧ i.pulsePeriod ≤ 10000)

/-- A channel field holds 0 to 255 or 16#FFFF (check 6). -/
def chanFieldOk (c : Nat) : Bool := decide (c ≤ 255) || c == noChan

/-- Every enabled entry names the channels that R41 requires, and every counted field is in range. -/
def LatImage.fieldsOk (i : LatImage) : Bool :=
  i.train.all chanFieldOk
    && i.leaves.all (fun l => l.inputs.all (fun c => decide (c ≤ 255)) && (!l.enabled || chanFieldOk l.unlock))
    && i.doors.all (fun d => d.inputs.all (fun c => decide (c ≤ 255)))

/-- No enabled entry names an absent leaf, doorway or channel (check 3). -/
def LatImage.presentOk (v : Variant) (i : LatImage) : Bool :=
  (List.range 24).all (fun l => !(i.leaf l).enabled || v.hasLeaf l)
    && (List.range 12).all (fun d => !(i.door d).enabled || v.hasDoorway d)
    && i.claims.all (fun c => v.hasChan c || decide (255 < c))

/-- No counted channel is named twice (check 5). -/
def LatImage.distinctOk (i : LatImage) : Bool := i.claims.eraseDups.length == i.claims.length

/-- The factory image (R42). -/
def factoryImage (v : Variant) : LatImage :=
  { platform := v.isP
    leafFilter := 2400, trainFilter := 1100, handleFilter := 2400, discrepancy := 50, readback := 30
    pulseWidth := 300, pulsePeriod := 1000
    train := (List.range 6).map (fun i => v.channels - 6 + i)
    leaves := (List.range 24).map (fun l =>
      let d := l / 2
      if v.factoryEnabled d then
        let b := 16 * d + 4 * (l % 2)
        ⟨true, false, b, b + 1, b + 2, b + 3, noChan, noChan, 16 * d + 10 + l % 2⟩
      else ⟨false, false, noChan, noChan, noChan, noChan, noChan, noChan, noChan⟩)
    doors := (List.range 12).map (fun d =>
      if v.factoryEnabled d then ⟨true, v.factoryRight d, true, true, 16 * d + 8, 16 * d + 9⟩
      else ⟨false, false, false, false, noChan, noChan⟩) }

end Sys2Proof.Machine
end

