-- ==== Sys2Proof/Machine/Names.lean ====
section
/-!
DEFINITION. Machine/Names.lean: a name for every object of the dictionary. The number of object
index.subindex is 256 * index + subindex (R165, 09_object_dictionary.md).
-/
namespace Sys2Proof.Obj

/-- The number of object index.subindex. -/
abbrev key (idx sub : Nat) : Nat := 256 * idx + sub
/-- 16#1000.01 VendorId. -/
abbrev vendorId : Nat := 0x100001
/-- 16#1000.02 ProductCode. -/
abbrev productCode : Nat := 0x100002
/-- 16#1000.03 FeatureCode. -/
abbrev featureCode : Nat := 0x100003
/-- 16#1000.04 SerialNumber. -/
abbrev serialNumber : Nat := 0x100004
/-- 16#1000.05 DieRevision. -/
abbrev dieRevision : Nat := 0x100005
/-- 16#1000.06 DictionaryVersion. -/
abbrev dictionaryVersion : Nat := 0x100006
/-- 16#1001.01 AxisMask. -/
abbrev capAxisMask : Nat := 0x100101
/-- 16#1001.02 FieldDieMask. -/
abbrev fieldDieMask : Nat := 0x100102
/-- 16#1001.03 FeatureMask. -/
abbrev featureMask : Nat := 0x100103
/-- 16#1001.04 FunctionMask. -/
abbrev functionMask : Nat := 0x100104
/-- 16#1002.01 NodeState. -/
abbrev nodeState : Nat := 0x100201
/-- 16#1002.02 BlockHealth. -/
abbrev blockHealth : Nat := 0x100202
/-- 16#1002.03 LoopCloseCount. -/
abbrev loopCloseCount : Nat := 0x100203
/-- 16#1002.04 LastLoopOpenTime. -/
abbrev lastLoopOpenTime : Nat := 0x100204
/-- 16#1003.01 RestoreDefaults. -/
abbrev restoreDefaults : Nat := 0x100301
/-- 16#1003.02 StoreCount. -/
abbrev storeCount : Nat := 0x100302
/-- 16#1003.03 UnstoredWrites. -/
abbrev unstoredWrites : Nat := 0x100303
/-- 16#1100.01 SessionTimeout. -/
abbrev sessionTimeout : Nat := 0x110001
/-- 16#1100.02 SemaHoldOff. -/
abbrev semaHoldOff : Nat := 0x110002
/-- 16#1100.05 AuthFailLimit. -/
abbrev authFailLimit : Nat := 0x110005
/-- 16#1101+i.01 SlotState. -/
abbrev slotState (i : Nat) : Nat := 0x110101 + 256 * i
/-- 16#1101+i.02 Transport. -/
abbrev slotTransport (i : Nat) : Nat := 0x110102 + 256 * i
/-- 16#1101+i.03 Maintainer. -/
abbrev maintainer (i : Nat) : Nat := 0x110103 + 256 * i
/-- 16#1101+i.04 PeerAddress. -/
abbrev slotPeerAddress (i : Nat) : Nat := 0x110104 + 256 * i
/-- 16#1101+i.05 SessionId. -/
abbrev slotSessionId (i : Nat) : Nat := 0x110105 + 256 * i
/-- 16#1101+i.06 OpenCount. -/
abbrev openCount (i : Nat) : Nat := 0x110106 + 256 * i
/-- 16#1101+i.07 LostCount. -/
abbrev lostCount (i : Nat) : Nat := 0x110107 + 256 * i
/-- 16#1101+i.08 SlotReset. -/
abbrev slotReset (i : Nat) : Nat := 0x110108 + 256 * i
/-- 16#1101+i.09 DroppedTransactions. -/
abbrev droppedTransactions (i : Nat) : Nat := 0x110109 + 256 * i
/-- 16#1101+i.0A DiscardedCompletions. -/
abbrev discardedCompletions (i : Nat) : Nat := 0x11010A + 256 * i
/-- 16#1101+i.0B InFlight. -/
abbrev slotInFlight (i : Nat) : Nat := 0x11010B + 256 * i
/-- 16#1101+i.0C LastEndCause. -/
abbrev lastEndCause (i : Nat) : Nat := 0x11010C + 256 * i
/-- 16#1104+i.01 PlaceState. -/
abbrev placeState (i : Nat) : Nat := 0x110401 + 256 * i
/-- 16#1104+i.02 Transport. -/
abbrev placeTransport (i : Nat) : Nat := 0x110402 + 256 * i
/-- 16#1104+i.04 PeerAddress. -/
abbrev placePeerAddress (i : Nat) : Nat := 0x110404 + 256 * i
/-- 16#1104+i.05 SessionId. -/
abbrev placeSessionId (i : Nat) : Nat := 0x110405 + 256 * i
/-- 16#110C.01 LinkStatus. -/
abbrev linkStatus : Nat := 0x110C01
/-- 16#110C.02 HeaderErrors. -/
abbrev headerErrors : Nat := 0x110C02
/-- 16#110C.03 FrameErrors. -/
abbrev frameErrors : Nat := 0x110C03
/-- 16#1110.01 KeyM0. -/
abbrev keyM0 : Nat := 0x111001
/-- 16#1110.02 KeyM1. -/
abbrev keyM1 : Nat := 0x111002
/-- 16#1110.03 KeyObserver. -/
abbrev keyObserver : Nat := 0x111003
/-- 16#1110.04 KeyCheck0. -/
abbrev keyCheck0 : Nat := 0x111004
/-- 16#1110.05 KeyCheck1. -/
abbrev keyCheck1 : Nat := 0x111005
/-- 16#1110.06 KeyCheck2. -/
abbrev keyCheck2 : Nat := 0x111006
/-- 16#1110.07 KeyWriteNo. -/
abbrev keyWriteNo : Nat := 0x111007
/-- 16#1110.08 ProvisionLock. -/
abbrev provisionLock : Nat := 0x111008
/-- 16#1111.01 AuthFailCount. -/
abbrev authFailCount : Nat := 0x111101
/-- 16#1111.02 TagFailCount. -/
abbrev tagFailCount : Nat := 0x111102
/-- 16#1111.03 UnknownFrames. -/
abbrev unknownFrames : Nat := 0x111103
/-- 16#1111.04 ReplayCount. -/
abbrev replayCount : Nat := 0x111104
/-- 16#1120.01 SemaHolders. -/
abbrev semaHolders : Nat := 0x112001
/-- 16#1120.02 SemaWaiters. -/
abbrev semaWaiters : Nat := 0x112002
/-- 16#1140+i.01 InFlightTags. -/
abbrev inFlightTags (i : Nat) : Nat := 0x114001 + 256 * i
/-- 16#1140+i.02 CompletionEcho. -/
abbrev completionEcho (i : Nat) : Nat := 0x114002 + 256 * i
/-- 16#1140+i.03 SafetyExpected. -/
abbrev safetyExpected (i : Nat) : Nat := 0x114003 + 256 * i
/-- 16#1140+i.04 BurstState. -/
abbrev burstState (i : Nat) : Nat := 0x114004 + 256 * i
/-- 16#1140+i.05 BurstSegments. -/
abbrev burstSegments (i : Nat) : Nat := 0x114005 + 256 * i
/-- 16#1140+i.06 BurstBytes. -/
abbrev burstBytes (i : Nat) : Nat := 0x114006 + 256 * i
/-- 16#1140+i.07 AdmittedCount. -/
abbrev admittedCount (i : Nat) : Nat := 0x114007 + 256 * i
/-- 16#1140+i.08 RefusedCount. -/
abbrev refusedCount (i : Nat) : Nat := 0x114008 + 256 * i
/-- 16#1148.01 SafetyTimeout. -/
abbrev safetyTimeout : Nat := 0x114801
/-- 16#1148.02 BurstIdleTime. -/
abbrev burstIdleTime : Nat := 0x114802
/-- 16#1148.03 NoticeRetry. -/
abbrev noticeRetry : Nat := 0x114803
/-- 16#1148.04 CompletionDelay. -/
abbrev completionDelay : Nat := 0x114804
/-- 16#1148.05 DeviceInFlight. -/
abbrev deviceInFlight : Nat := 0x114805
/-- 16#1148.06 MalformedFrames. -/
abbrev malformedFrames : Nat := 0x114806
/-- 16#1148.07 SafetyFailCount. -/
abbrev safetyFailCount : Nat := 0x114807
/-- 16#1148.08 BurstExpiredCount. -/
abbrev burstExpiredCount : Nat := 0x114808
/-- 16#1148.09 NoticeAckErrors. -/
abbrev noticeAckErrors : Nat := 0x114809
/-- 16#1200.01 MacAddress. -/
abbrev macAddress : Nat := 0x120001
/-- 16#1200.02 CutThroughRx. -/
abbrev cutThroughRx : Nat := 0x120002
/-- 16#1200.03 CutThroughTx. -/
abbrev cutThroughTx : Nat := 0x120003
/-- 16#1200.04 FrameMaxAge. -/
abbrev frameMaxAge : Nat := 0x120004
/-- 16#1200.05 BlockedPort. -/
abbrev blockedPort : Nat := 0x120005
/-- 16#1200.06 LearnAgeing. -/
abbrev learnAgeing : Nat := 0x120006
/-- 16#1200.07 BufferFree. -/
abbrev bufferFree : Nat := 0x120007
/-- 16#1200.08 LearnedCount. -/
abbrev learnedCount : Nat := 0x120008
/-- 16#1200.09 FlushLearned. -/
abbrev flushLearned : Nat := 0x120009
/-- 16#1201+i.01 AutoNeg. -/
abbrev autoNeg (i : Nat) : Nat := 0x120101 + 256 * i
/-- 16#1201+i.02 EeeEnable. -/
abbrev eeeEnable (i : Nat) : Nat := 0x120102 + 256 * i
/-- 16#1201+i.03 DefaultPcp. -/
abbrev defaultPcp (i : Nat) : Nat := 0x120103 + 256 * i
/-- 16#1201+i.04 Pvid. -/
abbrev pvid (i : Nat) : Nat := 0x120104 + 256 * i
/-- 16#1201+i.05 PortStatus. -/
abbrev portStatus (i : Nat) : Nat := 0x120105 + 256 * i
/-- 16#1201+i.06 PortReset. -/
abbrev portReset (i : Nat) : Nat := 0x120106 + 256 * i
/-- 16#1204+i.01 RxFrames. -/
abbrev rxFrames (i : Nat) : Nat := 0x120401 + 256 * i
/-- 16#1204+i.02 TxFrames. -/
abbrev txFrames (i : Nat) : Nat := 0x120402 + 256 * i
/-- 16#1204+i.03 RxOctets. -/
abbrev rxOctets (i : Nat) : Nat := 0x120403 + 256 * i
/-- 16#1204+i.04 TxOctets. -/
abbrev txOctets (i : Nat) : Nat := 0x120404 + 256 * i
/-- 16#1204+i.05 RxFcsErrors. -/
abbrev rxFcsErrors (i : Nat) : Nat := 0x120405 + 256 * i
/-- 16#1204+i.06 RxRunts. -/
abbrev rxRunts (i : Nat) : Nat := 0x120406 + 256 * i
/-- 16#1204+i.07 RxTooLong. -/
abbrev rxTooLong (i : Nat) : Nat := 0x120407 + 256 * i
/-- 16#1204+i.08 DiscardVlan. -/
abbrev discardVlan (i : Nat) : Nat := 0x120408 + 256 * i
/-- 16#1204+i.09 DiscardBlocked. -/
abbrev discardBlocked (i : Nat) : Nat := 0x120409 + 256 * i
/-- 16#1204+i.0A DiscardBuffer. -/
abbrev discardBuffer (i : Nat) : Nat := 0x12040A + 256 * i
/-- 16#1204+i.0B DiscardAge. -/
abbrev discardAge (i : Nat) : Nat := 0x12040B + 256 * i
/-- 16#1204+i.0C TxStomped. -/
abbrev txStomped (i : Nat) : Nat := 0x12040C + 256 * i
/-- 16#1204+i.0D LinkDownCount. -/
abbrev linkDownCount (i : Nat) : Nat := 0x12040D + 256 * i
/-- 16#1204+i.0E LpiTxEntries. -/
abbrev lpiTxEntries (i : Nat) : Nat := 0x12040E + 256 * i
/-- 16#1204+i.0F DiscardReserved. -/
abbrev discardReserved (i : Nat) : Nat := 0x12040F + 256 * i
/-- 16#1210.01 VlanFiltering. -/
abbrev vlanFiltering : Nat := 0x121001
/-- 16#1210.02 ManagementVid. -/
abbrev managementVid : Nat := 0x121002
/-- 16#1210.03 OwnPcp. -/
abbrev ownPcp : Nat := 0x121003
/-- 16#1210.10 VlanEntry0. -/
abbrev vlanEntry0 : Nat := 0x121010
/-- 16#1210.11 VlanEntry1. -/
abbrev vlanEntry1 : Nat := 0x121011
/-- 16#1210.12 VlanEntry2. -/
abbrev vlanEntry2 : Nat := 0x121012
/-- 16#1210.13 VlanEntry3. -/
abbrev vlanEntry3 : Nat := 0x121013
/-- 16#1210.14 VlanEntry4. -/
abbrev vlanEntry4 : Nat := 0x121014
/-- 16#1210.15 VlanEntry5. -/
abbrev vlanEntry5 : Nat := 0x121015
/-- 16#1210.16 VlanEntry6. -/
abbrev vlanEntry6 : Nat := 0x121016
/-- 16#1210.17 VlanEntry7. -/
abbrev vlanEntry7 : Nat := 0x121017
/-- 16#1210.18 VlanEntry8. -/
abbrev vlanEntry8 : Nat := 0x121018
/-- 16#1210.19 VlanEntry9. -/
abbrev vlanEntry9 : Nat := 0x121019
/-- 16#1210.1A VlanEntry10. -/
abbrev vlanEntry10 : Nat := 0x12101A
/-- 16#1210.1B VlanEntry11. -/
abbrev vlanEntry11 : Nat := 0x12101B
/-- 16#1210.1C VlanEntry12. -/
abbrev vlanEntry12 : Nat := 0x12101C
/-- 16#1210.1D VlanEntry13. -/
abbrev vlanEntry13 : Nat := 0x12101D
/-- 16#1210.1E VlanEntry14. -/
abbrev vlanEntry14 : Nat := 0x12101E
/-- 16#1210.1F VlanEntry15. -/
abbrev vlanEntry15 : Nat := 0x12101F
/-- 16#1220.01 BypassMode. -/
abbrev bypassMode : Nat := 0x122001
/-- 16#1220.02 BypassState. -/
abbrev bypassState : Nat := 0x122002
/-- 16#1220.03 InsertLinkTime. -/
abbrev insertLinkTime : Nat := 0x122003
/-- 16#1220.04 InsertLinkRule. -/
abbrev insertLinkRule : Nat := 0x122004
/-- 16#1220.05 InsertGrant. -/
abbrev insertGrant : Nat := 0x122005
/-- 16#1220.06 InsertCount. -/
abbrev insertCount : Nat := 0x122006
/-- 16#1220.07 InsertFailCount. -/
abbrev insertFailCount : Nat := 0x122007
/-- 16#1220.08 BypassFault. -/
abbrev bypassFault : Nat := 0x122008
/-- 16#1220.09 LastInsertTime. -/
abbrev lastInsertTime : Nat := 0x122009
/-- 16#1220.0A InsertRetryDelay. -/
abbrev insertRetryDelay : Nat := 0x12200A
/-- 16#1230.01 PtpEnable. -/
abbrev ptpEnable : Nat := 0x123001
/-- 16#1230.02 PtpDomain. -/
abbrev ptpDomain : Nat := 0x123002
/-- 16#1230.03 PtpTransport. -/
abbrev ptpTransport : Nat := 0x123003
/-- 16#1230.04 TcEnable. -/
abbrev tcEnable : Nat := 0x123004
/-- 16#1230.05 OcPortState. -/
abbrev ocPortState : Nat := 0x123005
/-- 16#1230.06 ParentPortIdentity. -/
abbrev parentPortIdentity : Nat := 0x123006
/-- 16#1230.07 TcCorrected. -/
abbrev tcCorrected : Nat := 0x123007
/-- 16#1230.08 TcUncorrected. -/
abbrev tcUncorrected : Nat := 0x123008
/-- 16#1230.09 OffsetFromMaster. -/
abbrev offsetFromMaster : Nat := 0x123009
/-- 16#1230.0A MeanPathDelay. -/
abbrev meanPathDelay : Nat := 0x12300A
/-- 16#1240.01 IpAddress. -/
abbrev ipAddress : Nat := 0x124001
/-- 16#1240.02 NetMask. -/
abbrev netMask : Nat := 0x124002
/-- 16#1240.03 Gateway. -/
abbrev gateway : Nat := 0x124003
/-- 16#1240.04 DulasPort. -/
abbrev dulasPort : Nat := 0x124004
/-- 16#1240.05 NoticeGroup. -/
abbrev noticeGroup : Nat := 0x124005
/-- 16#1240.06 NoticeTtl. -/
abbrev noticeTtl : Nat := 0x124006
/-- 16#1300+i.01 Capacity. -/
abbrev queueCapacity (i : Nat) : Nat := 0x130001 + 256 * i
/-- 16#1300+i.02 Fill. -/
abbrev fill (i : Nat) : Nat := 0x130002 + 256 * i
/-- 16#1300+i.03 PeakFill. -/
abbrev peakFill (i : Nat) : Nat := 0x130003 + 256 * i
/-- 16#1300+i.04 HighWeir. -/
abbrev highWeir (i : Nat) : Nat := 0x130004 + 256 * i
/-- 16#1300+i.05 LowWeir. -/
abbrev lowWeir (i : Nat) : Nat := 0x130005 + 256 * i
/-- 16#1300+i.06 WeirStatus. -/
abbrev weirStatus (i : Nat) : Nat := 0x130006 + 256 * i
/-- 16#1300+i.07 HighCrossCount. -/
abbrev highCrossCount (i : Nat) : Nat := 0x130007 + 256 * i
/-- 16#1300+i.08 LowCrossCount. -/
abbrev lowCrossCount (i : Nat) : Nat := 0x130008 + 256 * i
/-- 16#1300+i.09 WeirControl. -/
abbrev weirControl (i : Nat) : Nat := 0x130009 + 256 * i
/-- 16#1300+i.0A SuppressedNotices. -/
abbrev suppressedNotices (i : Nat) : Nat := 0x13000A + 256 * i
/-- 16#1300+i.0B CorrectedErrors. -/
abbrev correctedErrors (i : Nat) : Nat := 0x13000B + 256 * i
/-- 16#1300+i.0C UncorrectedErrors. -/
abbrev uncorrectedErrors (i : Nat) : Nat := 0x13000C + 256 * i
/-- 16#1300+i.0D ErrorWord. -/
abbrev errorWord (i : Nat) : Nat := 0x13000D + 256 * i
/-- 16#1320.01 WeirNoticeInterval. -/
abbrev weirNoticeInterval : Nat := 0x132001
/-- 16#1320.02 NoticeReserve. -/
abbrev noticeReserve : Nat := 0x132002
/-- 16#1320.03 NoticeSourceLimit. -/
abbrev noticeSourceLimit : Nat := 0x132003
/-- 16#1320.04 FoldCount. -/
abbrev foldCount : Nat := 0x132004
/-- 16#1320.05 NoticeSafetyLost. -/
abbrev noticeSafetyLost : Nat := 0x132005
/-- 16#1320.06 NiIngressDiscards. -/
abbrev niIngressDiscards : Nat := 0x132006
/-- 16#1400.01 VcoreVoltage. -/
abbrev vcoreVoltage : Nat := 0x140001
/-- 16#1400.02 VauxVoltage. -/
abbrev vauxVoltage : Nat := 0x140002
/-- 16#1400.03 VioVoltage. -/
abbrev vioVoltage : Nat := 0x140003
/-- 16#1400.04 VphyVoltage. -/
abbrev vphyVoltage : Nat := 0x140004
/-- 16#1400.05 VaonVoltage. -/
abbrev vaonVoltage : Nat := 0x140005
/-- 16#1400.06 RailStatus. -/
abbrev railStatus : Nat := 0x140006
/-- 16#1400.07 PenLevels. -/
abbrev penLevels : Nat := 0x140007
/-- 16#1402.01 VmainVoltage. -/
abbrev vmainVoltage : Nat := 0x140201
/-- 16#1402.02 MainOkVoltage. -/
abbrev mainOkVoltage : Nat := 0x140202
/-- 16#1402.03 MainFailVoltage. -/
abbrev mainFailVoltage : Nat := 0x140203
/-- 16#1402.04 MainFailTime. -/
abbrev mainFailTime : Nat := 0x140204
/-- 16#1402.05 PathState. -/
abbrev pathState : Nat := 0x140205
/-- 16#1402.06 PathFlags. -/
abbrev pathFlags : Nat := 0x140206
/-- 16#1402.07 MainFailCount. -/
abbrev mainFailCount : Nat := 0x140207
/-- 16#1402.08 CrossoverCount. -/
abbrev crossoverCount : Nat := 0x140208
/-- 16#1402.09 LastReserveTime. -/
abbrev lastReserveTime : Nat := 0x140209
/-- 16#1402.0A RideThroughTime. -/
abbrev rideThroughTime : Nat := 0x14020A
/-- 16#1402.0B MainOvVoltage. -/
abbrev mainOvVoltage : Nat := 0x14020B
/-- 16#1410.01 Chemistry. -/
abbrev chemistry : Nat := 0x141001
/-- 16#1410.02 CellCount. -/
abbrev cellCount : Nat := 0x141002
/-- 16#1410.03 CellCapacitance. -/
abbrev cellCapacitance : Nat := 0x141003
/-- 16#1410.04 CellCapacity. -/
abbrev cellCapacity : Nat := 0x141004
/-- 16#1410.05 CellFullVoltage. -/
abbrev cellFullVoltage : Nat := 0x141005
/-- 16#1410.06 CellOvVoltage. -/
abbrev cellOvVoltage : Nat := 0x141006
/-- 16#1410.07 CellUvVoltage. -/
abbrev cellUvVoltage : Nat := 0x141007
/-- 16#1410.08 BalanceStart. -/
abbrev balanceStart : Nat := 0x141008
/-- 16#1410.09 BalanceDelta. -/
abbrev balanceDelta : Nat := 0x141009
/-- 16#1410.0A ReserveMinVoltage. -/
abbrev reserveMinVoltage : Nat := 0x14100A
/-- 16#1410.0B ChargeCode. -/
abbrev chargeCode : Nat := 0x14100B
/-- 16#1411.01 ReserveState. -/
abbrev reserveState : Nat := 0x141101
/-- 16#1411.02 PackVoltage. -/
abbrev packVoltage : Nat := 0x141102
/-- 16#1411.03 CellSum. -/
abbrev cellSum : Nat := 0x141103
/-- 16#1411.04 ReserveFault. -/
abbrev reserveFault : Nat := 0x141104
/-- 16#1411.05 WireFault. -/
abbrev wireFault : Nat := 0x141105
/-- 16#1411.06 CellOv. -/
abbrev cellOv : Nat := 0x141106
/-- 16#1411.07 CellUv. -/
abbrev cellUv : Nat := 0x141107
/-- 16#1411.08 CellUntrusted. -/
abbrev cellUntrusted : Nat := 0x141108
/-- 16#1411.09 MinCell. -/
abbrev minCell : Nat := 0x141109
/-- 16#1411.0A MaxCell. -/
abbrev maxCell : Nat := 0x14110A
/-- 16#1411.0B BalanceActive. -/
abbrev balanceActive : Nat := 0x14110B
/-- 16#1411.0C WireTestRounds. -/
abbrev wireTestRounds : Nat := 0x14110C
/-- 16#1412.01 CellVoltage0. -/
abbrev cellVoltage0 : Nat := 0x141201
/-- 16#1412.02 CellVoltage1. -/
abbrev cellVoltage1 : Nat := 0x141202
/-- 16#1412.03 CellVoltage2. -/
abbrev cellVoltage2 : Nat := 0x141203
/-- 16#1412.04 CellVoltage3. -/
abbrev cellVoltage3 : Nat := 0x141204
/-- 16#1412.05 CellVoltage4. -/
abbrev cellVoltage4 : Nat := 0x141205
/-- 16#1412.06 CellVoltage5. -/
abbrev cellVoltage5 : Nat := 0x141206
/-- 16#1412.07 CellVoltage6. -/
abbrev cellVoltage6 : Nat := 0x141207
/-- 16#1412.08 CellVoltage7. -/
abbrev cellVoltage7 : Nat := 0x141208
/-- 16#1412.09 CellVoltage8. -/
abbrev cellVoltage8 : Nat := 0x141209
/-- 16#1412.0A CellVoltage9. -/
abbrev cellVoltage9 : Nat := 0x14120A
/-- 16#1412.0B CellVoltage10. -/
abbrev cellVoltage10 : Nat := 0x14120B
/-- 16#1412.0C CellVoltage11. -/
abbrev cellVoltage11 : Nat := 0x14120C
/-- 16#1412.0D CellVoltage12. -/
abbrev cellVoltage12 : Nat := 0x14120D
/-- 16#1412.0E CellVoltage13. -/
abbrev cellVoltage13 : Nat := 0x14120E
/-- 16#1412.0F CellVoltage14. -/
abbrev cellVoltage14 : Nat := 0x14120F
/-- 16#1412.10 CellVoltage15. -/
abbrev cellVoltage15 : Nat := 0x141210
/-- 16#1414.01 FlushPower. -/
abbrev flushPower : Nat := 0x141401
/-- 16#1414.02 EscrowOverheadTime. -/
abbrev escrowOverheadTime : Nat := 0x141402
/-- 16#1414.03 EscrowHoldPower. -/
abbrev escrowHoldPower : Nat := 0x141403
/-- 16#1414.04 EscrowHoldTime. -/
abbrev escrowHoldTime : Nat := 0x141404
/-- 16#1414.05 EscrowEfficiency. -/
abbrev escrowEfficiency : Nat := 0x141405
/-- 16#1414.06 EscrowMargin. -/
abbrev escrowMargin : Nat := 0x141406
/-- 16#1414.07 LeafStrokeEnergy. -/
abbrev leafStrokeEnergy : Nat := 0x141407
/-- 16#1414.08 StepStrokeEnergy. -/
abbrev stepStrokeEnergy : Nat := 0x141408
/-- 16#1414.09 EnergyAvailable. -/
abbrev energyAvailable : Nat := 0x141409
/-- 16#1414.0A EnergyEscrow. -/
abbrev energyEscrow : Nat := 0x14140A
/-- 16#1414.0B EscrowStatus. -/
abbrev escrowStatus : Nat := 0x14140B
/-- 16#1414.0C RefusedMoves. -/
abbrev refusedMoves : Nat := 0x14140C
/-- 16#1414.0D EscrowBreachCount. -/
abbrev escrowBreachCount : Nat := 0x14140D
/-- 16#1420.01 PowerState. -/
abbrev powerState : Nat := 0x142001
/-- 16#1420.02 PowerPhase. -/
abbrev powerPhase : Nat := 0x142002
/-- 16#1420.03 PowerCommand. -/
abbrev powerCommand : Nat := 0x142003
/-- 16#1420.04 DeepestAuto. -/
abbrev deepestAuto : Nat := 0x142004
/-- 16#1420.05 PowerDownNotice. -/
abbrev powerDownNotice : Nat := 0x142005
/-- 16#1420.06 LockSettleTime. -/
abbrev lockSettleTime : Nat := 0x142006
/-- 16#1420.07 RestartHoldOff. -/
abbrev restartHoldOff : Nat := 0x142007
/-- 16#1420.0A LastWakeCause. -/
abbrev lastWakeCause : Nat := 0x14200A
/-- 16#1420.0B UnwoundStarts. -/
abbrev unwoundStarts : Nat := 0x14200B
/-- 16#1420.0C DozeCount. -/
abbrev dozeCount : Nat := 0x14200C
/-- 16#1420.0D SleepCount. -/
abbrev sleepCount : Nat := 0x14200D
/-- 16#1420.0E StandbyCount. -/
abbrev standbyCount : Nat := 0x14200E
/-- 16#1421.01 WakeAt. -/
abbrev wakeAt : Nat := 0x142101
/-- 16#1421.02 NextEventTime. -/
abbrev nextEventTime : Nat := 0x142102
/-- 16#1421.03 NextEventSource. -/
abbrev nextEventSource : Nat := 0x142103
/-- 16#1421.04 PlannedState. -/
abbrev plannedState : Nat := 0x142104
/-- 16#1421.05 PlanGuard. -/
abbrev planGuard : Nat := 0x142105
/-- 16#1421.06 ReserveSleepSample. -/
abbrev reserveSleepSample : Nat := 0x142106
/-- 16#1421.07 WakeMask. -/
abbrev wakeMask : Nat := 0x142107
/-- 16#1421.08 OffWakeMask. -/
abbrev offWakeMask : Nat := 0x142108
/-- 16#1421.09 DeepIdleTime. -/
abbrev deepIdleTime : Nat := 0x142109
/-- 16#1424+i.01 DeepGrant. -/
abbrev deepGrant (i : Nat) : Nat := 0x142401 + 256 * i
/-- 16#1424+i.02 NextService. -/
abbrev nextService (i : Nat) : Nat := 0x142402 + 256 * i
/-- 16#1480+i.01 Target. -/
abbrev target (i : Nat) : Nat := 0x148001 + 256 * i
/-- 16#1480+i.02 Output. -/
abbrev output (i : Nat) : Nat := 0x148002 + 256 * i
/-- 16#1480+i.03 SlewUp. -/
abbrev slewUp (i : Nat) : Nat := 0x148003 + 256 * i
/-- 16#1480+i.04 SlewDown. -/
abbrev slewDown (i : Nat) : Nat := 0x148004 + 256 * i
/-- 16#1480+i.05 IdleCode. -/
abbrev idleCode (i : Nat) : Nat := 0x148005 + 256 * i
/-- 16#1480+i.06 BusStatus. -/
abbrev busStatus (i : Nat) : Nat := 0x148006 + 256 * i
/-- 16#1490+i.01 VfldVoltage. -/
abbrev vfldVoltage (i : Nat) : Nat := 0x149001 + 256 * i
/-- 16#1490+i.02 DieSupplyStatus. -/
abbrev dieSupplyStatus (i : Nat) : Nat := 0x149002 + 256 * i
/-- 16#1490+i.03 UvCount. -/
abbrev uvCount (i : Nat) : Nat := 0x149003 + 256 * i
/-- 16#1490+i.04 SurgeCount. -/
abbrev surgeCount (i : Nat) : Nat := 0x149004 + 256 * i
/-- 16#1490+i.05 GndShiftCount. -/
abbrev gndShiftCount (i : Nat) : Nat := 0x149005 + 256 * i
/-- 16#1490+i.06 DiePorCount. -/
abbrev diePorCount (i : Nat) : Nat := 0x149006 + 256 * i
/-- 16#1500.01 ClockStatus. -/
abbrev clockStatus : Nat := 0x150001
/-- 16#1500.02 LastClockFault. -/
abbrev lastClockFault : Nat := 0x150002
/-- 16#1500.03 ClockFaultCount. -/
abbrev clockFaultCount : Nat := 0x150003
/-- 16#1500.04 XtalError. -/
abbrev xtalError : Nat := 0x150004
/-- 16#1501.01 TB. -/
abbrev tb : Nat := 0x150101
/-- 16#1501.02 TB32. -/
abbrev tb32 : Nat := 0x150102
/-- 16#1501.03 FclkTime. -/
abbrev fclkTime : Nat := 0x150103
/-- 16#1502.01 CalSeconds. -/
abbrev calSeconds : Nat := 0x150201
/-- 16#1502.02 CalNanoseconds. -/
abbrev calNanoseconds : Nat := 0x150202
/-- 16#1502.03 CalState. -/
abbrev calState : Nat := 0x150203
/-- 16#1502.04 CalSet. -/
abbrev calSet : Nat := 0x150204
/-- 16#1502.05 CalSource. -/
abbrev calSource : Nat := 0x150205
/-- 16#1502.06 StepThreshold. -/
abbrev stepThreshold : Nat := 0x150206
/-- 16#1502.07 SlewLimit. -/
abbrev slewLimit : Nat := 0x150207
/-- 16#1502.08 LockThreshold. -/
abbrev lockThreshold : Nat := 0x150208
/-- 16#1502.09 UtcOffset. -/
abbrev utcOffset : Nat := 0x150209
/-- 16#1502.0A CalTbPair. -/
abbrev calTbPair : Nat := 0x15020A
/-- 16#1502.0B CalStepCount. -/
abbrev calStepCount : Nat := 0x15020B
/-- 16#1502.0C HoldoverLimit. -/
abbrev holdoverLimit : Nat := 0x15020C
/-- 16#1502.0D LastDisciplineAge. -/
abbrev lastDisciplineAge : Nat := 0x15020D
/-- 16#1503.01 RtcSeconds. -/
abbrev rtcSeconds : Nat := 0x150301
/-- 16#1503.02 RtcTrim. -/
abbrev rtcTrim : Nat := 0x150302
/-- 16#1503.03 RtcAutoTrim. -/
abbrev rtcAutoTrim : Nat := 0x150303
/-- 16#1504.01 OperatingSeconds. -/
abbrev operatingSeconds : Nat := 0x150401
/-- 16#1504.02 PowerCycleCount. -/
abbrev powerCycleCount : Nat := 0x150402
/-- 16#1600.01 ResetCause. -/
abbrev resetCause : Nat := 0x160001
/-- 16#1600.02 ResetCauseMask. -/
abbrev resetCauseMask : Nat := 0x160002
/-- 16#1600.03 DeviceReset. -/
abbrev deviceReset : Nat := 0x160003
/-- 16#1600.04 LogicResetCount. -/
abbrev logicResetCount : Nat := 0x160004
/-- 16#1600.05 WatchdogTimeout. -/
abbrev watchdogTimeout : Nat := 0x160005
/-- 16#1600.06 WatchdogCount. -/
abbrev watchdogCount : Nat := 0x160006
/-- 16#1600.07 StartDuration. -/
abbrev startDuration : Nat := 0x160007
/-- 16#1610.01 SelfTestFail. -/
abbrev selfTestFail : Nat := 0x161001
/-- 16#1610.02 SelfTestDuration. -/
abbrev selfTestDuration : Nat := 0x161002
/-- 16#1610.03 SramScrubPeriod. -/
abbrev sramScrubPeriod : Nat := 0x161003
/-- 16#1610.04 MramScrubPeriod. -/
abbrev mramScrubPeriod : Nat := 0x161004
/-- 16#1610.05 SramScrubRounds. -/
abbrev sramScrubRounds : Nat := 0x161005
/-- 16#1610.06 MramScrubRounds. -/
abbrev mramScrubRounds : Nat := 0x161006
/-- 16#1610.07 MramCorrected. -/
abbrev mramCorrected : Nat := 0x161007
/-- 16#1610.08 MramUncorr. -/
abbrev mramUncorr : Nat := 0x161008
/-- 16#1610.09 PeriodicFault. -/
abbrev periodicFault : Nat := 0x161009
/-- 16#1611.01 DieTemp. -/
abbrev dieTemp : Nat := 0x161101
/-- 16#1611.02 TempWarn. -/
abbrev tempWarn : Nat := 0x161102
/-- 16#1620.01 SafetyStatus. -/
abbrev safetyStatus : Nat := 0x162001
/-- 16#1620.02 SafetyFaultCount. -/
abbrev safetyFaultCount : Nat := 0x162002
/-- 16#1700+i.01 BoundSlot. -/
abbrev boundSlot (i : Nat) : Nat := 0x170001 + 256 * i
/-- 16#1700+i.02 AxisMask. -/
abbrev fnAxisMask (i : Nat) : Nat := 0x170002 + 256 * i
/-- 16#1700+i.03 ChannelMask. -/
abbrev channelMask (i : Nat) : Nat := 0x170003 + 256 * i
/-- 16#1700+i.04 GpMask. -/
abbrev gpMask (i : Nat) : Nat := 0x170004 + 256 * i
/-- 16#1700+i.05 SeqSet. -/
abbrev seqSet (i : Nat) : Nat := 0x170005 + 256 * i
/-- 16#1700+i.06 QosWeight. -/
abbrev qosWeight (i : Nat) : Nat := 0x170006 + 256 * i
/-- 16#1700+i.07 MinLanes. -/
abbrev minLanes (i : Nat) : Nat := 0x170007 + 256 * i
/-- 16#1700+i.08 DisableAction. -/
abbrev disableAction (i : Nat) : Nat := 0x170008 + 256 * i
/-- 16#1700+i.09 FunctionControl. -/
abbrev functionControl (i : Nat) : Nat := 0x170009 + 256 * i
/-- 16#1700+i.0A FunctionState. -/
abbrev functionState (i : Nat) : Nat := 0x17000A + 256 * i
/-- 16#1700+i.0B StartEnabled. -/
abbrev startEnabled (i : Nat) : Nat := 0x17000B + 256 * i
/-- 16#1700+i.0C StreamOpen. -/
abbrev streamOpen (i : Nat) : Nat := 0x17000C + 256 * i
/-- 16#1700+i.0D InFlight. -/
abbrev fnInFlight (i : Nat) : Nat := 0x17000D + 256 * i
/-- 16#1700+i.0E LanesInUse. -/
abbrev lanesInUse (i : Nat) : Nat := 0x17000E + 256 * i
/-- 16#1700+i.0F AbortedCount. -/
abbrev abortedCount (i : Nat) : Nat := 0x17000F + 256 * i
/-- 16#1700+i.10 LastDrainTime. -/
abbrev lastDrainTime (i : Nat) : Nat := 0x170010 + 256 * i
/-- 16#1700+i.11 ResetCount. -/
abbrev resetCount (i : Nat) : Nat := 0x170011 + 256 * i
/-- 16#1800+p.01–.10 PinConfig of pin i of port p. -/
abbrev pinConfig (p i : Nat) : Nat := 0x180001 + 256 * p + i
/-- 16#1806+i.01 OutputLevel. -/
abbrev outputLevel (i : Nat) : Nat := 0x180601 + 256 * i
/-- 16#1806+i.02 SetBits. -/
abbrev setBits (i : Nat) : Nat := 0x180602 + 256 * i
/-- 16#1806+i.03 ClearBits. -/
abbrev clearBits (i : Nat) : Nat := 0x180603 + 256 * i
/-- 16#1806+i.04 SyncValue. -/
abbrev syncValue (i : Nat) : Nat := 0x180604 + 256 * i
/-- 16#1806+i.05 PadValue. -/
abbrev padValue (i : Nat) : Nat := 0x180605 + 256 * i
/-- 16#180C.01 ConflictFlags. -/
abbrev conflictFlags : Nat := 0x180C01
/-- 16#180C.02 ConflictCount. -/
abbrev conflictCount : Nat := 0x180C02
/-- 16#1810.01 PpsPin. -/
abbrev ppsPin : Nat := 0x181001
/-- 16#1810.02 PpsWidth. -/
abbrev ppsWidth : Nat := 0x181002
/-- 16#1810.03 TickPin. -/
abbrev tickPin : Nat := 0x181003
/-- 16#1810.04 ClkOutPin. -/
abbrev clkOutPin : Nat := 0x181004
/-- 16#1810.05 ClkOutDiv. -/
abbrev clkOutDiv : Nat := 0x181005
/-- 16#1820+i.01 Port. -/
abbrev port (i : Nat) : Nat := 0x182001 + 256 * i
/-- 16#1820+i.02 Mask. -/
abbrev mask (i : Nat) : Nat := 0x182002 + 256 * i
/-- 16#1820+i.03 Pattern. -/
abbrev pattern (i : Nat) : Nat := 0x182003 + 256 * i
/-- 16#1820+i.04 Control. -/
abbrev control (i : Nat) : Nat := 0x182004 + 256 * i
/-- 16#1820+i.05 HoldTime. -/
abbrev holdTime (i : Nat) : Nat := 0x182005 + 256 * i
/-- 16#1820+i.06 UnitStatus. -/
abbrev unitStatus (i : Nat) : Nat := 0x182006 + 256 * i
/-- 16#1820+i.07 MatchCount. -/
abbrev matchCount (i : Nat) : Nat := 0x182007 + 256 * i
/-- 16#1828+i.01 LineConfig. -/
abbrev lineConfig (i : Nat) : Nat := 0x182801 + 256 * i
/-- 16#1828+i.02 EdgeCount. -/
abbrev lineEdgeCount (i : Nat) : Nat := 0x182802 + 256 * i
/-- 16#1828+i.03 SuppressedEdges. -/
abbrev suppressedEdges (i : Nat) : Nat := 0x182803 + 256 * i
/-- 16#1830.01 WakePolarity. -/
abbrev wakePolarity : Nat := 0x183001
/-- 16#1830.02 WakeActive. -/
abbrev wakeActive : Nat := 0x183002
/-- 16#2000.01 LatticeState. -/
abbrev latticeState : Nat := 0x200001
/-- 16#2000.02 LoopStatus. -/
abbrev loopStatus : Nat := 0x200002
/-- 16#2000.03 PermitStatus. -/
abbrev permitStatus : Nat := 0x200003
/-- 16#2000.04 LeafClosedLocked. -/
abbrev leafClosedLocked : Nat := 0x200004
/-- 16#2000.05 LeafIsolated. -/
abbrev leafIsolated : Nat := 0x200005
/-- 16#2000.06 HandleOperated. -/
abbrev handleOperated : Nat := 0x200006
/-- 16#2000.07 LeafInputFault. -/
abbrev leafInputFault : Nat := 0x200007
/-- 16#2000.08 DoorwayInputFault. -/
abbrev doorwayInputFault : Nat := 0x200008
/-- 16#2000.09 TrainInputFault. -/
abbrev trainInputFault : Nat := 0x200009
/-- 16#2000.0A HeldCause. -/
abbrev heldCause : Nat := 0x20000A
/-- 16#2000.0B LatticeFaultCount. -/
abbrev latticeFaultCount : Nat := 0x20000B
/-- 16#2000.0C ActiveImageCrc. -/
abbrev activeImageCrc : Nat := 0x20000C
/-- 16#2001.01 ConfigImage. -/
abbrev configImage : Nat := 0x200101
/-- 16#2001.02 PendingState. -/
abbrev pendingState : Nat := 0x200102
/-- 16#2001.03 RefusalCause. -/
abbrev imgRefusalCause : Nat := 0x200103
/-- 16#2001.04 PendingImageCrc. -/
abbrev pendingImageCrc : Nat := 0x200104
/-- 16#2001.05 LoadFactoryImage. -/
abbrev loadFactoryImage : Nat := 0x200105
/-- 16#2001.06 ActiveImage. -/
abbrev activeImage : Nat := 0x200106
/-- 16#2002.01 LeafFilter. -/
abbrev leafFilter : Nat := 0x200201
/-- 16#2002.02 TrainFilter. -/
abbrev trainFilter : Nat := 0x200202
/-- 16#2002.03 HandleFilter. -/
abbrev handleFilter : Nat := 0x200203
/-- 16#2002.04 DiscrepancyTime. -/
abbrev discrepancyTime : Nat := 0x200204
/-- 16#2002.05 ReadbackTimeout. -/
abbrev readbackTimeout : Nat := 0x200205
/-- 16#2002.06 TestPulseWidth. -/
abbrev testPulseWidth : Nat := 0x200206
/-- 16#2002.07 TestPulsePeriod. -/
abbrev testPulsePeriod : Nat := 0x200207
/-- 16#2101.01 RefusalCause. -/
abbrev tabRefusalCause : Nat := 0x210101
/-- 16#2101.02 RefusalSlot. -/
abbrev refusalSlot : Nat := 0x210102
/-- 16#2101.03 RefusalState. -/
abbrev refusalState : Nat := 0x210103
/-- 16#2101.04 RefusalItem. -/
abbrev refusalItem : Nat := 0x210104
/-- 16#2102.01 OutputConflictCount. -/
abbrev outputConflictCount : Nat := 0x210201
/-- 16#2104+i.01 CarTable. -/
abbrev carTable (i : Nat) : Nat := 0x210401 + 256 * i
/-- 16#2104+i.02 CmdWait. -/
abbrev cmdWait (i : Nat) : Nat := 0x210402 + 256 * i
/-- 16#2104+i.03 CmdLife. -/
abbrev cmdLife (i : Nat) : Nat := 0x210403 + 256 * i
/-- 16#2108+i.01 LeftState. -/
abbrev leftState (i : Nat) : Nat := 0x210801 + 256 * i
/-- 16#2108+i.02 RightState. -/
abbrev rightState (i : Nat) : Nat := 0x210802 + 256 * i
/-- 16#2108+i.03 CarFlags. -/
abbrev carFlags (i : Nat) : Nat := 0x210803 + 256 * i
/-- 16#2110+i.01 SideCommand. -/
abbrev sideCommand (i : Nat) : Nat := 0x211001 + 256 * i
/-- 16#2120+i.01 TableHeader. -/
abbrev tableHeader (i : Nat) : Nat := 0x212001 + 256 * i
/-- 16#2120+i.02 SlotState. -/
abbrev tabSlotState (i : Nat) : Nat := 0x212002 + 256 * i
/-- 16#2120+i.03 TableImage. -/
abbrev tableImage (i : Nat) : Nat := 0x212003 + 256 * i
/-- 16#2200.01 RecorderState. -/
abbrev recorderState : Nat := 0x220001
/-- 16#2200.02 FlushPeriod. -/
abbrev flushPeriod : Nat := 0x220002
/-- 16#2200.03 FlushNow. -/
abbrev flushNow : Nat := 0x220003
/-- 16#2200.04 RepeatWindow. -/
abbrev repeatWindow : Nat := 0x220004
/-- 16#2200.05 BrineFill. -/
abbrev brineFill : Nat := 0x220005
/-- 16#2200.06 BrineFlushLevel. -/
abbrev brineFlushLevel : Nat := 0x220006
/-- 16#2200.07 FlushCount. -/
abbrev flushCount : Nat := 0x220007
/-- 16#2200.08 InterruptedFlushCount. -/
abbrev interruptedFlushCount : Nat := 0x220008
/-- 16#2200.09 LastFlushDuration. -/
abbrev lastFlushDuration : Nat := 0x220009
/-- 16#2200.0A FlushNumber. -/
abbrev flushNumber : Nat := 0x22000A
/-- 16#2200.0B DroppedRecords. -/
abbrev droppedRecords : Nat := 0x22000B
/-- 16#2200.0D FlushEstimate. -/
abbrev flushEstimate : Nat := 0x22000D
/-- 16#2201+i.01 OldestSeq. -/
abbrev oldestSeq (i : Nat) : Nat := 0x220101 + 256 * i
/-- 16#2201+i.02 NewestSeq. -/
abbrev newestSeq (i : Nat) : Nat := 0x220102 + 256 * i
/-- 16#2201+i.03 PendingCount. -/
abbrev pendingCount (i : Nat) : Nat := 0x220103 + 256 * i
/-- 16#2201+i.04 Capacity. -/
abbrev logCapacity (i : Nat) : Nat := 0x220104 + 256 * i
/-- 16#2201+i.05 UsedBytes. -/
abbrev usedBytes (i : Nat) : Nat := 0x220105 + 256 * i
/-- 16#2201+i.06 WrapCount. -/
abbrev wrapCount (i : Nat) : Nat := 0x220106 + 256 * i
/-- 16#2201+i.07 ClearCount. -/
abbrev clearCount (i : Nat) : Nat := 0x220107 + 256 * i
/-- 16#2201+i.08 NewestRevision. -/
abbrev newestRevision (i : Nat) : Nat := 0x220108 + 256 * i
/-- 16#2210.01 CursorLog. -/
abbrev cursorLog : Nat := 0x221001
/-- 16#2210.02 CursorSeq. -/
abbrev cursorSeq : Nat := 0x221002
/-- 16#2210.03 Window. -/
abbrev window : Nat := 0x221003
/-- 16#2210.04 WindowSize. -/
abbrev windowSize : Nat := 0x221004
/-- 16#2220.01 ClearLog. -/
abbrev clearLog : Nat := 0x222001
/-- 16#3000+i.01 StrokeCounts. -/
abbrev strokeCounts (i : Nat) : Nat := 0x300001 + 256 * i
/-- 16#3000+i.02 StrokeLength. -/
abbrev strokeLength (i : Nat) : Nat := 0x300002 + 256 * i
/-- 16#3000+i.20 SeqTable. -/
abbrev seqTable (i : Nat) : Nat := 0x300020 + 256 * i
/-- 16#3000+i.21 InputBase. -/
abbrev inputBase (i : Nat) : Nat := 0x300021 + 256 * i
/-- 16#3000+i.22 DoorwayBase. -/
abbrev doorwayBase (i : Nat) : Nat := 0x300022 + 256 * i
/-- 16#3000+i.23 AuxBase. -/
abbrev auxBase (i : Nat) : Nat := 0x300023 + 256 * i
/-- 16#3000+i.24 Role. -/
abbrev role (i : Nat) : Nat := 0x300024 + 256 * i
/-- 16#3000+i.25 RetryLimit. -/
abbrev retryLimit (i : Nat) : Nat := 0x300025 + 256 * i
/-- 16#3000+i.26 StepDoorway. -/
abbrev stepDoorway (i : Nat) : Nat := 0x300026 + 256 * i
/-- 16#3100+i.01 AxisStatus. -/
abbrev axisStatus (i : Nat) : Nat := 0x310001 + 256 * i
/-- 16#3100+i.02 FaultCause. -/
abbrev faultCause (i : Nat) : Nat := 0x310002 + 256 * i
/-- 16#3100+i.03 MoveTarget. -/
abbrev moveTarget (i : Nat) : Nat := 0x310003 + 256 * i
/-- 16#3100+i.04 ActiveProfile. -/
abbrev activeProfile (i : Nat) : Nat := 0x310004 + 256 * i
/-- 16#3100+i.10 AxisCommand. -/
abbrev axisCommand (i : Nat) : Nat := 0x310010 + 256 * i
/-- 16#3100+i.20 SeqState. -/
abbrev seqState (i : Nat) : Nat := 0x310020 + 256 * i
/-- 16#3100+i.21 RetryCount. -/
abbrev retryCount (i : Nat) : Nat := 0x310021 + 256 * i
/-- 16#3100+i.22 ReportBits. -/
abbrev reportBits (i : Nat) : Nat := 0x310022 + 256 * i
/-- 16#3200+i.01 FeedbackMode. -/
abbrev feedbackMode (i : Nat) : Nat := 0x320001 + 256 * i
/-- 16#3200+i.02 CountsPerRev. -/
abbrev countsPerRev (i : Nat) : Nat := 0x320002 + 256 * i
/-- 16#3200+i.03 FeedbackOptions. -/
abbrev feedbackOptions (i : Nat) : Nat := 0x320003 + 256 * i
/-- 16#3200+i.04 QuadFilter. -/
abbrev quadFilter (i : Nat) : Nat := 0x320004 + 256 * i
/-- 16#3200+i.05 ZGate. -/
abbrev zGate (i : Nat) : Nat := 0x320005 + 256 * i
/-- 16#3200+i.06 RefMode. -/
abbrev refMode (i : Nat) : Nat := 0x320006 + 256 * i
/-- 16#3200+i.07 RefTolerance. -/
abbrev refTolerance (i : Nat) : Nat := 0x320007 + 256 * i
/-- 16#3200+i.08 RefSlipLimit. -/
abbrev refSlipLimit (i : Nat) : Nat := 0x320008 + 256 * i
/-- 16#3200+i.09 DatumChannel. -/
abbrev datumChannel (i : Nat) : Nat := 0x320009 + 256 * i
/-- 16#3200+i.0A DatumCount. -/
abbrev datumCount (i : Nat) : Nat := 0x32000A + 256 * i
/-- 16#3200+i.0B PositionOffset. -/
abbrev positionOffset (i : Nat) : Nat := 0x32000B + 256 * i
/-- 16#3200+i.0C OffsetValid. -/
abbrev offsetValid (i : Nat) : Nat := 0x32000C + 256 * i
/-- 16#3200+i.0D ToneGapHigh. -/
abbrev toneGapHigh (i : Nat) : Nat := 0x32000D + 256 * i
/-- 16#3200+i.0E ToneGapLow. -/
abbrev toneGapLow (i : Nat) : Nat := 0x32000E + 256 * i
/-- 16#3200+i.0F SsiLayout. -/
abbrev ssiLayout (i : Nat) : Nat := 0x32000F + 256 * i
/-- 16#3200+i.10 SsiClock. -/
abbrev ssiClock (i : Nat) : Nat := 0x320010 + 256 * i
/-- 16#3200+i.11 SsiPeriod. -/
abbrev ssiPeriod (i : Nat) : Nat := 0x320011 + 256 * i
/-- 16#3200+i.12 SsiTimeout. -/
abbrev ssiTimeout (i : Nat) : Nat := 0x320012 + 256 * i
/-- 16#3200+i.13 SsiJumpLimit. -/
abbrev ssiJumpLimit (i : Nat) : Nat := 0x320013 + 256 * i
/-- 16#3200+i.14 SsiErrLimit. -/
abbrev ssiErrLimit (i : Nat) : Nat := 0x320014 + 256 * i
/-- 16#3200+i.15 IllegalLimit. -/
abbrev illegalLimit (i : Nat) : Nat := 0x320015 + 256 * i
/-- 16#3200+i.16 PairFaultTime. -/
abbrev pairFaultTime (i : Nat) : Nat := 0x320016 + 256 * i
/-- 16#3200+i.17 SpeedWindow. -/
abbrev speedWindow (i : Nat) : Nat := 0x320017 + 256 * i
/-- 16#3200+i.18 SpeedZeroTime. -/
abbrev speedZeroTime (i : Nat) : Nat := 0x320018 + 256 * i
/-- 16#3200+i.20 Position. -/
abbrev position (i : Nat) : Nat := 0x320020 + 256 * i
/-- 16#3200+i.21 InRev. -/
abbrev inRev (i : Nat) : Nat := 0x320021 + 256 * i
/-- 16#3200+i.22 RevCount. -/
abbrev revCount (i : Nat) : Nat := 0x320022 + 256 * i
/-- 16#3200+i.23 Speed. -/
abbrev speed (i : Nat) : Nat := 0x320023 + 256 * i
/-- 16#3200+i.24 FeedbackStatus. -/
abbrev feedbackStatus (i : Nat) : Nat := 0x320024 + 256 * i
/-- 16#3200+i.25 FeedbackFault. -/
abbrev feedbackFault (i : Nat) : Nat := 0x320025 + 256 * i
/-- 16#3200+i.26 RefSlipCount. -/
abbrev refSlipCount (i : Nat) : Nat := 0x320026 + 256 * i
/-- 16#3200+i.27 RefSlipRun. -/
abbrev refSlipRun (i : Nat) : Nat := 0x320027 + 256 * i
/-- 16#3200+i.28 LastRefError. -/
abbrev lastRefError (i : Nat) : Nat := 0x320028 + 256 * i
/-- 16#3200+i.29 IllegalCount. -/
abbrev illegalCount (i : Nat) : Nat := 0x320029 + 256 * i
/-- 16#3200+i.2A PairGlitchCount. -/
abbrev pairGlitchCount (i : Nat) : Nat := 0x32002A + 256 * i
/-- 16#3200+i.2B SsiErrCount. -/
abbrev ssiErrCount (i : Nat) : Nat := 0x32002B + 256 * i
/-- 16#3200+i.2C LastEdgeTime. -/
abbrev fbLastEdgeTime (i : Nat) : Nat := 0x32002C + 256 * i
/-- 16#3300+i.01 PwmFrequency. -/
abbrev axPwmFrequency (i : Nat) : Nat := 0x330001 + 256 * i
/-- 16#3300+i.02 DirGuard. -/
abbrev dirGuard (i : Nat) : Nat := 0x330002 + 256 * i
/-- 16#3300+i.03 ShuntScale. -/
abbrev shuntScale (i : Nat) : Nat := 0x330003 + 256 * i
/-- 16#3300+i.04 ITrip. -/
abbrev iTrip (i : Nat) : Nat := 0x330004 + 256 * i
/-- 16#3300+i.05 TargetWindow. -/
abbrev targetWindow (i : Nat) : Nat := 0x330005 + 256 * i
/-- 16#3300+i.06 HoldDuty. -/
abbrev holdDuty (i : Nat) : Nat := 0x330006 + 256 * i
/-- 16#3300+i.07 SpeedKp. -/
abbrev speedKp (i : Nat) : Nat := 0x330007 + 256 * i
/-- 16#3300+i.08 SpeedKi. -/
abbrev speedKi (i : Nat) : Nat := 0x330008 + 256 * i
/-- 16#3300+i.09 FeedForward. -/
abbrev feedForward (i : Nat) : Nat := 0x330009 + 256 * i
/-- 16#3300+i.0A DirErrCounts. -/
abbrev dirErrCounts (i : Nat) : Nat := 0x33000A + 256 * i
/-- 16#3300+i.0B UnrefDuty. -/
abbrev unrefDuty (i : Nat) : Nat := 0x33000B + 256 * i
/-- 16#3300+i.10 Profile0. -/
abbrev profile0 (i : Nat) : Nat := 0x330010 + 256 * i
/-- 16#3300+i.11 Profile1. -/
abbrev profile1 (i : Nat) : Nat := 0x330011 + 256 * i
/-- 16#3300+i.12 Profile2. -/
abbrev profile2 (i : Nat) : Nat := 0x330012 + 256 * i
/-- 16#3300+i.13 Profile3. -/
abbrev profile3 (i : Nat) : Nat := 0x330013 + 256 * i
/-- 16#3300+i.14 Profile4. -/
abbrev profile4 (i : Nat) : Nat := 0x330014 + 256 * i
/-- 16#3300+i.15 Profile5. -/
abbrev profile5 (i : Nat) : Nat := 0x330015 + 256 * i
/-- 16#3300+i.16 Profile6. -/
abbrev profile6 (i : Nat) : Nat := 0x330016 + 256 * i
/-- 16#3300+i.17 Profile7. -/
abbrev profile7 (i : Nat) : Nat := 0x330017 + 256 * i
/-- 16#3300+i.20 Duty. -/
abbrev duty (i : Nat) : Nat := 0x330020 + 256 * i
/-- 16#3300+i.21 CurrentMean. -/
abbrev currentMean (i : Nat) : Nat := 0x330021 + 256 * i
/-- 16#3300+i.22 SpeedRef. -/
abbrev speedRef (i : Nat) : Nat := 0x330022 + 256 * i
/-- 16#3400+i.01 EnvOpen. -/
abbrev envOpen (i : Nat) : Nat := 0x340001 + 256 * i
/-- 16#3400+i.02 EnvClose. -/
abbrev envClose (i : Nat) : Nat := 0x340002 + 256 * i
/-- 16#3400+i.03 EnvMarginRel. -/
abbrev envMarginRel (i : Nat) : Nat := 0x340003 + 256 * i
/-- 16#3400+i.04 EnvMarginAbs. -/
abbrev envMarginAbs (i : Nat) : Nat := 0x340004 + 256 * i
/-- 16#3400+i.05 EnvDebounce. -/
abbrev envDebounce (i : Nat) : Nat := 0x340005 + 256 * i
/-- 16#3400+i.06 SpeedDeficitRel. -/
abbrev speedDeficitRel (i : Nat) : Nat := 0x340006 + 256 * i
/-- 16#3400+i.07 NipDistance. -/
abbrev nipDistance (i : Nat) : Nat := 0x340007 + 256 * i
/-- 16#3400+i.08 SeedOpen. -/
abbrev seedOpen (i : Nat) : Nat := 0x340008 + 256 * i
/-- 16#3400+i.09 SeedClose. -/
abbrev seedClose (i : Nat) : Nat := 0x340009 + 256 * i
/-- 16#3400+i.0A LearnMode. -/
abbrev learnMode (i : Nat) : Nat := 0x34000A + 256 * i
/-- 16#3400+i.0B EnvCommand. -/
abbrev envCommand (i : Nat) : Nat := 0x34000B + 256 * i
/-- 16#3400+i.0C EnvState. -/
abbrev envState (i : Nat) : Nat := 0x34000C + 256 * i
/-- 16#3400+i.0D LearnCount. -/
abbrev learnCount (i : Nat) : Nat := 0x34000D + 256 * i
/-- 16#3400+i.0E LearnCapCount. -/
abbrev learnCapCount (i : Nat) : Nat := 0x34000E + 256 * i
/-- 16#3400+i.0F FixedIMax. -/
abbrev fixedIMax (i : Nat) : Nat := 0x34000F + 256 * i
/-- 16#3400+i.10 FixedIMaxNip. -/
abbrev fixedIMaxNip (i : Nat) : Nat := 0x340010 + 256 * i
/-- 16#3400+i.11 EndStopCurrent. -/
abbrev endStopCurrent (i : Nat) : Nat := 0x340011 + 256 * i
/-- 16#3400+i.12 EndStopTime. -/
abbrev endStopTime (i : Nat) : Nat := 0x340012 + 256 * i
/-- 16#3400+i.13 LastTrip. -/
abbrev lastTrip (i : Nat) : Nat := 0x340013 + 256 * i
/-- 16#3400+i.14 TripChannel1. -/
abbrev tripChannel1 (i : Nat) : Nat := 0x340014 + 256 * i
/-- 16#3400+i.15 TripChannel2. -/
abbrev tripChannel2 (i : Nat) : Nat := 0x340015 + 256 * i
/-- 16#3400+i.16 TripPolarity. -/
abbrev tripPolarity (i : Nat) : Nat := 0x340016 + 256 * i
/-- 16#3400+i.17 ArmDelay. -/
abbrev armDelay (i : Nat) : Nat := 0x340017 + 256 * i
/-- 16#3400+i.18 ObstacleCount. -/
abbrev obstacleCount (i : Nat) : Nat := 0x340018 + 256 * i
/-- 16#3500+i.01 LatchSource0. -/
abbrev latchSource0 (i : Nat) : Nat := 0x350001 + 256 * i
/-- 16#3500+i.02 LatchMode0. -/
abbrev latchMode0 (i : Nat) : Nat := 0x350002 + 256 * i
/-- 16#3500+i.03 LatchRecord0. -/
abbrev latchRecord0 (i : Nat) : Nat := 0x350003 + 256 * i
/-- 16#3500+i.04 LatchSource1. -/
abbrev latchSource1 (i : Nat) : Nat := 0x350004 + 256 * i
/-- 16#3500+i.05 LatchMode1. -/
abbrev latchMode1 (i : Nat) : Nat := 0x350005 + 256 * i
/-- 16#3500+i.06 LatchRecord1. -/
abbrev latchRecord1 (i : Nat) : Nat := 0x350006 + 256 * i
/-- 16#3500+i.07 LatchArm. -/
abbrev latchArm (i : Nat) : Nat := 0x350007 + 256 * i
/-- 16#3500+i.10 CompareList. -/
abbrev compareList (i : Nat) : Nat := 0x350010 + 256 * i
/-- 16#3500+i.11 CompareCount. -/
abbrev compareCount (i : Nat) : Nat := 0x350011 + 256 * i
/-- 16#3500+i.12 CompareOutput. -/
abbrev compareOutput (i : Nat) : Nat := 0x350012 + 256 * i
/-- 16#3500+i.13 PulseWidth. -/
abbrev pulseWidth (i : Nat) : Nat := 0x350013 + 256 * i
/-- 16#3500+i.14 CompareHyst. -/
abbrev compareHyst (i : Nat) : Nat := 0x350014 + 256 * i
/-- 16#3500+i.15 CompareMode. -/
abbrev compareMode (i : Nat) : Nat := 0x350015 + 256 * i
/-- 16#3500+i.16 CompareArm. -/
abbrev compareArm (i : Nat) : Nat := 0x350016 + 256 * i
/-- 16#3500+i.17 CompareStatus. -/
abbrev compareStatus (i : Nat) : Nat := 0x350017 + 256 * i
/-- 16#3500+i.18 ComparePulseCount. -/
abbrev comparePulseCount (i : Nat) : Nat := 0x350018 + 256 * i
/-- 16#4000+i.01 StateRecord. -/
abbrev stateRecord (i : Nat) : Nat := 0x400001 + 256 * i
/-- 16#6000+i.01 ChannelMode. -/
abbrev channelMode (i : Nat) : Nat := 0x600001 + 256 * i
/-- 16#6000+i.02 InputFilter. -/
abbrev inputFilter (i : Nat) : Nat := 0x600002 + 256 * i
/-- 16#6000+i.03 XcheckTime. -/
abbrev xcheckTime (i : Nat) : Nat := 0x600003 + 256 * i
/-- 16#6000+i.04 TestSource. -/
abbrev testSource (i : Nat) : Nat := 0x600004 + 256 * i
/-- 16#6000+i.05 TestPeriod. -/
abbrev testPeriod (i : Nat) : Nat := 0x600005 + 256 * i
/-- 16#6000+i.06 TestWidth. -/
abbrev testWidth (i : Nat) : Nat := 0x600006 + 256 * i
/-- 16#6000+i.07 DiagNoticeMask. -/
abbrev diagNoticeMask (i : Nat) : Nat := 0x600007 + 256 * i
/-- 16#6000+i.08 OutputSource. -/
abbrev outputSource (i : Nat) : Nat := 0x600008 + 256 * i
/-- 16#6000+i.09 OutputNoticeMask. -/
abbrev outputNoticeMask (i : Nat) : Nat := 0x600009 + 256 * i
/-- 16#6100+i.01 InputState. -/
abbrev inputState (i : Nat) : Nat := 0x610001 + 256 * i
/-- 16#6100+i.02 RawState. -/
abbrev rawState (i : Nat) : Nat := 0x610002 + 256 * i
/-- 16#6100+i.03 InputVoltage. -/
abbrev inputVoltage (i : Nat) : Nat := 0x610003 + 256 * i
/-- 16#6100+i.04 EdgeCount. -/
abbrev chEdgeCount (i : Nat) : Nat := 0x610004 + 256 * i
/-- 16#6100+i.05 LastEdgeTime. -/
abbrev chLastEdgeTime (i : Nat) : Nat := 0x610005 + 256 * i
/-- 16#6100+i.06 OutputDemand. -/
abbrev outputDemand (i : Nat) : Nat := 0x610006 + 256 * i
/-- 16#6100+i.07 LoadCurrent. -/
abbrev loadCurrent (i : Nat) : Nat := 0x610007 + 256 * i
/-- 16#6100+i.08 EffectiveDuty. -/
abbrev effectiveDuty (i : Nat) : Nat := 0x610008 + 256 * i
/-- 16#6100+i.09 OutputFlags. -/
abbrev outputFlags (i : Nat) : Nat := 0x610009 + 256 * i
/-- 16#6100+i.0A OutputReset. -/
abbrev outputReset (i : Nat) : Nat := 0x61000A + 256 * i
/-- 16#6200+i.01 DiagStatus. -/
abbrev diagStatus (i : Nat) : Nat := 0x620001 + 256 * i
/-- 16#6200+i.02 DiagSticky. -/
abbrev diagSticky (i : Nat) : Nat := 0x620002 + 256 * i
/-- 16#6200+i.03 XcheckCount. -/
abbrev xcheckCount (i : Nat) : Nat := 0x620003 + 256 * i
/-- 16#6200+i.04 WireBreakCount. -/
abbrev wireBreakCount (i : Nat) : Nat := 0x620004 + 256 * i
/-- 16#6200+i.05 OverTempCount. -/
abbrev overTempCount (i : Nat) : Nat := 0x620005 + 256 * i
/-- 16#6200+i.06 OverloadCount. -/
abbrev overloadCount (i : Nat) : Nat := 0x620006 + 256 * i
/-- 16#6300+i.01 ClampEnergyLast. -/
abbrev clampEnergyLast (i : Nat) : Nat := 0x630001 + 256 * i
/-- 16#6300+i.02 ClampEnergyAcc. -/
abbrev clampEnergyAcc (i : Nat) : Nat := 0x630002 + 256 * i
/-- 16#6300+i.03 ClampEnergyTotal. -/
abbrev clampEnergyTotal (i : Nat) : Nat := 0x630003 + 256 * i
/-- 16#6300+i.04 SwitchOnCount. -/
abbrev switchOnCount (i : Nat) : Nat := 0x630004 + 256 * i
/-- 16#6300+i.05 OnSeconds. -/
abbrev onSeconds (i : Nat) : Nat := 0x630005 + 256 * i
/-- 16#6300+i.06 TripCount. -/
abbrev tripCount (i : Nat) : Nat := 0x630006 + 256 * i
/-- 16#6300+i.07 ThermalOffCount. -/
abbrev thermalOffCount (i : Nat) : Nat := 0x630007 + 256 * i
/-- 16#6300+i.08 LockCount. -/
abbrev lockCount (i : Nat) : Nat := 0x630008 + 256 * i
/-- 16#6400+i.01 TripCurrent. -/
abbrev tripCurrent (i : Nat) : Nat := 0x640001 + 256 * i
/-- 16#6400+i.02 LoadType. -/
abbrev loadType (i : Nat) : Nat := 0x640002 + 256 * i
/-- 16#6400+i.03 TurnOffMode. -/
abbrev turnOffMode (i : Nat) : Nat := 0x640003 + 256 * i
/-- 16#6400+i.04 ClampBudget. -/
abbrev clampBudget (i : Nat) : Nat := 0x640004 + 256 * i
/-- 16#6400+i.05 ClampDecay. -/
abbrev clampDecay (i : Nat) : Nat := 0x640005 + 256 * i
/-- 16#6400+i.06 ThermalRetryLimit. -/
abbrev thermalRetryLimit (i : Nat) : Nat := 0x640006 + 256 * i
/-- 16#6400+i.07 PwmFrequency. -/
abbrev chPwmFrequency (i : Nat) : Nat := 0x640007 + 256 * i
/-- 16#6400+i.08 OrphanState. -/
abbrev orphanState (i : Nat) : Nat := 0x640008 + 256 * i
/-- 16#6400+i.09 OpenLoadCheck. -/
abbrev openLoadCheck (i : Nat) : Nat := 0x640009 + 256 * i
/-- 16#6400+i.0A OpenLoadOnCurrent. -/
abbrev openLoadOnCurrent (i : Nat) : Nat := 0x64000A + 256 * i
/-- 16#6400+i.0B DirectPin. -/
abbrev directPin (i : Nat) : Nat := 0x64000B + 256 * i
/-- 16#6400+i.0C RearmOnDemand. -/
abbrev rearmOnDemand (i : Nat) : Nat := 0x64000C + 256 * i

end Sys2Proof.Obj
end

