-- ==== Sys2Proof/Machine/Objects.lean ====
section
/-!
DEFINITION. Machine/Objects.lean: the object dictionary's descriptors (R165 to R170, 09_object_dictionary.md),
one row per row of the "Objects of this chapter" tables, and the factory defaults that depend on the variant.
-/
namespace Sys2Proof.Machine
open Sys2Proof Sys2Proof.Config

/-- Data types of the table "Data types" that the object tables use (R167). `u`/`i` carry their bytes. -/
inductive Ty where
  | bool | u (bytes : Nat) | i (bytes : Nat) | oct (bytes : Nat) | dom
  deriving DecidableEq, Repr

/-- Access classes (table "Access classes", R169). `rws n` names SEMn; `rwsOwner` names the semaphore of
the owning function. -/
inductive Acc where
  | const | ro | wo | rw | rwd | rws (sem : Nat) | rwsOwner
  deriving DecidableEq, Repr

/-- Qualifiers of an object's entry (R169 to R173). -/
inductive Flag where
  /-- addressed only by CMD -/
  | cmd
  /-- written only by a burst -/
  | burst
  /-- write 1 to clear -/
  | w1c
  /-- held separately for each session -/
  | session
  /-- the master must be bound to F0 -/
  | needF0
  /-- the writer must hold SEMn -/
  | sem (n : Nat)
  /-- the writer must hold the semaphore of the owning function -/
  | semOwn
  /-- the maintainer flag is required -/
  | maintainer
  /-- only a session on the local host link may write (R215) -/
  | localLink
  /-- only the session bound to the slot that the index names -/
  | slotSession
  /-- FunctionControl, whose writer R253 names -/
  | fnControl
  /-- the default depends on the variant or on the unit -/
  | fac
  deriving DecidableEq, Repr

/-- The values a write may carry (R168): outside the range 16#0204, inside but not permitted 16#0205. -/
inductive Rng where
  | any
  | rng (lo hi step : Nat)
  | srng (lo hi : Int)
  | mask (m : Nat)
  | only (v : Nat)
  | oneOf (lo hi extra : Nat)
  deriving DecidableEq, Repr

/-- Persistence classes (table "Persistence classes", R174). -/
inductive Pers where
  | v | p | f | j
  deriving DecidableEq, Repr

/-- The "Absent in" column, as a condition on the variant and the index offset (R8). -/
inductive Absent where
  | none | axis | axisNotE | axisNotP | chan | die | notT | setp | inE | seqE | seqE2 | tab2 | state2
  | portE | fnE | q7E
  deriving DecidableEq, Repr

/-- What owns an object (R170): a resource of a function's mask, or F0. -/
inductive Owner where
  | f0 | axis | chan | pin | set | set2 | table | state
  deriving DecidableEq, Repr

/-- One subindex of an index or index range. -/
structure Sub where
  sub : Nat
  ty : Ty
  acc : Acc
  flags : List Flag
  rng : Rng
  per : Pers
  vaon : Bool
  absent : Absent
  owner : Owner
  dflt : Nat
  deriving DecidableEq, Repr

/-- An index range `lo` to `lo + n - 1` with the same subindices. -/
structure Group where
  lo : Nat
  n : Nat
  subs : List Sub
  deriving DecidableEq, Repr


/-- Rows of the object tables from index 16#1000 (R166, R169, R174). -/
def objGroups0 : List Group := [
  ⟨0x1000, 1, [
    ⟨0x01, .u 4, .const, [], .any, .f, false, .none, .f0, 4607563⟩ /- VendorId -/,
    ⟨0x02, .u 4, .const, [.fac], .any, .f, false, .none, .f0, 0⟩ /- ProductCode -/,
    ⟨0x03, .u 1, .const, [.fac], .any, .f, false, .none, .f0, 84⟩ /- FeatureCode -/,
    ⟨0x04, .oct 8, .const, [.fac], .any, .f, false, .none, .f0, 0⟩ /- SerialNumber -/,
    ⟨0x05, .u 2, .const, [.fac], .any, .f, false, .none, .f0, 0⟩ /- DieRevision -/,
    ⟨0x06, .u 2, .const, [], .any, .f, false, .none, .f0, 1⟩ /- DictionaryVersion -/]⟩,
  ⟨0x1001, 1, [
    ⟨0x01, .u 4, .const, [.fac], .any, .f, false, .none, .f0, 0⟩ /- AxisMask -/,
    ⟨0x02, .u 1, .const, [.fac], .any, .f, false, .none, .f0, 0⟩ /- FieldDieMask -/,
    ⟨0x03, .u 4, .const, [.fac], .any, .f, false, .none, .f0, 0⟩ /- FeatureMask -/,
    ⟨0x04, .u 1, .const, [.fac], .any, .f, false, .none, .f0, 255⟩ /- FunctionMask -/]⟩,
  ⟨0x1002, 1, [
    ⟨0x01, .u 1, .ro, [], .any, .v, false, .none, .f0, 0⟩ /- NodeState -/,
    ⟨0x02, .u 4, .ro, [], .any, .v, false, .none, .f0, 0⟩ /- BlockHealth -/,
    ⟨0x03, .u 4, .ro, [], .any, .v, false, .none, .f0, 0⟩ /- LoopCloseCount -/,
    ⟨0x04, .u 4, .ro, [], .any, .v, false, .none, .f0, 0⟩ /- LastLoopOpenTime -/]⟩,
  ⟨0x1003, 1, [
    ⟨0x01, .u 1, .wo, [.needF0, (.sem 0)], (.only 165), .v, false, .none, .f0, 0⟩ /- RestoreDefaults -/,
    ⟨0x02, .u 4, .ro, [], .any, .j, false, .none, .f0, 0⟩ /- StoreCount -/,
    ⟨0x03, .u 4, .ro, [], .any, .v, false, .none, .f0, 0⟩ /- UnstoredWrites -/]⟩,
  ⟨0x1100, 1, [
    ⟨0x01, .u 2, (.rws 0), [], (.rng 50 5000 1), .p, false, .none, .f0, 300⟩ /- SessionTimeout -/,
    ⟨0x02, .u 2, (.rws 0), [], (.rng 0 10000 1), .p, false, .none, .f0, 500⟩ /- SemaHoldOff -/,
    ⟨0x05, .u 1, (.rws 0), [], (.rng 1 20 1), .p, false, .none, .f0, 5⟩ /- AuthFailLimit -/]⟩,
  ⟨0x1101, 2, [
    ⟨0x01, .u 1, .ro, [], (.rng 0 3 1), .v, false, .none, .f0, 0⟩ /- SlotState -/,
    ⟨0x02, .u 1, .ro, [], .any, .v, false, .none, .f0, 0⟩ /- Transport -/,
    ⟨0x03, .bool, .rw, [.localLink, (.sem 0)], .any, .p, false, .none, .f0, 0⟩ /- Maintainer -/,
    ⟨0x04, .oct 6, .ro, [], .any, .v, false, .none, .f0, 0⟩ /- PeerAddress -/,
    ⟨0x05, .u 2, .ro, [], .any, .v, false, .none, .f0, 0⟩ /- SessionId -/,
    ⟨0x06, .u 4, .ro, [], .any, .v, false, .none, .f0, 0⟩ /- OpenCount -/,
    ⟨0x07, .u 4, .ro, [], .any, .v, false, .none, .f0, 0⟩ /- LostCount -/,
    ⟨0x08, .u 1, .wo, [(.sem 0)], (.only 165), .v, false, .none, .f0, 0⟩ /- SlotReset -/,
    ⟨0x09, .u 4, .ro, [], .any, .v, false, .none, .f0, 0⟩ /- DroppedTransactions -/,
    ⟨0x0A, .u 4, .ro, [], .any, .v, false, .none, .f0, 0⟩ /- DiscardedCompletions -/,
    ⟨0x0B, .u 2, .ro, [], .any, .v, false, .none, .f0, 0⟩ /- InFlight -/,
    ⟨0x0C, .u 1, .ro, [], (.rng 0 6 1), .v, false, .none, .f0, 0⟩ /- LastEndCause -/]⟩,
  ⟨0x1104, 6, [
    ⟨0x01, .u 1, .ro, [], (.rng 0 2 1), .v, false, .none, .f0, 0⟩ /- PlaceState -/,
    ⟨0x02, .u 1, .ro, [], .any, .v, false, .none, .f0, 0⟩ /- Transport -/,
    ⟨0x04, .oct 6, .ro, [], .any, .v, false, .none, .f0, 0⟩ /- PeerAddress -/,
    ⟨0x05, .u 2, .ro, [], .any, .v, false, .none, .f0, 0⟩ /- SessionId -/]⟩,
  ⟨0x110C, 1, [
    ⟨0x01, .u 1, .ro, [], .any, .v, false, .none, .f0, 1⟩ /- LinkStatus -/,
    ⟨0x02, .u 4, .ro, [], .any, .v, false, .none, .f0, 0⟩ /- HeaderErrors -/,
    ⟨0x03, .u 4, .ro, [], .any, .v, false, .none, .f0, 0⟩ /- FrameErrors -/]⟩,
  ⟨0x1110, 1, [
    ⟨0x01, .oct 32, .wo, [.needF0, (.sem 0)], .any, .p, false, .none, .f0, 0⟩ /- KeyM0 -/,
    ⟨0x02, .oct 32, .wo, [.needF0, (.sem 0)], .any, .p, false, .none, .f0, 0⟩ /- KeyM1 -/,
    ⟨0x03, .oct 32, .wo, [.needF0, (.sem 0)], .any, .p, false, .none, .f0, 0⟩ /- KeyObserver -/,
    ⟨0x04, .u 2, .ro, [], .any, .v, false, .none, .f0, 0⟩ /- KeyCheck0 -/,
    ⟨0x05, .u 2, .ro, [], .any, .v, false, .none, .f0, 0⟩ /- KeyCheck1 -/,
    ⟨0x06, .u 2, .ro, [], .any, .v, false, .none, .f0, 0⟩ /- KeyCheck2 -/,
    ⟨0x07, .u 4, .ro, [], .any, .v, false, .none, .f0, 0⟩ /- KeyWriteNo -/,
    ⟨0x08, .bool, (.rws 0), [], .any, .p, false, .none, .f0, 0⟩ /- ProvisionLock -/]⟩]

/-- Rows of the object tables from index 16#1111 (R166, R169, R174). -/
def objGroups1 : List Group := [
  ⟨0x1111, 1, [
    ⟨0x01, .u 4, .ro, [], .any, .v, false, .none, .f0, 0⟩ /- AuthFailCount -/,
    ⟨0x02, .u 4, .ro, [], .any, .v, false, .none, .f0, 0⟩ /- TagFailCount -/,
    ⟨0x03, .u 4, .ro, [], .any, .v, false, .none, .f0, 0⟩ /- UnknownFrames -/,
    ⟨0x04, .u 4, .ro, [], .any, .v, false, .none, .f0, 0⟩ /- ReplayCount -/]⟩,
  ⟨0x1120, 1, [
    ⟨0x01, .oct 16, .ro, [], .any, .v, false, .none, .f0, 0⟩ /- SemaHolders -/,
    ⟨0x02, .oct 16, .ro, [], .any, .v, false, .none, .f0, 0⟩ /- SemaWaiters -/]⟩,
  ⟨0x1140, 2, [
    ⟨0x01, .oct 64, .ro, [.slotSession], .any, .v, false, .none, .f0, 0⟩ /- InFlightTags -/,
    ⟨0x02, .oct 768, .ro, [.slotSession], .any, .v, false, .none, .f0, 0⟩ /- CompletionEcho -/,
    ⟨0x03, .u 2, .ro, [], .any, .v, false, .none, .f0, 1⟩ /- SafetyExpected -/,
    ⟨0x04, .u 1, .ro, [], .any, .v, false, .none, .f0, 0⟩ /- BurstState -/,
    ⟨0x05, .u 1, .ro, [], .any, .v, false, .none, .f0, 0⟩ /- BurstSegments -/,
    ⟨0x06, .u 2, .ro, [], .any, .v, false, .none, .f0, 0⟩ /- BurstBytes -/,
    ⟨0x07, .u 4, .ro, [], .any, .v, false, .none, .f0, 0⟩ /- AdmittedCount -/,
    ⟨0x08, .u 4, .ro, [], .any, .v, false, .none, .f0, 0⟩ /- RefusedCount -/]⟩,
  ⟨0x1148, 1, [
    ⟨0x01, .u 2, (.rws 0), [], (.rng 50 5000 1), .p, false, .none, .f0, 500⟩ /- SafetyTimeout -/,
    ⟨0x02, .u 2, (.rws 0), [], (.rng 100 60000 1), .p, false, .none, .f0, 10000⟩ /- BurstIdleTime -/,
    ⟨0x03, .u 2, (.rws 0), [], (.rng 10 1000 1), .p, false, .none, .f0, 100⟩ /- NoticeRetry -/,
    ⟨0x04, .u 2, (.rws 0), [], (.rng 0 1000 1), .p, false, .none, .f0, 100⟩ /- CompletionDelay -/,
    ⟨0x05, .u 2, .ro, [], .any, .v, false, .none, .f0, 0⟩ /- DeviceInFlight -/,
    ⟨0x06, .u 4, .ro, [], .any, .v, false, .none, .f0, 0⟩ /- MalformedFrames -/,
    ⟨0x07, .u 4, .ro, [], .any, .v, false, .none, .f0, 0⟩ /- SafetyFailCount -/,
    ⟨0x08, .u 4, .ro, [], .any, .v, false, .none, .f0, 0⟩ /- BurstExpiredCount -/,
    ⟨0x09, .u 4, .ro, [], .any, .v, false, .none, .f0, 0⟩ /- NoticeAckErrors -/]⟩,
  ⟨0x1200, 1, [
    ⟨0x01, .oct 6, .const, [.fac], .any, .f, false, .none, .f0, 0⟩ /- MacAddress -/,
    ⟨0x02, .u 2, .rw, [], (.rng 64 1522 1), .p, false, .none, .f0, 64⟩ /- CutThroughRx -/,
    ⟨0x03, .u 2, .rw, [], (.rng 64 1522 1), .p, false, .none, .f0, 128⟩ /- CutThroughTx -/,
    ⟨0x04, .u 2, .rw, [], (.rng 1 1000 1), .p, false, .none, .f0, 50⟩ /- FrameMaxAge -/,
    ⟨0x05, .u 1, .rw, [], (.rng 0 2 1), .p, false, .none, .f0, 0⟩ /- BlockedPort -/,
    ⟨0x06, .u 2, .rw, [], (.rng 10 3600 1), .p, false, .none, .f0, 300⟩ /- LearnAgeing -/,
    ⟨0x07, .u 2, .ro, [], .any, .v, false, .none, .f0, 512⟩ /- BufferFree -/,
    ⟨0x08, .u 2, .ro, [], .any, .v, false, .none, .f0, 0⟩ /- LearnedCount -/,
    ⟨0x09, .u 1, .wo, [], (.only 1), .v, false, .none, .f0, 0⟩ /- FlushLearned -/]⟩,
  ⟨0x1201, 2, [
    ⟨0x01, .bool, (.rws 0), [], .any, .p, false, .portE, .f0, 1⟩ /- AutoNeg -/,
    ⟨0x02, .bool, .rw, [], .any, .p, false, .portE, .f0, 1⟩ /- EeeEnable -/,
    ⟨0x03, .u 1, .rw, [], (.rng 0 7 1), .p, false, .portE, .f0, 0⟩ /- DefaultPcp -/,
    ⟨0x04, .u 2, .rw, [], (.rng 1 4094 1), .p, false, .portE, .f0, 1⟩ /- Pvid -/,
    ⟨0x05, .u 2, .ro, [], .any, .v, false, .portE, .f0, 0⟩ /- PortStatus -/,
    ⟨0x06, .u 1, .wo, [(.sem 0)], (.only 165), .v, false, .portE, .f0, 0⟩ /- PortReset -/]⟩,
  ⟨0x1204, 2, [
    ⟨0x01, .u 4, .ro, [], .any, .v, false, .portE, .f0, 0⟩ /- RxFrames -/,
    ⟨0x02, .u 4, .ro, [], .any, .v, false, .portE, .f0, 0⟩ /- TxFrames -/,
    ⟨0x03, .u 8, .ro, [], .any, .v, false, .portE, .f0, 0⟩ /- RxOctets -/,
    ⟨0x04, .u 8, .ro, [], .any, .v, false, .portE, .f0, 0⟩ /- TxOctets -/,
    ⟨0x05, .u 4, .ro, [], .any, .v, false, .portE, .f0, 0⟩ /- RxFcsErrors -/,
    ⟨0x06, .u 4, .ro, [], .any, .v, false, .portE, .f0, 0⟩ /- RxRunts -/,
    ⟨0x07, .u 4, .ro, [], .any, .v, false, .portE, .f0, 0⟩ /- RxTooLong -/,
    ⟨0x08, .u 4, .ro, [], .any, .v, false, .portE, .f0, 0⟩ /- DiscardVlan -/,
    ⟨0x09, .u 4, .ro, [], .any, .v, false, .portE, .f0, 0⟩ /- DiscardBlocked -/,
    ⟨0x0A, .u 4, .ro, [], .any, .v, false, .portE, .f0, 0⟩ /- DiscardBuffer -/,
    ⟨0x0B, .u 4, .ro, [], .any, .v, false, .portE, .f0, 0⟩ /- DiscardAge -/,
    ⟨0x0C, .u 4, .ro, [], .any, .v, false, .portE, .f0, 0⟩ /- TxStomped -/,
    ⟨0x0D, .u 4, .ro, [], .any, .v, false, .portE, .f0, 0⟩ /- LinkDownCount -/,
    ⟨0x0E, .u 4, .ro, [], .any, .v, false, .portE, .f0, 0⟩ /- LpiTxEntries -/,
    ⟨0x0F, .u 4, .ro, [], .any, .v, false, .portE, .f0, 0⟩ /- DiscardReserved -/]⟩]

/-- Rows of the object tables from index 16#1210 (R166, R169, R174). -/
def objGroups2 : List Group := [
  ⟨0x1210, 1, [
    ⟨0x01, .bool, (.rws 0), [], .any, .p, false, .none, .f0, 0⟩ /- VlanFiltering -/,
    ⟨0x02, .u 2, (.rws 0), [], (.rng 0 4094 1), .p, false, .none, .f0, 0⟩ /- ManagementVid -/,
    ⟨0x03, .u 1, .rw, [], (.rng 0 7 1), .p, false, .none, .f0, 5⟩ /- OwnPcp -/,
    ⟨0x10, .oct 4, (.rws 0), [], .any, .p, false, .none, .f0, 0⟩ /- VlanEntry0 -/,
    ⟨0x11, .oct 4, (.rws 0), [], .any, .p, false, .none, .f0, 0⟩ /- VlanEntry1 -/,
    ⟨0x12, .oct 4, (.rws 0), [], .any, .p, false, .none, .f0, 0⟩ /- VlanEntry2 -/,
    ⟨0x13, .oct 4, (.rws 0), [], .any, .p, false, .none, .f0, 0⟩ /- VlanEntry3 -/,
    ⟨0x14, .oct 4, (.rws 0), [], .any, .p, false, .none, .f0, 0⟩ /- VlanEntry4 -/,
    ⟨0x15, .oct 4, (.rws 0), [], .any, .p, false, .none, .f0, 0⟩ /- VlanEntry5 -/,
    ⟨0x16, .oct 4, (.rws 0), [], .any, .p, false, .none, .f0, 0⟩ /- VlanEntry6 -/,
    ⟨0x17, .oct 4, (.rws 0), [], .any, .p, false, .none, .f0, 0⟩ /- VlanEntry7 -/,
    ⟨0x18, .oct 4, (.rws 0), [], .any, .p, false, .none, .f0, 0⟩ /- VlanEntry8 -/,
    ⟨0x19, .oct 4, (.rws 0), [], .any, .p, false, .none, .f0, 0⟩ /- VlanEntry9 -/,
    ⟨0x1A, .oct 4, (.rws 0), [], .any, .p, false, .none, .f0, 0⟩ /- VlanEntry10 -/,
    ⟨0x1B, .oct 4, (.rws 0), [], .any, .p, false, .none, .f0, 0⟩ /- VlanEntry11 -/,
    ⟨0x1C, .oct 4, (.rws 0), [], .any, .p, false, .none, .f0, 0⟩ /- VlanEntry12 -/,
    ⟨0x1D, .oct 4, (.rws 0), [], .any, .p, false, .none, .f0, 0⟩ /- VlanEntry13 -/,
    ⟨0x1E, .oct 4, (.rws 0), [], .any, .p, false, .none, .f0, 0⟩ /- VlanEntry14 -/,
    ⟨0x1F, .oct 4, (.rws 0), [], .any, .p, false, .none, .f0, 0⟩ /- VlanEntry15 -/]⟩,
  ⟨0x1220, 1, [
    ⟨0x01, .u 1, (.rws 0), [], (.rng 0 2 1), .p, false, .none, .f0, 1⟩ /- BypassMode -/,
    ⟨0x02, .u 1, .ro, [], .any, .v, false, .none, .f0, 0⟩ /- BypassState -/,
    ⟨0x03, .u 2, (.rws 0), [], (.rng 0 10000 1), .p, false, .none, .f0, 0⟩ /- InsertLinkTime -/,
    ⟨0x04, .u 1, (.rws 0), [], (.rng 0 1 1), .p, false, .inE, .f0, 1⟩ /- InsertLinkRule -/,
    ⟨0x05, .u 1, .wo, [], (.only 1), .v, false, .none, .f0, 0⟩ /- InsertGrant -/,
    ⟨0x06, .u 4, .ro, [], .any, .v, false, .none, .f0, 0⟩ /- InsertCount -/,
    ⟨0x07, .u 4, .ro, [], .any, .v, false, .none, .f0, 0⟩ /- InsertFailCount -/,
    ⟨0x08, .u 1, .ro, [], .any, .v, false, .none, .f0, 0⟩ /- BypassFault -/,
    ⟨0x09, .u 4, .ro, [], .any, .v, false, .none, .f0, 0⟩ /- LastInsertTime -/,
    ⟨0x0A, .u 2, (.rws 0), [], (.rng 1 320 1), .p, false, .none, .f0, 10⟩ /- InsertRetryDelay -/]⟩,
  ⟨0x1230, 1, [
    ⟨0x01, .bool, (.rws 0), [], .any, .p, false, .none, .f0, 1⟩ /- PtpEnable -/,
    ⟨0x02, .u 1, (.rws 0), [], (.rng 0 127 1), .p, false, .none, .f0, 0⟩ /- PtpDomain -/,
    ⟨0x03, .u 1, (.rws 0), [], (.rng 0 2 1), .p, false, .none, .f0, 2⟩ /- PtpTransport -/,
    ⟨0x04, .bool, (.rws 0), [], .any, .p, false, .inE, .f0, 1⟩ /- TcEnable -/,
    ⟨0x05, .oct 2, .ro, [], .any, .v, false, .none, .f0, 0⟩ /- OcPortState -/,
    ⟨0x06, .oct 10, .ro, [], .any, .v, false, .none, .f0, 0⟩ /- ParentPortIdentity -/,
    ⟨0x07, .u 4, .ro, [], .any, .v, false, .inE, .f0, 0⟩ /- TcCorrected -/,
    ⟨0x08, .u 4, .ro, [], .any, .v, false, .inE, .f0, 0⟩ /- TcUncorrected -/,
    ⟨0x09, .i 8, .ro, [], .any, .v, false, .none, .f0, 0⟩ /- OffsetFromMaster -/,
    ⟨0x0A, .i 8, .ro, [], .any, .v, false, .none, .f0, 0⟩ /- MeanPathDelay -/]⟩,
  ⟨0x1240, 1, [
    ⟨0x01, .u 4, (.rws 0), [], .any, .p, false, .none, .f0, 3232251146⟩ /- IpAddress -/,
    ⟨0x02, .u 4, (.rws 0), [], .any, .p, false, .none, .f0, 4294967040⟩ /- NetMask -/,
    ⟨0x03, .u 4, (.rws 0), [], .any, .p, false, .none, .f0, 0⟩ /- Gateway -/,
    ⟨0x04, .u 2, (.rws 0), [], .any, .p, false, .none, .f0, 47380⟩ /- DulasPort -/,
    ⟨0x05, .u 4, (.rws 0), [], .any, .p, false, .none, .f0, 4022353153⟩ /- NoticeGroup -/,
    ⟨0x06, .u 1, (.rws 0), [], (.rng 1 255 1), .p, false, .none, .f0, 1⟩ /- NoticeTtl -/]⟩,
  ⟨0x1300, 15, [
    ⟨0x01, .u 4, .const, [.fac], .any, .f, false, .q7E, .f0, 0⟩ /- Capacity -/,
    ⟨0x02, .u 4, .ro, [], .any, .v, false, .q7E, .f0, 0⟩ /- Fill -/,
    ⟨0x03, .u 4, .ro, [], .any, .v, false, .q7E, .f0, 0⟩ /- PeakFill -/,
    ⟨0x04, .u 4, (.rws 0), [.fac], .any, .p, false, .q7E, .f0, 75⟩ /- HighWeir -/,
    ⟨0x05, .u 4, (.rws 0), [.fac], .any, .p, false, .q7E, .f0, 25⟩ /- LowWeir -/,
    ⟨0x06, .u 1, .rw, [.w1c], .any, .v, false, .q7E, .f0, 1⟩ /- WeirStatus -/,
    ⟨0x07, .u 4, .ro, [], .any, .v, false, .q7E, .f0, 0⟩ /- HighCrossCount -/,
    ⟨0x08, .u 4, .ro, [], .any, .v, false, .q7E, .f0, 0⟩ /- LowCrossCount -/,
    ⟨0x09, .u 1, (.rws 0), [], (.mask 3), .p, false, .q7E, .f0, 1⟩ /- WeirControl -/,
    ⟨0x0A, .u 4, .ro, [], .any, .v, false, .q7E, .f0, 0⟩ /- SuppressedNotices -/,
    ⟨0x0B, .u 4, .ro, [], .any, .v, false, .q7E, .f0, 0⟩ /- CorrectedErrors -/,
    ⟨0x0C, .u 4, .ro, [], .any, .v, false, .q7E, .f0, 0⟩ /- UncorrectedErrors -/,
    ⟨0x0D, .u 4, .ro, [], .any, .v, false, .q7E, .f0, 0⟩ /- ErrorWord -/]⟩]

/-- Rows of the object tables from index 16#1320 (R166, R169, R174). -/
def objGroups3 : List Group := [
  ⟨0x1320, 1, [
    ⟨0x01, .u 2, (.rws 0), [], (.rng 10 10000 1), .p, false, .none, .f0, 100⟩ /- WeirNoticeInterval -/,
    ⟨0x02, .u 2, (.rws 0), [], (.rng 0 1024 1), .p, false, .none, .f0, 256⟩ /- NoticeReserve -/,
    ⟨0x03, .u 2, (.rws 0), [], (.rng 16 4096 1), .p, false, .none, .f0, 512⟩ /- NoticeSourceLimit -/,
    ⟨0x04, .u 4, .ro, [], .any, .v, false, .none, .f0, 0⟩ /- FoldCount -/,
    ⟨0x05, .u 4, .ro, [], .any, .v, false, .none, .f0, 0⟩ /- NoticeSafetyLost -/,
    ⟨0x06, .u 4, .ro, [], .any, .v, false, .none, .f0, 0⟩ /- NiIngressDiscards -/]⟩,
  ⟨0x1400, 1, [
    ⟨0x01, .u 2, .ro, [], .any, .v, false, .none, .f0, 0⟩ /- VcoreVoltage -/,
    ⟨0x02, .u 2, .ro, [], .any, .v, false, .none, .f0, 0⟩ /- VauxVoltage -/,
    ⟨0x03, .u 2, .ro, [], .any, .v, false, .none, .f0, 0⟩ /- VioVoltage -/,
    ⟨0x04, .u 2, .ro, [], .any, .v, false, .none, .f0, 0⟩ /- VphyVoltage -/,
    ⟨0x05, .u 2, .ro, [], .any, .v, false, .none, .f0, 0⟩ /- VaonVoltage -/,
    ⟨0x06, .u 1, .ro, [], .any, .v, false, .none, .f0, 0⟩ /- RailStatus -/,
    ⟨0x07, .u 1, .ro, [], (.mask 15), .v, false, .none, .f0, 0⟩ /- PenLevels -/]⟩,
  ⟨0x1402, 1, [
    ⟨0x01, .u 2, .ro, [], .any, .v, false, .none, .f0, 0⟩ /- VmainVoltage -/,
    ⟨0x02, .u 2, (.rws 3), [], (.rng 8000 60000 1), .p, false, .none, .f0, 19000⟩ /- MainOkVoltage -/,
    ⟨0x03, .u 2, (.rws 3), [], (.rng 8000 59000 1), .p, false, .none, .f0, 16000⟩ /- MainFailVoltage -/,
    ⟨0x04, .u 2, (.rws 3), [], (.rng 100 10000 1), .p, false, .none, .f0, 1000⟩ /- MainFailTime -/,
    ⟨0x05, .u 1, .ro, [], .any, .v, false, .none, .f0, 0⟩ /- PathState -/,
    ⟨0x06, .u 1, .ro, [.fac], .any, .v, false, .none, .f0, 13⟩ /- PathFlags -/,
    ⟨0x07, .u 4, .ro, [], .any, .v, false, .none, .f0, 0⟩ /- MainFailCount -/,
    ⟨0x08, .u 4, .ro, [], .any, .v, false, .none, .f0, 0⟩ /- CrossoverCount -/,
    ⟨0x09, .u 4, .ro, [], .any, .v, false, .none, .f0, 0⟩ /- LastReserveTime -/,
    ⟨0x0A, .u 2, (.rws 3), [], (.rng 0 3600 1), .p, false, .notT, .f0, 120⟩ /- RideThroughTime -/,
    ⟨0x0B, .u 2, (.rws 3), [], (.rng 10000 60000 1), .p, false, .none, .f0, 58000⟩ /- MainOvVoltage -/]⟩,
  ⟨0x1410, 1, [
    ⟨0x01, .u 1, (.rws 3), [], (.rng 0 1 1), .p, false, .notT, .f0, 0⟩ /- Chemistry -/,
    ⟨0x02, .u 1, (.rws 3), [], (.rng 0 16 1), .p, false, .notT, .f0, 0⟩ /- CellCount -/,
    ⟨0x03, .u 2, (.rws 3), [], (.rng 1 10000 1), .p, false, .notT, .f0, 100⟩ /- CellCapacitance -/,
    ⟨0x04, .u 2, (.rws 3), [], .any, .p, false, .notT, .f0, 200⟩ /- CellCapacity -/,
    ⟨0x05, .u 2, (.rws 3), [.fac], .any, .p, false, .notT, .f0, 0⟩ /- CellFullVoltage -/,
    ⟨0x06, .u 2, (.rws 3), [.fac], .any, .p, false, .notT, .f0, 0⟩ /- CellOvVoltage -/,
    ⟨0x07, .u 2, (.rws 3), [.fac], .any, .p, false, .notT, .f0, 0⟩ /- CellUvVoltage -/,
    ⟨0x08, .u 2, (.rws 3), [.fac], .any, .p, false, .notT, .f0, 0⟩ /- BalanceStart -/,
    ⟨0x09, .u 2, (.rws 3), [.fac], .any, .p, false, .notT, .f0, 0⟩ /- BalanceDelta -/,
    ⟨0x0A, .u 2, (.rws 3), [], .any, .p, false, .notT, .f0, 16000⟩ /- ReserveMinVoltage -/,
    ⟨0x0B, .u 2, (.rws 3), [], (.rng 0 4095 1), .p, false, .notT, .f0, 0⟩ /- ChargeCode -/]⟩,
  ⟨0x1411, 1, [
    ⟨0x01, .u 1, .ro, [], .any, .v, false, .notT, .f0, 0⟩ /- ReserveState -/,
    ⟨0x02, .u 2, .ro, [], .any, .v, false, .notT, .f0, 0⟩ /- PackVoltage -/,
    ⟨0x03, .u 2, .ro, [], .any, .v, false, .notT, .f0, 0⟩ /- CellSum -/,
    ⟨0x04, .u 2, .ro, [], .any, .v, false, .notT, .f0, 0⟩ /- ReserveFault -/,
    ⟨0x05, .u 4, .ro, [], (.mask 131071), .v, false, .notT, .f0, 0⟩ /- WireFault -/,
    ⟨0x06, .u 2, .ro, [], .any, .v, false, .notT, .f0, 0⟩ /- CellOv -/,
    ⟨0x07, .u 2, .ro, [], .any, .v, false, .notT, .f0, 0⟩ /- CellUv -/,
    ⟨0x08, .u 2, .ro, [], .any, .v, false, .notT, .f0, 0⟩ /- CellUntrusted -/,
    ⟨0x09, .u 2, .ro, [], .any, .v, false, .notT, .f0, 0⟩ /- MinCell -/,
    ⟨0x0A, .u 2, .ro, [], .any, .v, false, .notT, .f0, 0⟩ /- MaxCell -/,
    ⟨0x0B, .u 2, .ro, [], .any, .v, false, .notT, .f0, 0⟩ /- BalanceActive -/,
    ⟨0x0C, .u 4, .ro, [], .any, .v, false, .notT, .f0, 0⟩ /- WireTestRounds -/]⟩]

/-- Rows of the object tables from index 16#1412 (R166, R169, R174). -/
def objGroups4 : List Group := [
  ⟨0x1412, 1, [
    ⟨0x01, .u 2, .ro, [], .any, .v, false, .notT, .f0, 0⟩ /- CellVoltage0 -/,
    ⟨0x02, .u 2, .ro, [], .any, .v, false, .notT, .f0, 0⟩ /- CellVoltage1 -/,
    ⟨0x03, .u 2, .ro, [], .any, .v, false, .notT, .f0, 0⟩ /- CellVoltage2 -/,
    ⟨0x04, .u 2, .ro, [], .any, .v, false, .notT, .f0, 0⟩ /- CellVoltage3 -/,
    ⟨0x05, .u 2, .ro, [], .any, .v, false, .notT, .f0, 0⟩ /- CellVoltage4 -/,
    ⟨0x06, .u 2, .ro, [], .any, .v, false, .notT, .f0, 0⟩ /- CellVoltage5 -/,
    ⟨0x07, .u 2, .ro, [], .any, .v, false, .notT, .f0, 0⟩ /- CellVoltage6 -/,
    ⟨0x08, .u 2, .ro, [], .any, .v, false, .notT, .f0, 0⟩ /- CellVoltage7 -/,
    ⟨0x09, .u 2, .ro, [], .any, .v, false, .notT, .f0, 0⟩ /- CellVoltage8 -/,
    ⟨0x0A, .u 2, .ro, [], .any, .v, false, .notT, .f0, 0⟩ /- CellVoltage9 -/,
    ⟨0x0B, .u 2, .ro, [], .any, .v, false, .notT, .f0, 0⟩ /- CellVoltage10 -/,
    ⟨0x0C, .u 2, .ro, [], .any, .v, false, .notT, .f0, 0⟩ /- CellVoltage11 -/,
    ⟨0x0D, .u 2, .ro, [], .any, .v, false, .notT, .f0, 0⟩ /- CellVoltage12 -/,
    ⟨0x0E, .u 2, .ro, [], .any, .v, false, .notT, .f0, 0⟩ /- CellVoltage13 -/,
    ⟨0x0F, .u 2, .ro, [], .any, .v, false, .notT, .f0, 0⟩ /- CellVoltage14 -/,
    ⟨0x10, .u 2, .ro, [], .any, .v, false, .notT, .f0, 0⟩ /- CellVoltage15 -/]⟩,
  ⟨0x1414, 1, [
    ⟨0x01, .u 2, (.rws 3), [], .any, .p, false, .notT, .f0, 3000⟩ /- FlushPower -/,
    ⟨0x02, .u 2, (.rws 3), [], (.rng 0 5000 1), .p, false, .notT, .f0, 200⟩ /- EscrowOverheadTime -/,
    ⟨0x03, .u 2, (.rws 3), [], .any, .p, false, .notT, .f0, 12000⟩ /- EscrowHoldPower -/,
    ⟨0x04, .u 2, (.rws 3), [], (.rng 0 3600 1), .p, false, .notT, .f0, 60⟩ /- EscrowHoldTime -/,
    ⟨0x05, .u 1, (.rws 3), [], (.rng 50 100 1), .p, false, .notT, .f0, 80⟩ /- EscrowEfficiency -/,
    ⟨0x06, .u 1, (.rws 3), [], (.rng 0 100 1), .p, false, .notT, .f0, 25⟩ /- EscrowMargin -/,
    ⟨0x07, .u 2, (.rws 3), [], .any, .p, false, .notT, .f0, 80⟩ /- LeafStrokeEnergy -/,
    ⟨0x08, .u 2, (.rws 3), [], .any, .p, false, .notT, .f0, 40⟩ /- StepStrokeEnergy -/,
    ⟨0x09, .u 4, .ro, [], .any, .v, false, .notT, .f0, 0⟩ /- EnergyAvailable -/,
    ⟨0x0A, .u 4, .ro, [], .any, .v, false, .notT, .f0, 0⟩ /- EnergyEscrow -/,
    ⟨0x0B, .u 1, .ro, [], .any, .v, false, .notT, .f0, 2⟩ /- EscrowStatus -/,
    ⟨0x0C, .u 4, .ro, [], .any, .v, false, .notT, .f0, 0⟩ /- RefusedMoves -/,
    ⟨0x0D, .u 4, .ro, [], .any, .v, false, .notT, .f0, 0⟩ /- EscrowBreachCount -/]⟩,
  ⟨0x1420, 1, [
    ⟨0x01, .u 1, .ro, [], (.rng 0 5 1), .v, false, .none, .f0, 0⟩ /- PowerState -/,
    ⟨0x02, .u 1, .ro, [], .any, .v, false, .none, .f0, 0⟩ /- PowerPhase -/,
    ⟨0x03, .u 1, .wo, [.cmd, (.sem 3)], (.rng 1 3 1), .v, false, .none, .f0, 0⟩ /- PowerCommand -/,
    ⟨0x04, .u 1, (.rws 3), [], (.rng 0 4 1), .p, false, .none, .f0, 4⟩ /- DeepestAuto -/,
    ⟨0x05, .u 2, (.rws 3), [], (.rng 0 5000 1), .p, false, .none, .f0, 250⟩ /- PowerDownNotice -/,
    ⟨0x06, .u 2, (.rws 3), [], (.rng 10 2000 1), .p, false, .none, .f0, 100⟩ /- LockSettleTime -/,
    ⟨0x07, .u 2, (.rws 3), [], (.rng 50 10000 1), .p, false, .none, .f0, 50⟩ /- RestartHoldOff -/,
    ⟨0x0A, .u 1, .ro, [], (.rng 0 6 1), .v, false, .none, .f0, 0⟩ /- LastWakeCause -/,
    ⟨0x0B, .u 4, .ro, [], .any, .v, true, .none, .f0, 0⟩ /- UnwoundStarts -/,
    ⟨0x0C, .u 4, .ro, [], .any, .v, false, .none, .f0, 0⟩ /- DozeCount -/,
    ⟨0x0D, .u 4, .ro, [], .any, .v, false, .none, .f0, 0⟩ /- SleepCount -/,
    ⟨0x0E, .u 4, .ro, [], .any, .v, false, .none, .f0, 0⟩ /- StandbyCount -/]⟩,
  ⟨0x1421, 1, [
    ⟨0x01, .u 8, (.rws 3), [], .any, .v, false, .none, .f0, 0⟩ /- WakeAt -/,
    ⟨0x02, .u 4, .ro, [], .any, .v, false, .none, .f0, 0⟩ /- NextEventTime -/,
    ⟨0x03, .u 1, .ro, [], (.rng 0 5 1), .v, false, .none, .f0, 0⟩ /- NextEventSource -/,
    ⟨0x04, .u 1, .ro, [], (.rng 0 4 1), .v, false, .none, .f0, 0⟩ /- PlannedState -/,
    ⟨0x05, .u 2, (.rws 3), [], (.rng 1 1000 1), .p, false, .none, .f0, 10⟩ /- PlanGuard -/,
    ⟨0x06, .u 2, (.rws 3), [], (.rng 10 3600 1), .p, false, .notT, .f0, 3600⟩ /- ReserveSleepSample -/,
    ⟨0x07, .u 2, (.rws 3), [], .any, .p, false, .none, .f0, 255⟩ /- WakeMask -/,
    ⟨0x08, .u 2, (.rws 3), [], .any, .p, false, .none, .f0, 0⟩ /- OffWakeMask -/,
    ⟨0x09, .u 2, (.rws 3), [], (.rng 0 3600 1), .p, false, .none, .f0, 600⟩ /- DeepIdleTime -/]⟩]

/-- Rows of the object tables from index 16#1424 (R166, R169, R174). -/
def objGroups5 : List Group := [
  ⟨0x1424, 2, [
    ⟨0x01, .u 1, .rw, [.slotSession], (.rng 0 4 1), .v, false, .none, .f0, 2⟩ /- DeepGrant -/,
    ⟨0x02, .u 4, .rw, [.slotSession], .any, .v, false, .none, .f0, 0⟩ /- NextService -/]⟩,
  ⟨0x1480, 3, [
    ⟨0x01, .u 2, .ro, [.fac], .any, .v, false, .setp, .f0, 0⟩ /- Target -/,
    ⟨0x02, .u 2, .ro, [], .any, .v, false, .setp, .f0, 0⟩ /- Output -/,
    ⟨0x03, .u 2, (.rws 3), [.fac], (.rng 1 4095 1), .p, false, .setp, .f0, 0⟩ /- SlewUp -/,
    ⟨0x04, .u 2, (.rws 3), [], (.rng 1 4095 1), .p, false, .setp, .f0, 256⟩ /- SlewDown -/,
    ⟨0x05, .u 2, (.rws 3), [], (.rng 0 4095 1), .p, false, .setp, .f0, 0⟩ /- IdleCode -/,
    ⟨0x06, .u 1, .ro, [], .any, .v, false, .setp, .f0, 1⟩ /- BusStatus -/]⟩,
  ⟨0x1490, 4, [
    ⟨0x01, .u 2, .ro, [], .any, .v, false, .die, .f0, 0⟩ /- VfldVoltage -/,
    ⟨0x02, .u 1, .rw, [.w1c, .needF0], .any, .v, false, .die, .f0, 0⟩ /- DieSupplyStatus -/,
    ⟨0x03, .u 4, .ro, [], .any, .v, false, .die, .f0, 0⟩ /- UvCount -/,
    ⟨0x04, .u 4, .ro, [], .any, .v, false, .die, .f0, 0⟩ /- SurgeCount -/,
    ⟨0x05, .u 4, .ro, [], .any, .v, false, .die, .f0, 0⟩ /- GndShiftCount -/,
    ⟨0x06, .u 4, .ro, [], .any, .v, false, .die, .f0, 0⟩ /- DiePorCount -/]⟩,
  ⟨0x1500, 1, [
    ⟨0x01, .u 1, .ro, [], .any, .v, false, .none, .f0, 0⟩ /- ClockStatus -/,
    ⟨0x02, .u 1, .ro, [], .any, .v, true, .none, .f0, 0⟩ /- LastClockFault -/,
    ⟨0x03, .u 4, .ro, [], .any, .v, true, .none, .f0, 0⟩ /- ClockFaultCount -/,
    ⟨0x04, .i 4, .ro, [], .any, .v, false, .none, .f0, 0⟩ /- XtalError -/]⟩,
  ⟨0x1501, 1, [
    ⟨0x01, .u 8, .ro, [], .any, .v, false, .none, .f0, 0⟩ /- TB -/,
    ⟨0x02, .u 4, .ro, [], .any, .v, false, .none, .f0, 0⟩ /- TB32 -/,
    ⟨0x03, .u 8, .ro, [], .any, .v, false, .none, .f0, 0⟩ /- FclkTime -/]⟩,
  ⟨0x1502, 1, [
    ⟨0x01, .u 8, .ro, [], .any, .v, false, .none, .f0, 0⟩ /- CalSeconds -/,
    ⟨0x02, .u 4, .ro, [], .any, .v, false, .none, .f0, 0⟩ /- CalNanoseconds -/,
    ⟨0x03, .u 1, .ro, [], (.rng 0 4 1), .v, false, .none, .f0, 0⟩ /- CalState -/,
    ⟨0x04, .oct 12, .wo, [(.sem 0)], .any, .v, false, .none, .f0, 0⟩ /- CalSet -/,
    ⟨0x05, .u 1, (.rws 0), [], (.rng 0 2 1), .p, false, .none, .f0, 0⟩ /- CalSource -/,
    ⟨0x06, .u 4, (.rws 0), [], (.rng 1000 1000000000 1), .p, false, .none, .f0, 1000000⟩ /- StepThreshold -/,
    ⟨0x07, .u 4, (.rws 0), [], (.rng 1000 500000 1), .p, false, .none, .f0, 200000⟩ /- SlewLimit -/,
    ⟨0x08, .u 4, (.rws 0), [], (.rng 10 1000000 1), .p, false, .none, .f0, 1000⟩ /- LockThreshold -/,
    ⟨0x09, .i 2, (.rws 0), [], .any, .p, false, .none, .f0, 37⟩ /- UtcOffset -/,
    ⟨0x0A, .oct 16, .ro, [], .any, .v, false, .none, .f0, 0⟩ /- CalTbPair -/,
    ⟨0x0B, .u 4, .ro, [], .any, .v, false, .none, .f0, 0⟩ /- CalStepCount -/,
    ⟨0x0C, .u 4, (.rws 0), [], (.rng 60 2592000 1), .p, false, .none, .f0, 86400⟩ /- HoldoverLimit -/,
    ⟨0x0D, .u 4, .ro, [], .any, .v, true, .none, .f0, 0⟩ /- LastDisciplineAge -/]⟩,
  ⟨0x1503, 1, [
    ⟨0x01, .u 8, .ro, [], .any, .v, true, .none, .f0, 0⟩ /- RtcSeconds -/,
    ⟨0x02, .i 2, (.rws 0), [], (.srng (-2000) 2000), .p, true, .none, .f0, 0⟩ /- RtcTrim -/,
    ⟨0x03, .bool, (.rws 0), [], .any, .p, false, .none, .f0, 1⟩ /- RtcAutoTrim -/]⟩,
  ⟨0x1504, 1, [
    ⟨0x01, .u 4, .ro, [], .any, .j, false, .none, .f0, 0⟩ /- OperatingSeconds -/,
    ⟨0x02, .u 4, .ro, [], .any, .j, false, .none, .f0, 0⟩ /- PowerCycleCount -/]⟩,
  ⟨0x1600, 1, [
    ⟨0x01, .u 1, .ro, [], (.rng 1 12 1), .v, true, .none, .f0, 1⟩ /- ResetCause -/,
    ⟨0x02, .u 2, .ro, [], .any, .v, true, .none, .f0, 2⟩ /- ResetCauseMask -/,
    ⟨0x03, .u 1, .wo, [(.sem 0)], (.only 165), .v, false, .none, .f0, 0⟩ /- DeviceReset -/,
    ⟨0x04, .u 4, .ro, [], .any, .v, true, .none, .f0, 0⟩ /- LogicResetCount -/,
    ⟨0x05, .u 2, (.rws 0), [], (.rng 20 1000 1), .p, false, .none, .f0, 100⟩ /- WatchdogTimeout -/,
    ⟨0x06, .u 4, .ro, [], .any, .v, true, .none, .f0, 0⟩ /- WatchdogCount -/,
    ⟨0x07, .u 4, .ro, [], .any, .v, false, .none, .f0, 0⟩ /- StartDuration -/]⟩]

/-- Rows of the object tables from index 16#1610 (R166, R169, R174). -/
def objGroups6 : List Group := [
  ⟨0x1610, 1, [
    ⟨0x01, .u 1, .ro, [], .any, .v, false, .none, .f0, 0⟩ /- SelfTestFail -/,
    ⟨0x02, .u 4, .ro, [], .any, .v, false, .none, .f0, 0⟩ /- SelfTestDuration -/,
    ⟨0x03, .u 2, (.rws 0), [], (.rng 100 10000 1), .p, false, .none, .f0, 1000⟩ /- SramScrubPeriod -/,
    ⟨0x04, .u 2, (.rws 0), [], (.rng 1 720 1), .p, false, .none, .f0, 168⟩ /- MramScrubPeriod -/,
    ⟨0x05, .u 4, .ro, [], .any, .v, false, .none, .f0, 0⟩ /- SramScrubRounds -/,
    ⟨0x06, .u 4, .ro, [], .any, .v, false, .none, .f0, 0⟩ /- MramScrubRounds -/,
    ⟨0x07, .u 4, .ro, [], .any, .v, false, .none, .f0, 0⟩ /- MramCorrected -/,
    ⟨0x08, .u 4, .ro, [], .any, .v, false, .none, .f0, 0⟩ /- MramUncorr -/,
    ⟨0x09, .u 1, .ro, [], .any, .v, false, .none, .f0, 0⟩ /- PeriodicFault -/]⟩,
  ⟨0x1611, 1, [
    ⟨0x01, .i 2, .ro, [], .any, .v, false, .none, .f0, 0⟩ /- DieTemp -/,
    ⟨0x02, .i 2, (.rws 0), [], (.rng 700 1200 1), .p, false, .none, .f0, 1050⟩ /- TempWarn -/]⟩,
  ⟨0x1620, 1, [
    ⟨0x01, .u 1, .ro, [], .any, .v, false, .none, .f0, 0⟩ /- SafetyStatus -/,
    ⟨0x02, .u 4, .ro, [], .any, .v, false, .none, .f0, 0⟩ /- SafetyFaultCount -/]⟩,
  ⟨0x1700, 8, [
    ⟨0x01, .u 1, (.rws 0), [.needF0, .fac], (.oneOf 0 1 255), .p, false, .fnE, .f0, 0⟩ /- BoundSlot -/,
    ⟨0x02, .u 4, (.rws 0), [.needF0, .fac], .any, .p, false, .fnE, .f0, 0⟩ /- AxisMask -/,
    ⟨0x03, .oct 32, (.rws 0), [.needF0, .fac], .any, .p, false, .fnE, .f0, 0⟩ /- ChannelMask -/,
    ⟨0x04, .oct 12, (.rws 0), [.needF0, .fac], .any, .p, false, .fnE, .f0, 0⟩ /- GpMask -/,
    ⟨0x05, .u 1, (.rws 0), [.needF0, .fac], (.oneOf 0 3 255), .p, false, .fnE, .f0, 0⟩ /- SeqSet -/,
    ⟨0x06, .u 1, (.rws 0), [.needF0, .fac], (.rng 1 15 1), .p, false, .fnE, .f0, 8⟩ /- QosWeight -/,
    ⟨0x07, .u 1, (.rws 0), [.needF0, .fac], (.rng 0 32 1), .p, false, .fnE, .f0, 4⟩ /- MinLanes -/,
    ⟨0x08, .u 1, (.rws 0), [.needF0], (.rng 0 2 1), .p, false, .fnE, .f0, 1⟩ /- DisableAction -/,
    ⟨0x09, .u 1, .wo, [.fnControl], (.rng 1 3 1), .v, false, .fnE, .f0, 0⟩ /- FunctionControl -/,
    ⟨0x0A, .u 1, .ro, [.fac], .any, .v, false, .fnE, .f0, 1⟩ /- FunctionState -/,
    ⟨0x0B, .bool, (.rws 0), [.fac], .any, .p, false, .fnE, .f0, 1⟩ /- StartEnabled -/,
    ⟨0x0C, .bool, (.rws 0), [.needF0], .any, .p, false, .fnE, .f0, 1⟩ /- StreamOpen -/,
    ⟨0x0D, .u 2, .ro, [], .any, .v, false, .fnE, .f0, 0⟩ /- InFlight -/,
    ⟨0x0E, .u 1, .ro, [], .any, .v, false, .fnE, .f0, 0⟩ /- LanesInUse -/,
    ⟨0x0F, .u 4, .ro, [], .any, .v, false, .fnE, .f0, 0⟩ /- AbortedCount -/,
    ⟨0x10, .u 4, .ro, [], .any, .v, false, .fnE, .f0, 0⟩ /- LastDrainTime -/,
    ⟨0x11, .u 4, .ro, [], .any, .v, false, .fnE, .f0, 0⟩ /- ResetCount -/]⟩,
  ⟨0x1800, 6, [
    ⟨0x01, .u 2, .rwd, [], .any, .p, true, .none, .pin, 0⟩ /- PinConfig 0 -/,
    ⟨0x02, .u 2, .rwd, [], .any, .p, true, .none, .pin, 0⟩ /- PinConfig 1 -/,
    ⟨0x03, .u 2, .rwd, [], .any, .p, true, .none, .pin, 0⟩ /- PinConfig 2 -/,
    ⟨0x04, .u 2, .rwd, [], .any, .p, true, .none, .pin, 0⟩ /- PinConfig 3 -/,
    ⟨0x05, .u 2, .rwd, [], .any, .p, true, .none, .pin, 0⟩ /- PinConfig 4 -/,
    ⟨0x06, .u 2, .rwd, [], .any, .p, true, .none, .pin, 0⟩ /- PinConfig 5 -/,
    ⟨0x07, .u 2, .rwd, [], .any, .p, true, .none, .pin, 0⟩ /- PinConfig 6 -/,
    ⟨0x08, .u 2, .rwd, [], .any, .p, true, .none, .pin, 0⟩ /- PinConfig 7 -/,
    ⟨0x09, .u 2, .rwd, [], .any, .p, true, .none, .pin, 0⟩ /- PinConfig 8 -/,
    ⟨0x0A, .u 2, .rwd, [], .any, .p, true, .none, .pin, 0⟩ /- PinConfig 9 -/,
    ⟨0x0B, .u 2, .rwd, [], .any, .p, true, .none, .pin, 0⟩ /- PinConfig 10 -/,
    ⟨0x0C, .u 2, .rwd, [], .any, .p, true, .none, .pin, 0⟩ /- PinConfig 11 -/,
    ⟨0x0D, .u 2, .rwd, [], .any, .p, true, .none, .pin, 0⟩ /- PinConfig 12 -/,
    ⟨0x0E, .u 2, .rwd, [], .any, .p, true, .none, .pin, 0⟩ /- PinConfig 13 -/,
    ⟨0x0F, .u 2, .rwd, [], .any, .p, true, .none, .pin, 0⟩ /- PinConfig 14 -/,
    ⟨0x10, .u 2, .rwd, [], .any, .p, true, .none, .pin, 0⟩ /- PinConfig 15 -/]⟩]

/-- Rows of the object tables from index 16#1806 (R166, R169, R174). -/
def objGroups7 : List Group := [
  ⟨0x1806, 6, [
    ⟨0x01, .u 2, .rw, [], .any, .v, true, .none, .f0, 0⟩ /- OutputLevel -/,
    ⟨0x02, .u 2, .wo, [], .any, .v, false, .none, .f0, 0⟩ /- SetBits -/,
    ⟨0x03, .u 2, .wo, [], .any, .v, false, .none, .f0, 0⟩ /- ClearBits -/,
    ⟨0x04, .u 2, .ro, [], .any, .v, false, .none, .f0, 0⟩ /- SyncValue -/,
    ⟨0x05, .u 2, .ro, [], .any, .v, false, .none, .f0, 0⟩ /- PadValue -/]⟩,
  ⟨0x180C, 1, [
    ⟨0x01, .oct 12, .ro, [], .any, .v, false, .none, .f0, 0⟩ /- ConflictFlags -/,
    ⟨0x02, .u 4, .ro, [], .any, .v, false, .none, .f0, 0⟩ /- ConflictCount -/]⟩,
  ⟨0x1810, 1, [
    ⟨0x01, .u 2, .rw, [], .any, .p, false, .none, .f0, 65535⟩ /- PpsPin -/,
    ⟨0x02, .u 4, .rw, [], (.rng 1 500000 1), .p, false, .none, .f0, 100000⟩ /- PpsWidth -/,
    ⟨0x03, .u 2, .rw, [], .any, .p, false, .none, .f0, 65535⟩ /- TickPin -/,
    ⟨0x04, .u 2, .rw, [], .any, .p, false, .none, .f0, 65535⟩ /- ClkOutPin -/,
    ⟨0x05, .u 2, .rw, [], (.rng 2 65535 1), .p, false, .none, .f0, 1000⟩ /- ClkOutDiv -/]⟩,
  ⟨0x1820, 4, [
    ⟨0x01, .u 1, .rw, [], (.rng 0 5 1), .p, false, .none, .f0, 0⟩ /- Port -/,
    ⟨0x02, .u 2, .rw, [], .any, .p, false, .none, .f0, 0⟩ /- Mask -/,
    ⟨0x03, .u 2, .rw, [], .any, .p, false, .none, .f0, 0⟩ /- Pattern -/,
    ⟨0x04, .u 1, .rw, [], (.mask 7), .p, false, .none, .f0, 0⟩ /- Control -/,
    ⟨0x05, .u 2, .rw, [], .any, .p, false, .none, .f0, 0⟩ /- HoldTime -/,
    ⟨0x06, .u 1, .rw, [.w1c], .any, .v, false, .none, .f0, 0⟩ /- UnitStatus -/,
    ⟨0x07, .u 4, .ro, [], .any, .v, false, .none, .f0, 0⟩ /- MatchCount -/]⟩,
  ⟨0x1828, 8, [
    ⟨0x01, .u 2, .rw, [], .any, .p, false, .none, .f0, 15⟩ /- LineConfig -/,
    ⟨0x02, .u 4, .ro, [], .any, .v, false, .none, .f0, 0⟩ /- EdgeCount -/,
    ⟨0x03, .u 4, .ro, [], .any, .v, false, .none, .f0, 0⟩ /- SuppressedEdges -/]⟩,
  ⟨0x1830, 1, [
    ⟨0x01, .u 2, (.rws 3), [], .any, .p, false, .none, .f0, 0⟩ /- WakePolarity -/,
    ⟨0x02, .u 2, .ro, [], .any, .v, true, .none, .f0, 0⟩ /- WakeActive -/]⟩,
  ⟨0x2000, 1, [
    ⟨0x01, .u 1, .ro, [], .any, .v, false, .none, .f0, 0⟩ /- LatticeState -/,
    ⟨0x02, .u 2, .ro, [], .any, .v, false, .none, .f0, 0⟩ /- LoopStatus -/,
    ⟨0x03, .u 4, .ro, [], .any, .v, false, .none, .f0, 0⟩ /- PermitStatus -/,
    ⟨0x04, .u 4, .ro, [], .any, .v, false, .none, .f0, 0⟩ /- LeafClosedLocked -/,
    ⟨0x05, .u 4, .ro, [], .any, .v, false, .none, .f0, 0⟩ /- LeafIsolated -/,
    ⟨0x06, .u 2, .ro, [], .any, .v, false, .none, .f0, 0⟩ /- HandleOperated -/,
    ⟨0x07, .u 4, .ro, [], .any, .v, false, .none, .f0, 0⟩ /- LeafInputFault -/,
    ⟨0x08, .u 2, .ro, [], .any, .v, false, .none, .f0, 0⟩ /- DoorwayInputFault -/,
    ⟨0x09, .u 1, .ro, [], .any, .v, false, .none, .f0, 0⟩ /- TrainInputFault -/,
    ⟨0x0A, .u 2, .ro, [], .any, .v, false, .none, .f0, 0⟩ /- HeldCause -/,
    ⟨0x0B, .u 4, .ro, [], .any, .v, false, .none, .f0, 0⟩ /- LatticeFaultCount -/,
    ⟨0x0C, .u 4, .ro, [], .any, .v, false, .none, .f0, 0⟩ /- ActiveImageCrc -/]⟩,
  ⟨0x2001, 1, [
    ⟨0x01, .dom, (.rws 1), [.needF0, .burst], .any, .p, false, .none, .f0, 0⟩ /- ConfigImage -/,
    ⟨0x02, .u 1, .ro, [], .any, .v, false, .none, .f0, 0⟩ /- PendingState -/,
    ⟨0x03, .u 1, .ro, [], .any, .v, false, .none, .f0, 0⟩ /- RefusalCause -/,
    ⟨0x04, .u 4, .ro, [], .any, .v, false, .none, .f0, 0⟩ /- PendingImageCrc -/,
    ⟨0x05, .u 1, .wo, [.needF0, (.sem 1)], (.only 165), .v, false, .none, .f0, 0⟩ /- LoadFactoryImage -/,
    ⟨0x06, .dom, .ro, [], .any, .p, false, .none, .f0, 0⟩ /- ActiveImage -/]⟩,
  ⟨0x2002, 1, [
    ⟨0x01, .u 2, .ro, [], .any, .v, false, .none, .f0, 0⟩ /- LeafFilter -/,
    ⟨0x02, .u 2, .ro, [], .any, .v, false, .none, .f0, 0⟩ /- TrainFilter -/,
    ⟨0x03, .u 2, .ro, [], .any, .v, false, .none, .f0, 0⟩ /- HandleFilter -/,
    ⟨0x04, .u 2, .ro, [], .any, .v, false, .none, .f0, 0⟩ /- DiscrepancyTime -/,
    ⟨0x05, .u 2, .ro, [], .any, .v, false, .none, .f0, 0⟩ /- ReadbackTimeout -/,
    ⟨0x06, .u 2, .ro, [], .any, .v, false, .none, .f0, 0⟩ /- TestPulseWidth -/,
    ⟨0x07, .u 2, .ro, [], .any, .v, false, .none, .f0, 0⟩ /- TestPulsePeriod -/]⟩]

/-- Rows of the object tables from index 16#2101 (R166, R169, R174). -/
def objGroups8 : List Group := [
  ⟨0x2101, 1, [
    ⟨0x01, .u 1, .ro, [], .any, .v, false, .none, .f0, 0⟩ /- RefusalCause -/,
    ⟨0x02, .u 1, .ro, [], .any, .v, false, .none, .f0, 0⟩ /- RefusalSlot -/,
    ⟨0x03, .u 1, .ro, [], .any, .v, false, .none, .f0, 0⟩ /- RefusalState -/,
    ⟨0x04, .u 1, .ro, [], .any, .v, false, .none, .f0, 0⟩ /- RefusalItem -/]⟩,
  ⟨0x2102, 1, [
    ⟨0x01, .u 4, .ro, [], .any, .v, false, .none, .f0, 0⟩ /- OutputConflictCount -/]⟩,
  ⟨0x2104, 4, [
    ⟨0x01, .u 1, .rwd, [.fac], (.oneOf 0 31 255), .p, false, .seqE, .set, 0⟩ /- CarTable -/,
    ⟨0x02, .u 2, .rwd, [], (.rng 10 60000 1), .p, false, .seqE, .set, 1000⟩ /- CmdWait -/,
    ⟨0x03, .u 2, .rwd, [], (.rng 1 3600 1), .p, false, .seqE, .set, 300⟩ /- CmdLife -/]⟩,
  ⟨0x2108, 4, [
    ⟨0x01, .u 1, .ro, [], .any, .v, false, .seqE, .set, 0⟩ /- LeftState -/,
    ⟨0x02, .u 1, .ro, [], .any, .v, false, .seqE, .set, 0⟩ /- RightState -/,
    ⟨0x03, .u 4, .ro, [], .any, .v, false, .seqE, .set, 0⟩ /- CarFlags -/]⟩,
  ⟨0x2110, 8, [
    ⟨0x01, .u 1, .wo, [.cmd], .any, .v, false, .seqE2, .set2, 0⟩ /- SideCommand -/]⟩,
  ⟨0x2120, 32, [
    ⟨0x01, .oct 16, .rwsOwner, [.burst], .any, .p, false, .tab2, .table, 0⟩ /- TableHeader -/,
    ⟨0x02, .u 1, .ro, [], .any, .v, false, .tab2, .table, 0⟩ /- SlotState -/,
    ⟨0x03, .dom, .rwsOwner, [.burst], .any, .p, false, .tab2, .table, 0⟩ /- TableImage -/]⟩,
  ⟨0x2200, 1, [
    ⟨0x01, .u 1, .ro, [], .any, .v, false, .none, .f0, 0⟩ /- RecorderState -/,
    ⟨0x02, .u 2, (.rws 2), [], (.rng 1 600 1), .p, false, .none, .f0, 10⟩ /- FlushPeriod -/,
    ⟨0x03, .u 1, .wo, [.cmd], (.only 1), .v, false, .none, .f0, 0⟩ /- FlushNow -/,
    ⟨0x04, .u 2, (.rws 2), [], (.rng 100 60000 1), .p, false, .none, .f0, 10000⟩ /- RepeatWindow -/,
    ⟨0x05, .u 4, .ro, [], .any, .v, false, .none, .f0, 0⟩ /- BrineFill -/,
    ⟨0x06, .u 1, (.rws 2), [], (.rng 10 90 1), .p, false, .none, .f0, 50⟩ /- BrineFlushLevel -/,
    ⟨0x07, .u 4, .ro, [], .any, .v, false, .none, .f0, 0⟩ /- FlushCount -/,
    ⟨0x08, .u 4, .ro, [], .any, .j, false, .none, .f0, 0⟩ /- InterruptedFlushCount -/,
    ⟨0x09, .u 4, .ro, [], .any, .v, false, .none, .f0, 0⟩ /- LastFlushDuration -/,
    ⟨0x0A, .u 4, .ro, [], .any, .j, false, .none, .f0, 0⟩ /- FlushNumber -/,
    ⟨0x0B, .u 4, .ro, [], .any, .v, false, .none, .f0, 0⟩ /- DroppedRecords -/,
    ⟨0x0D, .u 4, .ro, [], .any, .v, false, .none, .f0, 60⟩ /- FlushEstimate -/]⟩,
  ⟨0x2201, 3, [
    ⟨0x01, .u 4, .ro, [], .any, .j, false, .none, .f0, 0⟩ /- OldestSeq -/,
    ⟨0x02, .u 4, .ro, [], .any, .j, false, .none, .f0, 0⟩ /- NewestSeq -/,
    ⟨0x03, .u 2, .ro, [], .any, .v, false, .none, .f0, 0⟩ /- PendingCount -/,
    ⟨0x04, .u 4, .ro, [], .any, .j, false, .none, .f0, 0⟩ /- Capacity -/,
    ⟨0x05, .u 4, .ro, [], .any, .j, false, .none, .f0, 0⟩ /- UsedBytes -/,
    ⟨0x06, .u 4, .ro, [], .any, .j, false, .none, .f0, 0⟩ /- WrapCount -/,
    ⟨0x07, .u 4, .ro, [], .any, .j, false, .none, .f0, 0⟩ /- ClearCount -/,
    ⟨0x08, .u 2, .ro, [], .any, .v, false, .none, .f0, 0⟩ /- NewestRevision -/]⟩,
  ⟨0x2210, 1, [
    ⟨0x01, .u 1, .rw, [.session], (.rng 0 4 1), .v, false, .none, .f0, 0⟩ /- CursorLog -/,
    ⟨0x02, .u 4, .rw, [.session], .any, .v, false, .none, .f0, 0⟩ /- CursorSeq -/,
    ⟨0x03, .dom, .ro, [.session], .any, .v, false, .none, .f0, 0⟩ /- Window -/,
    ⟨0x04, .u 2, .rw, [.session], (.rng 1032 4096 1), .v, false, .none, .f0, 1032⟩ /- WindowSize -/]⟩,
  ⟨0x2220, 1, [
    ⟨0x01, .u 1, .wo, [(.sem 2), .maintainer], (.rng 0 5 1), .v, false, .none, .f0, 0⟩ /- ClearLog -/]⟩,
  ⟨0x3000, 24, [
    ⟨0x01, .u 4, .rwd, [], .any, .p, false, .axis, .axis, 0⟩ /- StrokeCounts -/,
    ⟨0x02, .u 2, .rwd, [], .any, .p, false, .axis, .axis, 0⟩ /- StrokeLength -/,
    ⟨0x20, .u 1, .rwd, [.fac], (.oneOf 0 31 255), .p, false, .axis, .axis, 0⟩ /- SeqTable -/,
    ⟨0x21, .u 2, .rwd, [.fac], (.rng 0 255 1), .p, false, .axis, .axis, 0⟩ /- InputBase -/,
    ⟨0x22, .u 2, .rwd, [.fac], (.rng 0 255 1), .p, false, .axis, .axis, 0⟩ /- DoorwayBase -/,
    ⟨0x23, .u 2, .rwd, [.fac], (.rng 0 255 1), .p, false, .axis, .axis, 0⟩ /- AuxBase -/,
    ⟨0x24, .u 1, .rwd, [.fac], (.rng 0 1 1), .p, false, .axis, .axis, 0⟩ /- Role -/,
    ⟨0x25, .u 1, .rwd, [], (.rng 0 15 1), .p, false, .axis, .axis, 3⟩ /- RetryLimit -/,
    ⟨0x26, .u 1, .rwd, [.fac], .any, .p, false, .axisNotP, .axis, 0⟩ /- StepDoorway -/]⟩]

/-- Rows of the object tables from index 16#3100 (R166, R169, R174). -/
def objGroups9 : List Group := [
  ⟨0x3100, 24, [
    ⟨0x01, .u 2, .ro, [], .any, .v, false, .axis, .axis, 0⟩ /- AxisStatus -/,
    ⟨0x02, .u 1, .ro, [], .any, .v, false, .axis, .axis, 0⟩ /- FaultCause -/,
    ⟨0x03, .u 1, .ro, [], .any, .v, false, .axis, .axis, 4⟩ /- MoveTarget -/,
    ⟨0x04, .u 1, .ro, [], .any, .v, false, .axis, .axis, 0⟩ /- ActiveProfile -/,
    ⟨0x10, .u 1, .wo, [.cmd], .any, .v, false, .axis, .axis, 0⟩ /- AxisCommand -/,
    ⟨0x20, .u 1, .ro, [], .any, .v, false, .axis, .axis, 0⟩ /- SeqState -/,
    ⟨0x21, .u 1, .ro, [], .any, .v, false, .axis, .axis, 0⟩ /- RetryCount -/,
    ⟨0x22, .u 1, .ro, [], .any, .v, false, .axis, .axis, 0⟩ /- ReportBits -/]⟩,
  ⟨0x3200, 24, [
    ⟨0x01, .u 1, .rwd, [], (.rng 0 2 1), .p, false, .axis, .axis, 0⟩ /- FeedbackMode -/,
    ⟨0x02, .u 4, .rwd, [], (.rng 1 16777216 1), .p, false, .axis, .axis, 4096⟩ /- CountsPerRev -/,
    ⟨0x03, .u 1, .rwd, [], (.mask 15), .p, false, .axis, .axis, 0⟩ /- FeedbackOptions -/,
    ⟨0x04, .u 1, .rwd, [], (.rng 1 15 1), .p, false, .axis, .axis, 3⟩ /- QuadFilter -/,
    ⟨0x05, .u 1, .rwd, [], (.rng 0 4 1), .p, false, .axis, .axis, 4⟩ /- ZGate -/,
    ⟨0x06, .u 1, .rwd, [], (.rng 0 2 1), .p, false, .axis, .axis, 1⟩ /- RefMode -/,
    ⟨0x07, .u 2, .rwd, [], (.rng 0 1023 1), .p, false, .axis, .axis, 2⟩ /- RefTolerance -/,
    ⟨0x08, .u 1, .rwd, [], (.rng 1 255 1), .p, false, .axis, .axis, 3⟩ /- RefSlipLimit -/,
    ⟨0x09, .u 2, .rwd, [.fac], .any, .p, false, .axis, .axis, 0⟩ /- DatumChannel -/,
    ⟨0x0A, .i 4, .rwd, [], .any, .p, false, .axis, .axis, 0⟩ /- DatumCount -/,
    ⟨0x0B, .i 8, .ro, [], .any, .p, false, .axis, .axis, 0⟩ /- PositionOffset -/,
    ⟨0x0C, .bool, .ro, [], .any, .p, false, .axis, .axis, 0⟩ /- OffsetValid -/,
    ⟨0x0D, .u 1, .rwd, [], (.rng 20 48 1), .p, false, .axis, .axis, 28⟩ /- ToneGapHigh -/,
    ⟨0x0E, .u 1, .rwd, [], (.rng 4 14 1), .p, false, .axis, .axis, 10⟩ /- ToneGapLow -/,
    ⟨0x0F, .oct 4, .rwd, [.fac], .any, .p, false, .axis, .axis, 12⟩ /- SsiLayout -/,
    ⟨0x10, .u 4, .rwd, [], (.rng 100000 4000000 1), .p, false, .axis, .axis, 1000000⟩ /- SsiClock -/,
    ⟨0x11, .u 2, .rwd, [], (.rng 20 1000 1), .p, false, .axis, .axis, 50⟩ /- SsiPeriod -/,
    ⟨0x12, .u 2, .rwd, [], (.rng 5 200 1), .p, false, .axis, .axis, 25⟩ /- SsiTimeout -/,
    ⟨0x13, .u 4, .rwd, [], .any, .p, false, .axis, .axis, 1024⟩ /- SsiJumpLimit -/,
    ⟨0x14, .u 1, .rwd, [], (.rng 1 16 1), .p, false, .axis, .axis, 3⟩ /- SsiErrLimit -/,
    ⟨0x15, .u 1, .rwd, [], (.rng 1 255 1), .p, false, .axis, .axis, 4⟩ /- IllegalLimit -/,
    ⟨0x16, .u 2, .rwd, [], (.rng 10 10000 1), .p, false, .axis, .axis, 100⟩ /- PairFaultTime -/,
    ⟨0x17, .u 1, .rwd, [], (.rng 1 32 1), .p, false, .axis, .axis, 4⟩ /- SpeedWindow -/,
    ⟨0x18, .u 2, .rwd, [], (.rng 10 1000 1), .p, false, .axis, .axis, 100⟩ /- SpeedZeroTime -/,
    ⟨0x20, .i 4, .ro, [], .any, .v, false, .axis, .axis, 0⟩ /- Position -/,
    ⟨0x21, .u 4, .ro, [], .any, .v, false, .axis, .axis, 0⟩ /- InRev -/,
    ⟨0x22, .i 4, .ro, [], .any, .v, false, .axis, .axis, 0⟩ /- RevCount -/,
    ⟨0x23, .i 4, .ro, [], .any, .v, false, .axis, .axis, 0⟩ /- Speed -/,
    ⟨0x24, .u 2, .ro, [], .any, .v, false, .axis, .axis, 0⟩ /- FeedbackStatus -/,
    ⟨0x25, .u 1, .ro, [], .any, .v, false, .axis, .axis, 0⟩ /- FeedbackFault -/,
    ⟨0x26, .u 4, .ro, [], .any, .v, false, .axis, .axis, 0⟩ /- RefSlipCount -/,
    ⟨0x27, .u 1, .ro, [], .any, .v, false, .axis, .axis, 0⟩ /- RefSlipRun -/,
    ⟨0x28, .i 4, .ro, [], .any, .v, false, .axis, .axis, 0⟩ /- LastRefError -/,
    ⟨0x29, .u 4, .ro, [], .any, .v, false, .axis, .axis, 0⟩ /- IllegalCount -/,
    ⟨0x2A, .u 4, .ro, [], .any, .v, false, .axis, .axis, 0⟩ /- PairGlitchCount -/,
    ⟨0x2B, .u 4, .ro, [], .any, .v, false, .axis, .axis, 0⟩ /- SsiErrCount -/,
    ⟨0x2C, .u 8, .ro, [], .any, .v, false, .axis, .axis, 0⟩ /- LastEdgeTime -/]⟩,
  ⟨0x3300, 24, [
    ⟨0x01, .u 2, .rwd, [], (.rng 8000 40000 1), .p, false, .axis, .axis, 20000⟩ /- PwmFrequency -/,
    ⟨0x02, .u 2, .rwd, [], (.rng 5 500 1), .p, false, .axis, .axis, 20⟩ /- DirGuard -/,
    ⟨0x03, .u 2, .rwd, [], (.rng 1000 60000 1), .p, false, .axis, .axis, 10000⟩ /- ShuntScale -/,
    ⟨0x04, .u 2, .rwd, [], .any, .p, false, .axis, .axis, 9000⟩ /- ITrip -/,
    ⟨0x05, .u 2, .rwd, [], (.rng 1 1000 1), .p, false, .axis, .axis, 16⟩ /- TargetWindow -/,
    ⟨0x06, .u 2, .rwd, [], (.rng 0 4095 1), .p, false, .axis, .axis, 400⟩ /- HoldDuty -/,
    ⟨0x07, .u 2, .rwd, [], .any, .p, false, .axis, .axis, 64⟩ /- SpeedKp -/,
    ⟨0x08, .u 2, .rwd, [], .any, .p, false, .axis, .axis, 8⟩ /- SpeedKi -/,
    ⟨0x09, .u 2, .rwd, [], .any, .p, false, .axis, .axis, 0⟩ /- FeedForward -/,
    ⟨0x0A, .u 2, .rwd, [], .any, .p, false, .axis, .axis, 64⟩ /- DirErrCounts -/,
    ⟨0x0B, .u 2, .rwd, [], (.rng 410 4095 1), .p, false, .axis, .axis, 1200⟩ /- UnrefDuty -/,
    ⟨0x10, .oct 12, .rwd, [.fac], .any, .p, false, .axis, .axis, 0⟩ /- Profile0 -/,
    ⟨0x11, .oct 12, .rwd, [.fac], .any, .p, false, .axis, .axis, 0⟩ /- Profile1 -/,
    ⟨0x12, .oct 12, .rwd, [.fac], .any, .p, false, .axis, .axis, 0⟩ /- Profile2 -/,
    ⟨0x13, .oct 12, .rwd, [.fac], .any, .p, false, .axis, .axis, 0⟩ /- Profile3 -/,
    ⟨0x14, .oct 12, .rwd, [.fac], .any, .p, false, .axis, .axis, 0⟩ /- Profile4 -/,
    ⟨0x15, .oct 12, .rwd, [.fac], .any, .p, false, .axis, .axis, 0⟩ /- Profile5 -/,
    ⟨0x16, .oct 12, .rwd, [.fac], .any, .p, false, .axis, .axis, 0⟩ /- Profile6 -/,
    ⟨0x17, .oct 12, .rwd, [.fac], .any, .p, false, .axis, .axis, 0⟩ /- Profile7 -/,
    ⟨0x20, .i 2, .ro, [], .any, .v, false, .axis, .axis, 0⟩ /- Duty -/,
    ⟨0x21, .i 4, .ro, [], .any, .v, false, .axis, .axis, 0⟩ /- CurrentMean -/,
    ⟨0x22, .i 4, .ro, [], .any, .v, false, .axis, .axis, 0⟩ /- SpeedRef -/]⟩]

/-- Rows of the object tables from index 16#3400 (R166, R169, R174). -/
def objGroups10 : List Group := [
  ⟨0x3400, 24, [
    ⟨0x01, .oct 128, .ro, [.fac], .any, .p, false, .axisNotE, .axis, 0⟩ /- EnvOpen -/,
    ⟨0x02, .oct 128, .ro, [.fac], .any, .p, false, .axisNotE, .axis, 0⟩ /- EnvClose -/,
    ⟨0x03, .u 1, .rwd, [], (.rng 5 100 1), .p, false, .axisNotE, .axis, 25⟩ /- EnvMarginRel -/,
    ⟨0x04, .u 2, .rwd, [], (.rng 0 5000 1), .p, false, .axisNotE, .axis, 300⟩ /- EnvMarginAbs -/,
    ⟨0x05, .u 1, .rwd, [], (.rng 2 12 1), .p, false, .axis, .axis, 6⟩ /- EnvDebounce -/,
    ⟨0x06, .u 1, .rwd, [], (.rng 10 90 1), .p, false, .axis, .axis, 40⟩ /- SpeedDeficitRel -/,
    ⟨0x07, .u 2, .rwd, [], (.rng 0 200 1), .p, false, .axis, .axis, 60⟩ /- NipDistance -/,
    ⟨0x08, .oct 128, .rwd, [.fac], .any, .p, false, .axisNotE, .axis, 0⟩ /- SeedOpen -/,
    ⟨0x09, .oct 128, .rwd, [.fac], .any, .p, false, .axisNotE, .axis, 0⟩ /- SeedClose -/,
    ⟨0x0A, .u 1, .rwd, [], (.rng 0 2 1), .p, false, .axisNotE, .axis, 2⟩ /- LearnMode -/,
    ⟨0x0B, .u 1, .wo, [.semOwn], (.rng 1 2 1), .v, false, .axisNotE, .axis, 0⟩ /- EnvCommand -/,
    ⟨0x0C, .u 1, .ro, [], .any, .v, false, .axisNotE, .axis, 0⟩ /- EnvState -/,
    ⟨0x0D, .u 4, .ro, [], .any, .v, false, .axisNotE, .axis, 0⟩ /- LearnCount -/,
    ⟨0x0E, .u 4, .ro, [], .any, .v, false, .axisNotE, .axis, 0⟩ /- LearnCapCount -/,
    ⟨0x0F, .u 2, .rwd, [], .any, .p, false, .axis, .axis, 4000⟩ /- FixedIMax -/,
    ⟨0x10, .u 2, .rwd, [], .any, .p, false, .axis, .axis, 2500⟩ /- FixedIMaxNip -/,
    ⟨0x11, .u 2, .rwd, [], .any, .p, false, .axis, .axis, 2000⟩ /- EndStopCurrent -/,
    ⟨0x12, .u 2, .rwd, [], .any, .p, false, .axis, .axis, 200⟩ /- EndStopTime -/,
    ⟨0x13, .oct 16, .ro, [], .any, .v, false, .axis, .axis, 0⟩ /- LastTrip -/,
    ⟨0x14, .u 2, .rwd, [.fac], .any, .p, false, .axis, .axis, 0⟩ /- TripChannel1 -/,
    ⟨0x15, .u 2, .rwd, [.fac], .any, .p, false, .axis, .axis, 0⟩ /- TripChannel2 -/,
    ⟨0x16, .u 1, .rwd, [], (.mask 3), .p, false, .axis, .axis, 0⟩ /- TripPolarity -/,
    ⟨0x17, .u 2, .rwd, [], (.rng 0 500 1), .p, false, .axis, .axis, 50⟩ /- ArmDelay -/,
    ⟨0x18, .u 4, .ro, [], .any, .v, false, .axis, .axis, 0⟩ /- ObstacleCount -/]⟩,
  ⟨0x3500, 24, [
    ⟨0x01, .u 2, .rwd, [], .any, .p, false, .axis, .axis, 28672⟩ /- LatchSource0 -/,
    ⟨0x02, .u 1, .rwd, [], (.rng 0 1 1), .p, false, .axis, .axis, 1⟩ /- LatchMode0 -/,
    ⟨0x03, .oct 16, .ro, [], .any, .v, false, .axis, .axis, 0⟩ /- LatchRecord0 -/,
    ⟨0x04, .u 2, .rwd, [], .any, .p, false, .axis, .axis, 0⟩ /- LatchSource1 -/,
    ⟨0x05, .u 1, .rwd, [], (.rng 0 1 1), .p, false, .axis, .axis, 0⟩ /- LatchMode1 -/,
    ⟨0x06, .oct 16, .ro, [], .any, .v, false, .axis, .axis, 0⟩ /- LatchRecord1 -/,
    ⟨0x07, .u 1, .wo, [], (.mask 3), .v, false, .axis, .axis, 0⟩ /- LatchArm -/,
    ⟨0x10, .oct 64, .rw, [], .any, .p, false, .axis, .axis, 0⟩ /- CompareList -/,
    ⟨0x11, .u 1, .rw, [], (.rng 0 16 1), .p, false, .axis, .axis, 0⟩ /- CompareCount -/,
    ⟨0x12, .u 2, .rwd, [], .any, .p, false, .axis, .axis, 65535⟩ /- CompareOutput -/,
    ⟨0x13, .u 2, .rw, [], (.rng 1 65000 1), .p, false, .axis, .axis, 1000⟩ /- PulseWidth -/,
    ⟨0x14, .u 2, .rw, [], .any, .p, false, .axis, .axis, 2⟩ /- CompareHyst -/,
    ⟨0x15, .u 1, .rw, [], (.rng 0 1 1), .p, false, .axis, .axis, 0⟩ /- CompareMode -/,
    ⟨0x16, .u 2, .wo, [], .any, .v, false, .axis, .axis, 0⟩ /- CompareArm -/,
    ⟨0x17, .u 2, .ro, [], .any, .v, false, .axis, .axis, 0⟩ /- CompareStatus -/,
    ⟨0x18, .u 4, .ro, [], .any, .v, false, .axis, .axis, 0⟩ /- ComparePulseCount -/]⟩,
  ⟨0x4000, 2048, [
    ⟨0x01, .oct 144, .rwsOwner, [.burst], .any, .p, false, .state2, .state, 0⟩ /- StateRecord -/]⟩,
  ⟨0x6000, 256, [
    ⟨0x01, .u 1, .rwd, [.fac], (.rng 0 8 1), .p, false, .chan, .chan, 0⟩ /- ChannelMode -/,
    ⟨0x02, .u 2, .rwd, [], (.rng 0 60000 10), .p, false, .chan, .chan, 1000⟩ /- InputFilter -/,
    ⟨0x03, .u 2, .rwd, [], (.rng 5 500 1), .p, false, .chan, .chan, 50⟩ /- XcheckTime -/,
    ⟨0x04, .u 2, .rwd, [], .any, .p, false, .chan, .chan, 65535⟩ /- TestSource -/,
    ⟨0x05, .u 2, .rwd, [], (.rng 100 10000 1), .p, false, .chan, .chan, 1000⟩ /- TestPeriod -/,
    ⟨0x06, .u 2, .rwd, [], (.rng 100 300 1), .p, false, .chan, .chan, 200⟩ /- TestWidth -/,
    ⟨0x07, .u 1, .rw, [], .any, .p, false, .chan, .chan, 254⟩ /- DiagNoticeMask -/,
    ⟨0x08, .u 1, .rwd, [], (.rng 0 1 1), .p, false, .chan, .chan, 0⟩ /- OutputSource -/,
    ⟨0x09, .u 1, .rw, [], (.mask 63), .p, false, .chan, .chan, 63⟩ /- OutputNoticeMask -/]⟩]

/-- Rows of the object tables from index 16#6100 (R166, R169, R174). -/
def objGroups11 : List Group := [
  ⟨0x6100, 256, [
    ⟨0x01, .bool, .ro, [], .any, .v, false, .chan, .chan, 0⟩ /- InputState -/,
    ⟨0x02, .u 1, .ro, [], .any, .v, false, .chan, .chan, 0⟩ /- RawState -/,
    ⟨0x03, .u 2, .ro, [], .any, .v, false, .chan, .chan, 0⟩ /- InputVoltage -/,
    ⟨0x04, .u 4, .ro, [], .any, .v, false, .chan, .chan, 0⟩ /- EdgeCount -/,
    ⟨0x05, .u 8, .ro, [], .any, .v, false, .chan, .chan, 0⟩ /- LastEdgeTime -/,
    ⟨0x06, .u 1, .rw, [], .any, .v, false, .chan, .chan, 0⟩ /- OutputDemand -/,
    ⟨0x07, .u 2, .ro, [], .any, .v, false, .chan, .chan, 0⟩ /- LoadCurrent -/,
    ⟨0x08, .u 2, .ro, [], (.rng 0 1023 1), .v, false, .chan, .chan, 0⟩ /- EffectiveDuty -/,
    ⟨0x09, .u 2, .ro, [], .any, .v, false, .chan, .chan, 0⟩ /- OutputFlags -/,
    ⟨0x0A, .u 1, .wo, [], (.only 165), .v, false, .chan, .chan, 0⟩ /- OutputReset -/]⟩,
  ⟨0x6200, 256, [
    ⟨0x01, .u 2, .ro, [], .any, .v, false, .chan, .chan, 0⟩ /- DiagStatus -/,
    ⟨0x02, .u 2, .rw, [.w1c], .any, .v, false, .chan, .chan, 0⟩ /- DiagSticky -/,
    ⟨0x03, .u 4, .ro, [], .any, .v, false, .chan, .chan, 0⟩ /- XcheckCount -/,
    ⟨0x04, .u 4, .ro, [], .any, .v, false, .chan, .chan, 0⟩ /- WireBreakCount -/,
    ⟨0x05, .u 4, .ro, [], .any, .v, false, .chan, .chan, 0⟩ /- OverTempCount -/,
    ⟨0x06, .u 4, .ro, [], .any, .v, false, .chan, .chan, 0⟩ /- OverloadCount -/]⟩,
  ⟨0x6300, 256, [
    ⟨0x01, .u 4, .ro, [], .any, .v, false, .chan, .chan, 0⟩ /- ClampEnergyLast -/,
    ⟨0x02, .u 4, .ro, [], .any, .v, false, .chan, .chan, 0⟩ /- ClampEnergyAcc -/,
    ⟨0x03, .u 8, .ro, [], .any, .v, false, .chan, .chan, 0⟩ /- ClampEnergyTotal -/,
    ⟨0x04, .u 4, .ro, [], .any, .v, false, .chan, .chan, 0⟩ /- SwitchOnCount -/,
    ⟨0x05, .u 4, .ro, [], .any, .v, false, .chan, .chan, 0⟩ /- OnSeconds -/,
    ⟨0x06, .u 4, .ro, [], .any, .v, false, .chan, .chan, 0⟩ /- TripCount -/,
    ⟨0x07, .u 4, .ro, [], .any, .v, false, .chan, .chan, 0⟩ /- ThermalOffCount -/,
    ⟨0x08, .u 4, .ro, [], .any, .v, false, .chan, .chan, 0⟩ /- LockCount -/]⟩,
  ⟨0x6400, 256, [
    ⟨0x01, .u 2, .rwd, [], (.rng 100 1000 25), .p, false, .chan, .chan, 700⟩ /- TripCurrent -/,
    ⟨0x02, .u 1, .rwd, [.fac], (.rng 0 6 1), .p, false, .chan, .chan, 0⟩ /- LoadType -/,
    ⟨0x03, .u 1, .rwd, [], (.rng 0 1 1), .p, false, .chan, .chan, 0⟩ /- TurnOffMode -/,
    ⟨0x04, .u 2, .rwd, [], (.rng 10 2000 1), .p, false, .chan, .chan, 400⟩ /- ClampBudget -/,
    ⟨0x05, .u 2, .rwd, [], (.rng 1 1000 1), .p, false, .chan, .chan, 50⟩ /- ClampDecay -/,
    ⟨0x06, .u 1, .rwd, [], (.rng 0 15 1), .p, false, .chan, .chan, 3⟩ /- ThermalRetryLimit -/,
    ⟨0x07, .u 2, .rwd, [], (.rng 100 2000 1), .p, false, .chan, .chan, 250⟩ /- PwmFrequency -/,
    ⟨0x08, .u 1, .rwd, [], (.rng 0 3 1), .p, false, .chan, .chan, 0⟩ /- OrphanState -/,
    ⟨0x09, .u 1, .rwd, [], (.mask 3), .p, false, .chan, .chan, 3⟩ /- OpenLoadCheck -/,
    ⟨0x0A, .u 2, .rwd, [], (.rng 2 100 1), .p, false, .chan, .chan, 5⟩ /- OpenLoadOnCurrent -/,
    ⟨0x0B, .u 1, .rwd, [], .any, .p, false, .chan, .chan, 255⟩ /- DirectPin -/,
    ⟨0x0C, .bool, .rwd, [], .any, .p, false, .chan, .chan, 1⟩ /- RearmOnDemand -/]⟩]

/-- Every object that some variant defines, in index order (R165, R166). -/
def objGroups : List Group :=
  objGroups0 ++ objGroups1 ++ objGroups2 ++ objGroups3 ++ objGroups4 ++ objGroups5 ++ objGroups6 ++ objGroups7 ++ objGroups8 ++ objGroups9 ++ objGroups10 ++ objGroups11

/-- The descriptor of object index.subindex with the offset of the index in its range, or none where no
variant defines it (R166). Subindex 0 is HighestSub and has no row here. -/
def lookup (k : Nat) : Option (Group × Nat × Sub) :=
  let idx := k / 256
  let sub := k % 256
  match objGroups.find? (fun g => decide (g.lo ≤ idx) && decide (idx < g.lo + g.n)) with
  | some g =>
    match g.subs.find? (fun d => d.sub == sub) with
    | some d => some (g, idx - g.lo, d)
    | none => none
  | none => none

/-- The group of an index (R166: an index no variant defines has none). -/
def lookupIdx (idx : Nat) : Option Group :=
  objGroups.find? (fun g => decide (g.lo ≤ idx) && decide (idx < g.lo + g.n))

/-- Bytes of a type's encoding (R167). -/
def Ty.bytes : Ty → Nat
  | .bool => 1
  | .u b => b
  | .i b => b
  | .oct b => b
  | .dom => 0

/-- The resource of an "Absent in" column is present at offset `i` of its range (R8). -/
def Absent.isPresent (v : Variant) (i : Nat) : Absent → Bool
  | .none => true
  | .axis => v.hasAxis i
  | .axisNotE => v.hasAxis i && !v.isE
  | .axisNotP => v.hasAxis i && !v.isP
  | .chan => v.hasChan i
  | .die => v.hasDie i
  | .notT => v.isT
  | .setp => v.isT || decide (i ≠ 2)
  | .inE => !v.isE
  | .seqE => !v.isE || decide (i = 0)
  | .seqE2 => !v.isE || decide (i < 2)
  | .tab2 => !v.isP || decide (i ≠ 2)
  | .state2 => !v.isP || decide (i / 64 ≠ 2)
  | .portE => !v.isE || decide (i ≠ 1)
  | .fnE => v.hasFn i
  | .q7E => !v.isE || decide (i ≠ 7)

/-- A profile's 12 bytes (table "Profile layout", R69). -/
def profileOf (stroke ramp creepPercent creepZone dutyLimit overtime : Nat) : Nat :=
  stroke + 65536 * ramp + 2 ^ 32 * creepPercent + 2 ^ 40 * creepZone + 2 ^ 48 * dutyLimit
    + 2 ^ 64 * overtime

/-- Profile `p` of axis `a` at the factory (table "Profile defaults", R69). -/
def factoryProfile (v : Variant) (a p : Nat) : Nat :=
  if v.isStep a then
    match p with
    | 2 => profileOf 1000 40 20 0 4095 0
    | _ => profileOf 2000 40 20 50 4095 0
  else
    match p with
    | 1 => profileOf 3000 40 20 0 4095 0
    | 2 => profileOf 3750 40 20 0 4095 0
    | _ => profileOf 2800 40 20 0 4095 0

/-- The doorway that axis `a` serves in the factory bindings (R5, R63). -/
def factoryDoorway (v : Variant) (a : Nat) : Nat :=
  if v.isStep a then v.stepDoorway (a - 16) else a / 2

/-- Axis `a` has a factory table bound (R63): a leaf of a doorway that the factory image enables, or a step. -/
def factoryBound (v : Variant) (a : Nat) : Bool :=
  v.hasAxis a && (v.isStep a || v.factoryEnabled (a / 2))

/-- ChannelMode at the factory (table "Factory channel modes", R121): 1 IN_T1, 4 OUT_HS, 0 OFF. -/
def factoryMode (v : Variant) (c : Nat) : Nat :=
  if decide (v.channels - 6 ≤ c) && v.hasChan c then 1
  else if v.factoryEnabled (c / 16) then (if c % 16 < 10 then 1 else 4)
  else if v.doorways.any (fun d => v.factoryEnabled d && decide (v.auxBase d ≤ c)
      && decide (c ≤ v.auxBase d + 2)) then 1
  else if (List.range 8).any (fun k => v.hasAxis (16 + k) && v.isStep (16 + k)
      && decide (v.stepInputBase k ≤ c) && decide (c ≤ v.stepInputBase k + 1)) then 1
  else 0

/-- LoadType at the factory (table "Factory output settings", R143): 3 SOLENOID, 2 CAP_LED, 0 RESISTIVE. -/
def factoryLoad (v : Variant) (c : Nat) : Nat :=
  if v.factoryEnabled (c / 16) then
    match c % 16 with
    | 10 => 3
    | 11 => 3
    | 12 => 2
    | 14 => 2
    | 15 => 2
    | _ => 0
  else 0

/-- Depths of the queues (table "Queues", R270). -/
def queueDepth (q : Nat) : Nat :=
  match q with
  | 0 => 256 | 1 => 256 | 2 => 96 | 3 => 32 | 4 => 1120 | 5 => 4096 | 6 => 512 | 7 => 512
  | 8 => 16 | 9 => 2 | 10 => 8 | 11 => 262144 | 12 => 64 | 13 => 16384 | 14 => 16384
  | _ => 0

/-- The mask of every present channel, as ChannelMask holds it (R251). -/
def allChannels (v : Variant) : Nat := 2 ^ v.channels - 1

/-- All ones in `n` 16-bit fields. -/
def allOnes16 (n : Nat) : Nat := 2 ^ (16 * n) - 1

/-- Defaults that depend on the variant or on the unit: `lo` is the first index of the range, `i` the
offset in it. The rule of each row stands beside it. -/
def factory (v : Variant) (lo sub i : Nat) : Nat :=
  match lo, sub with
  | 0x1000, 0x02 => v.productCode              -- R13
  | 0x1000, 0x03 => v.featureCode              -- R13
  | 0x1000, 0x04 => serial                     -- R414
  | 0x1000, 0x05 => dieRevision % 65536
  | 0x1001, 0x01 => v.axisMask                 -- R13
  | 0x1001, 0x02 => v.dieMask
  | 0x1001, 0x03 => v.featureMask
  | 0x1001, 0x04 => v.functionMask
  | 0x1200, 0x01 => mac                        -- R414
  | 0x1300, 0x01 => queueDepth i               -- R270
  | 0x1300, 0x04 => queueDepth i * 3 / 4       -- R276
  | 0x1300, 0x05 => queueDepth i / 4           -- R276
  | 0x1402, 0x06 => if v.isT then 0x0D else 0x05
  | 0x1410, 0x05 => 2500                       -- table "Chemistry defaults", EDLC
  | 0x1410, 0x06 => 2700
  | 0x1410, 0x07 => 0
  | 0x1410, 0x08 => 2300
  | 0x1410, 0x09 => 20
  | 0x1480, 0x01 => 0                          -- R75: IdleCode, 0
  | 0x1480, 0x03 => if i = 2 then 16 else 64   -- table "Set-point defaults"
  | 0x1700, 0x01 => if i ≤ 1 then 0 else 0xFF  -- table "Factory functions"
  | 0x1700, 0x02 => if i = 1 then v.axisMask else 0
  | 0x1700, 0x03 => if i = 1 then allChannels v else 0
  | 0x1700, 0x04 => if i = 1 then 2 ^ 96 - 2 ^ 16 else 0
  | 0x1700, 0x05 => if i = 1 then 0 else 0xFF
  | 0x1700, 0x06 => if i ≤ 1 then 8 else 4
  | 0x1700, 0x07 => if i = 0 then 4 else if i = 1 then 8 else 0
  | 0x1700, 0x0A => if i = 0 then 1 else 0
  | 0x1700, 0x0B => if i ≤ 1 then 1 else 0
  | 0x2104, 0x01 => if i = 0 then 0 else 0xFF  -- R63
  | 0x3000, 0x20 => if factoryBound v i then (if v.isStep i then 2 else 1) else 0xFF
  | 0x3000, 0x21 =>
    if factoryBound v i then
      (if v.isStep i then v.stepInputBase (i - 16) else 16 * (i / 2) + 4 * (i % 2)) else 0
  | 0x3000, 0x22 => if factoryBound v i then 16 * factoryDoorway v i else 0
  | 0x3000, 0x23 => if factoryBound v i then v.auxBase (factoryDoorway v i) else 0
  | 0x3000, 0x24 => if v.isStep i then 0 else i % 2
  | 0x3000, 0x26 => if v.isStep i then v.stepDoorway (i - 16) else 0
  | 0x3200, 0x09 =>                            -- R101
    if factoryBound v i then
      (if v.isStep i then v.stepInputBase (i - 16) + 1 else 16 * (i / 2) + 4 * (i % 2)) else 0xFFFF
  | 0x3200, 0x0F => 12 + 256 * 13
  | 0x3300, n => factoryProfile v i (n - 0x10)
  | 0x3400, 0x01 => allOnes16 64               -- the seed
  | 0x3400, 0x02 => allOnes16 64
  | 0x3400, 0x08 => allOnes16 64
  | 0x3400, 0x09 => allOnes16 64
  | 0x3400, 0x14 =>                            -- R80
    if factoryBound v i && !v.isStep i then v.auxBase (i / 2) + 1 else 0xFFFF
  | 0x3400, 0x15 =>
    if factoryBound v i && !v.isStep i then v.auxBase (i / 2) + 2 else 0xFFFF
  | 0x6000, 0x01 => factoryMode v i
  | 0x6400, 0x02 => factoryLoad v i
  | _, _ => 0

/-- The default of an object (column "Default"), or HighestSub for subindex 0 (R165). -/
def defaultOf (v : Variant) (k : Nat) : Nat :=
  match lookup k with
  | some (g, i, d) => if d.flags.contains .fac then factory v g.lo d.sub i else d.dflt
  | none =>
    if k % 256 = 0 then
      match lookupIdx (k / 256) with
      | some g => g.subs.foldl (fun m d => max m d.sub) 0
      | none => 0
    else 0

/-- Bytes of an object's value (R167). -/
def sizeOf (k : Nat) : Nat :=
  match lookup k with
  | some (_, _, d) => d.ty.bytes
  | none => 1

/-- The object keeps its working value through every logic-die reset (R180, R338, R339): the rows marked
"held in VAON", of which the GP rows only for port A. -/
def heldInVaon (k : Nat) : Bool :=
  match lookup k with
  | some (g, i, d) => d.vaon && !(decide (g.lo = 0x1800 ∨ g.lo = 0x1806) && decide (i ≠ 0))
  | none => false

/-- Persistence class of an object (R174). -/
def persOf (k : Nat) : Pers :=
  match lookup k with
  | some (_, _, d) => d.per
  | none => .f

end Sys2Proof.Machine
end

