-- ==== Sys2Proof/Machine/TypesAxis.lean ====
section
/-!
DEFINITION. Machine/TypesAxis.lean: the internal state of one axis unit as plain data: motion and obstacle
detection (04_drives_obstacles.md), position feedback, latches and compare (05_position_feedback.md), and the
door cycle that the recorder keeps open (R152, 08_recorder.md).
-/
namespace Sys2Proof.Machine
open Sys2Proof

/-- The reaction of an axis fault that is in force until the first MOVE after FAULT has cleared (R72, R73). -/
inductive Reaction where
  | none
  | enLow
  | brake
  | noMotion
  deriving DecidableEq, Repr

/-- Sums of CurrentMean per envelope bin (R84, R85). -/
structure BinSum where
  sum : Nat
  count : Nat
  deriving DecidableEq, Repr

/-- Seed capture (R85). -/
structure Capture where
  /-- counting starts at the next MOVE -/
  armed : Bool
  active : Bool
  opens : Nat
  closes : Nat
  openMeans : List BinSum
  closeMeans : List BinSum
  deriving DecidableEq, Repr

/-- A latch unit (R104). -/
structure Latch where
  armed : Bool
  seq : Nat
  deriving DecidableEq, Repr

/-- A compare entry (R105): armed, and whether Position lies at or above its value. -/
structure CompareEntry where
  armed : Bool
  above : Bool
  deriving DecidableEq, Repr

/-- An edge or word with its timestamp (R103). -/
structure Edge where
  pos : Int
  t : Nat
  deriving DecidableEq, Repr

/-- The cycle that is open on an axis (R152). Times are on the model's clock. -/
structure Cycle where
  openedAt : Nat
  outcome : Nat
  reversals : Nat
  movingAt : Option Nat
  openMoveAt : Nat
  openStrokeMs : Nat
  openEndAt : Option Nat
  holdMs : Nat
  closeMoveAt : Nat
  closeStrokeMs : Nat
  closedAt : Option Nat
  peakBinOpen : Nat
  peakBinClose : Nat
  peakOpen : Nat
  peakClose : Nat
  minMargin : Int
  learned : Bool
  unreferenced : Bool
  refused : Bool
  inNip : Bool
  deriving DecidableEq, Repr

/-- One axis unit. What the objects 16#3000+a to 16#3500+a show stands in the object store. -/
structure Axis where
  -- drive (R65, R66, R70)
  en : Bool
  dir : Bool
  braked : Bool
  /-- end of DirGuard and the direction that waits for it -/
  guard : Option (Nat × Bool)
  acc : Int
  -- motion (R68 to R71)
  moveAt : Nat
  /-- trajectory position in 1/1000 count -/
  traj : Int
  /-- the trajectory is still running towards its target -/
  running : Bool
  cruising : Bool
  reaction : Reaction
  unrefAt : Option Nat
  -- obstacle detection (R77 to R81, R88)
  armed : Bool
  tripArmed : Bool
  overSince : Option Nat
  overBin : Nat
  slowSince : Option Nat
  endStopSince : Option Nat
  dirBase : Int
  -- learning (R83 to R85)
  fullStroke : Bool
  clean : Bool
  verdict : Option Bool
  sums : List BinSum
  /-- a stroke ended in AT_TARGET waits for the next MOVE: true for the opening direction -/
  pendingLearn : Option Bool
  capture : Capture
  resetToSeed : Bool
  -- feedback (R90 to R97)
  levelA : Bool
  levelB : Bool
  lastUp : Bool
  /-- an input pair disagrees now; it has done so for PairFaultTime (R92) -/
  pairBad : List Bool
  pairLong : List Bool
  illegalAt : List Nat
  toothAt : Option Nat
  gap : Option Nat
  teeth : Nat
  exempt : Bool
  wordAt : Nat
  wordHigh : Bool
  invalidRun : Nat
  /-- a valid word has come since the reset (R101); the position of the last valid word (R97) -/
  validSeen : Bool
  lastWord : Option Int
  travel : Nat
  edges : List Edge
  rangeStopped : Bool
  -- latches and compare (R104, R105)
  latches : List Latch
  compares : List CompareEntry
  pulseUntil : Option Nat
  cycle : Option Cycle
  deriving DecidableEq, Repr

def BinSum.zeros : List BinSum := List.replicate 64 ⟨0, 0⟩

/-- An axis unit after a logic-die reset: EN_a, PWM_a and DIR_a low, nothing armed (R341). LATCH units are
armed, and no edge has been seen. -/
def Axis.reset : Axis :=
  { en := false, dir := false, braked := false, guard := none, acc := 0
    moveAt := 0, traj := 0, running := false, cruising := false, reaction := .none, unrefAt := none
    armed := false, tripArmed := false, overSince := none, overBin := 0, slowSince := none
    endStopSince := none, dirBase := 0
    fullStroke := false, clean := false, verdict := none, sums := BinSum.zeros, pendingLearn := none
    capture := ⟨false, false, 0, 0, BinSum.zeros, BinSum.zeros⟩, resetToSeed := false
    levelA := false, levelB := false, lastUp := true
    pairBad := [false, false, false], pairLong := [false, false, false], illegalAt := [], toothAt := none, gap := none, teeth := 0
    exempt := false, wordAt := 0, wordHigh := true, invalidRun := 0, validSeen := false, lastWord := none
    travel := 0, edges := [], rangeStopped := false
    latches := [⟨true, 0⟩, ⟨true, 0⟩]
    compares := List.replicate 16 ⟨true, true⟩
    pulseUntil := none, cycle := none }

end Sys2Proof.Machine
end

