-- ==== Sys2Proof/Machine/TypesField.lean ====
section
/-!
DEFINITION. Machine/TypesField.lean: the internal state of a field channel and of a field die as plain data
(06_field_inputs.md, 07_field_outputs.md).
-/
namespace Sys2Proof.Machine
open Sys2Proof

/-- A flashing base demand (R124): half-period, whether it is in its on phase, and the next toggle. -/
structure Flash where
  half : Nat
  on : Bool
  next : Nat
  deriving DecidableEq, Repr

/-- One field cell. What the objects 16#6000+c to 16#6400+c show stands in the object store. -/
structure Chan where
  -- input path (R107 to R120)
  /-- voltage at the ball in mV, as each comparator path judges it -/
  mv : Int
  lattMv : Int
  /-- latest raw samples of the two comparators -/
  rawF : Bool
  rawL : Bool
  /-- filtered functional state in the die -/
  filt : Bool
  /-- wire-break band in force: 0 BREAK, 1 OFF, 2 ON (R112) -/
  band : Option Nat
  /-- a filtered change being counted: the new state or band, and since when (R108) -/
  pend : Option (Nat × Nat)
  /-- the filter has run once in the present mode (R120) -/
  ran : Bool
  gapSince : Option Nat
  marginal : Bool
  xBad : Option Nat
  xGood : Option Nat
  testBad : Nat
  testGood : Nat
  /-- read on before the running test window of its source (R117) -/
  preOn : Bool
  stuckPasses : Nat
  /-- the functional filter holds since, and its source's window ended then (R117) -/
  holdFrom : Option Nat
  overSince : Option Nat
  inRangeSince : Option Nat
  noticeAt : Option Nat
  -- as a test source (R116, R117)
  window : Option Nat
  lastWindow : Nat
  -- output path (R122 to R137)
  /-- base demand of its source, its flash, and the unlock demand of R53 -/
  base : Nat
  flash : Option Flash
  unlock : Bool
  /-- the orphan state is in force, with its flash (R137) -/
  orphan : Bool
  oflash : Option Flash
  /-- combined demand that the latest output frame delivered (R124, R125) -/
  dem : Bool
  on : Bool
  onAt : Nat
  offAt : Nat
  /-- time on, ended on-periods only -/
  onAcc : Nat
  /-- base demand off since (R131) -/
  demandOffAt : Nat
  inrushUntil : Option Nat
  /-- the next switch-on opens an inrush window whatever the off time (R128) -/
  fresh : Bool
  /-- a clamp event runs (R129) -/
  clamping : Bool
  decayAt : Nat
  /-- the junction has not cooled 15 K below its limit (R132) -/
  hot : Bool
  retries : List Nat
  /-- the lead of the gang that this channel follows (R126) -/
  lead : Option Nat
  deriving DecidableEq, Repr

/-- What a field die keeps of one channel in its own registers (R136, R342, R343). -/
structure ChanRegs where
  mode : Nat
  pin : Nat
  trip : Nat
  load : Nat
  turnOff : Nat
  deriving DecidableEq, Repr

/-- One field die (R25, R109, R125, R138). -/
structure Die where
  lattAt : Nat
  lattUp : Bool
  funcAt : Nat
  funcUp : Bool
  outAt : Nat
  outUp : Bool
  uv : Bool
  gnd : Bool
  surge : Bool
  /-- the die lost its registers and waits for the reload (R138) -/
  lost : Bool
  reversed : Bool
  /-- when it last lost its registers -/
  porAt : Nat
  regs : List ChanRegs
  deriving DecidableEq, Repr

/-- A cell at rest: nothing seen, nothing driven. -/
def Chan.reset : Chan :=
  { mv := 0, lattMv := 0, rawF := false, rawL := false, filt := false, band := none, pend := none
    ran := false, gapSince := none, marginal := false
    xBad := none, xGood := none, testBad := 0, testGood := 0, preOn := false, stuckPasses := 0
    holdFrom := none, overSince := none, inRangeSince := none, noticeAt := none
    window := none, lastWindow := 0
    base := 0, flash := none, unlock := false, orphan := false, oflash := none, dem := false
    on := false, onAt := 0, offAt := 0, onAcc := 0, demandOffAt := 0
    inrushUntil := none, fresh := true, clamping := false, decayAt := 0, hot := false, retries := []
    lead := none }

/-- A channel's registers in a die that has just come up: OFF. -/
def ChanRegs.reset : ChanRegs := ⟨0, 0xFF, 700, 0, 0⟩

/-- A die that is supplied and configured with every channel OFF, with no link yet. -/
def Die.reset : Die :=
  { lattAt := 0, lattUp := false, funcAt := 0, funcUp := false, outAt := 0, outUp := false
    uv := false, gnd := false, surge := false, lost := false, reversed := false, porAt := 0
    regs := List.replicate 64 ChanRegs.reset }

end Sys2Proof.Machine
end

