-- ==== Sys2Proof/Machine/TypesHost.lean ====
section
/-!
DEFINITION. Machine/TypesHost.lean: the internal state of the host side as plain data: sessions and
semaphores (11_masters_sessions.md), transactions, bursts and notices (12_transactions.md), the drains of
functions (13_functions.md) and the weirs of queues (14_queues_flow.md). What an object of the dictionary
holds stands in the object store and is not repeated here.
-/
namespace Sys2Proof.Machine
open Sys2Proof

/-- A challenge that waits for its PROOF (R207, R210). -/
structure Challenge where
  sid : Nat
  nc : List Byte
  nd : List Byte
  force : Bool
  transport : Transport
  peer : Peer
  at_ : Nat
  /-- the provisioning case of R214: no key, no proof, no tags -/
  keyless : Bool
  deriving DecidableEq, Repr

/-- A subscription (R247). -/
structure Subscription where
  id : Nat
  fn : Nat
  mask : Nat
  acked : Bool
  unicast : Bool
  deriving DecidableEq, Repr

/-- One entry of CompletionEcho (R239). -/
structure Echo where
  tag : Nat
  status : Nat
  frame : Nat
  elem : Nat
  op : Nat
  deriving DecidableEq, Repr

/-- A session bound to a place (R206 to R209). -/
structure Session where
  /-- a number that no other session of the run carries -/
  no : Nat
  sid : Nat
  transport : Transport
  peer : Peer
  sk : List Byte
  /-- R214: tags are not checked and sent as zeros -/
  keyless : Bool
  rxCount : Nat
  txCount : Nat
  /-- when the latest accepted frame restarted the timer (R216) -/
  timerAt : Nat
  /-- CLOSE was admitted: later frames are refused (R218) -/
  closing : Bool
  /-- the session ends once the COMPLETE of this transaction is sent, with this cause: its own CLOSE or the reset of
  its own slot (R217, R218) -/
  endOn : Option (Nat × Nat)
  safetyExpected : Nat
  safetySent : Nat
  subs : List Subscription
  echo : List Echo
  cursorLog : Nat
  cursorSeq : Nat
  windowSize : Nat
  deriving DecidableEq, Repr

/-- A place: 0 and 1 the master slots, 2 to 7 the observer places (R206). Its state number stands in the
object store (SlotState, PlaceState). -/
structure Place where
  challenge : Option Challenge
  session : Option Session
  /-- when HOLDOFF was entered -/
  holdSince : Nat
  deriving DecidableEq, Repr

/-- Authentication failures of a role and its lock-out (R211). -/
structure AuthGate where
  failures : List Nat
  lockedUntil : Option Nat
  deriving DecidableEq, Repr

/-- The holder of a semaphore (R222, R225). -/
inductive SemaState where
  | free
  | held (m : Nat)
  | holdoff (m : Nat)
  deriving DecidableEq, Repr

/-- A SEMA_TAKE that waits (R223). Takes of one session on one semaphore are answered together. -/
structure SemaWait where
  sema : Nat
  place : Nat
  /-- its transaction, and when its WaitMs expires -/
  flight : Nat
  until_ : Nat
  deriving DecidableEq, Repr

/-- The operation of an admitted element, as its body spells it (table "Operations", R234). -/
inductive Req where
  | keep
  | close
  | read (idx sub offset maxLen : Nat)
  | write (idx sub : Nat) (data : List Byte)
  | readMulti (entries : List (Nat × Nat))
  | writeMulti (entries : List (Nat × Nat × List Byte))
  | burstBegin
  | burstSeg (segNo idx sub offset : Nat) (data : List Byte)
  | burstEnd (count crc : Nat)
  | burstAbort
  | semaTake (sema waitMs : Nat)
  | semaGive (sema : Nat)
  | semaQuery (sema : Nat)
  | cmd (idx sub : Nat) (data : List Byte)
  | subscribe (fn flags mask : Nat)
  | unsubscribe (id : Nat)
  | store (scope : Nat)
  | noticeAck (entries : List (Nat × Nat × Nat))
  /-- an Op that the table does not know (R233) -/
  | undefinedOp
  /-- a body whose length does not fit its operation; the count field where a multi operation's count is
  out of range -/
  | badLength
  | badCount
  deriving DecidableEq, Repr

/-- The safety code of an element (R245), with its CRC already compared. -/
structure Safety where
  seq : Nat
  refTime : Nat
  crcOk : Bool
  deriving DecidableEq, Repr

/-- Where a transaction in flight stands (R235, R236). -/
inductive Phase where
  /-- in its Headpond -/
  | queued
  /-- in an execution lane -/
  | lane (l : Nat)
  /-- started, waiting for a grant, an answer or a commit, without a lane -/
  | held
  /-- its COMPLETE is written in the completion queue -/
  | done
  deriving DecidableEq, Repr

/-- A transaction in flight: from its admission until its COMPLETE enters Outfall (R235). -/
structure Flight where
  id : Nat
  place : Nat
  /-- the number of its session -/
  sess : Nat
  tag : Nat
  frame : Nat
  elem : Nat
  op : Nat
  req : Req
  /-- the element's body from SegNo on, for the burst CRC (R243) -/
  raw : List Byte
  /-- SafetyRefTime of an element that passed its safety code -/
  safety : Option Nat
  /-- the functions it belongs to (R257) -/
  fns : List Nat
  /-- its lane class (R257) -/
  cls : Nat
  /-- its session has ended: the completion is discarded (R219) -/
  orphan : Bool
  phase : Phase
  /-- when the present lane started it -/
  since : Nat
  /-- its session came over the local host link -/
  link : Bool
  /-- its session's key SK -/
  sk : List Byte
  /-- of a BURST_BEGIN: the first segment behind it that admission refused (R242) -/
  poison : Option (Nat × Nat)
  deriving DecidableEq, Repr

/-- A written completion that waits for NI egress (R237, R238). -/
structure Done where
  place : Nat
  sess : Nat
  tag : Nat
  op : Nat
  status : Nat
  detail : Nat
  data : List Byte
  frame : Nat
  elem : Nat
  /-- DUPLICATE of R235 -/
  duplicate : Bool
  safety : Bool
  /-- the flight it completes, none for a refusal entry (R273) -/
  flight : Option Nat
  at_ : Nat
  deriving DecidableEq, Repr

/-- A staged segment of a burst (R242). -/
structure Segment where
  segNo : Nat
  idx : Nat
  sub : Nat
  offset : Nat
  data : List Byte
  raw : List Byte
  /-- the segment carried a passed safety code (R245) -/
  safety : Bool
  deriving DecidableEq, Repr

/-- A master's burst buffer (R242). -/
structure Burst where
  isOpen : Bool
  /-- the first refusal's status and SegNo, once poisoned -/
  poison : Option (Nat × Nat)
  segs : List Segment
  lastAt : Nat
  deriving DecidableEq, Repr

/-- A HOST or open frame waiting in NI ingress or link ingress (R273). -/
structure RxFrame where
  transport : Transport
  peer : Peer
  place : Nat
  sess : Nat
  frameCount : Nat
  body : List Byte
  count : Nat
  deriving DecidableEq, Repr

/-- A frame that the device has formed for a host (R230, R275). -/
structure TxFrame where
  transport : Transport
  peer : Peer
  /-- sent to NoticeGroup (R248) -/
  group : Bool
  bytes : List Byte
  at_ : Nat
  deriving DecidableEq, Repr

/-- A notice in the pool, for one subscription (R248, R249, "Notice pool and folding"). -/
structure Notice where
  place : Nat
  sess : Nat
  subId : Nat
  /-- class * 4096 + number -/
  source : Nat
  seq : Nat
  kind : Nat
  safety : Bool
  tb32 : Nat
  data : List Byte
  acked : Bool
  unicast : Bool
  fn : Nat
  /-- when an ACKED notice was last sent -/
  sentAt : Option Nat
  deriving DecidableEq, Repr

/-- The hidden state of a queue's weirs (R277, R278). -/
structure Weir where
  last : Nat
  armed : Bool
  highAt : Option Nat
  lowAt : Option Nat
  highSuppressed : Bool
  lowSuppressed : Bool
  deriving DecidableEq, Repr

/-- The hidden state of a function (R254, R258 to R262, R266, R267). -/
structure FnUnit where
  drainAt : Nat
  /-- the drain ends in ENABLED -/
  targetEnabled : Bool
  resetPending : Bool
  /-- the tick boundary of R258 has passed -/
  boundary : Bool
  /-- FunctionControl writes that joined the drain, by flight -/
  joined : List Nat
  /-- virtual time of the lanes -/
  vLane : Nat
  /-- virtual time of the notice stream -/
  vNote : Nat
  hadLane : Bool
  hadNote : Bool
  deriving DecidableEq, Repr

/-- The host side: everything of chapters 11 to 14 that no object holds. -/
structure HostSide where
  places : List Place
  gates : List AuthGate
  semas : List SemaState
  waits : List SemaWait
  /-- the rotation bit G names M1 (R224) -/
  rotate : Bool
  nextSession : Nat
  nextFlight : Nat
  flights : List Flight
  done : List Done
  bursts : List Burst
  niIngress : List RxFrame
  linkIngress : List RxFrame
  linkEgress : List TxFrame
  /-- ERR of LinkStatus -/
  linkErr : Bool
  /-- NI egress formed a NOTICE frame last (R275) -/
  lastKindNotice : Bool
  pool : List Notice
  /-- SourceSeq per source -/
  seqs : List (Nat × Nat)
  weirs : List Weir
  fns : List FnUnit
  deriving DecidableEq, Repr

/-- A place with nothing in it. -/
def Place.empty : Place := ⟨none, none, 0⟩
/-- No burst open. -/
def Burst.closed : Burst := ⟨false, none, [], 0⟩
/-- A queue's weirs as a logic-die reset leaves them: armed, empty (R277). -/
def Weir.reset : Weir := ⟨0, true, none, none, false, false⟩
/-- A function's hidden state after a logic-die reset. -/
def FnUnit.reset : FnUnit := ⟨0, false, false, false, [], 0, 0, false, false⟩

/-- The host side after a logic-die reset: all places FREE, all semaphores free, all queues empty, G = M0
(R207, R224, R270). -/
def HostSide.reset : HostSide :=
  { places := List.replicate 8 Place.empty
    gates := List.replicate 3 ⟨[], none⟩
    semas := List.replicate 64 .free
    waits := []
    rotate := false
    nextSession := 0
    nextFlight := 0
    flights := []
    done := []
    bursts := [Burst.closed, Burst.closed]
    niIngress := []
    linkIngress := []
    linkEgress := []
    linkErr := false
    lastKindNotice := false
    pool := []
    seqs := []
    weirs := List.replicate 15 Weir.reset
    fns := List.replicate 8 FnUnit.reset }

end Sys2Proof.Machine
end

