-- ==== Sys2Proof/Machine/TypesNet.lean ====
section
/-!
DEFINITION. Machine/TypesNet.lean: the internal state of the network ports, switch, bypass and PTP clock
(10_network_ports.md) and of the general-purpose pins (19_gp_pins.md) as plain data.
Readings and choices in the log: DESIGN CHOICE 142.
-/
namespace Sys2Proof.Machine
open Sys2Proof

/-- A frame in an egress queue (R189, R190, R194). -/
structure NetFrame where
  frame : EthFrame
  /-- the port it arrived on; none for a frame from NI -/
  ingress : Option Nat
  /-- arrival of its last byte, or its completion in NI -/
  at_ : Nat
  /-- frame-buffer cells of 256 bytes that it holds -/
  cells : Nat
  /-- its egress queue Q0 to Q3 -/
  q : Nat
  /-- it cut through with a bad FCS (R188) -/
  stomp : Bool
  /-- the Dulas frame that it carries -/
  tx : Option TxFrame
  deriving DecidableEq, Repr

/-- A port: link, egress queues Q0 to Q3 and the transmitter (R184 to R201). -/
structure PortUnit where
  up : Bool
  /-- AutoNeg as the latest reset of the PHY took it (R184) -/
  an : Bool
  queues : List (List NetFrame)
  sending : Option NetFrame
  /-- its queues are empty since -/
  emptySince : Nat
  /-- LPI ends and the transmitter may send from then on -/
  wakeAt : Option Nat
  deriving DecidableEq, Repr

/-- An entry of the learning table (R186). -/
structure Learned where
  mac : Nat
  port : Nat
  at_ : Nat
  deriving DecidableEq, Repr

/-- The bypass (R197). -/
structure Bypass where
  coils : Bool
  rbA : Bool
  rbB : Bool
  /-- entry into the present state; energising of the coils -/
  since : Nat
  /-- the retry delay ends then -/
  retryAt : Nat
  /-- the present retry delay in s; 0 before a failed insertion -/
  delay : Nat
  grant : Bool
  /-- the self-test has passed, and ON_GRANT waits for a grant -/
  passed : Bool
  /-- PHYs powered (R199, R318) -/
  phys : Bool
  deriving DecidableEq, Repr

/-- The best Announce of a port and when it was received (R202). -/
structure Master where
  ann : Announce
  at_ : Nat
  deriving DecidableEq, Repr

/-- The ordinary clock's measurement: Sync origin t1 and arrival t2, Delay_Req departure t3, in ns. -/
structure PtpUnit where
  masters : List (Option Master)
  /-- the Sync that waits for its Follow_Up: sequenceId and arrival -/
  syncPending : Option (Nat × Nat)
  sync : Option (Int × Int)
  /-- sync interval in ms -/
  syncMs : Nat
  delayReq : Option (Nat × Int)
  delaySeq : Nat
  delayNext : Nat
  delayMs : Nat
  deriving DecidableEq, Repr

/-- A pending residence time (R203): toward NB, the kind, sequenceId and identity, and the residence in ns. -/
structure TcEntry where
  toNb : Bool
  isSync : Bool
  seq : Nat
  port : Nat
  residence : Nat
  at_ : Nat
  deriving DecidableEq, Repr

/-- Everything of chapter 10 that no object holds. -/
structure Net where
  ports : List PortUnit
  /-- frames that wait in NI for buffer cells (R189) -/
  niWait : List NetFrame
  learned : List Learned
  bypass : Bypass
  ptp : PtpUnit
  tc : List TcEntry
  /-- objects of 16#1240 as the latest logic-die reset took them (R195) -/
  ip : List (Nat × Nat)
  deriving DecidableEq, Repr

/-- A pattern unit's hold (R360). -/
structure PatternUnit where
  holdSince : Option Nat
  deriving DecidableEq, Repr

/-- A pin notice line (R361): the level last seen, the level last reported, and when. -/
structure PinLine where
  seen : Bool
  reported : Bool
  lastAt : Option Nat
  suppressed : Bool
  deriving DecidableEq, Repr

/-- Everything of chapter 19 that no object holds, for pins 16p + i: levels from outside, synchronised values, and
orphan levels in force (0 low, 1 high, 2 released). -/
structure Gp where
  outside : List Bool
  sync : List Bool
  orphan : List (Option Nat)
  units : List PatternUnit
  lines : List PinLine
  ppsUntil : Option Nat
  deriving DecidableEq, Repr

def PortUnit.reset : PortUnit := ⟨false, true, [[], [], [], []], none, 0, none⟩

/-- The network after a logic-die reset: links down, BYPASSED, nothing learned (R199, R341). -/
def Net.reset : Net :=
  { ports := [PortUnit.reset, PortUnit.reset], niWait := [], learned := []
    bypass := ⟨false, false, false, 0, 0, 0, false, false, false⟩
    ptp := ⟨[none, none], none, none, 1000, none, 0, 0, 1000⟩
    tc := [], ip := [] }

def Gp.reset : Gp :=
  { outside := List.replicate 96 false, sync := List.replicate 96 false, orphan := List.replicate 96 none
    units := List.replicate 4 ⟨none⟩, lines := List.replicate 8 ⟨false, false, none, false⟩
    ppsUntil := none }

end Sys2Proof.Machine
end

