-- ==== Sys2Proof/Machine/TypesPower.lean ====
section
/-!
DEFINITION. Machine/TypesPower.lean: the internal state of the supplies (15_supplies_reserve.md), the power
states (16_power_states.md), the clocks (17_clocks_time.md), the resets (18_reset.md) and the diagnostics
(21_diagnostics_safety.md) as plain data.
-/
namespace Sys2Proof.Machine
open Sys2Proof

/-- A threshold that one cell's reading is watched against (R297). -/
structure CellWatch where
  /-- the trusted reading has been outside since -/
  badSince : Option Nat
  /-- the trusted reading has been 100 mV inside since -/
  goodSince : Option Nat
  declared : Bool
  deriving DecidableEq, Repr

/-- A sense wire's test history (R295, R297). -/
structure Wire where
  fails : Nat
  passes : Nat
  /-- its latest test passed, and when it last passed -/
  lastPass : Bool
  passAt : Option Nat
  deriving DecidableEq, Repr

/-- A PEN line: its level, since when, and the time of a change that is under way (R285). -/
structure Pen where
  high : Bool
  since : Nat
  toggle : Option Nat
  deriving DecidableEq, Repr

/-- Supplies and reserve (R283 to R304). -/
structure Supply where
  /-- PEN0 to PEN3 and the gates, in the VAON domain (R284) -/
  pens : List Pen
  ppMain : Bool
  ppRsv : Bool
  /-- rails that show power-good: VCORE, VAUX, VIO, VPHY, VAON (R286) -/
  rails : Nat
  /-- when a rail last reached power-good (R345) -/
  railAt : Nat
  /-- the PENs fall as in D4: each one at once where the rail above it has fallen (R285) -/
  follow : Bool
  mainOk : Bool
  mainFail : Bool
  /-- MAIN_OK in force since; the charger waits 1 s from it (R300) -/
  okAt : Option Nat
  /-- MAIN_FAIL that opened the reserve or hold-up episode -/
  failAt : Option Nat
  /-- PP_MAIN_G is off for over-voltage (R289) -/
  ov : Bool
  /-- an off request waits for mandatory motions (R303) -/
  deferred : Bool
  /-- a CELL_UV off request turns PP_RSV_G off at the commit (R297) -/
  rsvOffAtCommit : Bool
  /-- axes running a non-mandatory motion begun on reserve (R303) -/
  motions : List Nat
  wire : Nat
  wires : List Wire
  cellOv : List CellWatch
  cellUv : List CellWatch
  sumBadSince : Option Nat
  sumGoodSince : Option Nat
  packLowSince : Option Nat
  /-- charging stopped at CellFullVoltage (R300) -/
  full : Bool
  charging : Bool
  /-- an accepted Chemistry or CellCount write takes effect at the next cycle (R292) -/
  restart : Bool
  lastCycle : Nat
  deriving DecidableEq, Repr

/-- Power states and the planner (R305 to R319). -/
structure Power where
  /-- the logic die runs: released in P2, until a reset, SLEEP or D4 -/
  logicUp : Bool
  /-- when the present phase was entered, and the present state -/
  phaseAt : Nat
  stateAt : Nat
  /-- the pending off request's target: 4 STANDBY, 5 OFF -/
  off : Option Nat
  /-- it came from HOLDUP; it arrived during a start (R318) -/
  offHoldup : Bool
  offInStart : Bool
  /-- D0 had a power-down whose D1 disabled these functions (R319) -/
  disabled : List Nat
  anyEnabled : Bool
  /-- a start is wanted: after a reset, a wake or an on request that met a power-down (R319, R344) -/
  restart : Bool
  lastPenFall : Option Nat
  /-- starts unwound; the next completed start publishes the count (R317) -/
  unwound : Nat
  /-- a failed start ended then (R285) -/
  failedAt : Option Nat
  /-- VMAIN comparator levels in the VAON domain (R311) -/
  failMv : Nat
  okMv : Nat
  /-- PathState when STANDBY or OFF was entered was not MAIN -/
  pathLost : Bool
  /-- wake source latched for P0 -/
  wakeCause : Nat
  -- planner
  lastEval : Nat
  idleSince : Option Nat
  wakeTime : Option Nat
  /-- NextService hints: when they fall due (R312) -/
  service : List (Option Nat)
  /-- a sequencer state was last entered then (R308) -/
  seqEnteredAt : Nat
  /-- settings that the VAON domain acts on while the logic die does not run: object and value (R311, R319) -/
  held : List (Nat × Nat)
  /-- the entry into SLEEP began then: its flush comes first (R309) -/
  sleepAt : Option Nat
  /-- steps 3 to 6 of P4 are done (R349) -/
  tested : Bool
  deriving DecidableEq, Repr

/-- Clocks and calendar (R320 to R336). F is `fBase` plus the cycles since `fAt` while the clocks run. -/
structure Clocks where
  fBase : Nat
  fAt : Nat
  fRuns : Bool
  /-- RTC count in 1/32 768 s at `rtcAt` (R326) -/
  rtcBase : Nat
  rtcAt : Nat
  rtcRuns : Bool
  /-- RTC count at the entry into SLEEP (R324) -/
  sleepRtc : Nat
  /-- calendar in ns of UTC at `calAt`, its rate and the integrator in ppb (R329) -/
  calBase : Nat
  calAt : Nat
  rate : Int
  integ : Int
  lockRun : Nat
  /-- calendar minus RTC in ns, in the VAON domain (R332) -/
  calOffset : Option Int
  /-- RTC count at the last offset or CalSet (R328) -/
  disciplineRtc : Option Nat
  /-- UTC offset of the latest valid Announce (R330) -/
  ptpUtcOffset : Option Int
  /-- UTC offset applied at the last measurement -/
  usedUtcOffset : Option Int
  lastTrim : Nat
  lastOffsetSave : Nat
  -- monitors (R322)
  xtalBad : Nat
  nclkBad : Bool
  /-- whole seconds of TB that OperatingSeconds has counted (R335) -/
  tbSeconds : Nat
  deriving DecidableEq, Repr

/-- Reset logic (R337 to R350). `latched` and the objects of 16#1600 stand in the VAON domain. -/
structure ResetUnit where
  latched : List Nat
  /-- a logic-die reset is in force -/
  inReset : Bool
  /-- XRESET_N shows low -/
  xresetLow : Bool
  /-- a brown-out asserted the reset then (R345) -/
  brownAt : Option Nat
  assertedAt : Nat
  p0At : Nat
  releasedAt : Nat
  /-- the watchdog is armed (R346) -/
  armed : Bool
  lastTickAt : Nat
  /-- DeviceReset accepted: refuse new elements (R347) -/
  device : Bool
  deviceCommitAt : Option Nat
  /-- the previous shutdown, for the START record: bits 0 to 2 -/
  startFlags : Nat
  deriving DecidableEq, Repr

/-- Diagnostics (R382 to R386). -/
structure Diag where
  /-- over the junction limit since -/
  overSince : Option Nat
  /-- uncorrectable words of committed MRAM areas: Saltpan address, and the table slot or image slot (0 active, 1 pending)
  that it lies in (R384) -/
  badWords : List (Nat × Nat)
  deriving DecidableEq, Repr

def CellWatch.reset : CellWatch := ⟨none, none, false⟩
def Wire.reset : Wire := ⟨0, 0, true, none⟩

/-- Supplies after a POR of VAON (R284): PENs low, PP_MAIN_G on, PP_RSV_G on in T variants; MAIN_OK in force
as the reset values of PathFlags show. -/
def Supply.reset (v : Config.Variant) : Supply :=
  { pens := List.replicate 4 ⟨false, 0, none⟩, ppMain := true, ppRsv := v.isT, rails := 16, railAt := 0, follow := false, mainOk := true, mainFail := false
    okAt := some 0, failAt := none, ov := false, deferred := false, rsvOffAtCommit := false, motions := []
    wire := 0, wires := List.replicate 17 Wire.reset
    cellOv := List.replicate 16 CellWatch.reset, cellUv := List.replicate 16 CellWatch.reset
    sumBadSince := none, sumGoodSince := none, packLowSince := none, full := false, charging := false
    restart := false, lastCycle := 0 }

/-- Power after a POR of VAON: nothing runs, comparator levels 16 000 mV and 19 000 mV (R311). -/
def Power.reset : Power :=
  { logicUp := false, phaseAt := 0, stateAt := 0, off := none, offHoldup := false, offInStart := false
    disabled := [], anyEnabled := false, restart := true, lastPenFall := none, unwound := 0, failedAt := none
    failMv := 16000, okMv := 19000, pathLost := false, wakeCause := 0, lastEval := 0, idleSince := none
    wakeTime := none, service := [none, none], seqEnteredAt := 0, held := [], sleepAt := none
    tested := false }

/-- Clocks after a POR of VAON: RTC at 0, CalOffset lost (R338). -/
def Clocks.reset : Clocks :=
  { fBase := 0, fAt := 0, fRuns := false, rtcBase := 0, rtcAt := 0, rtcRuns := true, sleepRtc := 0
    calBase := 0, calAt := 0, rate := 0, integ := 0, lockRun := 0, calOffset := none
    disciplineRtc := none, ptpUtcOffset := none, usedUtcOffset := none, lastTrim := 0, lastOffsetSave := 0
    xtalBad := 0, nclkBad := false, tbSeconds := 0 }

/-- Reset logic after a POR of VAON: cause 1 latched (R348), the logic die in reset. -/
def ResetUnit.reset : ResetUnit :=
  { latched := [1], inReset := true, xresetLow := false, brownAt := none, assertedAt := 0, p0At := 0, releasedAt := 0
    armed := false, lastTickAt := 0, device := false, deviceCommitAt := none, startFlags := 0 }

def Diag.reset : Diag := ⟨none, []⟩

/-- A PEN as it stands at a time. -/
def Pen.settle (now : Nat) (p : Pen) : Pen :=
  match p.toggle with
  | some t => if t ≤ now then ⟨!p.high, t, none⟩ else p
  | none => p

end Sys2Proof.Machine
end

