-- ==== Sys2Proof/Machine/TypesRec.lean ====
section
/-!
DEFINITION. Machine/TypesRec.lean: the recorder and the Saltpan (08_recorder.md) as plain data: records,
the Brine buffer, the journalled transactions and what the Saltpan holds without power.
-/
namespace Sys2Proof.Machine
open Sys2Proof

/-- A record of a log (table "Record header", R148). Log 0 is the cycle log, 1 the event log, 2 the fault log. -/
structure LogRec where
  log : Nat
  kind : Nat
  calValid : Bool
  pinned : Bool
  gap : Bool
  /-- it failed its CRC when read from the Saltpan (R148, R384) -/
  bad : Bool
  seqNo : Nat
  seconds : Nat
  powerCycle : Nat
  fraction : Nat
  source : Nat
  revision : Nat
  repeatCount : Nat
  lastRepeatMs : Nat
  body : List Byte
  /-- when it was made and last updated, on the model's clock (R154) -/
  at_ : Nat
  updatedAt : Nat
  deriving DecidableEq, Repr

/-- An entry of the histogram store (R161): its 32 bins and its stamp. -/
structure Histo where
  bins : List Nat
  saturated : Bool
  calValid : Bool
  revision : Nat
  seconds : Nat
  powerCycle : Nat
  fraction : Nat
  deriving DecidableEq, Repr

/-- One end of an extreme entry (R162). -/
structure Peak where
  value : Int
  opSeconds : Nat
  powerCycle : Nat
  utc : Nat
  deriving DecidableEq, Repr

/-- An entry of the extreme store (R162). -/
structure Extreme where
  max : Option Peak
  min : Option Peak
  calValid : Bool
  revision : Nat
  seconds : Nat
  powerCycle : Nat
  fraction : Nat
  deriving DecidableEq, Repr

/-- A journalled transaction (R145, R157). -/
inductive JobKind where
  /-- a flush, final or not -/
  | flush (final : Bool)
  /-- STORE of the snapshot (R176): keys and values of its scope, the counted writes that it includes, and the masks of
  F1 to F7 at the snapshot -/
  | store (snapshot : List (Nat × Nat)) (scope : Nat) (counted : List Nat) (masks : List (Nat × Nat))
  /-- a pending lattice image -/
  | image (img : LatImage)
  /-- the pending slot empties in INIT, and the active image is replaced where the image passed (R39) -/
  | promote (act : Option LatImage)
  /-- loads of sequence table slots -/
  | tables (loads : List (Nat × SeqTab))
  /-- a clear of logs and stores, by its code and the writer's slot (R163) -/
  | clear (code slot : Nat)
  deriving DecidableEq, Repr

/-- The stores as a flush snapshots them (R157): envelopes and seeds where they are pending. -/
structure StoreSnap where
  histos : List Histo
  extremes : List Extreme
  envs : Option (List (Nat × Nat))
  deriving DecidableEq, Repr

/-- A transaction with the operations that complete at its commit. -/
structure Job where
  kind : JobKind
  flights : List Nat
  startedAt : Nat
  /-- records of the Brine buffer up to the cut -/
  cut : Nat
  /-- in-place updates that it writes -/
  updates : List LogRec
  snap : Option StoreSnap
  /-- OperatingSeconds and PowerCycleCount at the cut (R335) -/
  opSeconds : Nat
  powerCycles : Nat
  /-- µs that it takes -/
  estimate : Nat
  deriving DecidableEq, Repr

/-- A journal slot (R145, R146): written, and committed or not. -/
structure JournalSlot where
  flushNumber : Nat
  kind : Nat
  committed : Bool
  deriving DecidableEq, Repr

/-- What the Saltpan holds (table "Saltpan partition", R144). Stored copies list only what differs from the
default. -/
structure Saltpan where
  journal : List JournalSlot
  copyA : List (Nat × Nat)
  copyB : List (Nat × Nat)
  /-- copy B is in force -/
  inForceB : Bool
  activeImage : LatImage
  pendingImage : Option LatImage
  /-- the stored active image has an intact CRC-32C -/
  imageOk : Bool
  tables : List (Option SeqTab)
  /-- stored envelopes, seeds: keys and values -/
  envelopes : List (Nat × Nat)
  histos : List Histo
  extremes : List Extreme
  cycleLog : List LogRec
  eventLog : List LogRec
  faultLog : List LogRec
  /-- the first 32 fault records -/
  pinned : List LogRec
  /-- where the next record goes in each ring -/
  heads : List Nat
  /-- OperatingSeconds and PowerCycleCount as committed (R335) -/
  opSeconds : Nat
  powerCycles : Nat
  /-- the previous shutdown ended in FINAL (R156, R158) -/
  finalMark : Bool
  /-- the committed state is readable (R147) -/
  readable : Bool
  deriving DecidableEq, Repr

/-- The recorder's working state. -/
structure Recorder where
  brine : List LogRec
  /-- in-place updates of committed records (R154) -/
  updates : List LogRec
  /-- next SeqNo per log and the GAP that its next record carries -/
  nextSeq : List Nat
  gapNext : List Bool
  running : Option Job
  queue : List Job
  lastCommit : Nat
  /-- the cut of a final flush has been taken (R158) -/
  finalCut : Bool
  histos : List Histo
  extremes : List Extreme
  tables : List (Option SeqTab)
  activeImage : LatImage
  pendingImage : Option LatImage
  /-- envelopes changed since the last flush (R84, R157) -/
  envPending : Bool
  /-- an uncorrectable error in the Brine buffer since the last commit -/
  brineError : Bool
  /-- Generation of DOM objects (R178) -/
  gens : List (Nat × Nat)
  /-- accepted writes of P objects that no STORE has committed (R177): a number each, and the key -/
  unstored : List (Nat × Nat)
  nextWrite : Nat
  deriving DecidableEq, Repr

def Histo.empty : Histo := ⟨List.replicate 32 0, false, false, 0, 0, 0, 0⟩
def Extreme.empty : Extreme := ⟨none, none, false, 0, 0, 0, 0⟩

/-- A transaction that has not begun. -/
def Job.waiting (k : JobKind) (flights : List Nat) : Job := ⟨k, flights, 0, 0, [], none, 0, 0, 60⟩
def Job.isFlush (j : Job) : Bool :=
  match j.kind with
  | .flush _ => true
  | _ => false

end Sys2Proof.Machine
end

