-- ==== Sys2Proof/Machine/State.lean ====
section
/-!
DEFINITION. Machine/State.lean: the state of the device as plain data, the state after reset, and the reasons a
step could stop. The object dictionary is one list of numbers; everything that no object shows stands in the
structures of its chapter.
Readings and choices in the log: DESIGN CHOICE 1, 4, 5, 6.
-/
namespace Sys2Proof.Machine
open Sys2Proof Sys2Proof.Config

/-- A set-point output: its internal value in 1/65 536 code and the target it has latched (R74). -/
structure SetPoint where
  raw : Nat
  target : Nat
  deriving DecidableEq, Repr

/-- The state of the device. -/
structure State where
  /-- fuses: which module this is (R1, R13) -/
  variant : Variant
  /-- time since power came to VAON, in 1/150 µs (the model's own clock) -/
  now : Nat
  /-- free values drawn so far (the model's own) -/
  free : Nat
  /-- commands that wait, first in first out (the model's own) -/
  pending : List Instr
  /-- working values of the object dictionary: (number, value), numbers strictly rising, no entry at its
  default (R165, R180) -/
  objs : List (Nat × Nat)
  host : HostSide
  lat : Lattice
  seq : Sequencers
  recd : Recorder
  salt : Saltpan
  axes : List Axis
  setpts : List SetPoint
  chans : List Chan
  dies : List Die
  /-- levels at DIRECT0 to DIRECT15 (R136) -/
  direct : List Bool
  /-- levels at WAKE0 to WAKE7 (R363) -/
  wakes : List Bool
  sup : Supply
  pow : Power
  clk : Clocks
  rst : ResetUnit
  diag : Diag
  net : Net
  gp : Gp
  deriving DecidableEq, Repr

/-- Reasons a step stops. No rule of the spec stops the block, so no meaning raises it. -/
inductive Fault where
  /-- Raised by nothing; safe. -/
  | stopped
  deriving DecidableEq, Repr

/-- Reasons for refusing a command. -/
inductive Refusal where
  /-- Raised by an arm of `exec` whose command has no meaning yet; safe. -/
  | notModelled (mnemonic : String)
  deriving DecidableEq, Repr

/-- The recorder before the Saltpan is opened: CLOSED, Brine buffer empty (R144, R339). -/
def Recorder.reset (v : Variant) : Recorder :=
  { brine := [], updates := [], nextSeq := [0, 0, 0], gapNext := [false, false, false]
    running := none, queue := [], lastCommit := 0, finalCut := false
    histos := List.replicate 102 Histo.empty, extremes := List.replicate 56 Extreme.empty
    tables := List.replicate 32 none, activeImage := factoryImage v, pendingImage := none
    envPending := false, brineError := false, gens := [], unstored := [], nextWrite := 0 }

/-- The Saltpan of a module from the factory: factory image, stored objects at their defaults, empty logs
(R42, R144, R181). -/
def Saltpan.factory (v : Variant) : Saltpan :=
  { journal := [], copyA := [], copyB := [], inForceB := false
    activeImage := factoryImage v, pendingImage := none, imageOk := true
    tables := List.replicate 32 none, envelopes := []
    histos := List.replicate 102 Histo.empty, extremes := List.replicate 56 Extreme.empty
    cycleLog := [], eventLog := [], faultLog := [], pinned := [], heads := [0, 0, 0]
    opSeconds := 0, powerCycles := 0, finalMark := true, readable := true }

/-- A module of a variant right after the release of a POR of VAON, before P0 (R338). -/
def State.powerOn (v : Variant) : State :=
  { variant := v, now := 0, free := 0, pending := [], objs := []
    host := HostSide.reset, lat := Lattice.reset, seq := Sequencers.reset
    recd := Recorder.reset v, salt := Saltpan.factory v
    axes := List.replicate 24 Axis.reset, setpts := List.replicate 3 ⟨0, 0⟩
    chans := List.replicate 256 Chan.reset, dies := List.replicate 4 Die.reset
    direct := List.replicate 16 false, wakes := List.replicate 8 false
    sup := Supply.reset v, pow := Power.reset, clk := Clocks.reset, rst := ResetUnit.reset
    diag := Diag.reset, net := Net.reset, gp := Gp.reset }

/-- The machine right after reset: a POR of VAON of a 2624T module. -/
def State.reset : State := State.powerOn ⟨.c2624, .t⟩

end Sys2Proof.Machine
end

