-- ==== Sys2Proof/Machine/Ops.lean ====
section
/-!
DEFINITION. Machine/Ops.lean: the named operations over State that every chapter uses: the object store, time,
the units of axes, channels and dies, ownership, and the answer of a command.
Readings and choices in the log: DESIGN CHOICE 3, 6, 144; DEDUCED 7, 85, 136.
-/
namespace Sys2Proof.Machine
open Sys2Proof Sys2Proof.Config

/-! Time, in 1/150 µs. -/

def us (n : Nat) : Nat := 150 * n
def ms (n : Nat) : Nat := 150000 * n
def sec (n : Nat) : Nat := 150000000 * n

/-! The object store. -/

/-- The value that a store lists for a number, else `d`. -/
def storeGet (d k : Nat) : List (Nat × Nat) → Nat
  | [] => d
  | (k', v) :: r => if k' = k then v else storeGet d k r

/-- An entry at its place in a store that lists no entry of its number. -/
def storeInsert (k v : Nat) : List (Nat × Nat) → List (Nat × Nat)
  | [] => [(k, v)]
  | (k', v') :: r => if k < k' then (k, v) :: (k', v') :: r else (k', v') :: storeInsert k v r

/-- The store with number `k` at `v`: sorted, and without the entry where `v` is the default `d`. -/
def storePut (d k v : Nat) (xs : List (Nat × Nat)) : List (Nat × Nat) :=
  let rest := xs.filter fun e => e.1 != k
  if v = d then rest else storeInsert k v rest

/-- The object is CONST: hard-wired at its default (R13, R169). -/
def isConst (k : Nat) : Bool :=
  match lookup k with
  | some (_, _, d) => decide (d.acc = .const)
  | none => false

/-- The value that an object can hold: the number modulo its width (R167). -/
def fitTo (k v : Nat) : Nat := if sizeOf k = 0 then v else v % 256 ^ sizeOf k

/-- The working value of an object; a CONST object always shows its fused or ROM value. -/
def State.get (s : State) (k : Nat) : Nat :=
  if isConst k then defaultOf s.variant k else storeGet (defaultOf s.variant k) k s.objs

/-- `s` with an object's working value set. A counter at its end wraps (R409). -/
def State.put (k v : Nat) (s : State) : State :=
  if isConst k then s else { s with objs := storePut (defaultOf s.variant k) k (fitTo k v) s.objs }

/-- An object one higher. -/
def State.inc (k : Nat) (s : State) : State := s.put k (s.get k + 1)
/-- An object higher by `n`. -/
def State.addTo (k n : Nat) (s : State) : State := s.put k (s.get k + n)
/-- Bit `i` of an object. -/
def State.bit (s : State) (k i : Nat) : Bool := (s.get k).testBit i
/-- Bit `i` of an object set or cleared. -/
def State.setBit (k i : Nat) (b : Bool) (s : State) : State := s.put k (setBitOf (s.get k) i b)
/-- A BOOL object. -/
def State.flag (s : State) (k : Nat) : Bool := s.get k != 0
/-- A two's-complement object of its width. -/
def State.geti (s : State) (k : Nat) : Int := signedOf (8 * sizeOf k) (s.get k)
/-- A two's-complement object set. -/
def State.puti (k : Nat) (v : Int) (s : State) : State := s.put k (encSigned (8 * sizeOf k) v)
/-- An object back at its default (R180). -/
def State.toDefault (k : Nat) (s : State) : State := s.put k (defaultOf s.variant k)

/-- The object numbers of the dictionary that some variant has. -/
def allKeys : List Nat :=
  objGroups.flatMap fun g => (List.range g.n).flatMap fun i => g.subs.map fun d => 256 * (g.lo + i) + d.sub

/-- A step for each element of a list, in order. -/
def each {α : Type} (xs : List α) (f : α → State → State) (s : State) : State :=
  xs.foldl (fun s x => f x s) s

/-- A step where a condition holds. -/
def State.whenever (s : State) (b : Bool) (f : State → State) : State := if b then f s else s

/-! Clocks (R324). -/

/-- F, the count of FCLK cycles. -/
def State.f (s : State) : Nat := if s.clk.fRuns then s.clk.fBase + (s.now - s.clk.fAt) else s.clk.fBase
/-- TB in µs. -/
def State.tb (s : State) : Nat := s.f / 150
/-- TB32. -/
def State.tb32 (s : State) : Nat := s.tb % 4294967296
/-- FclkTime. -/
def State.fclk (s : State) : Nat := s.f % 2 ^ 48
/-- The RTC count in 1/32 768 s (R326); RtcTrim moves its rate in steps of 0.1 ppm (R327). -/
def State.rtc (s : State) : Nat :=
  if s.clk.rtcRuns then
    s.clk.rtcBase + (((s.now - s.clk.rtcAt : Nat) : Int) * 32768 * (10000000 + s.geti Obj.rtcTrim)
      / (150000000 * 10000000)).toNat
  else s.clk.rtcBase

/-- The calendar in ns of UTC: the addend of NCLK with the servo's rate in ppb (R328, R329). -/
def State.calNs (s : State) : Nat :=
  s.clk.calBase + (((s.now - s.clk.calAt : Nat) : Int) * 20 * (1000000000 + s.clk.rate) / 3000000000).toNat
/-- The calendar is valid (R328). -/
def State.calValid (s : State) : Bool := s.get Obj.calState != 0

/-! Units of the device. -/

def State.axis (s : State) (a : Nat) : Axis := s.axes.getD a Axis.reset
def State.onAxis (a : Nat) (f : Axis → Axis) (s : State) : State := { s with axes := s.axes.modify a f }
def State.chan (s : State) (c : Nat) : Chan := s.chans.getD c Chan.reset
def State.onChan (c : Nat) (f : Chan → Chan) (s : State) : State := { s with chans := s.chans.modify c f }
def State.die (s : State) (k : Nat) : Die := s.dies.getD k Die.reset
def State.onDie (k : Nat) (f : Die → Die) (s : State) : State := { s with dies := s.dies.modify k f }
def State.inst (s : State) (i : Nat) : SeqInst := s.seq.insts.getD i SeqInst.reset
def State.onInst (i : Nat) (f : SeqInst → SeqInst) (s : State) : State :=
  { s with seq := { s.seq with insts := s.seq.insts.modify i f } }
def State.onHost (f : HostSide → HostSide) (s : State) : State := { s with host := f s.host }
def State.onLat (f : Lattice → Lattice) (s : State) : State := { s with lat := f s.lat }
def State.onRec (f : Recorder → Recorder) (s : State) : State := { s with recd := f s.recd }
def State.onSalt (f : Saltpan → Saltpan) (s : State) : State := { s with salt := f s.salt }
def State.onSup (f : Supply → Supply) (s : State) : State := { s with sup := f s.sup }
def State.onPow (f : Power → Power) (s : State) : State := { s with pow := f s.pow }
def State.onClk (f : Clocks → Clocks) (s : State) : State := { s with clk := f s.clk }
def State.onRst (f : ResetUnit → ResetUnit) (s : State) : State := { s with rst := f s.rst }
def State.onNet (f : Net → Net) (s : State) : State := { s with net := f s.net }
def State.onGp (f : Gp → Gp) (s : State) : State := { s with gp := f s.gp }
def State.place (s : State) (p : Nat) : Place := s.host.places.getD p Place.empty
def State.onPlace (p : Nat) (f : Place → Place) (s : State) : State :=
  s.onHost fun h => { h with places := h.places.modify p f }
/-- The session at a place, changed. -/
def State.onSession (p : Nat) (f : Session → Session) (s : State) : State :=
  s.onPlace p fun q => { q with session := q.session.map f }
def State.fn (s : State) (n : Nat) : FnUnit := s.host.fns.getD n FnUnit.reset
def State.onFn (n : Nat) (f : FnUnit → FnUnit) (s : State) : State :=
  s.onHost fun h => { h with fns := h.fns.modify n f }

/-- A free value is drawn (log entry 3): its number. -/
def State.draw (s : State) : Nat × State := (s.free, { s with free := s.free + 1 })

/-! Ownership (R250, R251): what no function of F1 to F7 holds belongs to F0. -/

/-- The functions F1 to F7 of the variant. -/
def State.fns17 (s : State) : List Nat := (List.range 7).map (· + 1) |>.filter s.variant.hasFn

/-- The first function of F1 to F7 that a test names, else F0. -/
def State.ownerBy (s : State) (p : Nat → Bool) : Nat := (s.fns17.find? p).getD 0

def State.ownerOfAxis (s : State) (a : Nat) : Nat := s.ownerBy fun n => s.bit (Obj.fnAxisMask n) a
def State.ownerOfChan (s : State) (c : Nat) : Nat := s.ownerBy fun n => s.bit (Obj.channelMask n) c
/-- Owner of GP pin 16p + i. -/
def State.ownerOfPin (s : State) (i : Nat) : Nat := s.ownerBy fun n => s.bit (Obj.gpMask n) i
/-- Owner of side set `k`. -/
def State.ownerOfSet (s : State) (k : Nat) : Nat := s.ownerBy fun n => s.get (Obj.seqSet n) == k
/-- Owner of sequencer instance `i`: sides 2k and 2k + 1 belong to set k, instance 8 + a to axis a. -/
def State.ownerOfInst (s : State) (i : Nat) : Nat :=
  if i < 8 then s.ownerOfSet (i / 2) else s.ownerOfAxis (i - 8)

/-- FunctionState of a function: 0 DISABLED, 1 ENABLED, 2 DRAINING (R254). -/
def State.fnState (s : State) (n : Nat) : Nat := s.get (Obj.functionState n)
def State.fnEnabled (s : State) (n : Nat) : Bool := s.fnState n == 1

/-- The logic die runs: its clocks are on and no reset is in force. -/
def State.live (s : State) : Bool := s.pow.logicUp && !s.rst.inReset

/-- The balls and services that a start takes up from P4 on are served (R341). -/
def State.served (s : State) : Bool :=
  let ph := s.get Obj.powerPhase
  !decide (0x10 ≤ ph ∧ ph ≤ 0x13)

/-! PEN lines and rails (R285, R286). -/

/-- PEN line `i` is high. -/
def State.pen (s : State) (i : Nat) : Bool := ((s.sup.pens.getD i ⟨false, 0, none⟩).settle s.now).high
/-- Bit of RailStatus of the rail that PEN `i` enables: VAUX, VCORE, VIO, VPHY. -/
def railOfPen (i : Nat) : Nat :=
  match i with
  | 0 => 1
  | 1 => 0
  | _ => i

/-- Rail `r` shows power-good: 0 VCORE, 1 VAUX, 2 VIO, 3 VPHY. A rail whose PEN has fallen shows none. -/
def State.railGood (s : State) (r : Nat) : Bool := s.sup.rails.testBit r && s.pen (railOfPen r)

/-! The answer of a command. -/

/-- The command's next state: its fuses and the queue of waiting commands are never touched by a command. -/
def State.answer (s t : State) : Host.Outcome State Fault Refusal :=
  .next { t with variant := s.variant, pending := s.pending }

/-- The answer of a command that needs the logic die to run; without it nothing happens. -/
def State.answerLive (s : State) (f : State → State) : Host.Outcome State Fault Refusal :=
  s.answer (if s.live then f s else s)

/-- The answer of a command at balls that are taken up in P4. -/
def State.answerServed (s : State) (f : State → State) : Host.Outcome State Fault Refusal :=
  s.answerLive fun s => if s.served then f s else s

end Sys2Proof.Machine
end

