-- ==== Sys2Proof/Machine/Queues.lean ====
section
/-!
DEFINITION. Machine/Queues.lean: queue fills and weirs (R270, R276 to R278), the notice pool with its folding
(R248, R263, R279, R280) and the completion queue (R236, R272, R273).
Readings and choices in the log: DEDUCED 134.
-/
namespace Sys2Proof.Machine
open Sys2Proof

/-! Fill of each queue (table "Queues", R270). -/

/-- A flight waits in a Headpond. -/
def Flight.isQueued (f : Flight) : Bool := decide (f.phase = .queued)
/-- A flight occupies a lane. -/
def Flight.inLane (f : Flight) : Bool :=
  match f.phase with
  | .lane _ => true
  | _ => false

/-- Frame-buffer cells in the egress queues of a port. -/
def PortUnit.cells (p : PortUnit) : Nat :=
  ((p.queues.map fun q => (q.map (·.cells)).sum).sum) + (p.sending.map (·.cells)).getD 0

/-- Bytes of a record: header, body and CRC (R148). -/
def LogRec.length (r : LogRec) : Nat := 36 + r.body.length

/-- Bytes in the Brine buffer. -/
def State.brineFill (s : State) : Nat := (s.recd.brine.map LogRec.length).sum

/-- Data bytes staged in a burst. -/
def Burst.bytes (b : Burst) : Nat := (b.segs.map (·.data.length)).sum

/-- Fill of queue `q` in its unit. -/
def State.fill (s : State) (q : Nat) : Nat :=
  match q with
  | 0 => (s.host.flights.filter fun f => f.place == 0 && f.isQueued).length
  | 1 => (s.host.flights.filter fun f => f.place == 1 && f.isQueued).length
  | 2 => (s.host.flights.filter fun f => decide (2 ≤ f.place) && f.isQueued).length
  | 3 => (s.host.flights.filter Flight.inLane).length
  | 4 => s.host.flights.length + (s.host.done.filter fun d => d.flight.isNone).length
  | 5 => s.host.pool.length
  | 6 => ((s.net.ports.getD 0 PortUnit.reset)).cells
  | 7 => ((s.net.ports.getD 1 PortUnit.reset)).cells
  | 8 => s.host.niIngress.length
  | 9 => s.host.linkIngress.length
  | 10 => s.host.linkEgress.length
  | 11 => s.brineFill
  | 13 => (s.host.bursts.getD 0 Burst.closed).bytes
  | 14 => (s.host.bursts.getD 1 Burst.closed).bytes
  | _ => 0

/-! Notices. -/

/-- Stream of a source (table "Notice sources", R263). Class 10 is judged where it is raised. -/
def State.streamOf (s : State) (cls num : Nat) : Nat :=
  match cls with
  | 2 => s.ownerOfSet (num / 2)
  | 3 => s.ownerOfAxis num
  | 4 => s.ownerOfChan num
  | _ => 0

/-- SourceSeq of the latest notice of a source; 0 before its first. -/
def seqOf (src : Nat) : List (Nat × Nat) → Nat
  | [] => 0
  | (k, v) :: r => if k = src then v else seqOf src r

/-- A source's SourceSeq advanced by one, modulo 2^16. -/
def bumpSeq (src : Nat) : List (Nat × Nat) → List (Nat × Nat)
  | [] => [(src, 1)]
  | (k, v) :: r => if k = src then (k, (v + 1) % 65536) :: r else (k, v) :: bumpSeq src r

/-- A notice belongs to the same source in the same subscription. -/
def Notice.sameRow (a b : Notice) : Bool :=
  a.place == b.place && a.sess == b.sess && a.subId == b.subId && a.source == b.source

/-- The NOTICE_LOST that two notices with consecutive SourceSeq fold into (R280). -/
def Notice.fold (a b : Notice) : Notice :=
  if a.kind = 7 then
    { b with kind := 7, data := toLe 2 (leNat (a.data.take 2) + 1) ++ a.data.drop 2, tb32 := a.tb32 }
  else { b with kind := 7, data := toLe 2 2 ++ toLe 2 a.seq ++ [0, 0, 0, 0], tb32 := a.tb32 }

/-- The pool with the two oldest foldable entries of a row folded into one; none where there are none.
`prev` is the latest entry of the row that was passed, with its position among the kept ones. -/
def foldRow (row : Notice) : Option Notice → List Notice → Option (List Notice)
  | _, [] => none
  | prev, n :: r =>
    if n.sameRow row then
      match prev with
      | some p =>
        if !p.safety && !n.safety && (p.seq + 1) % 65536 == n.seq then some (p.fold n :: r)
        else (foldRow row (some n) r).map (p :: ·)
      | none => foldRow row (some n) r
    else
      match prev with
      | some p => (foldRow row (some p) r).map (n :: ·)
      | none => (foldRow row none r).map (n :: ·)

/-- Entries of a row that are not SAFETY_RELATED. -/
def rowLoad (pool : List Notice) (row : Notice) : Nat :=
  (pool.filter fun n => n.sameRow row && !n.safety).length

/-- The row with the most non-safety entries; the lower Source wins a tie (R280). -/
def heaviestRow (pool : List Notice) : Option Notice :=
  pool.foldl (fun best n =>
    match best with
    | none => some n
    | some b =>
      let x := rowLoad pool n
      let y := rowLoad pool b
      if x > y || (x == y && decide (n.source < b.source)) then some n else best) none

/-- The pool without the oldest SAFETY_RELATED notice that a test names. -/
def dropSafety (p : Notice → Bool) : List Notice → Option (List Notice)
  | [] => none
  | n :: r => if n.safety && p n then some r else (dropSafety p r).map (n :: ·)

/-- A notice into the pool, by folding or discarding where no entry is open to it (R279, R280). -/
def addNotice (n : Notice) (s : State) : State :=
  let pool := s.host.pool
  let limit := s.get Obj.noticeSourceLimit
  let full := decide (4096 - (if n.safety then 0 else s.get Obj.noticeReserve) ≤ pool.length)
  let limited := decide (limit ≤ (pool.filter fun m => m.sameRow n).length)
  let put (ns : List Notice) (s : State) : State := s.onHost fun h => { h with pool := ns ++ [n] }
  if limited || full then
    let row := if limited then some n else heaviestRow pool
    match row.bind (fun r => foldRow r none pool) with
    | some ns => put ns (s.inc Obj.foldCount)
    | none =>
      if n.safety then
        match dropSafety (fun m => m.place == n.place && m.subId == n.subId
            && (!limited || m.source == n.source)) pool with
        | some ns => put ns (s.inc Obj.noticeSafetyLost)
        | none => s.inc Obj.noticeSafetyLost
      else s
  else put pool s

/-- A notice for every session with a matching subscription: one entry each, under the lowest
SubscriptionId (R247). -/
def raiseOn (fn cls num kind : Nat) (data : List Byte) (safety : Bool) (s : State) : State :=
  let src := 4096 * cls + num
  let q := (seqOf src s.host.seqs + 1) % 65536
  let saf := safety || cls == 1
  let s1 := s.onHost fun h => { h with seqs := bumpSeq src h.seqs }
  each (List.range 8) (fun p s =>
    match (s.place p).session with
    | none => s
    | some se =>
      match se.subs.find? (fun b => b.fn == fn && b.mask.testBit cls) with
      | none => s
      | some b =>
        addNotice { place := p, sess := se.no, subId := b.id, source := src, seq := q, kind := kind
                    safety := saf, tb32 := s.tb32, data := padTo 8 data, acked := b.acked
                    unicast := b.unicast, fn := fn, sentAt := none } s) s1

/-! Weirs. -/

def State.weir (s : State) (q : Nat) : Weir := s.host.weirs.getD q Weir.reset
def State.onWeir (q : Nat) (f : Weir → Weir) (s : State) : State :=
  s.onHost fun h => { h with weirs := h.weirs.modify q f }

/-- The WEIR notice of a queue (Kind 5): high or low, with the weir's crossing counter (R278). -/
def weirNotice (q : Nat) (high : Bool) (s : State) : State :=
  let c := s.get (if high then Obj.highCrossCount q else Obj.lowCrossCount q)
  raiseOn 0 6 q 5 ([byte q, byte (bitVal high), 0, 0] ++ toLe 4 c) false s

/-- The notice of a crossing, or its suppression inside WeirNoticeInterval (R278). -/
def crossingNotice (q : Nat) (high : Bool) (s : State) : State :=
  if s.bit (Obj.weirControl q) (if high then 0 else 1) then
    let w := s.weir q
    let inside := ((if high then w.highAt else w.lowAt).map fun t =>
      decide (s.now < t + ms (s.get Obj.weirNoticeInterval))).getD false
    if inside then
      (s.inc (Obj.suppressedNotices q)).onWeir q fun w =>
        if high then { w with highSuppressed := true } else { w with lowSuppressed := true }
    else
      (weirNotice q high s).onWeir q fun w =>
        if high then { w with highAt := some s.now } else { w with lowAt := some s.now }
  else s

/-- A crossing: sticky bit, counter, PeakFill, arming and the notice (R277). -/
def crossing (q : Nat) (high : Bool) (n : Nat) (s : State) : State :=
  let s := s.setBit (Obj.weirStatus q) (if high then 2 else 3) true
  let s := s.inc (if high then Obj.highCrossCount q else Obj.lowCrossCount q)
  let s := if s.get (Obj.peakFill q) < n then s.put (Obj.peakFill q) n else s
  crossingNotice q high (s.onWeir q fun w => { w with armed := !high })

/-- The fill of a queue has moved: a crossing of a weir is taken (R277). -/
def crossOf (q : Nat) (s : State) : State :=
  let n := s.fill q
  let w := s.weir q
  let hw := s.get (Obj.highWeir q)
  let lw := s.get (Obj.lowWeir q)
  let s := s.onWeir q fun w => { w with last := n }
  if w.armed && decide (w.last < hw) && decide (hw ≤ n) then crossing q true n s
  else if !w.armed && decide (lw < w.last) && decide (n ≤ lw) then crossing q false n s
  else s

/-- Fill of queue `q` has moved; a WEIR notice that it raises moves the notice pool in turn. -/
def moveFill (q : Nat) (s : State) : State :=
  let s := crossOf q s
  if s.fill 5 == (s.weir 5).last then s else crossOf 5 (crossOf 5 s)

/-- A notice on a stream is raised. -/
def raiseIn (fn cls num kind : Nat) (data : List Byte) (safety : Bool) (s : State) : State :=
  moveFill 5 (raiseOn fn cls num kind data safety s)

/-- A notice of a source on its stream (R263). -/
def raise (cls num kind : Nat) (data : List Byte) (safety : Bool) (s : State) : State :=
  raiseIn (s.streamOf cls num) cls num kind data safety s

/-- Source class and number of a STATE notice of an object (table "Notice sources"). -/
def stateSource (k : Nat) : Nat × Nat :=
  let idx := k / 256
  if 0x1400 ≤ idx ∧ idx < 0x1500 then (7, idx - 0x1400)
  else if 0x1200 ≤ idx ∧ idx < 0x1300 then (8, if idx = 0x1202 ∨ idx = 0x1205 then 1 else 0)
  else if 0x2000 ≤ idx ∧ idx < 0x2003 then (1, 0)
  else if 0x1100 ≤ idx ∧ idx < 0x1200 then (9, 0)
  else if 0x2200 ≤ idx ∧ idx < 0x2221 then (5, 0)
  else (0, 0)

/-- A STATE notice (Kind 4) of an object with its value, zero-extended. -/
def stateNotice (k v : Nat) (s : State) : State :=
  let (c, n) := stateSource k
  raise c n 4 (toLe 2 (k / 256) ++ [byte (k % 256), 0] ++ toLe 4 v) false s

/-! Completions. -/

/-- The flight with a number. -/
def State.flight (s : State) (id : Nat) : Option Flight := s.host.flights.find? (·.id == id)

/-- A flight changed. -/
def State.onFlight (id : Nat) (f : Flight → Flight) (s : State) : State :=
  s.onHost fun h => { h with flights := h.flights.map fun x => if x.id == id then f x else x }

/-- A transaction completes: its COMPLETE is written into its reserved entry, or discarded and counted where
its session has ended (R219, R236). A second completion of one transaction is impossible. -/
def completeWith (id status detail : Nat) (data : List Byte) (s : State) : State :=
  match s.flight id with
  | none => s
  | some f =>
    if f.phase = .done then s
    else if f.orphan then
      let s := s.onHost fun h => { h with flights := h.flights.filter (·.id != id) }
      let s := if f.place < 2 then s.inc (Obj.discardedCompletions f.place) else s
      moveFill 4 (moveFill 3 s)
    else
      let d : Done := { place := f.place, sess := f.sess, tag := f.tag, op := f.op, status := status
                        detail := detail, data := data, frame := f.frame, elem := f.elem
                        duplicate := false, safety := f.safety.isSome, flight := some id, at_ := s.now }
      let s := s.onFlight id fun f => { f with phase := .done }
      let s := s.onHost fun h => { h with done := h.done ++ [d] }
      moveFill 3 s

/-- A transaction completes with a status alone. -/
def complete (id status : Nat) (s : State) : State := completeWith id status 0 [] s

/-- Every transaction of a list completes with one status, in order. -/
def completeAll (ids : List Nat) (status : Nat) (s : State) : State :=
  each ids (fun id => complete id status) s

/-- A transaction keeps its completion entry and gives its lane back (R257, R274). -/
def holdFlight (id : Nat) (s : State) : State := moveFill 3 (s.onFlight id fun f => { f with phase := .held })

/-- Transactions of a place that count against its limits (R235): in flight, those of ended sessions
included. -/
def State.inFlightAt (s : State) (p : Nat) : Nat := (s.host.flights.filter fun f => f.place == p).length

/-- In-flight count of both master slots (R235). -/
def State.inFlightMasters (s : State) : Nat := (s.host.flights.filter fun f => decide (f.place < 2)).length

/-- InFlight of a function (R257). -/
def State.fnInFlight (s : State) (n : Nat) : Nat := (s.host.flights.filter fun f => f.fns.contains n).length

/-- LanesInUse of a class (R266). -/
def State.lanesInUse (s : State) (n : Nat) : Nat :=
  (s.host.flights.filter fun f => f.inLane && f.cls == n).length

end Sys2Proof.Machine
end

