-- ==== Sys2Proof/Machine/Record.lean ====
section
/-!
DEFINITION. Machine/Record.lean: admission of records into the Brine buffer (R148 to R157, 08_recorder.md), the
histogram and extreme stores (R161, R162), and the bodies of the record kinds.
Readings and choices in the log: DEDUCED 27, 55, 69, 82, 103, 119.
-/
namespace Sys2Proof.Machine
open Sys2Proof

/-- Nanoseconds of RTC time. -/
def rtcNs (r : Nat) : Nat := r * 1000000000 / 32768

/-- Stamp in calendar form: CAL_VALID, seconds, nanoseconds (R149). -/
def State.calStamp (s : State) : Bool × Nat × Nat :=
  if s.calValid then (true, s.calNs / 1000000000, s.calNs % 1000000000)
  else (false, s.rtc / 32768, rtcNs (s.rtc % 32768))

/-- UTC seconds of a fault body: 0 while the calendar is not valid (R152). -/
def State.utcOrZero (s : State) : Nat := if s.calValid then s.calNs / 1000000000 else 0

/-- Repeat key of a kind: how many body bytes from which byte; none where it never repeats (R151). -/
def repeatKey (kind : Nat) : Option Nat :=
  match kind with
  | 0x11 => some 1
  | 0x12 => some 3
  | 0x13 => some 4
  | 0x14 => some 2
  | 0x20 => some 8
  | 0x21 => some 8
  | 0x22 => some 8
  | 0x23 => some 8
  | 0x24 => some 8
  | _ => none

/-- A record's copy after its in-place updates, the latest one that a list of updates holds (R154). -/
def LogRec.latest (us : List LogRec) (r : LogRec) : LogRec :=
  us.foldl (fun b u => if u.log == r.log && u.seqNo == r.seqNo then u else b) r

/-- The committed records of a log, oldest first. -/
def Saltpan.logOf (p : Saltpan) (l : Nat) : List LogRec :=
  match l with
  | 0 => p.cycleLog
  | 1 => p.eventLog
  | _ => p.pinned ++ p.faultLog

/-- All in-place updates that no commit has written yet. -/
def Recorder.allUpdates (r : Recorder) : List LogRec :=
  (r.running.map (·.updates)).getD [] ++ r.updates

/-- Records of a log in the Brine buffer. -/
def Recorder.brineOf (r : Recorder) (l : Nat) : List LogRec := r.brine.filter (·.log == l)

/-- The newest record of a log, flushed or not, as it stands. -/
def State.newestRec (s : State) (l : Nat) : Option LogRec :=
  (match (s.recd.brineOf l).getLast? with
   | some r => some r
   | none => (s.salt.logOf l).getLast?).map (LogRec.latest s.recd.allUpdates)

/-- The record that a repeat makes of the newest one (R154). -/
def LogRec.repeated (r : LogRec) (now : Nat) : LogRec :=
  { r with repeatCount := r.repeatCount + 1, revision := (r.revision + 1) % 65536
           lastRepeatMs := min 0xFFFFFFFF ((now - r.at_) / ms 1), updatedAt := now }

/-- The Saltpan takes transactions (R418). -/
def State.saltOpen (s : State) : Bool :=
  (s.get Obj.recorderState == 1 || s.get Obj.recorderState == 2) && !s.recd.finalCut

/-- A flush joins the queue of transactions, or its requests join the flush that waits there (R157). -/
def addFlush (final : Bool) (flights : List Nat) (s : State) : State :=
  if !s.saltOpen then s
  else s.onRec fun r =>
    if r.queue.any Job.isFlush then
      { r with queue := r.queue.map fun j =>
          match j.kind with
          | .flush f => { j with kind := .flush (f || final), flights := j.flights ++ flights }
          | _ => j }
    else { r with queue := r.queue ++ [Job.waiting (.flush final) flights] }

/-- A flush is wanted (R157). -/
def wantFlush (s : State) : State := addFlush false [] s

/-- Records that belong to the running flush: positions in the Brine buffer below its cut. -/
def Recorder.cutNow (r : Recorder) : Nat :=
  match r.running with
  | some j => match j.kind with
    | .flush _ => j.cut
    | _ => 0
  | none => 0

/-- A repeat: the newest record is updated in place, in the Brine buffer or by the next flush (R154). -/
def repeatRecord (r : LogRec) (s : State) : State :=
  let u := r.repeated s.now
  let same (x : LogRec) : Bool := x.log == r.log && x.seqNo == r.seqNo
  if (s.recd.brine.drop s.recd.cutNow).any same then
    s.onRec fun q => { q with brine := q.brine.map fun x => if same x then u else x }
  else s.onRec fun q => { q with updates := q.updates.filter (fun x => !same x) ++ [u] }

/-- Drops the oldest records until `n` bytes fit (R153, RecorderState FAILED). -/
def makeRoom (n : Nat) : Nat → State → State
  | 0, s => s
  | fuel + 1, s =>
    if s.brineFill + n ≤ 262144 then s
    else
      match s.recd.brine with
      | [] => s
      | r :: rest =>
        makeRoom n fuel ((s.onRec fun q =>
          { q with brine := rest, gapNext := q.gapNext.modify r.log fun _ => true }).inc Obj.droppedRecords)

/-- A record is admitted, repeats the newest one, or is dropped (R150, R153, R154, R158). `src` is the
Source field. A logic die that does not run, or whose recorder is CLOSED, admits none. Answers whether a new record came
about. -/
def admitRec (log kind src : Nat) (body : List Byte) (s : State) : Bool × State :=
  let drop (s : State) : State :=
    (s.inc Obj.droppedRecords).onRec fun q => { q with gapNext := q.gapNext.modify log fun _ => true }
  if !s.live || s.get Obj.recorderState == 0 then (false, s)
  else if s.recd.finalCut then (false, s.inc Obj.droppedRecords)
  else
    let rep := match repeatKey kind, s.newestRec log with
      | some n, some r =>
        if r.kind == kind && r.source == src && r.body.take n == body.take n
            && decide (r.repeatCount < 65535)
            && decide (s.now ≤ r.updatedAt + ms (s.get Obj.repeatWindow)) then some r else none
      | _, _ => none
    match rep with
    | some r => (false, repeatRecord r s)
    | none =>
      let len := 36 + body.length
      let failed := s.get Obj.recorderState == 4
      let s := if failed then makeRoom len 8192 s else s
      let faults := ((s.recd.brineOf 2).map LogRec.length).sum
      let fits := if log = 2 ∨ failed then decide (s.brineFill + len ≤ 262144)
        else decide (s.brineFill - faults + (faults - 32768) + len ≤ 262144 - 32768)
      if !fits then (false, drop s)
      else
        let (cv, sec, frac) := s.calStamp
        let r : LogRec :=
          { log := log, kind := kind, calValid := cv
            pinned := log == 2 && decide (s.salt.pinned.length + (s.recd.brineOf 2).length < 32)
            gap := s.recd.gapNext.getD log false, bad := false
            seqNo := s.recd.nextSeq.getD log 0
            seconds := if log = 2 then s.get Obj.operatingSeconds else sec
            powerCycle := s.get Obj.powerCycleCount
            fraction := if log = 2 then s.tb % 1000000 else frac
            source := src, revision := 0, repeatCount := 0, lastRepeatMs := 0, body := body
            at_ := s.now, updatedAt := s.now }
        let s := s.onRec fun q =>
          { q with brine := q.brine ++ [r]
                   nextSeq := q.nextSeq.modify log fun n => (n + 1) % 4294967296
                   gapNext := q.gapNext.modify log fun _ => false }
        let filled := decide (262144 * s.get Obj.brineFlushLevel < 100 * s.brineFill)
        let s := if log = 2 ∨ filled = true then wantFlush s else s
        (true, moveFill 11 s)

/-- Source of a record of the device (R148). -/
abbrev srcDevice : Nat := 0x0FFF
/-- Source of a record of an axis. -/
def State.srcAxis (s : State) (a : Nat) : Nat := 4096 * s.ownerOfAxis a + a
/-- Source of a record of a channel. -/
def State.srcChan (s : State) (c : Nat) : Nat := 4096 * s.ownerOfChan c + c
/-- Source of a record of side instance `i`. -/
def State.srcSide (s : State) (i : Nat) : Nat := 4096 * s.ownerOfSet (i / 2) + 0x40 + i

/-- A cycle or event record. -/
def admitEvent (log kind src : Nat) (body : List Byte) (s : State) : State :=
  (admitRec log kind src body s).2

/-- Body of a fault kind (R152). -/
def faultBody (s : State) (k reaction cause value1 value2 : Nat) : List Byte :=
  toLe 2 (k / 256) ++ [byte (k % 256), byte reaction] ++ toLe 4 cause ++ toLe 4 value1 ++ toLe 4 value2
    ++ toLe 8 s.utcOrZero

/-- A fault record with its FAULT notice (R152, R248); SafetyFaultCount counts reactions with bit 0 or 3
(R387). -/
def faultRecord (kind src k reaction cause value1 value2 cls num : Nat) (s : State) : State :=
  let body := faultBody s k reaction cause value1 value2
  let (isNew, s) := admitRec 2 kind src body s
  if isNew then
    let s := if reaction.testBit 0 || reaction.testBit 3 then s.inc Obj.safetyFaultCount else s
    raise cls num 3 (body.take 8) true s
  else s

/-- LATTICE_FAULT (16#20). -/
def latticeFault (k reaction cause : Nat) (s : State) : State :=
  faultRecord 0x20 srcDevice k reaction cause 0 0 1 0 s
/-- CHANNEL_FAULT (16#21) of a channel, with DiagStatus as cause register. -/
def channelFault (c reaction value1 : Nat) (s : State) : State :=
  faultRecord 0x21 (s.srcChan c) (Obj.diagStatus c) reaction (s.get (Obj.diagStatus c)) value1 0 4 c s
/-- AXIS_FAULT (16#22) of an axis. -/
def axisFaultRecord (a reaction : Nat) (s : State) : State :=
  faultRecord 0x22 (s.srcAxis a) (Obj.faultCause a) reaction (s.get (Obj.faultCause a))
    (s.get (Obj.currentMean a)) (s.get (Obj.position a)) 3 a s
/-- SUPPLY_FAULT (16#23) with an index of supplies, clocks or diagnostics. -/
def supplyFault (k reaction cause value1 : Nat) (s : State) : State :=
  let (c, n) := stateSource k
  faultRecord 0x23 srcDevice k reaction cause value1 0 c n s
/-- MEMORY_FAULT (16#24). -/
def memoryFault (k cause value1 cls num : Nat) (s : State) : State :=
  faultRecord 0x24 srcDevice k 0 cause value1 0 cls num s

/-! Histograms and extremes. -/

/-- Base and Width of a histogram entry (table "Histograms"). -/
def histoScale (n : Nat) : Int × Nat :=
  if n < 96 then
    match n % 4 with
    | 0 => (0, 200)
    | 1 => (0, 200)
    | 2 => (0, 250)
    | _ => (0, 1)
  else if n < 100 then (14000, 500)
  else if n = 100 then (0, 2000)
  else (-400, 50)

/-- The bin of a value (R161). -/
def histoBin (n : Nat) (x : Int) : Nat :=
  let (b, w) := histoScale n
  (max 0 (min 31 ((x - b) / (w : Int)))).toNat

/-- A value counted in a histogram entry (R155, R161). -/
def histoCount (n : Nat) (x : Int) (s : State) : State :=
  let (cv, sec, frac) := s.calStamp
  let b := histoBin n x
  s.onRec fun q => { q with histos := q.histos.modify n fun h =>
    let old := h.bins.getD b 0
    { h with bins := if old = 4294967295 then h.bins else h.bins.modify b fun v => v + 1
             saturated := h.saturated || old == 4294967295
             calValid := cv, revision := (h.revision + 1) % 65536
             seconds := sec, powerCycle := s.get Obj.powerCycleCount, fraction := frac } }

/-- A sample offered to an extreme entry (R155, R162). -/
def extremeSample (n : Nat) (x : Int) (s : State) : State :=
  let (cv, sec, frac) := s.calStamp
  let p : Peak := ⟨x, s.get Obj.operatingSeconds, s.get Obj.powerCycleCount, s.utcOrZero⟩
  s.onRec fun q => { q with extremes := q.extremes.modify n fun e =>
    let up := (e.max.map fun m => decide (m.value < x)).getD true
    let dn := (e.min.map fun m => decide (x < m.value)).getD true
    if up || dn then
      { e with max := if up then some p else e.max
               min := if dn then some p else e.min
               calValid := cv, revision := (e.revision + 1) % 65536
               seconds := sec, powerCycle := s.get Obj.powerCycleCount, fraction := frac }
    else e }

end Sys2Proof.Machine
end

