-- ==== Sys2Proof/Machine/Latch.lean ====
section
/-!
DEFINITION. Machine/Latch.lean: latch units (R104, 05_position_feedback.md) and the exit from DOZE (R308,
16_power_states.md), which many events take.
Readings and choices in the log: DEDUCED 14, 135.
-/
namespace Sys2Proof.Machine
open Sys2Proof

/-- An axis in SERIAL mode: FeedbackMode 2 (table "Feedback modes", R89). -/
def State.isSerial (s : State) (a : Nat) : Bool := s.get (Obj.feedbackMode a) == 2

/-- Numbers of LatchSource, LatchMode and LatchRecord of latch `n`. -/
def latchSourceKey (a n : Nat) : Nat := if n = 0 then Obj.latchSource0 a else Obj.latchSource1 a
def latchModeKey (a n : Nat) : Nat := if n = 0 then Obj.latchMode0 a else Obj.latchMode1 a
def latchRecordKey (a n : Nat) : Nat := if n = 0 then Obj.latchRecord0 a else Obj.latchRecord1 a

/-- A latch unit captures: timestamp `t` in FCLK, Position, Speed, the trigger kind and the next Sequence
(R104). Only SINGLE disarms. -/
def capture (a n kind t : Nat) (s : State) : State :=
  let l := (s.axis a).latches.getD n ⟨false, 0⟩
  if !l.armed && s.get (latchModeKey a n) == 0 then s
  else
    let q := (l.seq + 1) % 256
    let ser := s.isSerial a
    let age : Int := ((t : Int) - s.get (Obj.fbLastEdgeTime a)) % (2 ^ 48)
    let pos := s.geti (Obj.position a) + (if ser then Int.tdiv (s.geti (Obj.speed a) * age) 150000000 else 0)
    let v := t % 2 ^ 48 + 2 ^ 48 * encSigned 32 pos + 2 ^ 80 * s.get (Obj.speed a)
      + 2 ^ 112 * (kind + 128 * bitVal ser) + 2 ^ 120 * q
    let single := s.get (latchModeKey a n) == 0
    (s.put (latchRecordKey a n) v).onAxis a fun x =>
      { x with latches := x.latches.modify n fun l => ⟨l.armed && !single, q⟩ }

/-- A trigger is offered to every latch unit whose LatchSource is one of `sources`. -/
def offerLatches (kind t : Nat) (sources : List Nat) (s : State) : State :=
  each (List.range 24) (fun a s =>
    each [0, 1] (fun n s =>
      if s.variant.hasAxis a && sources.contains (s.get (latchSourceKey a n)) then
        let k := s.get (latchSourceKey a n) / 4096
        capture a n (if kind = 0 then k else kind) t s
      else s) s) s

/-- A trigger of one axis's own kind (7 obstacle trip, 8 reference mark, 9 reference slip). -/
def ownLatch (a kind : Nat) (s : State) : State :=
  each [0, 1] (fun n s =>
    if s.get (latchSourceKey a n) / 4096 == kind then capture a n kind s.f s else s) s

/-- A filtered change of a field channel triggers kinds 1 to 3 (R104, R110). -/
def chanLatch (c : Nat) (rise : Bool) (s : State) : State :=
  offerLatches 0 s.f [4096 * (if rise then 1 else 2) + c, 4096 * 3 + c] s

/-- A change of a GP pin's synchronised value triggers kinds 4 to 6, its time corrected by two FCLK periods. -/
def pinLatch (i : Nat) (rise : Bool) (s : State) : State :=
  offerLatches 0 (s.f - 2) [4096 * (if rise then 4 else 5) + i, 4096 * 6 + i] s

/-- The device leaves DOZE for RUN; a port that asserted LPI wakes in 30 µs (R201, R308). -/
def dozeExit (s : State) : State :=
  if s.get Obj.powerState == 2 then
    let s := (s.put Obj.powerState 0).onPow fun p => { p with stateAt := s.now }
    each [0, 1] (fun p s =>
      if s.bit (Obj.portStatus p) 4 then
        (s.setBit (Obj.portStatus p) 4 false).onNet fun n =>
          { n with ports := n.ports.modify p fun u => { u with wakeAt := some (s.now + us 30) } }
      else s) s
  else s

end Sys2Proof.Machine
end

