-- ==== Sys2Proof/Machine/Field.lean ====
section
/-!
DEFINITION. Machine/Field.lean: the field cells (06_field_inputs.md, 07_field_outputs.md): modes, diagnostics, the
functional filter, base demands with their overlays, and the switching of cells under R124.
Readings and choices in the log: DEDUCED 10, 80, 110.
-/
namespace Sys2Proof.Machine
open Sys2Proof

/-! Channel modes (table "Channel modes", R106). -/

def isInput (m : Nat) : Bool := decide (1 ≤ m ∧ m ≤ 3)
def isOutput (m : Nat) : Bool := decide (4 ≤ m ∧ m ≤ 8)
/-- Cells that one demand switches: gang size (R126). -/
def gangSize (m : Nat) : Nat := if m = 5 then 2 else if m = 6 then 4 else 1

/-- The registers that the die keeps of a channel. -/
def State.regs (s : State) (c : Nat) : ChanRegs := ((s.die (c / 64)).regs).getD (c % 64) ChanRegs.reset
def State.onRegs (c : Nat) (f : ChanRegs → ChanRegs) (s : State) : State :=
  s.onDie (c / 64) fun d => { d with regs := d.regs.modify (c % 64) f }
/-- The mode in which the cell works. -/
def State.mode (s : State) (c : Nat) : Nat := (s.regs c).mode
/-- The channel whose limits, diagnostics and counters hold: the lead of a gang (R126). -/
def State.leadOf (s : State) (c : Nat) : Nat := (s.chan c).lead.getD c
/-- Present channels of a die. -/
def State.chansOf (s : State) (k : Nat) : List Nat :=
  ((List.range 64).map fun i => 64 * k + i).filter s.variant.hasChan
/-- The die is in UNDER_VOLTAGE or acts so under GND_SHIFT (R138). -/
def Die.down (d : Die) : Bool := d.uv || d.gnd

/-! Diagnostics (R118, R119, R141). -/

/-- The channel notice of a rise (Kind 1): at most one per 100 ms (R119, R141). -/
def chanNotice (c b : Nat) (s : State) : State :=
  let on := if b ≤ 7 then s.bit (Obj.diagNoticeMask c) b
    else if b ≤ 14 then s.bit (Obj.outputNoticeMask c) (b - 9) else false
  let free := ((s.chan c).noticeAt.map fun t => decide (t + ms 100 ≤ s.now)).getD true
  if on && free then
    let v := if isInput (s.mode c) then s.get (Obj.inputVoltage c) else s.get (Obj.loadCurrent c)
    (raise 4 c 1 ([byte b, 1] ++ toLe 2 (s.get (Obj.diagStatus c)) ++ toLe 2 v) false s).onChan c
      fun x => { x with noticeAt := some s.now }
  else s

/-- A diagnostic bit rises: DiagSticky, the counters of R119, R127 and R131, its record and its notice.
`value1` is the value of the fault record. -/
def diagRise (c b value1 : Nat) (s : State) : State :=
  if s.bit (Obj.diagStatus c) b then s
  else
    let s := s.setBit (Obj.diagStatus c) b true
    let s := s.setBit (Obj.diagSticky c) b true
    let s := match b with
      | 0 => s.inc (Obj.overloadCount c)
      | 1 =>
        admitEvent 1 0x13 (s.srcChan c)
          (toLe 2 c ++ [1, 1] ++ toLe 2 (s.get (Obj.diagStatus c)) ++ toLe 2 (s.get (Obj.inputVoltage c)))
          (s.inc (Obj.wireBreakCount c))
      | 2 => s.inc (Obj.overTempCount c)
      | 3 => channelFault c 0 value1 (s.inc (Obj.xcheckCount c))
      | 5 => channelFault c 0 value1 s
      | 9 => channelFault c 4 value1 ((s.inc (Obj.tripCount c)).inc (Obj.lockCount c))
      | 10 => channelFault c 4 value1 (s.inc (Obj.lockCount c))
      | 11 => channelFault c 4 value1 (s.inc (Obj.lockCount c))
      | 12 => channelFault c 4 value1 (s.inc (Obj.lockCount c))
      | _ => s
    chanNotice c b s

/-- A diagnostic bit falls. -/
def diagFall (c b : Nat) (s : State) : State := s.setBit (Obj.diagStatus c) b false

/-! Input comparators and the functional filter. -/

/-- A comparator with hysteresis: on from `hi`, off below `lo`. -/
def hyst (old : Bool) (hi lo : Int) (x : Int) : Bool :=
  if hi ≤ x then true else if x < lo then false else old

/-- The die's supply in mV as last measured. -/
def State.vfld (s : State) (c : Nat) : Nat := s.get (Obj.vfldVoltage (c / 64))

/-- The band that r indicates (table "Wire-break bands", R112). -/
def bandOf (band : Option Nat) (vfld : Nat) (mv : Int) : Nat :=
  let v : Int := vfld
  if vfld = 0 then 0
  else if 70 * v ≤ 100 * mv then 2
  else if 45 * v ≤ 100 * mv then band.getD 1
  else if 20 * v ≤ 100 * mv then 1
  else if 15 * v ≤ 100 * mv then band.getD 0
  else 0

/-- r lies in a gap (R112). -/
def inGap (vfld : Nat) (mv : Int) : Bool :=
  let v : Int := vfld
  decide (45 * v ≤ 100 * mv ∧ 100 * mv < 70 * v) || decide (15 * v ≤ 100 * mv ∧ 100 * mv < 20 * v)

/-- Raw functional sample (R107, R114). -/
def rawFunc (mode vfld : Nat) (x : Chan) : Bool :=
  match mode with
  | 1 => hyst x.rawF 12000 10500 x.mv
  | 2 => hyst x.rawF 9000 7500 x.mv
  | 3 => bandOf x.band vfld x.mv == 2
  | _ => false

/-- Raw lattice sample (R113). -/
def rawLatt (mode vfld : Nat) (x : Chan) : Bool :=
  match mode with
  | 1 => hyst x.rawL 12000 10500 x.lattMv
  | 2 => hyst x.rawL 9000 7500 x.lattMv
  | 3 => decide (0 < vfld) && hyst x.rawL (70 * vfld) (45 * vfld) (100 * x.lattMv)
  | _ => false

/-- The state or band that a change would take: 0 or 1, in IN_WB the band (R108, R112). -/
def indicated (mode vfld : Nat) (x : Chan) : Nat :=
  if mode = 3 then bandOf x.band vfld x.mv else bitVal (rawFunc mode vfld x)

/-- The state or band in force, none before the filter has run once. -/
def inForce (mode : Nat) (x : Chan) : Option Nat :=
  if !x.ran then none else if mode = 3 then x.band else some (bitVal x.filt)

/-- A cell looks at its voltage: raw samples, the pending change, gaps and the cross-check's runs. -/
def Chan.sample (mode vfld now : Nat) (x : Chan) : Chan :=
  let f := rawFunc mode vfld x
  let l := rawLatt mode vfld x
  let i := indicated mode vfld x
  let pend :=
    if inForce mode x = some i then none
    else match x.pend with
      | some (j, t) => if j = i then some (j, t) else some (i, now)
      | none => some (i, now)
  let gap := mode == 3 && inGap vfld x.mv
  let bad := f != l
  { x with
    rawF := f, rawL := l
    pend := if isInput mode then pend else none
    gapSince := if gap then some (x.gapSince.getD now) else none
    marginal := gap && x.marginal
    xBad := if bad then some (x.xBad.getD now) else none
    xGood := if bad then none else some (x.xGood.getD now) }

/-- The channel starts afresh in a mode: until its filter has run once it reads off (R120). -/
def Chan.restart (mode vfld now : Nat) (x : Chan) : Chan :=
  Chan.sample mode vfld now
    { x with rawF := false, rawL := false, filt := false, band := none, pend := none, ran := false
             gapSince := none, marginal := false, xBad := none, xGood := none, testBad := 0, testGood := 0
             preOn := false, stuckPasses := 0, holdFrom := none, overSince := none, inRangeSince := none }

/-- InputState as the die sends it: off for the causes of the table "Input diagnostics" (R118, R120). -/
def State.dieState (s : State) (c : Nat) : Bool :=
  let x := s.chan c
  let on := if s.mode c = 3 then x.band == some 2 else x.filt
  isInput (s.mode c) && x.ran && on
    && !(s.bit (Obj.diagStatus c) 1 || s.bit (Obj.diagStatus c) 2 || s.bit (Obj.diagStatus c) 4)
    && !(s.die (c / 64)).down

/-- The state that the die sends on the lattice lane (R113). -/
def State.lattRaw (s : State) (c : Nat) : Bool :=
  isInput (s.mode c) && (s.chan c).ran && (s.chan c).rawL
    && !(s.bit (Obj.diagStatus c) 2 || s.bit (Obj.diagStatus c) 4) && !(s.die (c / 64)).down

/-- InputState of a channel is set; a change leaves DOZE (R308). -/
def putInput (c : Nat) (b : Bool) (s : State) : State :=
  if s.get (Obj.inputState c) == bitVal b then s else dozeExit (s.put (Obj.inputState c) (bitVal b))

/-! Demands (R123, R124, R137). -/

/-- Unlock channels of the active lattice image are driven by R53 alone. -/
def State.isUnlock (s : State) (c : Nat) : Bool := s.recd.activeImage.unlocks.contains c

/-- Level of a DIRECT pin as an OUT_DIRECT channel takes it (R136). -/
def State.directIn (s : State) (c : Nat) : Bool :=
  let p := (s.regs c).pin
  p != 0xFF && ((s.direct.getD (p % 16) false) != p.testBit 7)

/-- The present base demand, whichever source set it (R123), the orphan state in its place (R137). -/
def State.baseDemand (s : State) (c : Nat) : Nat :=
  let x := s.chan c
  let own := match x.flash with
    | some f => if f.on then 255 else 0
    | none => x.base
  if s.mode c = 8 then (if s.directIn c then 255 else 0)
  else if s.isUnlock c then (if x.orphan then 0 else if x.unlock then 255 else 0)
  else if x.orphan then
    match s.get (Obj.orphanState c) with
    | 0 => 0
    | 1 => 255
    | 2 => own
    | _ => match x.oflash with
      | some f => if f.on then 255 else 0
      | none => 255
  else own

/-- Inputs that name channel `c` as their TestSource and are in an input mode (R116). -/
def State.fedBy (s : State) (c : Nat) : List Nat :=
  (s.chansOf (c / 64)).filter fun i => isInput (s.get (Obj.channelMode i)) && s.get (Obj.testSource i) == c

/-- The source is held on (R116). -/
def State.testHold (s : State) (c : Nat) : Bool := !(s.fedBy c).isEmpty

/-- A compare pulse runs on the channel (R105). -/
def State.comparePulse (s : State) (c : Nat) : Bool :=
  (List.range 24).any fun a => s.variant.hasAxis a && s.get (Obj.compareOutput a) == c
    && ((s.axis a).pulseUntil.map fun t => decide (s.now < t)).getD false

/-- The unlock gate of R29; open for every channel that is no UnlockChannel (R124). -/
def State.gateOpen (s : State) (c : Nat) : Bool :=
  match (List.range 24).find? (fun l => (s.recd.activeImage.leaf l).enabled
      && (s.recd.activeImage.leaf l).unlock == c) with
  | some l => s.lat.gates.getD l false
  | none => true

/-- The combined demand that the logic die sends, the gate included (R124, R125). -/
def State.demandOf (s : State) (c : Nat) : Bool :=
  s.gateOpen c && (decide (0 < s.baseDemand c) || s.comparePulse c || s.testHold c)

/-! Cells. -/

/-- The power state lets the coils and the field outputs other than OUT_DIRECT be driven (R306, R318). -/
def State.driven (s : State) : Bool := decide (s.get Obj.powerState ≤ 2) && decide (s.get Obj.powerPhase < 0x23)

/-- A cause of chapter 07 holds the cell off (R124): latches, over-temperature, the die's supply, its link. -/
def State.protectedOff (s : State) (c : Nat) : Bool :=
  let d := s.die (c / 64)
  let g := s.get (Obj.diagStatus c)
  g.testBit 2 || g.testBit 9 || g.testBit 10 || g.testBit 11 || g.testBit 12
    || d.down || d.lost || (s.mode c != 8 && !d.outUp)

/-- The cell is to conduct (R124, R136). -/
def State.wantOn (s : State) (c : Nat) : Bool :=
  if s.mode c = 8 then s.directIn c && !s.protectedOff c
  else isOutput (s.mode c) && (s.chan c).dem && (s.chan c).window.isNone && !s.protectedOff c

/-- Inrush window of a LoadType in ms (table "Inrush profiles", R128). -/
def inrushMs (load : Nat) : Nat :=
  match load with
  | 1 => 60
  | 2 => 10
  | 3 => 30
  | 4 => 15
  | 5 => 400
  | 6 => 2000
  | _ => 0

/-- Trip filter of a LoadType in µs. -/
def tripFilterUs (load : Nat) : Nat :=
  match load with
  | 3 => 500
  | 4 => 500
  | 5 => 1000
  | 6 => 1000
  | _ => 100

/-- The threshold in force in mA, none while none can trip (R127, R128). -/
def State.tripThreshold (s : State) (c : Nat) : Option Nat :=
  let r := s.regs c
  let n := gangSize r.mode
  let plain := n * r.trip
  if (s.chan c).inrushUntil.isNone then some plain
  else
    let x2 := match r.load with
      | 3 => some (2 * plain)
      | 4 => some (2 * plain)
      | 5 => some (3 * plain)
      | 6 => some (plain * 3 / 2)
      | _ => none
    x2.bind fun t => if t < n * Config.cellLimitMa then some t else none

/-- The cell switches: counters, the inrush window and the start of a clamp event (R128, R129). -/
def switchCell (c : Nat) (b : Bool) (s : State) : State :=
  let x := s.chan c
  if x.on == b then s
  else if b then
    let w := inrushMs (s.regs c).load
    let opens := (x.fresh || decide (x.offAt + ms 100 ≤ s.now)) && decide (0 < w)
    (s.inc (Obj.switchOnCount c)).onChan c fun x =>
      { x with on := true, onAt := s.now, fresh := false
               inrushUntil := if opens then some (s.now + ms w) else none }
  else
    s.onChan c fun x =>
      { x with on := false, offAt := s.now, onAcc := x.onAcc + (s.now - x.onAt), inrushUntil := none
               clamping := true }

/-- The cell follows R124. -/
def applyCell (c : Nat) (s : State) : State := switchCell c (s.wantOn c) s

/-- Clears the latches that a re-arm or OutputReset allows (table "Latches and re-arming", R131). -/
def clearLatches (c : Nat) (fw : Bool) (s : State) : State :=
  let n := gangSize (s.mode c)
  let s := diagFall c 9 s
  let s := if 2 * s.get (Obj.clampEnergyAcc c) ≤ n * 1000 * s.get (Obj.clampBudget c)
    then diagFall c 10 s else s
  let s := if fw then diagFall c 11 s else s
  if (s.chan c).hot then s else diagFall c 12 s

/-- The base demand has moved from `old`: its fall is timed, and a rise after 100 ms off re-arms the latches
(R131). -/
def demandMoved (c old : Nat) (s : State) : State :=
  let new := s.baseDemand c
  if old = 0 ∧ 0 < new then
    let direct := s.mode c == 8
    if (direct || s.flag (Obj.rearmOnDemand c)) && decide ((s.chan c).demandOffAt + ms 100 ≤ s.now) then
      clearLatches c direct s
    else s
  else if 0 < old ∧ new = 0 then s.onChan c fun x => { x with demandOffAt := s.now }
  else s

/-- A change of the base demand. -/
def withDemand (c : Nat) (f : State → State) (s : State) : State := demandMoved c (s.baseDemand c) (f s)

/-- A source sets the base demand; the orphan state ends (R123, R137). -/
def setBase (c v : Nat) (s : State) : State :=
  withDemand c (fun s => s.onChan c fun x =>
    { x with base := v, flash := none, orphan := false, oflash := none }) s

/-- A FLASH action: half-period in units of 50 ms (R61, R124). -/
def setFlash (c half : Nat) (s : State) : State :=
  withDemand c (fun s => s.onChan c fun x =>
    { x with base := 255, flash := some ⟨ms (50 * half), true, s.now + ms (50 * half)⟩
             orphan := false, oflash := none }) s

/-- The unlock demand of R53. -/
def setUnlock (c : Nat) (b : Bool) (s : State) : State :=
  withDemand c (fun s => s.onChan c fun x => { x with unlock := b, orphan := false, oflash := none }) s

/-- The output takes its orphan state in place of its base demand, or leaves it (R137). -/
def setOrphan (c : Nat) (b : Bool) (s : State) : State :=
  if s.mode c = 8 then s
  else withDemand c (fun s => s.onChan c fun x =>
    { x with orphan := b
             oflash := if b && s.get (Obj.orphanState c) == 3 then
               some ⟨ms 500, true, s.now + ms 500⟩ else none }) s

/-- Channels of a function: those of its mask, or for F0 those in no mask (R250). -/
def State.chansOfFn (s : State) (n : Nat) : List Nat :=
  (List.range 256).filter fun c => s.variant.hasChan c && s.ownerOfChan c == n

/-- Every output of a list takes its orphan state, or leaves it. -/
def orphanAll (cs : List Nat) (b : Bool) (s : State) : State := each cs (fun c => setOrphan c b) s

/-- LINK of a channel follows its die's lanes (R109, R125). -/
def linkDiag (c : Nat) (s : State) : State :=
  let d := s.die (c / 64)
  let lost := !d.funcUp || (isOutput (s.mode c) && s.mode c != 8 && !d.outUp)
  if lost then diagRise c 7 0 s else diagFall c 7 s

/-- The die takes a channel's mode and limits: the cell is off and every latch clear, then it follows its new
mode (R120, R142). DiagStatus clears, but DIE_UV and LINK show what is present. -/
def configureCell (c : Nat) (s : State) : State :=
  let r : ChanRegs := ⟨s.get (Obj.channelMode c), s.get (Obj.directPin c), s.get (Obj.tripCurrent c),
    s.get (Obj.loadType c), s.get (Obj.turnOffMode c)⟩
  let s := switchCell c false s
  let s := s.put (Obj.diagStatus c) (s.get (Obj.diagStatus c) &&& 0xC0)
  let s := s.onRegs c fun _ => r
  let vf := s.vfld c
  let s := s.onChan c fun x =>
    { Chan.restart r.mode vf s.now x with fresh := true, retries := [], hot := false, window := none }
  let s := putInput c false s
  let s := linkDiag c s
  if r.mode = 8 then applyCell c s else s

/-- A channel's protection settings reach the die without a mode change. -/
def reloadLimits (c : Nat) (s : State) : State :=
  s.onRegs c fun r => { r with pin := s.get (Obj.directPin c), trip := s.get (Obj.tripCurrent c)
                               load := s.get (Obj.loadType c), turnOff := s.get (Obj.turnOffMode c) }

end Sys2Proof.Machine
end

