-- ==== Sys2Proof/Machine/Inputs.lean ====
section
/-!
DEFINITION. Machine/Inputs.lean: events of the field channels as inputs (06_field_inputs.md): samples, the functional
filter and lane, the cross-check, self-tests, test windows and input diagnostics.
Readings and choices in the log: DEDUCED 7, 11.
-/
namespace Sys2Proof.Machine
open Sys2Proof

/-- The cell of channel `c` looks at its voltage again; samples in a test window of its source are left out of the
cross-check (R114). -/
def resample (c : Nat) (s : State) : State :=
  let m := s.mode c
  let v := s.vfld c
  let tested := (s.chan (s.get (Obj.testSource c))).window.isSome
  s.onChan c fun x =>
    let y := Chan.sample m v s.now x
    if tested then { y with xBad := x.xBad, xGood := x.xGood } else y

/-- A time mark that holds while a condition does. -/
def markWhile (b : Bool) (now : Nat) (t : Option Nat) : Option Nat := if b then some (t.getD now) else none

/-- At least `d` cycles since a mark. -/
def heldFor (now d : Nat) (t : Option Nat) : Bool := (t.map fun x => decide (x + d ≤ now)).getD false

/-- FIELD_INPUT_CHANGE (R107, R108, R112 to R114, R118): the voltage at a ball as the two comparator paths
judge it. -/
def execFieldInputChange (c : Fin 256) (mv lattMv : Int) (s : State) : Host.Outcome State Fault Refusal :=
  s.answer <|
    if !s.variant.hasChan c.val || !isInput (s.mode c) then s.onChan c fun x => { x with mv := mv, lattMv := lattMv }
    else
      let out := decide (31500 < mv ∨ mv < -3500)
      resample c (s.onChan c fun x =>
        { x with mv := mv, lattMv := lattMv
                 overSince := markWhile out s.now x.overSince
                 inRangeSince := markWhile (!out) s.now x.inRangeSince })

/-- What the logic die does at a filtered change (R110). -/
def filteredChange (c : Nat) (rise : Bool) (s : State) : State :=
  if !s.live then s
  else
    let s := s.put (Obj.chLastEdgeTime c) s.fclk
    let s := if rise then s.inc (Obj.chEdgeCount c) else s
    chanLatch c rise s

/-- A pending change has completed its filter. -/
def filterDone (c i : Nat) (s : State) : State :=
  let x := s.chan c
  let wb := s.mode c == 3
  let old := x.ran && (if wb then x.band == some 2 else x.filt)
  let new := if wb then i == 2 else i == 1
  let s := s.onChan c fun x =>
    { x with pend := none, ran := true, filt := !wb && new, band := if wb then some i else none }
  let s := if old == new then s else filteredChange c new s
  if wb then (if i = 0 then diagRise c 1 0 s else diagFall c 1 s) else s

/-- INPUT_FILTER_EXPIRY (R108, R110, R112): a pending change completes once InputFilter has passed and no test
window holds it. -/
def execInputFilterExpiry (c : Fin 256) (s : State) : Host.Outcome State Fault Refusal :=
  s.answer <|
    match (s.chan c).pend with
    | none => s
    | some (i, t) =>
      if t + us (s.get (Obj.inputFilter c)) ≤ s.now && (s.chan c).holdFrom.isNone
          && !(s.die (c / 64)).down && isInput (s.mode c) then filterDone c i s
      else s

/-- A write of InputFilter restarts a pending change from the present sample (R108). -/
def inputFilterWritten (c : Nat) (s : State) : State :=
  s.onChan c fun x => { x with pend := x.pend.map fun (i, _) => (i, s.now) }

/-- INPUT_VOLTAGE_WINDOW (R417): the mean of a 1 ms window is published, in mV. -/
def execInputVoltageWindow (c : Fin 256) (mv : Nat) (s : State) : Host.Outcome State Fault Refusal :=
  s.answerLive fun s => s.put (Obj.inputVoltage c) (min mv 65535)

/-- MARGINAL (R112): r has stayed in a gap for 20 ms. -/
def execMarginal (c : Fin 256) (s : State) : Host.Outcome State Fault Refusal :=
  s.answer <|
    if heldFor s.now (ms 20) (s.chan c).gapSince then s.onChan c fun x => { x with marginal := true } else s

/-- XCHECK_SET (R114): the paths have disagreed for XcheckTime. -/
def execXcheckSet (c : Fin 256) (s : State) : Host.Outcome State Fault Refusal :=
  s.answer <|
    if heldFor s.now (ms (s.get (Obj.xcheckTime c))) (s.chan c).xBad && isInput (s.mode c) then
      diagRise c 3 0 s
    else s

/-- XCHECK_CLEAR (R114): the paths have agreed for 1.0 s. -/
def execXcheckClear (c : Fin 256) (s : State) : Host.Outcome State Fault Refusal :=
  s.answer <| if heldFor s.now (sec 1) (s.chan c).xGood then diagFall c 3 s else s

/-- COMPARATOR_SELFTEST (R115): two wrong self-tests in a row set COMP_FAIL, two correct ones clear it. -/
def execComparatorSelftest (c : Fin 256) (pass : Bool) (s : State) : Host.Outcome State Fault Refusal :=
  s.answer <|
    if !isInput (s.mode c) then s
    else
      let s := s.onChan c fun x =>
        { x with testBad := if pass then 0 else x.testBad + 1, testGood := if pass then x.testGood + 1 else 0 }
      if 2 ≤ (s.chan c).testBad then diagRise c 4 0 s
      else if 2 ≤ (s.chan c).testGood then diagFall c 4 s
      else s

/-! Test pulsing. -/

/-- TestPeriod in force for a source: the smallest of the inputs that name it, in ms (R117). -/
def State.testPeriodOf (s : State) (c : Nat) : Nat :=
  (s.fedBy c).foldl (fun m i => min m (s.get (Obj.testPeriod i))) 10000
/-- TestWidth in force for a source, in µs (R117). -/
def State.testWidthOf (s : State) (c : Nat) : Nat :=
  (s.fedBy c).foldl (fun m i => min m (s.get (Obj.testWidth i))) 300

/-- The input reads on: for the test of R117, on either raw comparator. -/
def Chan.readsOn (x : Chan) : Bool := x.rawF || x.rawL

/-- TEST_WINDOW_START (R117): the source is switched off; the filters of the inputs it feeds hold. No window
runs while the source's protection holds it off. -/
def execTestWindowStart (c : Fin 256) (s : State) : Host.Outcome State Fault Refusal :=
  s.answer <|
    let x := s.chan c
    if s.mode c == 4 && s.testHold c && x.window.isNone && x.on && !s.protectedOff c
        && decide (x.lastWindow + ms (s.testPeriodOf c) ≤ s.now) then
      let s := s.onChan c fun x => { x with window := some s.now, lastWindow := s.now }
      let s := applyCell c s
      each (s.fedBy c) (fun i s => s.onChan i fun y =>
        { y with preOn := y.readsOn, holdFrom := some s.now }) s
    else s

/-- An input is judged at the end of a window: it must read off on both comparators (R117). -/
def judgeWindow (i : Nat) (s : State) : State :=
  let y := s.chan i
  if y.preOn && y.readsOn then
    diagRise i 5 0 (s.onChan i fun y => { y with stuckPasses := 0 })
  else if s.bit (Obj.diagStatus i) 5 then
    let s := s.onChan i fun y => { y with stuckPasses := y.stuckPasses + 1 }
    if 3 ≤ (s.chan i).stuckPasses then diagFall i 5 s else s
  else s

/-- TEST_WINDOW_END (R117): at the end of TestWidth the inputs are judged and the source comes back. -/
def execTestWindowEnd (c : Fin 256) (s : State) : Host.Outcome State Fault Refusal :=
  s.answer <|
    if heldFor s.now (us (s.testWidthOf c)) (s.chan c).window then
      let s := each (s.fedBy c) judgeWindow s
      let s := applyCell c (s.onChan c fun x => { x with window := none })
      each (s.fedBy c) resample s
    else s

/-- FILTER_HOLD_END (R117): 100 µs after the window of its source the filter of an input goes on; its pending
count is as long as it was at the window's start. -/
def execFilterHoldEnd (c : Fin 256) (s : State) : Host.Outcome State Fault Refusal :=
  s.answer <|
    match (s.chan c).holdFrom with
    | none => s
    | some t =>
      let src := s.get (Obj.testSource c)
      let running := (s.chan src).window.isSome
      if !running && decide (t + us (s.testWidthOf src + 100) ≤ s.now) then
        let held := s.now - t
        let s := s.onChan c fun x =>
          { x with holdFrom := none, pend := x.pend.map fun (i, p) => (i, if t ≤ p then s.now else p + held) }
        resample c s
      else s

/-- INPUT_OVERLOAD (R118): beyond 31.5 V or −3.5 V for 1 ms. -/
def execInputOverload (c : Fin 256) (s : State) : Host.Outcome State Fault Refusal :=
  s.answer <|
    if heldFor s.now (ms 1) (s.chan c).overSince && isInput (s.mode c) then diagRise c 0 0 s else s

/-- OVERLOAD_CLEAR (R118): within range for 100 ms. -/
def execOverloadClear (c : Fin 256) (s : State) : Host.Outcome State Fault Refusal :=
  s.answer <| if heldFor s.now (ms 100) (s.chan c).inRangeSince then diagFall c 0 s else s

end Sys2Proof.Machine
end

