-- ==== Sys2Proof/Machine/Outputs.lean ====
section
/-!
DEFINITION. Machine/Outputs.lean: events of the field channels as outputs (07_field_outputs.md): demands, trips, clamp
events, the thermal limit, load checks, dimming, and what writes of their objects do.
Readings and choices in the log: DEDUCED 9, 10, 110.
-/
namespace Sys2Proof.Machine
open Sys2Proof

/-- OUTPUT_FRAME (R124, R125): a good frame delivers the demands of a die and its cells switch. -/
def execOutputFrame (k : Fin 4) (crcOk : Bool) (s : State) : Host.Outcome State Fault Refusal :=
  s.answerLive fun s =>
    if !crcOk || !s.variant.hasDie k.val || (s.die k).reversed then s
    else
      let s := s.onDie k fun d => { d with outAt := s.now, outUp := true }
      each (s.chansOf k) (fun c s =>
        if (s.chan c).lead.isSome then s
        else
          let d := s.demandOf c && s.driven
          linkDiag c (applyCell c (s.onChan c fun x => { x with dem := d }))) s

/-- OUTPUT_LINK_TIMEOUT (R125): 150 µs without a good frame turn off every cell but those in OUT_DIRECT. -/
def execOutputLinkTimeout (k : Fin 4) (s : State) : Host.Outcome State Fault Refusal :=
  s.answer <|
    if s.variant.hasDie k.val && (s.die k).outUp && decide ((s.die k).outAt + us 150 ≤ s.now) then
      let s := s.onDie k fun d => { d with outUp := false }
      each (s.chansOf k) (fun c s => linkDiag c (applyCell c s)) s
    else s

/-- CURRENT_LATCH_OFF (R127, R128): the load current, in mA, has been above the threshold in force for `heldUs`. -/
def execCurrentLatchOff (c : Fin 256) (mA heldUs : Nat) (s : State) : Host.Outcome State Fault Refusal :=
  s.answer <|
    let c := s.leadOf c
    if !(isOutput (s.mode c) && (s.chan c).on) then s
    else
      let s := s.put (Obj.loadCurrent c) (min mA 65535)
      match s.tripThreshold c with
      | some t =>
        if t < mA ∧ tripFilterUs (s.regs c).load ≤ heldUs then applyCell c (diagRise c 9 mA s) else s
      | none => s

/-- INRUSH_WINDOW_END (R128). -/
def execInrushWindowEnd (c : Fin 256) (s : State) : Host.Outcome State Fault Refusal :=
  s.answer <|
    let c := s.leadOf c
    if ((s.chan c).inrushUntil.map fun t => decide (t ≤ s.now)).getD false then
      s.onChan c fun x => { x with inrushUntil := none }
    else s

/-- Gang multiple of a channel's mode (R126). -/
def State.gangOf (s : State) (c : Nat) : Nat := gangSize (s.mode c)

/-- CLAMP_EVENT_END (R129, R398): the energy of a turn-off in µJ, at the resolution of 10 µJ. -/
def execClampEventEnd (c : Fin 256) (energyUj : Nat) (s : State) : Host.Outcome State Fault Refusal :=
  s.answer <|
    let c := s.leadOf c
    if !(s.chan c).clamping then s
    else
      let n := s.gangOf c
      let e := energyUj / 10 * 10
      let s := s.onChan c fun x => { x with clamping := false }
      let s := s.put (Obj.clampEnergyLast c) (min e 4294967290)
      let s := s.addTo (Obj.clampEnergyTotal c) e
      let s := s.put (Obj.clampEnergyAcc c) (min (s.get (Obj.clampEnergyAcc c) + e) 4294967295)
      if n * 1000 * s.get (Obj.clampBudget c) < s.get (Obj.clampEnergyAcc c) ∨ n * 200000 < e then
        applyCell c (diagRise c 10 (s.get (Obj.clampEnergyLast c)) s)
      else s

/-- CLAMP_DECAY (R129): every 1 ms the accumulator falls by ClampDecay / 1000. -/
def execClampDecay (c : Fin 256) (s : State) : Host.Outcome State Fault Refusal :=
  s.answer <|
    if (s.chan c).decayAt + ms 1 ≤ s.now then
      let d := s.gangOf c * s.get (Obj.clampDecay c)
      (s.put (Obj.clampEnergyAcc c) (s.get (Obj.clampEnergyAcc c) - d)).onChan c
        fun x => { x with decayAt := s.now }
    else s

/-- FW_MISSING (R130): `afterUs` after a turn-off of `offMa` mA with EXTERNAL the output, in mV, is below −4.0 V. -/
def execFwMissing (c : Fin 256) (mv : Int) (offMa afterUs : Nat) (s : State) : Host.Outcome State Fault Refusal :=
  s.answer <|
    let c := s.leadOf c
    if (s.regs c).turnOff = 1 ∧ mv < -4000 ∧ 20 ≤ offMa ∧ afterUs ≤ 2000 ∧ isOutput (s.mode c) then
      applyCell c (diagRise c 11 offMa s)
    else s

/-- CELL_OVERTEMP (R118, R132): a cell's junction, in °C, is above the limit of 175 °C. -/
def execCellOvertemp (c : Fin 256) (tj : Int) (s : State) : Host.Outcome State Fault Refusal :=
  s.answer <|
    let c := s.leadOf c
    if tj ≤ 175 ∨ s.mode c = 0 ∨ s.bit (Obj.diagStatus c) 2 then s
    else
      let s := s.onChan c fun x => { x with hot := true }
      let s := diagRise c 2 0 s
      if isOutput (s.mode c) then
        let s := s.inc (Obj.thermalOffCount c)
        let lim := s.get (Obj.thermalRetryLimit c)
        let s := if lim = 0 ∨ lim < (s.chan c).retries.length
          then diagRise c 12 (s.get (Obj.loadCurrent c)) s else s
        applyCell c s
      else s

/-- THERMAL_RETRY (R118, R132): the junction has been 15 K below the limit for 10 ms; an output resumes its demand,
and that counts as a retry of the latest 60 s. -/
def execThermalRetry (c : Fin 256) (tj : Int) (heldUs : Nat) (s : State) : Host.Outcome State Fault Refusal :=
  s.answer <|
    let c := s.leadOf c
    if !(s.chan c).hot || decide (160 < tj) || decide (heldUs < 10000) then s
    else
      let s := diagFall c 2 (s.onChan c fun x => { x with hot := false })
      let s := if s.wantOn c then
          s.onChan c fun x => { x with retries := x.retries.filter (fun t => decide (s.now ≤ t + sec 60)) ++ [s.now] }
        else s
      applyCell c s

/-- OPEN_LOAD_ON (R133): the load current has stayed below OpenLoadOnCurrent for `heldUs`. -/
def execOpenLoadOn (c : Fin 256) (mA heldUs : Nat) (s : State) : Host.Outcome State Fault Refusal :=
  s.answer <|
    let c := s.leadOf c
    let x := s.chan c
    if s.bit (Obj.openLoadCheck c) 1 && x.on && x.inrushUntil.isNone
        && (s.mode c != 7 || s.get (Obj.effectiveDuty c) == 1023) && isOutput (s.mode c)
        && decide (100000 ≤ heldUs ∧ x.onAt + us heldUs ≤ s.now) then
      let s := s.put (Obj.loadCurrent c) (min mA 65535)
      if mA < s.get (Obj.openLoadOnCurrent c) then diagRise c 13 0 s else s
    else s

/-- The off-state check may read: OFF_CHECK is set and the cell has been off for 10 ms and `heldUs`, outside a test
window (R134). -/
def State.offCheck (s : State) (c heldUs : Nat) : Bool :=
  let x := s.chan c
  s.bit (Obj.openLoadCheck c) 0 && !x.on && x.window.isNone && isOutput (s.mode c)
    && decide (x.offAt + ms 10 + us heldUs ≤ s.now)

/-- OFF_STATE_CHECK (R134): the output, in mV, has been in one band for `heldUs`. -/
def execOffStateCheck (c : Fin 256) (mv heldUs : Nat) (s : State) : Host.Outcome State Fault Refusal :=
  s.answer <|
    let c := s.leadOf c
    if !s.offCheck c heldUs || decide (heldUs < 50000) || decide (mv < 2000) then s
    else if mv < 8000 then diagRise c 13 0 s
    else diagRise c 14 0 s

/-- OFF_CHECK_CLEAR (R134): the on-check (a current in mA) or the off-check (a voltage in mV) has passed for
`heldUs`. -/
def execOffCheckClear (c : Fin 256) (onCheck : Bool) (value heldUs : Nat) (s : State) :
    Host.Outcome State Fault Refusal :=
  s.answer <|
    let c := s.leadOf c
    let passed :=
      if onCheck then s.bit (Obj.openLoadCheck c) 1 && (s.chan c).on && isOutput (s.mode c)
        && decide (s.get (Obj.openLoadOnCurrent c) ≤ value)
      else s.offCheck c heldUs && decide (value < 2000)
    if passed && decide (100000 ≤ heldUs) then diagFall c 14 (diagFall c 13 s) else s

/-- The duty code of R135, and whether it saturates. -/
def effDuty (n vfldMv : Nat) : Nat × Bool :=
  if vfldMv = 0 then (if n = 0 then (0, false) else (1023, true))
  else
    let d := 255 * vfldMv * vfldMv
    let eff := (2 * 1023 * n * 24000 * 24000 + d) / (2 * d)
    if 1023 < eff then (1023, true) else (eff, false)

/-- PWM_COMPENSATION (R135): the mean of VFLDk over 1 ms, in mV; the duty of every OUT_PWM channel of the die is
recomputed. -/
def execPwmCompensation (k : Fin 4) (vfldMv : Nat) (s : State) : Host.Outcome State Fault Refusal :=
  s.answer <|
    if !s.variant.hasDie k.val then s
    else
      let s := s.put (Obj.vfldVoltage k) (min vfldMv 65535)
      each (s.chansOf k) (fun c s =>
        match s.mode c with
        | 7 =>
          let (e, sat) := effDuty (s.baseDemand c) vfldMv
          (s.put (Obj.effectiveDuty c) e).setBit (Obj.outputFlags c) 5 sat
        | 3 => resample c s
        | _ => s) s

/-- DIRECT_PIN_CHANGE (R136): a DIRECT ball changes; it is the base demand of the OUT_DIRECT cells that name it. -/
def execDirectPinChange (n : Fin 16) (level : Bool) (s : State) : Host.Outcome State Fault Refusal :=
  s.answer <|
    let cs := (List.range 256).filter fun c =>
      s.variant.hasChan c && s.mode c == 8 && (s.regs c).pin != 0xFF && (s.regs c).pin % 16 == n.val
    let olds := cs.map fun c => (c, s.baseDemand c)
    let s := { s with direct := s.direct.set n.val level }
    each olds (fun p s => applyCell p.1 (demandMoved p.1 p.2 s)) s

/-- A flash after its half-period. -/
def Flash.toggle (now : Nat) (f : Flash) : Flash :=
  if f.next ≤ now then { f with on := !f.on, next := f.next + f.half } else f

/-- FLASH_TOGGLE (R124, R137): the half-period of a flashing output elapses. -/
def execFlashToggle (c : Fin 256) (s : State) : Host.Outcome State Fault Refusal :=
  s.answerLive <| withDemand c fun s => s.onChan c fun x =>
    { x with flash := x.flash.map (Flash.toggle s.now), oflash := x.oflash.map (Flash.toggle s.now) }

/-! What writes of these objects do. -/

/-- Status of an OutputDemand write on channel `c`, 0 where it is accepted (R123). -/
def demandRefusal (c : Nat) (s : State) : Nat :=
  if s.get (Obj.outputSource c) == 0 || s.isUnlock c || s.mode c == 8 then 0x0334 else 0

/-- OutputReset: the latches whose conditions allow it clear; 16#0335 where one stays (R131). -/
def outputReset (c : Nat) (s : State) : Nat × State :=
  let s := applyCell c (clearLatches c true s)
  let stays := s.bit (Obj.diagStatus c) 9 || s.bit (Obj.diagStatus c) 10 || s.bit (Obj.diagStatus c) 11
    || s.bit (Obj.diagStatus c) 12
  (if stays then 0x0335 else 0, s)

/-- Channel `c` is claimed by the lattice (R43): by the active image from the end of INIT, by a pending one. -/
def State.claimed (s : State) (c : Nat) : Bool :=
  (s.get Obj.latticeState != 0 && s.recd.activeImage.claims.contains c)
    || ((s.recd.pendingImage.map fun i => i.claims.contains c).getD false)

/-- Channels that a gang of mode `m` on lead `c` would join. -/
def followersOf (c m : Nat) : List Nat :=
  match gangSize m with
  | 2 => [c + 1]
  | 4 => [c + 1, c + 2, c + 3]
  | _ => []

/-- Present followers of lead `c`. -/
def State.gangFollowers (s : State) (c : Nat) : List Nat :=
  (followersOf c (s.get (Obj.channelMode c))).filter fun f => (s.chan f).lead == some c

/-- Channel `c` follows the lead of a gang that stands (R126). -/
def State.follows (s : State) (c : Nat) : Bool :=
  ((s.chan c).lead.map fun l => (followersOf l (s.get (Obj.channelMode l))).contains c).getD false

/-- Status of a write of mode `m` to channel `c`, 0 where it is accepted (R43, R116, R126, R142): `was` is the state
before the write, `t` the one that the objects would have after it. -/
def modeRefusal (c m : Nat) (was t : State) : Nat :=
  let old := was.get (Obj.channelMode c)
  if old ≠ m ∧ was.claimed c then 0x0310
  else if old ≠ m ∧ t.testHold c then 0x0332
  else if t.follows c then 0x0333
  else if m = 5 ∨ m = 6 then
    let free (f : Nat) : Bool :=
      t.variant.hasChan f && !t.claimed f && t.ownerOfChan f == t.ownerOfChan c
        && (t.get (Obj.channelMode f) == 0 || (t.chan f).lead == some c)
    if c % gangSize m = 0 ∧ (followersOf c m).all free then 0 else 0x0333
  else 0

/-- An accepted mode of channel `c` takes effect: a gang is released or joined (R120, R126, R142). -/
def applyMode (c m : Nat) (s : State) : State :=
  let old := s.gangFollowers c
  let same := s.get (Obj.channelMode c) == m
  if same && !isOutput m then s else
  let s := if same then s
    else each old (fun f s =>
      configureCell f ((s.put (Obj.channelMode f) 0).onChan f fun x => { x with lead := none })) s
  let s := s.put (Obj.channelMode c) m
  let s := configureCell c s
  let s := (s.put (Obj.effectiveDuty c) 0).put (Obj.outputFlags c) 0
  each (followersOf c m) (fun f s =>
    configureCell f ((s.put (Obj.channelMode f) m).onChan f fun x => { x with lead := some c })) s

/-- Status of a write of TestSource `v` on channel `c` (R116): another die, another mode, outside the function. -/
def testSourceRefusal (c v : Nat) (s : State) : Nat :=
  if v = 0xFFFF then 0
  else if v / 64 ≠ c / 64 ∨ s.get (Obj.channelMode v) ≠ 4 ∨ s.ownerOfChan v ≠ s.ownerOfChan c then 0x0332
  else 0

end Sys2Proof.Machine
end

