-- ==== Sys2Proof/Machine/Lattice.lean ====
section
/-!
DEFINITION. Machine/Lattice.lean: the interlock lattice and the door loop (02_interlock_lattice.md): filtered inputs,
terms, permits, gates, coils, readbacks, test pulses, the monitor, INIT and HELD.
Readings and choices in the log: DEDUCED 22, 23, 24, 83.
-/
namespace Sys2Proof.Machine
open Sys2Proof

/-! Inputs. -/

/-- The lattice is in RUN (R38). -/
def State.latRun (s : State) : Bool := s.get Obj.latticeState == 1

/-- Good lattice frames arrive from die `k`, and it is not in under-voltage (R25). -/
def State.latLink (s : State) (k : Nat) : Bool :=
  s.variant.hasDie k && (s.die k).lattUp && !(s.die k).down && !(s.die k).lost

/-- FD0 carries the coils and readbacks (R376, R377). -/
def State.fd0Ok (s : State) : Bool := s.latLink 0 && (s.die 0).funcUp

def State.contact (s : State) (c : Nat) : Contact := s.lat.contacts.getD c Contact.reset
def State.onContact (c : Nat) (f : Contact → Contact) (s : State) : State :=
  s.onLat fun l => { l with contacts := l.contacts.modify c f }

/-- The lattice image in force. -/
def State.image (s : State) : LatImage := s.recd.activeImage

/-- The pair is equivalent (train lines); the others are antivalent (R24). -/
def isTrain : LatInput → Bool
  | .train _ => true
  | _ => false

/-- A lattice input is asserted: filtered states of both contacts, whose dies are in contact (R24, R25). -/
def State.asserted (s : State) (i : LatInput) : Bool :=
  match s.image.contacts i with
  | none => false
  | some (a, b) =>
    s.latLink (a / 64) && s.latLink (b / 64) && (s.contact a).filtered
      && ((s.contact b).filtered == isTrain i)

/-- Position of an input's watch. -/
def pairIndex : LatInput → Nat
  | .closed l => l.val
  | .locked l => 24 + l.val
  | .iso l => 48 + l.val
  | .handle d => 72 + d.val
  | .train t => 84 + t.val

/-- Every lattice input. -/
def latInputs : List LatInput :=
  (List.finRange 24).map .closed ++ (List.finRange 24).map .locked ++ (List.finRange 24).map .iso
    ++ (List.finRange 12).map .handle ++ (List.finRange 3).map .train

def State.pair (s : State) (i : LatInput) : PairWatch := s.lat.pairs.getD (pairIndex i) PairWatch.reset

/-- Leaf `l` has no input fault. -/
def State.leafSound (s : State) (l : Nat) : Bool := !s.bit Obj.leafInputFault l

/-! Terms (R27 to R29). -/

/-- Leaf `l` counts as closed-and-locked (R27). -/
def State.closedLocked (s : State) (l : Fin 24) : Bool :=
  (s.image.leaf l).enabled && s.leafSound l
    && ((s.asserted (.closed l) && s.asserted (.locked l))
      || ((s.image.leaf l).iso && s.asserted (.iso l) && s.asserted (.closed l)))

/-- Doorway `d`'s handle is asserted and has no input fault. -/
def State.handleOn (s : State) (d : Fin 12) : Bool :=
  s.asserted (.handle d) && !s.bit Obj.doorwayInputFault d

/-- A handle opens the loop: asserted or in input fault, with HANDLE_OPENS_LOOP (R27). -/
def State.handleOpens (s : State) (d : Fin 12) : Bool :=
  let e := s.image.door d
  e.enabled && e.handle && e.opensLoop && (s.asserted (.handle d) || s.bit Obj.doorwayInputFault d)

/-- LOOP_TERM (R27); false while FD0 is lost (R377). -/
def State.loopTerm (s : State) : Bool :=
  s.latRun && s.fd0Ok
    && (List.finRange 24).all (fun l => !(s.image.leaf l).enabled || s.closedLocked l)
    && (List.finRange 12).all (fun d => !s.handleOpens d)

/-- A train input counts as asserted: filtered, without input fault (R28). -/
def State.trainOn (s : State) (t : Fin 3) : Bool := s.asserted (.train t) && !s.bit Obj.trainInputFault t

/-- Permit of a side (R28): right where `right`. -/
def State.sidePermit (s : State) (right : Bool) : Bool :=
  s.latRun && s.trainOn 0 && s.trainOn (if right then 2 else 1)

/-- Doorway permit (R28); 0 where the entry is not enabled (R41). -/
def State.doorPermit (s : State) (d : Fin 12) : Bool :=
  let e := s.image.door d
  e.enabled && (s.sidePermit e.right || (s.latRun && s.trainOn 0 && s.handleOn d))

/-- Unlock gate of leaf `l` (R29). -/
def State.gateTerm (s : State) (l : Fin 24) : Bool :=
  let e := s.image.leaf l
  e.enabled && s.latRun && s.doorPermit ⟨l.val / 2, by omega⟩ && !s.asserted (.iso l)

/-- PermitStatus as the terms stand. -/
def State.permitWord (s : State) : Nat :=
  ofBits ((List.finRange 12).map s.doorPermit) + 2 ^ 21 * bitVal (s.trainOn 0) + 2 ^ 22 * bitVal (s.trainOn 1)
    + 2 ^ 23 * bitVal (s.trainOn 2) + 2 ^ 24 * bitVal (s.sidePermit false) + 2 ^ 25 * bitVal (s.sidePermit true)

/-- Permits and unlock gates are published (R26). -/
def publish (s : State) : State :=
  (s.put Obj.permitStatus s.permitWord).onLat fun l => { l with gates := (List.finRange 24).map s.gateTerm }

/-! The loop. -/

def State.coil (s : State) (i : Nat) : Coil := s.lat.coils.getD i Coil.reset
def State.onCoil (i : Nat) (f : Coil → Coil) (s : State) : State :=
  s.onLat fun l => { l with coils := l.coils.modify i f }
def State.rb (s : State) (i : Nat) : Option Bool := (s.lat.rb.getD i Readback.reset).filtered

/-- LOOP_CLOSED: both readbacks show the state of the closed loop (R32, R33). -/
def State.loopClosed (s : State) : Bool :=
  s.rb 0 == some true && s.rb 1 == some (!s.variant.isP)

/-- Level at a loop coil ball: the coil is energised, outside a test pulse, and the lattice is in RUN (R35, R38). -/
def State.coilPin (s : State) (i : Nat) : Bool :=
  s.latRun && s.fd0Ok && (s.coil i).on && !(s.coil i).pulse

/-- A coil goes off; coil 1 carries the closed loop in both polarities (R32), so the open time starts with it. -/
def coilOff (i : Nat) (s : State) : State :=
  let was := (s.coil i).on
  let s := s.onCoil i fun c => { c with on := false, want := false, offAt := if c.on then s.now else c.offAt }
  if was && i == 0 then s.onLat fun l => { l with loopOpenAt := s.now } else s

/-- The terms demand coil `i` (R31, R32): LOOP_TERM, for COIL_2 of the P polarity its opposite; never outside RUN, while
FD0 is lost, or from D3 on. -/
def State.demands (s : State) (i : Nat) : Bool :=
  s.latRun && s.fd0Ok && s.driven && (if i = 1 ∧ s.variant.isP then !s.loopTerm else s.loopTerm)

/-- A demanded coil is energised once its relay shows released (R33). -/
def energise (i : Nat) (s : State) : State :=
  let c := s.coil i
  if s.demands i && c.want && !c.on && s.rb i == some false then
    let p := ms s.image.pulsePeriod
    s.onCoil i fun c => { c with on := true, onAt := s.now, pulseDue := s.now + p + (if i = 1 then p / 2 else 0) }
  else s

/-- A term demands a coil or does not. -/
def demandCoil (i : Nat) (w : Bool) (s : State) : State :=
  if w then energise i (s.onCoil i fun c => { c with want := true }) else coilOff i s

/-- The coils follow their terms (R31, R32). -/
def evalLoop (s : State) : State :=
  demandCoil 1 (s.demands 1) (demandCoil 0 (s.demands 0) s)

/-- LOOP_CLOSED is evaluated; a confirmation after the loop was open counts (R22). -/
def confirmLoop (s : State) : State :=
  let c := s.loopClosed
  let rise := c && !s.lat.closed
  let s := s.onLat fun l => { l with closed := c }
  if rise then
    let t := (s.now - s.lat.loopOpenAt) / ms 1
    histoCount 100 t ((s.inc Obj.loopCloseCount).put Obj.lastLoopOpenTime t)
  else s

/-- What the lattice shows of its terms, whose change leaves DOZE (R308). -/
def State.latticeView (s : State) : Bool × Bool × Nat := (s.loopTerm, s.lat.closed, s.get Obj.permitStatus)

/-- A change in the lattice, with the exit from DOZE. -/
def latticeMoves (f : State → State) (s : State) : State :=
  let t := f s
  if t.latticeView == s.latticeView then t else dozeExit t

/-- The lattice enters HELD, with the causes as a mask of HeldCause: both coils off, permits and gates down; the
entry writes its record (R38, R151). -/
def enterHeld (causes : Nat) : State → State := latticeMoves fun s =>
  let first := s.get Obj.latticeState != 2
  let s := s.put Obj.heldCause (s.get Obj.heldCause ||| causes)
  let s := s.put Obj.latticeState 2
  let s := publish (evalLoop s)
  if first then latticeFault Obj.heldCause 0x09 (s.get Obj.heldCause) s else s

/-! Contacts. -/

/-- Filter time of a contact in µs (R26). -/
def filterOf (i : LatImage) (c : Nat) : Nat :=
  if i.train.contains c then i.trainFilter
  else if (i.doors.flatMap LatDoor.inputs).contains c then i.handleFilter
  else i.leafFilter

/-- A pair's two filtered states contradict each other (R30). -/
def State.pairBad (s : State) (i : LatInput) (a b : Nat) : Bool :=
  ((s.contact a).filtered == (s.contact b).filtered) != isTrain i

/-- The watches of every pair follow the filtered states; a pair without contact to its dies is not judged. -/
def watchPairs (s : State) : State :=
  s.onLat fun l =>
    { l with pairs := latInputs.map fun i =>
        let w := s.pair i
        match s.image.contacts i with
        | none => { w with badSince := none, goodSince := none }
        | some (a, b) =>
          if s.latLink (a / 64) && s.latLink (b / 64) && (s.contact a).primed && (s.contact b).primed then
            let bad := s.pairBad i a b
            { w with badSince := if bad then some (w.badSince.getD s.now) else none
                     goodSince := if bad then none else some (w.goodSince.getD s.now) }
          else { w with badSince := none, goodSince := none } }

/-- Contacts of the image in force. -/
def State.latContacts (s : State) : List Nat := s.image.inputs

/-- The content of a good frame reaches the contacts of a die. -/
def takeFrame (k : Nat) (fresh : Bool) (s : State) : State :=
  each (s.latContacts.filter fun c => c / 64 == k && decide (c < 256)) (fun c s =>
    let r := s.lattRaw c
    s.onContact c fun x => if x.seen == r && !fresh then x else { x with seen := r, since := s.now }) s

/-- LATTICE_FRAME (R25, R26): a good frame from a die; permits and gates are published. -/
def execLatticeFrame (k : Fin 4) (crcOk : Bool) (s : State) : Host.Outcome State Fault Refusal :=
  s.answerLive fun s =>
    if !crcOk || !s.variant.hasDie k.val || (s.die k).reversed then s
    else
      latticeMoves (fun s =>
        let fresh := !(s.die k).lattUp
        let s := s.onDie k fun d => { d with lattAt := s.now, lattUp := true }
        let s := if s.lat.started then takeFrame k fresh s else s
        let s := if fresh then watchPairs s else s
        publish (evalLoop s)) s

/-- LATTICE_FILTER_EXPIRY (R26): a contact has shown its new state for its filter time. -/
def execLatticeFilterExpiry (c : Fin 256) (s : State) : Host.Outcome State Fault Refusal :=
  s.answerLive fun s =>
    let x := s.contact c
    if s.lat.started && (s.die (c / 64)).lattUp && s.latContacts.contains c.val && (x.seen != x.filtered || !x.primed)
        && decide (x.since + us (filterOf s.image c) ≤ s.now) then
      latticeMoves (fun s =>
        let s := s.onContact c fun x => { x with filtered := x.seen, primed := true }
        evalLoop (watchPairs s)) s
    else s

/-- CHANNEL_DISAGREE (R23): LA and LB have differed in a term for `cycles` SCLK cycles. -/
def execChannelDisagree (cycles : Nat) (s : State) : Host.Outcome State Fault Refusal :=
  s.answerLive fun s => if 2 ≤ cycles then enterHeld (2 ^ 2) s else s

/-! Input faults (R30). -/

/-- The fault register of an input and its bit. -/
def faultPlace : LatInput → Nat × Nat
  | .closed l => (Obj.leafInputFault, l.val)
  | .locked l => (Obj.leafInputFault, l.val)
  | .iso l => (Obj.leafInputFault, l.val)
  | .handle d => (Obj.doorwayInputFault, d.val)
  | .train t => (Obj.trainInputFault, t.val)

/-- Any pair that shares the input's fault bit is in fault. -/
def State.faultShared (s : State) (i : LatInput) : Bool :=
  match i with
  | .closed l => (s.pair (.closed l)).fault || (s.pair (.locked l)).fault || (s.pair (.iso l)).fault
  | .locked l => (s.pair (.closed l)).fault || (s.pair (.locked l)).fault || (s.pair (.iso l)).fault
  | .iso l => (s.pair (.closed l)).fault || (s.pair (.locked l)).fault || (s.pair (.iso l)).fault
  | i => (s.pair i).fault

def State.onPair (i : LatInput) (f : PairWatch → PairWatch) (s : State) : State :=
  s.onLat fun l => { l with pairs := l.pairs.modify (pairIndex i) f }

/-- The fault of an input keeps the loop open (R27). -/
def State.faultOpensLoop (s : State) (i : LatInput) : Bool :=
  match i with
  | .closed l => (s.image.leaf l).enabled
  | .locked l => (s.image.leaf l).enabled
  | .iso l => (s.image.leaf l).enabled
  | .handle d => (s.image.door d).enabled && (s.image.door d).handle && (s.image.door d).opensLoop
  | .train _ => false

/-- DISCREPANCY_TIMEOUT (R30): an inconsistent pair has outlasted DiscrepancyTime. -/
def execDiscrepancyTimeout (i : LatInput) (s : State) : Host.Outcome State Fault Refusal :=
  s.answerLive fun s =>
    let w := s.pair i
    if heldFor s.now (ms s.image.discrepancy) w.badSince && !w.fault then
      latticeMoves (fun s =>
        let (k, b) := faultPlace i
        let s := s.onPair i fun w => { w with fault := true }
        let s := (s.setBit k b true).inc Obj.latticeFaultCount
        let s := evalLoop s
        latticeFault k (bitVal (s.faultOpensLoop i)) (s.get k) s) s
    else s

/-- INPUT_FAULT_CLEAR (R30): the pair has been consistent for 1.0 s; the clearing is recorded. -/
def execInputFaultClear (i : LatInput) (s : State) : Host.Outcome State Fault Refusal :=
  s.answerLive fun s =>
    let w := s.pair i
    if heldFor s.now (sec 1) w.goodSince && w.fault then
      latticeMoves (fun s =>
        let (k, b) := faultPlace i
        let s := s.onPair i fun w => { w with fault := false }
        let s := s.setBit k b (s.faultShared i)
        let cls := if k = Obj.leafInputFault then 0 else if k = Obj.doorwayInputFault then 1 else 2
        let s := admitEvent 1 0x14 srcDevice
          ([byte cls, byte b, 0, 0] ++ toLe 4 (s.get Obj.latticeFaultCount)) s
        evalLoop s) s
    else s

/-! Readbacks, pulses and the monitor. -/

/-- One sample of a readback, filtered for 1 ms (R33). -/
def Readback.sample (r : Readback) (now : Nat) (v : Bool) : Readback :=
  let r := if r.seen == v && r.since != 0 then r else { r with seen := v, since := now }
  if r.since + ms 1 ≤ now then { r with filtered := some v } else r

/-- READBACK_SAMPLE (R22, R33): what the two auxiliary contacts show, true for pulled-in. -/
def execReadbackSample (rb1 rb2 : Bool) (s : State) : Host.Outcome State Fault Refusal :=
  s.answerServed fun s =>
    latticeMoves (fun s =>
      let s := s.onLat fun l =>
        { l with rb := if s.latLink 0 then
            [(l.rb.getD 0 Readback.reset).sample s.now rb1, (l.rb.getD 1 Readback.reset).sample s.now rb2]
          else [Readback.reset, Readback.reset] }
      confirmLoop (energise 1 (energise 0 s))) s

/-- The readback of a coil is not evaluated during its test pulse and for 2 ms after it (R35). -/
def State.rbJudged (s : State) (i : Nat) : Bool :=
  let c := s.coil i
  !c.pulse && decide (c.pulseAt + us s.image.pulseWidth + ms 2 ≤ s.now)

/-- RB_NO_PULL (R34): an energised relay has not shown pulled-in within ReadbackTimeout. -/
def execRbNoPull (coil : Fin 2) (s : State) : Host.Outcome State Fault Refusal :=
  s.answerLive fun s =>
    let c := s.coil coil
    if c.on && s.fd0Ok && s.rb coil == some false && s.rbJudged coil
        && decide (c.onAt + ms s.image.readback ≤ s.now) then enterHeld (2 ^ 5) s
    else s

/-- RB_STUCK_PULLED (R34): a relay still shows pulled-in 20 ms after its coil went off. -/
def execRbStuckPulled (coil : Fin 2) (s : State) : Host.Outcome State Fault Refusal :=
  s.answerLive fun s =>
    let c := s.coil coil
    if !c.on && s.fd0Ok && s.rb coil == some true && decide (c.offAt + ms 20 ≤ s.now) then enterHeld (2 ^ 6) s
    else s

/-- TEST_PULSE_START (R35): an energised coil is switched off; never both together, COIL_2 half a period after
COIL_1. -/
def execTestPulseStart (coil : Fin 2) (s : State) : Host.Outcome State Fault Refusal :=
  s.answerLive fun s =>
    let c := s.coil coil
    if c.on && !c.pulse && !(s.coil (1 - coil.val)).pulse && decide (c.pulseDue ≤ s.now) then
      let p := ms s.image.pulsePeriod
      let s := s.onCoil coil fun c => { c with pulse := true, pulseAt := s.now, pulseDue := s.now + p }
      if coil = 0 then s.onCoil 1 fun c => { c with pulseDue := s.now + p / 2 } else s
    else s

/-- TEST_PULSE_END (R35): after TestPulseWidth the coil is driven again, if it is still wanted. -/
def execTestPulseEnd (coil : Fin 2) (s : State) : Host.Outcome State Fault Refusal :=
  s.answerLive fun s =>
    let c := s.coil coil
    if c.pulse && decide (c.pulseAt + us s.image.pulseWidth ≤ s.now) then
      s.onCoil coil fun c => { c with pulse := false }
    else s

/-- PULSE_FAULT (R35): 100 µs into a pulse the driver's output is not below its off level. -/
def execPulseFault (coil : Fin 2) (s : State) : Host.Outcome State Fault Refusal :=
  s.answerLive fun s =>
    let c := s.coil coil
    if c.pulse && decide (c.pulseAt + us 100 ≤ s.now) then enterHeld (2 ^ 7) s else s

/-- COIL_DRIVE (R35): the coil-current sense finds a short or an over-current. -/
def execCoilDrive (coil : Fin 2) (s : State) : Host.Outcome State Fault Refusal :=
  s.answerLive fun s => match coil with
    | _ => enterHeld (2 ^ 8) s

/-- MONITOR_WINDOW (R37): SCLK cycles counted over one monitor window. -/
def execMonitorWindow (count : Nat) (s : State) : Host.Outcome State Fault Refusal :=
  s.answerLive fun s =>
    let good := decide (1280 ≤ count ∧ count ≤ 1920)
    let s := s.onLat fun l =>
      { l with badWindows := if good then 0 else l.badWindows + 1
               goodWindows := if good then l.goodWindows + 1 else 0 }
    if 2 ≤ s.lat.badWindows then enterHeld (2 ^ 3) s else s

/-- MONITOR_COUNT (R37): monitor edges counted over 1600 SCLK cycles. -/
def execMonitorCount (count : Nat) (s : State) : Host.Outcome State Fault Refusal :=
  s.answerLive fun s =>
    let good := decide (205 ≤ count ∧ count ≤ 307)
    let s := s.onLat fun l =>
      { l with badCounts := if good then 0 else l.badCounts + 1
               goodCounts := if good then l.goodCounts + 1 else 0 }
    if 2 ≤ s.lat.badCounts then enterHeld (2 ^ 4) s else s

/-! INIT. -/

/-- Every lattice input of the image in force has completed its filter once (R38). -/
def State.latPrimed (s : State) : Bool := s.latContacts.all fun c => (s.contact c).primed

/-- Steps 2 to 5 of INIT may end: every input has completed its filter once, or has not done so 80 ms after they were to
begin. -/
def State.initRipe (s : State) : Bool :=
  match s.lat.initAt with
  | none => false
  | some t => s.latPrimed || decide (t + ms 80 ≤ s.now)

/-- LATTICE_INIT_END (R38): the checks of INIT end; `vectorsOk` is the result of the test vectors. While an off request
is pending the lattice stays in INIT (R316). -/
def execLatticeInitEnd (vectorsOk : Bool) (s : State) : Host.Outcome State Fault Refusal :=
  s.answerLive fun s =>
    if s.get Obj.latticeState != 0 || !s.lat.started || !s.initRipe || decide (s.lat.goodWindows < 2)
        || (s.rb 0).isNone || (s.rb 1).isNone || s.pow.off.isSome then s
    else
      let causes := bitVal (!s.salt.imageOk) + 2 * bitVal (!vectorsOk)
        + 64 * bitVal (s.rb 0 == some true || s.rb 1 == some true)
      if causes = 0 then latticeMoves (fun s => publish (evalLoop (s.put Obj.latticeState 1))) s
      else enterHeld causes s

/-- INIT begins to filter its inputs, after step 1 (R38, R349). -/
def startFilters (s : State) : State :=
  s.onLat fun l =>
    { l with started := true, contacts := List.replicate 256 { Contact.reset with since := s.now }
             pairs := l.pairs.map fun w => { w with badSince := none, goodSince := none }
             goodWindows := 0, badWindows := 0 }

end Sys2Proof.Machine
end

