-- ==== Sys2Proof/Machine/Drive.lean ====
section
/-!
DEFINITION. Machine/Drive.lean: the axis units as drives (04_drives_obstacles.md): profiles, motion, the trajectory and the
speed loop, axis faults, datum and UNREFERENCED, envelopes and their learning.
Readings and choices in the log: DESIGN CHOICE 140; DEDUCED 7, 16, 17, 18, 52, 85.
-/
namespace Sys2Proof.Machine
open Sys2Proof

/-! Status bits of AxisStatus that the store holds; EN_OUT and DIR_OUT are the levels of the unit's pins. -/

abbrev stAtTarget : Nat := 0
abbrev stMoving : Nat := 1
abbrev stObstacle : Nat := 2
abbrev stInNip : Nat := 3
abbrev stRefused : Nat := 4
abbrev stUnref : Nat := 5
abbrev stFault : Nat := 6
abbrev stOvertime : Nat := 7
abbrev stHolding : Nat := 10

/-- Bit `b` of AxisStatus of axis `a`. -/
def State.st (s : State) (a b : Nat) : Bool := s.bit (Obj.axisStatus a) b
def setSt (a b : Nat) (v : Bool) (s : State) : State := s.setBit (Obj.axisStatus a) b v
def State.unref (s : State) (a : Nat) : Bool := s.st a stUnref

/-- AxisStatus as it reads. -/
def State.axisStatusView (s : State) (a : Nat) : Nat :=
  setBitOf (setBitOf (s.get (Obj.axisStatus a)) 8 (s.axis a).en) 9 (s.axis a).dir

/-- Position and Speed of an axis. -/
def State.pos (s : State) (a : Nat) : Int := s.geti (Obj.position a)
def State.spd (s : State) (a : Nat) : Int := s.geti (Obj.speed a)
/-- Trajectory speed. -/
def State.vref (s : State) (a : Nat) : Int := s.geti (Obj.speedRef a)
/-- Magnitude of CurrentMean in mA. -/
def State.mag (s : State) (a : Nat) : Nat := (s.geti (Obj.currentMean a)).natAbs

/-! Profiles (R69). -/

structure Profile where
  strokeTime : Nat
  ramp : Nat
  creepPct : Nat
  creepZone : Nat
  dutyLimit : Nat
  overtime : Nat
  deriving DecidableEq, Repr

/-- The profile that 12 bytes spell. -/
def Profile.of (v : Nat) : Profile :=
  ⟨u16At v 0, u16At v 2, u8At v 4, u8At v 5, u16At v 6, u16At v 8⟩

/-- Every field is in range and RampTime is less than StrokeTime. -/
def Profile.ok (p : Profile) : Bool :=
  decide (500 ≤ p.strokeTime ∧ p.strokeTime ≤ 60000) && decide (p.ramp ≤ 5000)
    && decide (5 ≤ p.creepPct ∧ p.creepPct ≤ 50) && decide (p.creepZone ≤ 200)
    && decide (410 ≤ p.dutyLimit ∧ p.dutyLimit ≤ 4095) && decide (p.overtime ≤ 60000)
    && decide (p.ramp < p.strokeTime)

/-- The active profile of an axis. -/
def State.prof (s : State) (a : Nat) : Profile :=
  Profile.of (s.get (Obj.profile0 a + s.get (Obj.activeProfile a)))
def State.stroke (s : State) (a : Nat) : Nat := s.get (Obj.strokeCounts a)
/-- Cruise speed in counts per second (R69). -/
def State.cruise (s : State) (a : Nat) : Nat :=
  s.stroke a * 1000 / ((s.prof a).strokeTime - (s.prof a).ramp)
/-- Creep speed in counts per second. -/
def State.creep (s : State) (a : Nat) : Nat := s.cruise a * (s.prof a).creepPct / 100

/-- MoveTarget of an axis: 0 CLOSED_END, 1 OPEN_END, 2 STOP, 3 BRAKE, 4 RELEASE. -/
def State.target (s : State) (a : Nat) : Nat := s.get (Obj.moveTarget a)
/-- A motion to an end is in progress: it has neither reached AT_TARGET nor been stopped by a trip or a fault. -/
def State.toEnd (s : State) (a : Nat) : Bool :=
  decide (s.target a ≤ 1) && !s.st a stAtTarget && !s.st a stObstacle && !s.st a stFault
    && !s.st a stRefused && (s.axis a).reaction == .none

/-! Envelopes (R78, R84, R85). -/

/-- The 64 entries of an OCT[128] object. -/
def envBins (v : Nat) : List Nat := (List.range 64).map fun b => u16At v (2 * b)
/-- The bin of a position (R78). -/
def binOf (stroke : Nat) (pos : Int) : Nat :=
  if stroke = 0 then 0 else (max 0 (min 63 (pos * 64 / (stroke : Int)))).toNat

/-- A seed holds an entry of 16#FFFF (R85). -/
def State.unseeded (s : State) (a : Nat) : Bool :=
  (envBins (s.get (Obj.seedOpen a))).contains 0xFFFF || (envBins (s.get (Obj.seedClose a))).contains 0xFFFF

def envKey (a : Nat) (opening : Bool) : Nat := if opening then Obj.envOpen a else Obj.envClose a
def seedKey (a : Nat) (opening : Bool) : Nat := if opening then Obj.seedOpen a else Obj.seedClose a

/-- An envelope takes a value and reaches the Saltpan at the next flush (R84). -/
def setEnv (a : Nat) (opening : Bool) (v : Nat) (s : State) : State :=
  (s.put (envKey a opening) v).onRec fun r => { r with envPending := true }

/-- Both envelopes take their seeds (R85). -/
def copySeeds (a : Nat) (s : State) : State :=
  setEnv a false (s.get (Obj.seedClose a)) (setEnv a true (s.get (Obj.seedOpen a)) s)

/-- One bin after a learned stroke, and whether the seed ceiling limited it (R84). -/
def learnBin (old seed : Nat) (m : Nat) : Nat × Bool :=
  let n := ((old : Int) + ((m : Int) - old) / 4).toNat
  let n := min n (old * 102 / 100)
  let n := max n (old * 90 / 100)
  let cap := seed * 125 / 100
  (max (min n cap) (seed * 50 / 100), decide (cap < n))

/-- The envelope of a direction after a learned stroke. -/
def learnEnv (a : Nat) (opening : Bool) (s : State) : State :=
  let olds := envBins (s.get (envKey a opening))
  let seeds := envBins (s.get (seedKey a opening))
  let sums := (s.axis a).sums
  let rs := (List.range 64).map fun b =>
    let x := sums.getD b ⟨0, 0⟩
    let o := olds.getD b 0
    if x.count = 0 then (o, false) else learnBin o (seeds.getD b 0) (x.sum / x.count)
  let s := setEnv a opening (pack16 (rs.map (·.1))) s
  let s := s.inc (Obj.learnCount a)
  if rs.any (·.2) then s.inc (Obj.learnCapCount a) else s

/-- The sums of a stroke added to those of a capture. -/
def addSums (xs ys : List BinSum) : List BinSum :=
  (xs.zip ys).map fun (x, y) => ⟨x.sum + y.sum, x.count + y.count⟩

/-- A captured direction becomes seed and envelope (R85). -/
def captureSeed (a : Nat) (opening : Bool) (sums : List BinSum) (s : State) : State :=
  let olds := envBins (s.get (seedKey a opening))
  let v := pack16 ((List.range 64).map fun b =>
    let x := sums.getD b ⟨0, 0⟩
    if x.count = 0 then olds.getD b 0 else min 60000 (max 50 (x.sum / x.count)))
  setEnv a opening v (s.put (seedKey a opening) v)

/-- A clean full stroke counts for a running capture; the fourth of each direction ends it (R85). -/
def captureStroke (a : Nat) (opening : Bool) (s : State) : State :=
  let x := s.axis a
  let c := x.capture
  if !c.active then s
  else
    let c := if opening then
        (if c.opens < 4 then { c with opens := c.opens + 1, openMeans := addSums c.openMeans x.sums } else c)
      else if c.closes < 4 then { c with closes := c.closes + 1, closeMeans := addSums c.closeMeans x.sums } else c
    if 4 ≤ c.opens ∧ 4 ≤ c.closes then
      let s := captureSeed a false c.closeMeans (captureSeed a true c.openMeans s)
      let s := s.put (Obj.envState a) 2
      s.onAxis a fun x => { x with capture := ⟨false, false, 0, 0, BinSum.zeros, BinSum.zeros⟩ }
    else s.onAxis a fun x => { x with capture := c }

/-- The stroke that waits is learned, unless it was vetoed (R83 to R85). -/
def learnPending (a : Nat) (s : State) : State :=
  let x := s.axis a
  match x.pendingLearn with
  | none => s
  | some opening =>
    let veto := x.verdict == some false
    let mode := s.get (Obj.learnMode a)
    let learned := s.get (Obj.envState a) == 2
      && ((mode == 2 && !veto) || (mode == 1 && x.verdict == some true))
    let s := if learned then (learnEnv a opening s).onAxis a fun x =>
        { x with cycle := x.cycle.map fun c => { c with learned := true } }
      else s
    let s := if veto then s else captureStroke a opening s
    s.onAxis a fun x => { x with pendingLearn := none }

/-! Drive pins. -/

/-- The drive keeps its duty at 0; no trajectory runs. -/
def Axis.halt (x : Axis) : Axis :=
  { x with running := false, cruising := false, guard := none, acc := 0, armed := false, tripArmed := false
           overSince := none, slowSince := none, endStopSince := none }

/-- Duty and trajectory speed at 0. -/
def zeroDrive (a : Nat) (s : State) : State :=
  setSt a stHolding false ((s.put (Obj.duty a) 0).put (Obj.speedRef a) 0)

/-- EN_a high, duty 0, at once (R68). -/
def brakeAxis (a : Nat) (s : State) : State :=
  zeroDrive a (s.onAxis a fun x => { x.halt with en := true, braked := true })

/-- EN_a low at once (R68). -/
def freeAxis (a : Nat) (s : State) : State :=
  zeroDrive a (s.onAxis a fun x => { x.halt with en := false, braked := false })

/-- MOVING follows the trajectory and the measured speed (R71). -/
def refreshMoving (a : Nat) (s : State) : State :=
  let m := s.vref a != 0 || decide ((s.cruise a : Int) < 100 * (s.spd a).natAbs)
  if s.st a stMoving == m then s
  else
    (setSt a stMoving m s).onAxis a fun x =>
      { x with cycle := x.cycle.map fun c => { c with movingAt := if m then some (c.movingAt.getD s.now) else c.movingAt } }

/-! Axis faults (R72, R73). -/

/-- Strength of a reaction: EN_a low stands over BRAKE. -/
def Reaction.join : Reaction → Reaction → Reaction
  | .enLow, _ => .enLow
  | _, .enLow => .enLow
  | .brake, _ => .brake
  | _, .brake => .brake
  | .noMotion, _ => .noMotion
  | _, r => r

/-- Reaction of a cause (table "Axis fault causes"). -/
def reactionOf (b : Nat) : Reaction :=
  match b with
  | 2 => .brake
  | 4 => .noMotion
  | _ => .enLow

/-- The drive takes its reaction. -/
def applyReaction (a : Nat) (s : State) : State :=
  match (s.axis a).reaction with
  | .enLow => freeAxis a s
  | .brake => brakeAxis a s
  | .noMotion => zeroDrive a (s.onAxis a Axis.halt)
  | .none => s

/-- A fault cause occurs: the reaction at once; a rise of FAULT is recorded and forces FaultState at the next tick
(R47, R72). -/
def raiseFault (a b : Nat) (s : State) : State :=
  let rise := !s.st a stFault
  let s := s.setBit (Obj.faultCause a) b true
  let s := s.onAxis a fun x =>
    { x with reaction := Reaction.join (if rise then .none else x.reaction) (reactionOf b), clean := false }
  let s := applyReaction a s
  if rise then
    let s := setSt a stFault true s
    let s := s.onInst (8 + a) fun q => { q with forced := q.forced || q.running }
    dozeExit (axisFaultRecord a 2 s)
  else s

/-! UNREFERENCED and the datum (R64, R101, R102). -/

/-- The axis becomes UNREFERENCED. -/
def unreference (a : Nat) (s : State) : State :=
  if s.unref a then s
  else
    let s := setSt a stUnref true s
    let s := s.onAxis a fun x =>
      { x with clean := false, unrefAt := some s.now
               cycle := x.cycle.map fun c => { c with unreferenced := true } }
    if s.target a = 0 ∧ s.toEnd a then setSt a stInNip true s else s

/-- Recorded edges moved with a jump of Position, so that Speed does not see it. -/
def shiftEdges (a : Nat) (d : Int) (s : State) : State :=
  s.onAxis a fun x => { x with edges := x.edges.map fun e => { e with pos := e.pos + d } }

/-- Compare entries look at their side again, without a pulse (R105). -/
def resideCompares (a : Nat) (s : State) : State :=
  let p := s.pos a
  let l := s.get (Obj.compareList a)
  s.onAxis a fun x =>
    { x with compares := x.compares.mapIdx fun i e =>
        if e.armed then { e with above := decide (signedOf 32 (u32At l (4 * i)) ≤ p) } else e }

/-- Position follows from the counts and the offset (R90). -/
def State.posOf (s : State) (a : Nat) : Int :=
  s.geti (Obj.revCount a) * s.get (Obj.countsPerRev a) + s.get (Obj.inRev a) - s.geti (Obj.positionOffset a)

/-- Position is published after a jump of the counts or of the offset. -/
def jumpPos (a : Nat) (s : State) : State :=
  let old := s.pos a
  let s := s.puti (Obj.position a) (s.posOf a)
  let d := s.pos a - old
  let s := shiftEdges a d s
  let s := s.onAxis a fun x => { x with dirBase := x.dirBase + d }
  resideCompares a s

/-- A datum (R101): Position becomes DatumCount, and the axis is referenced. -/
def takeDatum (a : Nat) (s : State) : State :=
  let raw := s.geti (Obj.revCount a) * s.get (Obj.countsPerRev a) + s.get (Obj.inRev a)
  let s := s.puti (Obj.positionOffset a) (raw - s.geti (Obj.datumCount a))
  let s := jumpPos a s
  let s := setSt a stUnref false s
  let s := (s.put (Obj.refSlipRun a) 0).put (Obj.offsetValid a) 1
  let s := s.put (Obj.feedbackStatus a)
    (setBitOf (setBitOf (setBitOf (s.get (Obj.feedbackStatus a)) 3 false) 6 false) 0 true)
  s.onAxis a fun x => { x with unrefAt := none, travel := 0 }

/-- A channel's filtered functional input reads on, in an input mode. -/
def State.inputOn (s : State) (c : Nat) : Bool := s.flag (Obj.inputState c) && isInput (s.get (Obj.channelMode c))

/-- The datum of case 1, before a StartLiteral is evaluated (R101). -/
def datumAtStart (a : Nat) (s : State) : State :=
  let c := s.get (Obj.datumChannel a)
  if s.unref a && !s.isSerial a && decide (c ≤ 255) && s.inputOn c then takeDatum a s else s

/-! Escrow (R303). -/

/-- S(a): the stroke energy of an axis in J. -/
def State.strokeEnergy (s : State) (a : Nat) : Nat :=
  s.get (if s.variant.isStep a then Obj.stepStrokeEnergy else Obj.leafStrokeEnergy)

/-- PathState ON_RESERVE. -/
def State.onReserve (s : State) : Bool := s.get Obj.pathState == 1

/-- Axes that run a non-mandatory motion begun on reserve. -/
def State.reserveMotions (s : State) : List Nat := s.sup.motions.filter s.toEnd

/-- The escrow refuses a motion of axis `a`. -/
def State.escrowRefuses (s : State) (a : Nat) : Bool :=
  s.variant.isT && s.get Obj.cellCount != 0 && s.onReserve
    && decide ((s.get Obj.energyAvailable : Int) - s.get Obj.energyEscrow
      < ((s.strokeEnergy a + ((s.reserveMotions.filter (· != a)).map s.strokeEnergy).sum : Nat) : Int))

/-! Motion (R68). -/

/-- NipCounts (R86). -/
def State.nipCounts (s : State) (a : Nat) : Nat :=
  let l := s.get (Obj.strokeLength a)
  if l = 0 then 0 else (2 * s.get (Obj.nipDistance a) * s.stroke a + l) / (2 * l)

/-- IN_NIP rises in a CLOSED_END motion at or below NipCounts, or while UNREFERENCED (R64, R86). -/
def checkNip (a : Nat) (s : State) : State :=
  if s.target a = 0 ∧ s.toEnd a ∧ !s.st a stInNip ∧ (s.unref a ∨ s.pos a ≤ (s.nipCounts a : Int)) then
    (setSt a stInNip true s).onAxis a fun x => { x with cycle := x.cycle.map fun c => { c with inNip := true } }
  else s

/-- The axis begins to slow down with the active profile's ramp, then holds (R68 STOP). -/
def holdAxis (a : Nat) (s : State) : State :=
  (setSt a stHolding (s.vref a == 0) s).onAxis a fun x =>
    { x with en := true, braked := false, running := false, cruising := false, armed := false, tripArmed := false
             overSince := none, slowSince := none, endStopSince := none }

/-- Motions begun on reserve, with axis `a` in or out. -/
def setReserveMotion (a : Nat) (b : Bool) (s : State) : State :=
  s.onSup fun p => { p with motions := if b then a :: p.motions.filter (· != a) else p.motions.filter (· != a) }

/-- The cycle of an axis notes the start of a stroke (R152). -/
def cycleMove (a : Nat) (opening : Bool) (s : State) : State :=
  s.onAxis a fun x => { x with cycle := x.cycle.map fun c =>
    if opening then { c with openMoveAt := s.now, openEndAt := none
                             holdMs := c.holdMs + ((c.openEndAt.map fun t => (s.now - t) / ms 1).getD 0) }
    else { c with closeMoveAt := s.now, openEndAt := none, closedAt := none
                  holdMs := c.holdMs + ((c.openEndAt.map fun t => (s.now - t) / ms 1).getD 0) } }

/-- A motion to an end starts (R68, R77, R83, R86). -/
def startMotion (a target : Nat) (mandatory : Bool) (s : State) : State :=
  let far : Int := if target = 0 then s.stroke a else 0
  let full := decide ((s.pos a - far).natAbs ≤ s.get (Obj.targetWindow a))
  let s := s.onAxis a fun x =>
    { x with en := true, braked := false, guard := x.guard, acc := 0, moveAt := s.now
             traj := 1000 * s.pos a, running := true, cruising := false
             unrefAt := if s.unref a then some s.now else none
             armed := false, tripArmed := target == 0, overSince := none, slowSince := none, endStopSince := none
             fullStroke := full, clean := !s.unref a, verdict := none, sums := BinSum.zeros
             capture := if x.capture.armed then { x.capture with armed := false, active := true } else x.capture }
  let s := cycleMove a (target == 1) s
  let s := setReserveMotion a (!mandatory && s.onReserve) s
  checkNip a s

/-- A MOVE to an end starts its motion, or is refused (R54, R68, R73). REFUSING of EscrowStatus shows the outcome of the
last one judged. -/
def moveToEnd (a target : Nat) (mandatory : Bool) (s : State) : State :=
  if s.stroke a = 0 ∨ s.get (Obj.strokeLength a) = 0 then raiseFault a 4 s
  else if !mandatory && s.escrowRefuses a then
    let s := ((setSt a stRefused true s).inc Obj.refusedMoves).setBit Obj.escrowStatus 2 true
    let s := s.onAxis a fun x => { x with cycle := x.cycle.map fun c => { c with refused := true } }
    refreshMoving a (holdAxis a s)
  else
    let s := if !mandatory && s.onReserve then s.setBit Obj.escrowStatus 2 false else s
    refreshMoving a (startMotion a target mandatory s)

/-- The drive of a MOVE by its target. -/
def moveTo (a target : Nat) (mandatory : Bool) (s : State) : State :=
  match target with
  | 2 => refreshMoving a (holdAxis a s)
  | 3 => refreshMoving a (brakeAxis a s)
  | 4 => refreshMoving a (freeAxis a s)
  | _ => moveToEnd a target mandatory s

/-- The MOVE action (R54, R68, R72, R73). -/
def moveAxis (a target prof : Nat) (mandatory : Bool) (s : State) : State :=
  let s := learnPending a s
  let s := if (s.axis a).resetToSeed then
      (copySeeds a s).onAxis a fun x => { x with resetToSeed := false }
    else s
  let st := s.get (Obj.axisStatus a)
  let s := s.put (Obj.axisStatus a)
    (setBitOf (setBitOf (setBitOf (setBitOf (setBitOf (setBitOf st 0 false) 2 false) 3 false) 4 false) 7 false) 10 false)
  let s := (s.put (Obj.moveTarget a) target).put (Obj.activeProfile a) prof
  let s := setReserveMotion a false s
  let s := s.onAxis a fun x => { x with acc := 0, verdict := none }
  if s.st a stFault then s
  else moveTo a target mandatory (s.onAxis a fun x => { x with reaction := .none })

/-! The trajectory and the speed loop (R69, R70). -/

/-- Integer square root by bits. -/
def isqrtFrom : Nat → Nat → Nat → Nat
  | 0, r, _ => r
  | n + 1, r, x => isqrtFrom n (if (r + 2 ^ n) * (r + 2 ^ n) ≤ x then r + 2 ^ n else r) x

/-- The largest number whose square does not exceed `x` (below 2^80). -/
def isqrt (x : Nat) : Nat := isqrtFrom 40 0 x

/-- Change of speed per ms, in counts per second: cruise speed in RampTime. -/
def State.rampStep (s : State) (a : Nat) : Nat :=
  let r := (s.prof a).ramp
  if r = 0 then s.cruise a else max 1 (s.cruise a / r)

/-- The speed from which `d` thousandths of a count are left to reach `vend` with the ramp. -/
def capSpeed (cruise ramp vend d : Nat) : Nat :=
  if ramp = 0 then cruise else isqrt (vend * vend + 2 * cruise * d / ramp)

/-- Speed limit of a trajectory with `d` thousandths of a count to go (R64, R69). -/
def State.trajCap (s : State) (a d : Nat) : Nat :=
  let p := s.prof a
  let c := s.cruise a
  let cr := s.creep a
  let zone := p.creepZone * s.stroke a
  if s.unref a then cr
  else if p.creepZone = 0 then min c (max 1 (capSpeed c p.ramp 0 d))
  else if d ≤ zone then max 1 cr
  else min c (max 1 (capSpeed c p.ramp cr (d - zone)))

/-- One millisecond of a trajectory that runs: position in thousandths of a count, speed, and whether it has
arrived. An UNREFERENCED axis runs to its end stop. -/
def State.trajStep (s : State) (a : Nat) : Int × Int × Bool :=
  let x := s.axis a
  let v := s.vref a
  let goal : Int := if s.target a = 1 then 1000 * s.stroke a else 0
  let up := if s.unref a then s.target a == 1 else decide (x.traj < goal)
  let d := (goal - x.traj).natAbs
  let acc : Int := s.rampStep a
  let fwd : Int := if up then v else -v
  let cap : Int := s.trajCap a d
  let fwd' : Int :=
    if fwd < 0 then min 0 (fwd + acc)
    else if fwd ≤ cap then min cap (fwd + acc)
    else max cap (fwd - acc)
  let arrived := !s.unref a && decide (0 ≤ fwd' ∧ (d : Int) ≤ fwd')
  if arrived then (goal, 0, true)
  else (x.traj + (if up then fwd' else -fwd'), if up then fwd' else -fwd', false)

/-- The trajectory of an axis moves on by 1 ms. -/
def moveTraj (a : Nat) (s : State) : State :=
  let x := s.axis a
  if x.running then
    let (p, v, done) := s.trajStep a
    let s := s.puti (Obj.speedRef a) v
    s.onAxis a fun x => { x with traj := p, running := !done
                                 cruising := !done && !s.unref a && v.natAbs == s.cruise a }
  else
    let v := s.vref a
    let acc : Int := s.rampStep a
    let v' := if 0 ≤ v then max 0 (v - acc) else min 0 (v + acc)
    let s := s.puti (Obj.speedRef a) v'
    if v' = 0 ∧ !s.st a stHolding ∧ s.target a ≤ 2 then setSt a stHolding true s else s

/-- Limit of the duty (R70, R88). -/
def State.dutyLim (s : State) (a : Nat) : Nat :=
  if s.st a stHolding then s.get (Obj.holdDuty a)
  else if s.unref a then s.get (Obj.unrefDuty a)
  else (s.prof a).dutyLimit

def clampI (lo hi x : Int) : Int := max lo (min hi x)

/-- One update of an axis that is driven (R70). -/
def speedLoop (a : Nat) (s : State) : State :=
  let s := moveTraj a s
  let lim : Int := s.dutyLim a
  let vr := s.vref a
  let e := vr - s.spd a
  let acc := clampI (-lim) lim ((s.axis a).acc + Int.tdiv (s.get (Obj.speedKi a) * e) 65536)
  let u := Int.tdiv (s.get (Obj.feedForward a) * vr) 1000 + Int.tdiv (s.get (Obj.speedKp a) * e) 256 + acc
  let duty := clampI (-lim) lim u
  let s := s.puti (Obj.duty a) duty
  let s := s.onAxis a fun x =>
    let turn := (decide (duty < 0) && x.dir) || (decide (0 < duty) && !x.dir)
    { x with acc := acc
             guard := if turn then some (x.guard.getD (s.now + us (s.get (Obj.dirGuard a)), decide (0 < duty)))
                      else none }
  refreshMoving a s

/-- Present axes. -/
def State.axes24 (s : State) : List Nat := (List.range 24).filter s.variant.hasAxis

/-- SPEED_LOOP_UPDATE (R70): one millisecond of every axis with EN_a high that is not braked. -/
def execSpeedLoopUpdate (s : State) : Host.Outcome State Fault Refusal :=
  s.answerLive fun s => each s.axes24 (fun a s =>
    if (s.axis a).en && !(s.axis a).braked then speedLoop a s else s) s

/-- DIR_GUARD_END (R66): DirGuard has elapsed with the duty at 0, and DIR_a changes. -/
def execDirGuardEnd (a : Fin 24) (s : State) : Host.Outcome State Fault Refusal :=
  s.answerLive fun s =>
    match (s.axis a).guard with
    | none => s
    | some (t, d) =>
      if t ≤ s.now then
        let p := s.pos a
        s.onAxis a fun x => { x with guard := none, dir := d, dirBase := p, teeth := 0, gap := none }
      else s

/-! Current and obstacle detection (R67, R77 to R82, R87). -/

/-- The envelope decides the threshold (R78, R87). -/
def State.envelopeActive (s : State) (a : Nat) : Bool :=
  !s.variant.isE && s.get (Obj.envState a) == 2 && !s.unref a

/-- Threshold of a bin in a direction, in mA (R78, R87). -/
def State.threshold (s : State) (a b : Nat) (opening : Bool) : Nat :=
  if s.envelopeActive a then
    let e := u16At (s.get (envKey a opening)) (2 * b)
    e + e * s.get (Obj.envMarginRel a) / 100 + s.get (Obj.envMarginAbs a)
  else if s.st a stInNip then s.get (Obj.fixedIMaxNip a)
  else s.get (Obj.fixedIMax a)

/-- The bin in which an axis stands. -/
def State.binAt (s : State) (a : Nat) : Nat := binOf (s.stroke a) (s.pos a)

/-- Speed lies below the deficit limit at cruise (R79). -/
def State.tooSlow (s : State) (a : Nat) : Bool :=
  (s.axis a).armed && (s.axis a).cruising && !s.unref a
    && decide (100 * (s.spd a).natAbs < (s.vref a).natAbs * (100 - s.get (Obj.speedDeficitRel a)))

/-- End-stop current with low speed (R88). -/
def State.atEndStop (s : State) (a : Nat) : Bool :=
  s.unref a && s.toEnd a && decide (s.get (Obj.endStopCurrent a) ≤ s.mag a)
    && decide (50 * (s.spd a).natAbs < s.cruise a)

/-- The open cycle notes a current window (R152). -/
def Cycle.window (c : Cycle) (opening : Bool) (b m : Nat) (margin : Int) : Cycle :=
  if opening then
    { c with peakOpen := max c.peakOpen m, peakBinOpen := if c.peakOpen < m then b else c.peakBinOpen }
  else
    { c with peakClose := max c.peakClose m, peakBinClose := if c.peakClose < m then b else c.peakBinClose
             minMargin := min c.minMargin margin }

/-- CURRENT_WINDOW (R67, R78): the mean of a 1 ms window, in mA. -/
def execCurrentWindow (a : Fin 24) (mean : Int) (s : State) : Host.Outcome State Fault Refusal :=
  s.answerLive fun s =>
    if !s.variant.hasAxis a.val then s
    else
      let s := s.puti (Obj.currentMean a) (clampI (-60000) 60000 mean)
      let m := s.mag a
      if !s.toEnd a then s
      else
        let opening := s.target a == 1
        let b := s.binAt a
        let t := s.threshold a b opening
        let stop := s.atEndStop a
        let slow := s.tooSlow a
        let s := s.onAxis a fun x =>
          { x with
            sums := x.sums.modify b fun y => ⟨y.sum + m, y.count + 1⟩
            overSince := if x.armed && decide (t < m) then some (x.overSince.getD s.now) else none
            overBin := b
            slowSince := if slow then some (x.slowSince.getD s.now) else none
            endStopSince := if stop then some (x.endStopSince.getD s.now) else none
            cycle := x.cycle.map fun c => c.window opening b m ((t : Int) - m) }
        extremeSample (2 * a) m s

/-- The LastTrip value (table "LastTrip layout"). -/
def State.tripRecord (s : State) (a cause b thr : Nat) : Nat :=
  cause + 256 * b + 2 ^ 16 * min 65535 (s.mag a) + 2 ^ 32 * min 65535 thr
    + 2 ^ 48 * s.get (Obj.position a) + 2 ^ 80 * s.get (Obj.speed a)
    + 2 ^ 112 * bitVal (s.target a == 1)

/-- A trip exists: the axis brakes until the next MOVE, LastTrip, the latch and the record (R81). -/
def obstacle (a cause : Nat) (s : State) : State :=
  let b := s.binAt a
  let thr := s.threshold a b (s.target a == 1)
  let trip := s.tripRecord a cause b thr
  let latched := s.get (Obj.latchSource0 a) / 4096 == 7
    && ((s.axis a).latches.getD 0 ⟨false, 0⟩).armed
  let s := setSt a stObstacle true s
  let s := refreshMoving a (brakeAxis a (s.onAxis a fun x => { x with clean := false }))
  let s := (s.inc (Obj.obstacleCount a)).put (Obj.lastTrip a) trip
  let s := ownLatch a 7 s
  let rec0 := if latched then s.get (Obj.latchRecord0 a) else 0
  admitEvent 1 0x10 (s.srcAxis a) ([byte a, 0, 0, 0] ++ toLe 16 trip ++ toLe 16 rec0) s

/-- A motion to an end in which obstacle detection is armed (R77). -/
def State.detecting (s : State) (a : Nat) : Bool := s.toEnd a && (s.axis a).armed

/-- ARM_DELAY_EXPIRY (R77). -/
def execArmDelayExpiry (a : Fin 24) (s : State) : Host.Outcome State Fault Refusal :=
  s.answerLive fun s =>
    if s.toEnd a && decide ((s.axis a).moveAt + ms (s.get (Obj.armDelay a)) ≤ s.now) then
      s.onAxis a fun x => { x with armed := true }
    else s

/-- CURRENT_TRIP (R78, R81, R87). -/
def execCurrentTrip (a : Fin 24) (s : State) : Host.Outcome State Fault Refusal :=
  s.answerLive fun s =>
    if s.detecting a && heldFor s.now (ms (s.get (Obj.envDebounce a))) (s.axis a).overSince then
      obstacle a (if s.envelopeActive a then 1 else 5) s
    else s

/-- SPEED_TRIP (R79, R81). -/
def execSpeedTrip (a : Fin 24) (s : State) : Host.Outcome State Fault Refusal :=
  s.answerLive fun s =>
    if s.detecting a && s.tooSlow a && heldFor s.now (ms (s.get (Obj.envDebounce a))) (s.axis a).slowSince then
      obstacle a 2 s
    else s

/-- Trip input `n` shows its trip level (R80). -/
def State.tripLevel (s : State) (a n : Nat) : Bool :=
  let c := s.get (if n = 0 then Obj.tripChannel1 a else Obj.tripChannel2 a)
  decide (c ≤ 255) && (!isInput (s.get (Obj.channelMode c))
    || (s.flag (Obj.inputState c) == s.bit (Obj.tripPolarity a) n))

/-- TRIP_INPUT (R80, R81): armed in CLOSED_END motions only. -/
def execTripInput (a : Fin 24) (n : Fin 2) (s : State) : Host.Outcome State Fault Refusal :=
  s.answerLive fun s =>
    if s.toEnd a && s.target a == 0 && (s.axis a).tripArmed && s.tripLevel a n then obstacle a (3 + n.val) s
    else s

/-! Reaching the target (R71, R88, R101). -/

/-- AT_TARGET rises: the axis holds, detection is disarmed, and a clean stroke waits to be learned (R71, R83). -/
def reachTarget (a : Nat) (s : State) : State :=
  let opening := s.target a == 1
  let x := s.axis a
  let clean := x.clean && x.fullStroke && !s.st a stOvertime && !s.unref a && !s.variant.isE
  let s := setSt a stAtTarget true s
  let s := holdAxis a s
  let s := setReserveMotion a false s
  s.onAxis a fun x =>
    { x with
      pendingLearn := if clean then some opening else none
      cycle := x.cycle.map fun c =>
        if opening then { c with openStrokeMs := min 65535 ((s.now - c.openMoveAt) / ms 1), openEndAt := some s.now }
        else { c with closeStrokeMs := min 65535 ((s.now - c.closeMoveAt) / ms 1), closedAt := some s.now } }

/-- AT_TARGET (R71): the trajectory has ended within TargetWindow of the target. -/
def execAtTarget (a : Fin 24) (s : State) : Host.Outcome State Fault Refusal :=
  s.answerLive fun s =>
    let goal : Int := if s.target a = 1 then s.stroke a else 0
    if s.toEnd a && !s.unref a && !(s.axis a).running
        && decide ((s.pos a - goal).natAbs ≤ s.get (Obj.targetWindow a)) then reachTarget a s
    else s

/-- END_STOP_DETECT (R88, R101): the end stop of an UNREFERENCED axis; at a closed end it takes the datum. -/
def execEndStopDetect (a : Fin 24) (s : State) : Host.Outcome State Fault Refusal :=
  s.answerLive fun s =>
    if s.atEndStop a && heldFor s.now (ms (s.get (Obj.endStopTime a))) (s.axis a).endStopSince then
      let closing := s.target a == 0
      let s := reachTarget a s
      let c := s.get (Obj.datumChannel a)
      if closing && (c == 0xFFFF || (decide (c ≤ 255) && s.inputOn c)) then takeDatum a s else s
    else s

/-- Overtime figure of a motion in cycles, and the moment from which it counts (R71, R88, R102). -/
def State.overtimeAt (s : State) (a : Nat) : Nat :=
  let x := s.axis a
  let p := s.prof a
  if s.unref a then
    let c := s.creep a
    x.unrefAt.getD x.moveAt + (if c = 0 then 0 else sec 1 * 3 * s.stroke a / (2 * c))
  else
    let c := s.creep a
    let zone := if p.creepZone = 0 ∨ c = 0 then 0 else p.creepZone * s.stroke a / c
    x.moveAt + ms (if p.overtime = 0 then 2 * p.strokeTime + zone else p.overtime)

/-- OVERTIME (R71, R88). -/
def execOvertime (a : Fin 24) (s : State) : Host.Outcome State Fault Refusal :=
  s.answerLive fun s =>
    if s.toEnd a && !s.st a stOvertime && decide (s.overtimeAt a ≤ s.now) then
      (setSt a stOvertime true s).onAxis a fun x => { x with clean := false }
    else s

/-! Fault rows (R72). -/

/-- OVERCURRENT (R72): three consecutive converter samples, in mA of magnitude. -/
def execOvercurrent (a : Fin 24) (s1 s2 s3 : Nat) (s : State) : Host.Outcome State Fault Refusal :=
  s.answerLive fun s =>
    let t := s.get (Obj.iTrip a)
    if s.variant.hasAxis a.val && decide (t ≤ s1 ∧ t ≤ s2 ∧ t ≤ s3) then raiseFault a 0 s else s

/-- SENSE_FAULT (R72): the converter over-range, or the common mode outside its range, for `heldUs`. -/
def execSenseFault (a : Fin 24) (heldUs : Nat) (s : State) : Host.Outcome State Fault Refusal :=
  s.answerLive fun s => if s.variant.hasAxis a.val && decide (1000 ≤ heldUs) then raiseFault a 1 s else s

/-- DIRECTION_FAULT (R72): the position has moved DirErrCounts against DIR_a at a duty of at least 410. -/
def execDirectionFault (a : Fin 24) (s : State) : Host.Outcome State Fault Refusal :=
  s.answerLive fun s =>
    let x := s.axis a
    let against := if x.dir then x.dirBase - s.pos a else s.pos a - x.dirBase
    if s.variant.hasAxis a.val && decide (410 ≤ (s.geti (Obj.duty a)).natAbs)
        && decide ((s.get (Obj.dirErrCounts a) : Int) ≤ against) then raiseFault a 3 s
    else s

/-! Set-points (R74 to R76). -/

/-- Requests held on a drive bus. -/
def State.busRequests (s : State) (j : Nat) : List Nat :=
  s.seq.insts.filterMap fun q => if j = 0 then q.dbus0 else q.dbus1

/-- The target formed for set-point `j` (R52, R74, R300). -/
def State.busTarget (s : State) (j : Nat) : Nat :=
  if j = 2 then (if s.sup.charging then s.get Obj.chargeCode else 0)
  else match s.busRequests j with
    | [] => s.get (Obj.idleCode j)
    | r :: rs => rs.foldl min r

/-- One update of a set-point (R74 to R76). -/
def updateSetpoint (j : Nat) (s : State) : State :=
  let t := s.busTarget j
  let p := s.setpts.getD j ⟨0, 0⟩
  let goal := 65536 * t
  let raw :=
    if p.raw < goal then min goal (p.raw + s.get (Obj.slewUp j) * 65536 / 100)
    else max goal (p.raw - s.get (Obj.slewDown j) * 65536 / 100)
  let held := if j = 2 then s.sup.charging else !(s.busRequests j).isEmpty
  let status := bitVal (raw == goal) + 2 * bitVal (decide (raw < goal)) + 4 * bitVal (decide (goal < raw))
    + 8 * bitVal held
  let s := { s with setpts := s.setpts.set j ⟨raw, t⟩ }
  ((s.put (Obj.target j) t).put (Obj.output j) ((raw + 32768) / 65536)).put (Obj.busStatus j) status

/-- SETPOINT_UPDATE (R74): every 10 µs, the three set-points; code 0 until P5 (R341). -/
def execSetpointUpdate (s : State) : Host.Outcome State Fault Refusal :=
  s.answerLive fun s =>
    if s.served && s.get Obj.powerPhase != 0x14 then each (if s.variant.isT then [0, 1, 2] else [0, 1]) updateSetpoint s
    else s

/-! What writes of EnvCommand and the seeds do (R85). -/

/-- CAPTURE_SEED: counting starts at the next MOVE. -/
def captureCommand (a : Nat) (s : State) : State :=
  (s.put (Obj.envState a) 1).onAxis a fun x =>
    { x with capture := ⟨true, false, 0, 0, BinSum.zeros, BinSum.zeros⟩ }

/-- RESET_TO_SEED: at once, or at the next MOVE while a motion runs. -/
def resetToSeedCommand (a : Nat) (s : State) : State :=
  if s.toEnd a then s.onAxis a fun x => { x with resetToSeed := true }
  else copySeeds a s

/-- A seed written directly replaces the envelope of its direction; a pending update is discarded. -/
def seedWritten (a : Nat) (opening : Bool) (s : State) : State :=
  let s := setEnv a opening (s.get (seedKey a opening)) s
  let s := s.onAxis a fun x => { x with pendingLearn := none }
  if s.get (Obj.envState a) == 1 then s
  else s.put (Obj.envState a) (if s.unseeded a then 0 else 2)

/-- A seed value may be written: every entry from 50 to 60 000 mA. -/
def seedOk (v : Nat) : Bool := (envBins v).all fun e => decide (50 ≤ e ∧ e ≤ 60000)

end Sys2Proof.Machine
end

