-- ==== Sys2Proof/Machine/Feedback.lean ====
section
/-!
DEFINITION. Machine/Feedback.lean: position and speed feedback (05_position_feedback.md): quadrature, tone wheel, serial
words, reference marks, feedback faults, speed, compare, and what writes of these objects do.
Readings and choices in the log: DESIGN CHOICE 13; DEDUCED 12, 14, 15, 21.
-/
namespace Sys2Proof.Machine
open Sys2Proof

/-- Bits of FeedbackStatus. -/
def setFb (a b : Nat) (v : Bool) (s : State) : State := s.setBit (Obj.feedbackStatus a) b v
def State.fb (s : State) (a b : Nat) : Bool := s.bit (Obj.feedbackStatus a) b

/-- Several bits of FeedbackStatus from `b` on. -/
def setFbs (a b : Nat) (vs : List Bool) (s : State) : State :=
  s.put (Obj.feedbackStatus a) ((vs.mapIdx fun i v => (b + i, v)).foldl (fun n p => setBitOf n p.1 p.2)
    (s.get (Obj.feedbackStatus a)))

/-- A feedback fault of a kind (R98). -/
def feedbackFault (a kind : Nat) (s : State) : State :=
  let s := s.setBit (Obj.feedbackFault a) kind true
  let s := if s.isSerial a then s else unreference a s
  raiseFault a 2 s

/-! Compare (R105). -/

/-- An entry fires: the pulse starts again, its status bit and the count. -/
def fireCompare (a i : Nat) (s : State) : State :=
  let s := (s.setBit (Obj.compareStatus a) i true).inc (Obj.comparePulseCount a)
  s.onAxis a fun x => { x with pulseUntil := some (s.now + us (s.get (Obj.pulseWidth a))) }

/-- An entry looks at Position after a count: whether it fires, and its new state. -/
def CompareEntry.look (e : CompareEntry) (val pos : Int) (hyst : Nat) (once : Bool) : Bool × CompareEntry :=
  let above := decide (val ≤ pos)
  if e.armed then
    if e.above == above then (false, e) else (true, ⟨false, above⟩)
  else if once then (false, e)
  else
    let back := if e.above then decide (pos ≤ val - hyst) else decide (val + hyst ≤ pos)
    if back then (false, ⟨true, above⟩) else (false, e)

/-- Every entry in use looks at Position. -/
def runCompares (a : Nat) (s : State) : State :=
  let l := s.get (Obj.compareList a)
  each (List.range (min 16 (s.get (Obj.compareCount a)))) (fun i s =>
    let e := (s.axis a).compares.getD i ⟨false, false⟩
    let r := e.look (signedOf 32 (u32At l (4 * i))) (s.pos a) (s.get (Obj.compareHyst a))
      (s.get (Obj.compareMode a) == 1)
    let s := s.onAxis a fun x => { x with compares := x.compares.set i r.2 }
    if r.1 then fireCompare a i s else s) s

/-- COMPARE_PULSE_END (R105). -/
def execComparePulseEnd (a : Fin 24) (s : State) : Host.Outcome State Fault Refusal :=
  s.answerLive fun s =>
    if ((s.axis a).pulseUntil.map fun t => decide (t ≤ s.now)).getD false then
      s.onAxis a fun x => { x with pulseUntil := none }
    else s

/-- A write of CompareArm re-arms ONCE entries on their present side (R105). -/
def compareArmWritten (a v : Nat) (s : State) : State :=
  if s.get (Obj.compareMode a) = 1 then
    resideCompares a (s.onAxis a fun x =>
      { x with compares := x.compares.mapIdx fun i e => if v.testBit i then { e with armed := true } else e })
  else s

/-! Counting (R90). -/

/-- Position has moved by counting: the direction watch, the compare entries, the nip zone. -/
def posMoved (a : Nat) (s : State) : State :=
  let p := s.pos a
  let d := (s.geti (Obj.duty a)).natAbs
  let s := s.onAxis a fun x =>
    { x with dirBase := if d < 410 then p else if x.dir then max x.dirBase p else min x.dirBase p }
  checkNip a (runCompares a s)

/-- The counts take a total; RANGE where RevCount or Position would leave its range (R90). -/
def setTotal (a : Nat) (total : Int) (s : State) : State :=
  let cpr : Int := s.get (Obj.countsPerRev a)
  let rev := total / cpr
  let p := total - s.geti (Obj.positionOffset a)
  if rev < -8388608 ∨ 8388607 < rev ∨ p < -2147483648 ∨ 2147483647 < p then
    feedbackFault a 5 (s.onAxis a fun x => { x with rangeStopped := true })
  else
    let s := s.puti (Obj.revCount a) rev
    let s := s.put (Obj.inRev a) (total % cpr).toNat
    s.puti (Obj.position a) p

/-- Total of the counts. -/
def State.total (s : State) (a : Nat) : Int :=
  s.geti (Obj.revCount a) * s.get (Obj.countsPerRev a) + s.get (Obj.inRev a)

/-- A timestamped count or word enters the speed window. -/
def markEdge (a : Nat) (up : Bool) (t : Nat) (s : State) : State :=
  let p := s.pos a
  let s := s.put (Obj.fbLastEdgeTime a) (t % 2 ^ 48)
  s.onAxis a fun x => { x with lastUp := up, edges := x.edges ++ [⟨p, t⟩] }

/-- REF_MISSING after more than two revolutions without a reference (R100). -/
def checkTravel (a : Nat) (s : State) : State :=
  let s := s.onAxis a fun x => { x with travel := x.travel + 1 }
  if s.get (Obj.refMode a) ≠ 0 ∧ !s.unref a ∧ 2 * s.get (Obj.countsPerRev a) < (s.axis a).travel then
    setFb a 5 true s
  else s

/-- InRev moves by one count, at FCLK count `t` (R90, R103). -/
def countOne (a : Nat) (up : Bool) (t : Nat) (s : State) : State :=
  if (s.axis a).rangeStopped then s
  else
    let s := setTotal a (s.total a + (if up then 1 else -1)) s
    if (s.axis a).rangeStopped then s
    else checkTravel a (posMoved a (markEdge a up t s))

/-! Reference marks (R99, R100). -/

/-- The reference error, reduced into half a revolution each way. -/
def refError (cpr : Nat) (d : Int) : Int :=
  let h : Int := cpr / 2
  (d + h) % cpr - h

/-- The counts take a total; Position follows afterwards. -/
def setCounts (a : Nat) (total : Int) (s : State) : State :=
  let cpr : Int := s.get (Obj.countsPerRev a)
  (s.puti (Obj.revCount a) (total / cpr)).put (Obj.inRev a) (total % cpr).toNat

/-- SNAP sets InRev to the expected value: Position moves by −e. -/
def snapCount (a : Nat) (e : Int) (s : State) : State := jumpPos a (setCounts a (s.total a - e) s)

/-- The phase capture: InRev becomes the expected value and Position keeps its value. -/
def phaseCapture (a expected : Nat) (s : State) : State :=
  let d : Int := (expected : Int) - s.get (Obj.inRev a)
  let s := s.put (Obj.inRev a) expected
  let s := s.puti (Obj.positionOffset a) (s.geti (Obj.positionOffset a) + d)
  setFb a 3 true s

/-- A reference slip (R100). -/
def referenceSlip (a : Nat) (e : Int) (s : State) : State :=
  let p := s.get (Obj.position a)
  let s := setFb a 4 true s
  let s := s.inc (Obj.refSlipCount a)
  let s := s.put (Obj.refSlipRun a) (min 255 (s.get (Obj.refSlipRun a) + 1))
  let s := ownLatch a 9 s
  let s := admitEvent 1 0x11 (s.srcAxis a)
    ([byte a, byte (s.get (Obj.refMode a)), byte (s.get (Obj.refSlipRun a)), 0] ++ toLe 4 (encSigned 32 e)
      ++ toLe 4 p ++ toLe 4 (s.get (Obj.refSlipCount a))) s
  let s := if s.get (Obj.refMode a) = 2 then snapCount a e s else s
  if s.get (Obj.refSlipLimit a) ≤ s.get (Obj.refSlipRun a) then unreference a s else s

/-- A reference mark with its expected InRev (R99). -/
def reference (a expected : Nat) (s : State) : State :=
  if s.get (Obj.refMode a) = 0 then s
  else
    let s := ownLatch a 8 s
    let s := setFb a 5 false (s.onAxis a fun x => { x with travel := 0 })
    if s.unref a || !s.fb a 3 then phaseCapture a expected s
    else
      let e := refError (s.get (Obj.countsPerRev a)) ((s.get (Obj.inRev a) : Int) - expected)
      let s := s.puti (Obj.lastRefError a) e
      if e.natAbs ≤ s.get (Obj.refTolerance a) then
        let s := setFb a 4 false (s.put (Obj.refSlipRun a) 0)
        if s.get (Obj.refMode a) = 2 then snapCount a e s else s
      else referenceSlip a e s

/-- REFERENCE_MARK (R93, R99, R100): a mark in QUADRATURE mode. -/
def execReferenceMark (a : Fin 24) (s : State) : Host.Outcome State Fault Refusal :=
  s.answerServed fun s =>
    if s.variant.hasAxis a.val && s.get (Obj.feedbackMode a) == 0 then reference a 0 s else s

/-! Quadrature (R91, R92). -/

/-- FeedbackMode QUADRATURE or TONE_WHEEL. -/
def State.incremental (s : State) (a : Nat) : Bool := s.get (Obj.feedbackMode a) != 2
/-- Bit INVERT of FeedbackOptions. -/
def State.inverted (s : State) (a : Nat) : Bool := s.bit (Obj.feedbackOptions a) 0

/-- An illegal transition (R91). -/
def illegalTransition (a : Nat) (s : State) : State :=
  let s := (setFb a 2 true s).inc (Obj.illegalCount a)
  let s := s.onAxis a fun x =>
    { x with illegalAt := x.illegalAt.filter (fun t => decide (s.now < t + sec 1)) ++ [s.now] }
  if s.get (Obj.illegalLimit a) < (s.axis a).illegalAt.length then feedbackFault a 3 s else s

/-- ENCODER_EDGE (R91): the filtered levels of A and B; a line whose pair disagrees keeps its state. Before P4 the lines
are not counted (R341). -/
def execEncoderEdge (a : Fin 24) (levelA levelB : Bool) (s : State) : Host.Outcome State Fault Refusal :=
  s.answer <|
    if !s.live || !s.served then s.onAxis a fun x => { x with levelA := levelA, levelB := levelB }
    else if !s.variant.hasAxis a.val || s.get (Obj.feedbackMode a) != 0 then s
    else
      let x := s.axis a
      let la := if x.pairBad.getD 0 false then x.levelA else levelA
      let lb := if x.pairBad.getD 1 false then x.levelB else levelB
      let ca := la != x.levelA
      let cb := lb != x.levelB
      let s := s.onAxis a fun x => { x with levelA := la, levelB := lb }
      if ca && cb then illegalTransition a s
      else if ca || cb then
        let up := if ca then la != lb else la == lb
        countOne a (up != s.inverted a) (s.f - 6 * s.get (Obj.quadFilter a)) s
      else s

/-- ILLEGAL_BIT_EXPIRY (R91): 1 s after the last illegal transition. -/
def execIllegalBitExpiry (a : Fin 24) (s : State) : Host.Outcome State Fault Refusal :=
  s.answerLive fun s =>
    if (s.axis a).illegalAt.all (fun t => decide (t + sec 1 ≤ s.now)) then
      setFb a 2 false (s.onAxis a fun x => { x with illegalAt := [] })
    else s

/-- A line takes part in the pair check (table "Feedback modes"). -/
def State.pairInput (s : State) (a line : Nat) : Bool :=
  s.variant.hasAxis a && (line == 0 || s.get (Obj.feedbackMode a) == 0)

/-- PAIR_LIVE follows the pairs. -/
def showPairs (a : Nat) (s : State) : State := setFb a 1 ((s.axis a).pairBad.any id) s

/-- PAIR_GLITCH (R92): a pair has disagreed for 8 samples, or, with `live` false, agrees again. -/
def execPairGlitch (a : Fin 24) (line : Fin 3) (live : Bool) (s : State) : Host.Outcome State Fault Refusal :=
  s.answerLive fun s =>
    if !s.pairInput a line then s
    else
      let was := (s.axis a).pairBad.getD line false
      let s := s.onAxis a fun x =>
        { x with pairBad := x.pairBad.set line live
                 pairLong := if live then x.pairLong else x.pairLong.set line false }
      showPairs a (if live && !was then s.inc (Obj.pairGlitchCount a) else s)

/-- PAIR_FAULT (R92): a pair has disagreed for PairFaultTime. -/
def execPairFault (a : Fin 24) (line : Fin 3) (heldUs : Nat) (s : State) : Host.Outcome State Fault Refusal :=
  s.answerLive fun s =>
    if s.pairInput a line && (s.axis a).pairBad.getD line false
        && decide (s.get (Obj.pairFaultTime a) ≤ heldUs) then
      feedbackFault a line (s.onAxis a fun x => { x with pairLong := x.pairLong.set line true })
    else s

/-! Tone wheel (R94, R95). -/

/-- A tooth counts in the direction of DIR_a, reversed by INVERT. -/
def State.toneUp (s : State) (a : Nat) : Bool := (s.axis a).dir != s.inverted a

/-- One tooth is counted; with EN_a low the axis becomes UNREFERENCED (R94). -/
def countTooth (a : Nat) (s : State) : State :=
  let s := if (s.axis a).en then s else unreference a (setFb a 6 true s)
  countOne a (s.toneUp a) (s.f - 6 * s.get (Obj.quadFilter a)) s

/-- TONE_TOOTH (R94, R95): a rising edge of the A line. -/
def execToneTooth (a : Fin 24) (s : State) : Host.Outcome State Fault Refusal :=
  s.answerServed fun s =>
    if !s.variant.hasAxis a.val || s.get (Obj.feedbackMode a) != 1 || (s.axis a).pairBad.getD 0 false then s
    else
      let x := s.axis a
      let g := (x.toothAt.map fun t => s.now - t).getD 0
      let paused := x.toothAt.isNone || decide (ms (s.get (Obj.speedZeroTime a)) ≤ g)
      let s := s.onAxis a fun x => { x with toothAt := some s.now }
      if paused then countTooth a (s.onAxis a fun x => { x with teeth := 1, gap := none, exempt := false })
      else if x.exempt then countTooth a (s.onAxis a fun x => { x with exempt := false })
      else
        let p := x.gap.getD 0
        let tested := decide (2 ≤ x.teeth) && x.gap.isSome
        if tested && decide (s.get (Obj.toneGapHigh a) * p ≤ 16 * g) then
          countTooth a (reference a 0 (countTooth a s))
        else if tested && decide (16 * g ≤ s.get (Obj.toneGapLow a) * p) then
          reference a (if s.toneUp a then 0 else 1) (s.onAxis a fun x => { x with exempt := true })
        else countTooth a (s.onAxis a fun x => { x with teeth := x.teeth + 1, gap := some g })

/-! Serial words (R96, R97). -/

/-- One bit into a CRC of a width. -/
def crcStep (width poly : Nat) (c : Nat) (b : Bool) : Nat :=
  let top := c.testBit (width - 1) != b
  ((2 * c) % 2 ^ width) ^^^ (if top then poly else 0)

/-- CRC of the `n` low bits of a number, the most significant first. -/
def crcBits (width poly n v : Nat) : Nat :=
  (List.range n).foldl (fun c i => crcStep width poly c (v.testBit (n - 1 - i))) 0

/-- Width and polynomial of a CrcKind. -/
def crcKind (k : Nat) : Nat × Nat :=
  match k with
  | 1 => (5, 0x15)
  | 2 => (8, 0x2F)
  | 3 => (16, 0x1021)
  | _ => (0, 0)

/-- A Gray-coded field of `n` bits, decoded. -/
def grayDecode (n v : Nat) : Nat :=
  ((List.range n).foldl (fun (p : Nat × Bool) i =>
    let j := n - 1 - i
    let b := p.2 != v.testBit j
    (p.1 + (if b then 2 ^ j else 0), b)) (0, false)).1

/-- SsiLayout may be written with CountsPerRev (R96). -/
def ssiLayoutOk (v cpr : Nat) : Bool :=
  let mt := u8At v 0
  let st := u8At v 1
  let e := u8At v 2
  let k := u8At v 3
  decide (mt ≤ 24) && decide (1 ≤ st ∧ st ≤ 24) && decide (e ≤ 1) && decide (k ≤ 3)
    && decide (mt + st + e + (crcKind k).1 ≤ 64) && cpr == 2 ^ st

/-- SSI_WORD_START (R96, R97): a word starts; `lineHigh` says whether the data line was high, as it must be and must
have become within SsiTimeout of the word before. -/
def execSsiWordStart (a : Fin 24) (lineHigh : Bool) (s : State) : Host.Outcome State Fault Refusal :=
  s.answerServed fun s =>
    if s.variant.hasAxis a.val && s.isSerial a
        && decide ((s.axis a).wordAt + us (s.get (Obj.ssiPeriod a)) ≤ s.now) then
      s.onAxis a fun x => { x with wordAt := s.now, wordHigh := lineHigh }
    else s

/-- An invalid word (R97). -/
def invalidWord (a : Nat) (s : State) : State :=
  let s := s.inc (Obj.ssiErrCount a)
  let s := s.onAxis a fun x => { x with invalidRun := x.invalidRun + 1 }
  if s.get (Obj.ssiErrLimit a) ≤ (s.axis a).invalidRun then feedbackFault a 4 s else s

/-- The fields of a word: multi-turn, single-turn, its error bit and whether its CRC matches (R96). -/
def State.ssiFields (s : State) (a word : Nat) : Nat × Nat × Bool × Bool :=
  let lay := s.get (Obj.ssiLayout a)
  let opt := s.get (Obj.feedbackOptions a)
  let mtB := u8At lay 0
  let stB := u8At lay 1
  let eB := u8At lay 2
  let (w, poly) := crcKind (u8At lay 3)
  let body := word / 2 ^ w
  let crc := crcBits w poly (mtB + stB + eB) (body % 2 ^ (mtB + stB + eB))
  let crc := if opt.testBit 2 then 2 ^ w - 1 - crc else crc
  let err := eB == 1 && (body.testBit 0 != opt.testBit 3)
  let data := body / 2 ^ eB
  let st := data % 2 ^ stB
  let mt := data / 2 ^ stB % 2 ^ mtB
  let g := opt.testBit 1
  let st := if g then grayDecode stB st else st
  let mt := if g then grayDecode mtB mt else mt
  let inv := opt.testBit 0
  (if inv then 2 ^ mtB - 1 - mt else mt, if inv then 2 ^ stB - 1 - st else st, err, word % 2 ^ w == crc)

/-- The total that a word spells, with the wrap in the shorter direction where it has no multi-turn bits. -/
def State.ssiTotal (s : State) (a mt st : Nat) : Int :=
  let lay := s.get (Obj.ssiLayout a)
  let mtB := u8At lay 0
  let cpr : Int := (2 ^ u8At lay 1 : Nat)
  if mtB = 0 then
    match (s.axis a).lastWord with
    | none => st
    | some t => t + refError (2 ^ u8At lay 1) ((st : Int) - t % cpr)
  else (if mtB = 24 then signedOf 24 mt else mt) * cpr + st

/-- SSI_WORD_END (R97): a word has been received. -/
def execSsiWordEnd (a : Fin 24) (word : Nat) (s : State) : Host.Outcome State Fault Refusal :=
  s.answerServed fun s =>
    if !s.variant.hasAxis a.val || !s.isSerial a then s
    else
      let x := s.axis a
      let (mt, st, err, crcOk) := s.ssiFields a word
      let total := s.ssiTotal a mt st
      let jump := (x.lastWord.map fun t => decide (s.get (Obj.ssiJumpLimit a) < (total - t).natAbs)).getD false
      let s := setFbs a 7 [!x.wordHigh, !crcOk, err, jump] s
      if !x.wordHigh || !crcOk || err || jump then invalidWord a s
      else if x.rangeStopped then s
      else
        let first := !x.validSeen
        let up := decide ((x.lastWord.getD total) ≤ total)
        let s := setTotal a total s
        if (s.axis a).rangeStopped then s
        else
          let s := s.onAxis a fun x => { x with lastWord := some total, validSeen := true, invalidRun := 0 }
          let s := if first && s.unref a && s.flag (Obj.offsetValid a) then
              (setSt a stUnref false s).onAxis a fun x => { x with unrefAt := none }
            else s
          posMoved a (markEdge a up (s.f - (s.now - x.wordAt)) s)

/-! Speed (R103). -/

/-- SPEED_COMPUTE (R103): at a 1 ms boundary of TB. -/
def execSpeedCompute (a : Fin 24) (s : State) : Host.Outcome State Fault Refusal :=
  s.answerLive fun s =>
    if !s.variant.hasAxis a.val then s
    else
      let x := s.axis a
      let now := s.f
      let win := ms (s.get (Obj.speedWindow a))
      let inWin := x.edges.filter fun e => decide (now ≤ e.t + win)
      let v : Int :=
        match x.edges.getLast? with
        | none => 0
        | some e1 =>
          let e0 := inWin.headD e1
          if e0.t ≠ e1.t then Int.tdiv ((e1.pos - e0.pos) * 150000000) ((e1.t : Int) - e0.t)
          else if now - e1.t < ms (s.get (Obj.speedZeroTime a)) then
            let w : Int := 150000000 / (now - e1.t : Nat)
            let w := if x.lastUp then w else -w
            if now ≤ e1.t then s.spd a else if w.natAbs < (s.spd a).natAbs then w else s.spd a
          else 0
      let s := s.onAxis a fun x =>
        { x with edges := if inWin.isEmpty then x.edges.drop (x.edges.length - 1) else inWin }
      refreshMoving a (s.puti (Obj.speed a) v)

/-! What writes of these objects do. -/

/-- A write of FeedbackMode, CountsPerRev or SsiLayout (R89). -/
def feedbackConfigWritten (a : Nat) (s : State) : State :=
  let s := unreference a s
  let s := (s.put (Obj.revCount a) 0).put (Obj.inRev a) 0
  let s := (s.put (Obj.speed a) 0)
  let s := setFb a 3 false s
  let s := s.onAxis a fun x =>
    { x with edges := [], lastWord := none, teeth := 0, gap := none, toothAt := none, exempt := false
             travel := 0, rangeStopped := false, invalidRun := 0 }
  jumpPos a s

/-- A cause whose condition is still present sets FAULT again (R73, R98). -/
def stillFaulty (a : Nat) (s : State) : State :=
  let x := s.axis a
  let kinds := ((List.range 3).filter fun i => x.pairLong.getD i false)
    ++ (if s.get (Obj.illegalLimit a) < (x.illegalAt.filter fun t => decide (s.now < t + sec 1)).length
        then [3] else [])
    ++ (if s.isSerial a && decide (s.get (Obj.ssiErrLimit a) ≤ x.invalidRun) then [4] else [])
    ++ (if x.rangeStopped then [5] else [])
  each kinds (fun k s => feedbackFault a k s) s

/-- FAULT and FaultCause clear as the sequencer leaves its FaultState (R73). -/
def clearFault (a : Nat) (s : State) : State :=
  let s := setSt a stFault false s
  let s := (s.put (Obj.faultCause a) 0).put (Obj.feedbackFault a) 0
  stillFaulty a s

/-- LatchArm re-arms the latches whose bits are written (R104). -/
def latchArmWritten (a v : Nat) (s : State) : State :=
  s.onAxis a fun x =>
    { x with latches := x.latches.mapIdx fun i l => if v.testBit i then { l with armed := true } else l }

/-- Status of a LatchSource value, 0 where its encoding is right (R104). -/
def latchSourceRange (v : Nat) : Nat :=
  let kind := v / 4096
  let low := v % 512
  if 9 < kind ∨ v / 512 % 8 ≠ 0 then 0x0204
  else if 1 ≤ kind ∧ kind ≤ 3 then (if low ≤ 255 then 0 else 0x0204)
  else if 4 ≤ kind ∧ kind ≤ 6 then (if low / 128 = 0 ∧ low / 16 ≤ 5 then 0 else 0x0204)
  else if low = 0 then 0 else 0x0205

end Sys2Proof.Machine
end

