-- ==== Sys2Proof/Machine/GpPins.lean ====
section
/-!
DEFINITION. Machine/GpPins.lean: the general-purpose pins (19_gp_pins.md): levels, alternates and their conflicts, pattern
units, notice lines, orphan levels and the PPS pulse. Pin n is pin n % 16 of port n / 16.
Readings and choices in the log: DESIGN CHOICE 144; DEDUCED 20, 124.
-/
namespace Sys2Proof.Machine
open Sys2Proof

/-- PinConfig of pin `n`. -/
def State.pinCfg (s : State) (n : Nat) : Nat := s.get (Obj.pinConfig (n / 16) (n % 16))
/-- MODE of a pin: 0 DISABLED, 1 INPUT, 2 OUTPUT, 3 ALT. -/
def State.pinMode (s : State) (n : Nat) : Nat := s.pinCfg n % 4
/-- The GP code of a pin (R353). -/
def gpCode (n : Nat) : Nat := 0x0100 + n
/-- The pin that a GP code names. -/
def codePin (v : Nat) : Option Nat := if 0x0100 ≤ v ∧ v < 0x0160 then some (v - 0x0100) else none

/-! Alternates (R358, R359). -/

/-- Claims that name a pin: the alternate, and whether the claimant's function owns the pin. -/
def State.claimsOn (s : State) (n : Nat) : List (Nat × Bool) :=
  let f0 := s.ownerOfPin n == 0
  ((List.range 24).filter fun a => s.variant.hasAxis a && s.get (Obj.compareOutput a) == gpCode n).map
      (fun a => (0, s.ownerOfAxis a == s.ownerOfPin n))
    ++ (if s.get Obj.ppsPin == gpCode n then [(1, f0)] else [])
    ++ (if s.get Obj.tickPin == gpCode n then [(2, f0)] else [])
    ++ (if s.get Obj.clkOutPin == gpCode n then [(3, f0)] else [])

/-- Claims that count: the pin is in MODE ALT and belongs to the claimant's function. -/
def State.counting (s : State) (n : Nat) : List Nat :=
  if s.pinMode n = 3 then ((s.claimsOn n).filter (·.2)).map (·.1) else []

/-- The conflict condition of a pin (R359). -/
def State.conflictOn (s : State) (n : Nat) : Bool :=
  let cs := s.counting n
  decide (cs.length < (s.claimsOn n).length) || cs.any fun x => cs.any (· != x)

/-- The level that an alternate puts out. TICKOUT's evaluation takes no time in this model. -/
def State.altLevel (s : State) (n alt : Nat) : Bool :=
  match alt with
  | 0 => (List.range 24).any fun a => s.variant.hasAxis a && s.get (Obj.compareOutput a) == gpCode n
      && ((s.axis a).pulseUntil.map fun t => decide (s.now < t)).getD false
  | 1 => (s.gp.ppsUntil.map fun t => decide (s.now < t)).getD false
  | 2 => false
  | _ => (2 * s.f / (150 * s.get Obj.clkOutDiv)) % 2 == 0

/-- Ports B to F are released: no logic die runs, or a start has not configured them (R341, R366). -/
def State.padReleased (s : State) (n : Nat) : Bool :=
  decide (16 ≤ n) && !(s.get Obj.powerState == 3) && !(s.live && s.served)

/-- Pad level of a pin (R341, R354, R356, R359, R364, R366). -/
def State.pad (s : State) (n : Nat) : Bool :=
  let out := s.gp.outside.getD n false
  if s.padReleased n then out
  else if s.pinMode n = 3 ∧ s.get Obj.powerState = 3 then false
  else match s.pinMode n with
  | 2 =>
    match s.gp.orphan.getD n none with
    | some 0 => false
    | some 1 => true
    | some _ => out
    | none =>
      let v := s.bit (Obj.outputLevel (n / 16)) (n % 16) != s.bit (Obj.pinConfig (n / 16) (n % 16)) 6
      if (s.pinCfg n).testBit 5 && v then out else v
  | 3 =>
    match (s.counting n).foldl (fun m x => match m with | none => some x | some y => some (min x y)) none with
    | some alt => s.altLevel n alt
    | none => out
  | _ => out

/-- SyncValue of a pin after its synchroniser. -/
def State.syncOf (s : State) (n : Nat) : Bool :=
  s.pinMode n != 0 && (s.pad n != (s.pinCfg n).testBit 6)

/-- SyncValue of a pin as the readers of R357 see it. -/
def State.syncBit (s : State) (n : Nat) : Bool := s.gp.sync.getD n false
/-- SyncValue and PadValue of a port. -/
def State.syncWord (s : State) (p : Nat) : Nat := ofBits ((List.range 16).map fun i => s.syncBit (16 * p + i))
def State.padWord (s : State) (p : Nat) : Nat :=
  ofBits ((List.range 16).map fun i => s.pinMode (16 * p + i) != 0 && s.pad (16 * p + i))

/-! Pattern units (R360). -/

/-- The condition of a unit holds. -/
def State.patternHolds (s : State) (u : Nat) : Bool :=
  let m := s.get (Obj.mask u)
  let eq := (s.syncWord (s.get (Obj.port u)) &&& m) == (s.get (Obj.pattern u) &&& m)
  s.bit (Obj.control u) 0 && (eq != s.bit (Obj.control u) 1)

/-- The hold of every unit follows its condition. -/
def holdPatterns (s : State) : State :=
  s.onGp fun g => { g with units := g.units.mapIdx fun u x => ⟨markWhile (s.patternHolds u) s.now x.holdSince⟩ }

/-- The conflict flags follow their causes; each rise counts (R359). -/
def showConflicts (s : State) : State :=
  let new := (List.range 96).map s.conflictOn
  let old := s.get Obj.conflictFlags
  let rises := ((List.range 96).filter fun n => new.getD n false && !old.testBit n).length
  (s.put Obj.conflictFlags (ofBits new)).addTo Obj.conflictCount rises

/-- Pads have moved: synchronised values, latch triggers, pattern holds, conflicts. -/
def settlePins (s : State) : State :=
  let s := showConflicts s
  let s := each (List.range 96) (fun n s =>
    let v := s.syncOf n
    if v == s.syncBit n then s
    else pinLatch n v (s.onGp fun g => { g with sync := g.sync.set n v })) s
  holdPatterns s

/-- GP_PIN_CHANGE (R104, R356): the level at a pad as the outside drives it. -/
def execGpPinChange (n : Fin 96) (level : Bool) (s : State) : Host.Outcome State Fault Refusal :=
  let s' := s.onGp fun g => { g with outside := g.outside.set n.val level }
  s.answer (if s.live then settlePins s' else s')

/-- Function that owns every pin of a list, else F0 (R263). -/
def State.streamOfPins (s : State) (ns : List Nat) : Nat :=
  match ns with
  | [] => 0
  | n :: r => let f := s.ownerOfPin n; if r.all (fun m => s.ownerOfPin m == f) then f else 0

/-- A PIN notice (R362): its number, its level and the port. -/
def pinNotice (num : Nat) (level : Bool) (port : Nat) (pins : List Nat) (s : State) : State :=
  raiseIn (s.streamOfPins pins) 10 num 6
    ([byte num, byte (bitVal level)] ++ toLe 2 (s.syncWord port) ++ [0, 0, 0, 0]) false s

/-- Pins that a pattern unit watches. -/
def State.unitPins (s : State) (u : Nat) : List Nat :=
  ((List.range 16).filter fun i => s.bit (Obj.mask u) i).map fun i => 16 * s.get (Obj.port u) + i

/-- PATTERN_MATCH (R360): the condition has held for HoldTime. -/
def execPatternMatch (u : Fin 4) (s : State) : Host.Outcome State Fault Refusal :=
  s.answerLive fun s =>
    let x := s.gp.units.getD u ⟨none⟩
    if heldFor s.now (us (s.get (Obj.holdTime u))) x.holdSince && !s.bit (Obj.unitStatus u) 0
        && s.patternHolds u then
      let s := (s.put (Obj.unitStatus u) 3).inc (Obj.matchCount u)
      pinNotice (8 + u.val) true (s.get (Obj.port u)) (s.unitPins u) s
    else s

/-- PATTERN_MATCH_END (R360): the condition fails. -/
def execPatternMatchEnd (u : Fin 4) (s : State) : Host.Outcome State Fault Refusal :=
  s.answerLive fun s =>
    if s.bit (Obj.unitStatus u) 0 && !s.patternHolds u then
      let s := s.setBit (Obj.unitStatus u) 0 false
      if s.bit (Obj.control u) 2 then pinNotice (8 + u.val) false (s.get (Obj.port u)) (s.unitPins u) s else s
    else s

/-- A write to a pattern unit clears MATCH and restarts the hold (R360). -/
def patternWritten (u : Nat) (s : State) : State :=
  let s := s.setBit (Obj.unitStatus u) 0 false
  holdPatterns (s.onGp fun g => { g with units := g.units.set u ⟨none⟩ })

/-! Notice lines (R361). -/

/-- The pin that a line watches. -/
def State.linePin (s : State) (n : Nat) : Option Nat :=
  let p := s.get (Obj.lineConfig n) % 16
  if p ≤ 5 then some (16 * p + n) else none
/-- MinInterval of a line in cycles. -/
def State.lineInterval (s : State) (n : Nat) : Nat := us (100 * (s.get (Obj.lineConfig n) / 256))
def State.line (s : State) (n : Nat) : PinLine := s.gp.lines.getD n ⟨false, false, none, false⟩
def State.onLine (n : Nat) (f : PinLine → PinLine) (s : State) : State :=
  s.onGp fun g => { g with lines := g.lines.modify n f }

/-- A line reports a level. -/
def reportLine (n pin : Nat) (v : Bool) (s : State) : State :=
  (pinNotice n v (pin / 16) [pin] s).onLine n fun l =>
    { l with reported := v, lastAt := some s.now, suppressed := false }

/-- LINE_EDGE (R361): the watched pin's value differs from the one last seen. -/
def execLineEdge (n : Fin 8) (s : State) : Host.Outcome State Fault Refusal :=
  s.answerLive fun s =>
    match s.linePin n with
    | none => s
    | some pin =>
      let v := s.syncBit pin
      let l := s.line n
      if v == l.seen then s
      else
        let s := s.onLine n fun l => { l with seen := v }
        let sel := s.get (Obj.lineConfig n) / 16 % 4
        if !(if v then sel.testBit 0 else sel.testBit 1) then s
        else
          let s := s.inc (Obj.lineEdgeCount n)
          if (l.lastAt.map fun t => decide (s.now < t + s.lineInterval n)).getD false then
            (s.inc (Obj.suppressedEdges n)).onLine n fun l => { l with suppressed := true }
          else reportLine n pin v s

/-- MIN_INTERVAL_END (R361): MinInterval ends after a suppressed edge. -/
def execMinIntervalEnd (n : Fin 8) (s : State) : Host.Outcome State Fault Refusal :=
  s.answerLive fun s =>
    match s.linePin n with
    | none => s
    | some pin =>
      let l := s.line n
      if l.suppressed && heldFor s.now (s.lineInterval n) l.lastAt then
        let s := s.onLine n fun l => { l with suppressed := false }
        if s.syncBit pin == l.reported then s else reportLine n pin (s.syncBit pin) s
      else s

/-- A write of LineConfig: the line starts from the present level. -/
def lineWritten (n : Nat) (s : State) : State :=
  let v := ((s.linePin n).map s.syncBit).getD false
  s.onLine n fun _ => ⟨v, v, none, false⟩

/-! Orphan levels (R364, R365). -/

/-- Pins of a function. -/
def State.pinsOf (s : State) (fn : Nat) : List Nat := (List.range 96).filter fun n => s.ownerOfPin n == fn

/-- A pin in OUTPUT takes its orphan level. -/
def orphanPin (n : Nat) (s : State) : State :=
  if s.pinMode n = 2 then
    let v := match s.pinCfg n / 256 % 4 with
      | 0 => 0
      | 1 => 1
      | 2 => bitVal (s.pad n)
      | _ => 2
    s.onGp fun g => { g with orphan := g.orphan.set n (some v) }
  else s

/-- The orphan level of a pin ends. -/
def freePin (n : Nat) (s : State) : State := s.onGp fun g => { g with orphan := g.orphan.set n none }

/-- Every pin of a list takes its orphan level. -/
def orphanPins (ns : List Nat) (s : State) : State := settlePins (each ns orphanPin s)
/-- The orphan level of every pin of a list ends. -/
def freePins (ns : List Nat) (s : State) : State := settlePins (each ns freePin s)

/-- A write of OutputLevel, SetBits or ClearBits gives port `p` the level `v`: orphan levels of the pins whose bits
change end (R356, R364). -/
def setLevels (p v : Nat) (s : State) : State :=
  let old := s.get (Obj.outputLevel p)
  let s := s.put (Obj.outputLevel p) v
  settlePins (each ((List.range 16).filter fun i => v.testBit i != old.testBit i)
    (fun i s => freePin (16 * p + i) s) s)

/-- A function reset clears what belongs only to the function's pins (R365). -/
def resetPins (fn : Nat) (s : State) : State :=
  let ns := s.pinsOf fn
  let s := each (List.range 6) (fun p s =>
    s.put (Obj.outputLevel p) (ofBits ((List.range 16).map fun i =>
      s.bit (Obj.outputLevel p) i && !ns.contains (16 * p + i)))) s
  let s := s.put Obj.conflictFlags (ofBits ((List.range 96).map fun n => s.bit Obj.conflictFlags n && !ns.contains n))
  let s := each (List.range 4) (fun u s =>
    let ps := s.unitPins u
    if !ps.isEmpty && ps.all ns.contains then s.setBit (Obj.unitStatus u) 1 false else s) s
  settlePins s

/-! PPS (R358). -/

/-- PPS_PULSE: the running calendar reaches a UTC second. -/
def execPpsPulse (s : State) : Host.Outcome State Fault Refusal :=
  s.answerLive fun s =>
    if s.calValid then
      settlePins (s.onGp fun g => { g with ppsUntil := some (s.now + us (s.get Obj.ppsWidth)) })
    else s

/-- PPS_PULSE_END: PpsWidth after the pulse started. -/
def execPpsPulseEnd (s : State) : Host.Outcome State Fault Refusal :=
  s.answerLive fun s =>
    if (s.gp.ppsUntil.map fun t => decide (t ≤ s.now)).getD false then
      settlePins (s.onGp fun g => { g with ppsUntil := none })
    else s

/-- GP pin values that a PinConfig write may not carry on port A (R354). -/
def pinConfigRefusal (p v : Nat) : Nat :=
  if p = 0 ∧ (v % 4 = 3 ∨ v.testBit 4) then 0x0205 else 0

end Sys2Proof.Machine
end

