-- ==== Sys2Proof/Machine/SeqTables.lean ====
section
/-!
DEFINITION. Machine/SeqTables.lean: sequence tables (03_sequencers.md): their bytes, the factory tables of R63, and the
loader's checks of R62.
-/
namespace Sys2Proof.Machine
open Sys2Proof Sys2Proof.Config

/-! Bytes of a table (R59). -/

def Act.bytes (a : Act) : List Byte := [byte a.op, byte a.b1, byte a.b2, byte a.b3]
def Trans.bytes (t : Trans) : List Byte := t.lits.flatMap (toLe 2) ++ [byte t.target, byte t.flags]
/-- The 144 bytes of a state record. -/
def StateRec.bytes (r : StateRec) : List Byte :=
  [byte r.flags, byte r.report, byte r.actionCount, byte r.transCount] ++ r.name ++ r.acts.flatMap Act.bytes
    ++ r.trans.flatMap Trans.bytes

def Act.ofBytes (bs : List Byte) : Act :=
  ⟨leNat (bs.take 1), leNat ((bs.drop 1).take 1), leNat ((bs.drop 2).take 1), leNat ((bs.drop 3).take 1)⟩
def Trans.ofBytes (bs : List Byte) : Trans :=
  ⟨(chunks 2 5 bs).map leNat, leNat ((bs.drop 10).take 1), leNat ((bs.drop 11).take 1)⟩
/-- The state record in 144 bytes. -/
def StateRec.ofBytes (bs : List Byte) : StateRec :=
  { flags := leNat (bs.take 1), report := leNat ((bs.drop 1).take 1), actionCount := leNat ((bs.drop 2).take 1)
    transCount := leNat ((bs.drop 3).take 1), name := (bs.drop 4).take 12
    acts := (chunks 4 8 (bs.drop 16)).map Act.ofBytes
    trans := (chunks 12 8 (bs.drop 48)).map Trans.ofBytes }

/-- Bytes 0 to 11 of the header of a table. -/
def SeqTab.head (t : SeqTab) : List Byte :=
  [0x53, 0x51, 0x54, 0x31, byte t.kind, byte t.states.length, byte t.initial, byte t.faultState, byte t.owner, 0]
    ++ toLe 2 t.start
/-- CRC-32C over bytes 0 to 11 and the state records in order. -/
def SeqTab.crc (t : SeqTab) : Nat := crc32c (t.head ++ t.states.flatMap StateRec.bytes)
/-- The 16 bytes of a TableHeader. -/
def SeqTab.header (t : SeqTab) : List Byte := t.head ++ toLe 4 t.crc
/-- The bytes of TableImage. -/
def SeqTab.image (t : SeqTab) : List Byte := t.header ++ t.states.flatMap StateRec.bytes

/-- The table that 16 header bytes and its state records spell. -/
def SeqTab.ofParts (h : List Byte) (rs : List StateRec) : SeqTab :=
  { kind := leNat ((h.drop 4).take 1), initial := leNat ((h.drop 6).take 1), faultState := leNat ((h.drop 7).take 1)
    owner := leNat ((h.drop 8).take 1), start := leNat ((h.drop 10).take 2), states := rs }

/-! Literals (R60). -/

def lit (cls op : Nat) : Nat := 1024 * cls + op
def lneg (l : Nat) : Nat := 32768 + l
def litNeg (l : Nat) : Bool := l.testBit 15
def litClass (l : Nat) : Nat := l / 1024 % 32
def litOp (l : Nat) : Nat := l % 1024

-- the abbreviations of R63
def lI (n : Nat) : Nat := lit 1 (256 + n)
def lD (n : Nat) : Nat := lit 1 (512 + n)
def lA (n : Nat) : Nat := lit 1 (768 + n)
def lClosed : List Nat := [lI 0, lneg (lI 1)]
def lLocked : List Nat := [lI 2, lneg (lI 3)]
def lUnlocked : List Nat := [lneg (lI 2), lI 3]
def lHandle : List Nat := [lD 8, lneg (lD 9)]
def lRestored : List Nat := [lneg (lD 8), lD 9]
def lButton : Nat := lA 0
def lSP : Nat := lit 3 4
def lDP : Nat := lit 3 5
def lOwnCL : Nat := lit 3 6
def lIsolated : Nat := lit 3 7
def lLoop : Nat := lit 3 3
def lOpenAll : Nat := lit 7 512
def lWarn : Nat := lit 7 513
def lShut : Nat := lit 7 514
def lStat (b : Nat) : Nat := lit 4 (31 * 32 + b)
def lAtTarget : Nat := lStat 0
def lObstacle : Nat := lStat 2
def lInNip : Nat := lStat 3
def lRefused : Nat := lStat 4
def lT (n : Nat) : Nat := lit 5 n
def lCmd (c : Nat) : Nat := lit 6 c
def lSideClose : Nat := lit 6 (512 + 2)
def lRetry (n : Nat) : Nat := lit 10 n
def lLimit : Nat := lit 10 16
def lLeavesLocked : Nat := lit 8 0
def lLeavesOpen : Nat := lit 8 1
def lStepsIn : Nat := lit 8 14
def lSideFault : Nat := lit 9 19

/-! Actions (R61). -/

def aOut (off v : Nat) : Act := ⟨1, off, 0xA0, v⟩
def aFlash (off h : Nat) : Act := ⟨2, off, 0xA0, h⟩
def aUnlock (b : Nat) : Act := ⟨3, b, 0, 0⟩
def aMove (t p : Nat) : Act := ⟨4, t, p, 0⟩
def aBus (b c : Nat) : Act := ⟨5, b, c % 256, c / 256⟩
def aTimer (t n : Nat) : Act := ⟨6, t, n % 256, 128 + n / 256⟩
def aRetry (b : Nat) : Act := ⟨8, b, 0, 0⟩
def aFlag (f v : Nat) : Act := ⟨9, 128 + f, v, 0⟩
def aDone (c v : Nat) : Act := ⟨10, c, v, 0⟩
def aNotice (c : Nat) : Act := ⟨11, c, 0, 0⟩

/-- A transition without and with TAKE. -/
def go (ls : List Nat) (t : Nat) : Trans := ⟨ls ++ List.replicate (5 - ls.length) 0, t, 0⟩
def take (ls : List Nat) (t : Nat) : Trans := ⟨ls ++ List.replicate (5 - ls.length) 0, t, 1⟩

/-- The first twelve characters of a state's name, padded with 0. -/
def nameBytes (n : String) : List Byte := padTo 12 ((n.toList.take 12).map fun c => byte c.toNat)

/-- A state record with its unused entries at 0. -/
def mkState (n : String) (flags report : Nat) (as : List Act) (ts : List Trans) : StateRec :=
  { flags := flags, report := report, actionCount := as.length, transCount := ts.length, name := nameBytes n
    acts := as ++ List.replicate (8 - as.length) ⟨0, 0, 0, 0⟩
    trans := ts ++ List.replicate (8 - ts.length) ⟨[0, 0, 0, 0, 0], 0, 0⟩ }

/-- Factory side table, slot 0. -/
def sideTable : SeqTab :=
  { kind := 0, initial := 0, faultState := 7, owner := 0, start := 0
    states := [
      mkState "CLOSED_LOCKED" 1 0 [aFlag 0 0, aFlag 1 0, aFlag 2 0, aDone 1 7] [go [lSP] 1],
      mkState "RELEASED" 1 0 [aFlag 1 0, aFlag 2 0, aFlag 0 0, aDone 1 0, aNotice 1]
        [go [lneg lSP, lLeavesLocked, lStepsIn] 0, go [lneg lSP] 3, take [lCmd 2] 3, take [lCmd 1] 2],
      mkState "OPEN_ALL" 1 0 [aFlag 0 1, aFlag 2 0]
        [go [lneg lSP] 3, take [lCmd 2] 3, go [lSideFault] 7, go [lLeavesOpen] 1],
      mkState "WARNING" 1 0 [aFlag 0 0, aFlag 1 1, aDone 1 4, aTimer 0 600, aNotice 2]
        [go [lSideFault] 7, go [lLeavesLocked, lStepsIn] 4, go [lT 0] 7, take [lCmd 2] 3],
      mkState "CONFIRM" 1 0 [aTimer 0 10] [go [lLoop] 5, go [lSideFault] 7, go [lT 0] 6],
      mkState "CLOSED" 1 0 [aFlag 1 0, aFlag 2 1, aDone 2 0]
        [go [lneg lSP] 0, take [lCmd 1] 2, take [lCmd 2] 5],
      mkState "CLOSED_UNCONF" 1 0 [aFlag 1 0, aFlag 2 1, aDone 2 6]
        [go [lneg lSP] 0, take [lCmd 1] 2, go [lLoop] 5, take [lCmd 2] 4],
      mkState "FAULT" 1 0 [aFlag 1 0, aFlag 0 0, aDone 2 5, aDone 1 5, aNotice 3]
        [go [lneg lSP, lLeavesLocked, lStepsIn] 0, take [lCmd 2] 3, take [lCmd 1] 2]] }

-- the drive-bus codes
abbrev bus80 : Nat := 3276
abbrev bus40 : Nat := 1638
abbrev busNone : Nat := 0xFFFF

/-- States 0 to 8 of the factory leaf table. -/
def leafStates0 : List StateRec := [
  mkState "CLOSED_LOCKED" 1 1 [aUnlock 0, aMove 4 0, aBus 0 busNone, aRetry 0, aOut 12 0, aOut 14 0, aOut 15 0, aDone 0 0]
    [go [lIsolated] 15, go (lHandle ++ [lDP]) 12, go [lSP, lneg lShut] 1],
  mkState "RELEASED" 1 1 [aOut 12 255]
    [go [lIsolated] 15, go (lHandle ++ [lDP]) 12, go [lneg lSP] 0, go [lShut] 0, go [lWarn] 0, go [lButton, lDP] 2,
     go [lOpenAll, lDP] 2],
  mkState "UNLOCKING" 1 0 [aUnlock 1, aTimer 0 5] [go [lneg lDP] 10, go lUnlocked 3, go [lT 0] 16],
  mkState "OPENING" 1 4 [aMove 1 0, aBus 0 bus80, aOut 12 0, aOut 15 255, aTimer 0 80]
    [go [lObstacle] 4, go [lAtTarget] 4, go [lRefused] 9, go [lT 0] 16],
  mkState "OPEN" 1 2 [aMove 2 0, aTimer 1 20]
    [go lHandle 14, go [lSideClose] 5, go [lWarn, lneg (lRetry 1)] 5, go [lWarn, lT 1] 5],
  mkState "WARNING" 1 2 [aOut 13 255, aFlash 14 5, aTimer 0 30] [go lHandle 14, go [lT 0] 6],
  mkState "CLOSING" 1 4 [aOut 13 0, aMove 0 1, aBus 0 bus80, aTimer 0 100]
    [go [lObstacle, lLimit] 11, go [lObstacle] 8, go lHandle 14, go [lInNip] 7, go [lAtTarget] 9, go [lT 0] 16],
  mkState "CLOSING_NIP" 1 4 [aBus 0 bus40]
    [go [lObstacle, lLimit] 11, go [lObstacle] 8, go lHandle 14, go [lAtTarget] 9, go [lT 0] 16],
  mkState "REVERSING" 1 4 [aMove 1 2, aBus 0 bus80, aRetry 1, aTimer 0 80]
    [go [lAtTarget] 4, go [lObstacle] 4, go [lT 0] 16]]

/-- States 9 to 16 of the factory leaf table. -/
def leafStates1 : List StateRec := [
  mkState "CLOSED" 1 0 [aMove 2 0, aTimer 0 5] [go lClosed 10, go [lT 0] 16],
  mkState "LOCKING" 1 0 [aUnlock 0, aTimer 0 10] [go (lLocked ++ lClosed) 0, go [lT 0] 16],
  mkState "OBSTRUCTED" 1 10 [aMove 1 2, aRetry 0, aFlash 14 10, aNotice 1] [go [lSideClose] 5, go lHandle 14],
  mkState "EGRESS_UNLOCK" 3 40 [aUnlock 1, aTimer 0 5] [go lUnlocked 13, go [lT 0] 14],
  mkState "EGRESS_OPEN" 3 44 [aMove 1 3, aBus 0 bus80, aTimer 0 80] [go [lAtTarget] 14, go [lObstacle] 14, go [lT 0] 14],
  mkState "EGRESS_HELD" 3 40 [aMove 4 0, aBus 0 busNone, aNotice 2] [take (lRestored ++ [lCmd 2]) 5],
  mkState "ISOLATED" 1 17 [aUnlock 0, aMove 4 0, aBus 0 busNone] [go [lneg lIsolated] 0],
  mkState "FAULT" 1 8 [aUnlock 0, aMove 3 0, aBus 0 busNone, aDone 0 5, aNotice 3]
    [take [lCmd 1, lOwnCL] 0, take [lCmd 1] 5]]

/-- Factory leaf table, slot 1. -/
def leafTable : SeqTab :=
  { kind := 1, initial := 0, faultState := 16, owner := 0, start := 0x0C06, states := leafStates0 ++ leafStates1 }

/-- Factory step table, slot 2. -/
def stepTable : SeqTab :=
  { kind := 2, initial := 0, faultState := 6, owner := 0, start := 0x0501
    states := [
      mkState "RETRACTED" 1 64 [aMove 4 0, aBus 1 busNone, aRetry 0, aDone 0 0] [go [lDP, lneg lShut, lneg lWarn] 1],
      mkState "EXTENDING" 1 4 [aMove 1 0, aBus 1 bus80, aTimer 0 50]
        [go [lObstacle] 3, go [lAtTarget, lI 0] 2, go [lT 0] 6],
      mkState "EXTENDED" 1 0 [aMove 2 0] [go [lWarn] 4, go [lShut] 4, go [lneg lDP] 4],
      mkState "STEP_HALTED" 1 0 [aMove 2 0, aNotice 4] [go [lWarn] 4, go [lShut] 4, go [lneg lDP] 4],
      mkState "RETRACTING" 1 4 [aMove 0 1, aBus 1 bus80, aTimer 0 50]
        [go [lObstacle, lLimit] 6, go [lObstacle] 5, go [lAtTarget, lI 1] 0, go [lT 0] 6],
      mkState "STEP_BACKOFF" 1 4 [aMove 1 2, aRetry 1, aTimer 1 20] [go [lT 1] 4],
      mkState "FAULT" 1 8 [aMove 3 0, aBus 1 busNone, aDone 0 5, aNotice 3] [take [lCmd 1] 4]] }

/-- The table in a slot; slots 0 to 2 are ROM, EMPTY after a failed ROM_CRC self-test (R63, R382). -/
def State.table (s : State) (t : Nat) : Option SeqTab :=
  if t ≤ 2 then
    if s.bit Obj.selfTestFail 0 || (t == 2 && s.variant.isP) then none
    else if t = 0 then some sideTable else if t = 1 then some leafTable else some stepTable
  else s.recd.tables.getD t none

/-! Loading (R62). -/

/-- What an operand or action names absolutely: a channel, an axis or a pin. -/
inductive Res where
  | chan (c : Nat)
  | axis (a : Nat)
  | pin (n : Nat)
  deriving DecidableEq, Repr

/-- A relative channel operand: its base (1 to 3) and offset. -/
structure Rel where
  base : Nat
  off : Nat
  deriving DecidableEq, Repr

/-- A literal's class and operand are defined (check 5). -/
def litDefined (l : Nat) : Bool :=
  let op := litOp l
  match litClass l with
  | 0 => op == 0
  | 1 => true
  | 2 => true
  | 3 => decide (op ≤ 9) || decide (16 ≤ op ∧ op ≤ 27)
  | 4 => decide (op % 32 ≤ 7) && (decide (op / 32 < 24) || op / 32 == 31)
  | 5 => decide (op ≤ 7)
  | 6 => decide (op % 64 ≠ 0) && op / 64 % 8 == 0
  | 7 => op / 32 % 16 == 0 && (!op.testBit 9 || decide (op % 32 ≤ 15))
  | 8 => decide (op < 32)
  | 9 => decide (op < 32)
  | 10 => decide (op ≤ 16)
  | 11 => decide (op / 16 ≤ 5)
  | 12 => op == 0
  | _ => false

/-- A literal is allowed for a Kind (check 6). -/
def litAllowed (kind l : Nat) : Bool :=
  let op := litOp l
  match litClass l with
  | 1 => kind != 0 || op / 256 == 0
  | 2 => kind != 0 || op / 256 == 0
  | 3 => if kind = 0 then decide (op ≤ 4 ∨ 16 ≤ op) else if kind = 2 then op != 6 && op != 7 else true
  | 4 => kind != 0 || op / 32 != 31
  | 5 => kind != 0 || decide (op < 4)
  | 6 => kind != 0 || !op.testBit 9
  | 8 => kind == 0
  | 9 => kind == 0
  | 10 => kind != 0
  | _ => true

/-- What a literal names absolutely. -/
def litRes (l : Nat) : List Res :=
  let op := litOp l
  match litClass l with
  | 1 => if op / 256 = 0 then [.chan op] else []
  | 2 => if op / 256 = 0 then [.chan op] else []
  | 4 => if op / 32 = 31 then [] else [.axis (op / 32)]
  | 11 => [.pin op]
  | _ => []

/-- What a literal names relatively. -/
def litRel (l : Nat) : List Rel :=
  let op := litOp l
  if (litClass l = 1 ∨ litClass l = 2) ∧ op / 256 ≠ 0 then [⟨op / 256, op % 256⟩] else []

/-- The channel field of OUT and FLASH. -/
def Act.chan (a : Act) : Nat := a.b1 + 256 * a.b2

/-- An action's opcode and operands are defined and its reserved bits 0 (check 5). Reserved bytes are 0. -/
def actDefined (a : Act) : Bool :=
  match a.op with
  | 0 => a.b1 == 0 && a.b2 == 0 && a.b3 == 0
  | 1 => a.chan / 256 % 32 == 0
  | 2 => a.chan / 256 % 32 == 0 && decide (1 ≤ a.b3 ∧ a.b3 ≤ 40)
  | 3 => decide (a.b1 ≤ 1) && a.b2 == 0 && a.b3 == 0
  | 4 => decide (a.b1 ≤ 4) && decide (a.b2 ≤ 7) && a.b3 == 0
  | 5 => decide (a.b1 ≤ 1) && (decide (a.b2 + 256 * a.b3 ≤ 4095) || (a.b2 == 255 && a.b3 == 255))
  | 6 => decide (a.b1 ≤ 3)
  | 7 => decide (a.b1 ≤ 3) && a.b2 == 0 && a.b3 == 0
  | 8 => decide (a.b1 ≤ 1) && a.b2 == 0 && a.b3 == 0
  | 9 => a.b1 / 32 % 4 == 0 && (!a.b1.testBit 7 || decide (a.b1 % 32 ≤ 15)) && decide (a.b2 ≤ 1) && a.b3 == 0
  | 10 => decide (a.b1 ≤ 63) && (a.b2 == 0 || decide (4 ≤ a.b2 ∧ a.b2 ≤ 15)) && a.b3 == 0
  | 11 => a.b2 == 0 && a.b3 == 0
  | 12 => a.b2 == 0 && a.b3 == 0
  | 13 => decide (a.b1 ≤ 1) && a.b2 == 0 && a.b3 == 0
  | _ => false

/-- An action is allowed for a Kind (check 6). -/
def actAllowed (kind : Nat) (a : Act) : Bool :=
  match a.op with
  | 1 => kind != 0 || decide (a.b2 < 64)
  | 2 => kind != 0 || decide (a.b2 < 64)
  | 3 => kind == 1
  | 4 => kind != 0
  | 8 => kind != 0
  | 9 => kind == 0
  | 13 => kind != 0
  | _ => true

def actRes (a : Act) : List Res :=
  if (a.op = 1 ∨ a.op = 2) ∧ a.b2 < 64 then [.chan a.b1] else []
def actRel (a : Act) : List Rel :=
  if (a.op = 1 ∨ a.op = 2) ∧ 64 ≤ a.b2 then [⟨a.b2 / 64, a.b1⟩] else []

/-- Actions and transitions in use. -/
def StateRec.actsUsed (r : StateRec) : List Act := r.acts.take r.actionCount
def StateRec.transUsed (r : StateRec) : List Trans := r.trans.take r.transCount

/-- Every relative operand of a table. -/
def SeqTab.rels (t : SeqTab) : List Rel :=
  litRel t.start ++ t.states.flatMap fun r =>
    r.actsUsed.flatMap actRel ++ r.transUsed.flatMap fun x => x.lits.flatMap litRel

/-- States reachable by transitions from those of a list, `n` rounds. -/
def reach (t : SeqTab) : Nat → List Nat → List Nat
  | 0, xs => xs
  | n + 1, xs =>
    let ys := xs.flatMap fun i => ((t.states[i]?).map fun r => r.transUsed.map (·.target)).getD []
    reach t n (xs ++ (ys.filter fun y => !xs.contains y).eraseDups)

/-- A refusal: the cause, the state (255 for none) and the item. -/
structure TabRefusal where
  cause : Nat
  state : Nat
  item : Nat
  deriving DecidableEq, Repr

/-- The first item of a state that a test refuses. -/
def firstBad (cause st : Nat) (bad : List Bool) : Option TabRefusal :=
  (bad.findIdx? id).map fun i => ⟨cause, st, i⟩

/-- The first refusal over the states in order. -/
def overStates (t : SeqTab) (f : Nat → StateRec → Option TabRefusal) : Option TabRefusal :=
  ((t.states.zipIdx).filterMap fun (r, i) => f i r).head?

/-- A refusal of one cause found in start literal, actions or transitions. -/
def itemCheck (cause : Nat) (t : SeqTab) (badLit : Nat → Bool) (badAct : Act → Bool)
    (badTrans : Trans → Bool) : Option TabRefusal :=
  if badLit t.start then some ⟨cause, 255, 255⟩
  else overStates t fun i r =>
    match firstBad cause i (r.actsUsed.map badAct) with
    | some x => some x
    | none => firstBad cause i (r.transUsed.map fun x => x.lits.any badLit || badTrans x)

/-- The bits that a record leaves unused are 0 (check 5). -/
def StateRec.reservedOk (r : StateRec) : Bool := decide (r.flags < 4)

/-- Checks 2 to 6 of a table whose header bytes and CRC are given; `stepsOk` is STEP_STATES (R62). -/
def SeqTab.refusal (t : SeqTab) (header : List Byte) (stepsOk : Bool) : Option TabRefusal :=
  let n := t.states.length
  if header.take 4 != [0x53, 0x51, 0x54, 0x31] || header.drop 12 != toLe 4 (crc32c (header.take 12 ++ t.states.flatMap StateRec.bytes))
  then some ⟨2, 255, 255⟩
  else if n ≤ t.initial || n ≤ t.faultState || t.owner == 0 || decide (7 < t.owner) then some ⟨3, 255, 255⟩
  else
    let c3 := overStates t fun i r =>
      if !r.flags.testBit 0 || decide (8 < r.actionCount) || decide (8 < r.transCount) then some ⟨3, i, 254⟩
      else firstBad 3 i (r.transUsed.map fun x => decide (n ≤ x.target))
    let seen := reach t 64 [t.initial, t.faultState]
    let c4 := overStates t fun i _ => if seen.contains i then none else some ⟨4, i, 254⟩
    let c5h : Option TabRefusal :=
      if decide (2 < t.kind) || (header.drop 9).take 1 != [0] then some ⟨5, 255, 255⟩ else none
    let c5s := overStates t fun i r => if r.reservedOk then none else some ⟨5, i, 254⟩
    let c5 := itemCheck 5 t (fun l => !litDefined l) (fun a => !actDefined a) (fun x => decide (1 < x.flags))
    let c6h : Option TabRefusal := if t.kind = 2 ∧ !stepsOk then some ⟨6, 255, 255⟩ else none
    let c6 := itemCheck 6 t (fun l => !litAllowed t.kind l) (fun a => !actAllowed t.kind a) (fun _ => false)
    c3 <|> c4 <|> c5h <|> c5s <|> c5 <|> c6h <|> c6

/-- A resource is present in the variant (R12). -/
def Res.present (v : Variant) : Res → Bool
  | .chan c => v.hasChan c
  | .axis a => v.hasAxis a
  | .pin _ => true

/-- A resource belongs to a function. -/
def Res.owner (s : State) : Res → Nat
  | .chan c => s.ownerOfChan c
  | .axis a => s.ownerOfAxis a
  | .pin n => s.ownerOfPin n

/-- Check 7 or 8: an absolute operand names a resource that a test refuses. -/
def SeqTab.resCheck (t : SeqTab) (cause : Nat) (bad : Res → Bool) : Option TabRefusal :=
  itemCheck cause t (fun l => (litRes l).any bad) (fun a => (actRes a).any bad) (fun _ => false)

end Sys2Proof.Machine
end

