-- ==== Sys2Proof/Machine/Sequencer.lean ====
section
/-!
DEFINITION. Machine/Sequencer.lean: the door and step sequencers (03_sequencers.md): instances and bindings, literals,
actions, the tick of R46, host commands at an instance, and the tick boundary of a drain (R258, R259).
Readings and choices in the log: DEDUCED 19, 25, 26, 27, 28, 29, 30.
-/
namespace Sys2Proof.Machine
open Sys2Proof Sys2Proof.Config

/-! Instances: 2k + s for the sides of CSQk, 8 + a for the axes (R44). -/

/-- The doorway of an axis (R44). -/
def State.doorOf (s : State) (a : Nat) : Nat := if s.variant.isStep a then s.get (Obj.stepDoorway a) else a / 2
/-- The side of an axis, true for right. -/
def State.rightOf (s : State) (a : Nat) : Bool := (s.image.door (s.doorOf a)).right

/-- The set that a function owns. -/
def State.setOfFn (s : State) (n : Nat) : Option Nat :=
  if n = 0 then none else let k := s.get (Obj.seqSet n); if k ≤ 3 then some k else none
/-- The set of an axis (R44). -/
def State.setOf (s : State) (a : Nat) : Option Nat := s.setOfFn (s.ownerOfAxis a)
/-- The side instance of an axis. -/
def State.sideOf (s : State) (a : Nat) : Option Nat := (s.setOf a).map fun k => 2 * k + bitVal (s.rightOf a)

/-- The slot that an instance's binding names. -/
def State.slotOf (s : State) (i : Nat) : Nat :=
  if i < 8 then s.get (Obj.carTable (i / 2)) else s.get (Obj.seqTable (i - 8))

/-- A table's Kind fits an instance (R45). -/
def State.kindFits (s : State) (i kind : Nat) : Bool :=
  if i < 8 then kind == 0 else if s.variant.isStep (i - 8) then kind == 2 else kind == 1

/-- The instance exists in the variant. -/
def State.hasInst (s : State) (i : Nat) : Bool :=
  if i < 8 then decide (i < 2) || !s.variant.isE else s.variant.hasAxis (i - 8)

/-- The table that an instance runs, where it can run (R57). -/
def State.tableOf (s : State) (i : Nat) : Option SeqTab :=
  if s.hasInst i && s.ownerOfInst i != 0 && decide (s.slotOf i ≤ 31) then
    (s.table (s.slotOf i)).bind fun t => if s.kindFits i t.kind then some t else none
  else none

/-- The instances of a function. -/
def State.instsOf (s : State) (n : Nat) : List Nat :=
  (List.range 32).filter fun i => s.hasInst i && s.ownerOfInst i == n

/-- Object of an instance's state number. -/
def stateKey (i : Nat) : Nat :=
  if i < 8 then (if i % 2 = 0 then Obj.leftState (i / 2) else Obj.rightState (i / 2)) else Obj.seqState (i - 8)
/-- The present state of an instance. -/
def State.stateNo (s : State) (i : Nat) : Nat := s.get (stateKey i)
/-- The record of an instance's present state. -/
def State.stateRec (s : State) (i : Nat) : Option StateRec := (s.tableOf i).bind fun t => t.states[s.stateNo i]?

/-! Channels of an instance (R45, R60). -/

/-- The channel that a base and an offset name, where it exists. -/
def State.chanAt (s : State) (i base off : Nat) : Option Nat :=
  let c := match base with
    | 0 => off
    | 1 => s.get (Obj.inputBase (i - 8)) + off
    | 2 => s.get (Obj.doorwayBase (i - 8)) + off
    | _ => s.get (Obj.auxBase (i - 8)) + off
  if (base = 0 ∨ 8 ≤ i) ∧ s.variant.hasChan c then some c else none

/-! Literals (R60). -/

/-- A timer reads true: its duration has ended at a tick (R49). -/
def SeqTimer.reads : SeqTimer → Bool
  | .expired => true
  | _ => false

/-- Axes that count in a group of a side instance, with their ReportBits (R55). -/
def State.groupBits (s : State) (i g : Nat) : List Nat :=
  ((List.range 24).filter fun a =>
    s.variant.hasAxis a && s.setOf a == some (i / 2) && (s.inst (8 + a)).running
      && (match g with
        | 0 => !s.variant.isStep a && s.rightOf a == (i % 2 == 1)
        | 1 => s.variant.isStep a && s.rightOf a == (i % 2 == 1)
        | 2 => s.rightOf a == (i % 2 == 1)
        | _ => true)).map fun a => s.get (Obj.reportBits a)

/-- The axes that count for report bit `b`: an isolated one counts for ISOLATED alone. -/
def countIn (b : Nat) (rs : List Nat) : List Bool :=
  (rs.filter fun r => b == 4 || !r.testBit 4).map (·.testBit b)

/-- The lattice term of a literal, for an instance (class LATTICE). -/
def State.latticeLit (s : State) (i op : Nat) : Bool :=
  let p := s.get Obj.permitStatus
  let a := i - 8
  let d := s.doorOf a
  let own : Option (Fin 24) := if h : a < 24 then some ⟨a, h⟩ else none
  match op with
  | 0 => p.testBit 24
  | 1 => p.testBit 25
  | 2 => p.testBit 21
  | 3 => s.lat.closed
  | 4 => p.testBit (24 + (if i < 8 then i % 2 else bitVal (s.rightOf a)))
  | 5 => decide (8 ≤ i ∧ d < 12) && p.testBit d
  | 6 => decide (8 ≤ i) && (own.map s.closedLocked).getD false
  | 7 => decide (8 ≤ i) && (own.map fun l => s.asserted (.iso l)).getD false
  | 8 => decide (8 ≤ i) && (if h : d < 12 then s.asserted (.handle ⟨d, h⟩) else false)
  | 9 => decide (8 ≤ i) && (if h : d < 12 then
      s.closedLocked ⟨2 * d, by omega⟩ && s.closedLocked ⟨2 * d + 1, by omega⟩ else false)
  | _ => decide (16 ≤ op ∧ op ≤ 27) && p.testBit (op - 16)

/-- ESCROW_OK: the free energy covers a stroke of the reading axis, of a leaf for a side instance (R303). -/
def State.escrowLit (s : State) (i : Nat) : Bool :=
  !(s.variant.isT && s.get Obj.cellCount != 0 && s.onReserve
    && decide ((s.get Obj.energyAvailable : Int) - s.get Obj.energyEscrow
      < (if i < 8 then s.get Obj.leafStrokeEnergy else s.strokeEnergy (i - 8) : Nat)))

/-- A literal without its NEG bit (table "Literal classes"). -/
def State.litHolds (s : State) (i l : Nat) : Bool :=
  let op := litOp l
  match litClass l with
  | 0 => true
  | 1 => ((s.chanAt i (op / 256) (op % 256)).map s.inputOn).getD false
  | 2 => ((s.chanAt i (op / 256) (op % 256)).map fun c => s.get (Obj.diagStatus (s.leadOf c)) != 0).getD false
  | 3 => s.latticeLit i op
  | 4 => s.st (if op / 32 = 31 then i - 8 else op / 32) (op % 32)
  | 5 =>
    if op < 4 then ((s.inst i).timers.getD op .off).reads
    else ((s.sideOf (i - 8)).map fun j => ((s.inst j).timers.getD (op - 4) .off).reads).getD false
  | 6 =>
    let at_ (j : Nat) : Bool := (s.inst j).waiting.any fun c => c.code == op % 64
    if op.testBit 9 then ((s.sideOf (i - 8)).map at_).getD false else at_ i
  | 7 =>
    let k : Option Nat := if i < 8 then some (i / 2) else s.setOf (i - 8)
    let right := if i < 8 then i % 2 == 1 else s.rightOf (i - 8)
    (k.map fun k => s.bit (Obj.carFlags k) (op % 32 + (if op.testBit 9 && right then 16 else 0))).getD false
  | 8 => (countIn (op % 8) (s.groupBits i (op / 8))).all id
  | 9 => (countIn (op % 8) (s.groupBits i (op / 8))).any id
  | 10 => decide ((if op = 16 then s.get (Obj.retryLimit (i - 8)) else op) ≤ s.get (Obj.retryCount (i - 8)))
  | 11 => s.syncBit op
  | 12 => s.escrowLit i
  | _ => false

/-- A literal is true: NEG inverts it. -/
def State.litTrue (s : State) (i l : Nat) : Bool := s.litHolds i l != litNeg l
/-- A guard: the AND of its literals. -/
def State.guardTrue (s : State) (i : Nat) (t : Trans) : Bool := t.lits.all (s.litTrue i)

/-! Host commands (R56 to R58). -/

/-- A positive HOST_CMD literal of a guard names code `c`; a SIDE literal only observes. -/
def Trans.names (t : Trans) (c : Nat) : Bool :=
  t.lits.any fun l => !litNeg l && litClass l == 6 && litOp l == c
def StateRec.names (r : StateRec) (c : Nat) : Bool := r.transUsed.any (·.names c)

/-- The set whose CmdWait and CmdLife hold for an instance. -/
def State.setNo (s : State) (i : Nat) : Nat := if i < 8 then i / 2 else (s.setOf (i - 8)).getD 0

/-- The present state of an instance names a command. -/
def State.namesCmd (s : State) (i c : Nat) : Bool := ((s.stateRec i).map (·.names c)).getD false

/-- Commands delivered before this tick become pending; one of a code that is pending joins it. -/
def joinInbox (now : Nat) (q : SeqInst) : SeqInst :=
  { q with inbox := [], waiting := q.inbox.foldl (fun w c =>
      w ++ [{ c with at_ := ((w.find? (·.code == c.code)).map (·.at_)).getD now }]) q.waiting }

/-- Pending commands of an instance that a test picks complete with a status. -/
def dropWaiting (i status : Nat) (p : SeqCmd → Bool) (s : State) : State :=
  let out := (s.inst i).waiting.filter p
  completeAll (out.map (·.flight)) status (s.onInst i fun q => { q with waiting := q.waiting.filter (!p ·) })

/-- Named commands whose CmdWait has ended complete with 16#0322 (R56). -/
def waitExpiry (i : Nat) (s : State) : State :=
  let w := ms (s.get (Obj.cmdWait (s.setNo i)))
  dropWaiting i 0x0322 (fun c => s.namesCmd i c.code && decide (c.at_ + w ≤ s.now)) s

/-- Accepted commands whose CmdLife has ended complete with 16#0323 (R58). -/
def lifeExpiry (i : Nat) (s : State) : State :=
  let w := sec (s.get (Obj.cmdLife (s.setNo i)))
  let late (c : SeqCmd) : Bool := decide (c.at_ + w ≤ s.now)
  let out := (s.inst i).accepted.filter late
  completeAll (out.map (·.flight)) 0x0323 (s.onInst i fun q => { q with accepted := q.accepted.filter (!late ·) })

/-- CMD_WAIT_EXPIRY (R56). -/
def execCmdWaitExpiry (inst : Fin 32) (s : State) : Host.Outcome State Fault Refusal :=
  s.answerLive fun s => if (s.inst inst).running then waitExpiry inst s else s

/-- CMD_LIFE_EXPIRY (R58). -/
def execCmdLifeExpiry (inst : Fin 32) (s : State) : Host.Outcome State Fault Refusal :=
  s.answerLive fun s => lifeExpiry inst s

/-- A running timer whose duration has ended reads true (R49). -/
def SeqTimer.tick (now : Nat) : SeqTimer → SeqTimer
  | .running t => if t ≤ now then .expired else .running t
  | t => t

/-- SEQ_TIMER_EXPIRY (R49). -/
def execSeqTimerExpiry (inst : Fin 32) (t : Fin 4) (s : State) : Host.Outcome State Fault Refusal :=
  s.answerLive fun s => s.onInst inst fun q => { q with timers := q.timers.modify t (SeqTimer.tick s.now) }

/-- A command delivered to an instance by its lane (R56, R57): it waits there for the next tick, or completes. -/
def deliver (i code flight : Nat) (s : State) : State :=
  if (s.inst i).running then
    holdFlight flight (s.onInst i fun q => { q with inbox := q.inbox ++ [⟨code, flight, s.now⟩] })
  else complete flight 0x0321 s

/-! Cycles (R152). -/

/-- A report that counts as closed: CLOSED_LOCKED, or RETRACTED of a step. -/
def State.closedReport (s : State) (a r : Nat) : Bool := if s.variant.isStep a then r.testBit 6 else r.testBit 0

def cycleStart (now : Nat) : Cycle :=
  { openedAt := now, outcome := 0, reversals := 0, movingAt := none, openMoveAt := now, openStrokeMs := 0
    openEndAt := none, holdMs := 0, closeMoveAt := now, closeStrokeMs := 0, closedAt := none
    peakBinOpen := 0, peakBinClose := 0, peakOpen := 0, peakClose := 0, minMargin := 32767
    learned := false, unreferenced := false, refused := false, inNip := false }

/-- The cycle record of an axis is admitted with its histograms and extreme, and the cycle closes (R152, R161, R162). -/
def closeCycle (a outcome : Nat) (s : State) : State :=
  match (s.axis a).cycle with
  | none => s
  | some c =>
    let step := s.variant.isStep a
    let since (t : Option Nat) : Nat := (t.map fun t => (s.now - t) / ms 1).getD 0
    let sat (n : Nat) : Nat := min n 65535
    let unlock := (c.movingAt.map fun t => (t - c.openedAt) / ms 1).getD 0
    let body := [byte a, byte (s.doorOf a), byte outcome, byte (min c.reversals 255)]
      ++ toLe 2 (if step then 0 else sat unlock) ++ toLe 2 (sat c.openStrokeMs) ++ toLe 4 c.holdMs
      ++ toLe 2 (sat c.closeStrokeMs) ++ toLe 2 (if step then 0 else sat (since c.closedAt))
      ++ toLe 4 ((s.now - c.openedAt) / ms 1) ++ [byte c.peakBinOpen, byte c.peakBinClose]
      ++ toLe 2 (sat c.peakOpen) ++ toLe 2 (sat c.peakClose)
      ++ toLe 2 (encSigned 16 (clampI (-32768) 32767 c.minMargin))
      ++ [byte (s.get (Obj.envState a)),
          byte (bitVal c.learned + 2 * bitVal (c.unreferenced || s.unref a) + 4 * bitVal c.refused + 8 * bitVal c.inNip),
          0, 0]
    let s := s.onAxis a fun x => { x with cycle := none }
    let s := admitEvent 0 (if step then 2 else 1) (s.srcAxis a) body s
    let s := histoCount (4 * a) c.openStrokeMs s
    let s := histoCount (4 * a + 1) c.closeStrokeMs s
    let s := histoCount (4 * a + 2) c.peakClose s
    let s := histoCount (4 * a + 3) c.reversals s
    extremeSample (2 * a + 1) c.closeStrokeMs s

/-! Actions (R61). -/

/-- The write of an OUT or FLASH action: channel and value, a flash as 256 + half-period; none where R51 says that it is
none. -/
def State.outWrite (s : State) (i : Nat) (x : Act) : Option (Nat × Nat) :=
  if x.op ≠ 1 ∧ x.op ≠ 2 then none
  else if x.b2.testBit 5 && decide (8 ≤ i) && s.get (Obj.role (i - 8)) != 0 then none
  else
    match s.chanAt i (x.b2 / 64) x.b1 with
    | none => none
    | some c =>
      if s.isUnlock c || s.get (Obj.outputSource c) == 1 || s.mode c == 8 then none
      else some (c, if x.op = 1 then x.b3 else 256 + x.b3)

/-- Two instances of a tick write different values to one output (R51). -/
def hasConflict (ws : List (Nat × Nat × Nat)) : Bool :=
  ws.any fun (i, c, v) => ws.any fun (j, d, w) => i != j && c == d && v != w

/-- An instance's drive-bus request is set or withdrawn; a motion on that bus whose target moves by another's request
is not clean (R52, R83). -/
def requestBus (i j : Nat) (v : Option Nat) (s : State) : State :=
  let t := s.onInst i fun q => if j = 0 then { q with dbus0 := v } else { q with dbus1 := v }
  if t.busTarget j == s.busTarget j then t
  else each (s.axes24.filter fun a => a + 8 != i && s.toEnd a
      && (if j = 0 then (s.inst (8 + a)).dbus0 else (s.inst (8 + a)).dbus1).isSome)
    (fun a s => s.onAxis a fun x => { x with clean := false }) t

/-- The byte by which a record or notice names an instance. -/
def instByte (i : Nat) : Nat := if i < 8 then 0x40 + i else i - 8

/-- Notice class and number of an instance. -/
def instSource (i : Nat) : Nat × Nat := if i < 8 then (2, i) else (3, i - 8)

/-- An action other than RECORD is carried out in a state (R49, R50, R52, R53, R58, R61). -/
def act (i : Nat) (r : StateRec) (x : Act) (s : State) : State :=
  let a := i - 8
  match x.op with
  | 1 => match s.outWrite i x with
    | some (c, v) => setBase c v s
    | none => s
  | 2 => match s.outWrite i x with
    | some (c, v) => setFlash c (v - 256) s
    | none => s
  | 3 =>
    let s := s.onInst i fun q => { q with unlock := x.b1 == 1 }
    let e := s.image.leaf a
    if e.enabled && e.unlock != noChan then setUnlock e.unlock (x.b1 == 1) s else s
  | 4 => if 8 ≤ i then moveAxis a x.b1 x.b2 (r.flags.testBit 1) s else s
  | 5 =>
    let v := x.b2 + 256 * x.b3
    requestBus i x.b1 (if v = 0xFFFF then none else some v) s
  | 6 =>
    let n := x.b2 + 256 * x.b3
    let d := if n.testBit 15 then ms (100 * (n % 32768)) else ms n
    s.onInst i fun q => { q with timers := q.timers.set x.b1 (.running (s.now + d)) }
  | 7 => s.onInst i fun q => { q with timers := q.timers.set x.b1 .off }
  | 8 => s.put (Obj.retryCount a) (if x.b1 = 0 then 0 else min 15 (s.get (Obj.retryCount a) + 1))
  | 9 => s.setBit (Obj.carFlags (i / 2)) (x.b1 % 32 + (if x.b1.testBit 7 then 16 * (i % 2) else 0)) (x.b2 == 1)
  | 10 =>
    let mine (c : SeqCmd) : Bool := x.b1 == 0 || c.code == x.b1
    let out := (s.inst i).accepted.filter mine
    completeAll (out.map (·.flight)) (if x.b2 = 0 then 0 else 0x0320 + x.b2)
      (s.onInst i fun q => { q with accepted := q.accepted.filter (!mine ·) })
  | 11 =>
    let (c, n) := instSource i
    let w := if i < 8 then s.get (Obj.carFlags (i / 2)) % 65536 else s.get (Obj.reportBits a)
    let retry := if i < 8 then 0 else s.get (Obj.retryCount a)
    raise c n 2 ([byte (instByte i), byte (s.stateNo i), byte x.b1, byte retry] ++ toLe 2 w) false s
  | 13 => s.onAxis a fun y => { y with verdict := some (x.b1 == 1) }
  | _ => s

/-- SEQ_EVENT of a RECORD action (R152). -/
def recordAct (i code : Nat) (s : State) : State :=
  let a := i - 8
  let w := if i < 8 then s.get (Obj.carFlags (i / 2)) % 65536 else s.axisStatusView a
  let retry := if i < 8 then 0 else s.get (Obj.retryCount a)
  admitEvent 1 0x12 (if i < 8 then s.srcSide i else s.srcAxis a)
    ([byte (instByte i), byte (s.stateNo i), byte code, 0] ++ toLe 2 w ++ [byte retry, 0]) s

/-- A state that an instance enters: its number, and by which transition. -/
structure Entry where
  inst : Nat
  state : Nat
  rec_ : StateRec
  /-- the transition was taken on OBSTACLE (R152) -/
  onObstacle : Bool
  deriving DecidableEq, Repr

/-- The cycle of an axis notes the state that it enters; leaving a closed state opens one (R152). -/
def cycleEnter (e : Entry) (s : State) : State :=
  let a := e.inst - 8
  if e.inst < 8 then s
  else
    let was := s.closedReport a (s.get (Obj.reportBits a))
    let is := s.closedReport a e.rec_.report
    s.onAxis a fun x =>
      { x with cycle :=
          (if was && !is && x.cycle.isNone then some (cycleStart s.now) else x.cycle).map fun c =>
            { c with reversals := c.reversals + bitVal e.onObstacle
                     outcome := if e.rec_.report.testBit 5 then 2
                       else if e.rec_.report.testBit 3 then max 1 c.outcome else c.outcome } }

/-- An instance enters a state: its objects, and the end of FAULT as it leaves FaultState (R73). -/
def enterState (e : Entry) (s : State) : State :=
  let s := cycleEnter e s
  let left := ((s.tableOf e.inst).map fun t => s.stateNo e.inst == t.faultState && e.state != t.faultState).getD false
  let s := s.put (stateKey e.inst) e.state
  if e.inst < 8 then s
  else
    let s := s.put (Obj.reportBits (e.inst - 8)) e.rec_.report
    if left && s.st (e.inst - 8) stFault then clearFault (e.inst - 8) s else s

/-- The entry actions of a state, RECORD aside. -/
def entryActs (e : Entry) (s : State) : State := each e.rec_.actsUsed (act e.inst e.rec_) s

/-- Number of the resource that an instance's records name. -/
def State.srcOfInst (s : State) (i : Nat) : Nat := if i < 8 then s.srcSide i else s.srcAxis (i - 8)

/-- An entry inserted in ascending Source (R150). -/
def insertEntry (s : State) (e : Entry) : List Entry → List Entry
  | [] => [e]
  | x :: xs => if s.srcOfInst e.inst < s.srcOfInst x.inst then e :: x :: xs else x :: insertEntry s e xs

/-- The records of a tick in ascending Source: cycles that end, and RECORD actions. -/
def entryRecords (es : List Entry) (s : State) : State :=
  each (es.foldl (fun l e => insertEntry s e l) []) (fun e s =>
    let a := e.inst - 8
    let s := if 8 ≤ e.inst && s.closedReport a e.rec_.report then
        closeCycle a (if e.rec_.report.testBit 4 then 3 else (((s.axis a).cycle).map (·.outcome)).getD 0) s
      else s
    each (e.rec_.actsUsed.filter (·.op == 12)) (fun x => recordAct e.inst x.b1) s) s

/-- Every state entered in one evaluation, with its actions (R17, R46, R51). -/
def enterAll (es : List Entry) (s : State) : State :=
  if es.isEmpty then s
  else
    let ws := es.flatMap fun e => (e.rec_.actsUsed.filterMap (s.outWrite e.inst)).map fun w => (e.inst, w)
    let s := each es enterState s
    let s := each es entryActs s
    let s := if hasConflict ws then s.inc Obj.outputConflictCount else s
    let s := entryRecords es s
    s.onPow fun p => { p with seqEnteredAt := s.now }

/-! Starting and stopping instances (R48, R57, R255, R258, R259). -/

/-- The instances of a list start: each evaluates its StartLiteral and enters InitialState or FaultState (R48). A datum
of R101 comes before. -/
def startInsts (is : List Nat) (s : State) : State :=
  let is := is.filter fun i => (s.tableOf i).isSome
  let s := each (is.filter (8 ≤ ·)) (fun i => datumAtStart (i - 8)) s
  let es := is.filterMap fun i =>
    (s.tableOf i).bind fun t =>
      let n := if s.litTrue i t.start then t.initial else t.faultState
      (t.states[n]?).map fun r => (⟨i, n, r, false⟩ : Entry)
  let s := each is (fun i s => s.onInst i fun q =>
    { q with running := true, forced := false, timers := [.off, .off, .off, .off], inbox := [], waiting := [], accepted := [] }) s
  enterAll es s

/-- Action that DisableAction names: as MOVE STOP, BRAKE or RELEASE. -/
def disableTarget (v : Nat) : Nat := match v with
  | 0 => 2
  | 1 => 3
  | _ => 4

/-- The axes of a list take DisableAction `v`, one in a MANDATORY state RELEASE; one under RELEASE stays so (R259). -/
def disableAxes (as : List Nat) (v : Nat) (s : State) : State :=
  each as (fun a s =>
    if s.target a = 4 then s
    else
      let mand := ((s.stateRec (8 + a)).map fun r => r.flags.testBit 1).getD false && (s.inst (8 + a)).running
      moveAxis a (if mand then 4 else disableTarget v) (s.get (Obj.activeProfile a)) true s) s

/-- Axes of a function. -/
def State.axesOf (s : State) (n : Nat) : List Nat := s.axes24.filter fun a => s.ownerOfAxis a == n

/-- An output of a function takes its orphan state, except where R259 leaves it. -/
def orphanOutputs (cs : List Nat) (s : State) : State :=
  each cs (fun c s => if s.mode c = 8 then s else setOrphan c true s) s

/-- The tick boundary of a drain (R258, R259). -/
def drainBoundary (n : Nat) (s : State) : State :=
  let f := s.fn n
  let code := if f.resetPending then 0x0703 else 0x0702
  let is := s.instsOf n
  let dis := s.get (Obj.disableAction n)
  let s := each is (fun i s =>
    let q := s.inst i
    let cmds := q.inbox ++ q.waiting ++ q.accepted
    let s := s.onInst i fun q =>
      { q with timers := [.off, .off, .off, .off], inbox := [], waiting := [], accepted := [], forced := false }
    let s := if 8 ≤ i then s.put (Obj.retryCount (i - 8)) 0 else s
    completeAll (cmds.map (·.flight)) code (s.addTo (Obj.abortedCount n) cmds.length)) s
  let s := match s.setOfFn n with
    | some k => s.put (Obj.carFlags k) 0
    | none => s
  let s := disableAxes (s.axesOf n) dis s
  let s := if dis = 0 then s
    else each is (fun i s => requestBus i 0 none (requestBus i 1 none s)) s
  let s := each is (fun i s => s.onInst i fun q => { q with running := false, unlock := false }) s
  let s := orphanOutputs (s.chansOfFn n) s
  let s := orphanPins (s.pinsOf n) s
  s.onFn n fun f => { f with boundary := true }

/-! The tick (R46, R47, R56, R58). -/

/-- The transition that an instance takes: forced into FaultState, or its first one with a true guard. -/
def State.decide1 (s : State) (i : Nat) : Option (Entry × Option Trans) :=
  (s.tableOf i).bind fun t =>
    if (s.inst i).forced then
      (t.states[t.faultState]?).map fun r => (⟨i, t.faultState, r, false⟩, none)
    else
      (t.states[s.stateNo i]?).bind fun r =>
        (r.transUsed.find? (s.guardTrue i)).bind fun x =>
          (t.states[x.target]?).map fun r' =>
            (⟨i, x.target, r', x.lits.any fun l => !litNeg l && litClass l == 4 && litOp l % 32 == 2
              && (litOp l / 32 == 31 || litOp l / 32 + 8 == i)⟩, some x)

/-- TAKE: the commands that the guard names become accepted (R58). -/
def acceptTaken (i : Nat) (t : Trans) (s : State) : State :=
  if t.flags.testBit 0 then
    s.onInst i fun q =>
      { q with waiting := q.waiting.filter fun c => !t.names c.code
               accepted := q.accepted ++ ((q.waiting.filter fun c => t.names c.code).map fun c => { c with at_ := s.now }) }
  else s

/-- One evaluation of every running instance (R17, R46). -/
def evaluate (s : State) : State :=
  let is := (List.range 32).filter fun i => (s.inst i).running
  let s := each is (fun i s => s.onInst i fun q =>
    { joinInbox s.now q with timers := q.timers.map (SeqTimer.tick s.now) }) s
  let s := each is (fun i s => waitExpiry i s) s
  let ds := is.filterMap s.decide1
  let s := each ds (fun d s => match d.2 with
    | some t => acceptTaken d.1.inst t s
    | none => s.onInst d.1.inst fun q => { q with forced := false }) s
  let s := each is (fun i s => lifeExpiry i (dropWaiting i 0x0321 (fun c => !s.namesCmd i c.code) s)) s
  let s := enterAll (ds.map (·.1)) s
  if ds.isEmpty then s else dozeExit s

/-- A tick is due: TB has reached a further multiple of 100 µs, in DOZE of 10 ms (R46, R308). -/
def State.tickDue (s : State) : Bool :=
  let step := if s.get Obj.powerState == 2 then 10000 else 100
  (s.seq.lastTick.map fun t => decide (t / (step / 100) < s.tb / step)).getD true

/-- The tick (R46): the boundary of functions that drain, then the evaluation. -/
def seqTick (s : State) : State :=
  if s.tickDue then
    let s := { s with seq := { s.seq with lastTick := some (s.tb / 100) } }
    let s := each s.fns17 (fun n s => if s.fnState n == 2 && !(s.fn n).boundary then drainBoundary n s else s) s
    let s := evaluate s
    s.onRst fun r => { r with lastTickAt := s.now }
  else s

end Sys2Proof.Machine
end

