-- ==== Sys2Proof/Machine/Network.lean ====
section
/-!
DEFINITION. Machine/Network.lean: the network ports, the switch with its egress queues, the bypass and the transparent
clock (10_network_ports.md). A port frame is one command: it is received whole, and cut-through decides whether a bad FCS
was seen in time.
Readings and choices in the log: DESIGN CHOICE 142, 143; DEDUCED 31, 32, 33, 34, 35, 36, 37, 38, 39, 40, 50, 67.
-/
namespace Sys2Proof.Machine
open Sys2Proof

/-! Ports and the frame buffer (R189, R190). -/

def State.port (s : State) (p : Nat) : PortUnit := s.net.ports.getD p PortUnit.reset
def State.onPort (p : Nat) (f : PortUnit → PortUnit) (s : State) : State :=
  s.onNet fun n => { n with ports := n.ports.modify p f }
def State.onBypass (f : Bypass → Bypass) (s : State) : State := s.onNet fun n => { n with bypass := f n.bypass }
/-- Ports of the variant. -/
def State.portList (s : State) : List Nat := if s.variant.hasNb then [0, 1] else [0]
/-- Port `p` is the port that BlockedPort names (R193). -/
def State.blocked (s : State) (p : Nat) : Bool := s.get Obj.blockedPort == p + 1
/-- Frames pass on port `p`. -/
def State.portHears (s : State) (p : Nat) : Bool := s.portList.contains p && (s.port p).up && !s.blocked p
/-- An object of 16#1240 as the latest logic-die reset took it (R195). -/
def State.ipObj (s : State) (k : Nat) : Nat := ((s.net.ip.find? (·.1 == k)).map (·.2)).getD (s.get k)

/-- Cells of 256 bytes that a frame takes. -/
def cellsOf (len : Nat) : Nat := (len + 255) / 256
def cellSum (fs : List NetFrame) : Nat := (fs.map (·.cells)).sum
/-- Cells in an egress queue, the frame being sent included in its own. -/
def PortUnit.queueCells (u : PortUnit) (q : Nat) : Nat :=
  cellSum (u.queues.getD q []) + (match u.sending with | some f => if f.q = q then f.cells else 0 | none => 0)
/-- Cells of frames from NI. -/
def State.niCells (s : State) : Nat :=
  cellSum s.net.niWait + (s.net.ports.map fun u =>
    cellSum ((u.queues.flatten ++ u.sending.toList).filter (·.ingress.isNone))).sum
/-- Cells in use, and BufferFree. -/
def State.bufferFree (s : State) : Nat :=
  512 - (cellSum s.net.niWait + (s.net.ports.map PortUnit.cells).sum)
/-- Cells reserved for the egress queues that they do not use. -/
def State.queueReserve (s : State) : Nat :=
  (s.net.ports.map fun u => ((List.range 4).map fun q => 4 - u.queueCells q).sum).sum
/-- Cells free to a transit frame (R189). -/
def State.transitFree (s : State) : Nat := s.bufferFree - s.queueReserve - (32 - s.niCells)
/-- Cells free to a frame from NI. -/
def State.niFree (s : State) : Nat := s.bufferFree - s.queueReserve

/-- Egress queue of a PCP. -/
def queueOf (pcp : Nat) : Nat := min 3 (pcp / 2)

/-- A count of a port's counters. -/
def countPort (k p n : Nat) (s : State) : State := s.addTo (k + 256 * p) n

/-! Transmission (R187, R190, R194, R201). -/

/-- The frame at the head of a queue is older than FrameMaxAge. -/
def State.aged (s : State) (f : NetFrame) : Bool := decide (f.at_ + ms (s.get Obj.frameMaxAge) < s.now)

/-- Aged frames of the link egress queue are discarded (R228), counted in DiscardAge of NA. -/
def ageLink (s : State) : State :=
  let keep := s.host.linkEgress.filter fun f => !decide (f.at_ + ms (s.get Obj.frameMaxAge) < s.now)
  let n := s.host.linkEgress.length - keep.length
  if n = 0 then s else moveFill 10 (countPort (Obj.discardAge 0) 0 n (s.onHost fun h => { h with linkEgress := keep }))

/-- A queue without the aged frames at its head. -/
def State.dropAged (s : State) (q : List NetFrame) : List NetFrame := q.dropWhile s.aged

/-- The heads of a port's queues that are too old are discarded (R194). -/
def ageHeads (p : Nat) (s : State) : State :=
  let u := s.port p
  let qs := u.queues.map s.dropAged
  let n := u.queues.flatten.length - qs.flatten.length
  if n = 0 then s else countPort (Obj.discardAge 0) p n (s.onPort p fun u => { u with queues := qs })

/-- The highest queue that holds a frame gives up its first one. -/
def popHighest : List (List NetFrame) → Option (NetFrame × List (List NetFrame))
  | [] => none
  | q :: qs =>
    match popHighest qs with
    | some (f, rest) => some (f, q :: rest)
    | none => match q with
      | [] => none
      | f :: r => some (f, r :: qs)

/-- The transmitter takes the next frame where it can send (R190). -/
def serve (p : Nat) (s : State) : State :=
  let s := ageHeads p s
  let u := s.port p
  let s := if u.up && u.sending.isNone && u.wakeAt.isNone then
      match popHighest u.queues with
      | some (f, qs) => s.onPort p fun u => { u with queues := qs, sending := some f }
      | none => s
    else s
  let s := if (s.port p).cells = 0 ∧ 0 < u.cells then s.onPort p fun u => { u with emptySince := s.now } else s
  moveFill (6 + p) s

/-- A frame joins its egress queue; a port in LPI begins to wake (R190, R194, R201). -/
def enqueue (p : Nat) (f : NetFrame) (s : State) : State :=
  if !(s.port p).up then countPort (Obj.discardAge 0) p 1 s
  else if s.blocked p then countPort (Obj.discardBlocked 0) p 1 s
  else
    let s := s.onPort p fun u => { u with queues := u.queues.modify f.q fun q => q ++ [f] }
    let s := if s.bit (Obj.portStatus p) 4 then
        (s.setBit (Obj.portStatus p) 4 false).onPort p fun u => { u with wakeAt := some (s.now + us 30) }
      else s
    serve p (moveFill (6 + p) s)

/-- A frame waits in a queue of the same or a higher priority (R187). -/
def State.waitsAbove (s : State) (p q : Nat) : Bool := ((s.port p).queues.drop q).any fun x => !x.isEmpty

/-- A frame for port `p` cuts through: link up, no LPI, transmitter idle, nothing before it (R187). -/
def State.cutsThrough (s : State) (p q len : Nat) : Bool :=
  let u := s.port p
  u.up && !s.bit (Obj.portStatus p) 4 && u.wakeAt.isNone && u.sending.isNone && !s.waitsAbove p q
    && decide (s.get Obj.cutThroughRx ≤ len ∧ s.get Obj.cutThroughRx < 1522)

/-- EGRESS_FRAME_END (R188, R189): a frame finishes leaving its port, its cells are freed and the next one starts. -/
def execEgressFrameEnd (p : Fin 2) (s : State) : Host.Outcome State Fault Refusal :=
  s.answerLive fun s =>
    match (s.port p).sending with
    | none => s
    | some f =>
      let s := s.onPort p fun u => { u with sending := none }
      let s := countPort (Obj.txOctets 0) p f.frame.len (countPort (Obj.txFrames 0) p 1 s)
      let s := if f.stomp then countPort (Obj.txStomped 0) p 1 s else s
      let s := if (s.port p).cells = 0 then s.onPort p fun u => { u with emptySince := s.now } else s
      serve p (moveFill (6 + p) s)

/-- FRAME_AGE_DISCARD (R194, R228): a head older than FrameMaxAge is discarded, and what has aged in the link egress
queue. -/
def execFrameAgeDiscard (p : Fin 2) (s : State) : Host.Outcome State Fault Refusal :=
  s.answerLive fun s =>
    let s := ageLink s
    if (s.port p).queues.any fun q => (q.head?.map s.aged).getD false then serve p s else s

/-! Learning (R186). -/

/-- A source address that is no group address is learned, or refreshed. -/
def learn (mac p : Nat) (s : State) : State :=
  if mac / 2 ^ 40 % 2 = 1 then s
  else
    s.onNet fun n =>
      if n.learned.any (·.mac == mac) then
        { n with learned := n.learned.map fun e => if e.mac == mac then ⟨mac, p, s.now⟩ else e }
      else if n.learned.length < 512 then { n with learned := n.learned ++ [⟨mac, p, s.now⟩] }
      else n

/-- The learning table empties. -/
def flushLearning (s : State) : State := s.onNet fun n => { n with learned := [] }

/-- The port learned for an address. -/
def State.learnedPort (s : State) (mac : Nat) : Option Nat := (s.net.learned.find? (·.mac == mac)).map (·.port)

/-- LEARN_AGEING (R186): an entry that has not been refreshed for LearnAgeing ages out. -/
def execLearnAgeing (mac : Nat) (s : State) : Host.Outcome State Fault Refusal :=
  s.answerLive fun s => s.onNet fun n =>
    { n with learned := n.learned.filter fun e =>
        !(e.mac == mac && decide (e.at_ + sec (s.get Obj.learnAgeing) ≤ s.now)) }

/-! VLAN filtering (R192). -/

/-- The valid entry of a VID: its member ports and its untag ports. -/
def State.vlanEntry (s : State) (vid : Nat) : Option (Nat × Nat) :=
  ((List.range 16).map fun i => s.get (Obj.vlanEntry0 + i)).findSome? fun v =>
    if u16At v 0 / 32768 = 1 ∧ u16At v 0 % 4096 = vid then some (u8At v 2, u8At v 3) else none

/-- VID of a frame received on port `p`. -/
def State.vidOf (s : State) (p : Nat) (f : EthFrame) : Nat :=
  match f.tag with
  | some (_, v) => if v % 4096 = 0 then s.get (Obj.pvid p) else v % 4096
  | none => s.get (Obj.pvid p)

/-- The frame as it leaves on a port with its tag decided: kept as it came without filtering. -/
def State.tagFor (s : State) (ingress p : Nat) (f : EthFrame) : EthFrame :=
  if !s.flag Obj.vlanFiltering then f
  else
    let vid := s.vidOf ingress f
    let untag := ((s.vlanEntry vid).map fun e => e.2.testBit p).getD false
    match f.tag with
    | some (pcp, _) => if untag then { f with tag := none, len := f.len - 4 } else { f with tag := some (pcp, vid) }
    | none => if untag then f else { f with tag := some (s.get (Obj.defaultPcp ingress), vid), len := f.len + 4 }

/-- A frame of port `p` may enter, and leave by a port, under the VLAN filter. -/
def State.vlanIn (s : State) (p : Nat) (f : EthFrame) : Bool :=
  !s.flag Obj.vlanFiltering || ((s.vlanEntry (s.vidOf p f)).map fun e => e.1.testBit p).getD false
def State.vlanOut (s : State) (ingress p : Nat) (f : EthFrame) : Bool :=
  !s.flag Obj.vlanFiltering || ((s.vlanEntry (s.vidOf ingress f)).map fun e => e.1.testBit p).getD false

/-! Reception (R183, R185, R188, R193). -/

/-- A reserved group address, 01-80-C2-00-00-00 to -0F. -/
def isReserved (d : Nat) : Bool := d / 16 == 0x0180C2000000 / 16

/-- A frame received on `p` goes to the other port where the table "Forwarding" sends it there. -/
def State.toOther (s : State) (p : Nat) (f : EthFrame) : Bool :=
  if f.dst = Config.mac then false
  else if f.dst / 2 ^ 40 % 2 = 1 then !isReserved f.dst
  else s.learnedPort f.dst != some p

/-- A transit frame is admitted to the buffer, or discarded (R188, R189). -/
def transit (p : Nat) (f : EthFrame) (s : State) : State :=
  let o := 1 - p
  if !s.portList.contains o then s
  else if s.blocked o then countPort (Obj.discardBlocked 0) o 1 s
  else if s.transitFree < 6 then countPort (Obj.discardBuffer 0) p 1 s
  else
    let pcp := (f.tag.map (·.1)).getD (s.get (Obj.defaultPcp p))
    let q := queueOf pcp
    let cut := s.cutsThrough o q f.len
    if !f.fcsOk && !cut then s
    else
      let g := s.tagFor p o f
      enqueue o { frame := g, ingress := some p, at_ := s.now, cells := cellsOf g.len, q := q
                  stomp := !f.fcsOk, tx := none } s

/-- PORT_FRAME_RX (R183, R185, R186, R188, R192, R193): a frame received on NA or NB. What NI does with a frame for the
device is the command of that frame's kind. -/
def execPortFrameRx (p : Fin 2) (f : EthFrame) (s : State) : Host.Outcome State Fault Refusal :=
  s.answerLive fun s =>
    if !(s.portList.contains p.val && (s.port p).up) then s
    else if f.len < 64 then countPort (Obj.rxRunts 0) p 1 s
    else if 1522 < f.len then countPort (Obj.rxTooLong 0) p 1 s
    else
      let s := countPort (Obj.rxOctets 0) p f.len (countPort (Obj.rxFrames 0) p 1 s)
      let s := if f.fcsOk then s else countPort (Obj.rxFcsErrors 0) p 1 s
      if s.blocked p then countPort (Obj.discardBlocked 0) p 1 s
      else if isReserved f.dst || f.kind == .pause then countPort (Obj.discardReserved 0) p 1 s
      else if !s.vlanIn p f then countPort (Obj.discardVlan 0) p 1 s
      else
        let s := if f.fcsOk then learn f.src p s else s
        if s.toOther p f && s.vlanOut p (1 - p) f then transit p f s else s

/-! Frames from NI (R185, R187, R189, R191). -/

/-- A frame of the device, with its queue and tag (R191). -/
def State.ownFrame (s : State) (dst len pcp q : Nat) (kind : FrameKind) (tx : Option TxFrame) : NetFrame :=
  let vid := s.get Obj.managementVid
  let l := max 64 (if vid = 0 then len else len + 4)
  { frame := ⟨dst, Config.mac, if vid = 0 then none else some (pcp, vid), l, true, kind⟩
    ingress := none, at_ := s.now, cells := cellsOf l, q := q, stomp := false, tx := tx }

/-- A frame completes in NI, where its cells are free (R189, R275). -/
def niReady (len : Nat) (s : State) : Bool := decide (cellsOf (max 64 (len + 4)) ≤ s.niFree)

/-- Ports by which a frame from NI may leave (R185, R192, R193). -/
def State.niPorts (s : State) (dst : Nat) : List Nat :=
  let ports := if dst / 2 ^ 40 % 2 = 1 then s.portList
    else match s.learnedPort dst with
      | some p => [p]
      | none => s.portList
  let vid := s.get Obj.managementVid
  let member (p : Nat) : Bool := !s.flag Obj.vlanFiltering || vid == 0
    || ((s.vlanEntry vid).map fun e => e.1.testBit 2 && e.1.testBit p).getD false
  ports.filter fun p => !s.blocked p && member p

/-- A frame of the device goes to its egress queues. -/
def sendOwn (f : NetFrame) (s : State) : State :=
  each (s.niPorts f.frame.dst) (fun p => enqueue p f) s

/-- NI_FRAME_TX (R185, R187): the first frame that waits in NI is queued. `dst` is the address that its destination
resolves to. -/
def execNiFrameTx (dst : Nat) (s : State) : Host.Outcome State Fault Refusal :=
  s.answerLive fun s =>
    match s.net.niWait with
    | [] => s
    | f :: r =>
      let s := s.onNet fun n => { n with niWait := r }
      let d := if f.frame.dst = 0 then dst % 2 ^ 48 else f.frame.dst
      sendOwn { f with frame := { f.frame with dst := d } } s

/-- ARP_REQUEST (R195): a request for IpAddress is answered on Q1 with PCP 2. -/
def execArpRequest (p : Fin 2) (target sender : Nat) (s : State) : Host.Outcome State Fault Refusal :=
  s.answerLive fun s =>
    if s.portHears p && target == s.ipObj Obj.ipAddress && niReady 64 s then
      sendOwn (s.ownFrame (sender % 2 ^ 48) 64 2 1 .data none) s
    else s

/-- ICMP_ECHO (R195): an echo request of up to 1472 data bytes is answered on Q1 with PCP 2. -/
def execIcmpEcho (p : Fin 2) (target sender bytes : Nat) (s : State) : Host.Outcome State Fault Refusal :=
  s.answerLive fun s =>
    if s.portHears p && target == s.ipObj Obj.ipAddress && decide (bytes ≤ 1472) && niReady (46 + bytes) s then
      sendOwn (s.ownFrame (sender % 2 ^ 48) (46 + bytes) 2 1 .data none) s
    else s

/-! Best master clock (R202). -/

/-- Order of the best master clock algorithm: the data sets compared field by field. -/
def announceBetter (a b : Announce) : Bool :=
  let key (x : Announce) : List Nat :=
    [x.priority1, x.clockClass, x.accuracy, x.variance, x.priority2, x.grandmaster, x.steps, x.sender]
  decide (key a < key b)

/-- The best Announce of a port. -/
def State.portMaster (s : State) (p : Nat) : Option Announce :=
  if s.portHears p then (s.net.ptp.masters.getD p none).map (·.ann) else none

/-- The port in SLAVE: the one that receives the best master. -/
def State.slavePort (s : State) : Option Nat :=
  if !s.flag Obj.ptpEnable then none
  else match s.portMaster 0, s.portMaster 1 with
    | some a, some b => if announceBetter b a then some 1 else some 0
    | some _, none => some 0
    | none, some _ => some 1
    | none, none => none

/-- Port state of IEEE 1588: 4 LISTENING, 7 PASSIVE, 9 SLAVE; 0 where no clock runs. -/
def State.ocState (s : State) (p : Nat) : Nat :=
  if !s.flag Obj.ptpEnable || !s.portHears p then 0
  else if s.slavePort = some p then 9
  else if (s.portMaster p).isSome then 7 else 4

/-- The port states follow the algorithm; a new master starts the measurement afresh, and a clock that leaves SLAVE while
the calendar is disciplined goes into HOLDOVER (R202, R328). -/
def settleClock (s : State) : State :=
  let old := s.get Obj.ocPortState
  let s := s.put Obj.ocPortState (s.ocState 0 + 256 * (if s.variant.hasNb then s.ocState 1 else 0))
  let fresh (s : State) : State := s.onNet fun n =>
    { n with ptp := { n.ptp with syncPending := none, sync := none, delayReq := none, delayNext := s.now } }
  match s.slavePort with
  | some p =>
    let id := ((s.portMaster p).map (·.sender)).getD 0
    let was := if old % 256 = 9 then some 0 else if old / 256 = 9 then some 1 else none
    if s.get Obj.parentPortIdentity == id && was == some p then s
    else fresh (s.put Obj.parentPortIdentity id)
  | none =>
    let was := old % 256 == 9 || old / 256 == 9
    let s := fresh s
    if was && (s.get Obj.calState == 2 || s.get Obj.calState == 3) then s.put Obj.calState 4 else s

/-- Links (R184, R194). A link goes down: its queues empty at once, and the learning table. -/
def linkLost (p : Nat) (s : State) : State :=
  let u := s.port p
  if !u.up then s
  else
    let n := u.queues.flatten.length
    let s := s.onPort p fun u => { u with up := false, queues := [[], [], [], []], sending := none, wakeAt := none
                                          emptySince := s.now }
    let s := s.put (Obj.portStatus p) (s.get (Obj.portStatus p) &&& 0x1C0)
    let s := countPort (Obj.discardAge 0) p n (countPort (Obj.linkDownCount 0) p 1 s)
    let s := s.onNet fun n => { n with ptp := { n.ptp with masters := n.ptp.masters.set p none } }
    settleClock (moveFill (6 + p) (flushLearning s))

/-- LINK_DOWN (R194). -/
def execLinkDown (p : Fin 2) (s : State) : Host.Outcome State Fault Refusal :=
  s.answerLive fun s => linkLost p s

/-! Bypass (R196 to R200). -/

/-- Coils off, BYPASSED. -/
def toBypassed (s : State) : State :=
  (s.put Obj.bypassState 0).onBypass fun b => { b with coils := false, passed := false, since := s.now }

/-- LOOPBACK of the present ports. -/
def loopback (on : Bool) (s : State) : State := each s.portList (fun p => State.setBit (Obj.portStatus p) 8 on) s

/-- R199: coils off and BYPASSED without a retry delay. FAILED is left only by a reset. -/
def dropBypass (s : State) : State :=
  if s.get Obj.bypassState == 4 then s.onBypass fun b => { b with coils := false }
  else (toBypassed (loopback false s)).onBypass fun b => { b with retryAt := s.now, delay := 0 }

/-- The PHYs are powered down. -/
def physOff (s : State) : State :=
  each s.portList linkLost (loopback false (s.onBypass fun b => { b with phys := false }))

/-- FAILED with its cause: coils off, PHYs powered down, and a fault record (R198). -/
def bypassFailed (cause : Nat) (s : State) : State :=
  let s := (s.put Obj.bypassState 4).onBypass fun b => { b with coils := false, passed := false, since := s.now }
  let s := physOff (s.put Obj.bypassFault cause)
  supplyFault Obj.bypassFault 0 cause 0 s

/-- The retry delay starts (R197): `doubles` after a failed insertion. -/
def retryDelay (doubles : Bool) (s : State) : State :=
  let b := s.net.bypass
  let first := s.get Obj.insertRetryDelay
  let d := if b.delay = 0 then first else if doubles then min 320 (2 * b.delay) else b.delay
  s.onBypass fun b => { b with delay := if doubles then d else b.delay, retryAt := s.now + sec d }

/-- InsertLinkTime in force in ms. -/
def State.linkTime (s : State) : Nat :=
  let t := s.get Obj.insertLinkTime
  if t ≠ 0 then t else if s.portList.any fun p => (s.port p).an then 3000 else 200

/-- The link rule is met. -/
def State.linksMet (s : State) : Bool :=
  if s.variant.isE then (s.port 0).up
  else if s.get Obj.insertLinkRule = 0 then (s.port 0).up && (s.port 1).up else (s.port 0).up || (s.port 1).up

/-- Both relays show energised; E variants have relay A alone. -/
def State.rbOn (s : State) : Bool := s.net.bypass.rbA && (s.variant.isE || s.net.bypass.rbB)

/-- INSERTING ends in INSERTED once readbacks and links allow (R197). -/
def tryInserted (s : State) : State :=
  if s.get Obj.bypassState == 2 && s.rbOn && s.linksMet then
    let s := (s.put Obj.bypassState 3).inc Obj.insertCount
    let s := s.put Obj.lastInsertTime ((s.now - s.net.bypass.since) / us 1)
    s.onBypass fun b => { b with delay := 0 }
  else s

/-- SELFTEST ends in INSERTING once it has passed and ON_GRANT has its grant. -/
def tryInserting (s : State) : State :=
  let b := s.net.bypass
  if s.get Obj.bypassState == 1 && b.passed && (s.get Obj.bypassMode != 2 || b.grant) then
    (s.put Obj.bypassState 2).onBypass fun b => { b with coils := true, passed := false, grant := false, since := s.now }
  else s

/-- The bypass may leave BYPASSED: the device is in RUN, TRIM or DOZE, or in D0 to D2. -/
def State.bypassServed (s : State) : Bool :=
  let ph := s.get Obj.powerPhase
  decide (s.get Obj.powerState ≤ 2) && (ph == 0 || decide (0x20 ≤ ph ∧ ph ≤ 0x22))

/-- VPHY is good and NCLK counts pass (R286, R322). -/
def State.phyOk (s : State) : Bool := s.railGood 3 && !s.clk.nclkBad

/-- BYPASS_SELFTEST_START (R197). -/
def execBypassSelftestStart (s : State) : Host.Outcome State Fault Refusal :=
  s.answerLive fun s =>
    if s.get Obj.bypassState == 0 && s.bypassServed && s.phyOk && s.fd0Ok && s.get Obj.bypassMode != 0
        && decide (s.net.bypass.retryAt ≤ s.now) then
      loopback true ((s.put Obj.bypassState 1).onBypass fun b => { b with phys := true, passed := false, since := s.now })
    else s

/-- BYPASS_SELFTEST_END (R197): the result of the loopback test and what the two readbacks show. -/
def execBypassSelftestEnd (pass rbA rbB : Bool) (s : State) : Host.Outcome State Fault Refusal :=
  s.answerLive fun s =>
    if s.get Obj.bypassState != 1 then s
    else
      let s := loopback false (s.onBypass fun b => { b with rbA := rbA, rbB := rbB })
      if rbA || (rbB && !s.variant.isE) then bypassFailed 1 s
      else if pass then tryInserting (s.onBypass fun b => { b with passed := true })
      else retryDelay false (toBypassed s)

/-- BYPASS_NO_PULL (R197): 20 ms after the coils were energised; what the readbacks show. -/
def execBypassNoPull (rbA rbB : Bool) (s : State) : Host.Outcome State Fault Refusal :=
  s.answerLive fun s =>
    if s.get Obj.bypassState == 2 && decide (s.net.bypass.since + ms 20 ≤ s.now) then
      let s := s.onBypass fun b => { b with rbA := rbA, rbB := rbB }
      if s.rbOn then tryInserted s else bypassFailed 2 s
    else s

/-- INSERT_LINK_TIMEOUT (R197). -/
def execInsertLinkTimeout (s : State) : Host.Outcome State Fault Refusal :=
  s.answerLive fun s =>
    if s.get Obj.bypassState == 2 && decide (s.net.bypass.since + ms s.linkTime ≤ s.now) then
      if s.linksMet && s.rbOn then tryInserted s
      else retryDelay true ((toBypassed s).inc Obj.insertFailCount)
    else s

/-- BYPASS_DROPPED (R197): a readback has shown released for `heldUs` while INSERTED. -/
def execBypassDropped (rbA rbB : Bool) (heldUs : Nat) (s : State) : Host.Outcome State Fault Refusal :=
  s.answerLive fun s =>
    let s' := s.onBypass fun b => { b with rbA := rbA, rbB := rbB }
    if s.get Obj.bypassState == 3 && !s'.rbOn && decide (20000 ≤ heldUs) then bypassFailed 3 s' else s

/-- LINK_UP (R184, R197): what the partner offers, the crossover, and the readbacks as sampled. -/
def execLinkUp (p : Fin 2) (common eee mdix rbA rbB : Bool) (s : State) : Host.Outcome State Fault Refusal :=
  s.answerLive fun s =>
    if !s.portList.contains p.val || !s.net.bypass.phys || !s.net.bypass.coils || !s.phyOk then s
    else if !common then s.setBit (Obj.portStatus p) 7 true
    else
      let an := (s.port p).an
      let st := 1 + 2 * bitVal an + 4 * bitVal mdix + 8 * bitVal (an && s.flag (Obj.eeeEnable p) && eee)
        + (s.get (Obj.portStatus p) &&& 0x100)
      let s := s.put (Obj.portStatus p) st
      let s := s.onPort p fun u => { u with up := true, emptySince := s.now }
      let s := s.onBypass fun b => { b with rbA := rbA, rbB := rbB }
      tryInserted (settleClock s)

/-! What writes do (R186, R193, R197, R199, R200). -/

/-- A new BlockedPort (R193). -/
def blockPort (v : Nat) (s : State) : State :=
  let s := s.put Obj.blockedPort v
  let s := each [0, 1] (fun p s =>
    if v = p + 1 then
      let n := (s.port p).queues.flatten.length
      moveFill (6 + p) (countPort (Obj.discardBlocked 0) p n (s.onPort p fun u => { u with queues := [[], [], [], []] }))
    else s) s
  settleClock (flushLearning s)

/-- A write of 1 to InsertGrant. -/
def insertGrant (s : State) : State := tryInserting (s.onBypass fun b => { b with grant := true })

/-- A new BypassMode. -/
def bypassModeWritten (v : Nat) (s : State) : State :=
  let s := s.put Obj.bypassMode v
  if v = 0 then dropBypass s else tryInserting s

/-- Objects of a port that a port reset sets to their defaults: PortStatus and the counters. -/
def portDefaults (p : Nat) (s : State) : State :=
  each (List.range 15) (fun i s => s.put (Obj.rxFrames p + i) 0) (s.put (Obj.portStatus p) 0)

/-- The PHYs restart with their AutoNeg. -/
def resetPhys (s : State) : State :=
  each s.portList (fun p s => (linkLost p s).onPort p fun u => { u with an := s.flag (Obj.autoNeg p) }) s

/-- A port reset (R200). -/
def portReset (p : Nat) (s : State) : State :=
  let n := (s.port p).queues.flatten.length
  let s := countPort (Obj.discardAge 0) p n (s.onPort p fun u => { u with queues := [[], [], [], []] })
  let s := resetPhys (loopback false s)
  let s := portDefaults p (moveFill (6 + p) s)
  (toBypassed (s.put Obj.bypassFault 0)).onBypass fun b => { b with retryAt := s.now, delay := 0 }

/-! Energy-Efficient Ethernet (R201). -/

/-- LPI_ENTRY (R201). -/
def execLpiEntry (p : Fin 2) (s : State) : Host.Outcome State Fault Refusal :=
  s.answerLive fun s =>
    let u := s.port p
    if s.get Obj.powerState == 2 && u.up && s.bit (Obj.portStatus p) 3 && !s.bit (Obj.portStatus p) 4
        && u.cells == 0 && decide (u.emptySince + ms 1 ≤ s.now) then
      countPort (Obj.lpiTxEntries 0) p 1 (s.setBit (Obj.portStatus p) 4 true)
    else s

/-- LPI_WAKE (R201): the wake time of a port has passed and its frame leaves. -/
def execLpiWake (p : Fin 2) (s : State) : Host.Outcome State Fault Refusal :=
  s.answerLive fun s =>
    if ((s.port p).wakeAt.map fun t => decide (t ≤ s.now)).getD false then
      serve p (s.onPort p fun u => { u with wakeAt := none })
    else s

/-- PARTNER_LPI (R201): the partner enters or leaves LPI. -/
def execPartnerLpi (p : Fin 2) (on : Bool) (s : State) : Host.Outcome State Fault Refusal :=
  s.answerLive fun s =>
    if (s.port p).up && s.bit (Obj.portStatus p) 3 then s.setBit (Obj.portStatus p) 5 on else s

/-! Transparent clock (R203). -/

/-- The transparent clock works on a message of a domain and transport. -/
def State.tcServes (s : State) (udp : Bool) (domain : Nat) : Bool :=
  !s.variant.isE && s.flag Obj.tcEnable && domain == s.get Obj.ptpDomain
    && (s.get Obj.ptpTransport == 2 || s.get Obj.ptpTransport == bitVal udp)

/-- TC_EVENT_FORWARD (R203): an event message received on `p` has left on the other port after `residence` ns. -/
def execTcEventForward (p : Fin 2) (f : EthFrame) (residence : Nat) (s : State) : Host.Outcome State Fault Refusal :=
  s.answerLive fun s =>
    match f.kind with
    | .ptp udp d msg seq port =>
      if !s.tcServes udp d then s
      else
        let add (isSync : Bool) (s : State) : State :=
          if (s.net.tc.filter fun e => e.toNb == (p.val == 0)).length < 32 then
            s.onNet fun n => { n with tc := n.tc ++ [⟨p.val == 0, isSync, seq, port, residence, s.now⟩] }
          else s
        match msg with
        | .sync true => add true s
        | .sync false => s.inc Obj.tcUncorrected
        | .delayReq => add false s
        | _ => s
    | _ => s

/-- TC_CORRECTION (R203): a Follow_Up or Delay_Resp received on `p` leaves, corrected where its entry is pending. -/
def execTcCorrection (p : Fin 2) (f : EthFrame) (s : State) : Host.Outcome State Fault Refusal :=
  s.answerLive fun s =>
    match f.kind with
    | .ptp udp d msg seq port =>
      if !s.tcServes udp d then s
      else
        let settle (isSync toNb : Bool) (s : State) : State :=
          let hit (e : TcEntry) : Bool := e.isSync == isSync && e.toNb == toNb && e.seq == seq && e.port == port
          if s.net.tc.any hit then
            (s.inc Obj.tcCorrected).onNet fun n => { n with tc := n.tc.filter fun e => !hit e }
          else s.inc Obj.tcUncorrected
        match msg with
        | .followUp => settle true (p.val == 0) s
        | .delayResp => settle false (p.val != 0) s
        | _ => s
    | _ => s

/-- TC_ENTRY_EXPIRY (R203): residence times older than 1 s expire. -/
def execTcEntryExpiry (s : State) : Host.Outcome State Fault Refusal :=
  s.answerLive fun s => s.onNet fun n => { n with tc := n.tc.filter fun e => decide (s.now < e.at_ + sec 1) }

end Sys2Proof.Machine
end

