-- ==== Sys2Proof/Machine/Sessions.lean ====
section
/-!
DEFINITION. Machine/Sessions.lean: master slots, observer places, the opening and the end of sessions, semaphores and the
local host link (11_masters_sessions.md). Place p is master slot p for 0 and 1, and observer place p - 2 for 2 to 7.
Readings and choices in the log: DESIGN CHOICE 3; DEDUCED 42, 43, 44, 45, 46, 47, 48, 49, 85, 141.
-/
namespace Sys2Proof.Machine
open Sys2Proof

/-! Places (R206, R207). -/

/-- SlotState or PlaceState of a place. -/
def placeKey (p : Nat) : Nat := if p < 2 then Obj.slotState p else Obj.placeState (p - 2)
def transportKey (p : Nat) : Nat := if p < 2 then Obj.slotTransport p else Obj.placeTransport (p - 2)
def peerKey (p : Nat) : Nat := if p < 2 then Obj.slotPeerAddress p else Obj.placePeerAddress (p - 2)
def sessionIdKey (p : Nat) : Nat := if p < 2 then Obj.slotSessionId p else Obj.placeSessionId (p - 2)

/-- State of a place: 0 FREE, 1 OPENING, 2 BOUND, 3 HOLDOFF. -/
def State.placeNo (s : State) (p : Nat) : Nat := s.get (placeKey p)
/-- The role of a place: 0 M0, 1 M1, 2 observer (R208). -/
def roleOf (p : Nat) : Nat := min p 2
/-- Transport as the objects show it. -/
def transportCode : Transport → Nat
  | .udpA => 1
  | .udpB => 2
  | .link => 3

/-- The session that is bound to a place. -/
def State.bound (s : State) (p : Nat) : Option Session :=
  if s.placeNo p = 2 then (s.place p).session else none

/-- A challenge whose second has not passed (R207). -/
def State.openChallenge (s : State) (p : Nat) : Option Challenge :=
  (s.place p).challenge.bind fun c => if s.now < c.at_ + sec 1 then some c else none

/-- The place whose bound session a frame names (R206). -/
def State.placeOf (s : State) (t : Transport) (p : Peer) (sid : Nat) : Option Nat :=
  (List.range 8).find? fun i =>
    ((s.bound i).map fun x => decide (x.transport = t) && (decide (t = .link) || decide (x.peer = p)) && x.sid == sid).getD false

/-- The place that holds the session of the local host link. -/
def State.linkPlace (s : State) : Option Nat :=
  (List.range 8).find? fun i => ((s.bound i).map fun x => decide (x.transport = .link)).getD false

/-! Semaphores (R222 to R225). -/

def State.sema (s : State) (n : Nat) : SemaState := s.host.semas.getD n .free
def setSema (n : Nat) (v : SemaState) (s : State) : State := s.onHost fun h => { h with semas := h.semas.set n v }

/-- Master `m` holds semaphore `n`. -/
def State.holds (s : State) (m n : Nat) : Bool := decide (s.sema n = .held m)

/-- The master to whom a released semaphore goes: G decides where both wait (R224). -/
def State.nextHolder (s : State) (n : Nat) : Option Nat :=
  let w (m : Nat) : Bool := s.host.waits.any fun x => x.sema == n && x.place == m
  match w 0, w 1 with
  | true, true => some (bitVal s.host.rotate)
  | true, false => some 0
  | false, true => some 1
  | false, false => none

/-- A semaphore is released, and granted where a take waits (R223, R224). -/
def releaseSema (n : Nat) (s : State) : State :=
  match s.nextHolder n with
  | none => setSema n .free s
  | some m =>
    let both := s.host.waits.any fun x => x.sema == n && x.place != m
    let mine (x : SemaWait) : Bool := x.sema == n && x.place == m
    let ids := (s.host.waits.filter mine).map (·.flight)
    let s := s.onHost fun h =>
      { h with waits := h.waits.filter (!mine ·), rotate := if both then !h.rotate else h.rotate }
    completeAll ids 0 (setSema n (.held m) s)

/-- Every semaphore that stands as `v` is released. -/
def releaseAll (v : SemaState) (s : State) : State :=
  each ((List.range 64).filter fun n => decide (s.sema n = v)) releaseSema s

/-- Every semaphore that stands as `v` becomes `w`. -/
def remarkSemas (v w : SemaState) (s : State) : State :=
  s.onHost fun h => { h with semas := h.semas.map fun x => if x = v then w else x }

/-- SEMA_WAIT_EXPIRY (R223). -/
def execSemaWaitExpiry (m : Fin 2) (sema : Fin 64) (s : State) : Host.Outcome State Fault Refusal :=
  s.answerLive fun s =>
    let late (x : SemaWait) : Bool := x.sema == sema.val && x.place == m.val && decide (x.until_ ≤ s.now)
    let ids := (s.host.waits.filter late).map (·.flight)
    completeAll ids 0x0402 (s.onHost fun h => { h with waits := h.waits.filter (!late ·) })

/-! The end of a session (R217 to R221). -/

/-- Outputs with OutputSource HOST of the functions bound to a slot take their orphan states (R221). -/
def orphanHost (m : Nat) (s : State) : State :=
  each ((List.range 8).filter fun n => s.variant.hasFn n && s.get (Obj.boundSlot n) == m) (fun n s =>
    each ((s.chansOfFn n).filter fun c => s.get (Obj.outputSource c) == 1) (fun c => setOrphan c true) s) s

/-- The end of SemaHoldOff (R221). -/
def holdoffEnd (m : Nat) (s : State) : State :=
  ((orphanHost m (releaseAll (.holdoff m) s)).put (placeKey m) 0)

/-- The subscriptions of a place's session end with their notices (R219, R249). -/
def dropSubs (p : Nat) (s : State) : State :=
  let s := s.onSession p fun x => { x with subs := [] }
  moveFill 5 (s.onHost fun h => { h with pool := h.pool.filter fun n => n.place != p })

/-- What the place shows of a session is cleared. -/
def clearPlace (p : Nat) (s : State) : State :=
  ((s.put (transportKey p) 0).put (peerKey p) 0).put (sessionIdKey p) 0

/-- A transaction that no lane has started, or a take that waits: the end of its session drops it (R219). -/
def State.unstarted (s : State) (f : Flight) : Bool :=
  f.isQueued || s.host.waits.any (·.flight == f.id)

/-- Steps 1 to 3 of R219 for the session `se` of a place: its burst, its unstarted transactions, and the completions
that have not been sent. -/
def endWork (p : Nat) (se : Session) (s : State) : State :=
  let s := moveFill (13 + p) (s.onHost fun h => if p < 2 then { h with bursts := h.bursts.set p Burst.closed } else h)
  let mine (f : Flight) : Bool := f.sess == se.no
  let drop := s.host.flights.filter fun f => mine f && s.unstarted f
  let ids := drop.map (·.id)
  let sent := (s.host.done.filter fun d => d.sess == se.no && d.flight.isSome).length
  let s := s.onHost fun h =>
    { h with
      waits := h.waits.filter fun w => !ids.contains w.flight
      flights := (h.flights.filter fun f => !ids.contains f.id && !(mine f && decide (f.phase = .done))).map fun f =>
        if mine f then { f with orphan := true } else f
      done := h.done.filter fun d => d.sess != se.no
      niIngress := h.niIngress.filter fun f => f.sess != se.no
      linkIngress := h.linkIngress.filter fun f => f.sess != se.no }
  let s := if p < 2 then (s.addTo (Obj.droppedTransactions p) drop.length).addTo (Obj.discardedCompletions p) sent else s
  each [min p 2, 3, 4, 8, 9] moveFill s

/-- A session ends with a cause (R219): 1 CLOSE, 2 TIMEOUT, 3 SLOT_RESET, 4 FORCE, 5 TRANSPORT, 6 COUNT_EXHAUSTED. After
CLOSE no semaphore is left; FORCE goes straight on to steps 1 and 2 of R221. -/
def endSession (p cause : Nat) (s : State) : State :=
  match s.bound p with
  | none => s
  | some se =>
    let s := endWork p se (dropSubs p s)
    let closing := (s.host.flights.filter fun f => f.sess == se.no && f.op == 2).map (·.id)
    let s := clearPlace p (s.onPlace p fun q => { q with session := none })
    let s := completeAll closing 0 s
    if 2 ≤ p then s.put (placeKey p) 0
    else
      let s := s.put (Obj.lastEndCause p) cause
      let s := if cause = 1 then s else s.inc (Obj.lostCount p)
      let s := s.onPow fun q => { q with idleSince := some s.now }
      if cause = 4 then
        orphanHost p (releaseAll (.held p) s)
      else
        let s := if cause = 1 then releaseAll (.held p) s else remarkSemas (.held p) (.holdoff p) s
        let s := (s.put (placeKey p) 3).onPlace p fun q => { q with holdSince := s.now }
        if s.get Obj.semaHoldOff = 0 then holdoffEnd p s else s

/-- CLOSE completes once every earlier transaction of its session has been answered (R218): its semaphores are released
and the place is left; the session itself lasts until that COMPLETE is sent. -/
def settleClose (p : Nat) (s : State) : State :=
  match s.bound p with
  | none => s
  | some se =>
    match s.host.flights.find? fun f => f.sess == se.no && f.op == 2 && decide (f.phase = .held) with
    | none => s
    | some c =>
      if s.host.flights.any fun f => f.sess == se.no && decide (f.id < c.id) then s
      else
        let s := completeWith c.id 0 0 [] (dropSubs p s)
        let s := s.onSession p fun x => { x with endOn := some (c.id, 1) }
        if 2 ≤ p then s.put (placeKey p) 0
        else
          let s := (releaseAll (.held p) (s.put (Obj.lastEndCause p) 1)).onPow fun q => { q with idleSince := some s.now }
          let s := (s.put (placeKey p) 3).onPlace p fun q => { q with holdSince := s.now }
          if s.get Obj.semaHoldOff = 0 then holdoffEnd p s else s

/-- What is left of a session of a place that has closed is gone. -/
def dropClosed (p : Nat) (s : State) : State :=
  match (s.place p).session with
  | none => s
  | some se =>
    if s.placeNo p = 2 then s
    else clearPlace p ((endWork p se s).onPlace p fun q => { q with session := none })

/-- SESSION_TIMEOUT (R216). -/
def execSessionTimeout (p : Fin 8) (s : State) : Host.Outcome State Fault Refusal :=
  s.answerLive fun s =>
    match s.bound p with
    | none => s
    | some se => if se.timerAt + ms (s.get Obj.sessionTimeout) ≤ s.now then endSession p 2 s else s

/-- SEMA_HOLDOFF_EXPIRY (R221). -/
def execSemaHoldoffExpiry (m : Fin 2) (s : State) : Host.Outcome State Fault Refusal :=
  s.answerLive fun s =>
    if s.placeNo m == 3 && decide ((s.place m).holdSince + ms (s.get Obj.semaHoldOff) ≤ s.now) then holdoffEnd m s else s

/-- HOST_LINK_RESET (R216). -/
def execHostLinkReset (s : State) : Host.Outcome State Fault Refusal :=
  s.answerLive fun s =>
    match s.linkPlace with
    | some p => endSession p 5 s
    | none => s

/-! Opening (R207 to R214, R231). -/

/-- The key of a role as 32 bytes, none while it is not provisioned (R212). -/
def State.key (s : State) (role : Nat) : Option (List Byte) :=
  let k := s.get (Obj.keyM0 + role)
  if k = 0 then none else some (toLe 32 k)

/-- ASCII of a label. -/
def label (n : String) : List Byte := n.toList.map fun c => byte c.toNat

/-- A value of R208: label, role, Nc, Nd and SessionId under a key. -/
def openMac (k : List Byte) (name : String) (role : Nat) (nc nd : List Byte) (sid : Nat) : List Byte :=
  hmac k (label name ++ [byte role] ++ nc ++ nd ++ toLe 2 sid)

/-- The role is locked out (R211). -/
def State.lockedOut (s : State) (role : Nat) : Bool :=
  (((s.host.gates.getD role ⟨[], none⟩).lockedUntil).map fun t => decide (s.now < t)).getD false

/-- A gate after one more failure (R211). -/
def AuthGate.fail (g : AuthGate) (now limit : Nat) : AuthGate :=
  let fs := g.failures.filter (fun t => decide (now < t + sec 60)) ++ [now]
  if limit ≤ fs.length then ⟨[], some (now + sec 30)⟩ else { g with failures := fs }

/-- A wrong PROOF (R207, R211). -/
def authFailed (role : Nat) (s : State) : State :=
  (s.inc Obj.authFailCount).onHost fun h =>
    { h with gates := h.gates.modify role fun g => g.fail s.now (s.get Obj.authFailLimit) }

/-- AUTH_LOCKOUT_EXPIRY (R211). -/
def execAuthLockoutExpiry (role : Fin 3) (s : State) : Host.Outcome State Fault Refusal :=
  s.answerLive fun s => if s.lockedOut role then s else s.onHost fun h =>
    { h with gates := h.gates.modify role fun g => { g with lockedUntil := none } }

/-- A formed frame goes to the link egress queue. -/
def linkPush (f : TxFrame) (s : State) : State :=
  moveFill 10 (s.onHost fun h => { h with linkEgress := h.linkEgress ++ [f] })

/-- The device's UDP datagram of a Dulas frame: 14 bytes of Ethernet header, 20 of IP, 8 of UDP, 4 of FCS (R230). -/
def State.dulasFrame (s : State) (f : TxFrame) : NetFrame :=
  let pcp := s.get Obj.ownPcp
  let dst := if f.group then 0x01005E000000 + s.ipObj Obj.noticeGroup % 2 ^ 23 else 0
  s.ownFrame dst (46 + f.bytes.length) pcp (queueOf pcp) .data (some f)

/-- A formed frame leaves for its host: through NI or through the link egress queue. -/
def sendFrame (f : TxFrame) (s : State) : State :=
  match f.transport with
  | .link => linkPush f s
  | _ => s.onNet fun n => { n with niWait := n.niWait ++ [s.dulasFrame f] }

/-- The answer to an open frame; on the link it needs a place in the egress queue. -/
def answerOpen (t : Transport) (p : Peer) (bs : List Byte) (s : State) : State :=
  if t = .link ∧ 8 ≤ s.host.linkEgress.length then s else sendFrame ⟨t, p, false, bs, s.now⟩ s

/-- CHALLENGE (table "Open frames"). -/
def challengeBytes (role sid status : Nat) (nd nc : List Byte) : List Byte :=
  [1, 2, byte role, 0] ++ toLe 2 sid ++ toLe 2 status ++ nd ++ nc

/-- RESULT (table "Open frames"). -/
def resultBytes (role sid status : Nat) (proof : List Byte) (timeout tb : Nat) : List Byte :=
  [1, 4, byte role, 0] ++ toLe 2 sid ++ toLe 2 status ++ proof ++ toLe 2 timeout ++ [0, 0] ++ toLe 4 tb

/-- The role opens without proof: a master slot without a key on the local host link (R214). -/
def State.keylessOpen (s : State) (t : Transport) (role : Nat) : Bool :=
  decide (role < 2) && decide (t = .link) && (s.key role).isNone && !s.flag Obj.provisionLock

/-- The place that an OPEN asks for: the slot, or the first free observer place. -/
def State.openPlace (s : State) (role : Nat) : Option Nat :=
  if role < 2 then some role else ([2, 3, 4, 5, 6, 7]).find? fun p => s.placeNo p == 0

/-- FORCE takes a BOUND slot. -/
def State.takesOver (s : State) (role : Nat) (force : Bool) : Bool := force && decide (role < 2) && s.placeNo role == 2

/-- The refusal of orders 1 to 5 of the table "OPEN refusals"; 0 where there is none (R210). -/
def State.openRefusal (s : State) (t : Transport) (role : Nat) (force : Bool) : Nat :=
  let linkBusy := (match s.linkPlace with
      | some p => !(p == role && s.takesOver role force)
      | none => false)
    || (List.range 8).any fun p => ((s.openChallenge p).map fun c => decide (c.transport = .link)).getD false
  if s.lockedOut role then 0x0A02
  else if (s.key role).isNone && !s.keylessOpen t role then 0x0A05
  else if role < 2 && ((s.openChallenge role).isSome || s.placeNo role == 1
      || (s.placeNo role == 2 && !s.takesOver role force)) then 0x0A03
  else if (s.openPlace role).isNone then 0x0A03
  else if decide (t = .link) && linkBusy then 0x0A03
  else 0

/-- A HELLO of a host (R210, R231). -/
def hello (t : Transport) (p : Peer) (bs : List Byte) (s : State) : State :=
  let role := (bs.getD 2 0).toNat
  let force := (bs.getD 3 0).toNat.testBit 0
  let nc := (bs.drop 8).take 16
  if bs.length ≠ 24 ∨ bs.take 2 ≠ [1, 1] ∨ role > 2 then s.inc Obj.malformedFrames
  else
    let st := s.openRefusal t role force
    match st, s.openPlace role with
    | 0, some i =>
      let keyless := s.keylessOpen t role
      let (k, s) := s.draw
      let sid := Config.sid k
      let nd := if keyless then List.replicate 16 (0 : Byte) else toLe 16 (Config.nd k)
      let takes := s.takesOver role force
      let s := s.onPlace i fun q => { q with challenge := some ⟨sid, nc, nd, takes, t, p, s.now, keyless⟩ }
      let s := if s.placeNo i = 0 then s.put (placeKey i) 1 else s
      answerOpen t p (challengeBytes role sid 0 nd nc) s
    | _, _ => answerOpen t p (challengeBytes role 0 st (List.replicate 16 0) nc) s

/-- A new session binds to a place (R207, R210, R220, R239, R314). -/
def bindSession (i : Nat) (c : Challenge) (sk : List Byte) (s : State) : State :=
  let s := if i < 2 ∧ s.placeNo i = 2 then endSession i 4 s else s
  let s := dropClosed i s
  let se : Session :=
    { no := s.host.nextSession, sid := c.sid, transport := c.transport, peer := c.peer, sk := sk, keyless := c.keyless
      rxCount := 0, txCount := 0, timerAt := s.now, closing := false, endOn := none, safetyExpected := 1
      safetySent := 0, subs := [], echo := [], cursorLog := 0, cursorSeq := 0, windowSize := 1032 }
  let s := s.onHost fun h => { h with nextSession := h.nextSession + 1 }
  let s := s.onPlace i fun q => { q with challenge := none, session := some se }
  let s := s.put (placeKey i) 2
  let s := s.put (transportKey i) (transportCode c.transport)
  let s := s.put (peerKey i) (if c.transport = .link then 0 else c.peer.ip % 2 ^ 32 + 2 ^ 32 * (c.peer.port % 65536))
  let s := s.put (sessionIdKey i) c.sid
  if i < 2 then
    let s := (s.inc (Obj.openCount i)).put (Obj.deepGrant i) 2
    remarkSemas (.holdoff i) (.held i) (s.put (Obj.nextService i) 0)
  else s

/-- The challenge of a place is settled, and OPENING left for FREE. -/
def dropChallenge (i : Nat) (s : State) : State :=
  let s := s.onPlace i fun q => { q with challenge := none }
  if s.placeNo i = 1 then s.put (placeKey i) 0 else s

/-- A PROOF of a host (R207, R208, R210, R211, R231). -/
def proof (t : Transport) (p : Peer) (bs : List Byte) (s : State) : State :=
  let role := (bs.getD 2 0).toNat
  let sid := leNat ((bs.drop 4).take 2)
  let nc := (bs.drop 8).take 16
  let no := List.replicate 32 (0 : Byte)
  let hit (i : Nat) : Bool := ((s.place i).challenge.map fun c =>
    c.sid == sid && decide (c.nc = nc) && roleOf i == role && decide (c.transport = t) && decide (c.peer = p)).getD false
  if bs.length ≠ 56 ∨ bs.take 2 ≠ [1, 3] then s.inc Obj.malformedFrames
  else
    match (List.range 8).find? hit with
    | none => s.inc Obj.malformedFrames
    | some i =>
      match (s.place i).challenge with
      | none => s
      | some c =>
        if c.at_ + sec 1 < s.now ∨ s.placeNo i = 0 then
          answerOpen t p (resultBytes role sid 0x0A04 no 0 0) (dropChallenge i s)
        else if s.lockedOut role then answerOpen t p (resultBytes role sid 0x0A02 no 0 0) (dropChallenge i s)
        else
          let k := (s.key role).getD (List.replicate 32 0)
          let good := c.keyless || ((s.key role).isSome
            && decide ((bs.drop 24) = openMac k "DLS-OPEN" role c.nc c.nd c.sid))
          if good then
            let sk := if c.keyless then List.replicate 32 0 else openMac k "DLS-SK" role c.nc c.nd c.sid
            let dev := if c.keyless then no else openMac k "DLS-DEV" role c.nc c.nd c.sid
            let s := bindSession i c sk s
            answerOpen t p (resultBytes role sid 0 dev (s.get Obj.sessionTimeout) s.tb32) s
          else
            answerOpen t p (resultBytes role sid 0x0A02 no 0 0) (authFailed role (dropChallenge i s))

/-- Frames of a transport reach the device: the link from P4 on (R341), UDP by a port that hears (R184, R193, R195). -/
def State.hears (s : State) : Transport → Bool
  | .link => s.served
  | .udpA => s.portHears 0
  | .udpB => s.portHears 1

/-- HELLO (R210). -/
def execHello (t : Transport) (p : Peer) (frame : List Byte) (s : State) : Host.Outcome State Fault Refusal :=
  s.answerLive fun s => if s.hears t then hello t p frame s else s

/-- PROOF (R208). -/
def execProof (t : Transport) (p : Peer) (frame : List Byte) (s : State) : Host.Outcome State Fault Refusal :=
  s.answerLive fun s => if s.hears t then proof t p frame s else s

/-- CHALLENGE_TIMEOUT (R207): the challenge is remembered for the answer to a late PROOF (R231). -/
def execChallengeTimeout (p : Fin 8) (s : State) : Host.Outcome State Fault Refusal :=
  s.answerLive fun s =>
    if s.placeNo p == 1 && (((s.place p).challenge.map fun c => decide (c.at_ + sec 1 ≤ s.now)).getD true) then
      s.put (placeKey p) 0
    else s

/-! HOST frames at NI ingress and link ingress (R209, R227, R232, R233, R273). -/

/-- The elements of a body, each with its header; none where they do not exactly fill it. -/
def splitElems : Nat → List Byte → Option (List (List Byte))
  | _, [] => some []
  | 0, _ :: _ => none
  | n + 1, bs =>
    let len := leNat ((bs.drop 4).take 2)
    if len < 8 ∨ len % 4 ≠ 0 ∨ bs.length < len then none
    else (splitElems n (bs.drop len)).map (bs.take len :: ·)

/-- The body of a HOST frame is well formed (R232, R233). -/
def bodyOk (count : Nat) (body : List Byte) : Bool :=
  decide (body.length % 4 = 0 ∧ body.length ≤ 1440 ∧ 1 ≤ count ∧ count ≤ 64)
    && ((splitElems 64 body).map fun es => es.length == count).getD false

/-- The tag of a frame of a session: `d` is 1 from the host and 2 from the device (R209). -/
def frameTag (sk : List Byte) (d : Nat) (frame : List Byte) : List Byte :=
  (hmac sk ([byte d] ++ (frame.drop 4).take 4 ++ frame)).take 16

/-- A HOST frame for the session of place `i`: tag, FrameCount, elements, then NI ingress or link ingress. -/
def receiveHost (i : Nat) (se : Session) (bs : List Byte) (s : State) : State :=
  let len := leNat ((bs.drop 14).take 2)
  let fc := leNat ((bs.drop 4).take 4)
  let count := (bs.getD 12 0).toNat
  let body := (bs.drop 16).take len
  if bs.length ≠ 32 + len then s.inc Obj.malformedFrames
  else if !se.keyless && decide (bs.drop (16 + len) ≠ frameTag se.sk 1 (bs.take (16 + len))) then s.inc Obj.tagFailCount
  else if fc ≤ se.rxCount then s.inc Obj.replayCount
  else
    let s := s.onSession i fun x => { x with rxCount := fc, timerAt := s.now }
    if !bodyOk count body then
      let s := s.inc Obj.malformedFrames
      if fc = 0xFFFFFFFF then endSession i 6 s else s
    else
      let f : RxFrame := ⟨se.transport, se.peer, i, se.no, fc, body, count⟩
      if se.transport = .link then moveFill 9 (s.onHost fun h => { h with linkIngress := h.linkIngress ++ [f] })
      else moveFill 8 (s.onHost fun h => { h with niIngress := h.niIngress ++ [f] })

/-- A HOST frame of a host. -/
def hostFrame (t : Transport) (p : Peer) (bs : List Byte) (s : State) : State :=
  if decide (t ≠ .link) && decide (16 ≤ s.host.niIngress.length) then s.inc Obj.niIngressDiscards
  else if bs.length < 16 ∨ bs.take 2 ≠ [1, 0x10] then s.inc Obj.malformedFrames
  else
    match s.placeOf t p (leNat ((bs.drop 2).take 2)) with
    | none => s.inc Obj.unknownFrames
    | some i => match s.bound i with
      | some se => receiveHost i se bs s
      | none => s

/-- HOST_FRAME_RX (R273). -/
def execHostFrameRx (t : Transport) (p : Peer) (frame : List Byte) (s : State) : Host.Outcome State Fault Refusal :=
  s.answerLive fun s => if s.hears t && (decide (t ≠ .link) || decide (s.host.linkIngress.length < 2)) then hostFrame t p frame s else s

/-! The local host link (R226 to R229). -/

/-- The link's peer. -/
def linkPeer : Peer := ⟨0, 0⟩

/-- A link header is good: its CRC and its Op (R226). -/
def headerOk (h : List Byte) : Bool :=
  decide (h.length = 4) && (h.getD 3 0).toNat == crc8 0x2F 0 (h.take 3)
    && decide (h.getD 0 0 = 0xA1 ∨ h.getD 0 0 = 0xA2 ∨ h.getD 0 0 = 0xA3)

/-- ERR of LinkStatus is set. -/
def linkErr (s : State) : State := s.onHost fun h => { h with linkErr := true }
/-- A bad header: the rest of the exchange is ignored. -/
def headerError (s : State) : State := linkErr (s.inc Obj.headerErrors)

/-- A frame that the link has taken. -/
def linkFrame (bs : List Byte) (s : State) : State :=
  match bs.getD 1 0 with
  | 0x01 => hello .link linkPeer bs s
  | 0x03 => proof .link linkPeer bs s
  | _ => hostFrame .link linkPeer bs s

/-- LINK_WRITE_EXCHANGE (R227): the header, the bytes after it, and whether HSPI_CS_N rose after the last CRC byte. -/
def execLinkWriteExchange (header frame : List Byte) (timingOk : Bool) (s : State) : Host.Outcome State Fault Refusal :=
  s.answerServed fun s =>
    if !headerOk header then headerError s
    else if header.getD 0 0 ≠ 0xA1 then s
    else
      let len := leNat ((header.drop 1).take 2)
      let data := frame.take len
      if timingOk && decide (1 ≤ len ∧ len ≤ 1472 ∧ frame.length = len + 4 ∧ s.host.linkIngress.length < 2)
          && leNat (frame.drop len) == crc32c data then linkFrame data s
      else linkErr (s.inc Obj.frameErrors)

/-- LINK_READ_EXCHANGE (R228): the header, how many bytes were clocked after it, and whether HSPI_CS_N kept its timing. -/
def execLinkReadExchange (header : List Byte) (taken : Nat) (timingOk : Bool) (s : State) : Host.Outcome State Fault Refusal :=
  s.answerServed fun s =>
    if !headerOk header then headerError s
    else if header.getD 0 0 ≠ 0xA2 then s
    else
      let s := ageLink s
      match s.host.linkEgress with
      | [] => s
      | f :: r =>
        if leNat ((header.drop 1).take 2) < f.bytes.length then linkErr s
        else if timingOk && decide (f.bytes.length + 4 ≤ taken) then moveFill 10 (s.onHost fun h => { h with linkEgress := r })
        else s

/-- LINK_STATUS_EXCHANGE (R226): ERR is cleared. -/
def execLinkStatusExchange (header : List Byte) (s : State) : Host.Outcome State Fault Refusal :=
  s.answerServed fun s =>
    if !headerOk header then headerError s
    else if header.getD 0 0 = 0xA3 then s.onHost fun h => { h with linkErr := false }
    else s

/-- LinkStatus (R226). -/
def State.linkStatus (s : State) : Nat :=
  bitVal (decide (s.host.linkIngress.length < 2)) + 2 * bitVal (!s.host.linkEgress.isEmpty) + 4 * bitVal s.host.linkErr
    + 8 * bitVal s.linkPlace.isSome

end Sys2Proof.Machine
end

