-- ==== Sys2Proof/Machine/Functions.lean ====
section
/-!
DEFINITION. Machine/Functions.lean: functions, their states, drains and resets, the grant of execution lanes
(13_functions.md), weir intervals and uncorrectable queue errors (14_queues_flow.md).
Readings and choices in the log: DEDUCED 51, 53, 54, 55, 102.
-/
namespace Sys2Proof.Machine
open Sys2Proof Sys2Proof.Config

/-! Ownership of objects (R170). -/

/-- OwnerFunction of a table slot; an EMPTY slot and the factory slots belong to F0. -/
def State.ownerOfTable (s : State) (t : Nat) : Nat := if t ≤ 2 then 0 else ((s.table t).map (·.owner)).getD 0

/-- The function that owns an object. -/
def State.ownerOf (s : State) (k : Nat) : Nat :=
  match lookup k with
  | none => 0
  | some (_, i, d) =>
    match d.owner with
    | .f0 => 0
    | .axis => s.ownerOfAxis i
    | .chan => s.ownerOfChan i
    | .pin => s.ownerOfPin (16 * i + d.sub - 1)
    | .set => s.ownerOfSet i
    | .set2 => s.ownerOfSet (i / 2)
    | .table => s.ownerOfTable i
    | .state => s.ownerOfTable (i / 64)

/-! The binding check (R45). -/

/-- A binding of instance `i` as a write would leave it. -/
structure Binding where
  slot : Nat
  input : Nat
  door : Nat
  aux : Nat
  deriving DecidableEq, Repr

/-- The binding of an instance as it stands. -/
def State.binding (s : State) (i : Nat) : Binding :=
  if i < 8 then ⟨s.slotOf i, 0, 0, 0⟩
  else ⟨s.slotOf i, s.get (Obj.inputBase (i - 8)), s.get (Obj.doorwayBase (i - 8)), s.get (Obj.auxBase (i - 8))⟩

/-- The channel that a relative operand resolves to. -/
def Binding.chan (b : Binding) (r : Rel) : Nat :=
  (if r.base = 1 then b.input else if r.base = 2 then b.door else b.aux) + r.off

/-- A binding of an instance of function `fn` passes. -/
def State.bindingOk (s : State) (i fn : Nat) (b : Binding) : Bool :=
  if b.slot = 0xFF then true
  else
    match s.table b.slot with
    | none => true
    | some t =>
      s.kindFits i t.kind
        && t.rels.all (fun r => s.variant.hasChan (b.chan r) && (fn == 0 || s.ownerOfChan (b.chan r) == fn))
        && (fn == 0 || ((s.setOfFn fn).isSome
          && (decide (i < 8) || (s.image.door (s.doorOf (i - 8))).enabled)))

/-! ENABLE (R255). -/

/-- Instances of a function whose binding counts: its axes with a SeqTable, and its car sequencer. -/
def State.boundInsts (s : State) (n : Nat) : List Nat := (s.instsOf n).filter fun i => s.slotOf i != 0xFF

/-- The checks of R255; with a self-test failed that keeps F1–F7 DISABLED (R382) they fail. -/
def State.enableOk (s : State) (n : Nat) : Bool :=
  decide (s.get Obj.selfTestFail % 8 = 0) && s.get (Obj.boundSlot n) != 0xFF
    && (!((s.boundInsts n).any fun i => decide (8 ≤ i)) || s.get (Obj.seqSet n) != 0xFF)
    && (s.boundInsts n).all fun i =>
      s.bindingOk i n (s.binding i)
        && (decide (s.slotOf i ≤ 2) || ((s.table (s.slotOf i)).map fun t => t.owner == n).getD true)

/-- A function becomes ENABLED: its instances start, the orphan states end (R48, R137, R255, R364). -/
def enableFn (n : Nat) (s : State) : State :=
  let s := s.put (Obj.functionState n) 1
  let is := s.instsOf n
  let s := each is (fun i s => requestBus i 0 none (requestBus i 1 none s)) s
  let s := startInsts is s
  let s := orphanAll (s.chansOfFn n) false s
  freePins (s.pinsOf n) s

/-! Reset defaults (R180, R262). -/

/-- V objects that follow the hardware through a function reset. -/
def followsHardware (k : Nat) : Bool :=
  let idx := k / 256
  let sub := k % 256
  (decide (0x3100 ≤ idx ∧ idx < 0x3118) && (sub == 1 || sub == 2))
    || (decide (0x3200 ≤ idx ∧ idx < 0x3218)
      && (decide (0x20 ≤ sub ∧ sub ≤ 0x25) || sub == 0x27 || sub == 0x2C))
    || (decide (0x6100 ≤ idx ∧ idx < 0x6200) && (sub == 1 || sub == 3 || sub == 5))
    || (decide (0x6200 ≤ idx ∧ idx < 0x6300) && sub == 1)
    || decide (0x2120 ≤ idx ∧ idx < 0x2140)

/-- EnvState as the seeds give it: UNSEEDED, or ACTIVE (R85). -/
def seedState (a : Nat) (s : State) : State := s.put (Obj.envState a) (if s.unseeded a then 0 else 2)

/-- The V defaults of a function's resources (R262, R365). The base demands go back to 0 with OutputDemand. -/
def resetFn (n : Nat) (s : State) : State :=
  let t := { s with objs := s.objs.filter fun e => !(persOf e.1 == .v && !followsHardware e.1
    && decide (0x2100 * 256 ≤ e.1) && s.ownerOf e.1 == n) }
  let t := if n = 0 then s else t
  let t := each (t.axesOf n) seedState t
  let t := each (t.chansOfFn n) (fun c s => s.onChan c fun x =>
    { x with base := 0, flash := none, unlock := false, onAcc := 0, onAt := s.now
             demandOffAt := if 0 < x.base then s.now else x.demandOffAt }) t
  resetPins n t

/-! FunctionControl (R253, R254). -/

/-- Whether the master at slot `m` may write FunctionControl of `n`: the status (R253). -/
def State.fnWriter (s : State) (m n : Nat) : Nat :=
  let b := s.get (Obj.boundSlot n)
  if m = b ∧ s.holds m (8 + n) = true then 0
  else if m = s.get (Obj.boundSlot 0) ∧ (b = m ∨ b = 0xFF ∨ s.placeNo b ≠ 2) then
    (if s.holds m 0 then 0 else 0x0401)
  else if m = b then 0x0401 else 0x0103

/-- A drain begins (R254, R258). -/
def startDrain (n : Nat) (enabled reset : Bool) (joined : List Nat) (s : State) : State :=
  (s.put (Obj.functionState n) 2).onFn n fun f =>
    { f with drainAt := s.now, targetEnabled := enabled, resetPending := reset, boundary := false, joined := joined }

/-- FunctionControl of a function takes a value: the status, or none while the write waits for the drain (R254). `flight`
is the transaction that waits. -/
def fnControl (n v : Nat) (flight : Option Nat) (s : State) : Option Nat × State :=
  match s.fnState n, v with
  | 0, 1 => if s.enableOk n then (some 0, enableFn n s) else (some 0x0206, s)
  | 0, 3 => (some 0, (resetFn n s).inc (Obj.resetCount n))
  | 0, _ => (some 0, s)
  | 1, 1 => (some 0, s)
  | 1, 3 => (none, startDrain n true true flight.toList s)
  | 1, _ => (none, startDrain n false false flight.toList s)
  | _, 1 => (some 0x0701, s)
  | _, 3 => (none, s.onFn n fun f => { f with resetPending := true, joined := f.joined ++ flight.toList })
  | _, _ => (none, s.onFn n fun f => { f with targetEnabled := false, joined := f.joined ++ flight.toList })

/-- A waiting FunctionControl write asked for RESET. -/
def State.asksReset (s : State) (id : Nat) : Bool :=
  ((s.flight id).map fun f => match f.req with
    | .write _ _ d => d == [3]
    | _ => false).getD false

/-- The drain of a function ends (R259, R261, R262). -/
def drainEnd (n : Nat) (s : State) : State :=
  let f := s.fn n
  let s := s.put (Obj.lastDrainTime n) ((s.now - f.drainAt) / us 1)
  let s := if f.resetPending then
      each (s.instsOf n) (fun i s => requestBus i 0 none (requestBus i 1 none s)) (resetFn n s)
    else s
  let ok := !f.targetEnabled || s.enableOk n
  let s := if f.targetEnabled && ok then enableFn n s else s.put (Obj.functionState n) 0
  let s := if f.resetPending then s.inc (Obj.resetCount n) else s
  let s := s.onFn n fun f => { f with resetPending := false, boundary := false, joined := [] }
  each f.joined (fun id s => complete id (if !ok && s.asksReset id then 0x0206 else 0) s) s

/-- DRAIN_END (R261). -/
def execDrainEnd (n : Fin 8) (s : State) : Host.Outcome State Fault Refusal :=
  s.answerLive fun s =>
    if s.fnState n == 2 && (s.fn n).boundary && s.fnInFlight n == 0 then drainEnd n s else s

/-- Every ENABLED function of F1 to F7 begins to drain, as at D1 (R318). -/
def drainAll (s : State) : State :=
  each (s.fns17.filter fun n => s.fnState n == 1) (fun n => startDrain n false false []) s

/-- Functions with StartEnabled are enabled at the end of start-up (R256). -/
def startFns (s : State) : State :=
  each (s.fns17.filter fun n => s.flag (Obj.startEnabled n)) (fun n s =>
    if s.enableOk n then enableFn n s
    else faultRecord 0x22 srcDevice (Obj.functionState n) 0 0 0 0 0 0 s) s

/-- Outputs and pins of F0 and of DISABLED functions stand at their orphan states (R250, R261). -/
def idleOrphans (s : State) : State :=
  each (0 :: s.fns17.filter fun n => s.fnState n == 0) (fun n s =>
    orphanPins (s.pinsOf n) (orphanOutputs ((s.chansOfFn n).filter fun c => isOutput (s.mode c)) s)) s

/-! Masks (R250, R251). -/

/-- A mask bit, set or slot that the variant does not have, or that another function holds; 0 where there is none. -/
def State.maskRefusal (s : State) (n sub v : Nat) : Nat :=
  let others := s.fns17.filter (· != n)
  let taken (k : Nat → Nat) (w : Nat) : Bool := (List.range w).any fun i =>
    v.testBit i && others.any fun m => (s.get (k m)).testBit i
  match sub with
  | 2 =>
    if (List.range 32).any fun a => v.testBit a && !s.variant.hasAxis a then 0x0502
    else if taken Obj.fnAxisMask 24 then 0x0206 else 0
  | 3 =>
    if (List.range 256).any fun c => v.testBit c && !s.variant.hasChan c then 0x0502
    else if taken Obj.channelMask 256 then 0x0206 else 0
  | 4 => if taken Obj.gpMask 96 then 0x0206 else 0
  | 5 =>
    if v = 0xFF then 0
    else if s.variant.isE && decide (1 ≤ v) then 0x0502
    else if others.any fun m => s.get (Obj.seqSet m) == v then 0x0206 else 0
  | _ => 0

/-- A mask, set or binding of a function takes a value; what it gives up stands idle with F0 (R250, R251, R364). -/
def maskWritten (n k v : Nat) (s : State) : State :=
  let was := s
  let s := s.put k v
  let gone (w : Nat) : List Nat := (List.range w).filter fun i => (was.get k).testBit i && !v.testBit i
  let moved (w : Nat) : List Nat := (List.range w).filter fun i => (was.get k).testBit i != v.testBit i
  if k = Obj.fnAxisMask n then disableAxes (gone 24) (s.get (Obj.disableAction 0)) s
  else if k = Obj.channelMask n then orphanOutputs ((moved 256).filter fun c => isOutput (s.mode c)) s
  else if k = Obj.gpMask n then orphanPins (gone 96) s
  else s

/-! Lanes (R266). -/

/-- The first queued transaction of a place. -/
def State.headOf (s : State) (p : Nat) : Option Flight := s.host.flights.find? fun f => f.place == p && f.isQueued

/-- The candidates. -/
def State.candidates (s : State) : List Flight := (List.range 8).filterMap s.headOf

/-- Virtual times follow the classes that gain a candidate. -/
def settleLanes (s : State) : State :=
  let cs := s.candidates.map (·.cls)
  let held := (List.range 8).filter fun n => cs.contains n && (s.fn n).hadLane
  let low := held.foldl (fun m n => some (match m with | none => (s.fn n).vLane | some x => min x (s.fn n).vLane)) none
  each (List.range 8) (fun n s => s.onFn n fun f =>
    { f with hadLane := cs.contains n
             vLane := if cs.contains n && !f.hadLane then max f.vLane (low.getD f.vLane) else f.vLane }) s

/-- The class with the smallest virtual time of a list; the lower number wins a tie. -/
def State.leastV (s : State) : List Nat → Option Nat
  | [] => none
  | n :: ns => match s.leastV ns with
    | none => some n
    | some m => if (s.fn m).vLane < (s.fn n).vLane then some m else some n

/-- The class that a free lane goes to. -/
def State.laneClass (s : State) : Option Nat :=
  let cs := (List.range 8).filter fun n => (s.candidates.map (·.cls)).contains n
  let free := 32 - (s.host.flights.filter Flight.inLane).length
  let rsv := ((List.range 8).map fun n => s.get (Obj.minLanes n) - s.lanesInUse n).sum
  match s.leastV (cs.filter fun n => decide (s.lanesInUse n < s.get (Obj.minLanes n))) with
  | some n => if 0 < free then some n else none
  | none => if rsv < free then s.leastV cs else none

/-- The candidate of a class that goes first: masters before observers, G between the masters. -/
def State.laneHead (s : State) (n : Nat) : Option Flight :=
  let order := if s.host.rotate then [1, 0, 2, 3, 4, 5, 6, 7] else [0, 1, 2, 3, 4, 5, 6, 7]
  (order.filterMap s.headOf).find? (·.cls == n)

/-- The first free lane. -/
def State.freeLane (s : State) : Option Nat :=
  (List.range 32).find? fun l => !s.host.flights.any fun f => decide (f.phase = .lane l)

/-- LANE_GRANT (R266): a free lane takes one transaction. -/
def execLaneGrant (s : State) : Host.Outcome State Fault Refusal :=
  s.answerLive fun s =>
    let s := settleLanes s
    match s.laneClass with
    | none => s
    | some n =>
      match s.laneHead n, s.freeLane with
      | some f, some l =>
        let both := [0, 1].all fun p => ((s.headOf p).map (·.cls)) == some n
        let s := s.onFlight f.id fun f => { f with phase := .lane l, since := s.now }
        let s := s.onFn n fun u => { u with vLane := u.vLane + 360360 / max 1 (s.get (Obj.qosWeight n)) }
        let s := if both then s.onHost fun h => { h with rotate := !h.rotate } else s
        settleLanes (moveFill 3 (moveFill (min f.place 2) s))
      | _, _ => s

/-! Weirs and errors of queues (R268, R277, R278, R281). -/

/-- WEIR_NOTICE_INTERVAL_END (R278). -/
def execWeirNoticeIntervalEnd (q : Fin 15) (high : Bool) (s : State) : Host.Outcome State Fault Refusal :=
  s.answerLive fun s =>
    let w := s.weir q
    let due := ((if high then w.highAt else w.lowAt).map fun t =>
      decide (t + ms (s.get Obj.weirNoticeInterval) ≤ s.now)).getD false
    if due && (if high then w.highSuppressed else w.lowSuppressed) then
      (weirNotice q high s).onWeir q fun w =>
        if high then { w with highAt := some s.now, highSuppressed := false }
        else { w with lowAt := some s.now, lowSuppressed := false }
    else s

/-- What a write to WeirStatus leaves: 1s in bits 3:2 clear (R277). -/
def weirStatusWritten (q v : Nat) (s : State) : State :=
  let old := s.get (Obj.weirStatus q)
  s.put (Obj.weirStatus q) (setBitOf (setBitOf old 2 (old.testBit 2 && !v.testBit 2)) 3 (old.testBit 3 && !v.testBit 3))

/-- A list without its entry at a position. -/
def dropAt {α : Type} : Nat → List α → List α
  | _, [] => []
  | 0, _ :: xs => xs
  | n + 1, x :: xs => x :: dropAt n xs

/-- The running transaction of the Crystalliser is abandoned: a flush begins anew, another job comes first again (R281). -/
def abandonJob (s : State) : State :=
  match s.recd.running with
  | none => s
  | some j => (s.whenever (s.get Obj.recorderState == 2) (State.put Obj.recorderState 1)).onRec fun r =>
    { r with running := none, queue := { j with cut := 0, updates := [], snap := none } :: r.queue
             updates := j.updates ++ r.updates
             envPending := r.envPending || ((j.snap.bind (·.envs)).isSome) }

/-- The effect of an uncorrectable error in queue `q` (table "Uncorrectable errors"): `unit` is the place of the session, or
the position of the entry; position 0 of Outfall is the frame being sent. -/
def queueError (q unit : Nat) (s : State) : State :=
  match q with
  | 5 => moveFill 5 (s.onHost fun h => { h with pool := dropAt unit h.pool })
  | 11 =>
    match s.recd.brine[unit]? with
    | none => s
    | some r => moveFill 11 ((s.onRec fun x =>
        { x with brine := dropAt unit x.brine, brineError := true
                 gapNext := x.gapNext.modify r.log fun _ => true
                 running := x.running.map fun j => if unit < j.cut then { j with cut := j.cut - 1 } else j }).inc
          Obj.droppedRecords)
  | 12 => abandonJob s
  | _ =>
    if q = 6 ∨ q = 7 then
      let p := q - 6
      let s := countPort (Obj.txStomped 0) p 1 s
      if unit = 0 then s.onPort p fun u => { u with sending := u.sending.map fun f => { f with stomp := false } }
      else
        serve p (s.onPort p fun u =>
          let all := u.queues.flatten
          match all[unit - 1]? with
          | none => u
          | some f => { u with queues := u.queues.map fun x => if x.contains f then x.erase f else x })
    else endSession (if q ≤ 1 then q else if q = 13 ∨ q = 14 then q - 13 else unit) 5 s

/-- ECC_UNCORRECTABLE (R268, R281): an error found in queue `q` at a word; a single-bit one is corrected. -/
def execEccUncorrectable (q : Fin 15) (double : Bool) (unit word : Nat) (s : State) : Host.Outcome State Fault Refusal :=
  s.answerLive fun s =>
    if s.variant.isE && q.val == 7 then s
    else if !double then s.inc (Obj.correctedErrors q)
    else
      let s := (s.inc (Obj.uncorrectedErrors q)).put (Obj.errorWord q) word
      let s := memoryFault (Obj.errorWord q) (s.get (Obj.errorWord q)) 0 6 q s
      queueError q unit s

end Sys2Proof.Machine
end

