-- ==== Sys2Proof/Machine/Crystal.lean ====
section
/-!
DEFINITION. Machine/Crystal.lean: the Crystalliser and the Saltpan (08_recorder.md): journalled transactions, flushes,
the opening with its recovery, records as bytes, the reader's window, and the sampled stores.
Readings and choices in the log: DESIGN CHOICE 3, 60; DEDUCED 56, 57, 58, 59, 61, 62, 63, 68, 69, 123.
-/
namespace Sys2Proof.Machine
open Sys2Proof Sys2Proof.Config

/-! Records as bytes (R148, R160). -/

/-- Header and body of a record, flags byte given (table "Record header"). -/
def headerBytes (len kind flags seq secs power frac src rev rep last : Nat) : List Byte :=
  toLe 2 len ++ [byte kind, byte flags] ++ toLe 4 seq ++ toLe 5 secs ++ toLe 3 power ++ toLe 4 frac
    ++ toLe 2 src ++ toLe 2 rev ++ toLe 2 rep ++ [0, 0] ++ toLe 4 last

/-- A record whose CRC is the one that was stored, with window flags added afterwards (R148). -/
def sealRecord (stored shown : Nat → List Byte) (flags extra : Nat) : List Byte :=
  shown (flags + extra) ++ toLe 4 (crc32c (stored flags))

/-- A log record as a window shows it. -/
def LogRec.encode (r : LogRec) (unflushed : Bool) : List Byte :=
  let flags := bitVal r.calValid + 4 * bitVal r.pinned + 8 * bitVal r.gap
  let f (g : Nat) : List Byte :=
    headerBytes r.length r.kind g r.seqNo r.seconds r.powerCycle r.fraction r.source r.revision r.repeatCount
      r.lastRepeatMs ++ r.body
  sealRecord f f flags (2 * bitVal unflushed + 16 * bitVal r.bad)

/-- A histogram entry as a record of kind 16#30 (R160, R161). -/
def histoRecord (n src : Nat) (h : Histo) : List Byte :=
  let (b, w) := histoScale n
  let body := toLe 2 n ++ [byte (bitVal h.saturated), 0] ++ toLe 2 (encSigned 16 b) ++ toLe 2 w
    ++ h.bins.flatMap (toLe 4)
  let f (g : Nat) : List Byte :=
    headerBytes (36 + body.length) 0x30 g n h.seconds h.powerCycle h.fraction src h.revision 0 0 ++ body
  sealRecord f f (bitVal h.calValid) 0

/-- One end of an extreme entry as bytes. -/
def peakBytes : Option Peak → List Byte
  | none => List.replicate 20 0
  | some p => toLe 4 (encSigned 32 p.value) ++ toLe 4 p.opSeconds ++ toLe 4 p.powerCycle ++ toLe 8 p.utc

/-- An extreme entry as a record of kind 16#31 (R160, R162). -/
def extremeRecord (n src : Nat) (e : Extreme) : List Byte :=
  let body := toLe 2 n ++ [byte (bitVal e.max.isSome + 2 * bitVal e.min.isSome), 0] ++ peakBytes e.max ++ peakBytes e.min
  let f (g : Nat) : List Byte :=
    headerBytes (36 + body.length) 0x31 g n e.seconds e.powerCycle e.fraction src e.revision 0 0 ++ body
  sealRecord f f (bitVal e.calValid) 0

/-! Views of the logs. -/

/-- The records of a log in ascending SeqNo as bytes with their numbers: committed ones first (R159). -/
def State.logWindow (s : State) (l : Nat) : List (Nat × List Byte) :=
  (((s.salt.logOf l).map (LogRec.latest s.recd.allUpdates)).map fun r => (r.seqNo, r.encode false))
    ++ ((s.recd.brineOf l).map fun r => (r.seqNo, r.encode true))

/-- Entries of the histogram store whose resource the variant has. -/
def State.histoKeys (s : State) : List Nat :=
  (List.range 102).filter fun n =>
    if n < 96 then s.variant.hasAxis (n / 4) else if n < 100 then s.variant.hasDie (n - 96) else true

/-- Entries of the extreme store whose resource the variant has. -/
def State.extremeKeys (s : State) : List Nat :=
  (List.range 56).filter fun n =>
    if n < 48 then s.variant.hasAxis (n / 2) else if n < 52 then s.variant.hasDie (n - 48) else true

/-- What a cursor reads: log 0 to 2, or store 3 or 4 (R160). -/
def State.cursorList (s : State) (l : Nat) : List (Nat × List Byte) :=
  match l with
  | 3 => s.histoKeys.map fun n =>
      (n, histoRecord n (if n < 96 then s.srcAxis (n / 4) else srcDevice) (s.recd.histos.getD n Histo.empty))
  | 4 => s.extremeKeys.map fun n =>
      (n, extremeRecord n (if n < 48 then s.srcAxis (n / 2) else srcDevice) (s.recd.extremes.getD n Extreme.empty))
  | _ => s.logWindow l

/-- The records that fit in so many bytes, and the rest. -/
def fitRecords : Nat → List (Nat × List Byte) → List (Nat × List Byte) × List (Nat × List Byte)
  | _, [] => ([], [])
  | room, r :: rs =>
    if r.2.length ≤ room then
      let (a, b) := fitRecords (room - r.2.length) rs
      (r :: a, b)
    else ([], r :: rs)

/-- The window of a cursor, and the cursor after it (R159). -/
def State.window (s : State) (log cursor size : Nat) : List Byte × Nat :=
  let rs := (s.cursorList log).dropWhile fun r => decide (r.1 < cursor)
  let skipped := match rs with
    | [] => 0
    | r :: _ => r.1 - cursor
  let (fit, rest) := fitRecords (size - 8) rs
  (toLe 4 skipped ++ toLe 2 fit.length ++ [byte log, byte (bitVal (!rest.isEmpty))] ++ fit.flatMap (·.2),
    match fit.getLast? with
    | none => cursor
    | some r => (r.1 + 1) % 4294967296)

/-- Bytes of a log's ring (R144). -/
def ringCapacity (l : Nat) : Nat :=
  match l with
  | 0 => 2093056
  | 1 => 1048576
  | _ => 536576

/-- Where a log's ring begins in the Saltpan. -/
def ringBase (l : Nat) : Nat :=
  match l with
  | 0 => 0x200000
  | 1 => 0x100000
  | _ => 0x07D000

/-- The ring of a log. -/
def Saltpan.ringOf (p : Saltpan) (l : Nat) : List LogRec :=
  match l with
  | 0 => p.cycleLog
  | 1 => p.eventLog
  | _ => p.faultLog
/-- The ring of a log, replaced. -/
def Saltpan.setRing (p : Saltpan) (l : Nat) (rs : List LogRec) : Saltpan :=
  match l with
  | 0 => { p with cycleLog := rs }
  | 1 => { p with eventLog := rs }
  | _ => { p with faultLog := rs }

/-- Bytes of records. -/
def bytesOf (rs : List LogRec) : Nat := (rs.map LogRec.length).sum

/-- FlushEstimate of a flush that started now (R157): 60 µs, the Brine bytes at 32 MB/s, the stores, the envelopes. -/
def State.flushTime (s : State) : Nat := 60 + (s.brineFill + 31) / 32 + 690 + (if s.recd.envPending then 380 else 0)

/-- FlushEstimate with the remainder of a running flush (08_recorder.md, "Power fails during a periodic flush"). -/
def State.flushEstimate (s : State) : Nat :=
  s.flushTime + match s.recd.running with
    | some j => if j.isFlush then j.estimate - (s.now - j.startedAt) / us 1 else 0
    | none => 0

/-! What STORE covers (R174, R177). -/

/-- Envelopes and seeds reach the Saltpan by flushes. -/
def isEnvKey (k : Nat) : Bool :=
  decide (0x3400 ≤ k / 256 ∧ k / 256 < 0x3418) && [1, 2, 8, 9].contains (k % 256)

/-- STORE covers the object: P, without lattice image, table slots, envelopes and seeds. -/
def storeCovers (k : Nat) : Bool :=
  persOf k == .p && k / 256 != 0x2001 && !decide (0x2120 ≤ k / 256 ∧ k / 256 < 0x2140)
    && !decide (0x4000 ≤ k / 256 ∧ k / 256 < 0x4800) && !isEnvKey k

/-- The object lies in the scope of a STORE (R175). -/
def State.inScope (s : State) (scope k : Nat) : Bool := storeCovers k && (scope == 0xFF || s.ownerOf k == scope)

/-- The STORE that a lane starts: its snapshot (R176). -/
def State.storeJob (s : State) (scope : Nat) : JobKind :=
  .store (s.objs.filter fun e => s.inScope scope e.1) scope
    ((s.recd.unstored.filter fun w => s.inScope scope w.2).map (·.1))
    (s.objs.filter fun e => decide (0x1700 ≤ e.1 / 256 ∧ e.1 / 256 < 0x1708))

/-- The stored copy in force. -/
def Saltpan.inForce (p : Saltpan) : List (Nat × Nat) := if p.inForceB then p.copyB else p.copyA

/-- A write of a P object was accepted (R177). -/
def countWrite (k : Nat) (s : State) : State :=
  if storeCovers k then s.onRec fun r => { r with unstored := r.unstored ++ [(r.nextWrite, k)], nextWrite := r.nextWrite + 1 }
  else s

/-! Journalled transactions (R145, R157). -/

/-- A transaction starts: a flush takes its cut, a final one closing the open cycles first (R157, R158). -/
def startJob (j : Job) (s : State) : State :=
  let final := match j.kind with
    | .flush f => f
    | _ => false
  let s := if final then
      (each ((List.range 24).filter fun a => ((s.axis a).cycle).isSome) (fun a s => closeCycle a 4 s) s).onRec
        fun r => { r with finalCut := true }
    else s
  let est := if j.isFlush then s.flushTime else 0
  let snap : Option StoreSnap := if j.isFlush then
      some ⟨s.recd.histos, s.recd.extremes,
        if s.recd.envPending then some (s.objs.filter fun e => isEnvKey e.1) else none⟩
    else none
  (s.put Obj.recorderState 2).onRec fun r =>
    { r with running := some { j with startedAt := s.now, cut := r.brine.length, estimate := est, snap := snap
                                      updates := if j.isFlush then r.updates else []
                                      opSeconds := s.get Obj.operatingSeconds
                                      powerCycles := s.get Obj.powerCycleCount }
             updates := if j.isFlush then [] else r.updates
             envPending := r.envPending && !j.isFlush }

/-- The next transaction other than a flush starts by itself; a flush starts with FLUSH_START. -/
def kick (s : State) : State :=
  match s.recd.running, s.recd.queue with
  | none, j :: js => if j.isFlush then s else startJob j (s.onRec fun r => { r with queue := js })
  | _, _ => s

/-- A transaction other than a flush joins the queue (R157). -/
def addJob (k : JobKind) (flights : List Nat) (s : State) : State :=
  if s.saltOpen then kick (s.onRec fun r => { r with queue := r.queue ++ [Job.waiting k flights] })
  else completeAll flights 0x0340 s

/-- A change of a DOM object's content (R178). -/
def bumpGen (k : Nat) (s : State) : State :=
  s.onRec fun r => { r with gens := storePut 0 k ((storeGet 0 k r.gens + 1) % 65536) r.gens }

/-- A record into its committed log: the pinned area while it has room, else the ring, whose tail gives way (R157). -/
def toLog (r : LogRec) (s : State) : State :=
  let s := s.put (Obj.newestSeq r.log) r.seqNo
  if r.pinned && decide (s.salt.pinned.length < 32) then s.onSalt fun p => { p with pinned := p.pinned ++ [r] }
  else
    let cap := ringCapacity r.log
    let head := s.salt.heads.getD r.log 0
    let newHead := head + r.length
    let ring := s.salt.ringOf r.log ++ [r]
    let trim := (List.range (ring.length + 1)).find? fun i => decide (bytesOf (ring.drop i) ≤ cap)
    let s := if cap ≤ newHead then s.inc (Obj.wrapCount r.log) else s
    let passed (a : Nat) : Bool :=
      let o := a - ringBase r.log
      decide (ringBase r.log ≤ a) && decide (o < cap)
        && (decide (head ≤ o ∧ o < newHead) || decide (o + cap < newHead))
    let s := s.onSalt fun p => { p.setRing r.log (ring.drop (trim.getD 0)) with heads := p.heads.set r.log (newHead % cap) }
    { s with diag := { s.diag with badWords := s.diag.badWords.filter fun w => !passed w.1 } }

/-- In-place updates of committed records (R154). -/
def applyUpdates (us : List LogRec) (s : State) : State :=
  s.onSalt fun p => { p with cycleLog := p.cycleLog.map (LogRec.latest us), eventLog := p.eventLog.map (LogRec.latest us)
                             faultLog := p.faultLog.map (LogRec.latest us), pinned := p.pinned.map (LogRec.latest us) }

/-- Bad words of an address range, of one unit or of all, are healed (R384). -/
def healWords (lo hi : Nat) (unit : Option Nat) (s : State) : State :=
  { s with diag := { s.diag with badWords := s.diag.badWords.filter fun w =>
      !(decide (lo ≤ w.1 ∧ w.1 ≤ hi) && (unit == none || unit == some w.2)) } }

/-- Records that a clear removes: committed ones and those of the Brine buffer below the cut (R163). -/
def clearLog (l cut : Nat) (s : State) : Nat × State :=
  let all := s.salt.logOf l ++ s.recd.brineOf l
  let newest := if l = 2 then (all.drop (all.length - 32)).map (·.seqNo) else []
  let goes (r : LogRec) : Bool := r.log == l && !(l == 2 && (r.pinned || newest.contains r.seqNo))
  let ring := s.salt.ringOf l
  let n := (ring.filter goes).length + ((s.recd.brine.take cut).filter goes).length
  let s := (s.onSalt fun p => p.setRing l (ring.filter fun r => !goes r)).onRec fun q =>
    { q with brine := (q.brine.take cut).filter (fun r => !goes r) ++ q.brine.drop cut }
  (n, moveFill 11 (s.inc (Obj.clearCount l)))

/-- A clear of one log or store: how many it removed (R163). -/
def clearOne (l cut : Nat) (s : State) : Nat × State :=
  match l with
  | 3 => ((s.recd.histos.filter (· != Histo.empty)).length,
      (s.onRec fun r => { r with histos := List.replicate 102 Histo.empty }).onSalt fun p =>
        { p with histos := List.replicate 102 Histo.empty })
  | 4 => ((s.recd.extremes.filter (· != Extreme.empty)).length,
      (s.onRec fun r => { r with extremes := List.replicate 56 Extreme.empty }).onSalt fun p =>
        { p with extremes := List.replicate 56 Extreme.empty })
  | _ => clearLog l cut s

/-- The logs and stores that a code of ClearLog names. -/
def clearCodes (code : Nat) : List Nat := if code = 5 then [0, 1, 2, 3, 4] else [code]

/-- What the commit of a transaction makes the committed state; records CLEARED follow the commit (R145, R157, R163). -/
def commitData (j : Job) (s : State) : State × List (Nat × Nat) :=
  match j.kind with
  | .flush _ =>
    let cutRecs := s.recd.brine.take j.cut
    let s := s.onRec fun r => { r with brine := r.brine.drop j.cut }
    let s := applyUpdates j.updates (each cutRecs toLog s)
    let s := match j.snap with
      | none => s
      | some n =>
        let s := s.onSalt fun p => { p with histos := n.histos, extremes := n.extremes, envelopes := n.envs.getD p.envelopes }
        healWords 0x069000 0x074FFF none (if n.envs.isSome then healWords 0x063000 0x068FFF none s else s)
    let s := (s.inc Obj.flushCount).put Obj.lastFlushDuration ((s.now - j.startedAt) / us 1)
    (moveFill 11 s, [])
  | .store snap scope counted masks =>
    let was := { s with objs := masks }
    let kept := s.salt.inForce.filter fun e => !was.inScope scope e.1
    let copy := (snap ++ kept).foldl (fun c e => storePut (defaultOf s.variant e.1) e.1 e.2 c) []
    let s := s.onSalt fun p =>
      if p.inForceB then { p with copyA := copy, inForceB := false } else { p with copyB := copy, inForceB := true }
    let s := s.onRec fun r => { r with unstored := r.unstored.filter fun w => !counted.contains w.1 }
    ((if scope = 0xFF then healWords 0x002000 0x011FFF none s else s).inc Obj.storeCount, [])
  | .image img => (healWords 0x012000 0x012FFF (some 1) (s.onSalt fun p => { p with pendingImage := some img }), [])
  | .promote act =>
    (healWords 0x012000 0x012FFF (if act.isSome then none else some 1)
      (s.onSalt fun p => { p with activeImage := act.getD p.activeImage, pendingImage := none
                                  imageOk := p.imageOk || act.isSome }), [])
  | .tables loads =>
    (each loads (fun (t, x) s =>
      healWords 0x013000 0x062FFF (some t) (s.onSalt fun p => { p with tables := p.tables.set t (some x) })) s, [])
  | .clear code _ =>
    (clearCodes code).foldl (fun (s, out) l =>
      let (n, s) := clearOne l j.cut s
      (s, out ++ [(l, n)])) (s, [])

/-- Kind of a transaction in its journal entry: which of the five of R145 it is. -/
def JobKind.code : JobKind → Nat
  | .flush _ => 0
  | .store .. => 1
  | .image _ => 2
  | .promote _ => 2
  | .tables _ => 3
  | .clear .. => 4

/-- A journal slot in rotation: 64 of them (R144, R145). -/
def pushSlot (x : JournalSlot) (xs : List JournalSlot) : List JournalSlot :=
  let ys := xs ++ [x]
  ys.drop (ys.length - 64)

/-- The running transaction commits (R145, R157, R158). Its operations complete; work behind a final flush can commit no
more (R418). A DeviceReset and a CELL_UV that waited for the final flush act (R297, R347). -/
def commitJob (j : Job) (s : State) : State :=
  let n := (s.get Obj.flushNumber + 1) % 4294967296
  let final := decide (j.kind = .flush true)
  let (s, cleared) := commitData j s
  let s := s.put Obj.flushNumber n
  let s := s.onSalt fun p => { p with journal := pushSlot ⟨n, j.kind.code, true⟩ p.journal, opSeconds := j.opSeconds
                                      powerCycles := j.powerCycles, finalMark := final }
  let s := s.onRec fun r => { r with running := none, lastCommit := s.now, brineError := false }
  let s := if s.diag.badWords.isEmpty then s.setBit Obj.periodicFault 1 false else s
  let s := s.put Obj.recorderState (if final then 3 else 1)
  let s := completeAll j.flights 0 s
  let slot := match j.kind with
    | .clear _ m => m
    | _ => 0xFF
  let s := each cleared (fun (l, c) s =>
    admitEvent 1 0x16 srcDevice ([byte l, byte slot, 0, 0] ++ toLe 4 c) s) s
  if final then
    let ids := s.recd.queue.flatMap (·.flights)
    let s := completeAll ids 0x0340 (s.onRec fun r => { r with queue := [] })
    let s := if s.sup.rsvOffAtCommit then s.onSup fun u => { u with ppRsv := false, rsvOffAtCommit := false } else s
    if s.rst.device then s.onRst fun r => { r with deviceCommitAt := some s.now } else s
  else kick s

/-- The running transaction is lost with the logic die (R146, R339); its entry may have been written. -/
def cutJob (s : State) : State :=
  match s.recd.running with
  | none => s
  | some j =>
    let (k, s) := s.draw
    if entryWritten k then
      s.onSalt fun p => { p with journal := pushSlot ⟨(s.get Obj.flushNumber + 1) % 4294967296, j.kind.code, false⟩ p.journal }
    else s

/-! Opening (R146, R147, R156, R164, R335, R336). -/

/-- A bad word that the opening finds in the committed state: any outside the log areas. -/
def stateWord (a : Nat) : Bool := decide (a < 0x075000) || decide (0x3FF000 ≤ a)

/-- P objects take their stored values; the ones held in VAON only after a POR of VAON (R174, R180). -/
def loadStored (por : Bool) (s : State) : State :=
  let es := (s.salt.inForce ++ s.salt.envelopes).filter fun e => por || !heldInVaon e.1
  each ((List.range 24).filter s.variant.hasAxis) seedState (each es (fun e s => s.put e.1 e.2) s)

/-- The Saltpan is opened: recovery, counters, P objects, and the START record before any other (R146, R164). -/
def openRecorder (por : Bool) (cause : Nat) (s : State) : State :=
  let badImage := s.diag.badWords.any fun w => decide (0x012000 ≤ w.1 ∧ w.1 ≤ 0x012FFF) && w.2 == 0
  let ok := s.salt.readable && !(s.diag.badWords.any fun w => stateWord w.1)
  let s := s.onSalt fun p => { p with readable := ok, imageOk := p.imageOk && !badImage }
  let cutOff := ok && ((s.salt.journal.getLast?).map fun x => !x.committed).getD false
  let s := if cutOff then
      (s.inc Obj.interruptedFlushCount).onSalt fun p => { p with journal := p.journal.filter (·.committed) }
    else s
  let final := s.salt.finalMark
  let s := s.put Obj.operatingSeconds (if ok then (s.salt.opSeconds + (if final then 1 else 601)) % 4294967296 else 0)
  let s := s.put Obj.powerCycleCount ((s.salt.powerCycles + 1) % 16777216)
  let s := s.onSalt fun p => { p with finalMark := false, powerCycles := s.get Obj.powerCycleCount }
  let s := s.put Obj.recorderState (if ok then 1 else 4)
  let s := s.onRec fun r =>
    { r with nextSeq := (List.range 3).map fun l => (s.get (Obj.newestSeq l) + (if final then 1 else 8192)) % 4294967296
             gapNext := List.replicate 3 (!final)
             lastCommit := s.now
             histos := if ok then s.salt.histos else r.histos
             extremes := if ok then s.salt.extremes else r.extremes
             tables := if ok then s.salt.tables else r.tables
             activeImage := if ok then s.salt.activeImage else r.activeImage
             pendingImage := if ok then s.salt.pendingImage else none }
  let s := if ok then loadStored por s else s
  let s := s.put Obj.pendingState (bitVal s.recd.pendingImage.isSome)
  let body := [byte cause, byte (bitVal cutOff + 4 * bitVal final), 0, 0] ++ toLe 4 (s.get Obj.interruptedFlushCount)
    ++ toLe 4 (s.get Obj.flushNumber) ++ [0, 0, 0, 0] ++ toLe 8 s.utcOrZero
  (admitRec 2 0x25 srcDevice body s).2

/-- The START record of this opening shows that an off request met the start (R152, R317). -/
def markStart (s : State) : State :=
  let is (r : LogRec) : Bool := r.kind == 0x25 && r.powerCycle == s.get Obj.powerCycleCount
  let mark (r : LogRec) : LogRec := { r with body := r.body.modify 1 (· ||| 2) }
  if (s.recd.brine.drop s.recd.cutNow).any is then
    s.onRec fun q => { q with brine := q.brine.map fun r => if is r then mark r else r }
  else
    match (s.recd.brine ++ s.salt.logOf 2).find? is with
    | none => s
    | some r =>
      let r := LogRec.latest s.recd.allUpdates r
      s.onRec fun q => { q with updates := q.updates.filter (fun x => !is x) ++ [mark r] }

/-! Commands. -/

/-- FLUSH_PERIOD_EXPIRY (R157): FlushPeriod since the last commit. -/
def execFlushPeriodExpiry (s : State) : Host.Outcome State Fault Refusal :=
  s.answerLive fun s =>
    if s.recd.lastCommit + sec (s.get Obj.flushPeriod) ≤ s.now then wantFlush s else s

/-- FLUSH_START (R157): the flush at the head of the queue takes its cut. -/
def execFlushStart (s : State) : Host.Outcome State Fault Refusal :=
  s.answerLive fun s =>
    match s.recd.running, s.recd.queue with
    | none, j :: js => if j.isFlush then startJob j (s.onRec fun r => { r with queue := js }) else s
    | _, _ => s

/-- JOURNAL_COMMIT (R145): a flush has taken its time (R157). -/
def execJournalCommit (s : State) : Host.Outcome State Fault Refusal :=
  s.answerLive fun s =>
    match s.recd.running with
    | none => s
    | some j => if j.startedAt + us j.estimate ≤ s.now then commitJob j s else s

/-- HISTOGRAM_SAMPLE (R161): VFLD of each die in mV, and the logic-die temperature in 0.1 °C. -/
def execHistogramSample (vfld : List Nat) (temp : Int) (s : State) : Host.Outcome State Fault Refusal :=
  s.answerLive fun s =>
    histoCount 101 temp (each ((List.range 4).filter s.variant.hasDie) (fun k s =>
      histoCount (96 + k) (vfld.getD k 0) s) s)

/-- EXTREME_SAMPLE (R162): 1 ms means of VFLD, VRSV, the rails VCORE, VAUX, VIO, VPHY, VAON in mV and the temperature. -/
def execExtremeSample (vfld : List Nat) (vrsv : Nat) (rails : List Nat) (temp : Int) (s : State) :
    Host.Outcome State Fault Refusal :=
  s.answerLive fun s =>
    let s := each (List.range 5) (fun i s => s.put (Obj.vcoreVoltage + i) (rails.getD i 0)) s
    let s := each ((List.range 4).filter s.variant.hasDie) (fun k s => extremeSample (48 + k) (vfld.getD k 0) s) s
    let s := if s.variant.isT then extremeSample 52 vrsv s else s
    let s := extremeSample 53 temp s
    extremeSample 55 (rails.getD 4 0) (extremeSample 54 (rails.getD 0 0) s)

end Sys2Proof.Machine
end

