-- ==== Sys2Proof/Machine/DieSupply.lean ====
section
/-!
DEFINITION. Machine/DieSupply.lean: the lanes of the die links as seen by the logic die (R25, R109), the supplies of the
field dies (R138, R139), the loss of FD0 (R377), and the reload of a die (R343).
Readings and choices in the log: DEDUCED 22, 64, 65, 66, 67.
-/
namespace Sys2Proof.Machine
open Sys2Proof

/-! FD0 (R376, R377). -/

/-- FD0 no longer carries the coil cells and readbacks: coils off, no readback, bypass in BYPASSED. -/
def fd0Lost (s : State) : State :=
  let s := s.onLat fun l => { l with rb := [Readback.reset, Readback.reset] }
  let s := confirmLoop (evalLoop s)
  if s.get Obj.bypassState == 0 then s
  else (dropBypass s).onBypass fun b => { b with rbA := false, rbB := false }

/-- The terms after a change of what die `k` delivers (R25, R377). -/
def dieMoved (k : Nat) (f : State → State) : State → State := latticeMoves fun s =>
  let s := f s
  let s := if k = 0 && !s.fd0Ok then fd0Lost s else s
  publish (evalLoop (watchPairs s))

/-- SUPPLY_FAULT of a die (R139, R388): `opened` tells whether the entry opened the loop. -/
def dieRecord (k reaction : Nat) (s : State) : State :=
  supplyFault (Obj.dieSupplyStatus k) reaction (s.get (Obj.dieSupplyStatus k)) (s.get (Obj.vfldVoltage k)) s

/-- A change at die `k` that turns its outputs off, with its record: Reaction bit 2, and bit 0 where the loop opens. -/
def dieOff (k : Nat) (f : State → State) (s : State) : State :=
  let was := s.loopTerm
  let s := dieMoved k f s
  dieRecord k (4 + bitVal (was && !s.loopTerm)) s

/-! Frames (R108, R109). -/

/-- FUNCTIONAL_FRAME (R108, R109): a good frame sets the die's InputStates. -/
def execFunctionalFrame (k : Fin 4) (crcOk : Bool) (s : State) : Host.Outcome State Fault Refusal :=
  s.answerLive fun s =>
    if !crcOk || !s.variant.hasDie k.val || (s.die k).reversed then s
    else
      let s := s.onDie k fun d => { d with funcAt := s.now, funcUp := true }
      each (s.chansOf k) (fun c s => linkDiag c (putInput c (s.dieState c) s)) s

/-- FUNCTIONAL_LINK_TIMEOUT (R109): 150 µs without a good frame. -/
def execFunctionalLinkTimeout (k : Fin 4) (s : State) : Host.Outcome State Fault Refusal :=
  s.answerLive fun s =>
    if s.variant.hasDie k.val && (s.die k).funcUp && decide ((s.die k).funcAt + us 150 ≤ s.now) then
      let s := dieMoved k (fun s => s.onDie k fun d => { d with funcUp := false }) s
      each (s.chansOf k) (fun c s => linkDiag c (putInput c false s)) s
    else s

/-- LATTICE_LINK_TIMEOUT (R25, R31, R388): 150 µs without a good frame; the loss of the link is recorded. -/
def execLatticeLinkTimeout (k : Fin 4) (s : State) : Host.Outcome State Fault Refusal :=
  s.answerLive fun s =>
    if s.variant.hasDie k.val && (s.die k).lattUp && decide ((s.die k).lattAt + us 150 ≤ s.now) then
      dieOff k (fun s => s.onDie k fun d => { d with lattUp := false }) s
    else s

/-! Conditions of a die's supply (table "Field-die supply conditions"). -/

/-- What a die's condition does in the logic die, which only a running logic die does. -/
def inLogic (f : State → State) (s : State) : State := if s.live then f s else s

/-- The conditions of a die shown in DieSupplyStatus. -/
def showDie (k : Nat) (s : State) : State :=
  let d := s.die k
  let a := Obj.dieSupplyStatus k
  ((s.setBit a 0 d.uv).setBit a 1 d.surge).setBit a 2 d.gnd

/-- DIE_UV on every channel of a die, and its cells off. -/
def dieDown (k : Nat) (s : State) : State :=
  each (s.chansOf k) (fun c s => applyCell c (diagRise c 6 0 s)) s

/-- The end of the last condition that kept a die down: inputs start afresh, outputs resume with an inrush window
(R139). -/
def dieUp (k : Nat) (s : State) : State :=
  each (s.chansOf k) (fun c s =>
    let m := s.mode c
    let v := s.vfld c
    let s := s.onChan c fun x => { (if isInput m then Chan.restart m v s.now x else x) with fresh := true }
    applyCell c (diagFall c 6 s)) s

/-- An entry into UNDER_VOLTAGE or GND_SHIFT: `f` sets the condition, `count` is its counter. -/
def enterDown (k count : Nat) (f : State → State) (s : State) : State :=
  let mark (s : State) : State := dieDown k (f s)
  if s.live then dieOff k (fun s => (showDie k (mark s)).inc count) s else mark s

/-- The end of UNDER_VOLTAGE or GND_SHIFT. -/
def leaveDown (k : Nat) (f : State → State) (s : State) : State :=
  let g (s : State) : State :=
    let s := f s
    if (s.die k).down then s else dieUp k s
  if s.live then dieMoved k (fun s => showDie k (g s)) s else g s

/-- DIE_UNDER_VOLTAGE (R138, R139): VFLDk in mV has been below 15.5 V for `heldUs`. -/
def execDieUnderVoltage (k : Fin 4) (mv : Int) (heldUs : Nat) (s : State) : Host.Outcome State Fault Refusal :=
  s.answer <|
    if s.variant.hasDie k.val && !(s.die k).uv && decide (mv < 15500 ∧ 100 ≤ heldUs) then
      enterDown k (Obj.uvCount k) (fun s => s.onDie k fun d => { d with uv := true }) s
    else s

/-- DIE_UV_EXIT (R138, R139). -/
def execDieUvExit (k : Fin 4) (mv : Int) (heldUs : Nat) (s : State) : Host.Outcome State Fault Refusal :=
  s.answer <|
    if (s.die k).uv && decide (16500 ≤ mv ∧ 10000 ≤ heldUs) then
      leaveDown k (fun s => s.onDie k fun d => { d with uv := false }) s
    else s

/-- GND_SHIFT_ENTRY (R138): FGNDk and GND differ by `mv` for `heldUs`. -/
def execGndShiftEntry (k : Fin 4) (mv heldUs : Nat) (s : State) : Host.Outcome State Fault Refusal :=
  s.answer <|
    if s.variant.hasDie k.val && !(s.die k).gnd && decide (2000 < mv ∧ 1000 ≤ heldUs) then
      enterDown k (Obj.gndShiftCount k) (fun s => s.onDie k fun d => { d with gnd := true }) s
    else s

/-- GND_SHIFT_EXIT (R138, R139). -/
def execGndShiftExit (k : Fin 4) (mv heldUs : Nat) (s : State) : Host.Outcome State Fault Refusal :=
  s.answer <|
    if (s.die k).gnd && decide (mv ≤ 1000 ∧ 10000 ≤ heldUs) then
      leaveDown k (fun s => s.onDie k fun d => { d with gnd := false }) s
    else s

/-- SURGE_ENTRY (R138, R139): cells keep their states. -/
def execSurgeEntry (k : Fin 4) (mv heldUs : Nat) (s : State) : Host.Outcome State Fault Refusal :=
  s.answer <|
    if s.variant.hasDie k.val && !(s.die k).surge && decide (31500 < mv ∧ 1000 ≤ heldUs) then
      inLogic (fun s => dieRecord k 0 ((showDie k s).inc (Obj.surgeCount k)))
        (s.onDie k fun d => { d with surge := true })
    else s

/-- SURGE_EXIT (R138). -/
def execSurgeExit (k : Fin 4) (mv heldUs : Nat) (s : State) : Host.Outcome State Fault Refusal :=
  s.answer <|
    if (s.die k).surge && decide (mv ≤ 30500 ∧ 10000 ≤ heldUs) then
      inLogic (showDie k) (s.onDie k fun d => { d with surge := false })
    else s

/-- V objects of a channel that the logic die holds through a FIELD_POR (table "Objects after reset", R180). -/
def keptAtPor (k : Nat) : Bool :=
  let sub := k % 256
  match k / 65536 with
  | 0x61 => sub == 4
  | 0x62 => decide (2 ≤ sub)
  | 0x63 => decide (2 ≤ sub)
  | _ => false

/-- The object number belongs to a channel of die `k`. -/
def ofDie (k n : Nat) : Bool := decide (0x60 ≤ n / 65536 ∧ n / 65536 ≤ 0x64) && n / 256 % 256 / 64 == k

/-- FIELD_POR (R138, R180): VFLDk, in mV, is below 8.0 V: the die's registers are lost and every channel is OFF. -/
def fieldPor (k : Nat) (s : State) : State :=
  let s := each (s.chansOf k) (fun c s =>
    if (s.die k).reversed then s.onChan c fun x => { x with on := false, offAt := s.now } else switchCell c false s) s
  let s := s.onDie k fun d =>
    { d with lost := true, reversed := false, porAt := s.now, regs := List.replicate 64 ChanRegs.reset }
  let s := { s with objs := s.objs.filter fun e => !(ofDie k e.1 && persOf e.1 == .v && !keptAtPor e.1) }
  each (s.chansOf k) (fun c s =>
    let s := s.onChan c fun x =>
      { Chan.restart 0 0 s.now x with base := 0, flash := none, dem := false, clamping := false, hot := false
                                      retries := [], window := none, inrushUntil := none, fresh := true }
    let s := if (s.die k).down then s.setBit (Obj.diagStatus c) 6 true else s
    linkDiag c s) s

/-- FIELD_POR (R138). -/
def execFieldPor (k : Fin 4) (mv : Int) (s : State) : Host.Outcome State Fault Refusal :=
  s.answer <|
    if s.variant.hasDie k.val && decide (mv < 8000) then
      if s.live then dieMoved k (fieldPor k) s else fieldPor k s
    else s

/-- REVERSE_SUPPLY (R138): the die is unpowered; cells in an output mode conduct. -/
def execReverseSupply (k : Fin 4) (s : State) : Host.Outcome State Fault Refusal :=
  s.answer <|
    if !s.variant.hasDie k.val || (s.die k).reversed then s
    else each ((s.chansOf k).filter fun c => isOutput (s.get (Obj.channelMode c))) (fun c s =>
      s.onChan c fun x => { x with on := true })
      (s.onDie k fun d => { d with reversed := true, lost := true })

/-! Reload (R138, R343). -/

/-- A channel whose OUT_DIRECT settings in the die are those of the restored objects (R343). -/
def State.directKept (s : State) (c : Nat) : Bool :=
  s.mode c == 8 && s.regs c == ⟨s.get (Obj.channelMode c), s.get (Obj.directPin c), s.get (Obj.tripCurrent c),
    s.get (Obj.loadType c), s.get (Obj.turnOffMode c)⟩

/-- The die's supply condition on a channel, as DiagStatus shows it. -/
def showUv (k c : Nat) (s : State) : State := if (s.die k).down then diagRise c 6 0 s else diagFall c 6 s

/-- The logic die loads the configuration of every channel of a die. -/
def reloadDie (k : Nat) (s : State) : State :=
  showDie k (each (s.chansOf k) (fun c s =>
    showUv k c (if s.directKept c && !(s.die k).lost then linkDiag c s else configureCell c s)) s)

/-- A good frame has come from the die since it lost its registers. -/
def Die.heard (d : Die) : Bool := (d.lattUp && decide (d.porAt < d.lattAt)) || (d.funcUp && decide (d.porAt < d.funcAt))

/-- The reload after FIELD_POR, with its count, POR_SEEN and record (R138, R139). -/
def porReload (k : Nat) (s : State) : State :=
  dieMoved k (fun s =>
    let s := (s.inc (Obj.diePorCount k)).setBit (Obj.dieSupplyStatus k) 3 true
    let s := dieRecord k 4 s
    reloadDie k (s.onDie k fun d => { d with lost := false })) s

/-- FIELD_POR_RELOAD (R138): at the first good link frame; during a start, P4 does it (R343). -/
def execFieldPorReload (k : Fin 4) (s : State) : Host.Outcome State Fault Refusal :=
  s.answerLive fun s =>
    let ph := s.get Obj.powerPhase
    if s.variant.hasDie k.val && (s.die k).lost && !(s.die k).reversed && (s.die k).heard
        && !decide (0x10 ≤ ph ∧ ph ≤ 0x13) then porReload k s else s

/-- What a write to DieSupplyStatus leaves: a 1 in bit 3 clears POR_SEEN. -/
def dieStatusWritten (k v : Nat) (s : State) : State :=
  if v.testBit 3 then s.setBit (Obj.dieSupplyStatus k) 3 false else s

end Sys2Proof.Machine
end

