-- ==== Sys2Proof/Machine/Reset.lean ====
section
/-!
DEFINITION. Machine/Reset.lean: the VAON domain (R284, R311, R338), the PEN lines and rails (R285, R286), the loss and the
start of the logic die (18_reset.md), and the off and on requests with what they meet (R315, R317, R319).
Readings and choices in the log: DESIGN CHOICE 144; DEDUCED 77, 78, 80, 83, 84, 136, 137.
-/
namespace Sys2Proof.Machine
open Sys2Proof Sys2Proof.Config

/-! Settings on which the VAON domain acts while the logic die does not run. -/

/-- RestartHoldOff, MainFailTime, CellCount, WakeAt, WakeMask, OffWakeMask and WakePolarity. -/
def vaonSettings : List Nat :=
  [Obj.restartHoldOff, Obj.mainFailTime, Obj.cellCount, Obj.wakeAt, Obj.wakeMask, Obj.offWakeMask, Obj.wakePolarity]

/-- The objects are restored: the recorder has been opened (R316). -/
def State.restored (s : State) : Bool := s.live && s.get Obj.recorderState != 0

/-- A setting as the VAON domain acts on it. -/
def State.vaonGet (s : State) (k : Nat) : Nat :=
  if s.restored then s.get k else storeGet (defaultOf s.variant k) k s.pow.held

/-- The VAON domain keeps the settings as they stand. -/
def saveSettings (s : State) : State :=
  if s.get Obj.recorderState = 0 then s
  else s.onPow fun p => { p with held := s.objs.filter fun e => vaonSettings.contains e.1 }

/-! PEN lines and rails (R285, R286). -/

/-- A PEN line changes. -/
def onPen (i : Nat) (f : Pen → Pen) (s : State) : State :=
  s.onSup fun u => { u with pens := u.pens.modify i fun p => (f (p.settle s.now)).settle s.now }
/-- A PEN line rises at a time; its rail has to come to power-good anew. -/
def raisePen (i at_ : Nat) (s : State) : State :=
  if s.pen i then s
  else onPen i (fun p => { p with toggle := some at_ })
    (s.onSup fun u => { u with rails := setBitOf u.rails (railOfPen i) false })

/-- RailStatus. -/
def State.railWord (s : State) : Nat :=
  ofBits ([0, 1, 2, 3].map s.railGood) + 16 * bitVal (s.sup.rails.testBit 4)
/-- The three rails of the logic die show power-good. -/
def State.coreGood (s : State) : Bool := s.railGood 0 && s.railGood 1 && s.railGood 2

/-- The PENs in a list fall in order, one each `gap` cycles from now on; a rise that was under way is dropped. -/
def fallPens (gap : Nat) (is : List Nat) (s : State) : State :=
  let s := each is.zipIdx (fun (i, j) s => onPen i (fun p => { p with toggle := some (s.now + j * gap) }) s) s
  s.onPow fun p => { p with lastPenFall := if is.isEmpty then p.lastPenFall else some (s.now + (is.length - 1) * gap) }

/-- Every raised PEN falls, in reverse order (R285, R317, R318). `follow`: as in D4. -/
def dropPens (gap : Nat) (follow : Bool) (s : State) : State :=
  let up := [3, 2, 1, 0].filter s.pen
  let s := each (([0, 1, 2, 3] : List Nat).filter fun i => !s.pen i) (fun i s => onPen i (fun p => { p with toggle := none }) s) s
  fallPens gap up (s.onSup fun u => { u with follow := follow })

/-- In D4 a rail has fallen below its brown-out level: the PEN before it drops at once (R285). -/
def railFell (r : Nat) (s : State) : State :=
  let i := match r with
    | 3 => 3
    | 2 => 2
    | 0 => 1
    | _ => 0
  if s.sup.follow && !s.pen i then fallPens (ms 5) ([2, 1, 0].filter fun j => decide (j < i) && s.pen j) s else s

/-! The loss of the logic die (R339, R341, R342). -/

/-- What a channel keeps: the cell and its die's part; what stood in the logic die is gone. -/
def Chan.logicLost (now : Nat) (x : Chan) : Chan :=
  { x with base := 0, flash := none, unlock := false, orphan := false, oflash := none, window := none, holdFrom := none
           noticeAt := none, onAcc := 0, onAt := now }

/-- An axis keeps the levels of its encoder lines. -/
def Axis.logicLost (x : Axis) : Axis := { Axis.reset with levelA := x.levelA, levelB := x.levelB }

/-- An object number that the loss of the logic die leaves: in VAON, fused or in the journal, or a channel's latches and
clamp accumulator, which its die holds (R136, R339, R342). -/
def State.keptAtReset (s : State) (k : Nat) : Bool :=
  heldInVaon k || persOf k == .f || persOf k == .j
    || k == Obj.diagStatus (k / 256 % 256) || (k == Obj.clampEnergyAcc (k / 256 % 256) && s.mode (k / 256 % 256) == 8)

/-- The reserve monitor and the charger after a reset; a CELL_UV that holds PP_RSV_G off stays declared (R297). -/
def Supply.logicLost (u : Supply) : Supply :=
  { u with failAt := none, deferred := false, rsvOffAtCommit := false, motions := [], wire := 0
           wires := List.replicate 17 Wire.reset, cellOv := List.replicate 16 CellWatch.reset
           cellUv := if u.ppRsv then List.replicate 16 CellWatch.reset else u.cellUv.map fun w => { w with goodSince := none }
           sumBadSince := none, sumGoodSince := none, packLowSince := none, full := false, charging := false
           restart := false, lastCycle := 0 }

/-- GP pins: port A keeps its orphan levels, the outside its levels. -/
def Gp.logicLost (g : Gp) : Gp := { Gp.reset with outside := g.outside, orphan := g.orphan.take 16 ++ List.replicate 80 none }

/-- The logic die stops: everything that it holds is lost, its outputs go off, and the VAON domain, the Saltpan and the
field dies stay (R339, R340, R342). -/
def loseLogic (s : State) : State :=
  let s := saveSettings (cutJob s)
  let masters := decide (2 ≤ s.placeNo 0) || decide (2 ≤ s.placeNo 1)
  { s with
    objs := s.objs.filter fun e => s.keptAtReset e.1
    host := HostSide.reset
    lat := { Lattice.reset with coils := s.lat.coils.map fun c => { Coil.reset with offAt := if c.on then s.now else c.offAt } }
    seq := Sequencers.reset
    recd := Recorder.reset s.variant
    axes := s.axes.map Axis.logicLost
    setpts := List.replicate 3 ⟨0, 0⟩
    chans := s.chans.map (Chan.logicLost s.now)
    dies := s.dies.map fun d => { d with lattUp := false, funcUp := false }
    sup := s.sup.logicLost
    pow := { s.pow with logicUp := false, off := none, offHoldup := false, offInStart := false, disabled := [], anyEnabled := false
                        idleSince := if masters then some s.now else s.pow.idleSince
                        sleepAt := none, tested := false, lastEval := 0 }
    clk := { s.clk with fBase := 0, fAt := s.now, fRuns := false, rate := 0, integ := 0, lockRun := 0, ptpUtcOffset := none
                        usedUtcOffset := none, lastTrim := 0, xtalBad := 0, nclkBad := false, tbSeconds := 0 }
    rst := { s.rst with inReset := true, armed := false, device := false, deviceCommitAt := none }
    diag := { s.diag with overSince := none }
    net := Net.reset
    gp := s.gp.logicLost }

/-! Reset causes (R348). -/

/-- A cause is latched in the VAON domain. -/
def latchCause (c : Nat) (s : State) : State :=
  let s := s.onRst fun r => { r with latched := if r.latched.contains c then r.latched else r.latched ++ [c] }
  let s := s.put Obj.resetCauseMask ((s.rst.latched.map (2 ^ ·)).sum)
  let s := s.put Obj.resetCause (s.rst.latched.foldl min 12)
  let s := if 2 ≤ c ∧ c ≤ 8 then s.inc Obj.logicResetCount else s
  if c = 6 then s.inc Obj.watchdogCount else s

/-- A logic-die reset is asserted with a cause; a start follows once nothing holds it (R339, R340). -/
def assertReset (cause : Nat) (s : State) : State :=
  let s := latchCause cause (loseLogic s)
  let s := (s.put Obj.powerState 0).put Obj.powerPhase 0
  (s.onRst fun r => { r with assertedAt := s.now }).onPow fun p =>
    { p with restart := true, failedAt := none, stateAt := s.now, phaseAt := s.now }

/-! Starts (R316, R319, R344, R345). -/

/-- The device is in STANDBY or OFF. -/
def State.parked (s : State) : Bool := decide (4 ≤ s.get Obj.powerState)

/-- A start may begin at P0: it is wanted, XRESET_N is high, a brown-out is over for 1 ms, no failed start waits, the PENs
stand, and RestartHoldOff has passed since the last one fell. -/
def State.startable (s : State) : Bool :=
  s.rst.inReset && s.pow.restart && !s.rst.xresetLow && s.pow.failedAt.isNone && s.get Obj.powerPhase == 0
    && (s.rst.brownAt.isNone || (s.coreGood && decide (s.sup.railAt + ms 1 ≤ s.now)))
    && s.sup.pens.all (fun p => (p.settle s.now).toggle.isNone)
    && (s.pen 0 || (s.pow.lastPenFall.map fun t => decide (t + ms (s.vaonGet Obj.restartHoldOff) ≤ s.now)).getD true)

/-- P0 begins: the causes and the wake source are published (R316, R348, R350). -/
def enterP0 (s : State) : State :=
  let s := (s.put Obj.powerState 0).put Obj.powerPhase 0x10
  let s := (s.put Obj.lastWakeCause s.pow.wakeCause).onLat fun l => { l with loopOpenAt := s.now }
  (s.onRst fun r => { r with latched := [], brownAt := none, p0At := s.now, releasedAt := s.now }).onPow fun p =>
    { p with restart := false, failedAt := none, phaseAt := s.now, stateAt := s.now }

/-- A start begins if it may. -/
def tryStart (s : State) : State := if s.startable then enterP0 s else s

/-- A failed start: the raised PENs drop, and a new attempt comes 1 s later (R285, R345). -/
def failStart (s : State) : State :=
  let s := dropPens (ms 1) false (if s.live then loseLogic s else s)
  let s := (s.put Obj.powerPhase 0).onRst fun r => { r with brownAt := none }
  s.onPow fun p => { p with failedAt := some (max s.now (p.lastPenFall.getD s.now)), restart := false }

/-- A start is unwound before P3: the raised PENs drop and the device goes to the target (R317). -/
def unwind (target : Nat) (s : State) : State :=
  let s := dropPens (ms 1) false (if s.live then loseLogic s else s)
  let s := ((s.put Obj.powerPhase 0).put Obj.powerState target).onRst fun r => { r with inReset := true, brownAt := none }
  s.onPow fun p => { p with unwound := p.unwound + 1, restart := false, failedAt := none, pathLost := s.sup.mainFail
                            stateAt := s.now, phaseAt := s.now }

/-- A wake: from STANDBY or OFF a start, from SLEEP its exit, which SLEEP_EXIT carries out (R309, R310, R311). -/
def wake (source : Nat) (s : State) : State :=
  if s.parked && s.rst.inReset then
    let s := latchCause (if s.get Obj.powerState = 4 then 9 else 10) s
    tryStart (s.onPow fun p => { p with restart := true, wakeCause := source })
  else if s.get Obj.powerState = 3 ∨ s.pow.sleepAt.isSome then s.onPow fun p => { p with restart := true, wakeCause := source }
  else s

/-! Off and on requests (R315, R317, R319). -/

/-- A power-down runs. -/
def State.goingDown (s : State) : Bool := decide (0x20 ≤ s.get Obj.powerPhase)

/-- An off request; OFF replaces STANDBY as the target of one that is pending. -/
def offRequest (target : Nat) (holdup : Bool) (s : State) : State :=
  let ph := s.get Obj.powerPhase
  let join (s : State) : State := s.onPow fun p =>
    { p with off := some (max (p.off.getD 0) target), offHoldup := p.offHoldup || holdup }
  if s.parked || s.get Obj.powerState == 3 then s
  else if s.rst.inReset ∨ (0x10 ≤ ph ∧ ph ≤ 0x12) then unwind target s
  else if 0x13 ≤ ph ∧ ph ≤ 0x15 then
    join ((if s.pow.off.isNone then markStart s else s).onPow fun p => { p with offInStart := true })
  else join s

/-- The device returns to RUN: the functions that D1 disabled, or that drain, are enabled (R319). -/
def resumeRun (s : State) : State :=
  let fns := s.pow.disabled
  let s := (s.put Obj.powerPhase 0).onPow fun p =>
    { p with off := none, offHoldup := false, offInStart := false, disabled := [], anyEnabled := false, phaseAt := s.now }
  let s := s.onSup fun u => { u with deferred := false }
  each fns (fun n s =>
    match s.fnState n with
    | 0 => if s.enableOk n then enableFn n s else s
    | 2 =>
      let s := if (s.fn n).boundary then s else drainBoundary n s
      drainEnd n (s.onFn n fun f => { f with targetEnabled := true })
    | _ => s) s

/-- An on request (R315, R319): from D2 on the power-down completes and a start follows; during a start it has no effect. -/
def onRequest (source : Nat) (s : State) : State :=
  let ph := s.get Obj.powerPhase
  if ph = 0x20 ∨ ph = 0x21 then (resumeRun s).put Obj.lastWakeCause source
  else if 0x22 ≤ ph then s.onPow fun p => { p with restart := true, wakeCause := source }
  else if ph = 0 then s.onPow fun p => { p with off := none, offHoldup := false, offInStart := false }
  else s

/-! XRESET_N, watchdog, device reset (R344, R346, R347). -/

/-- XRESET_ASSERT (R344): the ball has been low for `heldUs`. -/
def execXresetAssert (heldUs : Nat) (s : State) : Host.Outcome State Fault Refusal :=
  s.answer <|
    if heldUs < 2 ∨ s.rst.xresetLow then s
    else
      let s := s.onRst fun r => { r with xresetLow := true }
      if s.parked then (latchCause 5 s).onPow fun p => { p with restart := true } else assertReset 5 s

/-- XRESET_RELEASE (R344): the ball rises. -/
def execXresetRelease (s : State) : Host.Outcome State Fault Refusal :=
  s.answer (tryStart (s.onRst fun r => { r with xresetLow := false }))

/-- WATCHDOG_EXPIRY (R346): no tick has completed, or one operation has occupied a lane, for WatchdogTimeout. -/
def execWatchdogExpiry (s : State) : Host.Outcome State Fault Refusal :=
  s.answerLive fun s =>
    let t := ms (s.get Obj.watchdogTimeout)
    let stuck := decide (s.rst.lastTickAt + t ≤ s.now)
      || s.host.flights.any fun f => f.inLane && decide (f.since + t ≤ s.now)
    if s.rst.armed && stuck && s.get Obj.powerPhase != 0x24 then assertReset 6 s else s

/-- DEVICE_RESET_ASSERT (R347): 2 ms after the commit of the final flush. -/
def execDeviceResetAssert (s : State) : Host.Outcome State Fault Refusal :=
  s.answerLive fun s =>
    if s.rst.device && heldFor s.now (ms 2) s.rst.deviceCommitAt then assertReset 8 s else s

/-! Rails (R285, R286, R345). -/

/-- Power-good and brown-out levels of VCORE, VAUX, VIO and VPHY in mV. -/
def railLevels (r : Nat) : Int × Int :=
  match r with
  | 0 => (770, 740)
  | 1 => (1710, 1620)
  | _ => (3100, 2950)

/-- A rail no longer shows power-good. -/
def railLost (r : Nat) (s : State) : State :=
  railFell r (s.onSup fun u => { u with rails := setBitOf u.rails r false })

/-- RAIL_BROWN_OUT (R286, R345): VCORE, VAUX or VIO, at `mv` for `heldUs`. -/
def execRailBrownOut (rail : Fin 3) (mv : Int) (heldUs : Nat) (s : State) : Host.Outcome State Fault Refusal :=
  s.answer <|
    if !(decide (mv < (railLevels rail).2 ∧ 2 ≤ heldUs)) then s
    else
      let was := s.railGood rail
      let s := railLost rail s
      if was && !s.parked && (s.live || decide (0x12 ≤ s.get Obj.powerPhase) || s.get Obj.powerState == 3
          || (s.rst.inReset && s.get Obj.powerPhase == 0 && s.pow.failedAt.isNone)) then
        assertReset (2 + rail) (s.onRst fun r => { r with brownAt := some (r.brownAt.getD s.now) })
      else s

/-- The PHYs are held in reset: links down, bypass coils off (R199, R286, R322). -/
def physHeld (s : State) : State := each s.portList linkLost (dropBypass s)

/-- VPHY_BROWN_OUT (R286): VPHY at `mv` for `heldUs`. -/
def execVphyBrownOut (mv : Int) (heldUs : Nat) (s : State) : Host.Outcome State Fault Refusal :=
  s.answer <|
    if mv < 2950 ∧ 10 ≤ heldUs ∧ s.railGood 3 = true then
      let s := railLost 3 s
      if s.live then physHeld s else s
    else railFell 3 s

/-- RAIL_POWER_GOOD (R285, R286): a rail, at `mv`, reaches power-good; in a start the next PEN rises 1 ms later. -/
def execRailPowerGood (rail : Fin 4) (mv : Int) (s : State) : Host.Outcome State Fault Refusal :=
  s.answer <|
    let i := match rail.val with
      | 0 => 1
      | 1 => 0
      | r => r
    if mv < (railLevels rail).1 ∨ s.railGood rail = true ∨ s.pen i = false then s
    else
      let s := s.onSup fun u => { u with rails := u.rails ||| 2 ^ rail.val, railAt := s.now }
      if s.get Obj.powerPhase = 0x11 ∧ i < 3 then raisePen (i + 1) (s.now + ms 1) s else s

/-- RAIL_START_TIMEOUT (R285, R345): a rail is not power-good 10 ms after its PEN, or after the brown-out. -/
def execRailStartTimeout (s : State) : Host.Outcome State Fault Refusal :=
  s.answer <|
    let late (i : Nat) : Bool := s.pen i && !s.railGood (railOfPen i)
      && decide (max ((s.sup.pens.getD i ⟨false, 0, none⟩).settle s.now).since s.pow.phaseAt + ms 10 ≤ s.now)
    let start := s.get Obj.powerPhase == 0x11 && ([0, 1, 2, 3] : List Nat).any late
    let brown := s.rst.inReset && heldFor s.now (ms 10) s.rst.brownAt
      && !(s.coreGood && decide (s.sup.railAt + ms 1 ≤ s.now))
    if start || brown then failStart s else s

/-- FAILED_START_RETRY (R285): 1 s after the failed start, with cause 12. -/
def execFailedStartRetry (s : State) : Host.Outcome State Fault Refusal :=
  s.answer <|
    if heldFor s.now (sec 1) s.pow.failedAt && !s.rst.xresetLow then enterP0 (latchCause 12 s) else s

/-- RESTART_HOLDOFF_EXPIRY (R319): RestartHoldOff after the last PEN fell. A wake pin that is selected and still active
wakes the device. -/
def execRestartHoldoffExpiry (s : State) : Host.Outcome State Fault Refusal :=
  s.answer <|
    let pins := s.get Obj.wakeActive &&& s.vaonGet Obj.wakeMask
      &&& (if s.get Obj.powerState = 4 then 0xFFFF else s.vaonGet Obj.offWakeMask)
    if s.parked && !s.pow.restart && pins != 0 then wake 1 s else tryStart s

/-- Object numbers that a POR of VAON leaves: what is fused, and what the Saltpan's journal holds. -/
def keptAtPower (k : Nat) : Bool := persOf k == .f || persOf k == .j

/-- VAON_POR (R286, R338): VAON at `mv` for `heldUs`. The Saltpan and the field dies stay. -/
def execVaonPor (mv : Int) (heldUs : Nat) (s : State) : Host.Outcome State Fault Refusal :=
  s.answer <|
    if mv < 1550 ∧ 2 ≤ heldUs then
      let s := loseLogic s
      let p := State.powerOn s.variant
      { p with now := s.now, free := s.free, salt := s.salt
               objs := s.objs.filter fun e => keptAtPower e.1 || (s.keptAtReset e.1 && decide (0x600000 ≤ e.1))
               chans := s.chans, dies := s.dies, direct := s.direct, wakes := s.wakes
               gp := { p.gp with outside := s.gp.outside }
               diag := { p.diag with badWords := s.diag.badWords }
               rst := { p.rst with xresetLow := s.rst.xresetLow, assertedAt := s.now }
               clk := { p.clk with rtcAt := s.now }
               sup := { p.sup with okAt := some s.now } }
    else s

end Sys2Proof.Machine
end

