-- ==== Sys2Proof/Machine/Supplies.lean ====
section
/-!
DEFINITION. Machine/Supplies.lean: main-supply detection and the power path (R287 to R291, R304), the reserve monitor, the
charger and the energy escrow (R292 to R303, 15_supplies_reserve.md), and the sequencer tick with what it does for them.
Readings and choices in the log: DESIGN CHOICE 75; DEDUCED 70, 71, 72, 73, 74, 76, 77.
-/
namespace Sys2Proof.Machine
open Sys2Proof Sys2Proof.Config

/-- An off request is raised: pending, or its power-down runs. -/
def State.offRaised (s : State) : Bool := s.pow.off.isSome || s.goingDown

/-- PathFlags (R284, R289). -/
def State.pathFlags (s : State) : Nat :=
  ofBits [s.sup.mainOk, s.sup.mainFail, s.sup.ppMain, s.sup.ppRsv && s.variant.isT, s.sup.ov, s.sup.charging, s.offRaised]

/-- T variant with a Spring: CellCount not 0 (R290, R292). -/
def State.hasSpring (s : State) : Bool := s.variant.isT && s.vaonGet Obj.cellCount != 0

/-! The charger (R300). -/

/-- Bit `b` of ReserveFault. -/
def State.resFault (s : State) (b : Nat) : Bool := s.bit Obj.reserveFault b

/-- ReserveState (R300). -/
def showReserve (s : State) : State :=
  s.put Obj.reserveState <|
    if !s.hasSpring then 0
    else if s.resFault 3 || s.get Obj.energyAvailable == 0 then 5
    else if s.onReserve then 4
    else if s.sup.charging then 2
    else if s.sup.full then 3 else 1

/-- The charger judges its conditions. -/
def runCharger (s : State) : State :=
  let top := s.get Obj.maxCell
  let full := s.get Obj.cellFullVoltage
  let ok := s.hasSpring && s.get Obj.pathState == 0 && s.sup.mainOk && heldFor s.now (sec 1) s.sup.okAt
    && !(s.resFault 0 || s.resFault 1 || s.resFault 2 || s.resFault 4) && decide (top < s.get Obj.cellOvVoltage)
  showReserve <| s.onSup fun u =>
    if !ok then { u with charging := false }
    else if full ≤ top then { u with charging := false, full := true }
    else if u.full && decide (full < top + 50) then u
    else { u with charging := true, full := false }

/-- CHARGER_RESUME (R300, R304): 1 s after MAIN_OK. -/
def execChargerResume (s : State) : Host.Outcome State Fault Refusal :=
  s.answerServed fun s => if heldFor s.now (sec 1) s.sup.okAt then runCharger s else s

/-! MAIN_FAIL and MAIN_OK (R288 to R290, R304, R311). -/

/-- MAIN_FAIL in a device whose objects are restored: path, count, record, notice, and the off request of HOLDUP. -/
def failMain (mv : Nat) (s : State) : State :=
  let path := if s.hasSpring then 1 else 2
  let s := dozeExit ((s.put Obj.vmainVoltage mv).put Obj.pathState path)
  let s := (s.onSup fun u => { u with charging := false, failAt := some s.now }).put Obj.balanceActive 0
  let s := s.inc Obj.mainFailCount
  let s := supplyFault Obj.pathState 0 s.pathFlags mv s
  let s := stateNotice Obj.pathState path (showReserve s)
  if path = 2 then offRequest 5 true s else s

/-- MAIN_FAIL is declared. Before P3 the VAON comparator unwinds a start that has no Spring; in SLEEP it wakes a device
that has one. -/
def declareFail (mv : Nat) (s : State) : State :=
  let s := s.onSup fun u => { u with mainOk := false, mainFail := true, okAt := none }
  if s.restored then (if s.get Obj.pathState = 0 then failMain mv s else s)
  else if s.get Obj.powerState = 3 then (if s.hasSpring then wake 3 s else s)
  else if s.parked || s.hasSpring then s
  else offRequest 5 true s

/-- MAIN_FAIL (R288, R290): VMAIN, at `mv`, has stayed below the level in force for `heldUs`. -/
def execMainFail (mv heldUs : Nat) (s : State) : Host.Outcome State Fault Refusal :=
  s.answer <|
    let level := if s.restored then s.get Obj.mainFailVoltage else s.pow.failMv
    let new := !s.sup.mainFail || (s.restored && s.get Obj.pathState == 0)
    if new && decide (mv < level ∧ s.vaonGet Obj.mainFailTime ≤ heldUs) then declareFail mv s else s

/-- Main returns to a device on reserve or in hold-up (R304). -/
def crossover (mv : Nat) (s : State) : State :=
  let t := (s.now - s.sup.failAt.getD s.now) / ms 1
  let pack := if s.onReserve then s.get Obj.packVoltage else 0
  let s := ((s.put Obj.vmainVoltage mv).inc Obj.crossoverCount).put Obj.lastReserveTime t
  let s := admitEvent 1 0x15 srcDevice (toLe 2 mv ++ toLe 2 pack ++ toLe 4 t) s
  let s := ((s.put Obj.pathState 0).setBit Obj.escrowStatus 2 false).setBit Obj.reserveFault 5 false
  let s := s.onSup fun u => { u with deferred := false, failAt := none }
  onRequest 4 (showReserve s)

/-- MAIN_OK (R288, R304, R311): VMAIN, at `mv`, has stayed at or above the level in force for `heldUs`. -/
def execMainOk (mv heldUs : Nat) (s : State) : Host.Outcome State Fault Refusal :=
  s.answer <|
    let level := if s.restored then s.get Obj.mainOkVoltage else s.pow.okMv
    let new := !s.sup.mainOk || (s.restored && s.get Obj.pathState != 0)
    if new && !s.sup.ov && decide (level ≤ mv ∧ 2000 ≤ heldUs) then
      let s := s.onSup fun u => { u with mainOk := true, mainFail := false, okAt := some s.now }
      if s.restored then (if s.get Obj.pathState = 0 then s else crossover mv s)
      else if s.get Obj.powerState = 5 ∨ (s.get Obj.powerState = 4 ∧ s.pow.pathLost = true) then wake 4 s
      else s
    else s

/-- MAIN_OV (R289): VmainVoltage, in mV, has stayed above MainOvVoltage for `heldUs`. Main counts as failed. -/
def execMainOv (mv heldUs : Nat) (s : State) : Host.Outcome State Fault Refusal :=
  s.answerServed fun s =>
    if !s.sup.ov && decide (s.get Obj.mainOvVoltage < mv ∧ 100 ≤ heldUs) then
      declareFail mv ((s.put Obj.vmainVoltage mv).onSup fun u => { u with ov := true, ppMain := false })
    else s

/-- MAIN_OV_CLEAR (R289). -/
def execMainOvClear (mv heldUs : Nat) (s : State) : Host.Outcome State Fault Refusal :=
  s.answerServed fun s =>
    if s.sup.ov && decide (mv + 1000 ≤ s.get Obj.mainOvVoltage ∧ 10000 ≤ heldUs) then
      (s.put Obj.vmainVoltage mv).onSup fun u => { u with ov := false, ppMain := true }
    else s

/-- Status of a write that leaves MainOkVoltage `ok` and MainFailVoltage `fail` (R288). -/
def mainLevelRefusal (ok fail : Nat) : Nat := if ok < fail + 1000 then 0x0206 else 0

/-! The Spring: settings (R292). -/

/-- CellFullVoltage, CellOvVoltage, CellUvVoltage, BalanceStart and BalanceDelta of a chemistry. -/
def chemistryDefaults (v : Nat) : List Nat := if v = 0 then [2500, 2700, 0, 2300, 20] else [3450, 3650, 2500, 3400, 15]

/-- A write of Chemistry or CellCount is accepted while PathState is MAIN. -/
def springRefusal (s : State) : Nat := if s.get Obj.pathState = 0 then 0 else 0x0206

/-- What an accepted write of Chemistry or CellCount does. -/
def springWritten (k v : Nat) (s : State) : State :=
  let s := if k = Obj.chemistry then
      each (chemistryDefaults v).zipIdx (fun (x, i) s => s.put (Obj.cellFullVoltage + i) x) s
    else s
  s.onSup fun u => { u with restart := true }

/-- The next cycle takes the settings over: faults cleared, the wire test at 0. -/
def restartSpring (s : State) : State :=
  let uv := s.resFault 3
  let s := each [Obj.reserveFault, Obj.wireFault, Obj.cellOv, Obj.cellUv, Obj.cellUntrusted] (fun k s => s.put k 0) s
  s.onSup fun u =>
    { u with restart := false, wire := 0, wires := List.replicate 17 Wire.reset
             cellOv := List.replicate 16 CellWatch.reset, cellUv := List.replicate 16 CellWatch.reset
             sumBadSince := none, sumGoodSince := none, packLowSince := none, full := false, charging := false
             ppRsv := u.ppRsv || uv, rsvOffAtCommit := u.rsvOffAtCommit && !uv }

/-! Readings (R293 to R297). -/

/-- A cell's watch after a reading: `out` beyond its threshold, `clear` 100 mV inside it, trusted or not; declared once it
has held for 1 s and both wires have passed a test since it rose. -/
def CellWatch.look (w : CellWatch) (now : Nat) (trusted out clear : Bool) (passed : Option Nat) : CellWatch :=
  let bad := markWhile (out && trusted) now w.badSince
  let good := markWhile (clear && trusted) now w.goodSince
  let tested := match bad, passed with
    | some t, some p => decide (t ≤ p)
    | _, _ => false
  { badSince := bad, goodSince := good
    declared := if w.declared then !heldFor now (sec 10) good else heldFor now (sec 1) bad && tested }

def State.wireOf (s : State) (w : Nat) : Wire := s.sup.wires.getD w Wire.reset

/-- When both wires of cell `k` had passed a test. -/
def State.cellPassed (s : State) (k : Nat) : Option Nat :=
  match (s.wireOf k).passAt, (s.wireOf (k + 1)).passAt with
  | some a, some b => some (min a b)
  | _, _ => none

/-- A reading of cell `k` is trusted (R297). -/
def State.cellTrusted (s : State) (k : Nat) : Bool :=
  (s.wireOf k).lastPass && (s.wireOf (k + 1)).lastPass && !s.bit Obj.wireFault k && !s.bit Obj.wireFault (k + 1)
    && !s.resFault 1

/-- Bits of a map of the cells. -/
def cellBits (n : Nat) (p : Nat → Bool) : Nat := ofBits ((List.range n).map p)

/-- The measured values of step 2. -/
def publishCells (cells : List Nat) (pack : Nat) (s : State) : State :=
  let s := each (List.range 16) (fun k s => s.put (Obj.cellVoltage0 + k) (min 65535 (cells.getD k 0))) s
  let s := (s.put Obj.packVoltage (min 65535 pack)).put Obj.cellSum (min 65535 cells.sum)
  (s.put Obj.minCell (cells.foldl min 65535)).put Obj.maxCell (min 65535 (cells.foldl max 0))

/-- SUM_MISMATCH and PACK_MISSING after a reading (R296): as they stand. -/
def judgePack (sum pack : Nat) (s : State) : Bool × Bool × State :=
  let off := decide (pack + 5000 < 100 * ((sum : Int) - pack).natAbs)
  let s := s.onSup fun u =>
    { u with sumBadSince := markWhile off s.now u.sumBadSince, sumGoodSince := markWhile (!off) s.now u.sumGoodSince
             packLowSince := markWhile (decide (pack < 1000)) s.now u.packLowSince }
  let sum := if s.resFault 1 then !heldFor s.now (sec 10) s.sup.sumGoodSince else heldFor s.now (sec 1) s.sup.sumBadSince
  let low := decide (pack < 1000) && (s.resFault 4 || heldFor s.now (sec 10) s.sup.packLowSince)
  (sum, low, s)

/-- CELL_OV and CELL_UV of every cell (R297). -/
def judgeCells (cells : List Nat) (s : State) : State :=
  let ov := s.get Obj.cellOvVoltage
  let uv := s.get Obj.cellUvVoltage
  let n := cells.length
  let s := s.put Obj.cellUntrusted (cellBits n fun k => !s.cellTrusted k)
  let s := s.onSup fun u =>
    { u with cellOv := u.cellOv.mapIdx fun k w =>
               let c := cells.getD k 0
               if k < n then w.look s.now (s.cellTrusted k) (decide (ov ≤ c)) (decide (c + 100 ≤ ov)) (s.cellPassed k)
               else CellWatch.reset
             cellUv := u.cellUv.mapIdx fun k w =>
               let c := cells.getD k 0
               if k < n ∧ 0 < uv then
                 w.look s.now (s.cellTrusted k) (decide (c ≤ uv)) (decide (uv + 100 ≤ c)) (s.cellPassed k)
               else CellWatch.reset }
  let at_ (ws : List CellWatch) : Nat := cellBits n fun k => (ws.getD k CellWatch.reset).declared
  (s.put Obj.cellOv (at_ s.sup.cellOv)).put Obj.cellUv (at_ s.sup.cellUv)

/-! Faults of the reserve (R297, R299). -/

/-- ReserveFault takes a value: every rise has its record and notice; CELL_UV acts on PP_RSV_G. -/
def setReserveFault (new : Nat) (s : State) : State :=
  let old := s.get Obj.reserveFault
  let s := s.put Obj.reserveFault new
  let s := each ((List.range 6).filter fun b => new.testBit b && !old.testBit b) (fun _ s =>
    stateNotice Obj.reserveFault new (supplyFault Obj.reserveFault 0 new (s.get Obj.packVoltage) s)) s
  let s := if (List.range 6).any fun b => new.testBit b && !old.testBit b then dozeExit s else s
  if new.testBit 3 && !old.testBit 3 then
    if s.onReserve then s.onSup fun u => { u with rsvOffAtCommit := true } else s.onSup fun u => { u with ppRsv := false }
  else if old.testBit 3 && !new.testBit 3 then s.onSup fun u => { u with ppRsv := true, rsvOffAtCommit := false }
  else s

/-! Energy (R301, R302). -/

/-- EnergyAvailable in J; CellCapacity counts in units of 10 mAh. -/
def State.energyNow (s : State) : Nat :=
  let n := s.get Obj.cellCount
  let vp := s.get Obj.packVoltage
  let vmin := s.get Obj.reserveMinVoltage
  if n = 0 ∨ vp ≤ vmin then 0
  else if s.get Obj.chemistry = 0 then s.get Obj.cellCapacitance * (vp * vp - vmin * vmin) / (2 * n * 1000000)
  else
    let low : Nat := if s.get Obj.cellUntrusted = 0 then s.get Obj.minCell else vp / n - 100
    let credit := if 3350 ≤ low then 90 else if 3300 ≤ low then 60 else if 3250 ≤ low then 30
      else if 3100 ≤ low then 10 else 0
    n * s.get Obj.cellCapacity * credit * 1152 / 1000

/-- EnergyEscrow in J, rounded up. -/
def State.escrowNow (s : State) : Nat :=
  let need := s.get Obj.flushPower * (s.flushEstimate + 1000 * s.get Obj.escrowOverheadTime)
    + 1000000 * (s.get Obj.escrowHoldPower * s.get Obj.escrowHoldTime)
  let d := 1000000000 * s.get Obj.escrowEfficiency
  (need * (100 + s.get Obj.escrowMargin) + d - 1) / d

/-- The escrow is breached (R303). -/
def State.breached (s : State) : Bool :=
  s.onReserve && s.get Obj.recorderState != 3
    && decide (s.get Obj.energyAvailable * (100 + s.get Obj.escrowMargin) < 100 * s.get Obj.energyEscrow)

/-! Balancing and the wire test (R295, R298). -/

/-- Cells that may be balanced, in falling order of reading, the lower number first, are taken unless a neighbour is. -/
def pickBalance (cells : List Nat) : List Nat → List Nat → List Nat
  | [], on => on
  | k :: ks, on =>
    let on := if on.contains (k + 1) || (decide (0 < k) && on.contains (k - 1)) then on else on ++ [k]
    pickBalance cells ks on

/-- Insertion by falling reading. -/
def byReading (cells : List Nat) (k : Nat) : List Nat → List Nat
  | [] => [k]
  | j :: js => if cells.getD j 0 < cells.getD k 0 then k :: j :: js else j :: byReading cells k js

/-- BAL lines of step 3. -/
def State.balanceNow (s : State) (cells : List Nat) : Nat :=
  if s.get Obj.pathState ≠ 0 ∨ s.get Obj.wireFault ≠ 0 ∨ s.resFault 1 = true ∨ s.resFault 4 = true then 0
  else
    let low := cells.foldl min 65535
    let may := (List.range cells.length).filter fun k =>
      s.cellTrusted k && decide (s.get Obj.balanceStart ≤ cells.getD k 0 ∧ low + s.get Obj.balanceDelta ≤ cells.getD k 0)
    let on := pickBalance cells (may.foldl (fun l k => byReading cells k l) []) []
    cellBits cells.length on.contains

/-- The test of wire `w` fails: the cell below reads more than 200 mV higher and the cell above 200 mV lower. -/
def wireFails (w : Nat) (cells test : List Nat) : Bool :=
  (w == 0 || decide (cells.getD (w - 1) 0 + 200 < test.getD (w - 1) 0))
    && (w == cells.length || decide (test.getD w 0 + 200 < cells.getD w 0))

/-- Steps 4 to 6: wire `w` is tested, and the test moves on. -/
def testWire (cells test : List Nat) (s : State) : State :=
  let w := s.sup.wire
  let bad := wireFails w cells test
  let x := s.wireOf w
  let x : Wire := { fails := if bad then x.fails + 1 else 0, passes := if bad then 0 else x.passes + 1
                    lastPass := !bad, passAt := if bad then x.passAt else some s.now }
  let s := if 2 ≤ x.fails then s.setBit Obj.wireFault w true
    else if 3 ≤ x.passes then s.setBit Obj.wireFault w false else s
  let last := decide (cells.length ≤ w)
  let s := s.onSup fun u => { u with wires := u.wires.set w x, wire := if last then 0 else w + 1 }
  let s := if last then s.inc Obj.wireTestRounds else s
  setReserveFault (setBitOf (s.get Obj.reserveFault) 0 (s.get Obj.wireFault != 0)) s

/-! The off request of the escrow (R303). -/

/-- An axis in a MANDATORY state moves. -/
def State.mandatoryMoves (s : State) : Bool :=
  s.axes24.any fun a => (s.inst (8 + a)).running && s.st a stMoving
    && ((s.stateRec (8 + a)).map fun r => r.flags.testBit 1).getD false

/-- The escrow's off request, deferred while a mandatory motion runs. -/
def escrowOff (s : State) : State :=
  if s.mandatoryMoves then s.onSup fun u => { u with deferred := true }
  else offRequest 5 false (s.onSup fun u => { u with deferred := false })

/-- The causes of that request. -/
def State.escrowSpent (s : State) : Bool :=
  s.onReserve && (decide (s.get Obj.energyAvailable ≤ s.get Obj.energyEscrow) || s.resFault 3
    || s.get Obj.reserveState == 5 || heldFor s.now (sec (s.get Obj.rideThroughTime)) s.sup.failAt)

/-- One cycle of the reserve monitor over the cells, the pack and the test sample, in mV. -/
def reserveCycle (cells : List Nat) (pack : Nat) (test : List Nat) (s : State) : State :=
  let s := if s.sup.restart then restartSpring s else s
  let n := s.get Obj.cellCount
  if n = 0 then runCharger s
  else
    let cells := (cells ++ List.replicate 16 0).take n
    let s := publishCells cells pack (s.onSup fun u => { u with lastCycle := s.now })
    let (sum, low, s) := judgePack cells.sum pack s
    let s := setReserveFault (setBitOf (setBitOf (s.get Obj.reserveFault) 1 sum) 4 low) s
    let s := judgeCells cells s
    let s := (s.put Obj.energyAvailable s.energyNow).put Obj.energyEscrow s.escrowNow
    let breach := s.breached && !s.resFault 5
    let s := if breach then s.inc Obj.escrowBreachCount else s
    let f := setBitOf (setBitOf (s.get Obj.reserveFault) 2 (s.get Obj.cellOv != 0)) 3 (s.get Obj.cellUv != 0)
    let s := setReserveFault (if breach then setBitOf f 5 true else f) s
    let s := runCharger s
    let s := s.put Obj.balanceActive (s.balanceNow cells)
    let s := testWire cells test s
    if s.escrowSpent && !s.offRaised && !s.sup.deferred then escrowOff s else s

/-- RESERVE_CYCLE (R293): what a cycle reads, in mV: the cells and the pack in step 2, the cells in step 5. -/
def execReserveCycle (cells : List Nat) (pack : Nat) (test : List Nat) (s : State) : Host.Outcome State Fault Refusal :=
  s.answerServed fun s => if s.variant.isT then reserveCycle cells pack test s else s

/-- EscrowStatus (R303). -/
def State.escrowView (s : State) : Nat :=
  ofBits [s.hasSpring && decide (0 < s.sup.lastCycle ∧ s.get Obj.energyEscrow ≤ s.get Obj.energyAvailable), s.escrowLit 0,
    s.bit Obj.escrowStatus 2, s.resFault 5]

/-- SEQ_TICK (R46, R303): a deferred off request is raised once no mandatory motion runs. -/
def execSeqTick (s : State) : Host.Outcome State Fault Refusal :=
  s.answerLive fun s =>
    let s := seqTick s
    if s.sup.deferred && s.onReserve && !s.mandatoryMoves then escrowOff s else s

end Sys2Proof.Machine
end

