-- ==== Sys2Proof/Machine/Clocks.lean ====
section
/-!
DEFINITION. Machine/Clocks.lean: the calendar with its PTP servo (R202, R327 to R334), the RTC, the clock monitors (R322) and
operating seconds (R335, 17_clocks_time.md).
Readings and choices in the log: DESIGN CHOICE 86; DEDUCED 7, 40, 41, 87, 88, 89, 90, 91, 92, 93, 94, 95, 112.
-/
namespace Sys2Proof.Machine
open Sys2Proof Sys2Proof.Config

/-! The RTC (R326, R327). -/

/-- The RTC goes on from its present count; its rate or its run may change after it. -/
def holdRtc (s : State) : State := s.onClk fun k => { k with rtcBase := s.rtc, rtcAt := s.now }

/-- RtcTrim takes a value, as two's complement. -/
def setTrim (v : Nat) (s : State) : State := (holdRtc s).put Obj.rtcTrim v

/-! The calendar (R328, R332). -/

/-- The calendar goes on from a value in ns. -/
def setCal (ns : Int) (s : State) : State := s.onClk fun k => { k with calBase := ns.toNat, calAt := s.now }

/-- LastDisciplineAge (R328). -/
def State.disciplineAge (s : State) : Nat :=
  match s.clk.disciplineRtc with
  | none => 0
  | some r => (s.rtc - r) / 32768

/-- LastDisciplineAge starts anew. -/
def disciplined (s : State) : State := s.onClk fun k => { k with disciplineRtc := some s.rtc }

/-- CalOffset into the VAON domain (R332); none while the calendar is INVALID. -/
def saveOffset (s : State) : State :=
  s.onClk fun k => { k with calOffset := if s.calValid then some ((s.calNs : Int) - rtcNs s.rtc) else none, lastOffsetSave := s.now }

/-- WakeAt becomes 0 once the calendar has reached it (R333). -/
def checkWakeAt (s : State) : State :=
  let w := s.get Obj.wakeAt
  if s.calValid && w != 0 && decide (w * 1000000000 ≤ s.calNs) then stateNotice Obj.wakeAt 0 (s.put Obj.wakeAt 0) else s

/-- The calendar moves to another value: it is saved, and a measurement under way is void. -/
def moveCal (ns : Int) (s : State) : State :=
  let s := (setCal ns s).onNet fun n => { n with ptp := { n.ptp with syncPending := none, sync := none, delayReq := none } }
  checkWakeAt (saveOffset s)

/-- The calendar resumes from the RTC (R328, R332). -/
def resumeCalendar (limit : Nat) (s : State) : State :=
  match s.clk.calOffset with
  | none => s.put Obj.calState 0
  | some o =>
    if s.clk.rtcRuns && decide (s.disciplineAge ≤ limit) then (setCal (rtcNs s.rtc + o) s).put Obj.calState 4
    else (s.put Obj.calState 0).onClk fun k => { k with calOffset := none }

/-- CalSet: seconds with bits 63:40 at 0, and nanoseconds below 10^9 (R331); refused while PTP rules. -/
def calSetRefusal (v : Nat) (s : State) : Nat :=
  if 2 ^ 40 ≤ v % 2 ^ 64 ∨ 1000000000 ≤ u32At v 8 then 0x0205
  else if s.get Obj.calSource = 1 ∨ (s.get Obj.calSource = 0 ∧ (s.get Obj.calState = 2 ∨ s.get Obj.calState = 3)) then 0x0206
  else 0

/-- An accepted CalSet (R331). -/
def setCalendar (v : Nat) (s : State) : State :=
  disciplined (moveCal ((v % 2 ^ 64 * 1000000000 + u32At v 8 : Nat) : Int) (s.put Obj.calState 1))

/-! The servo (R329, R330). -/

/-- A value within the slew limit. -/
def clampTo (lim x : Int) : Int := max (-lim) (min lim x)

/-- The rate changes at the present calendar. -/
def setRate (rate integ : Int) (s : State) : State :=
  (setCal s.calNs s).onClk fun k => { k with rate := rate, integ := integ }

/-- Offset `o` in ns is stepped out. -/
def stepOffset (o : Int) (s : State) : State :=
  let s := (s.onClk fun k => { k with integ := 0, lockRun := 0 }).put Obj.calState 2
  moveCal ((s.calNs : Int) - o) (s.inc Obj.calStepCount)

/-- Offset `o` is slewed out, with a Sync interval of `t` ms. -/
def slewOffset (o : Int) (t : Nat) (s : State) : State :=
  let lim : Int := s.get Obj.slewLimit
  let d : Int := max 1 t
  let integ := clampTo lim (s.clk.integ + Int.tdiv (o * 1000) (16 * d))
  setRate (clampTo lim (Int.tdiv (-o * 1000) (4 * d) - integ)) integ s

/-- CalState after a slewed offset (R328). -/
def judgeLock (o : Int) (s : State) : State :=
  let th := s.get Obj.lockThreshold
  let s := s.onClk fun k => { k with lockRun := if o.natAbs < th then k.lockRun + 1 else 0 }
  if s.get Obj.calState = 3 ∧ 4 * th ≤ o.natAbs then s.put Obj.calState 2
  else if s.get Obj.calState ≠ 3 ∧ 8 ≤ s.clk.lockRun then (s.put Obj.calState 3).onClk fun k => { k with lastTrim := s.now }
  else s

/-- The UTC offset in force (R330). -/
def State.utcNow (s : State) : Int := s.clk.ptpUtcOffset.getD (s.geti Obj.utcOffset)

/-- A change of the UTC offset steps the calendar by whole seconds (R330). -/
def stepUtc (s : State) : State :=
  let new := s.utcNow
  let old := s.clk.usedUtcOffset.getD new
  let s := s.onClk fun k => { k with usedUtcOffset := some new }
  if old = new then s else moveCal ((s.calNs : Int) + (old - new) * 1000000000) (s.inc Obj.calStepCount)

/-- A measured offset is applied, unless CalSource is HOST_ONLY (R329, R331). -/
def applyOffset (o : Int) (t : Nat) (s : State) : State :=
  if s.get Obj.calSource = 2 then disciplined s
  else
    let s := stepUtc s
    let s := if s.get Obj.stepThreshold ≤ o.natAbs then stepOffset o s else judgeLock o (slewOffset o t s)
    let s := if s.get Obj.calState = 3 then s.puti Obj.xtalError (-s.clk.rate) else s
    disciplined s

/-! The ordinary clock (R202). -/

/-- PTP of a transport and domain is heard on port `p`. -/
def State.ptpHeard (s : State) (p : Nat) (udp : Bool) (domain : Nat) : Bool :=
  s.portHears p && s.flag Obj.ptpEnable && domain == s.get Obj.ptpDomain
    && (s.get Obj.ptpTransport == 2 || s.get Obj.ptpTransport == bitVal udp)

def State.onPtp (f : PtpUnit → PtpUnit) (s : State) : State := s.onNet fun n => { n with ptp := f n.ptp }

/-- ANNOUNCE_RX (R202): the best master of a port is kept, and the port states follow. -/
def execAnnounceRx (p : Fin 2) (a : Announce) (s : State) : Host.Outcome State Fault Refusal :=
  s.answerLive fun s =>
    if !s.ptpHeard p a.udp a.domain then s
    else
      let keep := match s.net.ptp.masters.getD p none with
        | none => true
        | some m => m.ann.sender == a.sender || announceBetter a m.ann
      let s := if keep then s.onPtp fun u => { u with masters := u.masters.set p (some ⟨a, s.now⟩) } else s
      settleClock (s.onClk fun k => { k with ptpUtcOffset := match a.utcOffset with
        | some u => some u
        | none => k.ptpUtcOffset })

/-- ANNOUNCE_TIMEOUT (R202): three intervals without an Announce. -/
def execAnnounceTimeout (p : Fin 2) (s : State) : Host.Outcome State Fault Refusal :=
  s.answerLive fun s =>
    match s.net.ptp.masters.getD p none with
    | none => s
    | some m =>
      if m.at_ + ms (3 * m.ann.intervalMs) ≤ s.now then
        settleClock (s.onPtp fun u => { u with masters := u.masters.set p none })
      else s

/-- The message comes from the master on the SLAVE port. -/
def State.fromMaster (s : State) (p : Nat) (udp : Bool) (domain sender : Nat) : Bool :=
  s.ptpHeard p udp domain && s.slavePort == some p && ((s.portMaster p).map (·.sender)) == some sender

/-- SYNC_RX (R202): a Sync, or the Follow_Up of a two-step one, with its corrected origin time in ns of PTP. -/
def execSyncRx (p : Fin 2) (udp : Bool) (domain sender seq : Nat) (followUp twoStep : Bool) (origin : Int)
    (intervalMs : Nat) (s : State) : Host.Outcome State Fault Refusal :=
  s.answerLive fun s =>
    if !s.fromMaster p udp domain sender then s
    else if followUp then
      match s.net.ptp.syncPending with
      | some (q, t) => if q = seq then s.onPtp fun u => { u with syncPending := none, sync := some (origin, t) } else s
      | none => s
    else
      let t := s.calNs
      let s := s.onPtp fun u => { u with syncMs := intervalMs }
      if twoStep then s.onPtp fun u => { u with syncPending := some (seq, t) }
      else s.onPtp fun u => { u with syncPending := none, sync := some (origin, t) }

/-- DELAY_REQ_TX (R191, R202): from the SLAVE port at the master's interval, in Q3 with PCP 7. -/
def execDelayReqTx (s : State) : Host.Outcome State Fault Refusal :=
  s.answerLive fun s =>
    match s.slavePort with
    | none => s
    | some p =>
      if s.now < s.net.ptp.delayNext then s
      else
        let udp := s.get Obj.ptpTransport == 1 || (s.get Obj.ptpTransport == 2 && ((s.portMaster p).map (·.udp)).getD false)
        let len := if udp then 90 else 64
        if !niReady len s then s
        else
          let q := s.net.ptp.delaySeq
          let dst := if udp then 0x01005E000181 else 0x011B19000000
          let f := s.ownFrame dst len 7 3 (.ptp udp (s.get Obj.ptpDomain) .delayReq q (Config.mac * 65536 + p + 1)) none
          let s := s.onPtp fun u => { u with delayReq := some (q, s.calNs), delaySeq := (q + 1) % 65536
                                             delayNext := s.now + ms u.delayMs }
          enqueue p f s

/-- DELAY_RESP_RX (R202, R329): the master received the Delay_Req at `received` ns of PTP. -/
def execDelayRespRx (p : Fin 2) (udp : Bool) (domain sender seq : Nat) (received : Int) (intervalMs : Nat)
    (s : State) : Host.Outcome State Fault Refusal :=
  s.answerLive fun s =>
    if !s.fromMaster p udp domain sender then s
    else
      let s := s.onPtp fun u => { u with delayMs := intervalMs }
      match s.net.ptp.sync, s.net.ptp.delayReq with
      | some (t1, t2), some (q, t3) =>
        if q ≠ seq then s
        else
          let utc := s.clk.usedUtcOffset.getD s.utcNow * 1000000000
          let down := (t2 : Int) - (t1 - utc)
          let up := (received - utc) - t3
          let o := Int.tdiv (down - up) 2
          let s := (s.puti Obj.offsetFromMaster o).puti Obj.meanPathDelay (Int.tdiv (down + up) 2)
          applyOffset o s.net.ptp.syncMs (s.onPtp fun u => { u with delayReq := none })
      | _, _ => s

/-! Time-driven commands. -/

/-- RTC_AUTO_TRIM (R327): after 1024 s in PTP_LOCKED, the RTC's rate error against the calendar in 0.1 ppm. -/
def execRtcAutoTrim (err : Int) (s : State) : Host.Outcome State Fault Refusal :=
  s.answerLive fun s =>
    if s.get Obj.calState = 3 ∧ s.flag Obj.rtcAutoTrim = true ∧ s.clk.rtcRuns = true ∧ s.clk.lastTrim + sec 1024 ≤ s.now then
      (setTrim (encSigned 16 (clampTo 2000 (s.geti Obj.rtcTrim - err))) s).onClk fun k => { k with lastTrim := s.now }
    else s

/-- CAL_OFFSET_SAVE (R332): once per second. -/
def execCalOffsetSave (s : State) : Host.Outcome State Fault Refusal :=
  s.answerLive fun s => if s.calValid && decide (s.clk.lastOffsetSave + sec 1 ≤ s.now) then saveOffset s else s

/-- HOLDOVER_EXPIRY (R328). -/
def execHoldoverExpiry (s : State) : Host.Outcome State Fault Refusal :=
  s.answerLive fun s =>
    if s.calValid && decide (s.get Obj.holdoverLimit < s.disciplineAge) then
      saveOffset ((setRate 0 0 s).put Obj.calState 0)
    else s

/-- Whole seconds of TB that have passed are counted in OperatingSeconds, up to `n` of them (R335). -/
def countSeconds (n : Nat) (s : State) : State :=
  (s.addTo Obj.operatingSeconds n).onClk fun k => { k with tbSeconds := k.tbSeconds + n }

/-- OPERATING_SECOND (R335): TB has passed a whole second. -/
def execOperatingSecond (s : State) : Host.Outcome State Fault Refusal :=
  s.answerLive fun s => if s.clk.tbSeconds < s.tb / 1000000 then countSeconds 1 s else s

/-! Clock monitors (R322, R323). -/

/-- A detected fault: its code, its bit of ClockStatus, the count and the STATE notice. -/
def clockFault (code b : Nat) (s : State) : State :=
  let s := ((s.put Obj.lastClockFault code).inc Obj.clockFaultCount).setBit Obj.clockStatus b false
  stateNotice Obj.clockStatus (s.get Obj.clockStatus) s

/-- PLL_UNLOCK (R322): no lock for `heldUs`. -/
def execPllUnlock (heldUs : Nat) (s : State) : Host.Outcome State Fault Refusal :=
  s.answerLive fun s => if 1 ≤ heldUs then assertReset 7 (clockFault 1 0 s) else s

/-- XTAL_FREQ (R322): TCLK cycles counted over 1024 RTC periods. -/
def execXtalFreq (count : Nat) (s : State) : Host.Outcome State Fault Refusal :=
  s.answerLive fun s =>
    if !s.clk.rtcRuns then s
    else if 31094 ≤ count ∧ count ≤ 31406 then s.onClk fun k => { k with xtalBad := 0 }
    else if s.clk.xtalBad = 0 then s.onClk fun k => { k with xtalBad := 1 }
    else assertReset 7 (clockFault 2 1 s)

/-- Cycles of a clock over 1 ms are out by more than 1. -/
def countOff (nominal count : Nat) : Bool := decide (count + 1 < nominal ∨ nominal + 1 < count)

/-- CLOCK_DIV_FAULT (R322): the count of CCLK, FCLK or SCLK over 1 ms of TCLK. -/
def execClockDivFault (which : Fin 3) (count : Nat) (s : State) : Host.Outcome State Fault Refusal :=
  s.answerLive fun s =>
    let (nominal, code, b) := match which with
      | 0 => (300000, 3, 2)
      | 1 => (150000, 4, 3)
      | 2 => (25000, 6, 5)
    if countOff nominal count then assertReset 7 (clockFault code b s) else s

/-- NCLK_DIV (R199, R322): the count of NCLK over 1 ms of TCLK. -/
def execNclkDiv (count : Nat) (s : State) : Host.Outcome State Fault Refusal :=
  s.answerLive fun s =>
    if countOff 125000 count && !s.clk.nclkBad then
      physHeld (clockFault 5 4 (s.onClk fun k => { k with nclkBad := true }))
    else s

/-- NCLK_RECOVER (R322): counts have passed for `heldUs`. -/
def execNclkRecover (heldUs : Nat) (s : State) : Host.Outcome State Fault Refusal :=
  s.answerLive fun s =>
    if s.clk.nclkBad && decide (1000000 ≤ heldUs) then
      (s.onClk fun k => { k with nclkBad := false }).setBit Obj.clockStatus 4 true
    else s

/-- RTC_STOP (R322): no edge for `heldUs`. The RTC stands in every power state; a running logic die detects it. -/
def execRtcStop (heldUs : Nat) (s : State) : Host.Outcome State Fault Refusal :=
  s.answer <|
    if 1000 ≤ heldUs ∧ s.clk.rtcRuns = true then
      let s := (holdRtc s).onClk fun k => { k with rtcRuns := false, rtcBase := s.rtc - heldUs * 32768 / 1000000 }
      if s.live then clockFault 7 6 (s.onClk fun k => { k with xtalBad := 0 }) else s
    else s

/-- RTC_EDGES_RETURN (R322). -/
def execRtcEdgesReturn (s : State) : Host.Outcome State Fault Refusal :=
  s.answer <|
    if s.clk.rtcRuns then s
    else
      let s := s.onClk fun k => { k with rtcRuns := true, rtcAt := s.now }
      if s.live then s.setBit Obj.clockStatus 6 true else s

end Sys2Proof.Machine
end

