-- ==== Sys2Proof/Machine/Health.lean ====
section
/-!
DEFINITION. Machine/Health.lean: BlockHealth and NodeState (R19 to R21, 01_door_node.md), SafetyStatus (R387), and what follows
them from cycle to cycle.
Readings and choices in the log: DESIGN CHOICE 2, 139; DEDUCED 96, 97.
-/
namespace Sys2Proof.Machine
open Sys2Proof

/-- RESERVE_OK: the Spring is monitored, without cell or wire fault, and the escrow is met (R20, R303). -/
def State.reserveOk (s : State) : Bool :=
  s.hasSpring && s.get Obj.reserveFault == 0 && (s.escrowView).testBit 0

/-- RECORDER_OK (R20, R384). -/
def State.recorderOk (s : State) : Bool :=
  let r := s.get Obj.recorderState
  decide (1 ≤ r ∧ r ≤ 3) && !s.recd.brineError && !s.bit Obj.periodicFault 1

/-- CLOCKS_OK (R322). -/
def State.clocksOk (s : State) : Bool := s.get Obj.clockStatus % 128 == 127

/-- AXES_OK: no present axis in FAULT or UNREFERENCED. -/
def State.axesOk (s : State) : Bool := s.axes24.all fun a => !s.st a stFault && !s.unref a

/-- FD_OK of a die: powered, out of under-voltage, its links good. -/
def State.dieOk (s : State) (k : Nat) : Bool := s.latLink k && (s.die k).funcUp

/-- 16#1002.02 BlockHealth (R20). -/
def State.blockHealth (s : State) : Nat :=
  ofBits [s.latRun, s.clocksOk, s.pow.tested && !s.bit Obj.selfTestFail 0, s.axesOk, s.dieOk 0, s.dieOk 1, s.dieOk 2, s.dieOk 3,
    s.recorderOk, (s.port 0).up, s.variant.hasNb && (s.port 1).up, s.reserveOk]

/-- Bits of BlockHealth that are required (R21). -/
def State.healthNeeded (s : State) : Nat :=
  let links := s.get Obj.bypassState == 3
  ofBits [true, true, true, true, s.variant.hasDie 0, s.variant.hasDie 1, s.variant.hasDie 2, s.variant.hasDie 3, true,
    links, links && s.variant.hasNb, s.hasSpring]

/-- A condition of R21, entry 3, or of R286 holds. -/
def State.degraded (s : State) : Bool :=
  (s.blockHealth &&& s.healthNeeded) != s.healthNeeded || s.get Obj.selfTestFail != 0 || s.get Obj.periodicFault != 0
    || s.get Obj.bypassState == 4 || !s.railGood 3

/-- A lattice input fault is set (R30). -/
def State.inputFault (s : State) : Bool :=
  s.get Obj.leafInputFault != 0 || s.get Obj.doorwayInputFault != 0 || s.get Obj.trainInputFault != 0

/-- NodeState as R19 and R21 give it. -/
def State.nodeNow (s : State) : Nat :=
  let ph := s.get Obj.powerPhase
  if !s.live || decide (0x10 ≤ ph ∧ ph ≤ 0x14) then 0
  else if s.goingDown then 4
  else if s.get Obj.latticeState == 2 || s.inputFault then 3
  else if s.degraded then 2
  else 1

/-- NodeState follows; each change raises its notice (R21). -/
def settleNode (s : State) : State :=
  let n := s.nodeNow
  if n = s.get Obj.nodeState then s else stateNotice Obj.nodeState n (s.put Obj.nodeState n)

/-- 16#1620.01 SafetyStatus (R387). -/
def State.safetyView (s : State) : Nat :=
  ofBits [s.latRun, s.loopClosed, !s.inputFault, s.get Obj.selfTestFail == 0, s.get Obj.periodicFault == 0, s.rst.armed,
    s.clocksOk, s.get Obj.pendingState == 1]

/-- Time passes by one FCLK period while no command waits (log entry 2). -/
def idle (s : State) : State :=
  let s := { s with now := s.now + 1 }
  if s.live then settlePins (settleNode s) else s

end Sys2Proof.Machine
end

