-- ==== Sys2Proof/Machine/Power.lean ====
section
/-!
DEFINITION. Machine/Power.lean: TRIM, DOZE and SLEEP, the wake sources, the wake planner, and the phases of power-up and
power-down (16_power_states.md, with R349 of 18_reset.md).
Readings and choices in the log: DESIGN CHOICE 139; DEDUCED 79, 81, 91, 98, 99, 100, 101, 102, 138.
-/
namespace Sys2Proof.Machine
open Sys2Proof Sys2Proof.Config

/-! TRIM and DOZE (R307, R308). -/

/-- A flush of R157 runs. -/
def State.flushing (s : State) : Bool := (s.recd.running.map Job.isFlush).getD false

/-- The conditions of R307. -/
def State.trimOk (s : State) : Bool :=
  decide (1 ≤ s.get Obj.deepestAuto) && !(s.host.flights.any Flight.inLane) && !s.flushing
    && s.axes24.all fun a => !s.st a stMoving && !s.st a stHolding

/-- The device is in RUN, TRIM or DOZE with no phase under way. -/
def State.awake (s : State) : Bool := s.live && s.get Obj.powerPhase == 0 && decide (s.get Obj.powerState ≤ 2)

/-- PowerState takes a value. -/
def setPower (v : Nat) (s : State) : State := (s.put Obj.powerState v).onPow fun p => { p with stateAt := s.now }

/-- TRIM_ENTRY (R307). -/
def execTrimEntry (s : State) : Host.Outcome State Fault Refusal :=
  s.answerLive fun s => if s.awake && s.get Obj.powerState == 0 && s.trimOk then setPower 1 s else s

/-- TRIM_EXIT (R307). -/
def execTrimExit (s : State) : Host.Outcome State Fault Refusal :=
  s.answerLive fun s => if s.get Obj.powerState == 1 && !s.trimOk then setPower 0 s else s

/-- Set-points of the variant. -/
def State.setpointList (s : State) : List Nat := if s.variant.isT then [0, 1, 2] else [0, 1]

/-- The conditions of R308. -/
def State.dozeOk (s : State) : Bool :=
  s.trimOk && s.fill 0 == 0 && s.fill 1 == 0 && s.fill 2 == 0 && !(s.host.bursts.any (·.isOpen))
    && s.setpointList.all (fun j => s.bit (Obj.busStatus j) 0) && decide (s.pow.seqEnteredAt + ms 100 ≤ s.now)

/-- The conditions of R309. -/
def State.sleepOk (s : State) : Bool :=
  s.dozeOk && s.asserted (.train 0) && !s.asserted (.train 1) && !s.asserted (.train 2)
    && (List.finRange 24).all (fun l => !(s.image.leaf l).enabled || s.closedLocked l)
    && s.axes24.all (fun a => s.target a == 3 || s.target a == 4) && decide (s.get Obj.pathState ≤ 1)

/-! The planner (R312 to R314). -/

/-- Known events with the time at which each falls due. `deep`: as a stay in SLEEP or STANDBY counts the reserve sample. -/
def State.knownEvents (s : State) (deep : Bool) : List (Nat × Nat) :=
  let w := s.get Obj.wakeAt
  let timer (t : SeqTimer) : Option Nat := match t with
    | .running u => some u
    | _ => none
  (if s.calValid && w != 0 then [(1, s.now + (w * 1000000000 - s.calNs) * 3 / 20)] else [])
    ++ (if s.recd.brine.isEmpty then [] else [(2, s.recd.lastCommit + sec (s.get Obj.flushPeriod))])
    ++ (if s.hasSpring then
        [(3, s.sup.lastCycle + (if deep then sec (s.get Obj.reserveSleepSample) else ms 100))] else [])
    ++ ((List.range 32).filter (fun i => (s.inst i).running && s.fnEnabled (s.ownerOfInst i))).flatMap
        (fun i => ((s.inst i).timers.filterMap timer).map fun t => (4, t))
    ++ (s.pow.service.filterMap id).map fun t => (5, t)

/-- The earliest of known events, the lower code first. -/
def earliest (es : List (Nat × Nat)) : Option (Nat × Nat) :=
  es.foldl (fun b e => match b with
    | none => some e
    | some x => if e.2 < x.2 ∨ (e.2 = x.2 ∧ e.1 < x.1) then some e else some x) none

/-- Exit latency and break-even of a state (table "Power states"). -/
def State.exitLatency (s : State) (v : Nat) : Nat :=
  match v with
  | 2 => us 90
  | 3 => if s.portList.all fun p => !s.flag (Obj.autoNeg p) then ms 150 else ms 2500
  | _ => ms 400
def breakEven (v : Nat) : Nat :=
  match v with
  | 2 => ms 20
  | 3 => sec 10
  | _ => sec 300

/-- The limit of R314; without RTC edges it is DOZE (R322). -/
def State.deepLimit (s : State) : Nat :=
  let ms_ := ([0, 1] : List Nat).filter fun m => s.placeNo m == 2 || s.placeNo m == 3
  let l := s.get Obj.deepestAuto
  let l := if ms_.isEmpty then
      (if (s.pow.idleSince.map fun t => decide (s.now < t + sec (s.get Obj.deepIdleTime))).getD false then min l 2 else l)
    else ms_.foldl (fun l m => min l (s.get (Obj.deepGrant m))) l
  if s.clk.rtcRuns then l else min l 2

/-- State `v` passes the tests of R313. -/
def State.mayPlan (s : State) (v : Nat) : Bool :=
  let fits := match earliest (s.knownEvents (decide (3 ≤ v))) with
    | none => true
    | some (_, t) => decide (s.now + s.exitLatency v + ms (s.get Obj.planGuard) ≤ t) && decide (s.now + breakEven v < t)
  decide (v ≤ s.deepLimit) && fits && (match v with
    | 2 => s.dozeOk
    | 3 => s.sleepOk
    | _ => true)

/-- The choice of R313; 0 where no state passes. -/
def State.planChoice (s : State) : Nat := (([4, 3, 2] : List Nat).find? s.mayPlan).getD 0

/-- The wake time for a stay in a state, on the grid of 1/1024 s (R313). -/
def State.plannedWake (s : State) (v : Nat) : Option Nat :=
  (earliest (s.knownEvents true)).map fun e =>
    (e.2 - s.exitLatency v - ms (s.get Obj.planGuard)) * 1024 / sec 1 * sec 1 / 1024

/-! SLEEP (R309, R310). -/

/-- Every session ends with cause TRANSPORT, and R221 follows at once (R309, R318). -/
def endAllSessions (s : State) : State :=
  let s := each (List.range 8) (fun p s =>
    let s := dropClosed p (dropChallenge p (endSession p 5 s))
    s) s
  each [0, 1] (fun m s => if s.placeNo m = 3 then holdoffEnd m s else s) s

/-- Coils off, node bypassed, PHYs down, field outputs other than OUT_DIRECT off: PowerState or PowerPhase stands (R309,
R318). -/
def quietOutputs (s : State) : State :=
  let s := physOff (dropBypass (latticeMoves (fun s => publish (evalLoop s)) s))
  each ((List.range 256).filter fun c => s.mode c != 8) (fun c s =>
    applyCell c (s.onChan c fun x => { x with dem := false })) s

/-- SLEEP is entered once its flush has committed. -/
def enterSleep (s : State) : State :=
  let w := s.plannedWake 3
  let s := quietOutputs (setPower 3 ((endAllSessions s).inc Obj.sleepCount))
  let s := saveSettings (saveOffset s)
  let s := onPen 3 (fun p => { p with toggle := some s.now }) s
  let quiet (d : Die) : Die := { d with lattUp := false, funcUp := false }
  let s := { s with dies := s.dies.map quiet }
  let s := s.onSup fun u => { u with rails := setBitOf u.rails 3 false }
  let s := s.onClk fun k => { k with fBase := s.f, fAt := s.now, fRuns := false, sleepRtc := s.rtc }
  s.onPow fun p => { p with logicUp := false, sleepAt := none, wakeTime := w }

/-- The planner moves the device (R313). -/
def applyPlan (s : State) : State :=
  let v := s.planChoice
  let s := s.put Obj.plannedState v
  match v with
  | 2 => if s.get Obj.powerState = 2 then s else setPower 2 (s.inc Obj.dozeCount)
  | 3 => if s.pow.sleepAt.isSome then s else addFlush false [] (s.onPow fun p => { p with sleepAt := some s.now })
  | 4 => offRequest 4 false s
  | _ => dozeExit s

/-- NextService hints that have fallen due are dropped (R312). -/
def pruneService (s : State) : State :=
  s.onPow fun p => { p with service := p.service.map fun t => t.filter (s.now < ·) }

/-- PLANNER_EVALUATION (R309, R313): every 10 ms in RUN and DOZE, and at a change of a known event. An entry into SLEEP whose
flush has ended is completed. -/
def execPlannerEvaluation (s : State) : Host.Outcome State Fault Refusal :=
  s.answerLive fun s =>
    if !s.awake || s.pow.off.isSome || s.rst.device || !s.restored then s
    else
      let s := (pruneService s).onPow fun p => { p with lastEval := s.now }
      if s.pow.sleepAt.isSome then
        if s.recd.running.isNone && !(s.recd.queue.any Job.isFlush) then enterSleep s else s
      else applyPlan s

/-- A pending image is promoted in INIT, or refused by checks 3, 7 and 8 (R38, R39). -/
def State.promoteRefusal (s : State) (i : LatImage) : Nat :=
  let mode (c : Nat) : Nat := s.get (Obj.channelMode c)
  if !i.presentOk s.variant then 3
  else if i.unlocks.any fun c => mode c == 8 || isInput (mode c) then 7
  else if i.inputs.any fun c => !isInput (mode c) then 8
  else 0

/-- Step 1 of R38. -/
def promoteImage (s : State) : State :=
  match s.recd.pendingImage with
  | none => s
  | some i =>
    let r := s.promoteRefusal i
    let s := (s.onRec fun q => { q with pendingImage := none }).put Obj.pendingState 0
    let s := bumpGen Obj.configImage s
    if r = 0 then bumpGen Obj.activeImage (addJob (.promote (some i)) [] (s.onRec fun q => { q with activeImage := i }))
    else addJob (.promote none) [] (latticeFault Obj.imgRefusalCause 0 r (s.put Obj.imgRefusalCause r))

/-- The logic die's clocks run again after SLEEP: F and TB advance by whole µs of the RTC (R324). -/
def resumeClocks (s : State) : State :=
  let d := (s.rtc - s.clk.sleepRtc) * 1000000 / 32768
  let s := s.onClk fun k => { k with fBase := k.fBase + 150 * d, fAt := s.now, fRuns := true }
  resumeCalendar (s.get Obj.holdoverLimit) (countSeconds (s.tb / 1000000 - s.clk.tbSeconds) s)

/-- Pins after SLEEP: lines that have moved report once, pattern holds start anew (R366). -/
def resumePins (s : State) : State :=
  let s := settlePins (s.onGp fun g => { g with units := g.units.map fun _ => ⟨none⟩ })
  each (List.range 8) (fun n s =>
    match s.linePin n with
    | none => s
    | some pin => if s.syncBit pin == (s.line n).reported then s else reportLine n pin (s.syncBit pin) s) s

/-- SLEEP_EXIT (R310): the wake that has come leads to RUN. -/
def execSleepExit (s : State) : Host.Outcome State Fault Refusal :=
  s.answer <|
    if !(s.get Obj.powerState == 3 && s.pow.restart && !s.rst.xresetLow) then s
    else
      let s := s.onPow fun p => { p with logicUp := true, restart := false, wakeTime := none, lastEval := s.now
                                         seqEnteredAt := s.now }
      let s := (setPower 0 (raisePen 3 s.now (resumeClocks s))).put Obj.lastWakeCause s.pow.wakeCause
      let s := s.onRst fun r => { r with lastTickAt := s.now }
      let fresh (x : Chan) : Chan := { x with fresh := true }
      let s := { s with chans := s.chans.map fresh }
      let s := s.onLat fun l => { l with rb := [Readback.reset, Readback.reset], initAt := some s.now }
      let s := if s.get Obj.latticeState = 2 then s else s.put Obj.latticeState 0
      let s := publish (startFilters (promoteImage s))
      resumePins (s.onBypass fun b => { b with retryAt := s.now, delay := 0 })

/-! Wake sources (R311, R363). -/

/-- RestartHoldOff has passed since the last PEN fell (R319). -/
def State.holdoffPassed (s : State) : Bool :=
  (s.pow.lastPenFall.map fun t => decide (t + ms (s.vaonGet Obj.restartHoldOff) ≤ s.now)).getD true

/-- An active pin wakes, or asks a power-down to turn back (R311, R315). -/
def pinWake (n : Nat) (s : State) : State :=
  let sel := (s.vaonGet Obj.wakeMask).testBit n
  let off := sel && (s.vaonGet Obj.offWakeMask).testBit n
  let st := s.get Obj.powerState
  if s.goingDown then (if (if s.pow.off == some 5 then off else sel) then onRequest 1 s else s)
  else if st = 3 ∨ s.pow.sleepAt.isSome then (if sel then wake 1 s else s)
  else if s.parked && s.holdoffPassed && (if st = 5 then off else sel) then wake 1 s
  else s

/-- WAKE_PIN (R311, R363): pin `n`, WAKE0 to WAKE7 or GPA0 to GPA7, has stood at `level` for `heldUs`. -/
def execWakePin (n : Fin 16) (level : Bool) (heldUs : Nat) (s : State) : Host.Outcome State Fault Refusal :=
  s.answer <|
    let s := if n.val < 8 then { s with wakes := s.wakes.set n level }
      else
        let s := s.onGp fun g => { g with outside := g.outside.set (n - 8) level }
        if s.live then settlePins s else s
    let may := decide (n.val < 8) || s.pinMode (n - 8) == 1
    let act := may && level == (s.vaonGet Obj.wakePolarity).testBit n
    if heldUs < 1000 then s
    else
      let s := s.setBit Obj.wakeActive n act
      if act then pinWake n s else s

/-- PLANNED_WAKE (R311, R313). -/
def execPlannedWake (s : State) : Host.Outcome State Fault Refusal :=
  s.answer <|
    let st := s.get Obj.powerState
    if (st == 3 || st == 4) && s.clk.rtcRuns && (s.pow.wakeTime.map fun t => decide (t ≤ s.now)).getD false then
      wake 2 (s.onPow fun p => { p with wakeTime := none })
    else s

/-- HOST_LINK_WAKE (R311): HSPI_CS_N falls in SLEEP. -/
def execHostLinkWake (s : State) : Host.Outcome State Fault Refusal :=
  s.answer <| if s.get Obj.powerState = 3 then wake 5 s else s

/-- WAKE_AT_REACHED (R333). -/
def execWakeAtReached (s : State) : Host.Outcome State Fault Refusal :=
  s.answerLive checkWakeAt

/-- What a write of NextService does for slot `m` (R312). -/
def serviceWritten (m v : Nat) (s : State) : State :=
  s.onPow fun p => { p with service := p.service.set m (if v = 0 then none else some (s.now + ms v)) }

/-- A CMD to PowerCommand (R315). -/
def powerCommand (v : Nat) (s : State) : State :=
  match v with
  | 1 => offRequest 5 false s
  | 2 => offRequest 4 false s
  | _ => if s.get Obj.powerPhase = 0x20 ∨ s.get Obj.powerPhase = 0x21 then onRequest 6 s else s

/-! Power-up (R316, R317, R349). -/

/-- A phase is entered; its notice reaches the sessions that there are. -/
def enterPhase (v : Nat) (s : State) : State :=
  stateNotice Obj.powerPhase v ((s.put Obj.powerPhase v).onPow fun p => { p with phaseAt := s.now })

/-- PHASE_P0 (R316): a start that may begin begins. -/
def execPhaseP0 (s : State) : Host.Outcome State Fault Refusal := s.answer (tryStart s)

/-- The first PEN that is low rises once the rails before it are good (R285). -/
def raiseFirst (s : State) : State :=
  match ([0, 1, 2, 3] : List Nat).find? fun i => !s.pen i with
  | none => s
  | some i => if i = 0 ∨ s.railGood (railOfPen (i - 1)) = true then raisePen i s.now s else s

/-- PHASE_P1 (R285, R316). -/
def execPhaseP1 (s : State) : Host.Outcome State Fault Refusal :=
  s.answer <| if s.get Obj.powerPhase = 0x10 then raiseFirst (enterPhase 0x11 s) else s

/-- The logic die is released: V objects at their defaults, clocks running, TB and F at 0, every axis UNREFERENCED (R101,
R324, R339). -/
def releaseLogic (s : State) : State :=
  let cause := s.get Obj.lastWakeCause
  let s := { s with objs := s.objs.filter fun e => s.keptAtReset e.1 }
  let s := (((s.put Obj.powerState 0).put Obj.powerPhase 0x12).put Obj.lastWakeCause cause).put Obj.clockStatus 0x7F
  let s := s.onPow fun p => { p with logicUp := true, tested := false, phaseAt := s.now }
  let s := s.onClk fun k => { k with fBase := 0, fAt := s.now, fRuns := true, tbSeconds := 0 }
  let s := setCal 0 (s.onRst fun r => { r with inReset := false, releasedAt := s.now, lastTickAt := s.now })
  let s := each s.axes24 unreference s
  if s.clk.rtcRuns then s else clockFault 7 6 s

/-- PHASE_P2 (R316): once every rail shows power-good. -/
def execPhaseP2 (s : State) : Host.Outcome State Fault Refusal :=
  s.answer <|
    if s.get Obj.powerPhase = 0x11 ∧ ([0, 1, 2, 3] : List Nat).all s.pen = true ∧ ([0, 1, 2, 3] : List Nat).all s.railGood = true then releaseLogic s else s

/-- PHASE_P3 (R311, R316, R332, R338): the calendar resumes, the Saltpan is opened with the START record, the comparator
levels and what takes effect at a reset are loaded. WakeAt stays through STANDBY. -/
def execPhaseP3 (s : State) : Host.Outcome State Fault Refusal :=
  s.answerLive fun s =>
    if s.get Obj.powerPhase ≠ 0x12 then s
    else
      let por := s.bit Obj.resetCauseMask 1
      let back := s.bit Obj.resetCauseMask 9
      let wakeAt := storeGet 0 Obj.wakeAt s.pow.held
      let ok := s.salt.readable && !(s.diag.badWords.any fun w => stateWord w.1)
      let k := Obj.holdoverLimit
      let limit := if ok then storeGet (defaultOf s.variant k) k s.salt.inForce else defaultOf s.variant k
      let s := resumeCalendar limit (holdRtc (enterPhase 0x13 s))
      let s := openRecorder por (s.get Obj.resetCause) s
      let s := s.onPow fun p => { p with failMv := s.get Obj.mainFailVoltage, okMv := s.get Obj.mainOkVoltage }
      let s := s.onNet fun n =>
        { n with ip := [Obj.ipAddress, Obj.netMask, Obj.gateway, Obj.dulasPort, Obj.noticeGroup,
                   Obj.noticeTtl].map fun k => (k, s.get k)
                 ports := n.ports.mapIdx fun p u => { u with an := s.flag (Obj.autoNeg p) } }
      if back && s.calValid then s.put Obj.wakeAt wakeAt else s

/-- The gangs of the restored modes (R126). -/
def restoreGangs (s : State) : State :=
  { s with chans := s.chans.mapIdx fun c x =>
      let n := gangSize (s.get (Obj.channelMode c))
      { x with lead := if c % n = 0 then none else some (c - c % n) } }

/-- Step 1 of R349: dies, pending image, filters. -/
def configureStart (s : State) : State :=
  let s := each ((List.range 4).filter s.variant.hasDie) (fun k s =>
    let d := s.die k
    if d.lost then (if d.heard && !d.reversed then porReload k s else s) else reloadDie k s) (restoreGangs s)
  startFilters (promoteImage s)

/-- The inputs have completed their filters, or 80 ms of P4 have passed (step 2 of R349). -/
def State.inputsReady (s : State) : Bool :=
  decide (s.pow.phaseAt + ms 80 ≤ s.now)
    || (s.latPrimed && (List.range 256).all fun c => !s.variant.hasChan c || !isInput (s.mode c) || (s.chan c).ran)

/-- Effects of failed start-up self-tests (table "Start-up self-tests", R382), CONVERTER apart. -/
def selfTests (fails : Nat) (chans : List Nat) (clocks us_ : Nat) (s : State) : State :=
  let s := (s.put Obj.selfTestFail (fails % 256)).put Obj.selfTestDuration us_
  let s := if fails % 256 = 0 then s else memoryFault Obj.selfTestFail (s.get Obj.selfTestFail) 0 0 0 s
  let s := if fails.testBit 5 then each (chans.filter s.variant.hasChan) (fun c => diagRise c 4 0) s else s
  let s := if fails.testBit 6 then enterHeld (2 ^ 8) s else s
  if fails.testBit 7 then
    each ((List.range 7).filter clocks.testBit) (fun b s => s.setBit Obj.clockStatus b false) s
  else s

/-- Steps 3 to 6 of R349. An axis whose CONVERTER test failed takes FAULT once the sequencers run (R382). -/
def finishStart (fails : Nat) (axes chans : List Nat) (clocks us_ : Nat) (s : State) : State :=
  let s := selfTests fails chans clocks us_ s
  let s := each s.axes24 datumAtStart s
  let s := if fails % 8 = 0 then startFns s else s
  let s := if fails.testBit 4 then each (axes.filter s.variant.hasAxis) (fun a => raiseFault a 1) s else s
  let s := toBypassed (settlePins (idleOrphans s))
  (s.onLat fun l => { l with initAt := some s.now }).onPow fun p => { p with tested := true }

/-- PHASE_P4 (R316, R349, R382): its first step, then the steps that wait for the inputs. `fails` is what the self-tests
find, with the axes, channels and monitors concerned, in `us` µs. -/
def execPhaseP4 (fails : Nat) (axes : List (Fin 24)) (chans : List (Fin 256)) (clocks us : Nat) (s : State) :
    Host.Outcome State Fault Refusal :=
  s.answerLive fun s =>
    let ph := s.get Obj.powerPhase
    if ph = 0x13 then
      let s := enterPhase 0x14 s
      if s.pow.off.isSome then s.onPow fun p => { p with tested := true } else configureStart s
    else if ph = 0x14 ∧ s.pow.tested = false then
      if s.pow.off.isSome then s.onPow fun p => { p with tested := true }
      else if s.inputsReady then finishStart fails (axes.map (·.val)) (chans.map (·.val)) clocks us s
      else s
    else s

/-- PHASE_P5 (R316, R346, R348): RUN. -/
def execPhaseP5 (s : State) : Host.Outcome State Fault Refusal :=
  s.answerLive fun s =>
    if s.get Obj.powerPhase = 0x14 ∧ s.pow.tested = true ∧ (s.get Obj.latticeState ≠ 0 ∨ s.pow.off.isSome = true) then
      let s := enterPhase 0x15 s
      let s := s.put Obj.startDuration ((s.now - s.rst.p0At) / us 1)
      let s := s.put Obj.unwoundStarts s.pow.unwound
      let s := s.onRst fun r => { r with armed := true, lastTickAt := s.now }
      settleNode ((s.put Obj.powerPhase 0).onPow fun p => { p with lastEval := s.now, stateAt := s.now })
    else s

/-! Power-down (R318). -/

/-- PHASE_D0: a pending off request meets a device with no phase under way. -/
def execPhaseD0 (s : State) : Host.Outcome State Fault Refusal :=
  s.answerLive fun s =>
    if s.pow.off.isSome && s.get Obj.powerPhase == 0 && decide (s.get Obj.powerState ≤ 2) then
      settleNode (enterPhase 0x20 (setPower 0 ((dozeExit s).onPow fun p => { p with sleepAt := none })))
    else s

/-- PHASE_D1: after PowerDownNotice, or at once. -/
def execPhaseD1 (s : State) : Host.Outcome State Fault Refusal :=
  s.answerLive fun s =>
    let fast := s.pow.offHoldup || s.pow.offInStart
    if s.get Obj.powerPhase = 0x20 ∧ (fast = true ∨ s.pow.phaseAt + ms (s.get Obj.powerDownNotice) ≤ s.now) then
      let fns := s.fns17.filter fun n => s.fnState n == 1
      let s := (enterPhase 0x21 s).onPow fun p => { p with disabled := fns, anyEnabled := !fns.isEmpty }
      let s := drainAll s
      let s := { s with seq := { s.seq with insts := s.seq.insts.map fun q => { q with unlock := false } } }
      each ((List.range 256).filter s.isUnlock) (fun c => setUnlock c false) s
    else s

/-- PHASE_D2: every drain has ended and the locks have settled; the final flush. -/
def execPhaseD2 (s : State) : Host.Outcome State Fault Refusal :=
  s.answerLive fun s =>
    if s.get Obj.powerPhase = 0x21 ∧ s.fns17.all (fun n => s.fnState n != 2) = true
        ∧ (s.pow.anyEnabled = false ∨ s.pow.phaseAt + ms (s.get Obj.lockSettleTime) ≤ s.now) then
      addFlush true [] (enterPhase 0x22 s)
    else s

/-- PHASE_D3: the final flush has committed, or the recorder takes none. -/
def execPhaseD3 (s : State) : Host.Outcome State Fault Refusal :=
  s.answerLive fun s =>
    let r := s.get Obj.recorderState
    if s.get Obj.powerPhase = 0x22 ∧ (r = 3 ∨ r = 4 ∨ r = 0) then quietOutputs (endAllSessions (enterPhase 0x23 s)) else s

/-- The hold of D3 is over (R318, R319). -/
def State.holdOver (s : State) : Bool :=
  !(s.variant.isT && s.get Obj.pathState == 1) || s.pow.restart
    || decide (s.pow.phaseAt + sec (s.get Obj.escrowHoldTime) ≤ s.now)

/-- PHASE_D4: the PENs fall and the target state is entered; a restart follows after RestartHoldOff (R319, R348). -/
def execPhaseD4 (s : State) : Host.Outcome State Fault Refusal :=
  s.answerLive fun s =>
    if s.get Obj.powerPhase = 0x23 ∧ s.holdOver = true then
      let target := s.pow.off.getD 5
      let wakeTime := if target = 4 then s.plannedWake 4 else none
      let lost := s.get Obj.pathState != 0
      let s := saveOffset (enterPhase 0x24 s)
      let s := if target = 4 then s.inc Obj.standbyCount else s
      let s := dropPens (ms 5) true (loseLogic s)
      let s := (s.put Obj.powerPhase 0).put Obj.powerState target
      let s := s.onPow fun p => { p with pathLost := lost, wakeTime := wakeTime, stateAt := s.now, phaseAt := s.now }
      if s.pow.restart then latchCause 11 s else s
    else s

end Sys2Proof.Machine
end

