-- ==== Sys2Proof/Machine/Flags.lean ====
section
/-!
DEFINITION. Machine/Flags.lean: what the status objects show. The object store holds what commands leave behind; a status
word, count or time that follows the rest of the state is computed here when it is read.
Readings and choices in the log: DESIGN CHOICE 8; DEDUCED 81, 111, 119.
-/
namespace Sys2Proof.Machine
open Sys2Proof Sys2Proof.Config

/-! Sessions (R213, R225, R239, R242, R245). -/

/-- A number of fields of `w` bits each, the first lowest. -/
def packBits (w : Nat) : List Nat → Nat
  | [] => 0
  | x :: xs => x % 2 ^ w + 2 ^ w * packBits w xs

/-- Holder of a semaphore as SemaHolders shows it (R225). -/
def SemaState.code : SemaState → Nat
  | .free => 0
  | .held m => m + 1
  | .holdoff _ => 3

/-- Master `m` waits for semaphore `n`. -/
def State.waits (s : State) (m n : Nat) : Bool := s.host.waits.any fun w => w.sema == n && w.place == m

/-- Masters that wait for a semaphore: bit 0 M0, bit 1 M1. -/
def State.waiterBits (s : State) (n : Nat) : Nat := ofBits [s.waits 0 n, s.waits 1 n]

def State.semaHolders (s : State) : Nat := packBits 2 (s.host.semas.map SemaState.code)
def State.semaWaiters (s : State) : Nat := packBits 2 ((List.range 64).map s.waiterBits)

/-- KeyCheck of a role (R213). -/
def State.keyCheck (s : State) (role : Nat) : Nat :=
  match s.key role with
  | none => 0
  | some k => leNat ((hmac k (label "DLS-CHK")).take 2)

/-- Transactions of the session at a place. -/
def State.ownFlights (s : State) (p : Nat) : List Flight :=
  match (s.place p).session with
  | none => []
  | some se => s.host.flights.filter fun f => f.sess == se.no && !f.orphan

/-- InFlightTags (R239). -/
def State.inFlightTags (s : State) (p : Nat) : Nat :=
  ofBits ((List.range 512).map fun t => (s.ownFlights p).any (·.tag == t))

/-- An entry of CompletionEcho (R239). -/
def Echo.bytes (e : Echo) : List Byte :=
  toLe 2 e.tag ++ toLe 2 e.status ++ toLe 4 e.frame ++ [byte e.elem, byte e.op, 0, 0]

/-- CompletionEcho (R239). -/
def State.echoView (s : State) (p : Nat) : Nat :=
  match (s.place p).session with
  | none => 0
  | some se => leNat (se.echo.flatMap Echo.bytes)

/-- SafetyExpected (R245). -/
def State.safetyExpected (s : State) (p : Nat) : Nat := ((s.place p).session.map (·.safetyExpected)).getD 1

/-- A master's burst. -/
def State.burst (s : State) (m : Nat) : Burst := s.host.bursts.getD m Burst.closed
/-- BurstState: 0 none, 1 open, 2 poisoned. -/
def State.burstState (s : State) (m : Nat) : Nat :=
  if !(s.burst m).isOpen then 0 else if (s.burst m).poison.isSome then 2 else 1

/-! Lattice (R22, R28 to R37, R41). -/

/-- Bits of enabled leaves. -/
def leafBits (p : Fin 24 → Bool) : Nat := ofBits ((List.finRange 24).map p)

/-- 16#2000.02 LoopStatus. -/
def State.loopStatus (s : State) : Nat :=
  ofBits [s.lat.closed, s.loopTerm, decide (2 ≤ s.lat.goodWindows ∧ 2 ≤ s.lat.goodCounts), (s.coil 0).on, (s.coil 1).on,
    s.rb 0 == some true, s.rb 1 == some true, (s.coil 0).pulse, (s.coil 1).pulse]

/-- A parameter of the active image (16#2002). -/
def State.latParam (s : State) (i : Nat) : Nat :=
  let m := s.image
  ([m.leafFilter, m.trainFilter, m.handleFilter, m.discrepancy, m.readback, m.pulseWidth, m.pulsePeriod] : List Nat).getD i 0

/-! Field channels (06_field_inputs.md, 07_field_outputs.md). -/

/-- 16#6100+c.02 RawState. -/
def State.rawState (s : State) (c : Nat) : Nat :=
  let x := s.chan c
  ofBits [x.rawF, x.rawL, x.pend.isSome, x.marginal] + 16 * (if s.mode c = 3 then x.band.getD 0 else 0)

/-- A latch of R131 holds the cell off. -/
def State.locked (s : State) (c : Nat) : Bool := ([9, 10, 11, 12] : List Nat).any (s.bit (Obj.diagStatus c))

/-- 16#6100+c.09 OutputFlags; a follower shows its lead's (R126). COMP_SAT stands in the store. -/
def State.outFlags (s : State) (c : Nat) : Nat :=
  let c := s.leadOf c
  let x := s.chan c
  if !isOutput (s.mode c) then 0
  else ofBits [x.on, s.demandOf c, !s.gateOpen c,
    x.on && decide (gangSize (s.mode c) * cellLimitMa ≤ s.get (Obj.loadCurrent c)), x.inrushUntil.isSome,
    s.bit (Obj.outputFlags c) 5, s.testHold c, x.window.isSome, s.comparePulse c, s.locked c, x.orphan,
    s.mode c == 8 && s.directIn c]

/-- OnSeconds: whole seconds on. -/
def State.onSeconds (s : State) (c : Nat) : Nat :=
  let x := s.chan (s.leadOf c)
  (x.onAcc + (if x.on then s.now - x.onAt else 0)) / sec 1 % 4294967296

/-! Queues (R276, R277). -/

/-- WeirStatus: the sticky bits as stored, the live bits as Fill stands. -/
def State.weirStatus (s : State) (q : Nat) : Nat :=
  ofBits [decide (s.fill q ≤ s.get (Obj.lowWeir q)), decide (s.get (Obj.highWeir q) ≤ s.fill q),
    s.bit (Obj.weirStatus q) 2, s.bit (Obj.weirStatus q) 3]

/-! The planner (R312). -/

/-- The earliest known event: ms until it falls due, and its code; 0 and 0 where there is none. -/
def State.nextEvent (s : State) : Nat × Nat :=
  match earliest (s.knownEvents false) with
  | none => (0, 0)
  | some (c, t) => (min 4294967295 ((t - s.now) / ms 1), c)

/-! Logs (R160, 08_recorder.md). -/

/-- OldestSeq: the oldest record of a log that a window would show. -/
def State.oldestSeq (s : State) (l : Nat) : Nat :=
  match s.salt.logOf l ++ s.recd.brineOf l with
  | [] => 0
  | r :: _ => r.seqNo

/-! Functions (R251, R257, R266). -/

/-- A mask of F0: the present resources that lie in no mask of F1 to F7. -/
def f0Mask (n : Nat) (present : Nat → Bool) (owner : Nat → Nat) : Nat :=
  ofBits ((List.range n).map fun i => present i && owner i == 0)

/-- A mask object of function `n`. -/
def State.maskView (s : State) (n k : Nat) (f0 : Nat) : Nat := if n = 0 then f0 else s.get k

/-- PowerPhase: D4 lasts until the PENs have fallen (R318); the step that enters it sets the target state. -/
def State.phaseShown (s : State) : Nat :=
  if s.parked && s.sup.follow && ([0, 1, 2, 3] : List Nat).any s.pen then 0x24 else s.get Obj.powerPhase

/-! The views. -/

/-- What a computed object shows, by the number of its first instance; the argument is the instance. -/
def views : List (Nat × (State → Nat → Nat)) := [
  (Obj.nodeState, fun s _ => s.nodeNow),
  (Obj.blockHealth, fun s _ => s.blockHealth),
  (Obj.unstoredWrites, fun s _ => s.recd.unstored.length),
  (Obj.slotInFlight 0, fun s m => s.inFlightAt m),
  (Obj.linkStatus, fun s _ => s.linkStatus),
  (Obj.keyCheck0, fun s _ => s.keyCheck 0),
  (Obj.keyCheck1, fun s _ => s.keyCheck 1),
  (Obj.keyCheck2, fun s _ => s.keyCheck 2),
  (Obj.semaHolders, fun s _ => s.semaHolders),
  (Obj.semaWaiters, fun s _ => s.semaWaiters),
  (Obj.inFlightTags 0, fun s m => s.inFlightTags m),
  (Obj.completionEcho 0, fun s m => s.echoView m),
  (Obj.safetyExpected 0, fun s m => s.safetyExpected m),
  (Obj.burstState 0, fun s m => s.burstState m),
  (Obj.burstSegments 0, fun s m => (s.burst m).segs.length),
  (Obj.burstBytes 0, fun s m => (s.burst m).bytes),
  (Obj.deviceInFlight, fun s _ => s.inFlightMasters),
  (Obj.bufferFree, fun s _ => s.bufferFree),
  (Obj.learnedCount, fun s _ => s.net.learned.length),
  (Obj.portStatus 0, fun s p => setBitOf (s.get (Obj.portStatus p)) 6 (s.get Obj.blockedPort == p + 1)),
  (Obj.fill 0, fun s q => s.fill q),
  (Obj.weirStatus 0, fun s q => s.weirStatus q),
  (Obj.railStatus, fun s _ => s.railWord),
  (Obj.powerPhase, fun s _ => s.phaseShown),
  (Obj.penLevels, fun s _ => ofBits (([0, 1, 2, 3] : List Nat).map s.pen)),
  (Obj.pathFlags, fun s _ => s.pathFlags),
  (Obj.escrowStatus, fun s _ => s.escrowView),
  (Obj.nextEventTime, fun s _ => s.nextEvent.1),
  (Obj.nextEventSource, fun s _ => s.nextEvent.2),
  (Obj.clockStatus, fun s _ =>
    setBitOf (s.get Obj.clockStatus) 7 (s.get Obj.powerState == 1 || s.get Obj.powerState == 2)),
  (Obj.tb, fun s _ => s.tb),
  (Obj.tb32, fun s _ => s.tb32),
  (Obj.fclkTime, fun s _ => s.fclk),
  (Obj.calSeconds, fun s _ => s.calNs / 1000000000),
  (Obj.calNanoseconds, fun s _ => s.calNs % 1000000000),
  (Obj.calTbPair, fun s _ => s.calNs / 1000000000 + 2 ^ 64 * (s.calNs % 1000000000) + 2 ^ 96 * s.tb32),
  (Obj.lastDisciplineAge, fun s _ => s.disciplineAge),
  (Obj.rtcSeconds, fun s _ => s.rtc / 32768 % 2 ^ 40),
  (Obj.safetyStatus, fun s _ => s.safetyView),
  (Obj.fnAxisMask 0, fun s n => s.maskView n (Obj.fnAxisMask n) (f0Mask 24 s.variant.hasAxis s.ownerOfAxis)),
  (Obj.channelMask 0, fun s n => s.maskView n (Obj.channelMask n) (f0Mask 256 s.variant.hasChan s.ownerOfChan)),
  (Obj.gpMask 0, fun s n => s.maskView n (Obj.gpMask n) (f0Mask 96 (fun _ => true) s.ownerOfPin)),
  (Obj.seqSet 0, fun s n => s.maskView n (Obj.seqSet n) 0xFF),
  (Obj.startEnabled 0, fun s n => s.maskView n (Obj.startEnabled n) 1),
  (Obj.fnInFlight 0, fun s n => s.fnInFlight n),
  (Obj.lanesInUse 0, fun s n => s.lanesInUse n),
  (Obj.syncValue 0, fun s p => s.syncWord p),
  (Obj.padValue 0, fun s p => s.padWord p),
  (Obj.loopStatus, fun s _ => s.loopStatus),
  (Obj.leafClosedLocked, fun s _ => leafBits s.closedLocked),
  (Obj.leafIsolated, fun s _ => leafBits fun l => s.asserted (.iso l)),
  (Obj.handleOperated, fun s _ => ofBits ((List.finRange 12).map s.handleOn)),
  (Obj.activeImageCrc, fun s _ => s.image.crc),
  (Obj.pendingImageCrc, fun s _ => (s.recd.pendingImage.map LatImage.crc).getD 0),
  (Obj.leafFilter, fun s _ => s.latParam 0),
  (Obj.trainFilter, fun s _ => s.latParam 1),
  (Obj.handleFilter, fun s _ => s.latParam 2),
  (Obj.discrepancyTime, fun s _ => s.latParam 3),
  (Obj.readbackTimeout, fun s _ => s.latParam 4),
  (Obj.testPulseWidth, fun s _ => s.latParam 5),
  (Obj.testPulsePeriod, fun s _ => s.latParam 6),
  (Obj.tableHeader 0, fun s t => ((s.table t).map fun x => leNat x.header).getD 0),
  (Obj.tabSlotState 0, fun s t => bitVal (s.table t).isSome),
  (Obj.stateRecord 0, fun s i =>
    (((s.table (i / 64)).bind fun t => t.states[i % 64]?).map fun r => leNat r.bytes).getD 0),
  (Obj.brineFill, fun s _ => s.brineFill),
  (Obj.flushEstimate, fun s _ => s.flushEstimate),
  (Obj.oldestSeq 0, fun s l => s.oldestSeq l),
  (Obj.pendingCount 0, fun s l => (s.recd.brineOf l).length % 65536),
  (Obj.logCapacity 0, fun _ l => ringCapacity l),
  (Obj.usedBytes 0, fun s l => bytesOf (s.salt.ringOf l)),
  (Obj.newestRevision 0, fun s l => ((s.newestRec l).map (·.revision)).getD 0),
  (Obj.axisStatus 0, fun s a => s.axisStatusView a),
  (Obj.rawState 0, fun s c => s.rawState c),
  (Obj.outputDemand 0, fun s c => s.baseDemand c),
  (Obj.outputFlags 0, fun s c => s.outFlags c),
  (Obj.diagStatus 0, fun s c => s.get (Obj.diagStatus (s.leadOf c))),
  (Obj.diagSticky 0, fun s c => s.get (Obj.diagSticky (s.leadOf c))),
  (Obj.clampEnergyLast 0, fun s c => s.get (Obj.clampEnergyLast (s.leadOf c))),
  (Obj.clampEnergyAcc 0, fun s c => s.get (Obj.clampEnergyAcc (s.leadOf c))),
  (Obj.clampEnergyTotal 0, fun s c => s.get (Obj.clampEnergyTotal (s.leadOf c))),
  (Obj.switchOnCount 0, fun s c => s.get (Obj.switchOnCount (s.leadOf c))),
  (Obj.onSeconds 0, fun s c => s.onSeconds c),
  (Obj.tripCount 0, fun s c => s.get (Obj.tripCount (s.leadOf c))),
  (Obj.thermalOffCount 0, fun s c => s.get (Obj.thermalOffCount (s.leadOf c))),
  (Obj.lockCount 0, fun s c => s.get (Obj.lockCount (s.leadOf c)))]

/-- What an object shows when it is read, objects of a session and DOM objects apart. -/
def State.view (s : State) (k : Nat) : Nat :=
  match lookup k with
  | none => defaultOf s.variant k
  | some (g, i, d) =>
    match views.find? fun v => v.1 == 256 * g.lo + d.sub with
    | some (_, f) => f s i
    | none => s.get k

end Sys2Proof.Machine
end

