-- ==== Sys2Proof/Machine/Operands.lean ====
section
/-!
DEFINITION. Machine/Operands.lean: the elements of a HOST frame (R233, R234, R245): what their bytes spell, operation by
operation, and the safety code that may close them.
Readings and choices in the log: DEDUCED 107, 141.
-/
namespace Sys2Proof.Machine
open Sys2Proof

/-- The byte at position `i`. -/
def u8Of (bs : List Byte) (i : Nat) : Nat := (bs.getD i 0).toNat
/-- The 16-bit number at position `i`. -/
def u16Of (bs : List Byte) (i : Nat) : Nat := leNat ((bs.drop i).take 2)
/-- The 32-bit number at position `i`. -/
def u32Of (bs : List Byte) (i : Nat) : Nat := leNat ((bs.drop i).take 4)

/-- The entries of a READ_MULTI. -/
def readEntries : Nat → List Byte → List (Nat × Nat)
  | 0, _ => []
  | n + 1, bs => (u16Of bs 0, u8Of bs 2) :: readEntries n (bs.drop 4)

/-- The entries of a WRITE_MULTI; none where they do not exactly fill the body. -/
def writeEntries : Nat → List Byte → Option (List (Nat × Nat × List Byte))
  | 0, [] => some []
  | 0, _ :: _ => none
  | n + 1, bs =>
    let len := u8Of bs 3
    if bs.length < 4 + roundUp4 len then none
    else (writeEntries n (bs.drop (4 + roundUp4 len))).map ((u16Of bs 0, u8Of bs 2, (bs.drop 4).take len) :: ·)

/-- The entries of a NOTICE_ACK: SubscriptionId, Source, AckSeq (R249). -/
def ackEntries : Nat → List Byte → List (Nat × Nat × Nat)
  | 0, _ => []
  | n + 1, bs => (u8Of bs 0, u16Of bs 2, u16Of bs 4) :: ackEntries n (bs.drop 8)

/-- What a body of exactly `n` bytes spells. -/
def exactly (n : Nat) (b : List Byte) (r : Req) : Req := if b.length = n then r else .badLength

/-- WRITE and CMD: the object and the data (table "Operations"). -/
def dataBody (b : List Byte) (f : Nat → Nat → List Byte → Req) : Req :=
  let len := u16Of b 4
  if b.length = 8 + roundUp4 len then f (u16Of b 0) (u8Of b 2) ((b.drop 8).take len) else .badLength

/-- The operation that an Op and its body spell (R234, R240, R242). -/
def readReq (op : Nat) (b : List Byte) : Req :=
  match op with
  | 0x01 => exactly 0 b .keep
  | 0x02 => exactly 0 b .close
  | 0x10 => exactly 12 b (.read (u16Of b 0) (u8Of b 2) (u32Of b 4) (u16Of b 8))
  | 0x11 => dataBody b .write
  | 0x12 =>
    let n := u8Of b 0
    if b.length < 4 then .badLength
    else if n = 0 ∨ 32 < n then .badCount
    else exactly (4 + 4 * n) b (.readMulti (readEntries n (b.drop 4)))
  | 0x13 =>
    let n := u8Of b 0
    if b.length < 4 then .badLength
    else if n = 0 ∨ 32 < n then .badCount
    else match writeEntries n (b.drop 4) with
      | some es => .writeMulti es
      | none => .badLength
  | 0x20 => exactly 0 b .burstBegin
  | 0x21 =>
    let len := u16Of b 6
    if len = 0 ∨ 1024 < len then .badLength
    else exactly (12 + roundUp4 len) b (.burstSeg (u8Of b 0) (u16Of b 2) (u8Of b 4) (u32Of b 8) ((b.drop 12).take len))
  | 0x22 => exactly 8 b (.burstEnd (u8Of b 0) (u32Of b 4))
  | 0x23 => exactly 0 b .burstAbort
  | 0x30 => exactly 4 b (.semaTake (u8Of b 0) (u16Of b 2))
  | 0x31 => exactly 4 b (.semaGive (u8Of b 0))
  | 0x32 => exactly 4 b (.semaQuery (u8Of b 0))
  | 0x40 => dataBody b .cmd
  | 0x50 => exactly 4 b (.subscribe (u8Of b 0) (u8Of b 1) (u16Of b 2))
  | 0x51 => exactly 4 b (.unsubscribe (u8Of b 0))
  | 0x60 => exactly 4 b (.store (u8Of b 0))
  | 0x90 =>
    if b.length % 8 = 0 ∧ b.length ≤ 256 then .noticeAck (ackEntries (b.length / 8) b) else .badLength
  | _ => .undefinedOp

/-- An element as admission sees it. -/
structure Elem where
  op : Nat
  tag : Nat
  req : Req
  /-- a burst segment from SegNo to its last data byte (R243) -/
  raw : List Byte
  safety : Option Safety
  deriving DecidableEq, Repr

/-- The safety code of an element, with its CRC compared (R245). `pre` is SerialNumber and the role byte. -/
def readSafety (pre e : List Byte) : Safety :=
  let c := e.drop (e.length - 12)
  ⟨u16Of c 0, u32Of c 4, u32Of c 8 == crc32c (pre ++ e.take (e.length - 4))⟩

/-- The element that its bytes spell (R233). -/
def readElem (pre e : List Byte) : Elem :=
  let safe := (u8Of e 1).testBit 0 && decide (20 ≤ e.length)
  let body := (e.drop 8).take (e.length - 8 - (if safe then 12 else 0))
  let r := readReq (u8Of e 0) body
  { op := u8Of e 0, tag := u16Of e 2 % 512, req := r
    raw := match r with
      | .burstSeg _ _ _ _ d => body.take (12 + d.length)
      | _ => if u8Of e 0 = 0x21 then body.take 1 else []
    safety := if safe then some (readSafety pre e) else none }

/-- The objects that an operation addresses, as object numbers. -/
def Req.keys : Req → List Nat
  | .read idx sub _ _ => [256 * idx + sub]
  | .write idx sub _ => [256 * idx + sub]
  | .readMulti es => es.map fun e => 256 * e.1 + e.2
  | .writeMulti es => es.map fun e => 256 * e.1 + e.2.1
  | .burstSeg _ idx sub _ _ => [256 * idx + sub]
  | .cmd idx sub _ => [256 * idx + sub]
  | _ => []

/-- The operation only reads. -/
def Req.reads : Req → Bool
  | .read .. => true
  | .readMulti _ => true
  | _ => false

end Sys2Proof.Machine
end

