-- ==== Sys2Proof/Machine/Access.lean ====
section
/-!
DEFINITION. Machine/Access.lean: the checks of an object operation, steps 3 to 13 of the table "Order of checks" (R173),
judged on the state that the objects would have after the write (R243).
Readings and choices in the log: DEDUCED 106, 124, 125.
-/
namespace Sys2Proof.Machine
open Sys2Proof Sys2Proof.Config

/-- Who asks: its place, whether over the local host link, with a passed safety code, its session key, its transaction,
and whether that is a WRITE or CMD of its own. -/
structure Writer where
  place : Nat
  link : Bool
  safe : Bool
  sk : List Byte
  id : Nat
  single : Bool
  deriving DecidableEq, Repr

/-- The kind of an operation on an object. -/
inductive OpKind where
  | read | multiRead | write | multiWrite | burst | cmd
  deriving DecidableEq, Repr

def OpKind.reads : OpKind → Bool
  | .read => true
  | .multiRead => true
  | _ => false
def OpKind.multi : OpKind → Bool
  | .multiRead => true
  | .multiWrite => true
  | _ => false

/-- The slot of a table object that a load writes (R62). -/
def tableSlot (k : Nat) : Option Nat :=
  let idx := k / 256
  if 0x2120 ≤ idx ∧ idx < 0x2140 ∧ (k % 256 = 1 ∨ k % 256 = 3) then some (idx - 0x2120)
  else if 0x4000 ≤ idx ∧ idx < 0x4800 ∧ k % 256 = 1 then some ((idx - 0x4000) / 64)
  else none

/-- Access class and flags of an object. -/
def isRwd (k : Nat) : Bool := ((lookup k).map fun x => decide (x.2.2.acc = .rwd)).getD false
def isCmdObj (k : Nat) : Bool := ((lookup k).map fun x => x.2.2.flags.contains .cmd).getD false
def isDom (k : Nat) : Bool := ((lookup k).map fun x => decide (x.2.2.ty = .dom)).getD false

/-- A function's state refuses an operation on its object (step 3). -/
def State.gated (s : State) (o : OpKind) (k : Nat) : Bool :=
  let n := s.ownerOf k
  n != 0 && match s.fnState n with
    | 1 => false
    | 0 => !(o.reads || (isRwd k && decide (o ≠ .cmd)) || (decide (o = .burst) && (tableSlot k).isSome))
    | _ => true

/-- Objects that require a safety code, by operation (table "Safety-coded objects", R245). -/
def needsSafety (o : OpKind) (k : Nat) : Bool :=
  match o with
  | .cmd => isCmdObj k && (decide (0x2110 ≤ k / 256 ∧ k / 256 < 0x2118) || decide (0x3100 ≤ k / 256 ∧ k / 256 < 0x3118))
  | .burst => k == Obj.configImage || k == Obj.loadFactoryImage
  | _ => !o.reads && k == Obj.loadFactoryImage

/-- The semaphore that a writer must hold. -/
def State.semFor (s : State) (d : Sub) (k : Nat) : Option Nat :=
  match d.acc with
  | .rws m => some m
  | .rwsOwner => some (8 + s.ownerOf k)
  | _ => d.flags.findSome? fun
    | .sem m => some m
    | .semOwn => some (8 + s.ownerOf k)
    | _ => none

/-- Step 7: observer, maintainer, local host link (R172, R215). -/
def State.roleRefusal (s : State) (w : Writer) (o : OpKind) (d : Sub) : Nat :=
  if o.reads then 0
  else if 2 ≤ w.place then (if d.flags.contains .session then 0 else 0x0104)
  else if d.flags.contains .maintainer && !s.flag (Obj.maintainer w.place) then 0x0105
  else if d.flags.contains .localLink && !w.link then 0x0105
  else 0

/-- Step 8: access class and kind of operation (R169, R240, R241, R251). -/
def kindRefusal (o : OpKind) (g i k : Nat) (d : Sub) : Nat :=
  let cmd := d.flags.contains .cmd
  if cmd != decide (o = .cmd) then 0x0207
  else if o.multi && decide (d.ty = .dom) then 0x0207
  else if o.reads then (if d.acc = .wo then 0x0102 else 0)
  else if g = 0x1700 ∧ i = 0 ∧ (2 ≤ d.sub ∧ d.sub ≤ 5 ∨ d.sub = 0x0B) then 0x0207
  else if d.acc = .const ∨ d.acc = .ro then 0x0101
  else match tableSlot k with
    | some t => if t ≤ 2 then 0x0101 else if o = .burst then 0 else 0x0330
    | none => if d.flags.contains .burst && decide (o ≠ .burst) then 0x0303 else 0

/-- Objects of a resource that belongs to F0, written only by the master bound to F0 (R123, R131, R170). -/
def boundOnly (g : Nat) (d : Sub) : Bool :=
  decide (d.acc = .rwd) || (g == 0x6100 && (d.sub == 6 || d.sub == 0x0A)) || (g == 0x6200 && d.sub == 2)

/-- The owner of a table slot is a function that the loader must judge (R62): no function of F1 to F7 of the variant. -/
def State.looseSlot (s : State) (k : Nat) : Bool :=
  (tableSlot k).isSome && (s.ownerOf k == 0 || !s.variant.hasFn (s.ownerOf k) || decide (7 < s.ownerOf k))

/-- Step 9: the binding (R171, R239, R251 to R253). -/
def State.bindRefusal (s : State) (w : Writer) (o : OpKind) (g i k : Nat) (d : Sub) : Nat :=
  let bound0 := w.place == s.get (Obj.boundSlot 0)
  let n := s.ownerOf k
  if d.flags.contains .slotSession && w.place != i then 0x0103
  else if o.reads || s.looseSlot k then 0
  else if d.flags.contains .fnControl then s.fnWriter w.place i
  else if n ≠ 0 ∧ w.place ≠ s.get (Obj.boundSlot n) then 0x0103
  else if n = 0 ∧ boundOnly g d ∧ !bound0 then 0x0103
  else if d.flags.contains .needF0 && !bound0 && !(k == Obj.boundSlot 0 && w.link) then 0x0103
  else 0

/-- Step 10: the semaphore. -/
def State.semRefusal (s : State) (w : Writer) (o : OpKind) (k : Nat) (d : Sub) : Nat :=
  if o.reads || s.looseSlot k then 0
  else match s.semFor d k with
    | some m => if s.holds w.place m then 0 else 0x0401
    | none => 0

/-- Step 11: RWD objects, and the masks and bindings of a function, only while it is DISABLED (R169, R251). -/
def State.disabledRefusal (s : State) (o : OpKind) (g i k : Nat) (d : Sub) : Nat :=
  let n := s.ownerOf k
  if o.reads then 0
  else if d.acc = .rwd ∧ n ≠ 0 ∧ s.fnState n ≠ 0 then 0x0301
  else if g = 0x1700 ∧ 1 ≤ i ∧ 1 ≤ d.sub ∧ d.sub ≤ 5 ∧ s.fnState i ≠ 0 then 0x0301
  else 0

/-- The first refusal of a list of statuses, 0 where there is none. -/
def firstOf : List Nat → Nat
  | [] => 0
  | x :: xs => if x = 0 then firstOf xs else x

/-- Steps 3 to 11 for one object; 0 where all pass (R173). -/
def State.access (s : State) (w : Writer) (o : OpKind) (k : Nat) : Nat :=
  if s.gated o k then 0x0701
  else if needsSafety o k && !w.safe then 0x0901
  else
    match lookupIdx (k / 256) with
    | none => 0x0201
    | some grp =>
      let i := k / 256 - grp.lo
      if k % 256 = 0 then
        if grp.subs.all fun d => !d.absent.isPresent s.variant i then 0x0501
        else if o.reads then 0
        else if o = .cmd then 0x0207
        else if 2 ≤ w.place then 0x0104
        else 0x0101
      else
        match lookup k with
        | none => 0x0202
        | some (_, _, d) =>
          if !d.absent.isPresent s.variant i then 0x0501
          else firstOf [s.roleRefusal w o d, kindRefusal o grp.lo i k d, s.bindRefusal w o grp.lo i k d,
            s.semRefusal w o k d, s.disabledRefusal o grp.lo i k d]

/-! Steps 12 and 13: length, range, permitted values, related objects, the chapter's own checks. -/

/-- A value outside the range, or in it and not permitted (R168, R415). -/
def Rng.refusal (ty : Ty) (v : Nat) : Rng → Nat
  | .any => if ty = .bool ∧ 1 < v then 0x0204 else 0
  | .rng lo hi step => if v < lo ∨ hi < v then 0x0204 else if (v - lo) % step ≠ 0 then 0x0205 else 0
  | .srng lo hi => let x := signedOf (8 * ty.bytes) v; if x < lo ∨ hi < x then 0x0204 else 0
  | .mask m => if v &&& m = v then 0 else 0x0205
  | .only x => if v = x then 0 else 0x0205
  | .oneOf lo hi x => if (lo ≤ v ∧ v ≤ hi) ∨ v = x then 0 else 0x0204

/-- A field-channel number named by an object of function `fn`, in the order of R416; `out` is the status outside the mask. -/
def State.chanRefusal (s : State) (fn v out : Nat) : Nat :=
  if v = 0xFFFF then 0
  else if 255 < v then 0x0204
  else if !s.variant.hasChan v then 0x0502
  else if s.ownerOfChan v ≠ fn then out
  else 0

/-- A GP code named by an object of function `fn` (R353, R358). -/
def State.pinRefusal (s : State) (fn v : Nat) : Nat :=
  if v = 0xFFFF then 0
  else match codePin v with
    | none => 0x0204
    | some n => if n < 16 then 0x0205 else if s.ownerOfPin n ≠ fn then 0x0103 else 0

/-- TripChannel1, TripChannel2 and DatumChannel (R80, R101). -/
def State.tripRefusal (s : State) (a v : Nat) : Nat :=
  firstOf [s.chanRefusal (s.ownerOfAxis a) v 0x0103,
    if v = 0xFFFF ∨ isInput (s.get (Obj.channelMode v)) then 0 else 0x0206]

/-- LatchSource (R104). -/
def State.latchRefusal (s : State) (a v : Nat) : Nat :=
  let fn := s.ownerOfAxis a
  let kind := v / 4096
  firstOf [latchSourceRange v,
    if 1 ≤ kind ∧ kind ≤ 3 then s.chanRefusal fn (v % 512) 0x0103
    else if 4 ≤ kind ∧ kind ≤ 6 then (if s.ownerOfPin (v % 128) ≠ fn then 0x0103 else 0)
    else 0]

/-- CompareOutput (R105, R353, R416). -/
def State.compareRefusal (s : State) (a v : Nat) : Nat :=
  let fn := s.ownerOfAxis a
  if (codePin v).isSome then s.pinRefusal fn v
  else firstOf [s.chanRefusal fn v 0x0103,
    if v = 0xFFFF then 0
    else if s.get (Obj.channelMode v) ≠ 4 ∨ s.get (Obj.pulseWidth a) < 1000 then 0x0206 else 0]

/-- A profile (table "Profile layout", R69). -/
def profileRefusal (v : Nat) : Nat :=
  let p := Profile.of v
  if v / 2 ^ 80 ≠ 0 then 0x0205
  else if p.ok then 0
  else if Profile.ok { p with ramp := 0 } && decide (p.ramp ≤ 5000) then 0x0206
  else 0x0204

/-- SsiLayout's own fields (R96). -/
def layoutRefusal (v : Nat) : Nat := if ssiLayoutOk v (2 ^ u8At v 1) then 0 else 0x0204

/-- CountsPerRev equals 2^StBits in SERIAL mode (R96). -/
def State.serialRefusal (s : State) (a : Nat) : Nat :=
  if s.isSerial a && s.get (Obj.countsPerRev a) != 2 ^ u8At (s.get (Obj.ssiLayout a)) 1 then 0x0206 else 0

/-- VlanEntry (R192). -/
def vlanRefusal (v : Nat) : Nat :=
  if u16At v 0 / 4096 % 8 ≠ 0 ∨ 7 < u8At v 2 ∨ 7 < u8At v 3 then 0x0205 else 0

/-- HighWeir above LowWeir and within the depth (R276). -/
def State.weirRefusal (s : State) (q : Nat) : Nat :=
  if s.get (Obj.lowWeir q) < s.get (Obj.highWeir q) ∧ s.get (Obj.highWeir q) ≤ queueDepth q then 0 else 0x0206

/-- Levels that a write would change on a pin whose function is not bound to the writer (R357). -/
def State.levelRefusal (s : State) (place p moved : Nat) : Nat :=
  if (List.range 16).any fun i => moved.testBit i && s.get (Obj.boundSlot (s.ownerOfPin (16 * p + i))) != place
  then 0x0103 else 0

/-- SeqTable or CarTable names a slot of the variant. -/
def State.slotRefusal (s : State) (v : Nat) : Nat := if v = 2 ∧ s.variant.isP then 0x0502 else 0

/-- The bindings of instances as they stand (R45). -/
def State.bindingsRefusal (s : State) (is : List Nat) : Nat :=
  if is.all fun i => s.bindingOk i (s.ownerOfInst i) (s.binding i) then 0 else 0x0331

/-- The checks of an object's own chapter on a value that passed its range: `g` is the first index of its range, `i` the
offset in it; `was` is the state before the write, `t` the one after it. -/
def ownRefusal (w : Writer) (g i sub v : Nat) (was t : State) : Nat :=
  match g, sub with
  | 0x1200, 0x05 => if v = 2 ∧ t.variant.isE then 0x0502 else 0
  | 0x1210, _ => if 0x10 ≤ sub then vlanRefusal v else 0
  | 0x1300, 0x04 => t.weirRefusal i
  | 0x1300, 0x05 => t.weirRefusal i
  | 0x1300, 0x06 => if 15 < v then 0x0205 else 0
  | 0x1402, 0x02 => if t.get Obj.mainOkVoltage < t.get Obj.mainFailVoltage + 1000 then 0x0206 else 0
  | 0x1402, 0x03 => if t.get Obj.mainOkVoltage < t.get Obj.mainFailVoltage + 1000 then 0x0206 else 0
  | 0x1410, 0x01 => springRefusal t
  | 0x1410, 0x02 => springRefusal t
  | 0x1490, 0x02 => if 15 < v then 0x0205 else 0
  | 0x1502, 0x04 => calSetRefusal v t
  | 0x1700, 0x02 => t.maskRefusal i sub v
  | 0x1700, 0x03 => t.maskRefusal i sub v
  | 0x1700, 0x04 => t.maskRefusal i sub v
  | 0x1700, 0x05 => t.maskRefusal i sub v
  | 0x1700, 0x07 =>
    if 32 < (((List.range 8).filter t.variant.hasFn).map fun n => t.get (Obj.minLanes n)).sum then 0x0206 else 0
  | 0x1700, 0x09 => if i = 0 then 0x0205 else 0
  | 0x1800, _ => if v &&& 0xFC80 ≠ 0 then 0x0205 else pinConfigRefusal i v
  | 0x1806, 0x01 => t.levelRefusal w.place i (v ^^^ was.get (Obj.outputLevel i))
  | 0x1806, 0x02 => t.levelRefusal w.place i ((v ||| was.get (Obj.outputLevel i)) ^^^ was.get (Obj.outputLevel i))
  | 0x1806, 0x03 => t.levelRefusal w.place i (v &&& was.get (Obj.outputLevel i))
  | 0x1810, 0x01 => t.pinRefusal 0 v
  | 0x1810, 0x03 => t.pinRefusal 0 v
  | 0x1810, 0x04 => t.pinRefusal 0 v
  | 0x1820, 0x04 => if v.testBit 0 && t.get (Obj.mask i) == 0 then 0x0206 else 0
  | 0x1820, 0x06 => if 3 < v then 0x0205 else 0
  | 0x1828, 0x01 => if 5 < v % 16 ∧ v % 16 ≠ 15 then 0x0204 else if v / 64 % 4 ≠ 0 then 0x0205 else 0
  | 0x2104, 0x01 => firstOf [t.slotRefusal v, t.bindingsRefusal [2 * i, 2 * i + 1]]
  | 0x3000, 0x20 => firstOf [t.slotRefusal v, t.bindingsRefusal [8 + i]]
  | 0x3000, 0x21 => t.bindingsRefusal [8 + i]
  | 0x3000, 0x22 => t.bindingsRefusal [8 + i]
  | 0x3000, 0x23 => t.bindingsRefusal [8 + i]
  | 0x3000, 0x26 => if t.variant.hasDoorway v then 0 else 0x0502
  | 0x3200, 0x01 => t.serialRefusal i
  | 0x3200, 0x02 => t.serialRefusal i
  | 0x3200, 0x09 => t.tripRefusal i v
  | 0x3200, 0x0F => firstOf [layoutRefusal v, t.serialRefusal i]
  | 0x3300, _ => if 0x10 ≤ sub ∧ sub ≤ 0x17 then profileRefusal v else 0
  | 0x3400, 0x08 => if seedOk v then 0 else 0x0204
  | 0x3400, 0x09 => if seedOk v then 0 else 0x0204
  | 0x3400, 0x14 => t.tripRefusal i v
  | 0x3400, 0x15 => t.tripRefusal i v
  | 0x3500, 0x01 => t.latchRefusal i v
  | 0x3500, 0x04 => t.latchRefusal i v
  | 0x3500, 0x12 => t.compareRefusal i v
  | 0x3500, 0x13 => if t.get (Obj.compareOutput i) ≤ 255 ∧ v < 1000 then 0x0206 else 0
  | 0x6000, 0x01 => modeRefusal i v was t
  | 0x6000, 0x04 =>
    firstOf [t.chanRefusal (t.ownerOfChan i) v 0, if t.follows i then 0x0333 else 0, testSourceRefusal i v t]
  | 0x6000, _ => if t.follows i then 0x0333 else 0
  | 0x6100, 0x06 => if t.follows i then 0x0333 else demandRefusal i t
  | 0x6100, _ => if t.follows i then 0x0333 else 0
  | 0x6200, 0x02 => if v.testBit 8 || v.testBit 15 then 0x0205 else 0
  | 0x6400, 0x0B =>
    if v ≠ 0xFF ∧ v / 16 % 8 ≠ 0 then 0x0205 else if t.follows i then 0x0333 else 0
  | 0x6400, _ => if t.follows i then 0x0333 else 0
  | _, _ => 0

/-- Steps 12 and 13 for the value of an object that is not a DOM or a table slot (R167, R168, R173). -/
def valueRefusal (w : Writer) (k : Nat) (data : List Byte) (was t : State) : Nat :=
  match lookup k with
  | none => 0
  | some (g, i, d) =>
    if data.length ≠ d.ty.bytes then 0x0203
    else firstOf [d.rng.refusal d.ty (leNat data), ownRefusal w g.lo i d.sub (leNat data) was t]

/-- The state that the objects would have after a write of a value: objects that take what is written. -/
def plainPut (k v : Nat) (s : State) : State :=
  match lookup k with
  | none => s
  | some (_, _, d) =>
    let plain := match d.acc with
      | .rw => true
      | .rwd => true
      | .rws _ => true
      | _ => false
    if plain && !d.flags.contains .w1c && !d.flags.contains .session then s.put k v else s

/-- Steps 3 to 13 of a WRITE or CMD of an object, judged on the state before it and its consistency on the state after. -/
def State.writeRefusal (s : State) (w : Writer) (o : OpKind) (k : Nat) (data : List Byte) : Nat :=
  firstOf [s.access w o k, valueRefusal w k data s (plainPut k (leNat data) s)]

/-- A plain write of a table slot also fills 16#2101 (R62). -/
def noteTableWrite (k : Nat) (s : State) : State :=
  match tableSlot k with
  | none => s
  | some t =>
    let rec_ := decide (0x4000 ≤ k / 256)
    (((s.put Obj.tabRefusalCause 1).put Obj.refusalSlot t).put Obj.refusalState
      (if rec_ then k / 256 % 64 else 0xFF)).put Obj.refusalItem (if rec_ then 0xFE else 0xFF)

end Sys2Proof.Machine
end

