-- ==== Sys2Proof/Machine/Writes.lean ====
section
/-!
DEFINITION. Machine/Writes.lean: what accepted writes and commands do, the reading of objects, and the checks and the
effect of a burst (R62, R177, R178, R212, R217, R243).
Readings and choices in the log: DEDUCED 52, 53, 59, 105, 109, 111, 113, 117, 118, 120, 123, 126, 129, 130.
-/
namespace Sys2Proof.Machine
open Sys2Proof Sys2Proof.Config

/-! Stored values with their consequences. -/

/-- A channel is tested by another source from now on (R116). -/
def testSourceWritten (c v : Nat) (s : State) : State :=
  let old := s.get (Obj.testSource c)
  each ([old, v].filter (· ≤ 255)) applyCell (s.put (Obj.testSource c) v)

/-- DirectPin: the base demand of a channel in OUT_DIRECT follows the new pin (R136). -/
def directPinWritten (c v : Nat) (s : State) : State :=
  applyCell c (withDemand c (fun s => reloadLimits c (s.put (Obj.directPin c) v)) s)

/-- OrphanState of a channel that stands in its orphan state acts at once (R137). -/
def orphanStateWritten (c v : Nat) (s : State) : State :=
  withDemand c (fun s => (s.put (Obj.orphanState c) v).onChan c fun x =>
    { x with oflash := if x.orphan && v == 3 then some ⟨ms 500, true, s.now + ms 500⟩ else none }) s

/-- An object of the working store takes a value, with what follows from it. -/
def putHook (k v : Nat) (s : State) : State :=
  match lookup k with
  | none => s
  | some (g, i, d) =>
    let t := s.put k v
    match g.lo, d.sub with
    | 0x1200, 0x05 => blockPort v s
    | 0x1220, 0x01 => bypassModeWritten v s
    | 0x1230, 0x01 => settleClock t
    | 0x1230, 0x02 => settleClock t
    | 0x1230, 0x03 => settleClock t
    | 0x1410, 0x01 => springWritten k v t
    | 0x1410, 0x02 => springWritten k v t
    | 0x1421, 0x01 => checkWakeAt t
    | 0x1424, 0x02 => serviceWritten i v t
    | 0x1502, 0x05 => settleClock t
    | 0x1503, 0x02 => setTrim v s
    | 0x1700, 0x02 => maskWritten i k v s
    | 0x1700, 0x03 => maskWritten i k v s
    | 0x1700, 0x04 => maskWritten i k v s
    | 0x1700, 0x05 => maskWritten i k v s
    | 0x1800, _ => settlePins t
    | 0x1806, 0x01 => setLevels i v s
    | 0x1810, _ => settlePins t
    | 0x1820, _ => patternWritten i t
    | 0x1828, 0x01 => lineWritten i t
    | 0x3200, 0x01 => feedbackConfigWritten i t
    | 0x3200, 0x02 => feedbackConfigWritten i t
    | 0x3200, 0x0F => feedbackConfigWritten i t
    | 0x3400, 0x08 => seedWritten i true t
    | 0x3400, 0x09 => seedWritten i false t
    | 0x3500, 0x10 => resideCompares i t
    | 0x3500, 0x11 => resideCompares i t
    | 0x3500, 0x12 => settlePins t
    | 0x3500, 0x14 => resideCompares i t
    | 0x3500, 0x15 => resideCompares i t
    | 0x6000, 0x01 => applyMode i v s
    | 0x6000, 0x02 => inputFilterWritten i t
    | 0x6000, 0x04 => testSourceWritten i v s
    | 0x6400, 0x01 => reloadLimits i t
    | 0x6400, 0x02 => reloadLimits i t
    | 0x6400, 0x03 => reloadLimits i t
    | 0x6400, 0x08 => orphanStateWritten i v s
    | 0x6400, 0x0B => directPinWritten i v s
    | _, _ => t

/-! RestoreDefaults (R177). -/

/-- Functions that keep their values: ENABLED or DRAINING ones of F1 to F7. -/
def State.keptFns (s : State) : List Nat := s.fns17.filter fun n => s.fnState n != 0

/-- RestoreDefaults sets the object. -/
def State.restorable (s : State) (k : Nat) : Bool :=
  let idx := k / 256
  storeCovers k && !s.keptFns.contains (s.ownerOf k) && k != Obj.boundSlot 0
    && !(decide (0x1700 ≤ idx ∧ idx < 0x1708) && s.keptFns.contains (idx - 0x1700))
    && !(decide (0x6000 ≤ idx ∧ idx < 0x6100) && k % 256 == 1 && s.claimed (idx - 0x6000))

/-- The value that it takes: a default mask without what lies in the mask of a function that keeps its values. -/
def State.restoredValue (s : State) (k : Nat) : Nat :=
  let v := defaultOf s.variant k
  let idx := k / 256
  let sub := k % 256
  if 0x1700 ≤ idx ∧ idx < 0x1708 ∧ 2 ≤ sub ∧ sub ≤ 4 then
    s.keptFns.foldl (fun v n => v ^^^ (v &&& s.get (Obj.key (0x1700 + n) sub))) v
  else if 0x1700 ≤ idx ∧ idx < 0x1708 ∧ sub = 5 ∧ s.keptFns.any fun n => s.get (Obj.seqSet n) == v then 0xFF
  else v

/-- RestoreDefaults: its status and its effect. -/
def restoreDefaults (s : State) : Nat × State :=
  let ks := (s.objs.map (·.1)).filter s.restorable
  (if s.keptFns.isEmpty then 0 else 0x0302, each ks (fun k t => putHook k (s.restoredValue k) t) s)

/-! Commands written to objects. -/

/-- The first failing check of an image, 0 where it is accepted (table "Image checks", R40). -/
def State.imageCause (s : State) (bs : List Byte) : Nat :=
  let i := LatImage.ofBytes bs
  if !imageCrcOk bs then 1
  else if !imageHeadOk bs then 2
  else if !i.presentOk s.variant then 3
  else if i.platform != s.variant.isP then 4
  else if !i.distinctOk then 5
  else if !i.paramsOk || !i.fieldsOk || !imageReservedOk bs then 6
  else s.promoteRefusal i

/-- The status that goes with a RefusalCause of the lattice. -/
def imageStatus (cause : Nat) : Nat := if cause = 0 then 0 else if cause = 3 then 0x0502 else 0x0311

/-- An accepted image becomes pending (R40). -/
def loadImage (i : LatImage) (s : State) : State :=
  bumpGen Obj.configImage (addJob (.image i) [] ((s.onRec fun r => { r with pendingImage := some i }).put Obj.pendingState 1))

/-- LoadFactoryImage (R42, R418). -/
def loadFactory (s : State) : Nat × State :=
  let i := factoryImage s.variant
  let c := s.imageCause i.bytes
  if !s.saltOpen then (0x0340, s)
  else if c = 0 then (0, loadImage i s)
  else (imageStatus c, s.put Obj.imgRefusalCause c)

/-- A wrapped key (R212). -/
def keyWritten (target v : Nat) (sk : List Byte) (s : State) : State :=
  let pad := hmac sk (label "DLS-KW" ++ [byte target] ++ toLe 4 (s.get Obj.keyWriteNo))
  (s.put (Obj.keyM0 + target) (v ^^^ leNat pad)).inc Obj.keyWriteNo

/-- SlotReset (R217): a session that resets its own slot ends once the COMPLETE of the write is sent. -/
def slotReset (w : Writer) (m : Nat) (s : State) : State :=
  if w.place = m then s.onSession m fun x => { x with endOn := some (w.id, 3) } else endSession m 3 s

/-- A final flush runs. -/
def State.finalRuns (s : State) : Bool := (s.recd.running.map fun j => decide (j.kind = JobKind.flush true)).getD false

/-- Transactions wait for the commit of the running journalled transaction. -/
def joinRunning (ids : List Nat) (s : State) : State :=
  s.onRec fun r => { r with running := r.running.map fun j => { j with flights := j.flights ++ ids } }

/-- DeviceReset (R347): the write completes at the commit of the final flush. -/
def deviceReset (w : Writer) (s : State) : Option Nat × State :=
  let ids := if w.single then [w.id] else []
  let s := s.onRst fun r => { r with device := true }
  let waits := s.whenever w.single (holdFlight w.id)
  let st : Option Nat := if w.single then none else some 0
  if s.saltOpen then (st, addFlush true ids waits)
  else if s.finalRuns then (st, joinRunning ids waits)
  else (some 0, s.onRst fun r => { r with deviceCommitAt := some s.now })

/-- ClearLog (R163): it completes at its commit. -/
def clearLogs (w : Writer) (code : Nat) (s : State) : Option Nat × State :=
  if !s.saltOpen then (some 0x0340, s)
  else if w.single then (none, addJob (.clear code w.place) [w.id] (holdFlight w.id s))
  else (some 0, addJob (.clear code w.place) [] s)

/-- FlushNow (R157): it completes at the commit of the first flush that starts after it. -/
def flushNow (w : Writer) (s : State) : Option Nat × State :=
  if s.saltOpen then (none, addFlush false [w.id] (holdFlight w.id s)) else (some 0x0340, s)

/-- FunctionControl: a write within a multi operation or a burst does not wait for its drain. -/
def controlFn (w : Writer) (n v : Nat) (s : State) : Option Nat × State :=
  let (st, s) := fnControl n v (if w.single then some w.id else none) s
  match st with
  | some x => (some x, s)
  | none => if w.single then (none, holdFlight w.id s) else (some 0, s)

/-- A CMD to a sequencer instance: a code of 1 to 63 is delivered (R56, R57, R181). -/
def commandInst (w : Writer) (i code : Nat) (s : State) : Option Nat × State :=
  if code = 0 ∨ 63 < code then (some 0x0204, s)
  else if (s.inst i).running then (none, deliver i code w.id s)
  else (some 0x0321, s)

/-- EnvCommand (R85). -/
def envCommand (a v : Nat) (s : State) : State := if v = 1 then captureCommand a s else resetToSeedCommand a s

/-- DiagSticky: 1s clear; a gang's bits are those of its lead (R119, R126). -/
def stickyWritten (c v : Nat) (s : State) : State :=
  let k := Obj.diagSticky (s.leadOf c)
  s.put k (s.get k ^^^ (s.get k &&& v))

/-- UnitStatus: a 1 clears MATCH_STICKY; the write clears MATCH as any to the unit does (R360). -/
def unitStatusWritten (u v : Nat) (s : State) : State :=
  patternWritten u (if v.testBit 1 then s.setBit (Obj.unitStatus u) 1 false else s)

/-- An object of the session (R159). -/
def sessionWritten (p sub v : Nat) (s : State) : State :=
  s.onSession p fun x =>
    match sub with
    | 1 => { x with cursorLog := v }
    | 2 => { x with cursorSeq := v }
    | _ => { x with windowSize := v }

/-- An accepted write or CMD takes its effect: its status, or none while its COMPLETE waits. -/
def applyWrite (w : Writer) (k : Nat) (data : List Byte) (s : State) : Option Nat × State :=
  let v := leNat data
  match lookup k with
  | none => (some 0, s)
  | some (g, i, d) =>
    match g.lo, d.sub with
    | 0x1003, 0x01 => let (st, s) := restoreDefaults s; (some st, s)
    | 0x1101, 0x08 => (some 0, slotReset w i s)
    | 0x1110, 0x01 => (some 0, countWrite k (keyWritten 0 v w.sk s))
    | 0x1110, 0x02 => (some 0, countWrite k (keyWritten 1 v w.sk s))
    | 0x1110, 0x03 => (some 0, countWrite k (keyWritten 2 v w.sk s))
    | 0x1200, 0x09 => (some 0, flushLearning s)
    | 0x1201, 0x06 => (some 0, portReset i s)
    | 0x1220, 0x05 => (some 0, insertGrant s)
    | 0x1300, 0x06 => (some 0, weirStatusWritten i v s)
    | 0x1420, 0x03 => (some 0, powerCommand v s)
    | 0x1490, 0x02 => (some 0, dieStatusWritten i v s)
    | 0x1502, 0x04 => (some 0, setCalendar v s)
    | 0x1600, 0x03 => deviceReset w s
    | 0x1700, 0x09 => controlFn w i v s
    | 0x1806, 0x02 => (some 0, setLevels i (s.get (Obj.outputLevel i) ||| v) s)
    | 0x1806, 0x03 => (some 0, setLevels i (s.get (Obj.outputLevel i) ^^^ (s.get (Obj.outputLevel i) &&& v)) s)
    | 0x1820, 0x06 => (some 0, unitStatusWritten i v s)
    | 0x2001, 0x05 => let (st, s) := loadFactory s; (some st, s)
    | 0x2110, 0x01 => commandInst w i v s
    | 0x2200, 0x03 => flushNow w s
    | 0x2210, sub => (some 0, sessionWritten w.place sub v s)
    | 0x2220, 0x01 => clearLogs w v s
    | 0x3100, 0x10 => commandInst w (8 + i) v s
    | 0x3400, 0x0B => (some 0, envCommand i v s)
    | 0x3500, 0x07 => (some 0, latchArmWritten i v s)
    | 0x3500, 0x16 => (some 0, compareArmWritten i v s)
    | 0x6100, 0x06 => (some 0, setBase i v s)
    | 0x6100, 0x0A => let (st, s) := outputReset i s; (some st, s)
    | 0x6200, 0x02 => (some 0, stickyWritten i v s)
    | _, _ => (some 0, countWrite k (putHook k v s))

/-- One write or CMD of an object: steps 3 to 13, then its effect. -/
def writeObject (w : Writer) (o : OpKind) (k : Nat) (data : List Byte) (s : State) : Option Nat × State :=
  match s.writeRefusal w o k data with
  | 0 => applyWrite w k data s
  | st => (some st, if st = 0x0330 then noteTableWrite k s else s)

/-! Reading (R178, R240). -/

/-- Bytes of a DOM object other than a window. -/
def State.domBytes (s : State) (k : Nat) : List Byte :=
  if k = Obj.configImage then (s.recd.pendingImage.getD s.recd.activeImage).bytes
  else if k = Obj.activeImage then s.recd.activeImage.bytes
  else match tableSlot k with
    | some t => ((s.table t).map SeqTab.image).getD []
    | none => []

/-- What a session reads of an object that is no DOM. -/
def State.readValue (s : State) (p k : Nat) : Nat :=
  let se := (s.place p).session
  if k = Obj.cursorLog then (se.map (·.cursorLog)).getD 0
  else if k = Obj.cursorSeq then (se.map (·.cursorSeq)).getD 0
  else if k = Obj.windowSize then (se.map (·.windowSize)).getD 1032
  else s.view k

/-- The encoded value of an object that is no DOM. -/
def State.readBytes (s : State) (p k : Nat) : List Byte := toLe (sizeOf k) (s.readValue p k)

/-- A part of a DOM object: TotalLength, Generation, and the bytes from an offset (R178). -/
def domPart (total : List Byte) (gen offset len : Nat) : List Byte :=
  toLe 4 total.length ++ toLe 2 gen ++ [0, 0] ++ (total.drop offset).take len

/-- READ of an object: status, data, and the state after it; only a window moves its cursor (R159). -/
def readObject (w : Writer) (k offset maxLen : Nat) (s : State) : Nat × List Byte × State :=
  match s.access w .read k with
  | 0 =>
    if k = Obj.window then
      match (s.place w.place).session with
      | none => (0, [], s)
      | some se =>
        let (bs, cur) := s.window se.cursorLog se.cursorSeq se.windowSize
        (0, domPart bs 0 0 bs.length, s.onSession w.place fun x => { x with cursorSeq := cur })
    else if isDom k then
      if maxLen = 0 ∨ 1024 < maxLen then (0x0204, [], s)
      else (0, domPart (s.domBytes k) (storeGet 0 k s.recd.gens) offset maxLen, s)
    else if offset ≠ 0 ∨ maxLen ≠ 0 then (0x0205, [], s)
    else (0, s.readBytes w.place k, s)
  | st => (st, [], s)

/-- An entry of a READ_MULTI: its status and its value (R237, R240). -/
def State.readEntry (s : State) (w : Writer) (k : Nat) : List Byte :=
  match s.access w .multiRead k with
  | 0 => let v := s.readBytes w.place k; toLe 2 0 ++ toLe 2 v.length ++ padTo (roundUp4 v.length) v
  | st => toLe 2 st ++ [0, 0]

/-! Bursts (R62, R179, R242, R243). -/

/-- The object that a segment writes. -/
def Segment.key (x : Segment) : Nat := 256 * x.idx + x.sub

/-- The bytes that a burst gives a DOM object. -/
def domOf (segs : List Segment) (k : Nat) : List Byte := (segs.filter (·.key == k)).flatMap (·.data)

/-- The slots that a burst loads. -/
def slotsOf (segs : List Segment) : List Nat := (segs.filterMap fun x => tableSlot x.key).eraseDups

/-- The burst writes the slot in the image form. -/
def imageForm (segs : List Segment) (t : Nat) : Bool := segs.any fun x => x.key == Obj.tableImage t

/-- The bytes of the latest segment of a burst for an object. -/
def lastData (segs : List Segment) (k : Nat) : Option (List Byte) := ((segs.filter (·.key == k)).getLast?).map (·.data)

/-- A slot as it would stand after the burst: its header bytes, its records, and the length of the image form (R62). -/
def State.slotAfter (s : State) (segs : List Segment) (t : Nat) : List Byte × List StateRec × Option Nat :=
  if imageForm segs t then
    let bs := domOf segs (Obj.tableImage t)
    (bs.take 16, (chunks 144 ((bs.length - 16) / 144) (bs.drop 16)).map StateRec.ofBytes, some bs.length)
  else
    let old := s.table t
    let h := (lastData segs (Obj.tableHeader t)).getD ((old.map SeqTab.header).getD (List.replicate 16 0))
    let n := leNat ((h.drop 5).take 1)
    let rec_ (i : Nat) : StateRec :=
      match lastData segs (Obj.key (0x4000 + 64 * t + i) 1) with
      | some bs => StateRec.ofBytes bs
      | none => (old.bind fun x => x.states[i]?).getD (StateRec.ofBytes (List.replicate 144 0))
    (h, (List.range n).map rec_, none)

/-- The state that the objects would have after a burst. -/
def afterBurst (segs : List Segment) (s : State) : State :=
  let put (x : Segment) (s : State) : State :=
    if x.data.length = sizeOf x.key ∧ !isDom x.key then plainPut x.key (leNat x.data) s else s
  let t := each segs put s
  let img := domOf segs Obj.configImage
  let t := if segs.any (·.key == Obj.configImage) ∧ img.length = 532 then
      t.onRec fun r => { r with pendingImage := some (LatImage.ofBytes img) }
    else t
  each ((slotsOf segs).filter fun n => decide (2 < n)) (fun n t =>
    let (h, rs, _) := s.slotAfter segs n
    t.onRec fun r => { r with tables := r.tables.set n (some (SeqTab.ofParts h rs)) }) t

/-- The slot is bound to an instance of a function of F1 to F7 that is not DISABLED (check 9). -/
def State.slotBusy (s : State) (t : Nat) : Bool :=
  (List.range 32).any fun i => s.hasInst i && s.slotOf i == t && s.ownerOfInst i != 0 && s.fnState (s.ownerOfInst i) != 0

/-- The loader's verdict on a slot as it would stand after the burst (table "Table checks", R62). -/
def State.loadRefusal (s : State) (segs : List Segment) (t : Nat) (after : State) : Option TabRefusal :=
  let mine := segs.filter fun x => tableSlot x.key == some t
  let hasRec := mine.any fun x => decide (0x4000 ≤ x.idx)
  let hasHead := mine.any fun x => x.key == Obj.tableHeader t
  let (h, rs, len) := s.slotAfter segs t
  let n := leNat ((h.drop 5).take 1)
  if (imageForm segs t && (hasRec || hasHead)) || (hasRec && !hasHead) then some ⟨1, 0xFF, 0xFF⟩
  else if n = 0 ∨ 64 < n ∨ (len.map (· != 16 + 144 * n)).getD false then some ⟨3, 0xFF, 0xFF⟩
  else
    let tab := SeqTab.ofParts h rs
    match tab.refusal h (s.variant.featureMask.testBit 9) with
    | some r => some r
    | none =>
      if !s.variant.hasFn tab.owner then some ⟨7, 0xFF, 0xFF⟩
      else match tab.resCheck 7 (fun r => !r.present s.variant) with
        | some r => some r
        | none => match tab.resCheck 8 (fun r => r.owner after != tab.owner) with
          | some r => some r
          | none => if after.slotBusy t then some ⟨9, 0xFF, 0xFF⟩ else none

/-- What a refused load writes to 16#2101. -/
def noteRefusal (t : Nat) (r : TabRefusal) (s : State) : State :=
  (((s.put Obj.tabRefusalCause r.cause).put Obj.refusalSlot t).put Obj.refusalState r.state).put Obj.refusalItem r.item

/-- Steps 3 to 13 for a segment against the state after the burst, with what a loader's refusal writes. `before` are the
segments before it (R243). -/
def segRefusal (w : Writer) (segs before : List Segment) (x : Segment) (was after : State) : Nat × (State → State) :=
  let k := x.key
  let st := after.access { w with safe := x.safety } .burst k
  if st ≠ 0 then (st, id)
  else
    let at_ := if isDom k then (domOf before k).length else 0
    if x.offset ≠ at_ then (0x0205, id)
    else if k = Obj.configImage then
      if before.any (·.key == k) then (0, id)
      else
        let bs := domOf segs k
        let c := after.imageCause bs
        if bs.length ≠ 532 then (0x0203, id)
        else if !was.saltOpen then (0x0340, id)
        else (imageStatus c, if c = 0 then id else State.put Obj.imgRefusalCause c)
    else match tableSlot k with
      | some t =>
        if !isDom k && x.data.length != sizeOf k then (0x0203, id)
        else if before.any fun y => tableSlot y.key == some t then (0, id)
        else if !was.saltOpen then (0x0340, id)
        else match was.loadRefusal segs t after with
          | some r => (if r.cause = 7 then 0x0502 else 0x0330, noteRefusal t r)
          | none => (0, id)
      | none => (valueRefusal w k x.data was after, id)

/-- The first refusal of a burst: its status, its SegNo, and what it writes. -/
def burstRefusal (w : Writer) (segs : List Segment) (was after : State) : List Segment → List Segment →
    Option (Nat × Nat × (State → State))
  | _, [] => none
  | before, x :: xs =>
    match segRefusal w segs before x was after with
    | (0, _) => burstRefusal w segs was after (before ++ [x]) xs
    | (st, f) => some (st, x.segNo, f)

/-- The writes of a burst, one after another; the first that fails ends it with its status and SegNo. -/
def burstApply (w : Writer) : List Segment → State → Except (Nat × Nat) State
  | [], s => .ok s
  | x :: xs, s =>
    if isDom x.key || (tableSlot x.key).isSome then burstApply w xs s
    else match applyWrite { w with safe := x.safety } x.key x.data s with
      | (some 0, s) => burstApply w xs s
      | (none, s) => burstApply w xs s
      | (some st, _) => .error (st, x.segNo)

/-- The journalled objects of a burst are loaded (R40, R62). -/
def burstLoads (segs : List Segment) (s : State) : State :=
  let s := if segs.any (·.key == Obj.configImage) then loadImage (LatImage.ofBytes (domOf segs Obj.configImage)) s else s
  let loads := (slotsOf segs).map fun t => (t, (fun (x : List Byte × List StateRec × Option Nat) =>
    SeqTab.ofParts x.1 x.2.1) (s.slotAfter segs t))
  if loads.isEmpty then s
  else
    let s := each loads (fun (t, x) s =>
      bumpGen (Obj.tableImage t) (s.onRec fun r => { r with tables := r.tables.set t (some x) })) s
    addJob (.tables loads) [] s

/-- Journalled transactions of the recorder, those that flush apart. -/
def State.journalled (s : State) : Nat :=
  (s.recd.queue.filter fun j => !j.isFlush).length + (((s.recd.running.filter fun j => !j.isFlush).map fun _ => 1).getD 0)

/-- A transaction completes with the last journalled transaction that waits or runs. -/
def joinLastJob (id : Nat) (s : State) : State :=
  match (s.recd.queue.reverse.findIdx? fun j => !j.isFlush) with
  | some i => s.onRec fun r =>
      { r with queue := r.queue.modify (r.queue.length - 1 - i) fun j => { j with flights := j.flights ++ [id] } }
  | none => joinRunning [id] s

/-- BURST_END of a burst whose count and CRC agree (R243 steps 3 and 4): status and SegNo, or none while its END waits for a
commit. -/
def runBurst (w : Writer) (segs : List Segment) (s : State) : Option (Nat × Nat) × State :=
  match burstRefusal w segs s (afterBurst segs s) [] segs with
  | some (st, n, f) => (some (st, n), f s)
  | none =>
    match burstApply w segs s with
    | .error e => (some e, s)
    | .ok t =>
      let t := burstLoads segs t
      if s.journalled < t.journalled then (none, joinLastJob w.id (holdFlight w.id t)) else (some (0, 0), t)

end Sys2Proof.Machine
end

