-- ==== Sys2Proof/Machine/Admission.lean ====
section
/-!
DEFINITION. Machine/Admission.lean: the admission of the elements of a HOST frame (R235, R244, R245, R249, R260, R272,
R273).
Readings and choices in the log: DEDUCED 114, 115, 121, 132.
-/
namespace Sys2Proof.Machine
open Sys2Proof

/-! The safety code (R245). -/

/-- The kind of object operation that an operation is. -/
def Req.opKind : Req → OpKind
  | .read .. => .read
  | .readMulti _ => .multiRead
  | .writeMulti _ => .multiWrite
  | .burstSeg .. => .burst
  | .cmd .. => .cmd
  | _ => .write

/-- SafetyRefTime lies more than SafetyTimeout back. -/
def State.aged_ (s : State) (ref : Nat) : Bool :=
  decide (1000 * s.get Obj.safetyTimeout < (s.tb32 + 4294967296 - ref) % 4294967296)

/-- Transactions of place `p` that no lane has started, in order. -/
def State.queueOf_ (s : State) (p : Nat) : List Flight := s.host.flights.filter fun f => f.place == p && f.isQueued

/-- The operation that opens the latest burst of a queue has been passed: what belongs to the open burst, up to the next
BURST_BEGIN. -/
def upToBegin (fs : List Flight) : List Flight := fs.takeWhile fun f => f.op != 0x20

/-- What belongs to the burst that the last element of a queue would join. -/
def lastBurst (fs : List Flight) : List Flight := (fs.reverse.takeWhile fun f => f.op != 0x20).reverse

/-- Objects that a BURST_END admitted now would write: staged segments and those that wait before it. -/
def State.burstKeys (s : State) (p : Nat) : List Nat :=
  let q := s.queueOf_ p
  let staged := if q.any (·.op == 0x20) then [] else (s.burst p).segs.map Segment.key
  staged ++ (lastBurst q).flatMap fun f => f.req.keys

/-- Objects that an operation of place `p` addresses (R257). -/
def State.keysOf (s : State) (p : Nat) (r : Req) : List Nat :=
  match r with
  | .burstEnd _ _ => s.burstKeys p
  | r => r.keys

/-- The operation must carry a safety code. -/
def State.mustBeSafe (s : State) (p : Nat) (r : Req) : Bool :=
  match r with
  | .burstEnd _ _ => (s.burstKeys p).any (needsSafety .burst)
  | r => r.keys.any (needsSafety r.opKind)

/-- Step 4 for an element of place `p`: its status, and the state after it. -/
def checkSafety (p : Nat) (e : Elem) (s : State) : Nat × State :=
  let fail (st : Nat) (s : State) : Nat × State := (st, s.inc Obj.safetyFailCount)
  match e.safety with
  | none => if s.mustBeSafe p e.req then fail 0x0901 s else (0, s)
  | some c =>
    if !c.crcOk then fail 0x0902 s
    else if c.seq ≠ s.safetyExpected p then fail 0x0903 s
    else
      let s := s.onSession p fun x => { x with safetyExpected := (x.safetyExpected + 1) % 65536 }
      if s.aged_ c.refTime then fail 0x0904 s else (0, s)

/-! Steps 1 to 3 (R173, R218, R235, R260, R318, R347). -/

/-- A tag is in flight for the session at place `p`. -/
def State.tagBusy (s : State) (p tag : Nat) : Bool := (s.ownFlights p).any (·.tag == tag)

/-- A function that a multi operation or a BURST_END addresses drains (R260). -/
def State.drains (s : State) (ks : List Nat) : Bool :=
  ks.any fun k => s.ownerOf k != 0 && s.fnState (s.ownerOf k) == 2

/-- Step 3 at admission. -/
def State.gatedElem (s : State) (p : Nat) (r : Req) : Bool :=
  match r with
  | .readMulti _ => s.drains r.keys
  | .writeMulti _ => s.drains r.keys
  | .burstEnd _ _ => s.drains (s.burstKeys p)
  | r => r.keys.any (s.gated r.opKind)

/-- New elements are refused whole: from D2 on, and during a device reset. -/
def State.admitsNone (s : State) : Bool := decide (0x22 ≤ s.get Obj.powerPhase) || s.rst.device

/-- Steps 1 to 3 for an element; `closing` says that a CLOSE of an earlier frame was admitted. -/
def State.admitRefusal (s : State) (p : Nat) (closing : Bool) (e : Elem) : Nat :=
  if closing then 0x0A01
  else if s.tagBusy p e.tag then 0x0803
  else if p < 2 ∧ 256 ≤ s.inFlightAt p then 0x0801
  else if p < 2 ∧ 512 ≤ s.inFlightMasters then 0x0802
  else if 2 ≤ p ∧ 16 ≤ s.inFlightAt p then 0x0801
  else if s.admitsNone || s.gatedElem p e.req then 0x0701
  else 0

/-! Refused and admitted elements. -/

/-- The segment number of a BURST_SEG. -/
def Elem.segNo (e : Elem) : Nat := u8Of e.raw 0

/-- A segment that admission refuses poisons its burst: the open one, or the one that a queued BURST_BEGIN will open
(R242). -/
def poisonAtAdmission (p st segNo : Nat) (s : State) : State :=
  match (s.queueOf_ p).reverse.find? (·.op == 0x20) with
  | some b => s.onFlight b.id fun f => { f with poison := some (f.poison.getD (st, segNo)) }
  | none => s.onHost fun h => { h with bursts := h.bursts.modify p fun b =>
      if b.isOpen then { b with poison := some (b.poison.getD (st, segNo)) } else b }

/-- An element refused at admission: its COMPLETE takes a refusal entry (R235, R273). -/
def refuseElem (p frame i : Nat) (e : Elem) (st : Nat) (data : List Byte) (s : State) : State :=
  match (s.place p).session with
  | none => s
  | some se =>
    let d : Done := { place := p, sess := se.no, tag := e.tag, op := e.op, status := st, detail := 0, data := data
                      frame := frame, elem := i, duplicate := st == 0x0803, safety := false, flight := none, at_ := s.now }
    let s := s.onHost fun h => { h with done := h.done ++ [d] }
    let s := if p < 2 then s.inc (Obj.refusedCount p) else s
    moveFill 4 (if e.op = 0x21 then poisonAtAdmission p st e.segNo s else s)

/-- Functions that a transaction belongs to (R257). -/
def State.functionsOf (s : State) (ks : List Nat) : List Nat :=
  let ns := ((ks.map s.ownerOf).filter (· != 0)).eraseDups
  if ns.isEmpty then [0] else ns

/-- BURST_ABORT acts (R244): its own transaction is `id`. -/
def abortBurst (p id : Nat) (s : State) : State :=
  if 2 ≤ p then complete id 0x0104 s
  else if !(s.burst p).isOpen then complete id 0x0601 s
  else
    let ids := ((upToBegin (s.queueOf_ p)).filter fun f => f.op == 0x21 || f.op == 0x22).map (·.id)
    let s := moveFill (13 + p) (s.onHost fun h => { h with bursts := h.bursts.set p Burst.closed })
    complete id 0 (moveFill p (completeAll ids 0x0606 s))

/-- An admitted element: a credit of its Headpond, the sluice and the completion queue (R272); BURST_ABORT acts at once. -/
def admitElem (p frame i : Nat) (e : Elem) (s : State) : State :=
  match (s.place p).session with
  | none => s
  | some se =>
    let id := s.host.nextFlight
    let fns := s.functionsOf (s.keysOf p e.req)
    let f : Flight := { id := id, place := p, sess := se.no, tag := e.tag, frame := frame, elem := i, op := e.op, req := e.req
                        raw := e.raw, safety := e.safety.map (·.refTime), fns := fns
                        cls := fns.foldl min (fns.headD 0), orphan := false
                        phase := if e.op = 0x23 then .held else .queued, since := s.now
                        link := decide (se.transport = .link), sk := se.sk, poison := none }
    let s := s.onHost fun h => { h with nextFlight := id + 1, flights := h.flights ++ [f] }
    let s := if p < 2 then s.inc (Obj.admittedCount p) else s
    let s := moveFill 4 (moveFill (min p 2) (dozeExit s))
    if e.op = 0x23 then abortBurst p id s
    else if e.op = 2 then s.onSession p fun x => { x with closing := true }
    else s

/-! NOTICE_ACK (R249). -/

/-- One entry of a NOTICE_ACK. -/
def ackEntry (p : Nat) (e : Nat × Nat × Nat) (s : State) : State :=
  let (sub, src, ack) := e
  let mine (n : Notice) : Bool := n.place == p && n.subId == sub && n.source == src && n.acked
  match s.host.pool.find? mine with
  | none => s.inc Obj.noticeAckErrors
  | some o =>
    let dist (q : Nat) : Nat := (q + 65536 - o.seq) % 65536
    let covered (n : Notice) : Bool := mine n && decide (dist n.seq ≤ dist ack)
    if 32768 ≤ dist ack ∨ dist (seqOf src s.host.seqs) < dist ack ∨ s.host.pool.any fun n => covered n && n.sentAt.isNone then
      s.inc Obj.noticeAckErrors
    else moveFill 5 (s.onHost fun h => { h with pool := h.pool.filter fun n => !covered n })

/-- A NOTICE_ACK: each of its entries; one whose body is malformed counts once. -/
def ackNotices (p : Nat) (r : Req) (s : State) : State :=
  match r with
  | .noticeAck es => each es (ackEntry p) s
  | _ => s.inc Obj.noticeAckErrors

/-! The frame. -/

/-- One element of a frame. -/
def takeElem (p frame : Nat) (closing : Bool) (i : Nat) (e : Elem) (s : State) : State :=
  if e.op = 0x90 then (if closing then s else ackNotices p e.req s)
  else
    match s.admitRefusal p closing e with
    | 0 =>
      match checkSafety p e s with
      | (0, s) => admitElem p frame i e s
      | (st, t) => refuseElem p frame i e st (if st = 0x0903 then toLe 2 (s.safetyExpected p) else []) t
    | st => refuseElem p frame i e st [] s

/-- What precedes an element in the CRC of its safety code (R245). -/
def State.safetyPrefix (s : State) (p : Nat) : List Byte := toLe 8 (s.get Obj.serialNumber) ++ [byte (roleOf p)]

/-- Refusal entries of a place in use (R273). -/
def State.refusals (s : State) (p : Nat) : Nat := (s.host.done.filter fun d => d.place == p && d.flight.isNone).length

/-- A frame's elements are admitted one by one (R235); its FrameCount may have been the session's last (R209). -/
def admitFrame (f : RxFrame) (s : State) : State :=
  match (s.place f.place).session with
  | none => s
  | some se =>
    if se.no ≠ f.sess then s
    else
      let es := ((splitElems 64 f.body).getD []).map (readElem (s.safetyPrefix f.place))
      let s := each es.zipIdx (fun x => takeElem f.place f.frameCount se.closing x.2 x.1) s
      settleLanes (if f.frameCount = 0xFFFFFFFF then endSession f.place 6 s else s)

/-- FRAME_ADMISSION (R235, R273): the first frame of NI ingress, or of link ingress, leaves it. -/
def execFrameAdmission (link : Bool) (s : State) : Host.Outcome State Fault Refusal :=
  s.answerServed fun s =>
    match (if link then s.host.linkIngress else s.host.niIngress) with
    | [] => s
    | f :: fs =>
      if 64 < s.refusals f.place + f.count then s
      else if link then admitFrame f (moveFill 9 (s.onHost fun h => { h with linkIngress := fs }))
      else admitFrame f (moveFill 8 (s.onHost fun h => { h with niIngress := fs }))

/-- BURST_ABORT (R244): an admitted BURST_ABORT of master `m` with this tag, from element `elem` of frame `frame`. It has
acted at its admission; the row names an element that reaches admission by itself. -/
def execBurstAbort (m : Fin 2) (tag frame elem : Nat) (s : State) : Host.Outcome State Fault Refusal :=
  s.answerServed fun s =>
    match s.bound m with
    | none => s
    | some se => settleLanes (takeElem m frame se.closing elem ⟨0x23, tag % 512, .burstAbort, [], none⟩ s)

/-- NOTICE_ACK (R249): the entries that a session sends, as they act at admission. -/
def execNoticeAck (p : Fin 8) (entries : List (Nat × Nat × Nat)) (s : State) : Host.Outcome State Fault Refusal :=
  s.answerServed fun s =>
    match s.bound p with
    | none => s
    | some se => if se.closing then s else
        ackNotices p (if entries.length ≤ 32 then .noticeAck entries else .badLength) s

end Sys2Proof.Machine
end

