-- ==== Sys2Proof/Machine/Diagnostics.lean ====
section
/-!
DEFINITION. Machine/Diagnostics.lean: scrubbing and the temperature of the logic die (R383, R384, R386,
21_diagnostics_safety.md).
Readings and choices in the log: DEDUCED 63, 103, 104.
-/
namespace Sys2Proof.Machine
open Sys2Proof

/-- SRAM_SCRUB_ROUND (R383): a round ends; `romOk` is the result of the mask-ROM CRC. -/
def execSramScrubRound (romOk : Bool) (s : State) : Host.Outcome State Fault Refusal :=
  s.answerLive fun s =>
    let s := s.inc Obj.sramScrubRounds
    if romOk then s
    else
      let s := s.setBit Obj.periodicFault 0 true
      memoryFault Obj.periodicFault (s.get Obj.periodicFault) 0 0 0 s

/-- Records of a list, the newest first, whose bytes end at `head` of a ring of `cap` bytes: the one that covers offset
`o`. -/
def recordAt (o cap : Nat) : Nat → List LogRec → Option LogRec
  | _, [] => none
  | head, r :: rs =>
    let start := (head + cap - r.length % cap) % cap
    if (o + cap - start) % cap < r.length then some r else recordAt o cap start rs

/-- The committed record that covers a Saltpan address. -/
def Saltpan.recordOf (p : Saltpan) (a : Nat) : Option LogRec :=
  if 0x075000 ≤ a ∧ a < 0x07D000 then
    recordAt (a - 0x075000) 32768 (bytesOf p.pinned) p.pinned.reverse
  else if 0x07D000 ≤ a ∧ a < 0x3FF000 then
    let l := if a < 0x100000 then 2 else if a < 0x200000 then 1 else 0
    recordAt (a - ringBase l) (ringCapacity l) (p.heads.getD l 0) (p.ringOf l).reverse
  else none

/-- The committed state refers to the word: the copy of the stored objects in force, a record of a log, or any other
area. -/
def Saltpan.committed (p : Saltpan) (a : Nat) : Bool :=
  if 0x002000 ≤ a ∧ a < 0x012000 then decide (0x00A000 ≤ a) == p.inForceB
  else if 0x075000 ≤ a ∧ a < 0x3FF000 then (p.recordOf a).isSome
  else decide (a < 0x3FF000)

/-- An uncorrectable word: counted, shown, recorded, and kept until its area is healed. The record it lies in reads with
BAD. -/
def mramBad (a u : Nat) (s : State) : State :=
  let hit := s.salt.recordOf a
  let lies (r : LogRec) : Bool := hit.any fun h => h.log == r.log && h.seqNo == r.seqNo
  let mark (r : LogRec) : LogRec := if lies r then { r with bad := true } else r
  let s := s.onSalt fun p => { p with cycleLog := p.cycleLog.map mark, eventLog := p.eventLog.map mark
                                      faultLog := p.faultLog.map mark, pinned := p.pinned.map mark }
  let ws := if s.diag.badWords.contains (a, u) then s.diag.badWords else s.diag.badWords ++ [(a, u)]
  let s := { s with diag := { s.diag with badWords := ws } }
  let s := (s.inc Obj.mramUncorr).setBit Obj.periodicFault 1 true
  memoryFault Obj.periodicFault (s.get Obj.periodicFault) a 0 0 s

/-- MRAM_SCRUB (R384): an error that the scrubber finds at a Saltpan address, in a table slot or image slot, single or
double; and whether its round ends. -/
def execMramScrub (err : Option (Nat × Nat × Bool)) (last : Bool) (s : State) : Host.Outcome State Fault Refusal :=
  s.answerLive fun s =>
    let s := match err with
      | none => s
      | some (a, u, double) =>
        if !s.salt.committed a then s
        else if double then mramBad a u s
        else s.inc Obj.mramCorrected
    if last then s.inc Obj.mramScrubRounds else s

/-- DIE_TEMP_SAMPLE (R386): the junction in 0.1 °C. -/
def execDieTempSample (t : Int) (s : State) : Host.Outcome State Fault Refusal :=
  s.answerLive fun s =>
    let warn := s.geti Obj.tempWarn
    let s := s.puti Obj.dieTemp t
    let hotSince := if 1250 < t then some (s.diag.overSince.getD s.now) else none
    let s := { s with diag := { s.diag with overSince := hotSince } }
    if s.bit Obj.periodicFault 2 then
      (if t ≤ warn - 50 then s.setBit Obj.periodicFault 2 false else s)
    else if warn < t then
      let s := s.setBit Obj.periodicFault 2 true
      supplyFault Obj.dieTemp 0 (s.get Obj.dieTemp) 0 s
    else s

/-- OVER_TEMP_SHUTDOWN (R386): above the junction limit for 10 s. -/
def execOverTempShutdown (s : State) : Host.Outcome State Fault Refusal :=
  s.answerLive fun s => if heldFor s.now (sec 10) s.diag.overSince then offRequest 5 false s else s

end Sys2Proof.Machine
end

