-- ==== Sys2Proof/Machine/Lanes.lean ====
section
/-!
DEFINITION. Machine/Lanes.lean: what an execution lane does with the transaction that it starts (R176, R222 to R225,
R234, R236, R240 to R243, R247). Each row of the table is one kind of work.
Readings and choices in the log: DESIGN CHOICE 3, 122; DEDUCED 48, 108, 115, 116, 127, 132, 133.
-/
namespace Sys2Proof.Machine
open Sys2Proof Sys2Proof.Config

/-- The kinds of work of a lane, one for each row. -/
inductive Work where
  | keep | close | read | windowRead | write | readMulti | writeMulti
  | burstBegin | burstSeg | burstEnd
  | semaTake | semaGive | semaQuery | subscribe | unsubscribe | store
  | slotReset | keyWrite | maintainerWrite | sideCommand | axisCommand | flushNow
  | powerOff | powerStandby | powerStay | bindingWrite | loadFactoryImage
  | captureSeed | resetToSeed | seedWrite | feedbackConfigWrite
  | latchArm | latchSourceWrite | compareArm | inputFilterWrite | diagStickyWrite
  | channelModeWrite | gangModeWrite | testSourceWrite | outputDemandWrite | outputReset
  | porSeenClear | clearLog | restoreDefaults | flushLearned | blockedPortWrite
  | insertGrant | bypassModeWrite | portReset
  | functionEnable | functionDisable | functionReset | functionMaskWrite | boundSlotWrite
  | weirStatusWrite | chemistryWrite | deepGrantWrite | nextServiceWrite | calSet
  | deviceReset | outputLevelWrite | setBits | clearBits | patternUnitWrite
  deriving DecidableEq, Repr

/-- The row of a WRITE of an object: the first index of its range, its subindex, the value. -/
def writeWork (g sub v : Nat) : Work :=
  match g, sub with
  | 0x1003, 0x01 => .restoreDefaults
  | 0x1101, 0x03 => .maintainerWrite
  | 0x1101, 0x08 => .slotReset
  | 0x1110, 0x01 => .keyWrite
  | 0x1110, 0x02 => .keyWrite
  | 0x1110, 0x03 => .keyWrite
  | 0x1200, 0x05 => .blockedPortWrite
  | 0x1200, 0x09 => .flushLearned
  | 0x1201, 0x06 => .portReset
  | 0x1220, 0x01 => .bypassModeWrite
  | 0x1220, 0x05 => .insertGrant
  | 0x1300, 0x06 => .weirStatusWrite
  | 0x1410, 0x01 => .chemistryWrite
  | 0x1410, 0x02 => .chemistryWrite
  | 0x1420, 0x03 => if v = 1 then .powerOff else if v = 2 then .powerStandby else .powerStay
  | 0x1424, 0x01 => .deepGrantWrite
  | 0x1424, 0x02 => .nextServiceWrite
  | 0x1490, 0x02 => .porSeenClear
  | 0x1502, 0x04 => .calSet
  | 0x1600, 0x03 => .deviceReset
  | 0x1700, 0x01 => .boundSlotWrite
  | 0x1700, 0x02 => .functionMaskWrite
  | 0x1700, 0x03 => .functionMaskWrite
  | 0x1700, 0x04 => .functionMaskWrite
  | 0x1700, 0x05 => .functionMaskWrite
  | 0x1700, 0x09 =>
    if v = 1 then .functionEnable else if v = 2 then .functionDisable else if v = 3 then .functionReset else .write
  | 0x1806, 0x01 => .outputLevelWrite
  | 0x1806, 0x02 => .setBits
  | 0x1806, 0x03 => .clearBits
  | 0x1820, _ => .patternUnitWrite
  | 0x2001, 0x05 => .loadFactoryImage
  | 0x2104, 0x01 => .bindingWrite
  | 0x2220, 0x01 => .clearLog
  | 0x3000, 0x20 => .bindingWrite
  | 0x3000, 0x21 => .bindingWrite
  | 0x3000, 0x22 => .bindingWrite
  | 0x3000, 0x23 => .bindingWrite
  | 0x3200, 0x01 => .feedbackConfigWrite
  | 0x3200, 0x02 => .feedbackConfigWrite
  | 0x3200, 0x0F => .feedbackConfigWrite
  | 0x3400, 0x08 => .seedWrite
  | 0x3400, 0x09 => .seedWrite
  | 0x3400, 0x0B => if v = 1 then .captureSeed else if v = 2 then .resetToSeed else .write
  | 0x3500, 0x01 => .latchSourceWrite
  | 0x3500, 0x04 => .latchSourceWrite
  | 0x3500, 0x07 => .latchArm
  | 0x3500, 0x16 => .compareArm
  | 0x6000, 0x01 => if v = 5 ∨ v = 6 then .gangModeWrite else .channelModeWrite
  | 0x6000, 0x02 => .inputFilterWrite
  | 0x6000, 0x04 => .testSourceWrite
  | 0x6100, 0x06 => .outputDemandWrite
  | 0x6100, 0x0A => .outputReset
  | 0x6200, 0x02 => .diagStickyWrite
  | _, _ => .write

/-- The row of a CMD to an object; one to an object that takes no CMD is refused by the row SIDE_COMMAND. -/
def cmdWork (g sub : Nat) : Work :=
  match g, sub with
  | 0x3100, 0x10 => .axisCommand
  | 0x2200, 0x03 => .flushNow
  | _, _ => .sideCommand

/-- The row of an Op whose body does not spell an object. -/
def opWork (op : Nat) : Work :=
  match op with
  | 0x01 => .keep
  | 0x02 => .close
  | 0x10 => .read
  | 0x12 => .readMulti
  | 0x13 => .writeMulti
  | 0x20 => .burstBegin
  | 0x21 => .burstSeg
  | 0x22 => .burstEnd
  | 0x30 => .semaTake
  | 0x31 => .semaGive
  | 0x32 => .semaQuery
  | 0x40 => .sideCommand
  | 0x50 => .subscribe
  | 0x51 => .unsubscribe
  | 0x60 => .store
  | _ => .write

/-- The row of a transaction. -/
def Flight.work (f : Flight) : Work :=
  match f.req with
  | .read idx sub _ _ => if 256 * idx + sub = Obj.window then .windowRead else .read
  | .write idx sub data =>
    match lookup (256 * idx + sub) with
    | some (g, _, d) => writeWork g.lo d.sub (leNat data)
    | none => .write
  | .cmd idx sub _ =>
    match lookup (256 * idx + sub) with
    | some (g, _, d) => cmdWork g.lo d.sub
    | none => .sideCommand
  | _ => opWork f.op

/-! The rows that no object's write is. -/

/-- Who asks in a transaction; `single` says that it is a WRITE or CMD of its own. -/
def Flight.writer (f : Flight) (single : Bool) : Writer :=
  { place := f.place, link := f.link, safe := f.safety.isSome, sk := f.sk, id := f.id, single := single }

/-- KEEP: the free credits (table "Operations"). -/
def keepData (s : State) (p : Nat) : List Byte :=
  toLe 2 ((if p < 2 then 256 else 16) - s.inFlightAt p) ++ toLe 2 (512 - s.inFlightMasters)

/-- A write or CMD of an object that a transaction asks for. -/
def runWrite (o : OpKind) (f : Flight) (k : Nat) (data : List Byte) (s : State) : State :=
  match writeObject (f.writer true) o k data s with
  | (some st, t) => complete f.id st t
  | (none, t) => t

/-- READ (R178, R240). -/
def runRead (f : Flight) (k offset maxLen : Nat) (s : State) : State :=
  let (st, data, t) := readObject (f.writer false) k offset maxLen s
  completeWith f.id st 0 data t

/-- READ_MULTI (R240). -/
def runReadMulti (f : Flight) (es : List (Nat × Nat)) (s : State) : State :=
  completeWith f.id 0 0 (es.flatMap fun e => s.readEntry (f.writer false) (256 * e.1 + e.2)) s

/-- The entries of a WRITE_MULTI one after another: their statuses. -/
def writeEach (w : Writer) : List (Nat × Nat × List Byte) → State → List Nat × State
  | [], s => ([], s)
  | e :: es, s =>
    let (st, t) := writeObject w .multiWrite (256 * e.1 + e.2.1) e.2.2 s
    let (sts, u) := writeEach w es t
    (st.getD 0 :: sts, u)

/-- WRITE_MULTI (R240): a failed entry does not stop those after it. -/
def runWriteMulti (f : Flight) (es : List (Nat × Nat × List Byte)) (s : State) : State :=
  let (sts, t) := writeEach (f.writer false) es s
  completeWith f.id 0 (sts.filter (· != 0)).length (sts.flatMap (toLe 2)) t

/-! Bursts (R242, R243). -/

def onBurst (m : Nat) (g : Burst → Burst) (s : State) : State :=
  moveFill (13 + m) (s.onHost fun h => { h with bursts := h.bursts.modify m g })

/-- A refused segment poisons its open burst. -/
def poisonWith (m st segNo : Nat) (s : State) : State :=
  onBurst m (fun b => if b.isOpen then { b with poison := some (b.poison.getD (st, segNo)) } else b) s

/-- BURST_BEGIN. -/
def runBegin (f : Flight) (s : State) : State :=
  if 2 ≤ f.place then complete f.id 0x0104 s
  else if (s.burst f.place).isOpen then complete f.id 0x0602 s
  else complete f.id 0 (onBurst f.place (fun _ => ⟨true, f.poison, [], s.now⟩) s)

/-- The refusal of a segment: its status and Detail; 0 where it is staged (R242). -/
def segStage (b : Burst) (segNo : Nat) (k len : Nat) : Nat × Nat :=
  match b.poison with
  | some p => p
  | none =>
    let st := if segNo ≠ b.segs.length then 0x0603
      else if 64 ≤ b.segs.length ∨ 16384 < b.bytes + len then 0x0604
      else if isCmdObj k then 0x0607
      else 0
    (st, if st = 0 then 0 else segNo)

/-- BURST_SEG. -/
def runSeg (f : Flight) (s : State) : State :=
  let b := s.burst f.place
  if 2 ≤ f.place then complete f.id 0x0104 s
  else if !b.isOpen then complete f.id 0x0601 s
  else
    match f.req with
    | .burstSeg segNo idx sub offset data =>
      match segStage b segNo (256 * idx + sub) data.length with
      | (0, _) =>
        let x : Segment := { segNo := segNo, idx := idx, sub := sub, offset := offset, data := data, raw := f.raw
                             safety := f.safety.isSome }
        complete f.id 0 (onBurst f.place (fun b => { b with segs := b.segs ++ [x], lastAt := s.now }) s)
      | (st, n) => completeWith f.id st n [] (poisonWith f.place st n s)
    | _ =>
      let n := u8Of f.raw 0
      match b.poison with
      | some p => completeWith f.id p.1 p.2 [] s
      | none => completeWith f.id 0x0203 n [] (poisonWith f.place 0x0203 n s)

/-- The refusal of a BURST_END before its segments are judged: status and Detail (R242, R243, R245). -/
def endRefusal (f : Flight) (b : Burst) : Nat × Nat :=
  match b.poison, f.req with
  | some p, _ => p
  | none, .burstEnd count crc =>
    (if count ≠ b.segs.length then 0x0603
     else if crc ≠ crc32c (b.segs.flatMap (·.raw)) then 0x0605
     else if f.safety.isNone && b.segs.any (fun x => needsSafety .burst x.key) then 0x0901
     else 0, 0)
  | none, _ => (0x0203, 0)

/-- BURST_END: the burst closes in every case. -/
def runEnd (f : Flight) (s : State) : State :=
  let b := s.burst f.place
  if 2 ≤ f.place then complete f.id 0x0104 s
  else if !b.isOpen then complete f.id 0x0601 s
  else
    let s := onBurst f.place (fun _ => Burst.closed) s
    match endRefusal f b with
    | (0, _) =>
      match runBurst (f.writer false) b.segs s with
      | (some (st, n), t) => completeWith f.id st n [] t
      | (none, t) => t
    | (st, n) => completeWith f.id st n [] (if st = 0x0901 ∧ b.poison.isNone then s.inc Obj.safetyFailCount else s)

/-! Semaphores (R222 to R225). -/

/-- The refusal that the three operations share; 0 where there is none. -/
def semaRefusal (p n : Nat) : Nat := if 2 ≤ p then 0x0104 else if 63 < n then 0x0204 else 0

/-- The refusal of a SEMA_TAKE by its semaphore and WaitMs. -/
def State.takeRefusal (s : State) (p n wait : Nat) : Nat :=
  firstOf [semaRefusal p n,
    if 4 ≤ n ∧ n ≤ 7 then 0x0205 else 0,
    if 10000 < wait then 0x0204 else 0,
    if 8 ≤ n ∧ n ≤ 15 ∧ s.get (Obj.boundSlot (n - 8)) ≠ p then 0x0404 else 0]

/-- SEMA_TAKE (R222, R223). A second waiting take joins the first. -/
def runTake (f : Flight) (n wait : Nat) (s : State) : State :=
  match s.takeRefusal f.place n wait with
  | 0 =>
    if s.sema n = .free then complete f.id 0 (setSema n (.held f.place) s)
    else if s.holds f.place n then complete f.id 0 s
    else if wait = 0 then complete f.id 0x0402 s
    else
      let till := ((s.host.waits.find? fun w => w.sema == n && w.place == f.place).map (·.until_)).getD (s.now + ms wait)
      holdFlight f.id (s.onHost fun h => { h with waits := h.waits ++ [⟨n, f.place, f.id, till⟩] })
  | st => complete f.id st s

/-- SEMA_GIVE (R223). -/
def runGive (f : Flight) (n : Nat) (s : State) : State :=
  match semaRefusal f.place n with
  | 0 => if s.holds f.place n then complete f.id 0 (releaseSema n s) else complete f.id 0x0403 s
  | st => complete f.id st s

/-- Milliseconds left of the hold-off of a semaphore. -/
def State.holdOffMs (s : State) (n : Nat) : Nat :=
  match s.sema n with
  | .holdoff m => ((s.place m).holdSince + ms (s.get Obj.semaHoldOff) - s.now) / ms 1
  | _ => 0

/-- SEMA_QUERY (R223, table "Operations"). -/
def runQuery (f : Flight) (n : Nat) (s : State) : State :=
  match semaRefusal f.place n with
  | 0 => completeWith f.id 0 0 ([byte (s.sema n).code, byte (s.waiterBits n)] ++ toLe 2 (s.holdOffMs n)) s
  | st => complete f.id st s

/-! Subscriptions (R247, R253). -/

/-- The first SubscriptionId from `k` on that no subscription of a session has. -/
def freeSubId (subs : List Subscription) (k : Nat) : Nat :=
  (((List.range 9).map fun i => (k + i) % 256).find? fun i => !subs.any fun b => b.id == i).getD (k % 256)

/-- SUBSCRIBE. -/
def runSubscribe (f : Flight) (fn flags mask : Nat) (s : State) : State :=
  match (s.place f.place).session with
  | none => complete f.id 0 s
  | some se =>
    if se.no ≠ f.sess then complete f.id 0 s
    else if 7 < fn ∨ !s.variant.hasFn fn then complete f.id 0x0501 s
    else if !s.flag (Obj.streamOpen fn) && s.get (Obj.boundSlot fn) != f.place then complete f.id 0x0103 s
    else if 8 ≤ se.subs.length then complete f.id 0x0804 s
    else
      let (k, s) := s.draw
      let id := freeSubId se.subs (Config.subscriptionId k)
      completeWith f.id 0 0 [byte id, 0, 0, 0] (s.onSession f.place fun x =>
        { x with subs := x.subs ++ [⟨id, fn, mask, flags.testBit 0, flags.testBit 1⟩] })

/-- UNSUBSCRIBE: its notices are discarded with it (R249). -/
def runUnsubscribe (f : Flight) (id : Nat) (s : State) : State :=
  match (s.place f.place).session with
  | none => complete f.id 0 s
  | some se =>
    if se.no ≠ f.sess then complete f.id 0 s
    else if se.subs.any fun b => b.id == id then
      let s := s.onSession f.place fun x => { x with subs := x.subs.filter fun b => b.id != id }
      complete f.id 0 (moveFill 5 (s.onHost fun h =>
        { h with pool := h.pool.filter fun n => !(n.place == f.place && n.subId == id) }))
    else complete f.id 0x0204 s

/-! STORE (R174 to R176, R274). -/

/-- The refusal of a STORE of a scope. -/
def State.storeRefusal (s : State) (p scope : Nat) : Nat :=
  let dev := decide (scope = 0 ∨ scope = 0xFF)
  if 2 ≤ p then 0x0104
  else if 7 < scope ∧ scope ≠ 0xFF then 0x0204
  else if !dev && !s.variant.hasFn scope then 0x0502
  else if s.get (Obj.boundSlot (if dev then 0 else scope)) ≠ p then 0x0103
  else if !s.holds p (if dev then 0 else 8 + scope) then 0x0401
  else if !s.saltOpen then 0x0340
  else 0

/-- STORE: it waits for its commit without a lane. -/
def runStore (f : Flight) (scope : Nat) (s : State) : State :=
  match s.storeRefusal f.place scope with
  | 0 => addJob (s.storeJob scope) [f.id] (holdFlight f.id s)
  | st => complete f.id st s

/-! The start of a transaction (R245, R260). -/

/-- Steps 3 and 4 at the start: a safety code that has aged, a multi operation of a draining function; 0 where it runs. -/
def State.startRefusal (s : State) (f : Flight) : Nat :=
  if (f.safety.map s.aged_).getD false then 0x0904
  else
    match f.req with
    | .readMulti _ => if s.drains f.req.keys then 0x0701 else 0
    | .writeMulti _ => if s.drains f.req.keys then 0x0701 else 0
    | .burstEnd _ _ => if f.place < 2 ∧ s.drains ((s.burst f.place).segs.map Segment.key) then 0x0701 else 0
    | _ => 0

/-- A transaction refused at its start. -/
def refuseStart (f : Flight) (st : Nat) (s : State) : State :=
  let s := if st = 0x0904 then (s.onFlight f.id fun x => { x with safety := none }).inc Obj.safetyFailCount else s
  let n := u8Of f.raw 0
  if 2 ≤ f.place then complete f.id st s
  else if f.op = 0x21 then completeWith f.id st n [] (poisonWith f.place st n s)
  else if f.op = 0x22 then complete f.id st (onBurst f.place (fun _ => Burst.closed) s)
  else complete f.id st s

/-- A transaction takes its effect. -/
def runReq (f : Flight) (s : State) : State :=
  match f.op, f.req with
  | 0x20, _ => runBegin f s
  | 0x21, _ => runSeg f s
  | 0x22, _ => runEnd f s
  | _, .keep => completeWith f.id 0 0 (keepData s f.place) s
  | _, .close => settleClose f.place (holdFlight f.id s)
  | _, .read idx sub offset maxLen => runRead f (256 * idx + sub) offset maxLen s
  | _, .write idx sub data => runWrite .write f (256 * idx + sub) data s
  | _, .cmd idx sub data => runWrite .cmd f (256 * idx + sub) data s
  | _, .readMulti es => runReadMulti f es s
  | _, .writeMulti es => runWriteMulti f es s
  | _, .semaTake n wait => runTake f n wait s
  | _, .semaGive n => runGive f n s
  | _, .semaQuery n => runQuery f n s
  | _, .subscribe fn flags mask => runSubscribe f fn flags mask s
  | _, .unsubscribe id => runUnsubscribe f id s
  | _, .store scope => runStore f scope s
  | _, .badLength => complete f.id 0x0203 s
  | _, .badCount => complete f.id 0x0204 s
  | _, _ => complete f.id 0x0207 s

/-- A lane starts its transaction. -/
def startWork (f : Flight) (s : State) : State :=
  match s.startRefusal f with
  | 0 => runReq f s
  | st => refuseStart f st s

/-- The transaction that lane `l` has started. -/
def State.inLaneAt (s : State) (l : Nat) : Option Flight := s.host.flights.find? fun f => decide (f.phase = .lane l)

/-- The row `w` at lane `l`: it acts where that lane's transaction is of this row. A later one of the same session may
close behind it (R218). -/
def runLane (w : Work) (l : Nat) (s : State) : State :=
  match s.inLaneAt l with
  | none => s
  | some f => if f.work = w then startWork f s else s

/-! The rows. -/

/-- KEEP (R234) in lane `l`. -/
def execKeep (l : Fin 32) (s : State) : Host.Outcome State Fault Refusal :=
  s.answerLive (runLane .keep l)

/-- CLOSE (R218) in lane `l`. -/
def execClose (l : Fin 32) (s : State) : Host.Outcome State Fault Refusal :=
  s.answerLive (runLane .close l)

/-- READ (R178, R240) in lane `l`. -/
def execRead (l : Fin 32) (s : State) : Host.Outcome State Fault Refusal :=
  s.answerLive (runLane .read l)

/-- WINDOW_READ (R159) in lane `l`. -/
def execWindowRead (l : Fin 32) (s : State) : Host.Outcome State Fault Refusal :=
  s.answerLive (runLane .windowRead l)

/-- WRITE (R173) in lane `l`. -/
def execWrite (l : Fin 32) (s : State) : Host.Outcome State Fault Refusal :=
  s.answerLive (runLane .write l)

/-- READ_MULTI (R240) in lane `l`. -/
def execReadMulti (l : Fin 32) (s : State) : Host.Outcome State Fault Refusal :=
  s.answerLive (runLane .readMulti l)

/-- WRITE_MULTI (R240) in lane `l`. -/
def execWriteMulti (l : Fin 32) (s : State) : Host.Outcome State Fault Refusal :=
  s.answerLive (runLane .writeMulti l)

/-- BURST_BEGIN (R242) in lane `l`. -/
def execBurstBegin (l : Fin 32) (s : State) : Host.Outcome State Fault Refusal :=
  s.answerLive (runLane .burstBegin l)

/-- BURST_SEG (R242) in lane `l`. -/
def execBurstSeg (l : Fin 32) (s : State) : Host.Outcome State Fault Refusal :=
  s.answerLive (runLane .burstSeg l)

/-- BURST_END (R243) in lane `l`. -/
def execBurstEnd (l : Fin 32) (s : State) : Host.Outcome State Fault Refusal :=
  s.answerLive (runLane .burstEnd l)

/-- SEMA_TAKE (R223) in lane `l`. -/
def execSemaTake (l : Fin 32) (s : State) : Host.Outcome State Fault Refusal :=
  s.answerLive (runLane .semaTake l)

/-- SEMA_GIVE (R223) in lane `l`. -/
def execSemaGive (l : Fin 32) (s : State) : Host.Outcome State Fault Refusal :=
  s.answerLive (runLane .semaGive l)

/-- SEMA_QUERY (R223) in lane `l`. -/
def execSemaQuery (l : Fin 32) (s : State) : Host.Outcome State Fault Refusal :=
  s.answerLive (runLane .semaQuery l)

/-- SUBSCRIBE (R247) in lane `l`. -/
def execSubscribe (l : Fin 32) (s : State) : Host.Outcome State Fault Refusal :=
  s.answerLive (runLane .subscribe l)

/-- UNSUBSCRIBE (R247) in lane `l`. -/
def execUnsubscribe (l : Fin 32) (s : State) : Host.Outcome State Fault Refusal :=
  s.answerLive (runLane .unsubscribe l)

/-- STORE (R176) in lane `l`. -/
def execStore (l : Fin 32) (s : State) : Host.Outcome State Fault Refusal :=
  s.answerLive (runLane .store l)

/-- SLOT_RESET (R217) in lane `l`. -/
def execSlotReset (l : Fin 32) (s : State) : Host.Outcome State Fault Refusal :=
  s.answerLive (runLane .slotReset l)

/-- KEY_WRITE (R212) in lane `l`. -/
def execKeyWrite (l : Fin 32) (s : State) : Host.Outcome State Fault Refusal :=
  s.answerLive (runLane .keyWrite l)

/-- MAINTAINER_WRITE (R215) in lane `l`. -/
def execMaintainerWrite (l : Fin 32) (s : State) : Host.Outcome State Fault Refusal :=
  s.answerLive (runLane .maintainerWrite l)

/-- SIDE_COMMAND (R56) in lane `l`. -/
def execSideCommand (l : Fin 32) (s : State) : Host.Outcome State Fault Refusal :=
  s.answerLive (runLane .sideCommand l)

/-- AXIS_COMMAND (R56) in lane `l`. -/
def execAxisCommand (l : Fin 32) (s : State) : Host.Outcome State Fault Refusal :=
  s.answerLive (runLane .axisCommand l)

/-- FLUSH_NOW (R157) in lane `l`. -/
def execFlushNow (l : Fin 32) (s : State) : Host.Outcome State Fault Refusal :=
  s.answerLive (runLane .flushNow l)

/-- POWER_COMMAND_OFF (R315) in lane `l`. -/
def execPowerCommandOff (l : Fin 32) (s : State) : Host.Outcome State Fault Refusal :=
  s.answerLive (runLane .powerOff l)

/-- POWER_COMMAND_STANDBY (R315) in lane `l`. -/
def execPowerCommandStandby (l : Fin 32) (s : State) : Host.Outcome State Fault Refusal :=
  s.answerLive (runLane .powerStandby l)

/-- POWER_COMMAND_STAY (R315) in lane `l`. -/
def execPowerCommandStay (l : Fin 32) (s : State) : Host.Outcome State Fault Refusal :=
  s.answerLive (runLane .powerStay l)

/-- BINDING_WRITE (R45) in lane `l`. -/
def execBindingWrite (l : Fin 32) (s : State) : Host.Outcome State Fault Refusal :=
  s.answerLive (runLane .bindingWrite l)

/-- LOAD_FACTORY_IMAGE (R42) in lane `l`. -/
def execLoadFactoryImage (l : Fin 32) (s : State) : Host.Outcome State Fault Refusal :=
  s.answerLive (runLane .loadFactoryImage l)

/-- CAPTURE_SEED (R85) in lane `l`. -/
def execCaptureSeed (l : Fin 32) (s : State) : Host.Outcome State Fault Refusal :=
  s.answerLive (runLane .captureSeed l)

/-- RESET_TO_SEED (R85) in lane `l`. -/
def execResetToSeed (l : Fin 32) (s : State) : Host.Outcome State Fault Refusal :=
  s.answerLive (runLane .resetToSeed l)

/-- SEED_WRITE (R85) in lane `l`. -/
def execSeedWrite (l : Fin 32) (s : State) : Host.Outcome State Fault Refusal :=
  s.answerLive (runLane .seedWrite l)

/-- FEEDBACK_CONFIG_WRITE (R89) in lane `l`. -/
def execFeedbackConfigWrite (l : Fin 32) (s : State) : Host.Outcome State Fault Refusal :=
  s.answerLive (runLane .feedbackConfigWrite l)

/-- LATCH_ARM (R104) in lane `l`. -/
def execLatchArm (l : Fin 32) (s : State) : Host.Outcome State Fault Refusal :=
  s.answerLive (runLane .latchArm l)

/-- LATCH_SOURCE_WRITE (R104) in lane `l`. -/
def execLatchSourceWrite (l : Fin 32) (s : State) : Host.Outcome State Fault Refusal :=
  s.answerLive (runLane .latchSourceWrite l)

/-- COMPARE_ARM (R105) in lane `l`. -/
def execCompareArm (l : Fin 32) (s : State) : Host.Outcome State Fault Refusal :=
  s.answerLive (runLane .compareArm l)

/-- INPUT_FILTER_WRITE (R108) in lane `l`. -/
def execInputFilterWrite (l : Fin 32) (s : State) : Host.Outcome State Fault Refusal :=
  s.answerLive (runLane .inputFilterWrite l)

/-- DIAG_STICKY_WRITE (R119) in lane `l`. -/
def execDiagStickyWrite (l : Fin 32) (s : State) : Host.Outcome State Fault Refusal :=
  s.answerLive (runLane .diagStickyWrite l)

/-- CHANNEL_MODE_WRITE (R120) in lane `l`. -/
def execChannelModeWrite (l : Fin 32) (s : State) : Host.Outcome State Fault Refusal :=
  s.answerLive (runLane .channelModeWrite l)

/-- GANG_MODE_WRITE (R126) in lane `l`. -/
def execGangModeWrite (l : Fin 32) (s : State) : Host.Outcome State Fault Refusal :=
  s.answerLive (runLane .gangModeWrite l)

/-- TEST_SOURCE_WRITE (R116) in lane `l`. -/
def execTestSourceWrite (l : Fin 32) (s : State) : Host.Outcome State Fault Refusal :=
  s.answerLive (runLane .testSourceWrite l)

/-- OUTPUT_DEMAND_WRITE (R123) in lane `l`. -/
def execOutputDemandWrite (l : Fin 32) (s : State) : Host.Outcome State Fault Refusal :=
  s.answerLive (runLane .outputDemandWrite l)

/-- OUTPUT_RESET (R131) in lane `l`. -/
def execOutputReset (l : Fin 32) (s : State) : Host.Outcome State Fault Refusal :=
  s.answerLive (runLane .outputReset l)

/-- POR_SEEN_CLEAR (R138) in lane `l`. -/
def execPorSeenClear (l : Fin 32) (s : State) : Host.Outcome State Fault Refusal :=
  s.answerLive (runLane .porSeenClear l)

/-- CLEAR_LOG (R163) in lane `l`. -/
def execClearLog (l : Fin 32) (s : State) : Host.Outcome State Fault Refusal :=
  s.answerLive (runLane .clearLog l)

/-- RESTORE_DEFAULTS (R177) in lane `l`. -/
def execRestoreDefaults (l : Fin 32) (s : State) : Host.Outcome State Fault Refusal :=
  s.answerLive (runLane .restoreDefaults l)

/-- FLUSH_LEARNED (R186) in lane `l`. -/
def execFlushLearned (l : Fin 32) (s : State) : Host.Outcome State Fault Refusal :=
  s.answerLive (runLane .flushLearned l)

/-- BLOCKED_PORT_WRITE (R193) in lane `l`. -/
def execBlockedPortWrite (l : Fin 32) (s : State) : Host.Outcome State Fault Refusal :=
  s.answerLive (runLane .blockedPortWrite l)

/-- INSERT_GRANT (R197) in lane `l`. -/
def execInsertGrant (l : Fin 32) (s : State) : Host.Outcome State Fault Refusal :=
  s.answerLive (runLane .insertGrant l)

/-- BYPASS_MODE_WRITE (R199) in lane `l`. -/
def execBypassModeWrite (l : Fin 32) (s : State) : Host.Outcome State Fault Refusal :=
  s.answerLive (runLane .bypassModeWrite l)

/-- PORT_RESET (R200) in lane `l`. -/
def execPortReset (l : Fin 32) (s : State) : Host.Outcome State Fault Refusal :=
  s.answerLive (runLane .portReset l)

/-- FUNCTION_ENABLE (R255) in lane `l`. -/
def execFunctionEnable (l : Fin 32) (s : State) : Host.Outcome State Fault Refusal :=
  s.answerLive (runLane .functionEnable l)

/-- FUNCTION_DISABLE (R258) in lane `l`. -/
def execFunctionDisable (l : Fin 32) (s : State) : Host.Outcome State Fault Refusal :=
  s.answerLive (runLane .functionDisable l)

/-- FUNCTION_RESET (R262) in lane `l`. -/
def execFunctionReset (l : Fin 32) (s : State) : Host.Outcome State Fault Refusal :=
  s.answerLive (runLane .functionReset l)

/-- FUNCTION_MASK_WRITE (R251) in lane `l`. -/
def execFunctionMaskWrite (l : Fin 32) (s : State) : Host.Outcome State Fault Refusal :=
  s.answerLive (runLane .functionMaskWrite l)

/-- BOUND_SLOT_WRITE (R252) in lane `l`. -/
def execBoundSlotWrite (l : Fin 32) (s : State) : Host.Outcome State Fault Refusal :=
  s.answerLive (runLane .boundSlotWrite l)

/-- WEIR_STATUS_WRITE (R277) in lane `l`. -/
def execWeirStatusWrite (l : Fin 32) (s : State) : Host.Outcome State Fault Refusal :=
  s.answerLive (runLane .weirStatusWrite l)

/-- CHEMISTRY_WRITE (R292) in lane `l`. -/
def execChemistryWrite (l : Fin 32) (s : State) : Host.Outcome State Fault Refusal :=
  s.answerLive (runLane .chemistryWrite l)

/-- DEEP_GRANT_WRITE (R314) in lane `l`. -/
def execDeepGrantWrite (l : Fin 32) (s : State) : Host.Outcome State Fault Refusal :=
  s.answerLive (runLane .deepGrantWrite l)

/-- NEXT_SERVICE_WRITE (R314) in lane `l`. -/
def execNextServiceWrite (l : Fin 32) (s : State) : Host.Outcome State Fault Refusal :=
  s.answerLive (runLane .nextServiceWrite l)

/-- CAL_SET (R331) in lane `l`. -/
def execCalSet (l : Fin 32) (s : State) : Host.Outcome State Fault Refusal :=
  s.answerLive (runLane .calSet l)

/-- DEVICE_RESET (R347) in lane `l`. -/
def execDeviceReset (l : Fin 32) (s : State) : Host.Outcome State Fault Refusal :=
  s.answerLive (runLane .deviceReset l)

/-- OUTPUT_LEVEL_WRITE (R356) in lane `l`. -/
def execOutputLevelWrite (l : Fin 32) (s : State) : Host.Outcome State Fault Refusal :=
  s.answerLive (runLane .outputLevelWrite l)

/-- SET_BITS (R356) in lane `l`. -/
def execSetBits (l : Fin 32) (s : State) : Host.Outcome State Fault Refusal :=
  s.answerLive (runLane .setBits l)

/-- CLEAR_BITS (R356) in lane `l`. -/
def execClearBits (l : Fin 32) (s : State) : Host.Outcome State Fault Refusal :=
  s.answerLive (runLane .clearBits l)

/-- PATTERN_UNIT_WRITE (R360) in lane `l`. -/
def execPatternUnitWrite (l : Fin 32) (s : State) : Host.Outcome State Fault Refusal :=
  s.answerLive (runLane .patternUnitWrite l)

end Sys2Proof.Machine
end

