-- ==== Sys2Proof/Machine/Egress.lean ====
section
/-!
DEFINITION. Machine/Egress.lean: the frames that NI egress forms for the sessions: completions (R236 to R239, R246, R275)
and notices (R248, R249, R264, R267), and the end of an idle burst (R244).
Readings and choices in the log: DEDUCED 46, 128, 131, 134.
-/
namespace Sys2Proof.Machine
open Sys2Proof Sys2Proof.Config

/-! A frame of a session (R209, R232, R275). -/

/-- A formed frame of `len` bytes has room: a place in the link egress queue, or free cells (R189, R275). -/
def State.egressRoom (s : State) (t : Transport) (len : Nat) : Bool :=
  match t with
  | .link => decide (s.host.linkEgress.length < 8)
  | _ => niReady (46 + len) s

/-- The bytes of a device frame: header, elements, tag. -/
def deviceFrame (se : Session) (kind tb : Nat) (es : List (List Byte)) : List Byte :=
  let body := es.flatten
  let head := [1, byte kind] ++ toLe 2 se.sid ++ toLe 4 (se.txCount + 1) ++ toLe 4 tb ++ [byte es.length, 0]
    ++ toLe 2 body.length
  let f := head ++ body
  f ++ (if se.keyless then List.replicate 16 0 else frameTag se.sk 2 f)

/-- A frame leaves for the session at place `p`; a FrameCount at its end ends the session (R209). -/
def sendElems (p kind : Nat) (group : Bool) (es : List (List Byte)) (s : State) : State :=
  match (s.place p).session with
  | none => s
  | some se =>
    let s := sendFrame ⟨se.transport, se.peer, group, deviceFrame se kind s.tb32 es, s.now⟩ s
    s.onSession p fun x => { x with txCount := x.txCount + 1 }

/-- The session at a place whose FrameCount has reached its end closes with COUNT_EXHAUSTED (R209). -/
def endExhausted (p : Nat) (s : State) : State :=
  match (s.place p).session with
  | none => s
  | some se => if 0xFFFFFFFF ≤ se.txCount then endSession p 6 s else s

/-! Completions. -/

/-- Bytes of a COMPLETE element. -/
def Done.size (d : Done) : Nat := 16 + roundUp4 d.data.length + (if d.safety then 12 else 0)

/-- A COMPLETE element; `seq` is the device SafetySeq that it would carry (R233, R237, R246). -/
def Done.bytes (d : Done) (pre : List Byte) (seq tb : Nat) : List Byte :=
  let e := [0x80, byte (bitVal d.safety + 4 * bitVal d.duplicate)] ++ toLe 2 d.tag ++ toLe 2 d.size ++ [0, 0]
    ++ toLe 2 d.status ++ [byte d.detail, 0] ++ toLe 2 d.data.length ++ [0, 0] ++ padTo (roundUp4 d.data.length) d.data
  if d.safety then
    let e := e ++ toLe 2 seq ++ [0, 0] ++ toLe 4 tb
    e ++ toLe 4 (crc32c (pre ++ e))
  else e

/-- COMPLETE elements of a frame, the device SafetySeq counting up. -/
def doneBytes (pre : List Byte) (tb : Nat) : Nat → List Done → List (List Byte)
  | _, [] => []
  | n, d :: ds =>
    let n := if d.safety then (n + 1) % 65536 else n
    d.bytes pre n tb :: doneBytes pre tb n ds

/-- Completions that fit a frame: at most `count`, and a body of 1440 bytes behind its first. -/
def fitting : Nat → Nat → List Done → List Done
  | 0, _, _ => []
  | _, _, [] => []
  | n + 1, used, d :: ds =>
    if used ≠ 0 ∧ 1440 < used + d.size then [] else d :: fitting n (used + d.size) ds

/-- Written completions of the session at a place. -/
def State.written (s : State) (p : Nat) : List Done :=
  match (s.place p).session with
  | none => []
  | some se => s.host.done.filter fun d => d.sess == se.no

/-- The completions of the next COMPLETION frame. -/
def State.batch (s : State) (p : Nat) : List Done :=
  fitting (if s.get Obj.completionDelay = 0 then 1 else 32) 0 (s.written p)

/-- The COMPLETION frame of a place is ready (R238), and has room. -/
def State.completionReady (s : State) (p : Nat) : Bool :=
  match (s.place p).session, s.written p with
  | some se, d :: _ =>
    let ds := s.batch p
    (decide (32 ≤ ds.length) || decide (ds.length < (s.written p).length)
      || decide (d.at_ + us (s.get Obj.completionDelay) ≤ s.now))
      && s.egressRoom se.transport (32 + (ds.map Done.size).sum)
  | _, _ => false

/-- The entry of CompletionEcho for a COMPLETE (R239). -/
def Done.entry (d : Done) : Echo := ⟨d.tag, d.status, d.frame, d.elem, d.op⟩

/-! Notices. -/

/-- Notices that no frame has carried yet. -/
def State.unsent (s : State) : List Notice := s.host.pool.filter fun n => n.sentAt.isNone

/-- Virtual times of the notice streams follow the streams that gain an entry (R267). -/
def settleNotes (s : State) : State :=
  let fns := s.unsent.map (·.fn)
  let held := (List.range 8).filter fun n => fns.contains n && (s.fn n).hadNote
  let low := held.foldl (fun m n => some (match m with | none => (s.fn n).vNote | some x => min x (s.fn n).vNote)) none
  each (List.range 8) (fun n s => s.onFn n fun f =>
    { f with hadNote := fns.contains n
             vNote := if fns.contains n && !f.hadNote then max f.vNote (low.getD f.vNote) else f.vNote }) s

/-- Notices that could leave in a frame with `k` others of their session. -/
def State.leaving (s : State) (k : Nat) : List Notice :=
  s.unsent.filter fun n =>
    ((s.place n.place).session.map fun x => x.no == n.sess && s.egressRoom x.transport (32 + 28 * (k + 1))).getD false

/-- The stream with the smallest virtual time of a list; the lower number wins a tie. -/
def State.leastNote (s : State) : List Nat → Option Nat
  | [] => none
  | n :: ns => match s.leastNote ns with
    | none => some n
    | some m => if (s.fn m).vNote < (s.fn n).vNote then some m else some n

/-- The notice that goes next: a safety-related one, else the first of the stream whose turn it is. -/
def State.nextNote (s : State) (k : Nat) : Option Notice :=
  let ns := s.leaving k
  match ns.find? (·.safety) with
  | some n => some n
  | none =>
    (s.leastNote ((List.range 8).filter fun f => ns.any fun n => n.fn == f)).bind fun f => ns.find? fun n => n.fn == f

/-- A notice of the pool. -/
def Notice.same (a b : Notice) : Bool := a.sameRow b && a.seq == b.seq && a.kind == b.kind

/-- A notice is taken into a frame: an ACKED one stays in the pool as sent, another gives up its entry (R249). -/
def takeNote (n : Notice) (s : State) : State :=
  let s := s.onHost fun h =>
    { h with pool := if n.acked then h.pool.map fun m => if m.same n then { m with sentAt := some s.now } else m
                     else h.pool.filter fun m => !m.same n }
  let s := if n.safety then s else s.onFn n.fn fun u =>
    { u with vNote := u.vNote + 360360 / max 1 (s.get (Obj.qosWeight n.fn)) }
  settleNotes s

/-- The consecutive notices for one session and destination that go into one frame: at most `fuel` more. -/
def gatherNotes (first : Notice) : Nat → List Notice → State → List Notice × State
  | 0, got, s => (got, s)
  | fuel + 1, got, s =>
    match s.nextNote got.length with
    | none => (got, s)
    | some n =>
      if n.place == first.place && n.unicast == first.unicast then gatherNotes first fuel (got ++ [n]) (takeNote n s)
      else (got, s)

/-- A NOTICE element (R233, R248). -/
def Notice.bytes (n : Notice) (resent : Bool) : List Byte :=
  [0x81, byte (2 * bitVal resent), byte n.subId, 0] ++ toLe 2 28 ++ [0, 0] ++ toLe 2 n.source ++ toLe 2 n.seq
    ++ [byte n.kind, byte (bitVal n.safety), 0, 0] ++ toLe 4 n.tb32 ++ padTo 8 n.data

/-- A NOTICE frame of notices of one session and destination. -/
def sendNotes (p : Nat) (unicast resent : Bool) (ns : List Notice) (s : State) : State :=
  let s := sendElems p 0x12 (!unicast && decide (((s.place p).session.map (·.transport)) ≠ some .link))
    (ns.map fun n => n.bytes resent) s
  endExhausted p (moveFill 5 (s.onHost fun h => { h with lastKindNotice := true }))

/-! The rows. -/

/-- A COMPLETION frame of place `p` may be formed now: the two kinds take turns, safety-related notices first (R275). -/
def State.completionTurn (s : State) : Bool :=
  match s.nextNote 0 with
  | none => true
  | some n => !n.safety && s.host.lastKindNotice

/-- The COMPLETION frame of a place: its completions enter Outfall, their transactions are no longer in flight, and a session
that waits for one of them ends (R217, R218, R235, R239). -/
def sendCompletions (p : Nat) (se : Session) (s : State) : State :=
  let ds := s.batch p
  let ids := ds.filterMap (·.flight)
  let s := sendElems p 0x11 false (doneBytes (s.safetyPrefix p) s.tb32 se.safetySent ds) s
  let s := s.onHost fun h =>
    { h with done := (h.done.filter fun d => d.sess != se.no) ++ ((h.done.filter fun d => d.sess == se.no).drop ds.length)
             flights := h.flights.filter fun f => !ids.contains f.id
             lastKindNotice := false }
  let s := s.onSession p fun x =>
    { x with safetySent := (x.safetySent + (ds.filter (·.safety)).length) % 65536
             echo := ((ds.reverse.map Done.entry) ++ x.echo).take 64 }
  let s := moveFill 4 s
  let s := match se.endOn with
    | some (id, cause) => if ids.contains id then (if cause = 1 then dropClosed p s else endSession p cause s) else s
    | none => s
  endExhausted p (settleClose p s)

/-- COMPLETION_FRAME_SEND (R238). -/
def execCompletionFrameSend (p : Fin 8) (s : State) : Host.Outcome State Fault Refusal :=
  s.answerServed fun s =>
    match (s.place p).session with
    | none => s
    | some se => if s.completionReady p && s.completionTurn then sendCompletions p se s else s

/-- NOTICE_FRAME_SEND (R267, R275). -/
def execNoticeFrameSend (s : State) : Host.Outcome State Fault Refusal :=
  s.answerServed fun s =>
    let s := settleNotes s
    match s.nextNote 0 with
    | none => s
    | some n =>
      if !n.safety && s.host.lastKindNotice && (List.range 8).any s.completionReady then s
      else
        let (ns, s) := gatherNotes n 32 [] s
        sendNotes n.place n.unicast false ns s

/-- NOTICE_RESEND (R249): the notices of place `p` whose NoticeRetry has passed are sent again. -/
def execNoticeResend (p : Fin 8) (s : State) : Host.Outcome State Fault Refusal :=
  s.answerServed fun s =>
    match (s.place p).session with
    | none => s
    | some se =>
      let due (n : Notice) : Bool := n.place == p.val && n.sess == se.no && n.acked
        && (n.sentAt.map fun t => decide (t + ms (s.get Obj.noticeRetry) ≤ s.now)).getD false
      match s.host.pool.find? due with
      | none => s
      | some first =>
        let ns := (s.host.pool.filter fun n => due n && n.unicast == first.unicast).take 32
        if s.egressRoom se.transport (32 + 28 * ns.length) then
          sendNotes p first.unicast true ns (s.onHost fun h =>
            { h with pool := h.pool.map fun m => if ns.any (m.same ·) then { m with sentAt := some s.now } else m })
        else s

/-- BURST_IDLE_EXPIRY (R244). -/
def execBurstIdleExpiry (m : Fin 2) (s : State) : Host.Outcome State Fault Refusal :=
  s.answerLive fun s =>
    let b := s.burst m
    if b.isOpen && decide (b.lastAt + ms (s.get Obj.burstIdleTime) ≤ s.now) then
      (onBurst m (fun _ => Burst.closed) s).inc Obj.burstExpiredCount
    else s

end Sys2Proof.Machine
end

