-- ==== Sys2Proof/Machine/Dispatch.lean ====
section
/-!
DEFINITION. Machine/Dispatch.lean: the one case split over the commands; each arm is a direct call of the
meaning of its command.
-/
namespace Sys2Proof.Machine
open Sys2Proof

/-- The effect of a command on everything but the queue of waiting commands. -/
def exec (i : Instr) (s : State) : Host.Outcome State Fault Refusal :=
  match i with
  | .hello t p frame => Sys2Proof.Machine.execHello t p frame s
  | .proof t p frame => Sys2Proof.Machine.execProof t p frame s
  | .authLockoutExpiry role => Sys2Proof.Machine.execAuthLockoutExpiry role s
  | .challengeTimeout p => Sys2Proof.Machine.execChallengeTimeout p s
  | .hostFrameRx t p frame => Sys2Proof.Machine.execHostFrameRx t p frame s
  | .frameAdmission link => Sys2Proof.Machine.execFrameAdmission link s
  | .laneGrant => Sys2Proof.Machine.execLaneGrant s
  | .keep l => Sys2Proof.Machine.execKeep l s
  | .close l => Sys2Proof.Machine.execClose l s
  | .read l => Sys2Proof.Machine.execRead l s
  | .write l => Sys2Proof.Machine.execWrite l s
  | .readMulti l => Sys2Proof.Machine.execReadMulti l s
  | .writeMulti l => Sys2Proof.Machine.execWriteMulti l s
  | .burstBegin l => Sys2Proof.Machine.execBurstBegin l s
  | .burstSeg l => Sys2Proof.Machine.execBurstSeg l s
  | .burstEnd l => Sys2Proof.Machine.execBurstEnd l s
  | .burstAbort m tag frame elem => Sys2Proof.Machine.execBurstAbort m tag frame elem s
  | .burstIdleExpiry m => Sys2Proof.Machine.execBurstIdleExpiry m s
  | .semaTake l => Sys2Proof.Machine.execSemaTake l s
  | .semaGive l => Sys2Proof.Machine.execSemaGive l s
  | .semaWaitExpiry m sema => Sys2Proof.Machine.execSemaWaitExpiry m sema s
  | .semaQuery l => Sys2Proof.Machine.execSemaQuery l s
  | .subscribe l => Sys2Proof.Machine.execSubscribe l s
  | .unsubscribe l => Sys2Proof.Machine.execUnsubscribe l s
  | .store l => Sys2Proof.Machine.execStore l s
  | .noticeAck p entries => Sys2Proof.Machine.execNoticeAck p entries s
  | .noticeResend p => Sys2Proof.Machine.execNoticeResend p s
  | .completionFrameSend p => Sys2Proof.Machine.execCompletionFrameSend p s
  | .sessionTimeout p => Sys2Proof.Machine.execSessionTimeout p s
  | .semaHoldoffExpiry m => Sys2Proof.Machine.execSemaHoldoffExpiry m s
  | .slotReset l => Sys2Proof.Machine.execSlotReset l s
  | .keyWrite l => Sys2Proof.Machine.execKeyWrite l s
  | .maintainerWrite l => Sys2Proof.Machine.execMaintainerWrite l s
  | .hostLinkReset => Sys2Proof.Machine.execHostLinkReset s
  | .linkWriteExchange header frame timingOk => Sys2Proof.Machine.execLinkWriteExchange header frame timingOk s
  | .linkReadExchange header taken timingOk => Sys2Proof.Machine.execLinkReadExchange header taken timingOk s
  | .linkStatusExchange header => Sys2Proof.Machine.execLinkStatusExchange header s
  | .sideCommand l => Sys2Proof.Machine.execSideCommand l s
  | .axisCommand l => Sys2Proof.Machine.execAxisCommand l s
  | .flushNow l => Sys2Proof.Machine.execFlushNow l s
  | .powerCommandOff l => Sys2Proof.Machine.execPowerCommandOff l s
  | .powerCommandStandby l => Sys2Proof.Machine.execPowerCommandStandby l s
  | .powerCommandStay l => Sys2Proof.Machine.execPowerCommandStay l s
  | .seqTick => Sys2Proof.Machine.execSeqTick s
  | .cmdWaitExpiry inst => Sys2Proof.Machine.execCmdWaitExpiry inst s
  | .cmdLifeExpiry inst => Sys2Proof.Machine.execCmdLifeExpiry inst s
  | .seqTimerExpiry inst t => Sys2Proof.Machine.execSeqTimerExpiry inst t s
  | .bindingWrite l => Sys2Proof.Machine.execBindingWrite l s
  | .loadFactoryImage l => Sys2Proof.Machine.execLoadFactoryImage l s
  | .latticeFrame k crcOk => Sys2Proof.Machine.execLatticeFrame k crcOk s
  | .latticeLinkTimeout k => Sys2Proof.Machine.execLatticeLinkTimeout k s
  | .latticeFilterExpiry c => Sys2Proof.Machine.execLatticeFilterExpiry c s
  | .channelDisagree cycles => Sys2Proof.Machine.execChannelDisagree cycles s
  | .discrepancyTimeout x => Sys2Proof.Machine.execDiscrepancyTimeout x s
  | .inputFaultClear x => Sys2Proof.Machine.execInputFaultClear x s
  | .readbackSample rb1 rb2 => Sys2Proof.Machine.execReadbackSample rb1 rb2 s
  | .rbNoPull coil => Sys2Proof.Machine.execRbNoPull coil s
  | .rbStuckPulled coil => Sys2Proof.Machine.execRbStuckPulled coil s
  | .testPulseStart coil => Sys2Proof.Machine.execTestPulseStart coil s
  | .testPulseEnd coil => Sys2Proof.Machine.execTestPulseEnd coil s
  | .pulseFault coil => Sys2Proof.Machine.execPulseFault coil s
  | .coilDrive coil => Sys2Proof.Machine.execCoilDrive coil s
  | .monitorWindow count => Sys2Proof.Machine.execMonitorWindow count s
  | .monitorCount count => Sys2Proof.Machine.execMonitorCount count s
  | .latticeInitEnd vectorsOk => Sys2Proof.Machine.execLatticeInitEnd vectorsOk s
  | .speedLoopUpdate => Sys2Proof.Machine.execSpeedLoopUpdate s
  | .dirGuardEnd a => Sys2Proof.Machine.execDirGuardEnd a s
  | .currentWindow a mean => Sys2Proof.Machine.execCurrentWindow a mean s
  | .atTarget a => Sys2Proof.Machine.execAtTarget a s
  | .overtime a => Sys2Proof.Machine.execOvertime a s
  | .endStopDetect a => Sys2Proof.Machine.execEndStopDetect a s
  | .armDelayExpiry a => Sys2Proof.Machine.execArmDelayExpiry a s
  | .currentTrip a => Sys2Proof.Machine.execCurrentTrip a s
  | .speedTrip a => Sys2Proof.Machine.execSpeedTrip a s
  | .tripInput a n => Sys2Proof.Machine.execTripInput a n s
  | .overcurrent a s1 s2 s3 => Sys2Proof.Machine.execOvercurrent a s1 s2 s3 s
  | .senseFault a heldUs => Sys2Proof.Machine.execSenseFault a heldUs s
  | .directionFault a => Sys2Proof.Machine.execDirectionFault a s
  | .setpointUpdate => Sys2Proof.Machine.execSetpointUpdate s
  | .captureSeed l => Sys2Proof.Machine.execCaptureSeed l s
  | .resetToSeed l => Sys2Proof.Machine.execResetToSeed l s
  | .seedWrite l => Sys2Proof.Machine.execSeedWrite l s
  | .feedbackConfigWrite l => Sys2Proof.Machine.execFeedbackConfigWrite l s
  | .encoderEdge a levelA levelB => Sys2Proof.Machine.execEncoderEdge a levelA levelB s
  | .pairGlitch a line live => Sys2Proof.Machine.execPairGlitch a line live s
  | .pairFault a line heldUs => Sys2Proof.Machine.execPairFault a line heldUs s
  | .referenceMark a => Sys2Proof.Machine.execReferenceMark a s
  | .toneTooth a => Sys2Proof.Machine.execToneTooth a s
  | .ssiWordStart a lineHigh => Sys2Proof.Machine.execSsiWordStart a lineHigh s
  | .ssiWordEnd a word => Sys2Proof.Machine.execSsiWordEnd a word s
  | .speedCompute a => Sys2Proof.Machine.execSpeedCompute a s
  | .latchArm l => Sys2Proof.Machine.execLatchArm l s
  | .latchSourceWrite l => Sys2Proof.Machine.execLatchSourceWrite l s
  | .comparePulseEnd a => Sys2Proof.Machine.execComparePulseEnd a s
  | .compareArm l => Sys2Proof.Machine.execCompareArm l s
  | .functionalFrame k crcOk => Sys2Proof.Machine.execFunctionalFrame k crcOk s
  | .functionalLinkTimeout k => Sys2Proof.Machine.execFunctionalLinkTimeout k s
  | .inputFilterExpiry c => Sys2Proof.Machine.execInputFilterExpiry c s
  | .inputFilterWrite l => Sys2Proof.Machine.execInputFilterWrite l s
  | .inputVoltageWindow c mv => Sys2Proof.Machine.execInputVoltageWindow c mv s
  | .marginal c => Sys2Proof.Machine.execMarginal c s
  | .xcheckSet c => Sys2Proof.Machine.execXcheckSet c s
  | .xcheckClear c => Sys2Proof.Machine.execXcheckClear c s
  | .comparatorSelftest c pass => Sys2Proof.Machine.execComparatorSelftest c pass s
  | .testWindowStart c => Sys2Proof.Machine.execTestWindowStart c s
  | .testWindowEnd c => Sys2Proof.Machine.execTestWindowEnd c s
  | .filterHoldEnd c => Sys2Proof.Machine.execFilterHoldEnd c s
  | .inputOverload c => Sys2Proof.Machine.execInputOverload c s
  | .overloadClear c => Sys2Proof.Machine.execOverloadClear c s
  | .diagStickyWrite l => Sys2Proof.Machine.execDiagStickyWrite l s
  | .channelModeWrite l => Sys2Proof.Machine.execChannelModeWrite l s
  | .gangModeWrite l => Sys2Proof.Machine.execGangModeWrite l s
  | .testSourceWrite l => Sys2Proof.Machine.execTestSourceWrite l s
  | .outputFrame k crcOk => Sys2Proof.Machine.execOutputFrame k crcOk s
  | .outputLinkTimeout k => Sys2Proof.Machine.execOutputLinkTimeout k s
  | .outputDemandWrite l => Sys2Proof.Machine.execOutputDemandWrite l s
  | .currentLatchOff c mA heldUs => Sys2Proof.Machine.execCurrentLatchOff c mA heldUs s
  | .inrushWindowEnd c => Sys2Proof.Machine.execInrushWindowEnd c s
  | .clampEventEnd c energyUj => Sys2Proof.Machine.execClampEventEnd c energyUj s
  | .clampDecay c => Sys2Proof.Machine.execClampDecay c s
  | .fwMissing c mv offMa afterUs => Sys2Proof.Machine.execFwMissing c mv offMa afterUs s
  | .outputReset l => Sys2Proof.Machine.execOutputReset l s
  | .cellOvertemp c tj => Sys2Proof.Machine.execCellOvertemp c tj s
  | .thermalRetry c tj heldUs => Sys2Proof.Machine.execThermalRetry c tj heldUs s
  | .openLoadOn c mA heldUs => Sys2Proof.Machine.execOpenLoadOn c mA heldUs s
  | .offStateCheck c mv heldUs => Sys2Proof.Machine.execOffStateCheck c mv heldUs s
  | .offCheckClear c onCheck value heldUs => Sys2Proof.Machine.execOffCheckClear c onCheck value heldUs s
  | .pwmCompensation k vfldMv => Sys2Proof.Machine.execPwmCompensation k vfldMv s
  | .directPinChange n level => Sys2Proof.Machine.execDirectPinChange n level s
  | .dieUnderVoltage k mv heldUs => Sys2Proof.Machine.execDieUnderVoltage k mv heldUs s
  | .dieUvExit k mv heldUs => Sys2Proof.Machine.execDieUvExit k mv heldUs s
  | .fieldPor k mv => Sys2Proof.Machine.execFieldPor k mv s
  | .fieldPorReload k => Sys2Proof.Machine.execFieldPorReload k s
  | .surgeEntry k mv heldUs => Sys2Proof.Machine.execSurgeEntry k mv heldUs s
  | .surgeExit k mv heldUs => Sys2Proof.Machine.execSurgeExit k mv heldUs s
  | .gndShiftEntry k mv heldUs => Sys2Proof.Machine.execGndShiftEntry k mv heldUs s
  | .gndShiftExit k mv heldUs => Sys2Proof.Machine.execGndShiftExit k mv heldUs s
  | .reverseSupply k => Sys2Proof.Machine.execReverseSupply k s
  | .porSeenClear l => Sys2Proof.Machine.execPorSeenClear l s
  | .flushPeriodExpiry => Sys2Proof.Machine.execFlushPeriodExpiry s
  | .flushStart => Sys2Proof.Machine.execFlushStart s
  | .journalCommit => Sys2Proof.Machine.execJournalCommit s
  | .windowRead l => Sys2Proof.Machine.execWindowRead l s
  | .clearLog l => Sys2Proof.Machine.execClearLog l s
  | .histogramSample vfld temp => Sys2Proof.Machine.execHistogramSample vfld temp s
  | .extremeSample vfld vrsv rails temp => Sys2Proof.Machine.execExtremeSample vfld vrsv rails temp s
  | .restoreDefaults l => Sys2Proof.Machine.execRestoreDefaults l s
  | .portFrameRx p f => Sys2Proof.Machine.execPortFrameRx p f s
  | .niFrameTx dst => Sys2Proof.Machine.execNiFrameTx dst s
  | .learnAgeing mac => Sys2Proof.Machine.execLearnAgeing mac s
  | .flushLearned l => Sys2Proof.Machine.execFlushLearned l s
  | .blockedPortWrite l => Sys2Proof.Machine.execBlockedPortWrite l s
  | .frameAgeDiscard p => Sys2Proof.Machine.execFrameAgeDiscard p s
  | .linkUp p common eee mdix rbA rbB => Sys2Proof.Machine.execLinkUp p common eee mdix rbA rbB s
  | .linkDown p => Sys2Proof.Machine.execLinkDown p s
  | .arpRequest p target sender => Sys2Proof.Machine.execArpRequest p target sender s
  | .icmpEcho p target sender bytes => Sys2Proof.Machine.execIcmpEcho p target sender bytes s
  | .bypassSelftestStart => Sys2Proof.Machine.execBypassSelftestStart s
  | .bypassSelftestEnd pass rbA rbB => Sys2Proof.Machine.execBypassSelftestEnd pass rbA rbB s
  | .bypassNoPull rbA rbB => Sys2Proof.Machine.execBypassNoPull rbA rbB s
  | .insertLinkTimeout => Sys2Proof.Machine.execInsertLinkTimeout s
  | .bypassDropped rbA rbB heldUs => Sys2Proof.Machine.execBypassDropped rbA rbB heldUs s
  | .insertGrant l => Sys2Proof.Machine.execInsertGrant l s
  | .bypassModeWrite l => Sys2Proof.Machine.execBypassModeWrite l s
  | .portReset l => Sys2Proof.Machine.execPortReset l s
  | .lpiEntry p => Sys2Proof.Machine.execLpiEntry p s
  | .lpiWake p => Sys2Proof.Machine.execLpiWake p s
  | .announceRx p a => Sys2Proof.Machine.execAnnounceRx p a s
  | .announceTimeout p => Sys2Proof.Machine.execAnnounceTimeout p s
  | .syncRx p udp domain sender seq followUp twoStep origin intervalMs => Sys2Proof.Machine.execSyncRx p udp domain sender seq followUp twoStep origin intervalMs s
  | .delayReqTx => Sys2Proof.Machine.execDelayReqTx s
  | .delayRespRx p udp domain sender seq received intervalMs => Sys2Proof.Machine.execDelayRespRx p udp domain sender seq received intervalMs s
  | .tcEventForward p f residence => Sys2Proof.Machine.execTcEventForward p f residence s
  | .tcCorrection p f => Sys2Proof.Machine.execTcCorrection p f s
  | .tcEntryExpiry => Sys2Proof.Machine.execTcEntryExpiry s
  | .functionEnable l => Sys2Proof.Machine.execFunctionEnable l s
  | .functionDisable l => Sys2Proof.Machine.execFunctionDisable l s
  | .functionReset l => Sys2Proof.Machine.execFunctionReset l s
  | .drainEnd n => Sys2Proof.Machine.execDrainEnd n s
  | .functionMaskWrite l => Sys2Proof.Machine.execFunctionMaskWrite l s
  | .boundSlotWrite l => Sys2Proof.Machine.execBoundSlotWrite l s
  | .weirNoticeIntervalEnd q high => Sys2Proof.Machine.execWeirNoticeIntervalEnd q high s
  | .weirStatusWrite l => Sys2Proof.Machine.execWeirStatusWrite l s
  | .eccUncorrectable q double unit word => Sys2Proof.Machine.execEccUncorrectable q double unit word s
  | .mainFail mv heldUs => Sys2Proof.Machine.execMainFail mv heldUs s
  | .mainOk mv heldUs => Sys2Proof.Machine.execMainOk mv heldUs s
  | .chargerResume => Sys2Proof.Machine.execChargerResume s
  | .mainOv mv heldUs => Sys2Proof.Machine.execMainOv mv heldUs s
  | .mainOvClear mv heldUs => Sys2Proof.Machine.execMainOvClear mv heldUs s
  | .reserveCycle cells pack test => Sys2Proof.Machine.execReserveCycle cells pack test s
  | .chemistryWrite l => Sys2Proof.Machine.execChemistryWrite l s
  | .railBrownOut rail mv heldUs => Sys2Proof.Machine.execRailBrownOut rail mv heldUs s
  | .vphyBrownOut mv heldUs => Sys2Proof.Machine.execVphyBrownOut mv heldUs s
  | .vaonPor mv heldUs => Sys2Proof.Machine.execVaonPor mv heldUs s
  | .railPowerGood rail mv => Sys2Proof.Machine.execRailPowerGood rail mv s
  | .railStartTimeout => Sys2Proof.Machine.execRailStartTimeout s
  | .failedStartRetry => Sys2Proof.Machine.execFailedStartRetry s
  | .trimEntry => Sys2Proof.Machine.execTrimEntry s
  | .trimExit => Sys2Proof.Machine.execTrimExit s
  | .plannerEvaluation => Sys2Proof.Machine.execPlannerEvaluation s
  | .sleepExit => Sys2Proof.Machine.execSleepExit s
  | .wakePin n level heldUs => Sys2Proof.Machine.execWakePin n level heldUs s
  | .plannedWake => Sys2Proof.Machine.execPlannedWake s
  | .hostLinkWake => Sys2Proof.Machine.execHostLinkWake s
  | .deepGrantWrite l => Sys2Proof.Machine.execDeepGrantWrite l s
  | .nextServiceWrite l => Sys2Proof.Machine.execNextServiceWrite l s
  | .wakeAtReached => Sys2Proof.Machine.execWakeAtReached s
  | .phaseP0 => Sys2Proof.Machine.execPhaseP0 s
  | .phaseP1 => Sys2Proof.Machine.execPhaseP1 s
  | .phaseP2 => Sys2Proof.Machine.execPhaseP2 s
  | .phaseP3 => Sys2Proof.Machine.execPhaseP3 s
  | .phaseP4 fails axes chans clocks us => Sys2Proof.Machine.execPhaseP4 fails axes chans clocks us s
  | .phaseP5 => Sys2Proof.Machine.execPhaseP5 s
  | .phaseD0 => Sys2Proof.Machine.execPhaseD0 s
  | .phaseD1 => Sys2Proof.Machine.execPhaseD1 s
  | .phaseD2 => Sys2Proof.Machine.execPhaseD2 s
  | .phaseD3 => Sys2Proof.Machine.execPhaseD3 s
  | .phaseD4 => Sys2Proof.Machine.execPhaseD4 s
  | .restartHoldoffExpiry => Sys2Proof.Machine.execRestartHoldoffExpiry s
  | .pllUnlock heldUs => Sys2Proof.Machine.execPllUnlock heldUs s
  | .xtalFreq count => Sys2Proof.Machine.execXtalFreq count s
  | .clockDivFault which count => Sys2Proof.Machine.execClockDivFault which count s
  | .nclkDiv count => Sys2Proof.Machine.execNclkDiv count s
  | .nclkRecover heldUs => Sys2Proof.Machine.execNclkRecover heldUs s
  | .rtcStop heldUs => Sys2Proof.Machine.execRtcStop heldUs s
  | .calSet l => Sys2Proof.Machine.execCalSet l s
  | .rtcAutoTrim err => Sys2Proof.Machine.execRtcAutoTrim err s
  | .calOffsetSave => Sys2Proof.Machine.execCalOffsetSave s
  | .holdoverExpiry => Sys2Proof.Machine.execHoldoverExpiry s
  | .operatingSecond => Sys2Proof.Machine.execOperatingSecond s
  | .xresetAssert heldUs => Sys2Proof.Machine.execXresetAssert heldUs s
  | .xresetRelease => Sys2Proof.Machine.execXresetRelease s
  | .watchdogExpiry => Sys2Proof.Machine.execWatchdogExpiry s
  | .deviceReset l => Sys2Proof.Machine.execDeviceReset l s
  | .deviceResetAssert => Sys2Proof.Machine.execDeviceResetAssert s
  | .outputLevelWrite l => Sys2Proof.Machine.execOutputLevelWrite l s
  | .setBits l => Sys2Proof.Machine.execSetBits l s
  | .clearBits l => Sys2Proof.Machine.execClearBits l s
  | .patternUnitWrite l => Sys2Proof.Machine.execPatternUnitWrite l s
  | .patternMatch u => Sys2Proof.Machine.execPatternMatch u s
  | .patternMatchEnd u => Sys2Proof.Machine.execPatternMatchEnd u s
  | .lineEdge n => Sys2Proof.Machine.execLineEdge n s
  | .minIntervalEnd n => Sys2Proof.Machine.execMinIntervalEnd n s
  | .ppsPulse => Sys2Proof.Machine.execPpsPulse s
  | .sramScrubRound romOk => Sys2Proof.Machine.execSramScrubRound romOk s
  | .mramScrub err last => Sys2Proof.Machine.execMramScrub err last s
  | .dieTempSample t => Sys2Proof.Machine.execDieTempSample t s
  | .overTempShutdown => Sys2Proof.Machine.execOverTempShutdown s
  | .fieldInputChange c mv lattMv => Sys2Proof.Machine.execFieldInputChange c mv lattMv s
  | .gpPinChange n level => Sys2Proof.Machine.execGpPinChange n level s
  | .flashToggle c => Sys2Proof.Machine.execFlashToggle c s
  | .rtcEdgesReturn => Sys2Proof.Machine.execRtcEdgesReturn s
  | .ppsPulseEnd => Sys2Proof.Machine.execPpsPulseEnd s
  | .noticeFrameSend => Sys2Proof.Machine.execNoticeFrameSend s
  | .egressFrameEnd p => Sys2Proof.Machine.execEgressFrameEnd p s
  | .partnerLpi p on => Sys2Proof.Machine.execPartnerLpi p on s
  | .illegalBitExpiry a => Sys2Proof.Machine.execIllegalBitExpiry a s

end Sys2Proof.Machine
end

