-- ==== Sys2Proof/Machine/Step.lean ====
section
/-!
DEFINITION. Machine/Step.lean: one step takes the command at the front of the queue; with an empty queue the
block idles for one cycle of FCLK. No row of the command table gives bits, so no word spells a command.
Readings and choices in the log: DESIGN CHOICE 2.
-/
namespace Sys2Proof.Machine
open Sys2Proof

/-- One step: the front command acts on the state with the rest of the queue; without one, time passes by one
FCLK period (DESIGN CHOICE, log entry 2). -/
def step (s : State) : Host.Outcome State Fault Refusal :=
  match s.pending with
  | [] => .next (idle s)
  | c :: cs => exec c { s with pending := cs }

/-- The state with the command that a word spells in front of its queue; unchanged where it spells none. -/
def State.withFetchWord (s : State) (nbits w : Nat) : State :=
  match decodeTableWord nbits w with
  | none => s
  | some c => { s with pending := c :: s.pending }

end Sys2Proof.Machine
end

