-- ==== Sys2Proof/Safety.lean ====
section
/-!
DEFINITION. Safety.lean: the words in which statements about the block are said: a command that is answered, a bit or a
number that moves, a transaction that a lane starts and its COMPLETE.
-/
namespace Sys2Proof.Machine
open Sys2Proof

/-- The command is answered with a next state of which `P` holds. -/
def Answers (c : Instr) (s : State) (P : State → Prop) : Prop :=
  ∃ t, Sys2Proof.Machine.exec c s = .next t ∧ P t

/-- From `s` to `t` bit `i` of object `k` becomes `b` and its other bits stay. -/
def BitTo (k i : Nat) (b : Bool) (s t : State) : Prop :=
  ∀ j, j < 8 * sizeOf k → t.bit k j = if j = i then b else s.bit k j

/-- From `s` to `t` the counter `k` goes up by one; at its end it wraps (R409). -/
def CountsUp (k : Nat) (s t : State) : Prop := t.get k = fitTo k (s.get k + 1)

/-- From `s` to `t` the objects of `ks` alone may have moved. -/
def OnlyMoves (ks : List Nat) (s t : State) : Prop := ∀ k, k ∉ ks → t.get k = s.get k

/-- From `s` to `t` element `i` of a list becomes `y` and every other element stays. -/
def OneMoves {α : Type} (i : Nat) (y : α) (xs ys : List α) : Prop :=
  ys[i]? = some y ∧ ∀ j, j ≠ i → ys[j]? = xs[j]?

/-- From `s` to `t` the lattice is in HELD with cause `i` beside the earlier ones: both coils off, every unlock gate closed
and every permit false (R38). -/
structure EntersHeld (i : Nat) (s t : State) : Prop where
  held : t.get Obj.latticeState = 2
  cause : BitTo Obj.heldCause i true s t
  coils : ∀ j : Fin 2, (t.coil j).on = false
  gates : ∀ g, g ∈ t.lat.gates → g = false
  permits : ∀ j, j < 12 ∨ j = 24 ∨ j = 25 → t.bit Obj.permitStatus j = false

/-- From `s` to `t` axis `a` takes the fault cause `b` (R72, R47): cause and FAULT set, duty and trajectory speed 0, and a
running sequencer instance forced into its FaultState where FAULT has risen. -/
structure TakesFault (a : Fin 24) (b : Nat) (s t : State) : Prop where
  cause : BitTo (Obj.faultCause a) b true s t
  fault : t.st a stFault = true
  duty : t.get (Obj.duty a) = 0
  speed : t.get (Obj.speedRef a) = 0
  forced : s.st a stFault = false → ∀ q, s.seq.insts[8 + a.val]? = some q →
    t.seq.insts[8 + a.val]? = some { q with forced := q.forced || q.running }

/-- From `s` to `t` axis `a` trips with a cause (R81): it brakes, OBSTACLE is set, the trip counts and LastTrip holds it. -/
structure Trips (a : Fin 24) (cause : Nat) (s t : State) : Prop where
  obstacle : t.st a stObstacle = true
  duty : t.get (Obj.duty a) = 0
  brakes : ∀ x, s.axes[a.val]? = some x → ∃ y, t.axes[a.val]? = some y ∧ y.en = true ∧ y.braked = true
  counts : CountsUp (Obj.obstacleCount a) s t
  last : t.get (Obj.lastTrip a) = fitTo (Obj.lastTrip a)
    (s.tripRecord a cause (s.binAt a) (s.threshold a (s.binAt a) (s.target a == 1)))

/-- A total that the counts and Position of axis `a` can hold (R90). -/
def InRange (a : Nat) (total : Int) (s : State) : Prop :=
  -8388608 ≤ total / (s.get (Obj.countsPerRev a) : Int) ∧ total / (s.get (Obj.countsPerRev a) : Int) ≤ 8388607 ∧
  -2147483648 ≤ total - s.geti (Obj.positionOffset a) ∧ total - s.geti (Obj.positionOffset a) ≤ 2147483647

/-- From `s` to `t` the counts of axis `a` take a total, and Position follows with the offset (R90). -/
def CountsAt (a : Nat) (total : Int) (s t : State) : Prop :=
  t.geti (Obj.revCount a) = total / (s.get (Obj.countsPerRev a) : Int) ∧
  t.get (Obj.inRev a) = fitTo (Obj.inRev a) (total % (s.get (Obj.countsPerRev a) : Int)).toNat ∧
  t.pos a = total - s.geti (Obj.positionOffset a)

/-- Port `p`, whose unit is `u`, is sending: its link is up and awake, and no frame at the head of a queue is too old. -/
structure Busy (p : Nat) (u : PortUnit) (s : State) : Prop where
  unit : s.net.ports[p]? = some u
  up : u.up = true
  sends : u.sending.isSome = true
  awake : s.bit (Obj.portStatus p) 4 = false
  heard : s.blocked p = false
  heads : ∀ q, q ∈ u.queues → ∀ f, q.head? = some f → s.aged f = false

/-- In `t` the frame `f` is the last of its egress queue of port `p`, whose unit was `u`. -/
def Queued (p : Nat) (u : PortUnit) (f : NetFrame) (t : State) : Prop :=
  t.net.ports[p]? = some { u with queues := u.queues.modify f.q fun q => q ++ [f] }

/-- In `t` the bypass is in FAILED with a cause: coils off, PHYs powered down (R198). -/
structure BypassFails (cause : Nat) (t : State) : Prop where
  state : t.get Obj.bypassState = 4
  cause : t.get Obj.bypassFault = cause
  coils : t.net.bypass.coils = false
  phys : t.net.bypass.phys = false

/-- From `s` to `t` the logic die is reset with a cause of 2 to 8 (R339, R340, R348): it does not run, what it held is lost,
the cause is latched and counted, and a start is wanted. -/
structure Resets (cause : Nat) (s t : State) : Prop where
  stopped : t.live = false
  inReset : t.rst.inReset = true
  cause : cause ∈ t.rst.latched ∧ t.get Obj.resetCause ≤ cause
  counts : CountsUp Obj.logicResetCount s t
  state : t.get Obj.powerState = 0 ∧ t.get Obj.powerPhase = 0
  lost : t.host = HostSide.reset ∧ t.seq = Sequencers.reset ∧ t.net = Net.reset
  again : t.pow.restart = true

/-- `d` has passed since the mark `t`. -/
def Passed (t : Option Nat) (d : Nat) (s : State) : Prop := ∃ t0, t = some t0 ∧ t0 + d ≤ s.now

/-- Lane `l` carries the transaction `f`, which its start lets run (R245, R260, R266). -/
structure Carries (l : Fin 32) (f : Flight) (s : State) : Prop where
  live : s.live = true
  lane : s.inLaneAt l = some f
  known : s.flight f.id = some f
  own : f.orphan = false
  starts : s.startRefusal f = 0

/-- The COMPLETE of a transaction, as it is written into its reserved entry (R236). -/
def doneOf (f : Flight) (status detail : Nat) (data : List Byte) (now : Nat) : Done :=
  { place := f.place, sess := f.sess, tag := f.tag, op := f.op, status := status, detail := detail, data := data
    frame := f.frame, elem := f.elem, duplicate := false, safety := f.safety.isSome, flight := some f.id, at_ := now }

/-- From `s` to `t` the transaction completes with a status, a detail and data: one COMPLETE joins the completion queue
and nothing else does. -/
def Completed (f : Flight) (status detail : Nat) (data : List Byte) (s t : State) : Prop :=
  t.host.done = s.host.done ++ [doneOf f status detail data s.now]

/-- From `s` to `t` the transaction keeps its entry, gives its lane back and waits; nothing completes (R257, R274). -/
def Waits (f : Flight) (s t : State) : Prop :=
  t.host.done = s.host.done ∧ ∀ x, x ∈ t.host.flights → x.id = f.id → x.phase = .held

/-- From `s` to `t` the Dulas frame `bs` leaves for a peer: into the link egress queue, or into NI for a port. -/
def Sends (tr : Transport) (p : Peer) (group : Bool) (bs : List Byte) (s t : State) : Prop :=
  (tr = .link → t.host.linkEgress = s.host.linkEgress ++ [⟨tr, p, group, bs, s.now⟩]) ∧
  (tr ≠ .link → ∃ f, t.net.niWait = s.net.niWait ++ [f] ∧ f.tx = some ⟨tr, p, group, bs, s.now⟩)

/-- From `s` to `t` the session `se` of place `p` ends with a cause (R219): what no lane has started is dropped, what runs
is orphaned, what waits to be sent is discarded, and the place shows no session. A master slot keeps the cause, counts the
loss and holds its semaphores off for SemaHoldOff (R221). -/
structure Ends (p cause : Nat) (se : Session) (s t : State) : Prop where
  gone : (t.place p).session = none
  shown : t.get (transportKey p) = 0 ∧ t.get (peerKey p) = 0 ∧ t.get (sessionIdKey p) = 0
  flights : ∀ f ∈ t.host.flights, f.sess = se.no → f.orphan = true ∧ f.phase ≠ .queued
  done : ∀ d ∈ t.host.done, d.sess ≠ se.no
  observer : 2 ≤ p → t.placeNo p = 0
  master : p < 2 → t.get (Obj.lastEndCause p) = cause ∧ CountsUp (Obj.lostCount p) s t
  holdoff : p < 2 → s.get Obj.semaHoldOff ≠ 0 → t.placeNo p = 3 ∧ (t.place p).holdSince = s.now ∧
    ∀ n, s.sema n = .held p → t.sema n = .holdoff p

/-- Numbers of transactions in flight are unlike each other and below the next one. -/
def Fresh (s : State) : Prop :=
  s.host.flights.Pairwise (fun f g => f.id ≠ g.id) ∧ ∀ f ∈ s.host.flights, f.id < s.host.nextFlight

/-- No session of `s` receives WEIR notices. -/
def NoWeirNotices (s : State) : Prop :=
  ∀ p x, (s.place p).session = some x → ∀ b ∈ x.subs, b.mask.testBit 6 = false

/-- The objects that notices, weirs, records and discarded completions count in. -/
def noisy (k : Nat) : Bool :=
  k / 65536 == 0x13 || k == Obj.droppedRecords || k == Obj.safetyFaultCount || k == Obj.discardedCompletions 0
    || k == Obj.discardedCompletions 1

/-- From `s` to `t` nothing but the queues of the host side and the counters of notices may have moved. -/
structure Untouched (s t : State) : Prop where
  objs : ∀ k, noisy k = false → t.get k = s.get k
  rest : t.lat = s.lat ∧ t.seq = s.seq ∧ t.recd = s.recd ∧ t.salt = s.salt ∧ t.axes = s.axes ∧ t.setpts = s.setpts ∧
    t.chans = s.chans ∧ t.dies = s.dies ∧ t.sup = s.sup ∧ t.pow = s.pow ∧ t.clk = s.clk ∧ t.rst = s.rst ∧ t.net = s.net ∧
    t.gp = s.gp
  host : t.host.places = s.host.places ∧ t.host.semas = s.host.semas ∧ t.host.bursts = s.host.bursts ∧
    t.host.waits = s.host.waits

/-- Lane `l` carries a WRITE of `data` to object `idx`.`sub` that passes every check (R173). -/
structure WritesAt (l : Fin 32) (f : Flight) (idx sub : Nat) (data : List Byte) (s : State) : Prop where
  carried : Carries l f s
  op : f.op = 0x11
  req : f.req = .write idx sub data
  passes : s.writeRefusal (f.writer true) .write (256 * idx + sub) data = 0

/-- Lane `l` carries a CMD with `data` to object `idx`.`sub` that passes every check (R173). -/
structure CommandsAt (l : Fin 32) (f : Flight) (idx sub : Nat) (data : List Byte) (s : State) : Prop where
  carried : Carries l f s
  op : f.op = 0x40
  req : f.req = .cmd idx sub data
  passes : s.writeRefusal (f.writer true) .cmd (256 * idx + sub) data = 0

/-- From `s` to `t` object `k` takes a value and no other object moves, the counters of notices apart. -/
def Takes (k v : Nat) (s t : State) : Prop := t.get k = fitTo k v ∧ ∀ j, j ≠ k → noisy j = false → t.get j = s.get j

/-- In `t` a journalled transaction of a kind, waiting or running, completes the transaction `f` at its commit. -/
def CommitsWith (kind : JobKind) (f : Flight) (t : State) : Prop :=
  ∃ j, (j ∈ t.recd.queue ∨ t.recd.running = some j) ∧ j.kind = kind ∧ f.id ∈ j.flights

/-- The rows of lane `l` that are a WRITE or a CMD of one object. -/
def objectRows (l : Fin 32) : List Instr :=
  [.write l, .slotReset l, .keyWrite l, .maintainerWrite l, .deviceReset l, .powerCommandOff l, .powerCommandStandby l,
   .powerCommandStay l, .bindingWrite l, .loadFactoryImage l, .captureSeed l, .resetToSeed l, .seedWrite l,
   .feedbackConfigWrite l, .latchArm l, .latchSourceWrite l] ++
  [.compareArm l, .inputFilterWrite l, .diagStickyWrite l, .channelModeWrite l, .gangModeWrite l, .testSourceWrite l,
   .outputDemandWrite l, .outputReset l, .porSeenClear l, .clearLog l, .restoreDefaults l, .flushLearned l,
   .blockedPortWrite l, .insertGrant l, .bypassModeWrite l, .portReset l] ++
  [.functionEnable l, .functionDisable l, .functionReset l, .functionMaskWrite l, .boundSlotWrite l, .weirStatusWrite l,
   .chemistryWrite l, .deepGrantWrite l, .nextServiceWrite l, .calSet l, .outputLevelWrite l, .setBits l, .clearBits l,
   .patternUnitWrite l, .sideCommand l, .axisCommand l, .flushNow l]

/-! The canonical form of the object store. -/

/-- Numbers strictly rising. -/
def Rising (xs : List (Nat × Nat)) : Prop := xs.Pairwise fun a b => a.1 < b.1

/-- The store of `s` in its canonical form. -/
def State.canonical (s : State) : Prop :=
  Rising s.objs ∧ ∀ e ∈ s.objs, isConst e.1 = false ∧ e.2 ≠ defaultOf s.variant e.1 ∧ fitTo e.1 e.2 = e.2

/-! Frames. -/

/-- From `s` to `t` nothing of the host side has moved but the notice pool, the source counters and the weirs. -/
def SameHost (s t : State) : Prop :=
  { t.host with pool := s.host.pool, seqs := s.host.seqs, weirs := s.host.weirs } = s.host

/-- From `s` to `t` every object keeps its value whose index does not begin with one of the bytes `bs`. -/
def KeepsObjects (bs : List Nat) (s t : State) : Prop := ∀ k, k / 65536 ∉ bs → t.get k = s.get k

/-- A row of the field inputs and outputs. -/
def fieldRow : Instr → Bool
  | .fieldInputChange .. => true
  | .inputFilterExpiry .. => true
  | .inputVoltageWindow .. => true
  | .marginal .. => true
  | .xcheckSet .. => true
  | .xcheckClear .. => true
  | .comparatorSelftest .. => true
  | .testWindowStart .. => true
  | .testWindowEnd .. => true
  | .filterHoldEnd .. => true
  | .inputOverload .. => true
  | .overloadClear .. => true
  | .outputFrame .. => true
  | .outputLinkTimeout .. => true
  | .currentLatchOff .. => true
  | .inrushWindowEnd .. => true
  | .clampEventEnd .. => true
  | .clampDecay .. => true
  | .fwMissing .. => true
  | .cellOvertemp .. => true
  | .thermalRetry .. => true
  | .openLoadOn .. => true
  | .offStateCheck .. => true
  | .offCheckClear .. => true
  | .pwmCompensation .. => true
  | .directPinChange .. => true
  | .flashToggle .. => true
  | _ => false

/-- A row of the lattice and its loop. -/
def latticeRow : Instr → Bool
  | .latticeFrame .. => true
  | .latticeFilterExpiry .. => true
  | .channelDisagree .. => true
  | .discrepancyTimeout .. => true
  | .inputFaultClear .. => true
  | .readbackSample .. => true
  | .rbNoPull .. => true
  | .rbStuckPulled .. => true
  | .testPulseStart .. => true
  | .testPulseEnd .. => true
  | .pulseFault .. => true
  | .coilDrive .. => true
  | .monitorWindow .. => true
  | .monitorCount .. => true
  | .latticeInitEnd .. => true
  | _ => false

/-- A row of the drives and of position feedback. -/
def axisRow : Instr → Bool
  | .speedLoopUpdate .. => true
  | .dirGuardEnd .. => true
  | .currentWindow .. => true
  | .armDelayExpiry .. => true
  | .currentTrip .. => true
  | .speedTrip .. => true
  | .tripInput .. => true
  | .atTarget .. => true
  | .endStopDetect .. => true
  | .overtime .. => true
  | .overcurrent .. => true
  | .senseFault .. => true
  | .directionFault .. => true
  | .setpointUpdate .. => true
  | .comparePulseEnd .. => true
  | .referenceMark .. => true
  | .encoderEdge .. => true
  | .illegalBitExpiry .. => true
  | .pairGlitch .. => true
  | .pairFault .. => true
  | .toneTooth .. => true
  | .ssiWordStart .. => true
  | .ssiWordEnd .. => true
  | .speedCompute .. => true
  | _ => false

/-- A row of the ports, the bypass and the transparent clock. -/
def networkRow : Instr → Bool
  | .egressFrameEnd .. => true
  | .frameAgeDiscard .. => true
  | .learnAgeing .. => true
  | .portFrameRx .. => true
  | .niFrameTx .. => true
  | .arpRequest .. => true
  | .icmpEcho .. => true
  | .linkDown .. => true
  | .bypassSelftestStart .. => true
  | .bypassSelftestEnd .. => true
  | .bypassNoPull .. => true
  | .insertLinkTimeout .. => true
  | .bypassDropped .. => true
  | .linkUp .. => true
  | .lpiEntry .. => true
  | .lpiWake .. => true
  | .partnerLpi .. => true
  | .tcEventForward .. => true
  | .tcCorrection .. => true
  | .tcEntryExpiry .. => true
  | _ => false

/-- A row of the ordinary clock, the calendar and the RTC. -/
def clockRow : Instr → Bool
  | .announceRx .. => true
  | .announceTimeout .. => true
  | .syncRx .. => true
  | .delayReqTx .. => true
  | .delayRespRx .. => true
  | .rtcAutoTrim .. => true
  | .calOffsetSave .. => true
  | .holdoverExpiry .. => true
  | .operatingSecond .. => true
  | .nclkDiv .. => true
  | .nclkRecover .. => true
  | .rtcStop .. => true
  | .rtcEdgesReturn .. => true
  | _ => false

/-- A row of the GP pins. -/
def pinRow : Instr → Bool
  | .gpPinChange .. => true
  | .patternMatch .. => true
  | .patternMatchEnd .. => true
  | .lineEdge .. => true
  | .minIntervalEnd .. => true
  | .ppsPulse .. => true
  | .ppsPulseEnd .. => true
  | _ => false

end Sys2Proof.Machine
end

