-- ==== Sys2Proof/Certificates/Slice0/Obligations.lean ====
section
/-!
DEFINITION. Certificates/Slice0/Obligations.lean: the statements about the block, one definition each. Nothing is proved
here. `Answers c s P` says that the command `c` is answered in `s` with a next state of which `P` holds.
-/
open Sys2Proof Sys2Proof.Machine

/-- Field inputs (R107, R108, R112 to R118): what each timed condition of an input channel does once its time has passed.
`x` is the state of the cell of channel `c`. -/
def Obligations.InputConditionsActWhenTheirTimeHasPassed : Prop :=
  ∀ (s : State) (c : Fin 256) (x : Chan), s.chans[c.val]? = some x →
    -- MARGINAL: r has stayed in a gap for 20 ms
    (Passed x.gapSince (ms 20) s → Answers (.marginal c) s fun t =>
      OneMoves c.val { x with marginal := true } s.chans t.chans ∧ t.objs = s.objs) ∧
    -- XCHECK_SET and XCHECK_CLEAR
    (Passed x.xBad (ms (s.get (Obj.xcheckTime c))) s → isInput (s.mode c) = true → s.bit (Obj.diagStatus c) 3 = false →
      Answers (.xcheckSet c) s fun t =>
        BitTo (Obj.diagStatus c) 3 true s t ∧ BitTo (Obj.diagSticky c) 3 true s t ∧ CountsUp (Obj.xcheckCount c) s t) ∧
    (Passed x.xGood (sec 1) s → Answers (.xcheckClear c) s fun t =>
      BitTo (Obj.diagStatus c) 3 false s t ∧ OnlyMoves [Obj.diagStatus c] s t) ∧
    -- INPUT_OVERLOAD and OVERLOAD_CLEAR
    (Passed x.overSince (ms 1) s → isInput (s.mode c) = true → s.bit (Obj.diagStatus c) 0 = false →
      Answers (.inputOverload c) s fun t =>
        BitTo (Obj.diagStatus c) 0 true s t ∧ BitTo (Obj.diagSticky c) 0 true s t ∧ CountsUp (Obj.overloadCount c) s t) ∧
    (Passed x.inRangeSince (ms 100) s → Answers (.overloadClear c) s fun t =>
      BitTo (Obj.diagStatus c) 0 false s t ∧ OnlyMoves [Obj.diagStatus c] s t) ∧
    -- COMPARATOR_SELFTEST: the second wrong one in a row sets COMP_FAIL, the second right one clears it
    (isInput (s.mode c) = true → x.testBad = 1 → s.bit (Obj.diagStatus c) 4 = false →
      Answers (.comparatorSelftest c false) s fun t =>
        BitTo (Obj.diagStatus c) 4 true s t ∧ BitTo (Obj.diagSticky c) 4 true s t) ∧
    (isInput (s.mode c) = true → x.testBad = 0 → Answers (.comparatorSelftest c false) s fun t =>
      t.objs = s.objs ∧ OneMoves c.val { x with testBad := 1, testGood := 0 } s.chans t.chans) ∧
    (isInput (s.mode c) = true → x.testGood = 1 → Answers (.comparatorSelftest c true) s fun t =>
      BitTo (Obj.diagStatus c) 4 false s t ∧ OnlyMoves [Obj.diagStatus c] s t) ∧
    -- INPUT_VOLTAGE_WINDOW
    (∀ mv, s.live = true → Answers (.inputVoltageWindow c mv) s fun t =>
      t.get (Obj.inputVoltage c) = min mv 65535 ∧ OnlyMoves [Obj.inputVoltage c] s t)

/-- Field inputs (R107, R108, R117): a voltage at a ball is judged with the hysteresis of its mode, a filtered change
completes when its filter has passed, and a test window switches its source off, holds the filters of the inputs it feeds
and ends. `x` is the state of the cell of channel `c`.
The functional lane of a field die (R108, R109): a good frame delivers the input states of the die's channels; 150 µs
without one they read off and the lane counts as lost. -/
def Obligations.InputsAreSampledFilteredAndDelivered : Prop :=
  (
  ∀ (s : State) (c : Fin 256) (x : Chan), s.chans[c.val]? = some x →
    -- FIELD_INPUT_CHANGE in IN_24V and IN_TYPE3
    (∀ (mv lattMv hi lo : Int), s.variant.hasChan c.val = true → (s.chan (s.get (Obj.testSource c))).window = none →
      (s.mode c = 1 ∧ hi = 12000 ∧ lo = 10500) ∨ (s.mode c = 2 ∧ hi = 9000 ∧ lo = 7500) →
      Answers (.fieldInputChange c mv lattMv) s fun t => t.objs = s.objs ∧ ∃ y, OneMoves c.val y s.chans t.chans ∧
        y.mv = mv ∧ y.lattMv = lattMv ∧
        (hi ≤ mv → y.rawF = true) ∧ (mv < lo → y.rawF = false) ∧ (lo ≤ mv → mv < hi → y.rawF = x.rawF) ∧
        (hi ≤ lattMv → y.rawL = true) ∧ (lattMv < lo → y.rawL = false) ∧ (lo ≤ lattMv → lattMv < hi → y.rawL = x.rawL)) ∧
    -- INPUT_FILTER_EXPIRY of a change to `i` (0 or 1) that has been counted since `t0`
    (∀ i t0, x.pend = some (i, t0) → t0 + us (s.get (Obj.inputFilter c)) ≤ s.now → x.holdFrom = none →
      (s.die (c / 64)).down = false → (s.mode c = 1 ∨ s.mode c = 2) →
      Answers (.inputFilterExpiry c) s fun t =>
        OneMoves c.val { x with pend := none, ran := true, filt := decide (i = 1), band := none } s.chans t.chans ∧
        (s.live = true → (x.ran && x.filt) = false → i = 1 → CountsUp (Obj.chEdgeCount c) s t)) ∧
    -- TEST_WINDOW_START at a source that is on and due
    (s.mode c = 4 → s.testHold c = true → x.window = none → x.on = true → s.protectedOff c = false →
      x.lastWindow + ms (s.testPeriodOf c) ≤ s.now →
      Answers (.testWindowStart c) s fun t =>
        ∃ y, t.chans[c.val]? = some y ∧ y.window = some s.now ∧ y.on = false) ∧
    -- TEST_WINDOW_END: the window ends
    (Passed x.window (us (s.testWidthOf c)) s →
      Answers (.testWindowEnd c) s fun t => ∃ y, t.chans[c.val]? = some y ∧ y.window = none) ∧
    -- FILTER_HOLD_END, 100 µs after the window of the source
    (Passed x.holdFrom (us (s.testWidthOf (s.get (Obj.testSource c)) + 100)) s →
      (s.chan (s.get (Obj.testSource c))).window = none →
      Answers (.filterHoldEnd c) s fun t => t.objs = s.objs ∧ ∃ y, OneMoves c.val y s.chans t.chans ∧ y.holdFrom = none)) ∧
  (
  ∀ (s : State) (k : Fin 4) (d : Die), s.live = true → s.variant.hasDie k.val = true → s.dies[k.val]? = some d →
    (d.reversed = false → Answers (.functionalFrame k true) s fun t =>
      OneMoves k.val { d with funcAt := s.now, funcUp := true } s.dies t.dies ∧
      ∀ c ∈ s.chansOf k, t.get (Obj.inputState c) = bitVal (s.dieState c)) ∧
    (Answers (.functionalFrame k false) s fun t => t.objs = s.objs ∧ t.dies = s.dies ∧ t.chans = s.chans) ∧
    (d.funcUp = true → d.funcAt + us 150 ≤ s.now → Answers (.functionalLinkTimeout k) s fun t =>
      OneMoves k.val { d with funcUp := false } s.dies t.dies ∧
      ∀ c ∈ s.chansOf k, t.get (Obj.inputState c) = 0 ∧ t.bit (Obj.diagStatus c) 7 = true))

/-- Protection of field outputs (R126 to R130): the trip, the inrush window, the energy of clamp events and its decay, and
a missing freewheel path act on the lead `l` of the gang of channel `c`, whose cell is `x`.
The thermal limit and the load checks of field outputs (R118, R132 to R134): over-temperature turns a cell off until it
has cooled, too many retries lock it, and a load that is missing or a supply that is shorted sets its bit. -/
def Obligations.OutputsProtectThemselvesAndWatchTheirLoads : Prop :=
  (
  ∀ (s : State) (c l : Fin 256) (x : Chan), s.leadOf c = l.val → s.chans[l.val]? = some x →
    -- CURRENT_LATCH_OFF above the threshold in force `th` for the trip filter
    (∀ mA held th, isOutput (s.mode l) = true → x.on = true → s.tripThreshold l = some th → th < mA →
      tripFilterUs (s.regs l).load ≤ held → s.bit (Obj.diagStatus l) 9 = false →
      Answers (.currentLatchOff c mA held) s fun t =>
        BitTo (Obj.diagStatus l) 9 true s t ∧ BitTo (Obj.diagSticky l) 9 true s t ∧ CountsUp (Obj.tripCount l) s t ∧
        CountsUp (Obj.lockCount l) s t ∧ t.get (Obj.loadCurrent l) = min mA 65535 ∧
        ∃ y, t.chans[l.val]? = some y ∧ y.on = false) ∧
    -- CURRENT_LATCH_OFF at or below it: the current is published
    (∀ mA held th, isOutput (s.mode l) = true → x.on = true → s.tripThreshold l = some th → mA ≤ th →
      Answers (.currentLatchOff c mA held) s fun t =>
        t.get (Obj.loadCurrent l) = min mA 65535 ∧ OnlyMoves [Obj.loadCurrent l] s t ∧ t.chans = s.chans) ∧
    -- INRUSH_WINDOW_END
    (∀ u, x.inrushUntil = some u → u ≤ s.now → Answers (.inrushWindowEnd c) s fun t =>
      OneMoves l.val { x with inrushUntil := none } s.chans t.chans ∧ t.objs = s.objs) ∧
    -- CLAMP_EVENT_END: the energy counts at 10 µJ and joins the total and the accumulator
    (∀ uj, x.clamping = true → Answers (.clampEventEnd c uj) s fun t =>
      t.get (Obj.clampEnergyLast l) = min (uj / 10 * 10) 4294967290 ∧
      t.get (Obj.clampEnergyTotal l) = fitTo (Obj.clampEnergyTotal l) (s.get (Obj.clampEnergyTotal l) + uj / 10 * 10) ∧
      t.get (Obj.clampEnergyAcc l) = min (s.get (Obj.clampEnergyAcc l) + uj / 10 * 10) 4294967295 ∧
      (s.gangOf l * 1000 * s.get (Obj.clampBudget l) < t.get (Obj.clampEnergyAcc l) →
        t.bit (Obj.diagStatus l) 10 = true ∧ ∃ y, t.chans[l.val]? = some y ∧ y.on = false ∧
          (x.on = false → y.clamping = false)) ∧
      (t.get (Obj.clampEnergyAcc l) ≤ s.gangOf l * 1000 * s.get (Obj.clampBudget l) →
        uj / 10 * 10 ≤ s.gangOf l * 200000 →
        OneMoves l.val { x with clamping := false } s.chans t.chans ∧
        t.get (Obj.diagStatus l) = s.get (Obj.diagStatus l))) ∧
    -- CLAMP_DECAY of a cell of its own
    (c = l → x.decayAt + ms 1 ≤ s.now → Answers (.clampDecay c) s fun t =>
      t.get (Obj.clampEnergyAcc l) = fitTo (Obj.clampEnergyAcc l)
        (s.get (Obj.clampEnergyAcc l) - s.gangOf l * s.get (Obj.clampDecay l)) ∧
      OnlyMoves [Obj.clampEnergyAcc l] s t ∧ OneMoves l.val { x with decayAt := s.now } s.chans t.chans) ∧
    -- FW_MISSING: below −4.0 V within 2 ms of a turn-off from at least 20 mA with an EXTERNAL freewheel path
    (∀ mv off after, (s.regs l).turnOff = 1 → mv < -4000 → 20 ≤ off → after ≤ 2000 → isOutput (s.mode l) = true →
      s.bit (Obj.diagStatus l) 11 = false → Answers (.fwMissing c mv off after) s fun t =>
        BitTo (Obj.diagStatus l) 11 true s t ∧ BitTo (Obj.diagSticky l) 11 true s t ∧ CountsUp (Obj.lockCount l) s t ∧
        ∃ y, t.chans[l.val]? = some y ∧ y.on = false)) ∧
  (
  ∀ (s : State) (c l : Fin 256) (x : Chan), s.leadOf c = l.val → s.chans[l.val]? = some x →
    -- CELL_OVERTEMP
    (∀ tj, 175 < tj → s.mode l ≠ 0 → s.bit (Obj.diagStatus l) 2 = false → Answers (.cellOvertemp c tj) s fun t =>
      t.bit (Obj.diagStatus l) 2 = true ∧
      CountsUp (Obj.overTempCount l) s t ∧
      (∃ y, t.chans[l.val]? = some y ∧ y.hot = true ∧ (isOutput (s.mode l) = true → y.on = false)) ∧
      (isOutput (s.mode l) = true → CountsUp (Obj.thermalOffCount l) s t ∧
        t.bit (Obj.diagStatus l) 12 = (s.bit (Obj.diagStatus l) 12 ||
          decide (s.get (Obj.thermalRetryLimit l) = 0 ∨ s.get (Obj.thermalRetryLimit l) < x.retries.length)))) ∧
    -- THERMAL_RETRY: 15 K below the limit for 10 ms
    (∀ tj held, x.hot = true → tj ≤ 160 → 10000 ≤ held → Answers (.thermalRetry c tj held) s fun t =>
      BitTo (Obj.diagStatus l) 2 false s t ∧
      ∃ y, t.chans[l.val]? = some y ∧ y.hot = false ∧ y.on = t.wantOn l ∧
        y.retries = if t.wantOn l then x.retries.filter (fun u => decide (s.now ≤ u + sec 60)) ++ [s.now] else x.retries) ∧
    -- OPEN_LOAD_ON: on, outside an inrush window, below OpenLoadOnCurrent for 100 ms
    (∀ mA held, s.bit (Obj.openLoadCheck l) 1 = true → x.on = true → x.inrushUntil = none → isOutput (s.mode l) = true →
      (s.mode l ≠ 7 ∨ s.get (Obj.effectiveDuty l) = 1023) → 100000 ≤ held → x.onAt + us held ≤ s.now →
      Answers (.openLoadOn c mA held) s fun t => t.get (Obj.loadCurrent l) = min mA 65535 ∧
        (mA < s.get (Obj.openLoadOnCurrent l) → s.bit (Obj.diagStatus l) 13 = false →
          BitTo (Obj.diagStatus l) 13 true s t ∧ BitTo (Obj.diagSticky l) 13 true s t) ∧
        (s.get (Obj.openLoadOnCurrent l) ≤ mA → OnlyMoves [Obj.loadCurrent l] s t)) ∧
    -- OFF_STATE_CHECK: the output between 2 V and 8 V, or above
    (∀ mv held, s.offCheck l held = true → 50000 ≤ held → 2000 ≤ mv → mv < 8000 → s.bit (Obj.diagStatus l) 13 = false →
      Answers (.offStateCheck c mv held) s fun t =>
        BitTo (Obj.diagStatus l) 13 true s t ∧ BitTo (Obj.diagSticky l) 13 true s t) ∧
    (∀ mv held, s.offCheck l held = true → 50000 ≤ held → 8000 ≤ mv → s.bit (Obj.diagStatus l) 14 = false →
      Answers (.offStateCheck c mv held) s fun t =>
        BitTo (Obj.diagStatus l) 14 true s t ∧ BitTo (Obj.diagSticky l) 14 true s t) ∧
    -- OFF_CHECK_CLEAR by the on-check and by the off-check
    (∀ on value held, (on = true ∧ s.bit (Obj.openLoadCheck l) 1 = true ∧ x.on = true ∧ isOutput (s.mode l) = true ∧
        s.get (Obj.openLoadOnCurrent l) ≤ value) ∨ (on = false ∧ s.offCheck l held = true ∧ value < 2000) →
      100000 ≤ held → Answers (.offCheckClear c on value held) s fun t =>
        OnlyMoves [Obj.diagStatus l] s t ∧ ∀ i, i < 16 → t.bit (Obj.diagStatus l) i =
          (s.bit (Obj.diagStatus l) i && i != 13 && i != 14)))

/-- Demands of field outputs (R123 to R125, R135 to R137): frames of a die deliver the demands and its cells switch; without
frames every cell but those in OUT_DIRECT turns off; the duty of OUT_PWM follows the supply; DIRECT balls and flashes move
base demands. -/
def Obligations.OutputCellsFollowTheirDemands : Prop :=
  ∀ (s : State) (k : Fin 4) (d : Die), s.variant.hasDie k.val = true → s.dies[k.val]? = some d →
    -- OUTPUT_FRAME
    (s.live = true → d.reversed = false → Answers (.outputFrame k true) s fun t =>
      OneMoves k.val { d with outAt := s.now, outUp := true } s.dies t.dies ∧
      ∀ c x, c ∈ s.chansOf k → s.chans[c]? = some x → x.lead = none →
        ∃ y, t.chans[c]? = some y ∧ y.dem = (s.demandOf c && s.driven) ∧ y.on = t.wantOn c) ∧
    (Answers (.outputFrame k false) s fun t => t = s) ∧
    -- OUTPUT_LINK_TIMEOUT after 150 µs
    (d.outUp = true → d.outAt + us 150 ≤ s.now → Answers (.outputLinkTimeout k) s fun t =>
      OneMoves k.val { d with outUp := false } s.dies t.dies ∧
      ∀ c x, c ∈ s.chansOf k → s.chans[c]? = some x → s.mode c ≠ 8 → isOutput (s.mode c) = true →
        t.bit (Obj.diagStatus c) 7 = true ∧ ∃ y, t.chans[c]? = some y ∧ y.on = false) ∧
    -- PWM_COMPENSATION: the duty code is rounded and saturates at 1023
    (∀ v, 0 < v → Answers (.pwmCompensation k v) s fun t => t.get (Obj.vfldVoltage k) = min v 65535 ∧
      ∀ c, c ∈ s.chansOf k → s.mode c = 7 →
        t.get (Obj.effectiveDuty c) =
          min 1023 ((2 * 1023 * s.baseDemand c * 24000 * 24000 + 255 * v * v) / (2 * (255 * v * v)))) ∧
    -- DIRECT_PIN_CHANGE
    (∀ (n : Fin 16) level, Answers (.directPinChange n level) s fun t =>
      t.direct = s.direct.set n.val level ∧
      ∀ c x, c < 256 → s.chans[c]? = some x →
        (s.variant.hasChan c = true → s.mode c = 8 → (s.regs c).pin ≠ 255 → (s.regs c).pin % 16 = n.val →
          ∃ y, t.chans[c]? = some y ∧ y.on = t.wantOn c) ∧
        ((s.mode c ≠ 8 ∨ (s.regs c).pin % 16 ≠ n.val) → t.chans[c]? = some x)) ∧
    -- FLASH_TOGGLE
    (∀ (c : Fin 256) (x : Chan) (f : Flash), s.live = true → s.chans[c.val]? = some x → x.flash = some f →
      f.next ≤ s.now → Answers (.flashToggle c) s fun t => ∃ y, t.chans[c.val]? = some y ∧
        y.flash = some { f with on := !f.on, next := f.next + f.half } ∧ y.base = x.base ∧ y.orphan = x.orphan)

/-- Supplies and links of the field dies (R25, R138, R139, R388): under-voltage and a ground shift turn a die's cells off
and set DIE_UV, a surge only shows itself, a loss of the registers leaves every channel OFF until the reload. `d` is the
state of die `k`. -/
def Obligations.DieSupplyConditionsActOnTheirDie : Prop :=
  ∀ (s : State) (k : Fin 4) (d : Die), s.variant.hasDie k.val = true → s.dies[k.val]? = some d →
    -- DIE_UNDER_VOLTAGE and DIE_UV_EXIT
    (∀ mv held, d.uv = false → mv < 15500 → 100 ≤ held → Answers (.dieUnderVoltage k mv held) s fun t =>
      OneMoves k.val { d with uv := true } s.dies t.dies ∧
      (∀ c x, c ∈ s.chansOf k → s.chans[c]? = some x →
        t.bit (Obj.diagStatus c) 6 = true ∧ ∃ y, t.chans[c]? = some y ∧ y.on = false) ∧
      (s.live = true → t.bit (Obj.dieSupplyStatus k) 0 = true ∧ CountsUp (Obj.uvCount k) s t)) ∧
    (∀ mv held, d.uv = true → 16500 ≤ mv → 10000 ≤ held → Answers (.dieUvExit k mv held) s fun t =>
      OneMoves k.val { d with uv := false } s.dies t.dies ∧
      (s.live = true → t.bit (Obj.dieSupplyStatus k) 0 = false) ∧
      (d.gnd = false → ∀ c x, c ∈ s.chansOf k → s.chans[c]? = some x →
        t.bit (Obj.diagStatus c) 6 = false ∧ ∃ y, t.chans[c]? = some y ∧ (isInput (s.mode c) = true → y.ran = false))) ∧
    -- GND_SHIFT_ENTRY and GND_SHIFT_EXIT
    (∀ mv held, d.gnd = false → 2000 < mv → 1000 ≤ held → Answers (.gndShiftEntry k mv held) s fun t =>
      OneMoves k.val { d with gnd := true } s.dies t.dies ∧
      (∀ c x, c ∈ s.chansOf k → s.chans[c]? = some x →
        t.bit (Obj.diagStatus c) 6 = true ∧ ∃ y, t.chans[c]? = some y ∧ y.on = false) ∧
      (s.live = true → t.bit (Obj.dieSupplyStatus k) 2 = true ∧ CountsUp (Obj.gndShiftCount k) s t)) ∧
    (∀ mv held, d.gnd = true → mv ≤ 1000 → 10000 ≤ held → Answers (.gndShiftExit k mv held) s fun t =>
      OneMoves k.val { d with gnd := false } s.dies t.dies ∧
      (s.live = true → t.bit (Obj.dieSupplyStatus k) 2 = false) ∧
      (d.uv = false → ∀ c x, c ∈ s.chansOf k → s.chans[c]? = some x → t.bit (Obj.diagStatus c) 6 = false)) ∧
    -- SURGE_ENTRY and SURGE_EXIT: the cells keep their states
    (∀ mv held, d.surge = false → 31500 < mv → 1000 ≤ held → Answers (.surgeEntry k mv held) s fun t =>
      OneMoves k.val { d with surge := true } s.dies t.dies ∧ t.chans = s.chans ∧
      (s.live = true → t.bit (Obj.dieSupplyStatus k) 1 = true ∧ CountsUp (Obj.surgeCount k) s t)) ∧
    (∀ mv held, d.surge = true → mv ≤ 30500 → 10000 ≤ held → Answers (.surgeExit k mv held) s fun t =>
      OneMoves k.val { d with surge := false } s.dies t.dies ∧ t.chans = s.chans ∧
      (s.live = true → t.bit (Obj.dieSupplyStatus k) 1 = false)) ∧
    -- FIELD_POR and its reload at the first good frame
    (∀ mv, mv < 8000 → Answers (.fieldPor k mv) s fun t =>
      OneMoves k.val { d with lost := true, reversed := false, porAt := s.now, regs := List.replicate 64 ChanRegs.reset }
        s.dies t.dies ∧
      ∀ c x, c ∈ s.chansOf k → s.chans[c]? = some x →
        t.mode c = 0 ∧ ∃ y, t.chans[c]? = some y ∧ y.on = false ∧ y.ran = false) ∧
    (s.live = true → d.lost = true → d.reversed = false → d.heard = true →
      ¬ (0x10 ≤ s.get Obj.powerPhase ∧ s.get Obj.powerPhase ≤ 0x13) → Answers (.fieldPorReload k) s fun t =>
        t.bit (Obj.dieSupplyStatus k) 3 = true ∧ CountsUp (Obj.diePorCount k) s t ∧
        ∃ e, t.dies[k.val]? = some e ∧ e.lost = false ∧
          (d.regs.length = 64 → ∀ c, c ∈ s.chansOf k → t.mode c = s.get (Obj.channelMode c))) ∧
    -- REVERSE_SUPPLY: cells in an output mode conduct
    (d.reversed = false → Answers (.reverseSupply k) s fun t => t.objs = s.objs ∧
      OneMoves k.val { d with reversed := true, lost := true } s.dies t.dies ∧
      ∀ c x, c ∈ s.chansOf k → s.chans[c]? = some x →
        t.chans[c]? = some (if isOutput (s.get (Obj.channelMode c)) then { x with on := true } else x)) ∧
    -- LATTICE_LINK_TIMEOUT: 150 µs without a good frame
    (s.live = true → d.lattUp = true → d.lattAt + us 150 ≤ s.now → Answers (.latticeLinkTimeout k) s fun t =>
      OneMoves k.val { d with lattUp := false } s.dies t.dies ∧ t.latLink k = false)

/-- The lattice's inputs (R25 to R30): a frame delivers the states of a die and publishes permits and gates, a contact takes
its new state when its filter time has passed, and a pair that contradicts itself is an input fault until it has been
consistent for 1.0 s. With the term false no coil that carries the closed loop is energised. -/
def Obligations.LatticeInputsFilterFaultAndMoveTheLoop : Prop :=
  ∀ (s : State), s.live = true →
    -- LATTICE_FRAME
    (∀ (k : Fin 4) (d : Die), s.variant.hasDie k.val = true → s.dies[k.val]? = some d → d.reversed = false →
      s.lat.started = true → Answers (.latticeFrame k true) s fun t =>
        OneMoves k.val { d with lattAt := s.now, lattUp := true } s.dies t.dies ∧
        (∀ c x, c ∈ s.latContacts → c / 64 = k.val → s.lat.contacts[c]? = some x → t.lat.contacts[c]? =
          some (if x.seen = s.lattRaw c ∧ d.lattUp = true then x else { x with seen := s.lattRaw c, since := s.now })) ∧
        t.get Obj.permitStatus = t.permitWord ∧ t.lat.gates = (List.finRange 24).map t.gateTerm ∧
        (t.loopTerm = false → (t.coil 0).on = false)) ∧
    (∀ (k : Fin 4), Answers (.latticeFrame k false) s fun t => t = s) ∧
    -- LATTICE_FILTER_EXPIRY
    (∀ (c : Fin 256) (x : Contact), s.lat.started = true → (s.die (c / 64)).lattUp = true → c.val ∈ s.latContacts →
      s.lat.contacts[c.val]? = some x → (x.seen ≠ x.filtered ∨ x.primed = false) →
      x.since + us (filterOf s.image c) ≤ s.now → Answers (.latticeFilterExpiry c) s fun t =>
        OneMoves c.val { x with filtered := x.seen, primed := true } s.lat.contacts t.lat.contacts ∧
        (t.loopTerm = false → (t.coil 0).on = false ∧ (s.variant.isP = false → (t.coil 1).on = false))) ∧
    -- DISCREPANCY_TIMEOUT and INPUT_FAULT_CLEAR
    (∀ (i : LatInput) (w : PairWatch), s.lat.pairs[pairIndex i]? = some w →
      Passed w.badSince (ms s.image.discrepancy) s → w.fault = false → Answers (.discrepancyTimeout i) s fun t =>
        BitTo (faultPlace i).1 (faultPlace i).2 true s t ∧ CountsUp Obj.latticeFaultCount s t ∧
        OneMoves (pairIndex i) { w with fault := true } s.lat.pairs t.lat.pairs ∧
        (t.loopTerm = false → (t.coil 0).on = false)) ∧
    (∀ (i : LatInput) (w : PairWatch), s.lat.pairs[pairIndex i]? = some w →
      Passed w.goodSince (sec 1) s → w.fault = true → Answers (.inputFaultClear i) s fun t =>
        BitTo (faultPlace i).1 (faultPlace i).2 (t.faultShared i) s t ∧
        OneMoves (pairIndex i) { w with fault := false } s.lat.pairs t.lat.pairs)

/-- HELD of the lattice (R23, R34, R35, R37, R38): each of its causes brings it there, with both coils off, every unlock gate
closed, every permit false and the cause kept beside the earlier ones. -/
def Obligations.EveryHeldCauseBringsTheLatticeIntoHeld : Prop :=
  ∀ (s : State), s.live = true →
    (∀ n, 2 ≤ n → Answers (.channelDisagree n) s (EntersHeld 2 s)) ∧
    (∀ n, (n < 1280 ∨ 1920 < n) → 1 ≤ s.lat.badWindows → Answers (.monitorWindow n) s (EntersHeld 3 s)) ∧
    (∀ n, (n < 205 ∨ 307 < n) → 1 ≤ s.lat.badCounts → Answers (.monitorCount n) s (EntersHeld 4 s)) ∧
    (∀ i : Fin 2, (s.coil i).on = true → s.fd0Ok = true → s.rb i = some false → s.rbJudged i = true →
      (s.coil i).onAt + ms s.image.readback ≤ s.now → Answers (.rbNoPull i) s (EntersHeld 5 s)) ∧
    (∀ i : Fin 2, (s.coil i).on = false → s.fd0Ok = true → s.rb i = some true → (s.coil i).offAt + ms 20 ≤ s.now →
      Answers (.rbStuckPulled i) s (EntersHeld 6 s)) ∧
    (∀ i : Fin 2, (s.coil i).pulse = true → (s.coil i).pulseAt + us 100 ≤ s.now →
      Answers (.pulseFault i) s (EntersHeld 7 s)) ∧
    (∀ i : Fin 2, Answers (.coilDrive i) s (EntersHeld 8 s)) ∧
    -- one bad window or count alone is remembered; a good one forgets it
    (∀ n, (n < 1280 ∨ 1920 < n) → s.lat.badWindows = 0 → Answers (.monitorWindow n) s fun t =>
      t.objs = s.objs ∧ t.lat = { s.lat with badWindows := 1, goodWindows := 0 }) ∧
    (∀ n, 1280 ≤ n → n ≤ 1920 → Answers (.monitorWindow n) s fun t =>
      t.objs = s.objs ∧ t.lat = { s.lat with badWindows := 0, goodWindows := s.lat.goodWindows + 1 }) ∧
    (∀ n, (n < 205 ∨ 307 < n) → s.lat.badCounts = 0 → Answers (.monitorCount n) s fun t =>
      t.objs = s.objs ∧ t.lat = { s.lat with badCounts := 1, goodCounts := 0 }) ∧
    (∀ n, 205 ≤ n → n ≤ 307 → Answers (.monitorCount n) s fun t =>
      t.objs = s.objs ∧ t.lat = { s.lat with badCounts := 0, goodCounts := s.lat.goodCounts + 1 })

/-- Readbacks, test pulses and the end of INIT (R22, R33, R35, R38). -/
def Obligations.ReadbacksPulsesAndTheEndOfInit : Prop :=
  ∀ (s : State), s.live = true →
    -- READBACK_SAMPLE: the filters take the samples while FD0 delivers; LOOP_CLOSED follows, and its rise counts
    (∀ b1 b2, s.served = true → Answers (.readbackSample b1 b2) s fun t =>
      t.lat.rb = (if s.latLink 0 then [(s.lat.rb.getD 0 Readback.reset).sample s.now b1,
        (s.lat.rb.getD 1 Readback.reset).sample s.now b2] else [Readback.reset, Readback.reset]) ∧
      t.lat.closed = t.loopClosed ∧
      (t.loopClosed = true → s.lat.closed = false → CountsUp Obj.loopCloseCount s t ∧
        t.get Obj.lastLoopOpenTime = fitTo Obj.lastLoopOpenTime ((s.now - s.lat.loopOpenAt) / ms 1)) ∧
      ((t.loopClosed = false ∨ s.lat.closed = true) → t.get Obj.loopCloseCount = s.get Obj.loopCloseCount)) ∧
    -- TEST_PULSE_START and TEST_PULSE_END
    (∀ (i : Fin 2) (c : Coil), s.lat.coils[i.val]? = some c → c.on = true → c.pulse = false →
      (s.coil (1 - i.val)).pulse = false → c.pulseDue ≤ s.now → Answers (.testPulseStart i) s fun t =>
        t.objs = s.objs ∧ t.coilPin i = false ∧ t.lat.coils[i.val]? =
          some { c with pulse := true, pulseAt := s.now, pulseDue := s.now + ms s.image.pulsePeriod } ∧
        (i = 0 → (s.lat.coils[1]?.isSome = true) → (t.coil 1).pulseDue = s.now + ms s.image.pulsePeriod / 2)) ∧
    (∀ (i : Fin 2) (c : Coil), s.lat.coils[i.val]? = some c → c.pulse = true →
      c.pulseAt + us s.image.pulseWidth ≤ s.now → Answers (.testPulseEnd i) s fun t =>
        t.objs = s.objs ∧ OneMoves i.val { c with pulse := false } s.lat.coils t.lat.coils) ∧
    -- LATTICE_INIT_END, all checks passed and with a failed one
    (∀ vectorsOk a b, s.get Obj.latticeState = 0 → s.lat.started = true → s.initRipe = true → 2 ≤ s.lat.goodWindows →
      s.rb 0 = some a → s.rb 1 = some b → s.pow.off = none → Answers (.latticeInitEnd vectorsOk) s fun t =>
        (s.salt.imageOk = true → vectorsOk = true → a = false → b = false →
          t.get Obj.latticeState = 1 ∧ t.get Obj.permitStatus = t.permitWord ∧ t.get Obj.heldCause = s.get Obj.heldCause) ∧
        ((s.salt.imageOk = false ∨ vectorsOk = false ∨ a = true ∨ b = true) →
          t.get Obj.latticeState = 2 ∧ (t.coil 0).on = false ∧ (t.coil 1).on = false ∧
          t.bit Obj.heldCause 0 = (s.bit Obj.heldCause 0 || !s.salt.imageOk) ∧
          t.bit Obj.heldCause 1 = (s.bit Obj.heldCause 1 || !vectorsOk) ∧
          t.bit Obj.heldCause 6 = (s.bit Obj.heldCause 6 || a || b)))

/-- Axis faults of the drive (R66, R67, R72): over-current, a fault of the current sense and a movement against DIR_a switch
EN_a off at once, set FAULT and their cause, and force a running sequencer into its FaultState; the direction changes when its
guard has ended. `x` is the state of axis `a`. -/
def Obligations.AxisFaultsSwitchTheDriveOff : Prop :=
  ∀ (s : State) (a : Fin 24) (x : Axis), s.live = true → s.variant.hasAxis a.val = true → s.axes[a.val]? = some x →
    -- OVERCURRENT, SENSE_FAULT, DIRECTION_FAULT
    (∀ i1 i2 i3, s.get (Obj.iTrip a) ≤ i1 → s.get (Obj.iTrip a) ≤ i2 → s.get (Obj.iTrip a) ≤ i3 →
      Answers (.overcurrent a i1 i2 i3) s fun t => TakesFault a 0 s t ∧
        ∃ y, t.axes[a.val]? = some y ∧ y.en = false ∧ y.reaction = .enLow) ∧
    (∀ held, 1000 ≤ held → Answers (.senseFault a held) s fun t => TakesFault a 1 s t ∧
        ∃ y, t.axes[a.val]? = some y ∧ y.en = false ∧ y.reaction = .enLow) ∧
    (410 ≤ (s.geti (Obj.duty a)).natAbs →
      (s.get (Obj.dirErrCounts a) : Int) ≤ (if x.dir then x.dirBase - s.pos a else s.pos a - x.dirBase) →
      Answers (.directionFault a) s fun t => TakesFault a 3 s t ∧
        ∃ y, t.axes[a.val]? = some y ∧ y.en = false ∧ y.reaction = .enLow) ∧
    -- DIR_GUARD_END
    (∀ g d, x.guard = some (g, d) → g ≤ s.now → Answers (.dirGuardEnd a) s fun t => t.objs = s.objs ∧
      OneMoves a.val { x with guard := none, dir := d, dirBase := s.pos a, teeth := 0, gap := none } s.axes t.axes)

/-- Obstacle detection (R67, R77 to R81, R87): the current window is judged against the threshold of its bin; a trip by
current, by speed or by a trip input brakes the axis and is recorded. `x` is the state of axis `a`. -/
def Obligations.ObstacleTripsBrakeTheAxis : Prop :=
  ∀ (s : State) (a : Fin 24) (x : Axis), s.live = true → s.variant.hasAxis a.val = true → s.axes[a.val]? = some x →
    -- CURRENT_WINDOW outside and inside a motion to an end
    (∀ mean, Answers (.currentWindow a mean) s fun t =>
      t.get (Obj.currentMean a) = encSigned 32 (clampI (-60000) 60000 mean) ∧ OnlyMoves [Obj.currentMean a] s t ∧
      (s.toEnd a = false → t.axes = s.axes) ∧
      (s.toEnd a = true → ∃ y, OneMoves a.val y s.axes t.axes ∧ y.overSince =
        if x.armed = true ∧ s.threshold a (s.binAt a) (s.target a == 1) < (clampI (-60000) 60000 mean).natAbs
        then some (x.overSince.getD s.now) else none)) ∧
    -- ARM_DELAY_EXPIRY
    (s.toEnd a = true → x.moveAt + ms (s.get (Obj.armDelay a)) ≤ s.now → Answers (.armDelayExpiry a) s fun t =>
      t.objs = s.objs ∧ OneMoves a.val { x with armed := true } s.axes t.axes) ∧
    -- CURRENT_TRIP, SPEED_TRIP, TRIP_INPUT
    (s.toEnd a = true → x.armed = true → Passed x.overSince (ms (s.get (Obj.envDebounce a))) s →
      Answers (.currentTrip a) s (Trips a (if s.envelopeActive a then 1 else 5) s)) ∧
    (s.toEnd a = true → s.tooSlow a = true → Passed x.slowSince (ms (s.get (Obj.envDebounce a))) s →
      Answers (.speedTrip a) s (Trips a 2 s)) ∧
    (∀ n : Fin 2, s.toEnd a = true → s.target a = 0 → x.tripArmed = true → s.tripLevel a n = true →
      Answers (.tripInput a n) s (Trips a (3 + n.val) s))

/-- The end of a motion (R71, R83, R88, R101): AT_TARGET within the window, the end stop of an UNREFERENCED axis with its
datum at the closed end, and the overtime. `x` is the state of axis `a`.
The speed loop and the set-points (R52, R70, R74): a driven axis takes the duty of the loop's sum within its limit, any
other axis keeps its duty; a set-point steps towards its target with its slew. -/
def Obligations.MotionsAreDrivenAndEndAtTheirTarget : Prop :=
  (
  ∀ (s : State) (a : Fin 24) (x : Axis), s.live = true → s.variant.hasAxis a.val = true → s.axes[a.val]? = some x →
    -- AT_TARGET
    (s.toEnd a = true → s.unref a = false → x.running = false →
      (s.pos a - (if s.target a = 1 then (s.stroke a : Int) else 0)).natAbs ≤ s.get (Obj.targetWindow a) →
      Answers (.atTarget a) s fun t => t.st a 0 = true ∧ t.st a 10 = decide (s.vref a = 0) ∧
        OnlyMoves [Obj.axisStatus a] s t ∧
        ∃ y, OneMoves a.val y s.axes t.axes ∧ y.en = true ∧ y.braked = false ∧ y.armed = false ∧ y.tripArmed = false ∧
          y.pendingLearn = if x.clean = true ∧ x.fullStroke = true ∧ s.st a 7 = false ∧ s.variant.isE = false
            then some (decide (s.target a = 1)) else none) ∧
    -- END_STOP_DETECT
    (s.atEndStop a = true → Passed x.endStopSince (ms (s.get (Obj.endStopTime a))) s →
      Answers (.endStopDetect a) s fun t => t.st a 0 = true ∧
        t.unref a = !(decide (s.target a = 0) && (decide (s.get (Obj.datumChannel a) = 65535)
          || (decide (s.get (Obj.datumChannel a) ≤ 255) && s.inputOn (s.get (Obj.datumChannel a)))))) ∧
    -- OVERTIME
    (s.toEnd a = true → s.st a 7 = false → s.overtimeAt a ≤ s.now → Answers (.overtime a) s fun t =>
      BitTo (Obj.axisStatus a) 7 true s t ∧ OnlyMoves [Obj.axisStatus a] s t ∧
      OneMoves a.val { x with clean := false } s.axes t.axes)) ∧
  (
  ∀ (s : State), s.live = true →
    -- SPEED_LOOP_UPDATE
    (Answers .speedLoopUpdate s fun t =>
      (∀ a x, a ∈ s.axes24 → s.axes[a]? = some x → x.en = true → x.braked = false →
        let u := moveTraj a s
        let lim : Int := u.dutyLim a
        let e := u.vref a - s.spd a
        let acc := clampI (-lim) lim (x.acc + Int.tdiv (s.get (Obj.speedKi a) * e) 65536)
        t.vref a = u.vref a ∧ (∃ y, t.axes[a]? = some y ∧ y.acc = acc) ∧
        t.get (Obj.duty a) = encSigned 16 (clampI (-lim) lim (Int.tdiv (s.get (Obj.feedForward a) * u.vref a) 1000
          + Int.tdiv (s.get (Obj.speedKp a) * e) 256 + acc))) ∧
      (∀ (a : Fin 24) (x : Axis), s.axes[a.val]? = some x → (x.en = false ∨ x.braked = true) →
        t.axes[a.val]? = some x ∧ t.get (Obj.duty a) = s.get (Obj.duty a))) ∧
    -- SETPOINT_UPDATE
    (s.served = true → s.get Obj.powerPhase ≠ 0x14 → Answers .setpointUpdate s fun t => t.axes = s.axes ∧
      ∀ j p, j < (if s.variant.isT then 3 else 2) → s.setpts[j]? = some p → ∃ raw, t.setpts[j]? = some ⟨raw, s.busTarget j⟩ ∧
        raw = (if p.raw < 65536 * s.busTarget j
          then min (65536 * s.busTarget j) (p.raw + s.get (Obj.slewUp j) * 65536 / 100)
          else max (65536 * s.busTarget j) (p.raw - s.get (Obj.slewDown j) * 65536 / 100)) ∧
        t.get (Obj.output j) = fitTo (Obj.output j) ((raw + 32768) / 65536)))

/-- Counting feedback (R90, R91, R94, R103): one edge of an encoder or one tooth moves the counts by one and Position with
them, an illegal transition counts, and Speed follows from the edges of its window. `x` is the state of axis `a`. -/
def Obligations.EdgesAndTeethMoveThePosition : Prop :=
  ∀ (s : State) (a : Fin 24) (x : Axis), s.live = true → s.served = true → s.variant.hasAxis a.val = true →
    s.axes[a.val]? = some x →
    -- ENCODER_EDGE on one line
    (∀ la lb, s.get (Obj.feedbackMode a) = 0 → x.pairBad.getD 0 false = false → x.pairBad.getD 1 false = false →
      x.rangeStopped = false → (la != x.levelA) = !(lb != x.levelB) →
      InRange a (s.total a + (if ((if la != x.levelA then la != lb else la == lb) != s.inverted a) then 1 else -1)) s →
      Answers (.encoderEdge a la lb) s fun t =>
        CountsAt a (s.total a + (if ((if la != x.levelA then la != lb else la == lb) != s.inverted a) then 1 else -1)) s t ∧
        ∃ y, t.axes[a.val]? = some y ∧ y.levelA = la ∧ y.levelB = lb) ∧
    -- ENCODER_EDGE on both lines: an illegal transition; the counts stay
    (∀ la lb, s.get (Obj.feedbackMode a) = 0 → x.pairBad.getD 0 false = false → x.pairBad.getD 1 false = false →
      la ≠ x.levelA → lb ≠ x.levelB → Answers (.encoderEdge a la lb) s fun t =>
        t.fb a 2 = true ∧ CountsUp (Obj.illegalCount a) s t ∧ t.get (Obj.inRev a) = s.get (Obj.inRev a) ∧
        t.get (Obj.position a) = s.get (Obj.position a) ∧
        ∃ y, t.axes[a.val]? = some y ∧ y.levelA = la ∧ y.levelB = lb ∧
          y.illegalAt = x.illegalAt.filter (fun u => decide (s.now < u + sec 1)) ++ [s.now]) ∧
    -- ILLEGAL_BIT_EXPIRY
    ((∀ u, u ∈ x.illegalAt → u + sec 1 ≤ s.now) → Answers (.illegalBitExpiry a) s fun t =>
      BitTo (Obj.feedbackStatus a) 2 false s t ∧ OnlyMoves [Obj.feedbackStatus a] s t ∧
      OneMoves a.val { x with illegalAt := [] } s.axes t.axes) ∧
    -- TONE_TOOTH: the first tooth of a run with EN_a high
    (s.get (Obj.feedbackMode a) = 1 → x.pairBad.getD 0 false = false → x.toothAt = none → x.en = true →
      x.rangeStopped = false → InRange a (s.total a + (if s.toneUp a then 1 else -1)) s →
      Answers (.toneTooth a) s fun t => CountsAt a (s.total a + (if s.toneUp a then 1 else -1)) s t ∧
        ∃ y, t.axes[a.val]? = some y ∧ y.toothAt = some s.now ∧ y.teeth = 1) ∧
    -- SPEED_COMPUTE: no edge; two edges of the window
    (x.edges = [] → Answers (.speedCompute a) s fun t => t.get (Obj.speed a) = 0) ∧
    (∀ e0 e1, (x.edges.filter fun e => decide (s.f ≤ e.t + ms (s.get (Obj.speedWindow a)))).head? = some e0 →
      x.edges.getLast? = some e1 → e0.t ≠ e1.t → Answers (.speedCompute a) s fun t =>
        t.get (Obj.speed a) = encSigned 32 (Int.tdiv ((e1.pos - e0.pos) * 150000000) ((e1.t : Int) - e0.t)))

/-- Reference marks, input pairs and compare pulses (R92, R98 to R100, R105). `x` is the state of axis `a`.
Serial words (R96, R97): a valid word sets the counts and Position, an invalid one counts and keeps them; the four bits of
FeedbackStatus show what was wrong with the latest word. `x` is the state of axis `a` in SERIAL mode. -/
def Obligations.ReferencesPairsComparesAndSerialWords : Prop :=
  (
  ∀ (s : State) (a : Fin 24) (x : Axis), s.live = true → s.variant.hasAxis a.val = true → s.axes[a.val]? = some x →
    -- REFERENCE_MARK of an axis without its phase: the phase capture keeps Position
    (s.served = true → s.get (Obj.feedbackMode a) = 0 → s.get (Obj.refMode a) ≠ 0 →
      (s.unref a = true ∨ s.fb a 3 = false) → Answers (.referenceMark a) s fun t =>
        t.get (Obj.inRev a) = 0 ∧ t.fb a 3 = true ∧ t.fb a 5 = false ∧ t.get (Obj.position a) = s.get (Obj.position a)) ∧
    -- REFERENCE_MARK within and outside the tolerance; `e` is the reference error
    (∀ e, s.served = true → s.get (Obj.feedbackMode a) = 0 → s.get (Obj.refMode a) ≠ 0 → s.unref a = false →
      s.fb a 3 = true → e = refError (s.get (Obj.countsPerRev a)) (s.get (Obj.inRev a)) →
      Answers (.referenceMark a) s fun t => t.fb a 5 = false ∧
        t.get (Obj.lastRefError a) = encSigned (8 * Machine.sizeOf (Obj.lastRefError a)) e ∧
        (e.natAbs ≤ s.get (Obj.refTolerance a) → t.get (Obj.refSlipRun a) = 0 ∧ t.fb a 4 = false) ∧
        (s.get (Obj.refTolerance a) < e.natAbs → CountsUp (Obj.refSlipCount a) s t ∧ t.fb a 4 = true) ∧
        (s.get (Obj.refMode a) ≠ 2 → t.get (Obj.inRev a) = s.get (Obj.inRev a) ∧
          t.get (Obj.position a) = s.get (Obj.position a))) ∧
    -- PAIR_GLITCH
    (∀ (i : Fin 3) (b : Bool), s.pairInput a i = true → Answers (.pairGlitch a i b) s fun t =>
      t.fb a 1 = (x.pairBad.set i b).any id ∧
      (b = true → x.pairBad.getD i false = false → CountsUp (Obj.pairGlitchCount a) s t) ∧
      ∃ y, OneMoves a.val y s.axes t.axes ∧ y.pairBad = x.pairBad.set i b) ∧
    -- PAIR_FAULT
    (∀ (i : Fin 3) (held : Nat), s.pairInput a i = true → x.pairBad.getD i false = true →
      s.get (Obj.pairFaultTime a) ≤ held → Answers (.pairFault a i held) s fun t =>
        TakesFault a 2 s t ∧ BitTo (Obj.feedbackFault a) i true s t ∧
        ∃ y, t.axes[a.val]? = some y ∧ y.pairLong = x.pairLong.set i true) ∧
    -- COMPARE_PULSE_END
    (∀ u, x.pulseUntil = some u → u ≤ s.now → Answers (.comparePulseEnd a) s fun t =>
      t.objs = s.objs ∧ OneMoves a.val { x with pulseUntil := none } s.axes t.axes)) ∧
  (
  ∀ (s : State) (a : Fin 24) (x : Axis), s.live = true → s.served = true → s.variant.hasAxis a.val = true →
    s.axes[a.val]? = some x → s.get (Obj.feedbackMode a) = 2 →
    -- SSI_WORD_START
    (∀ h, x.wordAt + us (s.get (Obj.ssiPeriod a)) ≤ s.now → Answers (.ssiWordStart a h) s fun t => t.objs = s.objs ∧
      OneMoves a.val { x with wordAt := s.now, wordHigh := h } s.axes t.axes) ∧
    -- SSI_WORD_END
    (∀ word mt st err ok, s.ssiFields a word = (mt, st, err, ok) → Answers (.ssiWordEnd a word) s fun t =>
      let total := s.ssiTotal a mt st
      let jump := (x.lastWord.map fun u => decide (s.get (Obj.ssiJumpLimit a) < (total - u).natAbs)).getD false
      t.fb a 7 = !x.wordHigh ∧ t.fb a 8 = !ok ∧ t.fb a 9 = err ∧ t.fb a 10 = jump ∧
      ((x.wordHigh = false ∨ ok = false ∨ err = true ∨ jump = true) →
        CountsUp (Obj.ssiErrCount a) s t ∧ t.get (Obj.position a) = s.get (Obj.position a) ∧
        (s.get (Obj.ssiErrLimit a) ≤ x.invalidRun + 1 → TakesFault a 2 s t ∧ t.bit (Obj.feedbackFault a) 4 = true) ∧
        ∃ y, t.axes[a.val]? = some y ∧ y.invalidRun = x.invalidRun + 1) ∧
      (x.wordHigh = true → ok = true → err = false → jump = false → x.rangeStopped = false → InRange a total s →
        CountsAt a total s t ∧ (∃ y, t.axes[a.val]? = some y ∧ y.lastWord = some total ∧ y.invalidRun = 0) ∧
        t.unref a = (s.unref a && !(!x.validSeen && s.flag (Obj.offsetValid a))))))

/-- The sequencers (R46 to R49, R56, R58): a tick carries an instance that FAULT has forced into its FaultState, takes an
unconditional first transition and leaves an instance without transitions in its state; a timer expires; commands whose
CmdWait or CmdLife has ended complete with 16#0322 and 16#0323. -/
def Obligations.SequencersTickAndTheirCommandsExpire : Prop :=
  ∀ (s : State) (i : Fin 32) (q : SeqInst), s.live = true → s.seq.insts[i.val]? = some q →
    -- SEQ_TICK with no function draining
    (∀ (tb : SeqTab) (r : StateRec), q.running = true → s.tickDue = true → s.sup.deferred = false →
      (∀ n, s.fnState n ≠ 2) → s.tableOf i = some tb →
      Answers .seqTick s fun t => t.seq.lastTick = some (s.tb / 100) ∧
        (q.forced = true → tb.states[tb.faultState]? = some r →
          t.stateNo i = fitTo (stateKey i) tb.faultState ∧
          (8 ≤ i.val → t.get (Obj.reportBits (i - 8)) = fitTo (Obj.reportBits (i - 8)) r.report)) ∧
        (q.forced = false → s.stateRec i = some r → r.transUsed = [] → t.stateNo i = s.stateNo i) ∧
        (∀ x r', q.forced = false → s.stateRec i = some r → r.transUsed.head? = some x → (∀ l, l ∈ x.lits → l = 0) →
          tb.states[x.target]? = some r' → t.stateNo i = fitTo (stateKey i) x.target)) ∧
    -- SEQ_TIMER_EXPIRY
    (∀ (n : Fin 4) (u : Nat), q.timers[n.val]? = some (.running u) → u ≤ s.now → Answers (.seqTimerExpiry i n) s fun t =>
      t.objs = s.objs ∧ OneMoves i.val { q with timers := q.timers.set n .expired } s.seq.insts t.seq.insts) ∧
    -- CMD_WAIT_EXPIRY
    (q.running = true → Answers (.cmdWaitExpiry i) s fun t =>
      let late := fun c : SeqCmd => s.namesCmd i c.code && decide (c.at_ + ms (s.get (Obj.cmdWait (s.setNo i))) ≤ s.now)
      OneMoves i.val { q with waiting := q.waiting.filter (!late ·) } s.seq.insts t.seq.insts ∧
      ∀ c f, c ∈ q.waiting → late c = true → s.flight c.flight = some f → f.orphan = false → f.phase ≠ .done →
        doneOf f 0x0322 0 [] s.now ∈ t.host.done) ∧
    -- CMD_LIFE_EXPIRY
    (Answers (.cmdLifeExpiry i) s fun t =>
      let late := fun c : SeqCmd => decide (c.at_ + sec (s.get (Obj.cmdLife (s.setNo i))) ≤ s.now)
      OneMoves i.val { q with accepted := q.accepted.filter (!late ·) } s.seq.insts t.seq.insts ∧
      ∀ c f, c ∈ q.accepted → late c = true → s.flight c.flight = some f → f.orphan = false → f.phase ≠ .done →
        doneOf f 0x0323 0 [] s.now ∈ t.host.done)

/-- General-purpose pins (R356, R358, R360, R361): a level from outside reaches the synchronised values, a pattern that has
held matches, a line reports its edges no closer than MinInterval, and the PPS pulse lasts PpsWidth. -/
def Obligations.PinsPatternsAndLines : Prop :=
  ∀ (s : State), s.live = true →
    -- GP_PIN_CHANGE
    (∀ (n : Fin 96) level, Answers (.gpPinChange n level) s fun t =>
      t.gp.outside = s.gp.outside.set n level ∧
      ∀ m, m < 96 → m < s.gp.sync.length → t.syncBit m = t.syncOf m) ∧
    -- PATTERN_MATCH and PATTERN_MATCH_END
    (∀ (u : Fin 4) (x : PatternUnit), s.gp.units[u.val]? = some x → Passed x.holdSince (us (s.get (Obj.holdTime u))) s →
      s.bit (Obj.unitStatus u) 0 = false → s.patternHolds u = true → Answers (.patternMatch u) s fun t =>
        t.get (Obj.unitStatus u) = 3 ∧ CountsUp (Obj.matchCount u) s t ∧ t.gp = s.gp) ∧
    (∀ (u : Fin 4), s.bit (Obj.unitStatus u) 0 = true → s.patternHolds u = false → Answers (.patternMatchEnd u) s fun t =>
      BitTo (Obj.unitStatus u) 0 false s t ∧ t.gp = s.gp) ∧
    -- LINE_EDGE: an edge of a selected direction outside and inside MinInterval, and one of the other direction
    (∀ (n : Fin 8) (pin : Nat) (l : PinLine), s.linePin n = some pin → s.gp.lines[n.val]? = some l →
      s.syncBit pin ≠ l.seen →
      ((s.get (Obj.lineConfig n) / 16 % 4).testBit (if s.syncBit pin then 0 else 1) = true →
        (∀ u, l.lastAt = some u → u + s.lineInterval n ≤ s.now) → Answers (.lineEdge n) s fun t =>
          CountsUp (Obj.lineEdgeCount n) s t ∧ OneMoves n.val
            { l with seen := s.syncBit pin, reported := s.syncBit pin, lastAt := some s.now, suppressed := false }
            s.gp.lines t.gp.lines) ∧
      (∀ u, (s.get (Obj.lineConfig n) / 16 % 4).testBit (if s.syncBit pin then 0 else 1) = true →
        l.lastAt = some u → s.now < u + s.lineInterval n → Answers (.lineEdge n) s fun t =>
          CountsUp (Obj.lineEdgeCount n) s t ∧ CountsUp (Obj.suppressedEdges n) s t ∧
          OnlyMoves [Obj.lineEdgeCount n, Obj.suppressedEdges n] s t ∧
          OneMoves n.val { l with seen := s.syncBit pin, suppressed := true } s.gp.lines t.gp.lines) ∧
      ((s.get (Obj.lineConfig n) / 16 % 4).testBit (if s.syncBit pin then 0 else 1) = false →
        Answers (.lineEdge n) s fun t => t.objs = s.objs ∧
          OneMoves n.val { l with seen := s.syncBit pin } s.gp.lines t.gp.lines)) ∧
    -- MIN_INTERVAL_END: the level is reported where it differs from the one last reported
    (∀ (n : Fin 8) (pin : Nat) (l : PinLine), s.linePin n = some pin → s.gp.lines[n.val]? = some l →
      l.suppressed = true → Passed l.lastAt (s.lineInterval n) s → Answers (.minIntervalEnd n) s fun t =>
        OneMoves n.val (if s.syncBit pin = l.reported then { l with suppressed := false }
          else { l with reported := s.syncBit pin, lastAt := some s.now, suppressed := false }) s.gp.lines t.gp.lines) ∧
    -- PPS_PULSE and PPS_PULSE_END
    (s.calValid = true → Answers .ppsPulse s fun t => t.gp.ppsUntil = some (s.now + us (s.get Obj.ppsWidth))) ∧
    (∀ u, s.gp.ppsUntil = some u → u ≤ s.now → Answers .ppsPulseEnd s fun t =>
      t.gp.ppsUntil = none ∧ t.gp.outside = s.gp.outside)

/-- The switch (R183, R186 to R190, R194): a frame received counts and its source is learned, a damaged one counts where it
fails, a frame for the other port joins its egress queue; a frame that has left frees its place for the first one of the
highest queue; old frames are discarded.
Frames of the device and links (R184, R185, R191, R194, R195, R201): a waiting frame, an ARP reply and an echo reply join
the egress queue of their port; a link comes up and goes down; LPI is entered and left. -/
def Obligations.FramesAndLinksOfThePorts : Prop :=
  (
  ∀ (s : State) (p : Fin 2) (u : PortUnit), s.live = true → s.net.ports[p.val]? = some u → p.val ∈ s.portList →
    -- PORT_FRAME_RX: runts, frames too long, a frame for the device
    (∀ f, u.up = true → f.len < 64 → Answers (.portFrameRx p f) s fun t =>
      CountsUp (Obj.rxRunts p) s t ∧ OnlyMoves [Obj.rxRunts p] s t ∧ t.net = s.net) ∧
    (∀ f, u.up = true → 1522 < f.len → Answers (.portFrameRx p f) s fun t =>
      CountsUp (Obj.rxTooLong p) s t ∧ OnlyMoves [Obj.rxTooLong p] s t ∧ t.net = s.net) ∧
    (∀ f, u.up = true → 64 ≤ f.len → f.len ≤ 1522 → s.blocked p = false → f.kind ≠ .pause → s.vlanIn p f = true →
      f.dst = Config.mac → isReserved f.dst = false → Answers (.portFrameRx p f) s fun t =>
        CountsUp (Obj.rxFrames p) s t ∧ t.get (Obj.rxOctets p) = fitTo (Obj.rxOctets p) (s.get (Obj.rxOctets p) + f.len) ∧
        (f.fcsOk = false → CountsUp (Obj.rxFcsErrors p) s t ∧ t.net = s.net) ∧
        (f.fcsOk = true → OnlyMoves [Obj.rxFrames p, Obj.rxOctets p] s t ∧
          (f.src / 2 ^ 40 % 2 = 0 → (s.net.learned.any fun e => e.mac == f.src) = false → s.net.learned.length < 512 →
            t.net.learned = s.net.learned ++ [⟨f.src, p.val, s.now⟩]))) ∧
    -- PORT_FRAME_RX: a group frame for the other port, which is sending
    (∀ f v, u.up = true → 64 ≤ f.len → f.len ≤ 1522 → f.fcsOk = true → s.blocked p = false → f.kind ≠ .pause →
      s.flag Obj.vlanFiltering = false → f.dst / 2 ^ 40 % 2 = 1 → isReserved f.dst = false → f.dst ≠ Config.mac →
      (1 - p.val) ∈ s.portList → Busy (1 - p.val) v s → 6 ≤ s.transitFree → Answers (.portFrameRx p f) s fun t =>
        Queued (1 - p.val) v
          ⟨f, some p.val, s.now, cellsOf f.len, queueOf ((f.tag.map (·.1)).getD (s.get (Obj.defaultPcp p))), false, none⟩ t) ∧
    -- EGRESS_FRAME_END
    (∀ f, u.sending = some f → Answers (.egressFrameEnd p) s fun t =>
      CountsUp (Obj.txFrames p) s t ∧
      t.get (Obj.txOctets p) = fitTo (Obj.txOctets p) (s.get (Obj.txOctets p) + f.frame.len) ∧
      (f.stomp = true → CountsUp (Obj.txStomped p) s t) ∧
      ∃ y, t.net.ports[p.val]? = some y ∧
        ((∀ q, q ∈ u.queues → q = []) → y.sending = none ∧ y.queues = u.queues) ∧
        (∀ g qs, u.up = true → u.wakeAt = none → popHighest (u.queues.map s.dropAged) = some (g, qs) →
          y.sending = some g ∧ y.queues = qs)) ∧
    -- FRAME_AGE_DISCARD on a port that is sending
    (u.sending.isSome = true → s.host.linkEgress = [] → (∃ q ∈ u.queues, ∃ f, q.head? = some f ∧ s.aged f = true) →
      Answers (.frameAgeDiscard p) s fun t =>
        OneMoves p.val { u with queues := u.queues.map s.dropAged } s.net.ports t.net.ports ∧
        t.get (Obj.discardAge p) = fitTo (Obj.discardAge p) (s.get (Obj.discardAge p) +
          (u.queues.flatten.length - (u.queues.map s.dropAged).flatten.length))) ∧
    -- LEARN_AGEING
    (∀ mac, Answers (.learnAgeing mac) s fun t => t.objs = s.objs ∧ t.net = { s.net with learned := s.net.learned.filter fun e =>
      !(e.mac == mac && decide (e.at_ + sec (s.get Obj.learnAgeing) ≤ s.now)) })) ∧
  (
  ∀ (s : State) (p : Fin 2) (u : PortUnit), s.live = true → s.net.ports[p.val]? = some u → p.val ∈ s.portList →
    -- NI_FRAME_TX, ARP_REQUEST and ICMP_ECHO towards a port that is sending
    (∀ f r dst, s.net.niWait = f :: r → s.niPorts (if f.frame.dst = 0 then dst % 2 ^ 48 else f.frame.dst) = [p.val] →
      Busy p u s → s.aged f = false → Answers (.niFrameTx dst) s fun t => t.net.niWait = r ∧
        Queued p u { f with frame :=
          { f.frame with dst := if f.frame.dst = 0 then dst % 2 ^ 48 else f.frame.dst } } t) ∧
    (∀ (r : Fin 2) target sender, s.portHears r = true → target = s.ipObj Obj.ipAddress → niReady 64 s = true →
      s.niPorts (sender % 2 ^ 48) = [p.val] → Busy p u s → Answers (.arpRequest r target sender) s fun t =>
        Queued p u (s.ownFrame (sender % 2 ^ 48) 64 2 1 .data none) t) ∧
    (∀ (r : Fin 2) target sender n, s.portHears r = true → target = s.ipObj Obj.ipAddress → n ≤ 1472 →
      niReady (46 + n) s = true → s.niPorts (sender % 2 ^ 48) = [p.val] → Busy p u s →
      Answers (.icmpEcho r target sender n) s fun t =>
        Queued p u (s.ownFrame (sender % 2 ^ 48) (46 + n) 2 1 .data none) t) ∧
    -- LINK_UP
    (∀ eee mdix a b, s.net.bypass.phys = true → s.net.bypass.coils = true → s.phyOk = true →
      Answers (.linkUp p false eee mdix a b) s fun t =>
        BitTo (Obj.portStatus p) 7 true s t ∧ OnlyMoves [Obj.portStatus p] s t ∧ t.net = s.net) ∧
    (∀ eee mdix a b, s.net.bypass.phys = true → s.net.bypass.coils = true → s.phyOk = true →
      Answers (.linkUp p true eee mdix a b) s fun t =>
        t.bit (Obj.portStatus p) 0 = true ∧ t.bit (Obj.portStatus p) 1 = u.an ∧ t.bit (Obj.portStatus p) 2 = mdix ∧
        t.bit (Obj.portStatus p) 3 = (u.an && s.flag (Obj.eeeEnable p) && eee) ∧
        t.bit (Obj.portStatus p) 8 = s.bit (Obj.portStatus p) 8 ∧
        OneMoves p.val { u with up := true, emptySince := s.now } s.net.ports t.net.ports) ∧
    -- LINK_DOWN: the queues and the learning table empty
    (u.up = true → Answers (.linkDown p) s fun t => CountsUp (Obj.linkDownCount p) s t ∧ t.net.learned = [] ∧
      t.get (Obj.portStatus p) = fitTo (Obj.portStatus p) (s.get (Obj.portStatus p) &&& 0x1C0) ∧
      OneMoves p.val ⟨false, u.an, [[], [], [], []], none, s.now, none⟩ s.net.ports t.net.ports) ∧
    -- LPI_ENTRY, LPI_WAKE, PARTNER_LPI
    (s.get Obj.powerState = 2 → u.up = true → s.bit (Obj.portStatus p) 3 = true → s.bit (Obj.portStatus p) 4 = false →
      u.cells = 0 → u.emptySince + ms 1 ≤ s.now → Answers (.lpiEntry p) s fun t =>
        BitTo (Obj.portStatus p) 4 true s t ∧ CountsUp (Obj.lpiTxEntries p) s t ∧
        OnlyMoves [Obj.portStatus p, Obj.lpiTxEntries p] s t) ∧
    (∀ w g qs, u.wakeAt = some w → w ≤ s.now → u.up = true → u.sending = none →
      popHighest (u.queues.map s.dropAged) = some (g, qs) → Answers (.lpiWake p) s fun t =>
        ∃ y, t.net.ports[p.val]? = some y ∧ y.wakeAt = none ∧ y.sending = some g ∧ y.queues = qs) ∧
    (∀ b, u.up = true → s.bit (Obj.portStatus p) 3 = true → Answers (.partnerLpi p b) s fun t =>
      BitTo (Obj.portStatus p) 5 b s t ∧ OnlyMoves [Obj.portStatus p] s t ∧ t.net = s.net))

/-- The bypass (R196 to R199): its self-test, the energising of the relays, the insertion and every failure. `b` is the state
of the bypass unit. -/
def Obligations.BypassTestsInsertsAndFails : Prop :=
  ∀ (s : State) (b : Bypass), s.live = true → s.net.bypass = b →
    -- BYPASS_SELFTEST_START
    (s.get Obj.bypassState = 0 → s.bypassServed = true → s.phyOk = true → s.fd0Ok = true → s.get Obj.bypassMode ≠ 0 →
      b.retryAt ≤ s.now → Answers .bypassSelftestStart s fun t => t.get Obj.bypassState = 1 ∧
        (∀ p, p ∈ s.portList → BitTo (Obj.portStatus p) 8 true s t) ∧
        t.net = { s.net with bypass := { b with phys := true, passed := false, since := s.now } }) ∧
    -- BYPASS_SELFTEST_END: failed, passed with and without its grant, and with a relay that shows energised
    (∀ a c, s.get Obj.bypassState = 1 → a = false → (c = false ∨ s.variant.isE = true) →
      (Answers (.bypassSelftestEnd false a c) s fun t => t.get Obj.bypassState = 0 ∧ t.net.bypass.coils = false ∧
        t.net.bypass.retryAt = s.now + sec (if b.delay = 0 then s.get Obj.insertRetryDelay else b.delay) ∧
        ∀ p, p ∈ s.portList → BitTo (Obj.portStatus p) 8 false s t) ∧
      ((s.get Obj.bypassMode ≠ 2 ∨ b.grant = true) → Answers (.bypassSelftestEnd true a c) s fun t =>
        t.get Obj.bypassState = 2 ∧ t.net.bypass.coils = true ∧ t.net.bypass.since = s.now) ∧
      (s.get Obj.bypassMode = 2 → b.grant = false → Answers (.bypassSelftestEnd true a c) s fun t =>
        t.get Obj.bypassState = 1 ∧ t.net.bypass.passed = true ∧ t.net.bypass.coils = b.coils)) ∧
    (∀ pass c, s.get Obj.bypassState = 1 → Answers (.bypassSelftestEnd pass true c) s (BypassFails 1)) ∧
    -- BYPASS_NO_PULL: 20 ms after the coils were energised
    (∀ a c, s.get Obj.bypassState = 2 → b.since + ms 20 ≤ s.now →
      ((a && (s.variant.isE || c)) = false → Answers (.bypassNoPull a c) s (BypassFails 2)) ∧
      ((a && (s.variant.isE || c)) = true → Answers (.bypassNoPull a c) s fun t =>
        t.get Obj.bypassState = (if s.linksMet then 3 else 2) ∧ (s.linksMet = true → CountsUp Obj.insertCount s t) ∧
        t.net.bypass.rbA = a ∧ t.net.bypass.rbB = c)) ∧
    -- INSERT_LINK_TIMEOUT: the failed insertion doubles the retry delay
    (s.get Obj.bypassState = 2 → b.since + ms s.linkTime ≤ s.now → (s.linksMet && s.rbOn) = false →
      Answers .insertLinkTimeout s fun t => t.get Obj.bypassState = 0 ∧ CountsUp Obj.insertFailCount s t ∧
        t.net.bypass.coils = false ∧
        t.net.bypass.delay = (if b.delay = 0 then s.get Obj.insertRetryDelay else min 320 (2 * b.delay)) ∧
        t.net.bypass.retryAt = s.now + sec t.net.bypass.delay) ∧
    -- BYPASS_DROPPED
    (∀ a c held, s.get Obj.bypassState = 3 → (a && (s.variant.isE || c)) = false → 20000 ≤ held →
      Answers (.bypassDropped a c held) s (BypassFails 3))

/-- The transparent clock (R203): residence times wait for their Follow_Up or Delay_Resp, for at most 1 s.
The ordinary clock (R202, R329 to R331): Announces select the master, Sync and Delay_Resp measure the offset, which is
published and stepped or slewed. -/
def Obligations.NetworkClocksCorrectAndDiscipline : Prop :=
  (
  ∀ (s : State) (p : Fin 2) (f : EthFrame) (udp : Bool) (d seq port : Nat), s.live = true → s.tcServes udp d = true →
    -- TC_EVENT_FORWARD
    (∀ residence, ((s.net.tc.filter fun e => e.toNb == (p.val == 0)).length < 32) →
      (f.kind = .ptp udp d (.sync true) seq port → Answers (.tcEventForward p f residence) s fun t => t.objs = s.objs ∧
        t.net = { s.net with tc := s.net.tc ++ [⟨p.val == 0, true, seq, port, residence, s.now⟩] }) ∧
      (f.kind = .ptp udp d .delayReq seq port → Answers (.tcEventForward p f residence) s fun t => t.objs = s.objs ∧
        t.net = { s.net with tc := s.net.tc ++ [⟨p.val == 0, false, seq, port, residence, s.now⟩] })) ∧
    (∀ residence, f.kind = .ptp udp d (.sync false) seq port → Answers (.tcEventForward p f residence) s fun t =>
      CountsUp Obj.tcUncorrected s t ∧ OnlyMoves [Obj.tcUncorrected] s t ∧ t.net = s.net) ∧
    -- TC_CORRECTION of a Follow_Up toward the other port
    (f.kind = .ptp udp d .followUp seq port →
      let hit := fun e : TcEntry => e.isSync == true && e.toNb == (p.val == 0) && e.seq == seq && e.port == port
      (s.net.tc.any hit = true → Answers (.tcCorrection p f) s fun t => CountsUp Obj.tcCorrected s t ∧
        OnlyMoves [Obj.tcCorrected] s t ∧ t.net = { s.net with tc := s.net.tc.filter fun e => !hit e }) ∧
      (s.net.tc.any hit = false → Answers (.tcCorrection p f) s fun t => CountsUp Obj.tcUncorrected s t ∧
        OnlyMoves [Obj.tcUncorrected] s t ∧ t.net = s.net)) ∧
    -- TC_ENTRY_EXPIRY
    (Answers .tcEntryExpiry s fun t => t.objs = s.objs ∧
      t.net = { s.net with tc := s.net.tc.filter fun e => decide (s.now < e.at_ + sec 1) })) ∧
  (
  ∀ (s : State) (p : Fin 2), s.live = true →
    -- ANNOUNCE_RX from the present master, a better one or the first one; ANNOUNCE_TIMEOUT
    (∀ a m, s.ptpHeard p a.udp a.domain = true → s.net.ptp.masters[p.val]? = some m →
      (∀ n, m = some n → n.ann.sender = a.sender ∨ announceBetter a n.ann = true) → Answers (.announceRx p a) s fun t =>
        OneMoves p.val (some ⟨a, s.now⟩) s.net.ptp.masters t.net.ptp.masters ∧
        t.clk.ptpUtcOffset = (match a.utcOffset with | some u => some u | none => s.clk.ptpUtcOffset) ∧
        t.get Obj.ocPortState = fitTo Obj.ocPortState (t.ocState 0 + 256 * (if s.variant.hasNb then t.ocState 1 else 0))) ∧
    (∀ m, s.net.ptp.masters[p.val]? = some (some m) → m.at_ + ms (3 * m.ann.intervalMs) ≤ s.now →
      Answers (.announceTimeout p) s fun t =>
        OneMoves p.val none s.net.ptp.masters t.net.ptp.masters ∧
        t.get Obj.ocPortState = fitTo Obj.ocPortState (t.ocState 0 + 256 * (if s.variant.hasNb then t.ocState 1 else 0))) ∧
    -- SYNC_RX: one-step, two-step, and the Follow_Up of a two-step Sync
    (∀ udp d sender seq origin iv, s.fromMaster p udp d sender = true →
      (Answers (.syncRx p udp d sender seq false false origin iv) s fun t => t.objs = s.objs ∧
        t.net.ptp = { s.net.ptp with syncMs := iv, syncPending := none, sync := some (origin, (s.calNs : Int)) }) ∧
      (Answers (.syncRx p udp d sender seq false true origin iv) s fun t => t.objs = s.objs ∧
        t.net.ptp = { s.net.ptp with syncMs := iv, syncPending := some (seq, s.calNs) }) ∧
      (∀ b at_, s.net.ptp.syncPending = some (seq, at_) → Answers (.syncRx p udp d sender seq true b origin iv) s fun t =>
        t.objs = s.objs ∧ t.net.ptp = { s.net.ptp with syncPending := none, sync := some (origin, (at_ : Int)) })) ∧
    -- DELAY_REQ_TX towards a port that is sending
    (∀ u udp len, s.slavePort = some p.val → s.net.ptp.delayNext ≤ s.now → Busy p u s →
      udp = (s.get Obj.ptpTransport == 1 || (s.get Obj.ptpTransport == 2 && ((s.portMaster p).map (·.udp)).getD false)) →
      len = (if udp then 90 else 64) → niReady len s = true → Answers .delayReqTx s fun t =>
        t.net.ptp = { s.net.ptp with delayReq := some (s.net.ptp.delaySeq, (s.calNs : Int))
                                     delaySeq := (s.net.ptp.delaySeq + 1) % 65536
                                     delayNext := s.now + ms s.net.ptp.delayMs } ∧
        Queued p u (s.ownFrame (if udp then 0x01005E000181 else 0x011B19000000) len 7 3
          (.ptp udp (s.get Obj.ptpDomain) .delayReq s.net.ptp.delaySeq (Config.mac * 65536 + p + 1)) none) t) ∧
    -- DELAY_RESP_RX: the offset is published, stepped at StepThreshold and slewed below it
    (∀ udp d sender seq received iv t1 t2 t3 down up o, s.fromMaster p udp d sender = true →
      s.net.ptp.sync = some (t1, t2) → s.net.ptp.delayReq = some (seq, t3) →
      down = t2 - (t1 - s.clk.usedUtcOffset.getD s.utcNow * 1000000000) →
      up = (received - s.clk.usedUtcOffset.getD s.utcNow * 1000000000) - t3 → o = Int.tdiv (down - up) 2 →
      Answers (.delayRespRx p udp d sender seq received iv) s fun t =>
        t.get Obj.offsetFromMaster = encSigned (8 * Machine.sizeOf Obj.offsetFromMaster) o ∧
        t.get Obj.meanPathDelay = encSigned (8 * Machine.sizeOf Obj.meanPathDelay) (Int.tdiv (down + up) 2) ∧
        t.net.ptp.delayReq = none ∧ t.net.ptp.delayMs = iv ∧
        (s.get Obj.calSource = 2 → t.calNs = s.calNs ∧ t.get Obj.calState = s.get Obj.calState) ∧
        (s.get Obj.calSource ≠ 2 → s.clk.usedUtcOffset = some s.utcNow → s.get Obj.stepThreshold ≤ o.natAbs →
          CountsUp Obj.calStepCount s t ∧ t.get Obj.calState = 2 ∧ t.calNs = ((s.calNs : Int) - o).toNat) ∧
        (s.get Obj.calSource ≠ 2 → s.clk.usedUtcOffset = some s.utcNow → o.natAbs < s.get Obj.stepThreshold →
          let lim : Int := s.get Obj.slewLimit
          let d : Int := max 1 s.net.ptp.syncMs
          t.clk.integ = clampTo lim (s.clk.integ + Int.tdiv (o * 1000) (16 * d)) ∧
          t.clk.rate = clampTo lim (Int.tdiv (-o * 1000) (4 * d) - t.clk.integ))))

/-- Calendar, RTC and clock monitors (R322, R327, R328, R332, R335): the offset is saved, holdover ends, the RTC is trimmed,
stops and returns, seconds are counted; a clock out of its limits is counted and resets the logic die, a network clock out of
its limits only drops the bypass. -/
def Obligations.CalendarRtcAndClockMonitors : Prop :=
  ∀ (s : State),
    -- RTC_AUTO_TRIM, CAL_OFFSET_SAVE, HOLDOVER_EXPIRY, OPERATING_SECOND
    (∀ err, s.live = true → s.get Obj.calState = 3 → s.flag Obj.rtcAutoTrim = true → s.clk.rtcRuns = true →
      s.clk.lastTrim + sec 1024 ≤ s.now → Answers (.rtcAutoTrim err) s fun t =>
        t.get Obj.rtcTrim = encSigned 16 (clampTo 2000 (s.geti Obj.rtcTrim - err)) ∧ t.clk.lastTrim = s.now ∧
        OnlyMoves [Obj.rtcTrim] s t) ∧
    (s.live = true → s.calValid = true → s.clk.lastOffsetSave + sec 1 ≤ s.now → Answers .calOffsetSave s fun t =>
      t.objs = s.objs ∧
      t.clk = { s.clk with calOffset := some ((s.calNs : Int) - rtcNs s.rtc), lastOffsetSave := s.now }) ∧
    (s.live = true → s.calValid = true → s.get Obj.holdoverLimit < s.disciplineAge → Answers .holdoverExpiry s fun t =>
      t.get Obj.calState = 0 ∧ OnlyMoves [Obj.calState] s t ∧ t.clk.calOffset = none ∧ t.clk.rate = 0) ∧
    (s.live = true → s.clk.tbSeconds < s.tb / 1000000 → Answers .operatingSecond s fun t =>
      CountsUp Obj.operatingSeconds s t ∧ OnlyMoves [Obj.operatingSeconds] s t ∧
      t.clk = { s.clk with tbSeconds := s.clk.tbSeconds + 1 }) ∧
    -- PLL_UNLOCK, XTAL_FREQ, CLOCK_DIV_FAULT
    (∀ held, s.live = true → 1 ≤ held → Answers (.pllUnlock held) s fun t =>
      Resets 7 s t ∧ t.get Obj.lastClockFault = 1 ∧ CountsUp Obj.clockFaultCount s t) ∧
    (∀ n, s.live = true → s.clk.rtcRuns = true → (n < 31094 ∨ 31406 < n) →
      (s.clk.xtalBad ≠ 0 → Answers (.xtalFreq n) s fun t =>
        Resets 7 s t ∧ t.get Obj.lastClockFault = 2 ∧ CountsUp Obj.clockFaultCount s t) ∧
      (s.clk.xtalBad = 0 → Answers (.xtalFreq n) s fun t => t.objs = s.objs ∧ t.clk = { s.clk with xtalBad := 1 })) ∧
    (∀ n, s.live = true → s.clk.rtcRuns = true → 31094 ≤ n → n ≤ 31406 → Answers (.xtalFreq n) s fun t =>
      t.objs = s.objs ∧ t.clk = { s.clk with xtalBad := 0 }) ∧
    (∀ (w : Fin 3) (n : Nat), s.live = true →
      (n + 1 < [300000, 150000, 25000].getD w 0 ∨ [300000, 150000, 25000].getD w 0 + 1 < n) →
      Answers (.clockDivFault w n) s fun t =>
        Resets 7 s t ∧ t.get Obj.lastClockFault = [3, 4, 6].getD w 0 ∧ CountsUp Obj.clockFaultCount s t) ∧
    -- NCLK_DIV and NCLK_RECOVER
    (∀ n, s.live = true → s.clk.nclkBad = false → (n + 1 < 125000 ∨ 125001 < n) → Answers (.nclkDiv n) s fun t =>
      t.clk = { s.clk with nclkBad := true } ∧ BitTo Obj.clockStatus 4 false s t ∧ t.get Obj.lastClockFault = 5 ∧
      CountsUp Obj.clockFaultCount s t ∧ t.net.bypass.coils = false) ∧
    (∀ held, s.live = true → s.clk.nclkBad = true → 1000000 ≤ held → Answers (.nclkRecover held) s fun t =>
      t.clk = { s.clk with nclkBad := false } ∧ BitTo Obj.clockStatus 4 true s t ∧ OnlyMoves [Obj.clockStatus] s t) ∧
    -- RTC_STOP and RTC_EDGES_RETURN
    (∀ held, 1000 ≤ held → s.clk.rtcRuns = true → Answers (.rtcStop held) s fun t =>
      t.clk.rtcRuns = false ∧ t.rtc = s.rtc - held * 32768 / 1000000 ∧
      (s.live = true → BitTo Obj.clockStatus 6 false s t ∧ t.get Obj.lastClockFault = 7 ∧
        CountsUp Obj.clockFaultCount s t)) ∧
    (s.clk.rtcRuns = false → Answers .rtcEdgesReturn s fun t =>
      t.clk = { s.clk with rtcRuns := true, rtcAt := s.now } ∧ OnlyMoves [Obj.clockStatus] s t ∧
      (s.live = true → BitTo Obj.clockStatus 6 true s t))

/-- The recorder (R145, R157, R158, R161, R162): a flush is wanted when its period has passed, takes its cut when it starts
and commits when it has taken its time; histograms and extremes take their samples.
Diagnostics (R383, R384, R386): scrub rounds and errors are counted and shown, and the temperature of the logic die
warns and, after 10 s, asks for OFF. -/
def Obligations.RecorderFlushesAndScrubbersReport : Prop :=
  (
  ∀ (s : State), s.live = true →
    -- FLUSH_PERIOD_EXPIRY
    (s.saltOpen = true → s.recd.queue.any Job.isFlush = false → s.recd.lastCommit + sec (s.get Obj.flushPeriod) ≤ s.now →
      Answers .flushPeriodExpiry s fun t => t.objs = s.objs ∧
        t.recd = { s.recd with queue := s.recd.queue ++ [Job.waiting (.flush false) []] }) ∧
    -- FLUSH_START of a periodic flush
    (∀ j js, s.recd.running = none → s.recd.queue = j :: js → j.kind = .flush false → Answers .flushStart s fun t =>
      t.get Obj.recorderState = 2 ∧ OnlyMoves [Obj.recorderState] s t ∧ t.recd.queue = js ∧ t.recd.updates = [] ∧
      t.recd.brine = s.recd.brine ∧ ∃ r, t.recd.running = some r ∧ r.kind = .flush false ∧ r.flights = j.flights ∧
        r.startedAt = s.now ∧ r.cut = s.recd.brine.length ∧ r.estimate = s.flushTime ∧ r.updates = s.recd.updates) ∧
    -- JOURNAL_COMMIT of a flush behind which nothing waits
    (∀ j fin, s.recd.running = some j → s.recd.queue = [] → j.kind = .flush fin → j.startedAt + us j.estimate ≤ s.now →
      Answers .journalCommit s fun t =>
        t.get Obj.recorderState = (if fin then 3 else 1) ∧ CountsUp Obj.flushCount s t ∧
        t.get Obj.flushNumber = (s.get Obj.flushNumber + 1) % 4294967296 ∧
        t.get Obj.lastFlushDuration = fitTo Obj.lastFlushDuration ((s.now - j.startedAt) / us 1) ∧
        t.recd.running = none ∧ t.recd.brine = s.recd.brine.drop j.cut ∧ t.recd.lastCommit = s.now ∧
        t.salt.finalMark = fin ∧
        ∀ f, f.id ∈ j.flights → s.flight f.id = some f → f.orphan = false → f.phase ≠ .done →
          doneOf f 0 0 [] s.now ∈ t.host.done) ∧
    -- HISTOGRAM_SAMPLE: the temperature's entry
    (∀ vfld temp h, s.recd.histos[101]? = some h → Answers (.histogramSample vfld temp) s fun t => t.objs = s.objs ∧
      ∃ g, t.recd.histos[101]? = some g ∧ g.bins =
        if h.bins.getD (histoBin 101 temp) 0 = 4294967295 then h.bins else h.bins.modify (histoBin 101 temp) (· + 1)) ∧
    -- EXTREME_SAMPLE: the rails are published, and the temperature's entry keeps its largest and smallest value
    (∀ vfld vrsv rails temp e, s.recd.extremes[53]? = some e → Answers (.extremeSample vfld vrsv rails temp) s fun t =>
      (∀ i, i < 5 → t.get (Obj.vcoreVoltage + i) = fitTo (Obj.vcoreVoltage + i) (rails.getD i 0)) ∧
      ∃ g, t.recd.extremes[53]? = some g ∧
        (∀ m, e.max = some m → g.max.map (·.value) = some (max m.value temp)) ∧
        (e.max = none → g.max.map (·.value) = some temp) ∧
        (∀ m, e.min = some m → g.min.map (·.value) = some (min m.value temp)) ∧
        (e.min = none → g.min.map (·.value) = some temp))) ∧
  (
  ∀ (s : State), s.live = true →
    -- SRAM_SCRUB_ROUND
    (Answers (.sramScrubRound true) s fun t => CountsUp Obj.sramScrubRounds s t ∧ OnlyMoves [Obj.sramScrubRounds] s t) ∧
    (Answers (.sramScrubRound false) s fun t =>
      CountsUp Obj.sramScrubRounds s t ∧ BitTo Obj.periodicFault 0 true s t) ∧
    -- MRAM_SCRUB: the end of a round, a corrected and an uncorrectable word
    (∀ last, Answers (.mramScrub none last) s fun t => t.salt = s.salt ∧
      (last = true → CountsUp Obj.mramScrubRounds s t) ∧ OnlyMoves [Obj.mramScrubRounds] s t) ∧
    (∀ a u last, s.salt.committed a = true → Answers (.mramScrub (some (a, u, false)) last) s fun t =>
      CountsUp Obj.mramCorrected s t ∧ t.salt = s.salt) ∧
    (∀ a u last, s.salt.committed a = true → Answers (.mramScrub (some (a, u, true)) last) s fun t =>
      CountsUp Obj.mramUncorr s t ∧ BitTo Obj.periodicFault 1 true s t ∧ (a, u) ∈ t.diag.badWords) ∧
    -- DIE_TEMP_SAMPLE
    (∀ c, Answers (.dieTempSample c) s fun t => t.get Obj.dieTemp = encSigned (8 * Machine.sizeOf Obj.dieTemp) c ∧
      t.diag.overSince = (if 1250 < c then some (s.diag.overSince.getD s.now) else none) ∧
      (s.bit Obj.periodicFault 2 = false → t.bit Obj.periodicFault 2 = decide (s.geti Obj.tempWarn < c)) ∧
      (s.bit Obj.periodicFault 2 = true → t.bit Obj.periodicFault 2 = decide (s.geti Obj.tempWarn - 50 < c))) ∧
    -- OVER_TEMP_SHUTDOWN
    (Passed s.diag.overSince (sec 10) s → s.get Obj.powerPhase = 0 → s.get Obj.powerState ≤ 2 →
      Answers .overTempShutdown s fun t => t.pow.off = some (max (s.pow.off.getD 0) 5) ∧ t.objs = s.objs))

/-- Main supply and reserve (R287 to R296, R300, R304): the failure and the return of main, over-voltage, the charger and a
cycle of the reserve monitor. -/
def Obligations.MainSupplyFailsReturnsAndTheReserveIsRead : Prop :=
  ∀ (s : State),
    -- MAIN_FAIL in a device that runs on main: PathState tells whether a Spring carries it, else an off request comes
    (∀ mv held, s.restored = true → s.get Obj.pathState = 0 → mv < s.get Obj.mainFailVoltage →
      s.get Obj.mainFailTime ≤ held → ¬ (0x10 ≤ s.get Obj.powerPhase ∧ s.get Obj.powerPhase ≤ 0x12) →
      Answers (.mainFail mv held) s fun t =>
        t.get Obj.pathState = (if s.hasSpring then 1 else 2) ∧ CountsUp Obj.mainFailCount s t ∧
        t.get Obj.vmainVoltage = fitTo Obj.vmainVoltage mv ∧ t.sup.mainOk = false ∧ t.sup.mainFail = true ∧
        t.sup.charging = false ∧
        (s.hasSpring = false → s.get Obj.powerPhase = 0 → s.get Obj.powerState ≤ 2 →
          t.pow.off = some (max (s.pow.off.getD 0) 5) ∧ t.pow.offHoldup = true)) ∧
    -- MAIN_OK after a failure, with no power-down under way
    (∀ mv held, s.restored = true → s.get Obj.pathState ≠ 0 → s.sup.ov = false → s.get Obj.mainOkVoltage ≤ mv →
      2000 ≤ held → s.get Obj.powerPhase = 0 → Answers (.mainOk mv held) s fun t =>
        t.get Obj.pathState = 0 ∧ CountsUp Obj.crossoverCount s t ∧ t.get Obj.vmainVoltage = fitTo Obj.vmainVoltage mv ∧
        t.get Obj.lastReserveTime = fitTo Obj.lastReserveTime ((s.now - s.sup.failAt.getD s.now) / ms 1) ∧
        t.sup.mainOk = true ∧ t.sup.mainFail = false ∧ t.sup.failAt = none ∧ t.pow.off = none) ∧
    -- MAIN_OV and MAIN_OV_CLEAR
    (∀ mv held, s.live = true → s.served = true → s.sup.ov = false → s.get Obj.mainOvVoltage < mv → 100 ≤ held →
      Answers (.mainOv mv held) s fun t => t.sup.ov = true ∧ t.sup.ppMain = false ∧ t.sup.mainFail = true ∧
        t.sup.mainOk = false ∧ t.get Obj.vmainVoltage = fitTo Obj.vmainVoltage mv) ∧
    (∀ mv held, s.live = true → s.served = true → s.sup.ov = true → mv + 1000 ≤ s.get Obj.mainOvVoltage → 10000 ≤ held →
      Answers (.mainOvClear mv held) s fun t => t.sup = { s.sup with ov := false, ppMain := true } ∧
        t.get Obj.vmainVoltage = fitTo Obj.vmainVoltage mv ∧ OnlyMoves [Obj.vmainVoltage] s t) ∧
    -- CHARGER_RESUME
    (s.live = true → s.served = true → Passed s.sup.okAt (sec 1) s → s.sup.mainOk = true → s.hasSpring = true →
      s.get Obj.pathState = 0 → (∀ b, b = 0 ∨ b = 1 ∨ b = 2 ∨ b = 4 → s.resFault b = false) →
      s.get Obj.maxCell < s.get Obj.cellOvVoltage → s.get Obj.maxCell < s.get Obj.cellFullVoltage → s.sup.full = false →
      Answers .chargerResume s fun t => t.sup = { s.sup with charging := true, full := false } ∧
        t.get Obj.reserveState = (if s.resFault 3 || s.get Obj.energyAvailable == 0 then 5 else 2) ∧
        OnlyMoves [Obj.reserveState] s t) ∧
    -- RESERVE_CYCLE: the readings are published and the wire test moves on
    (∀ cells pack test, s.live = true → s.served = true → s.variant.isT = true → s.sup.restart = false →
      cells.length = s.get Obj.cellCount → 0 < cells.length → cells.length ≤ 16 →
      Answers (.reserveCycle cells pack test) s fun t =>
        (∀ k, k < cells.length → t.get (Obj.cellVoltage0 + k) = min 65535 (cells.getD k 0)) ∧
        t.get Obj.packVoltage = min 65535 pack ∧ t.get Obj.cellSum = min 65535 cells.sum ∧
        t.sup.lastCycle = s.now ∧ t.sup.wire = (if cells.length ≤ s.sup.wire then 0 else s.sup.wire + 1) ∧
        (cells.length ≤ s.sup.wire → CountsUp Obj.wireTestRounds s t) ∧
        t.resFault 0 = decide (t.get Obj.wireFault ≠ 0))

/-- PEN lines and rails (R285, R286, R345): a rail reaches power-good, a start that finds one missing fails and is repeated
1 s later, a brown-out resets the logic die, the loss of VPHY takes the links down. -/
def Obligations.RailsComeGoAndFailStarts : Prop :=
  ∀ (s : State),
    -- RAIL_POWER_GOOD of a rail whose PEN is high
    (∀ (r : Fin 4) (mv : Int), s.railGood r = false → s.pen (railOfPen r) = true → (railLevels r).1 ≤ mv →
      Answers (.railPowerGood r mv) s fun t => t.railGood r = true ∧ t.objs = s.objs ∧ t.sup.railAt = s.now) ∧
    -- RAIL_BROWN_OUT in a running logic die
    (∀ (r : Fin 3) (mv : Int) held, s.live = true → s.get Obj.powerState ≤ 3 → s.railGood r = true →
      mv < (railLevels r).2 → 2 ≤ held → Answers (.railBrownOut r mv held) s fun t =>
        Resets (2 + r.val) s t ∧ t.railGood r = false ∧ t.rst.brownAt.isSome = true) ∧
    -- VPHY_BROWN_OUT
    (∀ (mv : Int) held, mv < 2950 → 10 ≤ held → s.railGood 3 = true → Answers (.vphyBrownOut mv held) s fun t =>
      t.railGood 3 = false ∧ (s.live = true → t.net.bypass.coils = false ∧
        ∀ p u, p ∈ s.portList → t.net.ports[p]? = some u → u.up = false)) ∧
    -- RAIL_START_TIMEOUT 10 ms after a PEN rose
    (∀ (i : Fin 4), s.get Obj.powerPhase = 0x11 → s.pen i = true → s.railGood (railOfPen i) = false →
      max ((s.sup.pens.getD i ⟨false, 0, none⟩).settle s.now).since s.pow.phaseAt + ms 10 ≤ s.now →
      Answers .railStartTimeout s fun t => t.get Obj.powerPhase = 0 ∧ t.live = false ∧ t.pow.restart = false ∧
        ∃ u, t.pow.failedAt = some u ∧ s.now ≤ u) ∧
    -- FAILED_START_RETRY
    (Passed s.pow.failedAt (sec 1) s → s.rst.xresetLow = false → Answers .failedStartRetry s fun t =>
      t.get Obj.powerPhase = 0x10 ∧ t.get Obj.resetCause ≤ 12 ∧ t.rst.p0At = s.now ∧ t.pow.failedAt = none)

/-- Resets (R338, R339, R344, R346 to R348): XRESET_N, the watchdog and a device reset stop the logic die with their cause; a
POR of VAON leaves the Saltpan and the field dies; a start begins when nothing holds it. -/
def Obligations.ResetsStopTheLogicDieAndStartsBegin : Prop :=
  ∀ (s : State),
    -- XRESET_ASSERT and XRESET_RELEASE
    (∀ held, 2 ≤ held → s.rst.xresetLow = false → s.get Obj.powerState ≤ 3 → Answers (.xresetAssert held) s fun t =>
      Resets 5 s t ∧ t.rst.xresetLow = true) ∧
    (∀ held, 2 ≤ held → s.rst.xresetLow = false → 4 ≤ s.get Obj.powerState → Answers (.xresetAssert held) s fun t =>
      5 ∈ t.rst.latched ∧ CountsUp Obj.logicResetCount s t ∧ t.rst.xresetLow = true ∧ t.pow.restart = true) ∧
    (Answers .xresetRelease s fun t => t.rst.xresetLow = false ∧
      ((s.onRst fun r => { r with xresetLow := false }).startable = true → t.get Obj.powerPhase = 0x10) ∧
      ((s.onRst fun r => { r with xresetLow := false }).startable = false → t.objs = s.objs)) ∧
    -- WATCHDOG_EXPIRY by a missing tick or by a lane
    (s.live = true → s.rst.armed = true → s.get Obj.powerPhase ≠ 0x24 →
      (s.rst.lastTickAt + ms (s.get Obj.watchdogTimeout) ≤ s.now ∨
        ∃ f ∈ s.host.flights, f.inLane = true ∧ f.since + ms (s.get Obj.watchdogTimeout) ≤ s.now) →
      Answers .watchdogExpiry s fun t => Resets 6 s t ∧ CountsUp Obj.watchdogCount s t) ∧
    -- DEVICE_RESET_ASSERT 2 ms after the commit of the final flush
    (s.live = true → s.rst.device = true → Passed s.rst.deviceCommitAt (ms 2) s →
      Answers .deviceResetAssert s fun t => Resets 8 s t) ∧
    -- VAON_POR
    (∀ (mv : Int) held, mv < 1550 → 2 ≤ held → Answers (.vaonPor mv held) s fun t =>
      t.live = false ∧ t.rst.latched = [1] ∧ t.pow = Power.reset ∧ t.host = HostSide.reset ∧ t.net = Net.reset ∧
      t.salt.copyA = s.salt.copyA ∧ t.salt.copyB = s.salt.copyB ∧ t.salt.cycleLog = s.salt.cycleLog ∧
      t.salt.eventLog = s.salt.eventLog ∧ t.salt.faultLog = s.salt.faultLog ∧
      t.dies.map (·.regs) = s.dies.map (·.regs) ∧ t.clk.rtcBase = 0 ∧ t.now = s.now) ∧
    -- RESTART_HOLDOFF_EXPIRY and PHASE_P0
    (s.startable = true → Answers .restartHoldoffExpiry s fun t => t.get Obj.powerPhase = 0x10 ∧ t.pow.restart = false) ∧
    (s.startable = true → Answers .phaseP0 s fun t => t.get Obj.powerPhase = 0x10 ∧ t.get Obj.powerState = 0 ∧
      t.pow.restart = false ∧ t.rst.p0At = s.now ∧ t.rst.latched = [] ∧
      t.get Obj.lastWakeCause = fitTo Obj.lastWakeCause s.pow.wakeCause)

/-- TRIM, DOZE, SLEEP and the wakes (R307 to R313, R333): the planner moves the device to the deepest state that passes, and
a pin, a planned time or the host link wakes it. -/
def Obligations.PowerStatesArePlannedAndWoken : Prop :=
  ∀ (s : State),
    -- TRIM_ENTRY and TRIM_EXIT
    (s.awake = true → s.get Obj.powerState = 0 → s.trimOk = true → Answers .trimEntry s fun t =>
      t.get Obj.powerState = 1 ∧ OnlyMoves [Obj.powerState] s t) ∧
    (s.live = true → s.get Obj.powerState = 1 → s.trimOk = false → Answers .trimExit s fun t =>
      t.get Obj.powerState = 0 ∧ OnlyMoves [Obj.powerState] s t) ∧
    -- PLANNER_EVALUATION with no entry into SLEEP under way; `u` is the state it judges
    (∀ u, s.awake = true → s.pow.off = none → s.rst.device = false → s.restored = true → s.pow.sleepAt = none →
      u = (pruneService s).onPow (fun p => { p with lastEval := s.now }) → Answers .plannerEvaluation s fun t =>
        t.get Obj.plannedState = u.planChoice ∧
        (u.planChoice = 2 → t.get Obj.powerState = 2 ∧ (s.get Obj.powerState ≠ 2 → CountsUp Obj.dozeCount s t)) ∧
        (u.planChoice = 3 → t.pow.sleepAt = some s.now) ∧ (u.planChoice = 4 → t.pow.off = some 4) ∧
        (u.planChoice = 0 → t.get Obj.powerState = if s.get Obj.powerState = 2 then 0 else s.get Obj.powerState)) ∧
    -- PLANNER_EVALUATION when the flush of an entry into SLEEP has ended
    (s.awake = true → s.pow.off = none → s.rst.device = false → s.restored = true → s.pow.sleepAt.isSome = true →
      s.recd.running = none → s.recd.queue.any Job.isFlush = false → Answers .plannerEvaluation s fun t =>
        t.get Obj.powerState = 3 ∧ CountsUp Obj.sleepCount s t ∧ t.live = false ∧ t.pow.sleepAt = none) ∧
    -- SLEEP_EXIT
    (s.get Obj.powerState = 3 → s.pow.restart = true → s.rst.xresetLow = false → s.rst.inReset = false →
      Answers .sleepExit s fun t => t.get Obj.powerState = 0 ∧ t.live = true ∧ t.pow.restart = false ∧
        t.lat.started = true ∧ t.get Obj.latticeState = (if s.get Obj.latticeState = 2 then 2 else 0)) ∧
    -- WAKE_PIN of WAKE0 to WAKE7: its level, its activity after 1 ms, and the wake of a parked device
    (∀ (n : Fin 16) level held, n.val < 8 → held < 1000 → Answers (.wakePin n level held) s fun t =>
      t.wakes = s.wakes.set n level ∧ t.objs = s.objs) ∧
    (∀ (n : Fin 16) level held, n.val < 8 → 1000 ≤ held → level ≠ (s.vaonGet Obj.wakePolarity).testBit n →
      Answers (.wakePin n level held) s fun t =>
        t.wakes = s.wakes.set n level ∧ BitTo Obj.wakeActive n false s t ∧ OnlyMoves [Obj.wakeActive] s t) ∧
    (∀ (n : Fin 16) level held, n.val < 8 → 1000 ≤ held → level = (s.vaonGet Obj.wakePolarity).testBit n →
      s.get Obj.powerState = 4 → s.get Obj.powerPhase = 0 → s.rst.inReset = true → s.holdoffPassed = true →
      (s.vaonGet Obj.wakeMask).testBit n = true → Answers (.wakePin n level held) s fun t =>
        t.bit Obj.wakeActive n = true ∧ t.pow.wakeCause = 1) ∧
    -- PLANNED_WAKE, HOST_LINK_WAKE, WAKE_AT_REACHED
    (∀ w, s.get Obj.powerState = 3 → s.clk.rtcRuns = true → s.pow.wakeTime = some w → w ≤ s.now →
      Answers .plannedWake s fun t =>
        t.pow = { s.pow with wakeTime := none, restart := true, wakeCause := 2 } ∧ t.objs = s.objs) ∧
    (s.get Obj.powerState = 3 → Answers .hostLinkWake s fun t =>
      t.pow = { s.pow with restart := true, wakeCause := 5 } ∧ t.objs = s.objs) ∧
    (s.live = true → s.calValid = true → s.get Obj.wakeAt ≠ 0 → s.get Obj.wakeAt * 1000000000 ≤ s.calNs →
      Answers .wakeAtReached s fun t => t.get Obj.wakeAt = 0)

/-- The phases of a start (R285, R316, R349): each leads to the next one, and P5 ends in RUN with the watchdog armed. -/
def Obligations.StartPhasesFollowEachOther : Prop :=
  ∀ (s : State),
    -- PHASE_P1 and the first PEN
    (s.get Obj.powerPhase = 0x10 → Answers .phaseP1 s fun t => t.get Obj.powerPhase = 0x11 ∧ t.pow.phaseAt = s.now ∧
      (∀ pe, s.sup.pens[0]? = some pe → t.pen 0 = true)) ∧
    -- PHASE_P2: the logic die runs, its time base at 0 and every axis UNREFERENCED
    (s.get Obj.powerPhase = 0x11 → (∀ i, i < 4 → s.pen i = true) → (∀ r, r < 4 → s.railGood r = true) →
      Answers .phaseP2 s fun t => t.get Obj.powerPhase = 0x12 ∧ t.live = true ∧ t.f = 0 ∧
        ∀ a, a ∈ s.axes24 → t.unref a = true) ∧
    -- PHASE_P3: the recorder is opened, the power cycle counted; the Saltpan holds stored objects alone
    (s.live = true → s.get Obj.powerPhase = 0x12 → (∀ e, e ∈ s.salt.inForce ++ s.salt.envelopes → persOf e.1 = .p) →
      Answers .phaseP3 s fun t => t.get Obj.powerPhase = 0x13 ∧
        t.get Obj.recorderState = (if s.salt.readable && !(s.diag.badWords.any fun w => stateWord w.1) then 1 else 4) ∧
        t.get Obj.powerCycleCount = (s.salt.powerCycles + 1) % 16777216 ∧ t.salt.finalMark = false) ∧
    -- PHASE_P4: its first step, and the steps behind the inputs
    (∀ f as cs ck d, s.live = true → s.get Obj.powerPhase = 0x13 → s.pow.off = none →
      Answers (.phaseP4 f as cs ck d) s fun t => t.get Obj.powerPhase = 0x14 ∧ t.lat.started = true) ∧
    (∀ f as cs ck d, s.live = true → s.get Obj.powerPhase = 0x14 → s.pow.tested = false → s.pow.off = none →
      s.inputsReady = true → Answers (.phaseP4 f as cs ck d) s fun t => t.pow.tested = true ∧
        t.get Obj.selfTestFail = f % 256 ∧ t.get Obj.bypassState = 0 ∧ t.lat.initAt = some s.now) ∧
    -- PHASE_P5
    (s.live = true → s.get Obj.powerPhase = 0x14 → s.pow.tested = true → s.get Obj.latticeState ≠ 0 →
      Answers .phaseP5 s fun t => t.get Obj.powerPhase = 0 ∧ t.rst.armed = true ∧ t.rst.lastTickAt = s.now ∧
        t.get Obj.startDuration = fitTo Obj.startDuration ((s.now - s.rst.p0At) / us 1))

/-- The phases of a power-down (R318, R319, R348): notice, drain, final flush, outputs off, PENs down. -/
def Obligations.PowerDownPhasesFollowEachOther : Prop :=
  ∀ (s : State), s.live = true →
    -- PHASE_D0
    (s.pow.off.isSome = true → s.get Obj.powerPhase = 0 → s.get Obj.powerState ≤ 2 → Answers .phaseD0 s fun t =>
      t.get Obj.powerPhase = 0x20 ∧ t.get Obj.powerState = 0 ∧ t.get Obj.nodeState = 4) ∧
    -- PHASE_D1
    (s.get Obj.powerPhase = 0x20 → (s.pow.offHoldup = true ∨ s.pow.offInStart = true ∨
        s.pow.phaseAt + ms (s.get Obj.powerDownNotice) ≤ s.now) → Answers .phaseD1 s fun t =>
      t.get Obj.powerPhase = 0x21 ∧ t.pow.disabled = s.fns17.filter (fun n => s.fnState n == 1)) ∧
    -- PHASE_D2
    (s.get Obj.powerPhase = 0x21 → (∀ n, n ∈ s.fns17 → s.fnState n ≠ 2) → s.saltOpen = true →
      (s.pow.anyEnabled = false ∨ s.pow.phaseAt + ms (s.get Obj.lockSettleTime) ≤ s.now) → Answers .phaseD2 s fun t =>
        t.get Obj.powerPhase = 0x22 ∧ ∃ j ∈ t.recd.queue, j.kind = .flush true) ∧
    -- PHASE_D3: node bypassed, coils and cells off
    (s.get Obj.powerPhase = 0x22 → (s.get Obj.recorderState = 3 ∨ s.get Obj.recorderState = 4) → Answers .phaseD3 s fun t =>
      t.get Obj.powerPhase = 0x23 ∧ t.net.bypass.coils = false ∧ (∀ i : Fin 2, (t.coil i).on = false) ∧
      ∀ c x, c < 256 → s.mode c ≠ 8 → s.chans[c]? = some x → ∃ y, t.chans[c]? = some y ∧ y.on = false) ∧
    -- PHASE_D4
    (s.get Obj.powerPhase = 0x23 → s.holdOver = true → Answers .phaseD4 s fun t =>
      t.get Obj.powerPhase = 0 ∧ t.live = false ∧ t.host = HostSide.reset ∧
      t.get Obj.powerState = fitTo Obj.powerState (s.pow.off.getD 5))

/-- Opening a session (R207 to R211, R214, R220, R231): HELLO is answered by a CHALLENGE, a right PROOF binds the session, a
wrong one counts and locks the role out, and a challenge ends after one second. `role`, `nc` and `sid` are the fields of
the frame. -/
def Obligations.SessionsOpenByProof : Prop :=
  ∀ (s : State) (tr : Transport) (p : Peer) (bs : List Byte) (role sid : Nat) (nc : List Byte),
    s.live = true → s.host.places.length = 8 → role = (bs.getD 2 0).toNat → sid = leNat ((bs.drop 4).take 2) →
    nc = (bs.drop 8).take 16 → s.hears tr = true → (tr = .link → s.host.linkEgress.length < 8) →
    -- HELLO that is granted a challenge
    (∀ force i, bs.length = 24 → bs.take 2 = [1, 1] → role ≤ 2 → force = (bs.getD 3 0).toNat.testBit 0 →
      s.openRefusal tr role force = 0 → s.openPlace role = some i → Answers (.hello tr p bs) s fun t =>
        t.free = s.free + 1 ∧ t.placeNo i = (if s.placeNo i = 0 then 1 else s.placeNo i) ∧
        ∃ c, (t.place i).challenge = some c ∧ c.sid = Config.sid s.free ∧ c.nc = nc ∧ c.transport = tr ∧ c.peer = p ∧
          c.at_ = s.now ∧ c.keyless = s.keylessOpen tr role ∧
          c.nd = (if s.keylessOpen tr role then List.replicate 16 0 else toLe 16 (Config.nd s.free)) ∧
          Sends tr p false (challengeBytes role c.sid 0 c.nd nc) s t) ∧
    -- HELLO that is refused, and one that is malformed
    (∀ force, bs.length = 24 → bs.take 2 = [1, 1] → role ≤ 2 → force = (bs.getD 3 0).toNat.testBit 0 →
      s.openRefusal tr role force ≠ 0 → Answers (.hello tr p bs) s fun t => t.host.places = s.host.places ∧
        Sends tr p false (challengeBytes role 0 (s.openRefusal tr role force) (List.replicate 16 0) nc) s t) ∧
    (bs.length ≠ 24 → Answers (.hello tr p bs) s fun t =>
      CountsUp Obj.malformedFrames s t ∧ OnlyMoves [Obj.malformedFrames] s t ∧ t.host = s.host) ∧
    -- PROOF for the challenge `c` of place `i`, the first that it names
    (∀ i c, i < 8 → bs.length = 56 → bs.take 2 = [1, 3] → (s.place i).challenge = some c → c.sid = sid → c.nc = nc →
      roleOf i = role → c.transport = tr → c.peer = p → (∀ j d, j < i → (s.place j).challenge = some d → d.sid ≠ sid) →
      -- late
      (c.at_ + sec 1 < s.now → Answers (.proof tr p bs) s fun t => (t.place i).challenge = none ∧
        t.placeNo i = (if s.placeNo i = 1 then 0 else s.placeNo i) ∧ (t.place i).session = (s.place i).session ∧
        Sends tr p false (resultBytes role sid 0x0A04 (List.replicate 32 0) 0 0) s t) ∧
      -- right
      (s.now ≤ c.at_ + sec 1 → s.placeNo i ≠ 0 → s.lockedOut role = false →
        (c.keyless = true ∨ ∃ k, s.key role = some k ∧ bs.drop 24 = openMac k "DLS-OPEN" role c.nc c.nd c.sid) →
        Answers (.proof tr p bs) s fun t =>
          t.placeNo i = 2 ∧ (t.place i).challenge = none ∧ t.get (sessionIdKey i) = fitTo (sessionIdKey i) c.sid ∧
          (i < 2 → CountsUp (Obj.openCount i) s t) ∧
          (i < 2 → s.placeNo i = 2 → (s.place i).session.isSome = true →
            t.get (Obj.lastEndCause i) = 4 ∧ CountsUp (Obj.lostCount i) s t) ∧
          (i < 2 → s.placeNo i = 3 → (s.place i).session = none → ∀ n, s.sema n = .holdoff i → t.sema n = .held i) ∧
          ∃ se, (t.place i).session = some se ∧ se.sid = c.sid ∧ se.transport = tr ∧ se.peer = p ∧ se.rxCount = 0 ∧
            se.txCount = 0 ∧ se.timerAt = s.now ∧ se.safetyExpected = 1 ∧ se.keyless = c.keyless ∧
            (∀ k, c.keyless = false → s.key role = some k →
              se.sk = openMac k "DLS-SK" role c.nc c.nd c.sid ∧
              Sends tr p false (resultBytes role sid 0 (openMac k "DLS-DEV" role c.nc c.nd c.sid)
                (s.get Obj.sessionTimeout) s.tb32) s t)) ∧
      -- wrong
      (s.now ≤ c.at_ + sec 1 → s.placeNo i ≠ 0 → s.lockedOut role = false → c.keyless = false →
        (∀ k, s.key role = some k → bs.drop 24 ≠ openMac k "DLS-OPEN" role c.nc c.nd c.sid) →
        Answers (.proof tr p bs) s fun t => CountsUp Obj.authFailCount s t ∧ (t.place i).challenge = none ∧
          t.placeNo i = (if s.placeNo i = 1 then 0 else s.placeNo i) ∧ (t.place i).session = (s.place i).session ∧
          Sends tr p false (resultBytes role sid 0x0A02 (List.replicate 32 0) 0 0) s t ∧
          ∀ g recent, s.host.gates[role]? = some g → recent = g.failures.filter (fun x => decide (s.now < x + sec 60)) →
            t.host.gates[role]? = some (if s.get Obj.authFailLimit ≤ recent.length + 1 then ⟨[], some (s.now + sec 30)⟩
              else ⟨recent ++ [s.now], g.lockedUntil⟩)))

/-- The clocks of opening and closing (R207, R211, R216, R217, R221, R223): a lock-out, a challenge, a session, a hold-off and
a waiting SEMA_TAKE end when their time has passed, and a reset of the local host link ends its session. -/
def Obligations.SessionsAndTheirTimersEnd : Prop :=
  ∀ (s : State), s.live = true →
    -- AUTH_LOCKOUT_EXPIRY
    (∀ (role : Fin 3) g u, s.host.gates[role.val]? = some g → g.lockedUntil = some u → u ≤ s.now →
      Answers (.authLockoutExpiry role) s fun t => t.objs = s.objs ∧
        OneMoves role.val { g with lockedUntil := none } s.host.gates t.host.gates) ∧
    (∀ (role : Fin 3) g u, s.host.gates[role.val]? = some g → g.lockedUntil = some u → s.now < u →
      Answers (.authLockoutExpiry role) s fun t => t = s) ∧
    -- CHALLENGE_TIMEOUT
    (∀ (p : Fin 8) c, s.placeNo p = 1 → (s.place p).challenge = some c → c.at_ + sec 1 ≤ s.now →
      Answers (.challengeTimeout p) s fun t => t.placeNo p = 0 ∧ OnlyMoves [placeKey p] s t ∧ t.host = s.host) ∧
    -- SESSION_TIMEOUT and HOST_LINK_RESET
    (∀ (p : Fin 8) se, s.bound p = some se → se.timerAt + ms (s.get Obj.sessionTimeout) ≤ s.now →
      Answers (.sessionTimeout p) s fun t => Ends p 2 se s t) ∧
    (∀ p se, s.linkPlace = some p → s.bound p = some se → Answers .hostLinkReset s fun t => Ends p 5 se s t) ∧
    (s.linkPlace = none → Answers .hostLinkReset s fun t => t = s) ∧
    -- SEMA_HOLDOFF_EXPIRY: a semaphore without a taker is free, one that a single master waits for goes to it
    (∀ (m : Fin 2), s.placeNo m = 3 → (s.place m).holdSince + ms (s.get Obj.semaHoldOff) ≤ s.now →
      Answers (.semaHoldoffExpiry m) s fun t => t.placeNo m = 0 ∧ ∀ n, n < 64 → s.sema n = .holdoff m →
        ((∀ w ∈ s.host.waits, w.sema ≠ n) → t.sema n = .free) ∧
        (∀ q w, q < 2 → w ∈ s.host.waits → w.sema = n → (∀ x ∈ s.host.waits, x.sema = n → x.place = q) →
          t.sema n = .held q ∧
          ∀ f, s.flight w.flight = some f → f.orphan = false → f.phase ≠ .done → doneOf f 0 0 [] s.now ∈ t.host.done)) ∧
    -- SEMA_WAIT_EXPIRY
    (∀ (m : Fin 2) (n : Fin 64) w f, w ∈ s.host.waits → w.sema = n → w.place = m → w.until_ ≤ s.now →
      s.flight w.flight = some f → f.orphan = false → f.phase ≠ .done → Answers (.semaWaitExpiry m n) s fun t =>
        doneOf f 0x0402 0 [] s.now ∈ t.host.done ∧ w ∉ t.host.waits ∧ t.host.semas = s.host.semas)

/-- HOST frames (R209, R216, R232, R233, R273): one whose tag and FrameCount pass enters its ingress queue and restarts the
session's timer; each other is dropped and counted under its reason. `se` is the session that the frame names. -/
def Obligations.HostFramesAreCheckedInOrder : Prop :=
  ∀ (s : State) (tr : Transport) (p : Peer) (bs : List Byte) (len fc count : Nat) (body : List Byte),
    s.live = true → s.hears tr = true → (tr = .link → s.host.linkIngress.length < 2) →
    len = leNat ((bs.drop 14).take 2) → fc = leNat ((bs.drop 4).take 4) → count = (bs.getD 12 0).toNat →
    body = (bs.drop 16).take len →
    (tr ≠ .link → 16 ≤ s.host.niIngress.length → Answers (.hostFrameRx tr p bs) s fun t =>
      CountsUp Obj.niIngressDiscards s t ∧ OnlyMoves [Obj.niIngressDiscards] s t ∧ t.host = s.host) ∧
    ((tr ≠ .link → s.host.niIngress.length < 16) →
      (bs.length < 16 ∨ bs.take 2 ≠ [1, 0x10] → Answers (.hostFrameRx tr p bs) s fun t =>
        CountsUp Obj.malformedFrames s t ∧ OnlyMoves [Obj.malformedFrames] s t ∧ t.host = s.host) ∧
      (16 ≤ bs.length → bs.take 2 = [1, 0x10] →
        (s.placeOf tr p (leNat ((bs.drop 2).take 2)) = none → Answers (.hostFrameRx tr p bs) s fun t =>
          CountsUp Obj.unknownFrames s t ∧ OnlyMoves [Obj.unknownFrames] s t ∧ t.host = s.host) ∧
        (∀ i se, s.placeOf tr p (leNat ((bs.drop 2).take 2)) = some i → s.bound i = some se →
          (bs.length ≠ 32 + len → Answers (.hostFrameRx tr p bs) s fun t =>
            CountsUp Obj.malformedFrames s t ∧ OnlyMoves [Obj.malformedFrames] s t ∧ t.host = s.host) ∧
          (bs.length = 32 + len → se.keyless = false →
            bs.drop (16 + len) ≠ frameTag se.sk 1 (bs.take (16 + len)) → Answers (.hostFrameRx tr p bs) s fun t =>
            CountsUp Obj.tagFailCount s t ∧ OnlyMoves [Obj.tagFailCount] s t ∧ t.host = s.host) ∧
          (bs.length = 32 + len → (se.keyless = true ∨ bs.drop (16 + len) = frameTag se.sk 1 (bs.take (16 + len))) →
            (fc ≤ se.rxCount → Answers (.hostFrameRx tr p bs) s fun t =>
              CountsUp Obj.replayCount s t ∧ OnlyMoves [Obj.replayCount] s t ∧ t.host = s.host) ∧
            (se.rxCount < fc → bodyOk count body = false → fc ≠ 0xFFFFFFFF → Answers (.hostFrameRx tr p bs) s fun t =>
              CountsUp Obj.malformedFrames s t ∧ OnlyMoves [Obj.malformedFrames] s t ∧
              (t.place i).session = some { se with rxCount := fc, timerAt := s.now } ∧
              t.host.niIngress = s.host.niIngress ∧ t.host.linkIngress = s.host.linkIngress) ∧
            (se.rxCount < fc → bodyOk count body = true → Answers (.hostFrameRx tr p bs) s fun t =>
              (t.place i).session = some { se with rxCount := fc, timerAt := s.now } ∧
              (∀ f, f = ⟨se.transport, se.peer, i, se.no, fc, body, count⟩ →
                (tr = .link → t.host.linkIngress = s.host.linkIngress ++ [f]) ∧
                (tr ≠ .link → t.host.niIngress = s.host.niIngress ++ [f])))))))

/-- Admission of a frame of one element (R235, R245, R257, R272, R273): it enters its Headpond, or its COMPLETE takes a
refusal entry. `f` is the first frame of the ingress queue and `e` its element, no BURST_ABORT and no NOTICE_ACK. -/
def Obligations.ElementsAreAdmittedOrRefused : Prop :=
  ∀ (s : State) (link : Bool) (f : RxFrame) (fs : List RxFrame) (b : List Byte) (e : Elem) (se : Session),
    s.live = true → s.served = true → (if link then s.host.linkIngress else s.host.niIngress) = f :: fs →
    s.refusals f.place + f.count ≤ 64 → (s.place f.place).session = some se → se.no = f.sess →
    splitElems 64 f.body = some [b] → e = readElem (s.safetyPrefix f.place) b → e.op ≠ 0x90 → e.op ≠ 0x23 →
    e.op ≠ 0x21 → f.frameCount ≠ 0xFFFFFFFF →
    -- admitted: no refusal of steps 1 to 3, and the safety code absent and not needed, or right and young
    (s.admitRefusal f.place se.closing e = 0 →
      ((e.safety = none ∧ s.mustBeSafe f.place e.req = false) ∨
        ∃ c, e.safety = some c ∧ c.crcOk = true ∧ c.seq = s.safetyExpected f.place ∧ s.aged_ c.refTime = false) →
      Answers (.frameAdmission link) s fun t =>
        (if link then t.host.linkIngress else t.host.niIngress) = fs ∧ t.host.done = s.host.done ∧
        t.host.nextFlight = s.host.nextFlight + 1 ∧
        (f.place < 2 → CountsUp (Obj.admittedCount f.place) s t) ∧
        (e.safety.isSome = true → f.place < 8 → (t.place f.place).session.map (·.safetyExpected) =
          some ((se.safetyExpected + 1) % 65536)) ∧
        ∃ x, t.host.flights = s.host.flights ++ [x] ∧ x.id = s.host.nextFlight ∧ x.place = f.place ∧ x.sess = se.no ∧
          x.tag = e.tag ∧ x.frame = f.frameCount ∧ x.op = e.op ∧ x.req = e.req ∧ x.orphan = false ∧ x.phase = .queued) ∧
    -- refused by steps 1 to 3
    (∀ st, s.admitRefusal f.place se.closing e = st → st ≠ 0 → Answers (.frameAdmission link) s fun t =>
      t.host.flights = s.host.flights ∧ (f.place < 2 → CountsUp (Obj.refusedCount f.place) s t) ∧
      ∃ d, t.host.done = s.host.done ++ [d] ∧ d.status = st ∧ d.tag = e.tag ∧ d.op = e.op ∧ d.sess = se.no ∧
        d.flight = none ∧ d.duplicate = (st == 0x0803)) ∧
    -- refused by its safety code
    (s.admitRefusal f.place se.closing e = 0 →
      (∀ st, ((e.safety = none ∧ s.mustBeSafe f.place e.req = true ∧ st = 0x0901) ∨
          (∃ c, e.safety = some c ∧ c.crcOk = false ∧ st = 0x0902) ∨
          (∃ c, e.safety = some c ∧ c.crcOk = true ∧ c.seq ≠ s.safetyExpected f.place ∧ st = 0x0903) ∨
          (∃ c, e.safety = some c ∧ c.crcOk = true ∧ c.seq = s.safetyExpected f.place ∧ s.aged_ c.refTime = true ∧
            st = 0x0904)) →
        Answers (.frameAdmission link) s fun t => CountsUp Obj.safetyFailCount s t ∧ t.host.flights = s.host.flights ∧
          ∃ d, t.host.done = s.host.done ++ [d] ∧ d.status = st ∧ d.tag = e.tag ∧ d.flight = none)) ∧
    -- what the first three steps refuse
    (se.closing = false → (∃ x ∈ s.ownFlights f.place, x.tag = e.tag) → s.admitRefusal f.place se.closing e = 0x0803) ∧
    (se.closing = false → s.tagBusy f.place e.tag = false → f.place < 2 → 256 ≤ s.inFlightAt f.place →
      s.admitRefusal f.place se.closing e = 0x0801) ∧
    (se.closing = true → s.admitRefusal f.place se.closing e = 0x0A01)

/-- BURST_ABORT, an idle burst and NOTICE_ACK (R244, R249): an open burst closes with the segments that wait behind it, and
an acknowledged notice leaves the pool. -/
def Obligations.BurstsCloseAndNoticesAreAcknowledged : Prop :=
  ∀ (s : State) (m : Fin 2) (se : Session), s.live = true → s.served = true → s.bound m = some se → Fresh s →
    -- BURST_ABORT with a burst open, and without
    (∀ tag frame elem, s.admitRefusal m se.closing ⟨0x23, tag % 512, .burstAbort, [], none⟩ = 0 →
      (s.burst m).isOpen = true → Answers (.burstAbort m tag frame elem) s fun t =>
        t.burst m = Burst.closed ∧ CountsUp (Obj.admittedCount m) s t ∧
        (∃ d ∈ t.host.done, d.flight = some s.host.nextFlight ∧ d.tag = tag % 512 ∧ d.status = 0) ∧
        ∀ f ∈ upToBegin (s.queueOf_ m), f.op = 0x21 ∨ f.op = 0x22 → s.flight f.id = some f → f.orphan = false →
          doneOf f 0x0606 0 [] s.now ∈ t.host.done) ∧
    (∀ tag frame elem, s.admitRefusal m se.closing ⟨0x23, tag % 512, .burstAbort, [], none⟩ = 0 →
      (s.burst m).isOpen = false → Answers (.burstAbort m tag frame elem) s fun t => t.host.bursts = s.host.bursts ∧
        ∃ d, t.host.done = s.host.done ++ [d] ∧ d.flight = some s.host.nextFlight ∧ d.tag = tag % 512 ∧ d.status = 0x0601) ∧
    -- BURST_IDLE_EXPIRY
    ((s.burst m).isOpen = true → (s.burst m).lastAt + ms (s.get Obj.burstIdleTime) ≤ s.now →
      Answers (.burstIdleExpiry m) s fun t => t.burst m = Burst.closed ∧ CountsUp Obj.burstExpiredCount s t ∧
        t.host.done = s.host.done) ∧
    -- NOTICE_ACK of one entry: of a notice that was sent, and of one that no entry of the pool is
    (∀ sub src ack n, se.closing = false → NoWeirNotices s → s.host.pool = [n] → n.place = m → n.subId = sub →
      n.source = src → n.acked = true → n.sentAt.isSome = true → ack = n.seq → ack = seqOf src s.host.seqs →
      ack < 65536 → Answers (.noticeAck ⟨m.val, by omega⟩ [(sub, src, ack)]) s fun t => t.host.pool = []) ∧
    (∀ sub src ack, se.closing = false → (∀ n ∈ s.host.pool, n.place = m → n.subId = sub → n.source ≠ src) →
      Answers (.noticeAck ⟨m.val, by omega⟩ [(sub, src, ack)]) s fun t => CountsUp Obj.noticeAckErrors s t ∧
        OnlyMoves [Obj.noticeAckErrors] s t ∧ t.host = s.host)

/-- Frames of the device (R209, R235, R238, R239, R248, R249, R275): a COMPLETION frame takes the written completions of its
session and gives their credits back; a NOTICE frame takes a notice, which an ACKED subscription keeps until it is
acknowledged. `se` is the session of place `p`. -/
def Obligations.CompletionsAndNoticesLeaveInFrames : Prop :=
  ∀ (s : State) (p : Fin 8) (se : Session), s.live = true → s.served = true → (s.place p).session = some se →
    se.txCount + 1 < 0xFFFFFFFF →
    -- COMPLETION_FRAME_SEND
    (∀ ds, ds = s.batch p → s.completionReady p = true → s.completionTurn = true → se.endOn = none →
      (∀ f ∈ s.host.flights, f.sess = se.no → f.op ≠ 2) → Answers (.completionFrameSend p) s fun t =>
        Sends se.transport se.peer false (deviceFrame se 0x11 s.tb32 (doneBytes (s.safetyPrefix p) s.tb32 se.safetySent ds))
          s t ∧
        (t.place p).session = some { se with
          txCount := se.txCount + 1
          safetySent := (se.safetySent + (ds.filter (·.safety)).length) % 65536
          echo := ((ds.reverse.map Done.entry) ++ se.echo).take 64 } ∧
        (∀ d ∈ t.host.done, d ∈ s.host.done) ∧
        t.host.done.length + ds.length = s.host.done.length ∧
        t.host.flights = s.host.flights.filter (fun f => !(ds.filterMap (·.flight)).contains f.id) ∧
        t.host.lastKindNotice = false) ∧
    -- NOTICE_FRAME_SEND of the only notice
    (∀ n, NoWeirNotices s → s.host.pool = [n] → n.sentAt = none → n.place = p → n.sess = se.no → n.fn < 8 →
      s.egressRoom se.transport 60 = true →
      (n.safety = true ∨ s.host.lastKindNotice = false ∨ ∀ q, q < 8 → s.completionReady q = false) →
      Answers .noticeFrameSend s fun t =>
        Sends se.transport se.peer (!n.unicast && decide (se.transport ≠ .link))
          (deviceFrame se 0x12 s.tb32 [n.bytes false]) s t ∧
        t.host.pool = (if n.acked then [{ n with sentAt := some s.now }] else []) ∧ t.host.lastKindNotice = true ∧
        (t.place p).session = some { se with txCount := se.txCount + 1 }) ∧
    -- NOTICE_RESEND
    (∀ n at_, NoWeirNotices s → s.host.pool = [n] → n.sentAt = some at_ → n.acked = true → n.place = p → n.sess = se.no →
      at_ + ms (s.get Obj.noticeRetry) ≤ s.now → s.egressRoom se.transport 60 = true → Answers (.noticeResend p) s fun t =>
        Sends se.transport se.peer (!n.unicast && decide (se.transport ≠ .link))
          (deviceFrame se 0x12 s.tb32 [n.bytes true]) s t ∧
        t.host.pool = [{ n with sentAt := some s.now }])

/-- The local host link (R226 to R228): a good frame acts as the same frame would from any transport, a bad one counts; the
next frame is read out when the whole of it is clocked, and a status exchange clears ERR. -/
def Obligations.TheLinkExchangesFrames : Prop :=
  ∀ (s : State) (h : List Byte) (len : Nat), s.live = true → s.served = true → len = leNat ((h.drop 1).take 2) →
    (∀ c, headerOk h = false → (c = .linkStatusExchange h ∨ (∃ f ok, c = .linkWriteExchange h f ok) ∨
        ∃ n ok, c = .linkReadExchange h n ok) → Answers c s fun t =>
      CountsUp Obj.headerErrors s t ∧ OnlyMoves [Obj.headerErrors] s t ∧ t.host = { s.host with linkErr := true }) ∧
    (headerOk h = true → h.getD 0 0 = 0xA1 →
      (∀ f data, f = data ++ toLe 4 (crc32c data) → data.length = len → 1 ≤ len → len ≤ 1472 →
        s.host.linkIngress.length < 2 → ∃ t, Sys2Proof.Machine.exec (.linkWriteExchange h f true) s = .next t ∧
          Sys2Proof.Machine.exec (if data.getD 1 0 = 0x01 then .hello .link linkPeer data
            else if data.getD 1 0 = 0x03 then .proof .link linkPeer data else .hostFrameRx .link linkPeer data) s = .next t) ∧
      (∀ f ok, (ok = false ∨ f.length ≠ len + 4 ∨ 1472 < len ∨ leNat (f.drop len) ≠ crc32c (f.take len)) →
        Answers (.linkWriteExchange h f ok) s fun t => CountsUp Obj.frameErrors s t ∧ OnlyMoves [Obj.frameErrors] s t ∧
          t.host = { s.host with linkErr := true })) ∧
    (headerOk h = true → h.getD 0 0 = 0xA2 → (∀ f ∈ s.host.linkEgress, s.now ≤ f.at_ + ms (s.get Obj.frameMaxAge)) →
      ∀ f r, s.host.linkEgress = f :: r →
        (∀ n, f.bytes.length ≤ len → f.bytes.length + 4 ≤ n → Answers (.linkReadExchange h n true) s fun t =>
          t.host.linkEgress = r) ∧
        (∀ n ok, len < f.bytes.length → Answers (.linkReadExchange h n ok) s fun t =>
          t.objs = s.objs ∧ t.host = { s.host with linkErr := true }) ∧
        (∀ n ok, f.bytes.length ≤ len → (ok = false ∨ n < f.bytes.length + 4) → Answers (.linkReadExchange h n ok) s fun t =>
          t = s)) ∧
    (headerOk h = true → h.getD 0 0 = 0xA3 → Answers (.linkStatusExchange h) s fun t =>
      t.objs = s.objs ∧ t.host = { s.host with linkErr := false })

/-- Lanes, drains, weirs and queue errors (R258 to R262, R266, R268, R277, R278, R281): a free lane takes the transaction
whose turn it is, a drain ends when nothing is in flight, a suppressed notice follows its interval, and an uncorrectable
error of a Headpond ends its session. -/
def Obligations.LanesDrainsWeirsAndQueueErrors : Prop :=
  ∀ (s : State), s.live = true →
    -- LANE_GRANT
    (∀ u n f l, u = settleLanes s → u.laneClass = some n → u.laneHead n = some f → u.freeLane = some l →
      Answers .laneGrant s fun t => t.host.flights = s.host.flights.map fun x =>
        if x.id == f.id then { x with phase := .lane l, since := s.now } else x) ∧
    (32 ≤ (s.host.flights.filter Flight.inLane).length → Answers .laneGrant s fun t =>
      t.objs = s.objs ∧ t.host.flights = s.host.flights) ∧
    -- DRAIN_END into DISABLED; `joined` are the FunctionControl writes that wait for it
    (∀ (n : Fin 8) u, s.fnState n = 2 → s.host.fns[n.val]? = some u → u.boundary = true → s.fnInFlight n = 0 →
      u.targetEnabled = false → Answers (.drainEnd n) s fun t => t.fnState n = 0 ∧
        t.get (Obj.lastDrainTime n) = fitTo (Obj.lastDrainTime n) ((s.now - u.drainAt) / us 1) ∧
        (u.resetPending = true → CountsUp (Obj.resetCount n) s t) ∧
        (∃ v, t.host.fns[n.val]? = some v ∧ v.resetPending = false ∧ v.boundary = false ∧ v.joined = []) ∧
        ∀ id f, id ∈ u.joined → s.flight id = some f → f.orphan = false → f.phase ≠ .done →
          doneOf f 0 0 [] s.now ∈ t.host.done) ∧
    (∀ (n : Fin 8), s.fnState n ≠ 2 ∨ s.fnInFlight n ≠ 0 → Answers (.drainEnd n) s fun t => t = s) ∧
    -- WEIR_NOTICE_INTERVAL_END
    (∀ (q : Fin 15) high w t0, s.host.weirs[q.val]? = some w → (if high then w.highAt else w.lowAt) = some t0 →
      t0 + ms (s.get Obj.weirNoticeInterval) ≤ s.now → (if high then w.highSuppressed else w.lowSuppressed) = true →
      Answers (.weirNoticeIntervalEnd q high) s fun t =>
        seqOf (4096 * 6 + q) t.host.seqs = (seqOf (4096 * 6 + q) s.host.seqs + 1) % 65536 ∧
        t.host.weirs[q.val]? = some (if high then { w with highAt := some s.now, highSuppressed := false }
          else { w with lowAt := some s.now, lowSuppressed := false })) ∧
    -- ECC_UNCORRECTABLE: a corrected error, an uncorrected one, and one of a Headpond
    (∀ (q : Fin 15) unit word, ¬(s.variant.isE = true ∧ q.val = 7) → Answers (.eccUncorrectable q false unit word) s fun t =>
      CountsUp (Obj.correctedErrors q) s t ∧ OnlyMoves [Obj.correctedErrors q] s t ∧ t.host = s.host) ∧
    (∀ (q : Fin 15) unit word, ¬(s.variant.isE = true ∧ q.val = 7) → Answers (.eccUncorrectable q true unit word) s fun t =>
      CountsUp (Obj.uncorrectedErrors q) s t ∧ t.get (Obj.errorWord q) = fitTo (Obj.errorWord q) word) ∧
    (∀ (q : Fin 15) unit word se, q.val < 2 → s.bound q = some se → Answers (.eccUncorrectable q true unit word) s fun t =>
      Ends q 5 se s t)

/-- KEEP, READ, WINDOW_READ, READ_MULTI and SEMA_QUERY (R159, R178, R223, R234, R240): the COMPLETE carries what they read,
and nothing but a window's cursor moves. `k` is the object's number. -/
def Obligations.ReadsAnswerWithWhatTheObjectsShow : Prop :=
  ∀ (s : State) (l : Fin 32) (f : Flight), Carries l f s → f.op ≠ 0x20 → f.op ≠ 0x21 → f.op ≠ 0x22 →
    -- KEEP: the free credits of the place and of the device
    (f.req = .keep → f.op = 0x01 → Answers (.keep l) s fun t => Untouched s t ∧ Completed f 0 0
      (toLe 2 ((if f.place < 2 then 256 else 16) - s.inFlightAt f.place) ++ toLe 2 (512 - s.inFlightMasters)) s t) ∧
    -- READ of a value, of a part of a DOM, and one that is refused
    (∀ idx sub off len k, k = 256 * idx + sub → k ≠ Obj.window → f.req = .read idx sub off len →
      (s.access (f.writer false) .read k = 0 → isDom k = false → off = 0 → len = 0 → Answers (.read l) s fun t =>
        Untouched s t ∧ Completed f 0 0 (toLe (Machine.sizeOf k) (s.readValue f.place k)) s t) ∧
      (s.access (f.writer false) .read k = 0 → isDom k = false → off ≠ 0 ∨ len ≠ 0 → Answers (.read l) s fun t =>
        Untouched s t ∧ Completed f 0x0205 0 [] s t) ∧
      (s.access (f.writer false) .read k = 0 → isDom k = true → 1 ≤ len → len ≤ 1024 → Answers (.read l) s fun t =>
        Untouched s t ∧ Completed f 0 0 (toLe 4 (s.domBytes k).length ++ toLe 2 (storeGet 0 k s.recd.gens) ++ [0, 0] ++
          ((s.domBytes k).drop off).take len) s t) ∧
      (s.access (f.writer false) .read k = 0 → isDom k = true → len = 0 ∨ 1024 < len → Answers (.read l) s fun t =>
        Untouched s t ∧ Completed f 0x0204 0 [] s t) ∧
      (s.access (f.writer false) .read k ≠ 0 → Answers (.read l) s fun t =>
        Untouched s t ∧ Completed f (s.access (f.writer false) .read k) 0 [] s t)) ∧
    -- WINDOW_READ
    (∀ idx sub off len se bs cur, 256 * idx + sub = Obj.window → f.req = .read idx sub off len →
      s.access (f.writer false) .read Obj.window = 0 → (s.place f.place).session = some se →
      s.window se.cursorLog se.cursorSeq se.windowSize = (bs, cur) → Answers (.windowRead l) s fun t =>
        (∀ j, noisy j = false → t.get j = s.get j) ∧ t.recd = s.recd ∧
        (t.place f.place).session = some { se with cursorSeq := cur } ∧
        Completed f 0 0 (toLe 4 bs.length ++ toLe 2 0 ++ [0, 0] ++ bs) s t) ∧
    -- READ_MULTI: for each entry its status, and its value where it passes
    (∀ es : List (Nat × Nat), f.req = .readMulti es → f.op = 0x12 → Answers (.readMulti l) s fun t => Untouched s t ∧
      Completed f 0 0 ((es.map fun e => 256 * e.1 + e.2).flatMap fun (k : Nat) =>
        if s.access (f.writer false) .multiRead k = 0 then
          [0, 0] ++ toLe 2 (Machine.sizeOf k) ++ padTo (roundUp4 (Machine.sizeOf k))
            (toLe (Machine.sizeOf k) (s.readValue f.place k))
        else toLe 2 (s.access (f.writer false) .multiRead k) ++ [0, 0]) s t) ∧
    -- SEMA_QUERY
    (∀ n, f.req = .semaQuery n → f.op = 0x32 →
      (f.place < 2 → n ≤ 63 → Answers (.semaQuery l) s fun t => Untouched s t ∧
        Completed f 0 0 ([byte (s.sema n).code, byte (s.waiterBits n)] ++ toLe 2 (s.holdOffMs n)) s t) ∧
      (2 ≤ f.place → Answers (.semaQuery l) s fun t => Untouched s t ∧ Completed f 0x0104 0 [] s t) ∧
      (f.place < 2 → 63 < n → Answers (.semaQuery l) s fun t => Untouched s t ∧ Completed f 0x0204 0 [] s t))

/-- CLOSE (R218, R220, R224): it waits for what its session asked before it; then its session's subscriptions end, its
semaphores are released and its place is left. -/
def Obligations.CloseReleasesWhatItsSessionHeld : Prop :=
  ∀ (s : State) (l : Fin 32) (f : Flight) (se : Session), Carries l f s → f.req = .close → f.op = 0x02 →
    s.bound f.place = some se → se.no = f.sess → Fresh s →
    -- something of the session is unanswered
    ((∃ x ∈ s.host.flights, x.sess = f.sess ∧ x.id < f.id) →
      (∀ x ∈ s.host.flights, x.sess = f.sess → x.op = 2 → x.id = f.id) → Answers (.close l) s fun t =>
        Waits f s t ∧ t.host.places = s.host.places ∧ t.host.semas = s.host.semas) ∧
    -- nothing is: `f` is the first transaction of its session, and its only CLOSE
    ((∀ x ∈ s.host.flights, x.sess = f.sess → f.id ≤ x.id ∧ (x.op = 2 → x.id = f.id)) → s.host.waits = [] →
      Answers (.close l) s fun t => Completed f 0 0 [] s t ∧
        (∃ x, (t.place f.place).session = some x ∧ x.no = se.no ∧ x.subs = [] ∧ x.endOn = some (f.id, 1)) ∧
        (∀ n ∈ t.host.pool, n.place ≠ f.place) ∧
        (2 ≤ f.place → t.placeNo f.place = 0) ∧
        (f.place < 2 → t.get (Obj.lastEndCause f.place) = 1 ∧
          t.placeNo f.place = (if s.get Obj.semaHoldOff = 0 then 0 else 3) ∧
          ∀ n, n < 64 → t.sema n = if s.sema n = .held f.place then .free
            else if s.get Obj.semaHoldOff = 0 ∧ s.sema n = .holdoff f.place then .free else s.sema n))

/-- Bursts (R242, R243): BURST_BEGIN opens a burst, BURST_SEG stages one segment after another or poisons the burst, and
BURST_END closes it and applies all of its segments or none. `m` is the master's slot and `b` its burst. -/
def Obligations.BurstsAreStagedAndAppliedWhole : Prop :=
  ∀ (s : State) (l : Fin 32) (f : Flight) (b : Burst), Carries l f s →
    -- observers have no bursts
    (2 ≤ f.place → f.op = 0x20 → f.req = .burstBegin → Answers (.burstBegin l) s fun t =>
      Untouched s t ∧ Completed f 0x0104 0 [] s t) ∧
    (f.place < 2 → s.host.bursts[f.place]? = some b →
      -- BURST_BEGIN
      (f.op = 0x20 → f.req = .burstBegin →
        (b.isOpen = false → Answers (.burstBegin l) s fun t => Completed f 0 0 [] s t ∧
          OneMoves f.place ⟨true, f.poison, [], s.now⟩ s.host.bursts t.host.bursts) ∧
        (b.isOpen = true → Answers (.burstBegin l) s fun t => Untouched s t ∧ Completed f 0x0602 0 [] s t)) ∧
      -- BURST_SEG
      (∀ n idx sub off data, f.op = 0x21 → f.req = .burstSeg n idx sub off data →
        (b.isOpen = false → Answers (.burstSeg l) s fun t => Untouched s t ∧ Completed f 0x0601 0 [] s t) ∧
        (b.isOpen = true → b.poison = none → n = b.segs.length → b.segs.length < 64 → b.bytes + data.length ≤ 16384 →
          isCmdObj (256 * idx + sub) = false → Answers (.burstSeg l) s fun t => Completed f 0 0 [] s t ∧
            OneMoves f.place { b with
              segs := b.segs ++ [⟨n, idx, sub, off, data, f.raw, f.safety.isSome⟩]
              lastAt := s.now } s.host.bursts t.host.bursts) ∧
        (∀ st, b.isOpen = true → b.poison = none →
          ((n ≠ b.segs.length ∧ st = 0x0603) ∨
            (n = b.segs.length ∧ (64 ≤ b.segs.length ∨ 16384 < b.bytes + data.length) ∧ st = 0x0604) ∨
            (n = b.segs.length ∧ b.segs.length < 64 ∧ b.bytes + data.length ≤ 16384 ∧ isCmdObj (256 * idx + sub) = true ∧
              st = 0x0607)) →
          Answers (.burstSeg l) s fun t => Completed f st n [] s t ∧
            OneMoves f.place { b with poison := some (st, n) } s.host.bursts t.host.bursts) ∧
        (∀ p, b.isOpen = true → b.poison = some p → p.1 ≠ 0 → Answers (.burstSeg l) s fun t => Completed f p.1 p.2 [] s t ∧
          t.host.bursts = s.host.bursts)) ∧
      -- BURST_END
      (∀ count crc, f.op = 0x22 → f.req = .burstEnd count crc →
        (b.isOpen = false → Answers (.burstEnd l) s fun t => Untouched s t ∧ Completed f 0x0601 0 [] s t) ∧
        (∀ p, b.isOpen = true → b.poison = some p → p.1 ≠ 0 → Answers (.burstEnd l) s fun t => Completed f p.1 p.2 [] s t ∧
          OneMoves f.place Burst.closed s.host.bursts t.host.bursts ∧ ∀ j, noisy j = false → t.get j = s.get j) ∧
        (∀ st, b.isOpen = true → b.poison = none →
          ((count ≠ b.segs.length ∧ st = 0x0603) ∨
            (count = b.segs.length ∧ crc ≠ crc32c (b.segs.flatMap (·.raw)) ∧ st = 0x0605)) →
          Answers (.burstEnd l) s fun t => Completed f st 0 [] s t ∧
            OneMoves f.place Burst.closed s.host.bursts t.host.bursts ∧ ∀ j, noisy j = false → t.get j = s.get j) ∧
        -- the segments are judged against the state after the burst: one that fails leaves every object as it was
        (∀ u, u = onBurst f.place (fun _ => Burst.closed) s → b.isOpen = true → b.poison = none → count = b.segs.length →
          crc = crc32c (b.segs.flatMap (·.raw)) →
          (f.safety.isSome = true ∨ ∀ x ∈ b.segs, needsSafety .burst x.key = false) →
          (∀ x ∈ b.segs, isDom x.key = false ∧ tableSlot x.key = none) →
          (∀ st n g, burstRefusal (f.writer false) b.segs u (afterBurst b.segs u) [] b.segs = some (st, n, g) →
            Answers (.burstEnd l) s fun t => Completed f st n [] s t ∧
              OneMoves f.place Burst.closed s.host.bursts t.host.bursts ∧ ∀ j, noisy j = false → t.get j = s.get j) ∧
          (burstRefusal (f.writer false) b.segs u (afterBurst b.segs u) [] b.segs = none →
            (∀ st n, burstApply (f.writer false) b.segs u = .error (st, n) → Answers (.burstEnd l) s fun t =>
              Completed f st n [] s t ∧ OneMoves f.place Burst.closed s.host.bursts t.host.bursts ∧
              ∀ j, noisy j = false → t.get j = s.get j) ∧
            (∀ x, b.segs = [x] → isConst x.key = false → noisy x.key = false →
              (∀ v, putHook x.key v u = u.put x.key v) → applyWrite { f.writer false with safe := x.safety } x.key x.data u =
                (some 0, countWrite x.key (putHook x.key (leNat x.data) u)) → Answers (.burstEnd l) s fun t =>
              Completed f 0 0 [] s t ∧ Takes x.key (leNat x.data) s t ∧
              OneMoves f.place Burst.closed s.host.bursts t.host.bursts)))))

/-- SEMA_TAKE and SEMA_GIVE (R222 to R225): a free semaphore is taken, a held one is refused or waited for, and a given one
goes to the master that waits.
SUBSCRIBE, UNSUBSCRIBE and STORE (R174, R176, R247, R249, R274): `se` is the session that asks. -/
def Obligations.SemaphoresSubscriptionsAndStores : Prop :=
  (
  ∀ (s : State) (l : Fin 32) (f : Flight) (n : Nat), Carries l f s →
    (f.op = 0x30 → ∀ wait, f.req = .semaTake n wait →
      (2 ≤ f.place → Answers (.semaTake l) s fun t => Untouched s t ∧ Completed f 0x0104 0 [] s t) ∧
      (f.place < 2 → 63 < n → Answers (.semaTake l) s fun t => Untouched s t ∧ Completed f 0x0204 0 [] s t) ∧
      (f.place < 2 → 4 ≤ n → n ≤ 7 → Answers (.semaTake l) s fun t => Untouched s t ∧ Completed f 0x0205 0 [] s t) ∧
      (f.place < 2 → n ≤ 63 → ¬(4 ≤ n ∧ n ≤ 7) → 10000 < wait → Answers (.semaTake l) s fun t =>
        Untouched s t ∧ Completed f 0x0204 0 [] s t) ∧
      (f.place < 2 → 8 ≤ n → n ≤ 15 → wait ≤ 10000 → s.get (Obj.boundSlot (n - 8)) ≠ f.place →
        Answers (.semaTake l) s fun t => Untouched s t ∧ Completed f 0x0404 0 [] s t) ∧
      (f.place < 2 → n ≤ 63 → ¬(4 ≤ n ∧ n ≤ 7) → wait ≤ 10000 →
        (8 ≤ n → n ≤ 15 → s.get (Obj.boundSlot (n - 8)) = f.place) →
        (s.host.semas[n]? = some .free → Answers (.semaTake l) s fun t => Completed f 0 0 [] s t ∧
          OneMoves n (.held f.place) s.host.semas t.host.semas) ∧
        (s.sema n = .held f.place → Answers (.semaTake l) s fun t => Untouched s t ∧ Completed f 0 0 [] s t) ∧
        (s.sema n ≠ .free → s.sema n ≠ .held f.place → wait = 0 → Answers (.semaTake l) s fun t =>
          Untouched s t ∧ Completed f 0x0402 0 [] s t) ∧
        (s.sema n ≠ .free → s.sema n ≠ .held f.place → wait ≠ 0 →
          (∀ w ∈ s.host.waits, w.sema = n → w.place ≠ f.place) → Answers (.semaTake l) s fun t =>
            Waits f s t ∧ t.host.semas = s.host.semas ∧
            t.host.waits = s.host.waits ++ [⟨n, f.place, f.id, s.now + ms wait⟩]))) ∧
    (f.op = 0x31 → f.req = .semaGive n →
      (2 ≤ f.place → Answers (.semaGive l) s fun t => Untouched s t ∧ Completed f 0x0104 0 [] s t) ∧
      (f.place < 2 → 63 < n → Answers (.semaGive l) s fun t => Untouched s t ∧ Completed f 0x0204 0 [] s t) ∧
      (f.place < 2 → n ≤ 63 → s.sema n ≠ .held f.place → Answers (.semaGive l) s fun t =>
        Untouched s t ∧ Completed f 0x0403 0 [] s t) ∧
      (f.place < 2 → n ≤ 63 → s.sema n = .held f.place → (∀ w ∈ s.host.waits, w.sema ≠ n) →
        Answers (.semaGive l) s fun t => Completed f 0 0 [] s t ∧ OneMoves n .free s.host.semas t.host.semas) ∧
      (∀ q w g, f.place < 2 → q < 2 → q ≠ f.place → n ≤ 63 → s.sema n = .held f.place → s.host.waits = [w] → w.sema = n →
        w.place = q → s.flight w.flight = some g → g.id ≠ f.id → g.orphan = false → g.phase ≠ .done →
        Answers (.semaGive l) s fun t => OneMoves n (.held q) s.host.semas t.host.semas ∧ t.host.waits = [] ∧
          t.host.done = s.host.done ++ [doneOf g 0 0 [] s.now, doneOf f 0 0 [] s.now]))) ∧
  (
  ∀ (s : State) (l : Fin 32) (f : Flight) (se : Session), Carries l f s → (s.place f.place).session = some se →
    se.no = f.sess →
    -- SUBSCRIBE
    (∀ fn flags mask, f.op = 0x50 → f.req = .subscribe fn flags mask →
      (7 < fn ∨ s.variant.hasFn fn = false → Answers (.subscribe l) s fun t =>
        Untouched s t ∧ Completed f 0x0501 0 [] s t) ∧
      (fn ≤ 7 → s.variant.hasFn fn = true → s.get (Obj.streamOpen fn) = 0 → s.get (Obj.boundSlot fn) ≠ f.place →
        Answers (.subscribe l) s fun t => Untouched s t ∧ Completed f 0x0103 0 [] s t) ∧
      (fn ≤ 7 → s.variant.hasFn fn = true → (s.get (Obj.streamOpen fn) ≠ 0 ∨ s.get (Obj.boundSlot fn) = f.place) →
        (8 ≤ se.subs.length → Answers (.subscribe l) s fun t => Untouched s t ∧ Completed f 0x0804 0 [] s t) ∧
        (se.subs.length < 8 → Answers (.subscribe l) s fun t => ∃ id, id < 256 ∧ (∀ b ∈ se.subs, b.id ≠ id) ∧
          (t.place f.place).session = some { se with
            subs := se.subs ++ [⟨id, fn, mask, flags.testBit 0, flags.testBit 1⟩] } ∧
          Completed f 0 0 [byte id, 0, 0, 0] s t))) ∧
    -- UNSUBSCRIBE: the notices of the subscription go with it
    (∀ id, f.op = 0x51 → f.req = .unsubscribe id →
      ((∀ b ∈ se.subs, b.id ≠ id) → Answers (.unsubscribe l) s fun t => Untouched s t ∧ Completed f 0x0204 0 [] s t) ∧
      ((∃ b ∈ se.subs, b.id = id) → Answers (.unsubscribe l) s fun t => Completed f 0 0 [] s t ∧
        (t.place f.place).session = some { se with subs := se.subs.filter fun b => b.id != id } ∧
        ∀ n ∈ t.host.pool, n.place = f.place → n.subId ≠ id)) ∧
    -- STORE: it waits for its commit
    (∀ scope, f.op = 0x60 → f.req = .store scope →
      (s.storeRefusal f.place scope ≠ 0 → Answers (.store l) s fun t =>
        Untouched s t ∧ Completed f (s.storeRefusal f.place scope) 0 [] s t) ∧
      (s.storeRefusal f.place scope = 0 → Answers (.store l) s fun t =>
        Waits f s t ∧ CommitsWith (s.storeJob scope) f t)) ∧
    (∀ scope, s.storeRefusal f.place scope =
      if 2 ≤ f.place then 0x0104
      else if 7 < scope ∧ scope ≠ 0xFF then 0x0204
      else if scope ≠ 0 ∧ scope ≠ 0xFF ∧ s.variant.hasFn scope = false then 0x0502
      else if s.get (Obj.boundSlot (if scope = 0 ∨ scope = 0xFF then 0 else scope)) ≠ f.place then 0x0103
      else if s.sema (if scope = 0 ∨ scope = 0xFF then 0 else 8 + scope) ≠ .held f.place then 0x0401
      else if s.saltOpen = false then 0x0340 else 0))

/-- A WRITE or CMD that a check refuses completes with that check's status and changes nothing (R11, R173). `k` is the
object's number and `st` the status; a write of a table slot, which also notes the refusal in 16#2101, is left out. -/
def Obligations.RefusedWritesChangeNothing : Prop :=
  ∀ (s : State) (l : Fin 32) (f : Flight) (o : OpKind) (idx sub st : Nat) (data : List Byte), Carries l f s →
    ((o = .write ∧ f.op = 0x11 ∧ f.req = .write idx sub data) ∨ (o = .cmd ∧ f.op = 0x40 ∧ f.req = .cmd idx sub data)) →
    s.writeRefusal (f.writer true) o (256 * idx + sub) data = st → st ≠ 0 → st ≠ 0x0330 →
    (∀ c ∈ objectRows l, Answers c s fun t => t = s ∨ (Untouched s t ∧ Completed f st 0 [] s t)) ∧
    (∃ c ∈ objectRows l, Answers c s fun t => Untouched s t ∧ Completed f st 0 [] s t)

/-- WRITE and WRITE_MULTI of values (R159, R167, R173, R240), and the rows whose write is only the value (R45, R104, R215,
R252, R314): the object takes what is written. `v` is the value, `k` the object's number. -/
def Obligations.AcceptedWritesAreTaken : Prop :=
  ∀ (s : State) (l : Fin 32) (f : Flight) (data : List Byte) (v : Nat), v = leNat data →
    -- WRITE of an object of class RW, RWD or RWS whose value nothing else hangs on
    (∀ idx sub k g i d, k = 256 * idx + sub → WritesAt l f idx sub data s → f.work = .write →
      lookup k = some (g, i, d) → (d.acc = .rw ∨ d.acc = .rwd ∨ ∃ m, d.acc = .rws m) → d.flags.contains .w1c = false →
      d.flags.contains .session = false → noisy k = false → (∀ u, putHook k v u = u.put k v) →
      Answers (.write l) s fun t => Completed f 0 0 [] s t ∧ Takes k v s t) ∧
    -- WRITE of the cursor of a session
    (∀ se, WritesAt l f 0x2210 1 data s → (s.place f.place).session = some se → Answers (.write l) s fun t =>
      Completed f 0 0 [] s t ∧ (t.place f.place).session = some { se with cursorLog := v }) ∧
    (∀ se, WritesAt l f 0x2210 2 data s → (s.place f.place).session = some se → Answers (.write l) s fun t =>
      Completed f 0 0 [] s t ∧ (t.place f.place).session = some { se with cursorSeq := v }) ∧
    -- WRITE_MULTI of two entries, of which the first is refused
    (∀ a b (da db : List Byte) st u, Carries l f s → f.op = 0x13 →
      f.req = .writeMulti [(a / 256, a % 256, da), (b / 256, b % 256, db)] →
      s.writeRefusal (f.writer false) .multiWrite a da = st → st ≠ 0 → st ≠ 0x0330 →
      s.writeRefusal (f.writer false) .multiWrite b db = 0 → applyWrite (f.writer false) b db s = (some 0, u) →
      u.host = s.host → Answers (.writeMulti l) s fun t =>
        Completed f 0 1 (toLe 2 st ++ toLe 2 0) s t ∧ ∀ j, noisy j = false → t.get j = u.get j) ∧
    -- MAINTAINER_WRITE, BOUND_SLOT_WRITE, DEEP_GRANT_WRITE, LATCH_SOURCE_WRITE, BINDING_WRITE
    (∀ m, m < 2 → WritesAt l f (0x1101 + m) 3 data s → Answers (.maintainerWrite l) s fun t =>
      Completed f 0 0 [] s t ∧ Takes (Obj.maintainer m) v s t) ∧
    (∀ n, n < 8 → WritesAt l f (0x1700 + n) 1 data s → Answers (.boundSlotWrite l) s fun t =>
      Completed f 0 0 [] s t ∧ Takes (Obj.boundSlot n) v s t) ∧
    (∀ m, m < 2 → WritesAt l f (0x1424 + m) 1 data s → Answers (.deepGrantWrite l) s fun t =>
      Completed f 0 0 [] s t ∧ Takes (Obj.deepGrant m) v s t) ∧
    (∀ a, a < 24 → WritesAt l f (0x3500 + a) 1 data s → Answers (.latchSourceWrite l) s fun t =>
      Completed f 0 0 [] s t ∧ Takes (Obj.latchSource0 a) v s t) ∧
    (∀ a, a < 24 → WritesAt l f (0x3500 + a) 4 data s → Answers (.latchSourceWrite l) s fun t =>
      Completed f 0 0 [] s t ∧ Takes (Obj.latchSource1 a) v s t) ∧
    (∀ n, n < 4 → WritesAt l f (0x2104 + n) 1 data s → Answers (.bindingWrite l) s fun t =>
      Completed f 0 0 [] s t ∧ Takes (Obj.carTable n) v s t) ∧
    (∀ a sub, a < 24 → 0x20 ≤ sub → sub ≤ 0x23 → WritesAt l f (0x3000 + a) sub data s → Answers (.bindingWrite l) s fun t =>
      Completed f 0 0 [] s t ∧ Takes (256 * (0x3000 + a) + sub) v s t) ∧
    -- NEXT_SERVICE_WRITE and CHEMISTRY_WRITE: what follows from the value
    (∀ m, m < 2 → WritesAt l f (0x1424 + m) 2 data s → Answers (.nextServiceWrite l) s fun t =>
      Completed f 0 0 [] s t ∧ Takes (Obj.nextService m) v s t ∧
      t.pow.service = s.pow.service.set m (if v = 0 then none else some (s.now + ms v))) ∧
    (WritesAt l f 0x1410 2 data s → Answers (.chemistryWrite l) s fun t =>
      Completed f 0 0 [] s t ∧ Takes Obj.cellCount v s t ∧ t.sup.restart = true) ∧
    (WritesAt l f 0x1410 1 data s → v ≤ 1 → Answers (.chemistryWrite l) s fun t =>
      Completed f 0 0 [] s t ∧ t.get Obj.chemistry = v ∧ t.sup.restart = true ∧
      ∀ i, i < 5 → t.get (Obj.cellFullVoltage + i) = (chemistryDefaults v).getD i 0)

/-- Writes about masters and the recorder (R42, R157, R163, R177, R212, R217, R347): a slot is reset, a key is unwrapped, and
what a commit must follow waits for it. -/
def Obligations.HostAndRecorderCommandsAct : Prop :=
  ∀ (s : State) (l : Fin 32) (f : Flight) (data : List Byte) (v : Nat), v = leNat data →
    -- SLOT_RESET of another slot, and of the own one
    (∀ m se, m < 2 → m ≠ f.place → WritesAt l f (0x1101 + m) 8 data s → s.bound m = some se → se.no ≠ f.sess → Fresh s →
      Answers (.slotReset l) s fun t => Ends m 3 se s t ∧ doneOf f 0 0 [] s.now ∈ t.host.done) ∧
    (∀ se, f.place < 2 → WritesAt l f (0x1101 + f.place) 8 data s → (s.place f.place).session = some se →
      Answers (.slotReset l) s fun t => Completed f 0 0 [] s t ∧
        (t.place f.place).session = some { se with endOn := some (f.id, 3) }) ∧
    -- KEY_WRITE
    (∀ r, r < 3 → WritesAt l f 0x1110 (1 + r) data s → Answers (.keyWrite l) s fun t => Completed f 0 0 [] s t ∧
      CountsUp Obj.keyWriteNo s t ∧ t.get (Obj.keyM0 + r) = fitTo (Obj.keyM0 + r)
        (v ^^^ leNat (hmac f.sk (label "DLS-KW" ++ [byte r] ++ toLe 4 (s.get Obj.keyWriteNo))))) ∧
    -- DEVICE_RESET with the Saltpan open, and without
    (WritesAt l f 0x1600 3 data s → s.saltOpen = true → Answers (.deviceReset l) s fun t =>
      Waits f s t ∧ t.rst.device = true ∧ CommitsWith (.flush true) f t) ∧
    (WritesAt l f 0x1600 3 data s → s.saltOpen = false → s.finalRuns = false → Answers (.deviceReset l) s fun t =>
      Completed f 0 0 [] s t ∧ t.rst.device = true ∧ t.rst.deviceCommitAt = some s.now) ∧
    -- FLUSH_NOW
    (CommandsAt l f 0x2200 3 data s → s.saltOpen = true → (∀ j ∈ s.recd.queue, j.kind ≠ .flush true) →
      Answers (.flushNow l) s fun t => Waits f s t ∧ CommitsWith (.flush false) f t) ∧
    (CommandsAt l f 0x2200 3 data s → s.saltOpen = false → Answers (.flushNow l) s fun t =>
      Untouched s t ∧ Completed f 0x0340 0 [] s t) ∧
    -- CLEAR_LOG
    (WritesAt l f 0x2220 1 data s → s.saltOpen = true → Answers (.clearLog l) s fun t =>
      Waits f s t ∧ CommitsWith (.clear v f.place) f t) ∧
    (WritesAt l f 0x2220 1 data s → s.saltOpen = false → Answers (.clearLog l) s fun t =>
      Untouched s t ∧ Completed f 0x0340 0 [] s t) ∧
    -- RESTORE_DEFAULTS where nothing else hangs on the values that go back
    (∀ ks, WritesAt l f 0x1003 1 data s → ks = (s.objs.map (·.1)).filter s.restorable →
      (∀ k ∈ ks, noisy k = false ∧ ∀ x u, putHook k x u = u.put k x) → Answers (.restoreDefaults l) s fun t =>
        Completed f (if s.keptFns.isEmpty then 0 else 0x0302) 0 [] s t ∧
        (∀ k ∈ ks, isConst k = false → t.get k = fitTo k (s.restoredValue k)) ∧
        ∀ k, k ∉ ks → noisy k = false → t.get k = s.get k) ∧
    -- LOAD_FACTORY_IMAGE accepted, and refused by a check of the image
    (WritesAt l f 0x2001 5 data s → s.saltOpen = true → s.imageCause (factoryImage s.variant).bytes = 0 →
      Answers (.loadFactoryImage l) s fun t => Completed f 0 0 [] s t ∧ t.get Obj.pendingState = 1 ∧
        t.recd.pendingImage = some (factoryImage s.variant)) ∧
    (∀ c, WritesAt l f 0x2001 5 data s → s.saltOpen = true → s.imageCause (factoryImage s.variant).bytes = c → c ≠ 0 →
      Answers (.loadFactoryImage l) s fun t => Completed f (if c = 3 then 0x0502 else 0x0311) 0 [] s t ∧
        Takes Obj.imgRefusalCause c s t ∧ t.recd = s.recd) ∧
    (WritesAt l f 0x2001 5 data s → s.saltOpen = false → Answers (.loadFactoryImage l) s fun t =>
      Untouched s t ∧ Completed f 0x0340 0 [] s t)

/-- Commands to sequencers, supplies and the calendar (R56, R57, R292, R314, R315, R331): a command is delivered to its running
instance, a power-down is asked for, and the calendar is set. -/
def Obligations.SequencerPowerAndCalendarCommandsAct : Prop :=
  ∀ (s : State) (l : Fin 32) (f : Flight) (data : List Byte) (v : Nat), v = leNat data →
    -- SIDE_COMMAND to instance `i`, AXIS_COMMAND to instance 8 + `a`
    (∀ i q, i < 8 → 1 ≤ v → v ≤ 63 → CommandsAt l f (0x2110 + i) 1 data s → s.seq.insts[i]? = some q → q.running = true →
      Answers (.sideCommand l) s fun t => Waits f s t ∧
        OneMoves i { q with inbox := q.inbox ++ [⟨v, f.id, s.now⟩] } s.seq.insts t.seq.insts) ∧
    (∀ i q, i < 8 → 1 ≤ v → v ≤ 63 → CommandsAt l f (0x2110 + i) 1 data s → s.seq.insts[i]? = some q → q.running = false →
      Answers (.sideCommand l) s fun t => Untouched s t ∧ Completed f 0x0321 0 [] s t) ∧
    (∀ a q, a < 24 → 1 ≤ v → v ≤ 63 → CommandsAt l f (0x3100 + a) 0x10 data s → s.seq.insts[8 + a]? = some q →
      q.running = true → Answers (.axisCommand l) s fun t => Waits f s t ∧
        OneMoves (8 + a) { q with inbox := q.inbox ++ [⟨v, f.id, s.now⟩] } s.seq.insts t.seq.insts) ∧
    (∀ a q, a < 24 → 1 ≤ v → v ≤ 63 → CommandsAt l f (0x3100 + a) 0x10 data s → s.seq.insts[8 + a]? = some q →
      q.running = false → Answers (.axisCommand l) s fun t => Untouched s t ∧ Completed f 0x0321 0 [] s t) ∧
    -- POWER_COMMAND_OFF, _STANDBY in operation
    (WritesAt l f 0x1420 3 data s → v = 1 → s.get Obj.powerState ≤ 2 → s.get Obj.powerPhase = 0 →
      Answers (.powerCommandOff l) s fun t => Completed f 0 0 [] s t ∧
        t.pow = { s.pow with off := some (max (s.pow.off.getD 0) 5) } ∧ ∀ j, noisy j = false → t.get j = s.get j) ∧
    (WritesAt l f 0x1420 3 data s → v = 2 → s.get Obj.powerState ≤ 2 → s.get Obj.powerPhase = 0 →
      Answers (.powerCommandStandby l) s fun t => Completed f 0 0 [] s t ∧
        t.pow = { s.pow with off := some (max (s.pow.off.getD 0) 4) } ∧ ∀ j, noisy j = false → t.get j = s.get j) ∧
    -- POWER_COMMAND_STAY in D0 or D1, with no function to resume, and elsewhere
    (WritesAt l f 0x1420 3 data s → v ≠ 1 → v ≠ 2 → (s.get Obj.powerPhase = 0x20 ∨ s.get Obj.powerPhase = 0x21) →
      s.pow.disabled = [] → Answers (.powerCommandStay l) s fun t => Completed f 0 0 [] s t ∧
        t.get Obj.powerPhase = 0 ∧ t.get Obj.lastWakeCause = 6 ∧ t.pow.off = none) ∧
    (WritesAt l f 0x1420 3 data s → v ≠ 1 → v ≠ 2 → s.get Obj.powerPhase ≠ 0x20 → s.get Obj.powerPhase ≠ 0x21 →
      Answers (.powerCommandStay l) s fun t => Untouched s t ∧ Completed f 0 0 [] s t) ∧
    -- CAL_SET: seconds in its low 8 bytes, nanoseconds in the next 4
    (WritesAt l f 0x1502 4 data s → Answers (.calSet l) s fun t => Completed f 0 0 [] s t ∧
      t.get Obj.calState = 1 ∧ t.calNs = v % 2 ^ 64 * 1000000000 + v / 2 ^ 64 % 2 ^ 32)

/-- Writes to an axis (R85, R89, R104, R105): envelopes follow their seeds, a new feedback setting makes the axis
UNREFERENCED, and latches and compares are armed. `x` is the state of axis `a`. -/
def Obligations.AxisWritesAct : Prop :=
  ∀ (s : State) (l : Fin 32) (f : Flight) (data : List Byte) (v a : Nat) (x : Axis), v = leNat data → a < 24 →
    s.axes[a]? = some x →
    -- CAPTURE_SEED
    (v = 1 → WritesAt l f (0x3400 + a) 0x0B data s → Answers (.captureSeed l) s fun t => Completed f 0 0 [] s t ∧
      Takes (Obj.envState a) 1 s t ∧
      OneMoves a { x with capture := ⟨true, false, 0, 0, BinSum.zeros, BinSum.zeros⟩ } s.axes t.axes) ∧
    -- RESET_TO_SEED at rest, and while a stroke runs
    (v = 2 → s.toEnd a = false → WritesAt l f (0x3400 + a) 0x0B data s → Answers (.resetToSeed l) s fun t =>
      Completed f 0 0 [] s t ∧ t.get (Obj.envOpen a) = fitTo (Obj.envOpen a) (s.get (Obj.seedOpen a)) ∧
      t.get (Obj.envClose a) = fitTo (Obj.envClose a) (s.get (Obj.seedClose a)) ∧ t.recd.envPending = true) ∧
    (v = 2 → s.toEnd a = true → WritesAt l f (0x3400 + a) 0x0B data s → Answers (.resetToSeed l) s fun t =>
      Completed f 0 0 [] s t ∧ (∀ j, noisy j = false → t.get j = s.get j) ∧
      OneMoves a { x with resetToSeed := true } s.axes t.axes) ∧
    -- SEED_WRITE of the opening and of the closing seed
    (∀ opening, WritesAt l f (0x3400 + a) (if opening then 8 else 9) data s → Answers (.seedWrite l) s fun t =>
      Completed f 0 0 [] s t ∧ t.get (seedKey a opening) = fitTo (seedKey a opening) v ∧
      t.get (envKey a opening) = t.get (seedKey a opening) ∧ OneMoves a { x with pendingLearn := none } s.axes t.axes ∧
      t.get (Obj.envState a) = (if s.get (Obj.envState a) = 1 then 1 else if t.unseeded a then 0 else 2)) ∧
    -- FEEDBACK_CONFIG_WRITE
    (∀ sub, (sub = 1 ∨ sub = 2 ∨ sub = 0x0F) → WritesAt l f (0x3200 + a) sub data s → Answers (.feedbackConfigWrite l) s fun t =>
      Completed f 0 0 [] s t ∧ t.get (256 * (0x3200 + a) + sub) = fitTo (256 * (0x3200 + a) + sub) v ∧ t.unref a = true ∧
      t.get (Obj.revCount a) = 0 ∧ t.get (Obj.inRev a) = 0 ∧ t.get (Obj.speed a) = 0) ∧
    -- LATCH_ARM
    (WritesAt l f (0x3500 + a) 7 data s → Answers (.latchArm l) s fun t => Completed f 0 0 [] s t ∧
      (∀ j, noisy j = false → t.get j = s.get j) ∧ ∃ y, t.axes[a]? = some y ∧ y.latches.length = x.latches.length ∧
        ∀ i lt, x.latches[i]? = some lt →
          y.latches[i]? = some (if v.testBit i then { lt with armed := true } else lt)) ∧
    -- COMPARE_ARM in SINGLE mode, and in another
    (WritesAt l f (0x3500 + a) 0x16 data s → s.get (Obj.compareMode a) = 1 → Answers (.compareArm l) s fun t =>
      Completed f 0 0 [] s t ∧ (∀ j, noisy j = false → t.get j = s.get j) ∧ ∃ y, t.axes[a]? = some y ∧
        ∀ i e, x.compares[i]? = some e → ∃ e', y.compares[i]? = some e' ∧ e'.armed = (e.armed || v.testBit i)) ∧
    (WritesAt l f (0x3500 + a) 0x16 data s → s.get (Obj.compareMode a) ≠ 1 → Answers (.compareArm l) s fun t =>
      Untouched s t ∧ Completed f 0 0 [] s t)

/-- Writes to a field channel (R108, R116, R119, R120, R123, R126, R131, R138): a new mode switches the cell off and starts it
anew, a gang follows its lead, and latches clear. `x` is the state of channel `c`. -/
def Obligations.ChannelWritesAct : Prop :=
  ∀ (s : State) (l : Fin 32) (f : Flight) (data : List Byte) (v c : Nat) (x : Chan), v = leNat data → c < 256 →
    s.chans[c]? = some x →
    -- CHANNEL_MODE_WRITE: another mode, and the same input mode again
    (∀ d, WritesAt l f (0x6000 + c) 1 data s → v ≠ 5 → v ≠ 6 → v ≠ 8 → s.get (Obj.channelMode c) ≠ v →
      s.dies[c / 64]? = some d → d.regs.length = 64 → Answers (.channelModeWrite l) s fun t => Completed f 0 0 [] s t ∧
        t.get (Obj.channelMode c) = v ∧ t.mode c = v ∧ (∃ y, t.chans[c]? = some y ∧ y.on = false ∧ y.window = none) ∧
        (∀ j, 9 ≤ j → j ≤ 12 → t.bit (Obj.diagStatus c) j = false)) ∧
    (WritesAt l f (0x6000 + c) 1 data s → v ≠ 5 → v ≠ 6 → s.get (Obj.channelMode c) = v → isOutput v = false →
      Answers (.channelModeWrite l) s fun t => Completed f 0 0 [] s t ∧ t.chans = s.chans ∧
        ∀ j, noisy j = false → t.get j = s.get j) ∧
    -- GANG_MODE_WRITE: the followers take the lead's mode
    (WritesAt l f (0x6000 + c) 1 data s → (v = 5 ∨ v = 6) → s.get (Obj.channelMode c) ≠ v → Answers (.gangModeWrite l) s fun t =>
      Completed f 0 0 [] s t ∧ t.get (Obj.channelMode c) = v ∧
      ∀ g, g ∈ (if v = 5 then [c + 1] else [c + 1, c + 2, c + 3]) → s.chans[g]?.isSome = true →
        t.get (Obj.channelMode g) = v ∧ t.leadOf g = c) ∧
    -- INPUT_FILTER_WRITE: a change that is being counted is counted anew
    (WritesAt l f (0x6000 + c) 2 data s → Answers (.inputFilterWrite l) s fun t => Completed f 0 0 [] s t ∧
      Takes (Obj.inputFilter c) v s t ∧
      OneMoves c { x with pend := x.pend.map fun (i, _) => (i, s.now) } s.chans t.chans) ∧
    -- TEST_SOURCE_WRITE
    (WritesAt l f (0x6000 + c) 4 data s → Answers (.testSourceWrite l) s fun t => Completed f 0 0 [] s t ∧
      t.get (Obj.testSource c) = fitTo (Obj.testSource c) v) ∧
    -- OUTPUT_DEMAND_WRITE
    (WritesAt l f (0x6100 + c) 6 data s → Answers (.outputDemandWrite l) s fun t => Completed f 0 0 [] s t ∧
      ∃ y, t.chans[c]? = some y ∧ y.base = v ∧ y.flash = none ∧ y.orphan = false) ∧
    -- OUTPUT_RESET of a cell that has cooled and whose clamp has decayed, and of one that is still hot
    (WritesAt l f (0x6100 + c) 0x0A data s → x.hot = false →
      2 * s.get (Obj.clampEnergyAcc c) ≤ gangSize (s.mode c) * 1000 * s.get (Obj.clampBudget c) →
      Answers (.outputReset l) s fun t => Completed f 0 0 [] s t ∧
        ∀ j, 9 ≤ j → j ≤ 12 → t.bit (Obj.diagStatus c) j = false) ∧
    (WritesAt l f (0x6100 + c) 0x0A data s → x.hot = true → s.bit (Obj.diagStatus c) 12 = true →
      Answers (.outputReset l) s fun t => Completed f 0x0335 0 [] s t ∧ t.bit (Obj.diagStatus c) 9 = false ∧
        t.bit (Obj.diagStatus c) 12 = true) ∧
    -- DIAG_STICKY_WRITE: ones clear
    (WritesAt l f (0x6200 + c) 2 data s → Answers (.diagStickyWrite l) s fun t => Completed f 0 0 [] s t ∧
      t.get (Obj.diagSticky (s.leadOf c)) =
        fitTo (Obj.diagSticky (s.leadOf c)) (s.get (Obj.diagSticky (s.leadOf c)) ^^^ (s.get (Obj.diagSticky (s.leadOf c)) &&& v))) ∧
    -- POR_SEEN_CLEAR of die `c`
    (c < 4 → WritesAt l f (0x1490 + c) 2 data s → Answers (.porSeenClear l) s fun t => Completed f 0 0 [] s t ∧
      (v.testBit 3 = true → BitTo (Obj.dieSupplyStatus c) 3 false s t) ∧
      (v.testBit 3 = false → ∀ j, noisy j = false → t.get j = s.get j))

/-- Writes to the network (R186, R193, R197, R199, R200): what was learned goes, a blocked port's queues empty, the bypass is
granted, dropped or begins anew. `b` is the state of the bypass. -/
def Obligations.NetworkWritesAct : Prop :=
  ∀ (s : State) (l : Fin 32) (f : Flight) (data : List Byte) (v : Nat) (b : Bypass), v = leNat data → s.net.bypass = b →
    (WritesAt l f 0x1200 9 data s → Answers (.flushLearned l) s fun t => Completed f 0 0 [] s t ∧
      t.net = { s.net with learned := [] } ∧ ∀ j, noisy j = false → t.get j = s.get j) ∧
    (∀ p u, WritesAt l f 0x1200 5 data s → v = p + 1 → p < 2 → s.net.ports[p]? = some u →
      Answers (.blockedPortWrite l) s fun t => Completed f 0 0 [] s t ∧ t.get Obj.blockedPort = v ∧ t.net.learned = [] ∧
        ∃ w, t.net.ports[p]? = some w ∧ w.queues = [[], [], [], []]) ∧
    -- INSERT_GRANT while the self-test has passed, and before
    (WritesAt l f 0x1220 5 data s → s.get Obj.bypassState = 1 → b.passed = true → Answers (.insertGrant l) s fun t =>
      Completed f 0 0 [] s t ∧ Takes Obj.bypassState 2 s t ∧ t.net.bypass.coils = true ∧ t.net.bypass.grant = false ∧
      t.net.bypass.since = s.now) ∧
    (WritesAt l f 0x1220 5 data s → s.get Obj.bypassState ≠ 1 ∨ b.passed = false → Answers (.insertGrant l) s fun t =>
      Completed f 0 0 [] s t ∧ t.net = { s.net with bypass := { b with grant := true } } ∧
      ∀ j, noisy j = false → t.get j = s.get j) ∧
    -- BYPASS_MODE_WRITE: BYPASS drops the coils, AUTO inserts what waits for a grant
    (WritesAt l f 0x1220 1 data s → v = 0 → s.get Obj.bypassState ≠ 4 → Answers (.bypassModeWrite l) s fun t =>
      Completed f 0 0 [] s t ∧ t.get Obj.bypassMode = 0 ∧ t.get Obj.bypassState = 0 ∧ t.net.bypass.coils = false) ∧
    (WritesAt l f 0x1220 1 data s → v = 1 → s.get Obj.bypassState = 1 → b.passed = true →
      Answers (.bypassModeWrite l) s fun t => Completed f 0 0 [] s t ∧ t.get Obj.bypassMode = 1 ∧
        t.get Obj.bypassState = 2 ∧ t.net.bypass.coils = true) ∧
    (WritesAt l f 0x1220 1 data s → v ≠ 0 → s.get Obj.bypassState ≠ 1 → Answers (.bypassModeWrite l) s fun t =>
      Completed f 0 0 [] s t ∧ Takes Obj.bypassMode v s t ∧ t.net = s.net) ∧
    -- PORT_RESET
    (∀ p u, WritesAt l f (0x1201 + p) 6 data s → p ∈ s.portList → s.net.ports[p]? = some u →
      Answers (.portReset l) s fun t => Completed f 0 0 [] s t ∧ t.get Obj.bypassState = 0 ∧ t.get Obj.bypassFault = 0 ∧
        t.net.bypass.coils = false ∧ t.get (Obj.rxFrames p) = 0 ∧
        ∃ w, t.net.ports[p]? = some w ∧ w.up = false ∧ w.queues = [[], [], [], []])

/-- FunctionControl, masks and weirs (R250, R251, R253 to R255, R258, R262, R277): ENABLE acts at once, DISABLE and RESET of an
enabled function wait for its drain. `u` is the state of function `n`. -/
def Obligations.FunctionWritesAct : Prop :=
  ∀ (s : State) (l : Fin 32) (f : Flight) (data : List Byte) (v n : Nat) (u : FnUnit), v = leNat data → n < 8 →
    s.host.fns[n]? = some u →
    (WritesAt l f (0x1700 + n) 9 data s →
      -- FUNCTION_ENABLE
      (v = 1 → s.fnState n = 0 → s.enableOk n = true → Answers (.functionEnable l) s fun t => t.fnState n = 1 ∧
        ((∀ i ∈ s.instsOf n, s.tableOf i = none) → Completed f 0 0 [] s t)) ∧
      (v = 1 → s.fnState n = 0 → s.enableOk n = false → Answers (.functionEnable l) s fun t =>
        Untouched s t ∧ Completed f 0x0206 0 [] s t) ∧
      (v = 1 → s.fnState n = 1 → Answers (.functionEnable l) s fun t => Untouched s t ∧ Completed f 0 0 [] s t) ∧
      (v = 1 → 2 ≤ s.fnState n → Answers (.functionEnable l) s fun t => Untouched s t ∧ Completed f 0x0701 0 [] s t) ∧
      -- FUNCTION_DISABLE
      (v = 2 → s.fnState n = 0 → Answers (.functionDisable l) s fun t => Untouched s t ∧ Completed f 0 0 [] s t) ∧
      (v = 2 → s.fnState n = 1 → Answers (.functionDisable l) s fun t => Waits f s t ∧ t.fnState n = 2 ∧
        OneMoves n { u with drainAt := s.now, targetEnabled := false, resetPending := false, boundary := false, joined := [f.id] }
          s.host.fns t.host.fns) ∧
      (v = 2 → 2 ≤ s.fnState n → Answers (.functionDisable l) s fun t => Waits f s t ∧
        OneMoves n { u with targetEnabled := false, joined := u.joined ++ [f.id] } s.host.fns t.host.fns) ∧
      -- FUNCTION_RESET
      (v = 3 → s.fnState n = 0 → Answers (.functionReset l) s fun t => Completed f 0 0 [] s t ∧ t.fnState n = 0 ∧
        CountsUp (Obj.resetCount n) s t ∧
        ∀ c y, c ∈ s.chansOfFn n → s.chans[c]? = some y → ∃ z, t.chans[c]? = some z ∧ z.base = 0) ∧
      (v = 3 → s.fnState n = 1 → Answers (.functionReset l) s fun t => Waits f s t ∧ t.fnState n = 2 ∧
        OneMoves n { u with drainAt := s.now, targetEnabled := true, resetPending := true, boundary := false, joined := [f.id] }
          s.host.fns t.host.fns)) ∧
    -- FUNCTION_MASK_WRITE: the mask or the set takes its value
    (∀ sub, 2 ≤ sub → sub ≤ 5 → WritesAt l f (0x1700 + n) sub data s → Answers (.functionMaskWrite l) s fun t =>
      Completed f 0 0 [] s t ∧ t.get (256 * (0x1700 + n) + sub) = fitTo (256 * (0x1700 + n) + sub) v) ∧
    -- WEIR_STATUS_WRITE: ones clear the sticky bits; the queues that its own COMPLETE moves are left out
    (∀ q, q < 15 → q ≠ 3 → q ≠ 5 → WritesAt l f (0x1300 + q) 6 data s → Answers (.weirStatusWrite l) s fun t =>
      Completed f 0 0 [] s t ∧ ∀ j, j < 8 * Machine.sizeOf (Obj.weirStatus q) → t.bit (Obj.weirStatus q) j =
        (s.bit (Obj.weirStatus q) j && !((j == 2 || j == 3) && v.testBit j)))

/-- Writes to GP pins and pattern units (R356, R360, R364): OutputLevel, SetBits and ClearBits give port `p` its levels, and
every write to a unit clears its MATCH and starts its hold time anew. -/
def Obligations.PinWritesAct : Prop :=
  ∀ (s : State) (l : Fin 32) (f : Flight) (data : List Byte) (v p : Nat), v = leNat data →
    (p < 6 → WritesAt l f (0x1806 + p) 1 data s → Answers (.outputLevelWrite l) s fun t => Completed f 0 0 [] s t ∧
      t.get (Obj.outputLevel p) = v ∧
      ∀ i, i < 16 → v.testBit i ≠ s.bit (Obj.outputLevel p) i → t.gp.orphan.getD (16 * p + i) none = none) ∧
    (p < 6 → WritesAt l f (0x1806 + p) 2 data s → Answers (.setBits l) s fun t => Completed f 0 0 [] s t ∧
      ∀ i, i < 16 → t.bit (Obj.outputLevel p) i = (s.bit (Obj.outputLevel p) i || v.testBit i)) ∧
    (p < 6 → WritesAt l f (0x1806 + p) 3 data s → Answers (.clearBits l) s fun t => Completed f 0 0 [] s t ∧
      ∀ i, i < 16 → t.bit (Obj.outputLevel p) i = (s.bit (Obj.outputLevel p) i && !v.testBit i)) ∧
    (∀ sub, p < 4 → 1 ≤ sub → sub ≤ 5 → WritesAt l f (0x1820 + p) sub data s → Answers (.patternUnitWrite l) s fun t =>
      Completed f 0 0 [] s t ∧ t.get (256 * (0x1820 + p) + sub) = fitTo (256 * (0x1820 + p) + sub) v ∧
      BitTo (Obj.unitStatus p) 0 false s t) ∧
    (p < 4 → WritesAt l f (0x1820 + p) 6 data s → Answers (.patternUnitWrite l) s fun t => Completed f 0 0 [] s t ∧
      t.bit (Obj.unitStatus p) 0 = false ∧ t.bit (Obj.unitStatus p) 1 = (s.bit (Obj.unitStatus p) 1 && !v.testBit 1))

/-- A step (the queue of the block's commands): it takes the command at the front of the queue and runs it on the state with
the rest; with an empty queue the block idles for one cycle of FCLK, which is the model's choice (log entry 2). -/
def Obligations.AStepTakesTheFrontCommand : Prop :=
  (∀ (c : Instr) (cs : List Instr) (s : State), s.pending = c :: cs →
    Sys2Proof.Machine.step s = Sys2Proof.Machine.exec c { s with pending := cs }) ∧
  (∀ (s : State), s.pending = [] → ∃ t, Sys2Proof.Machine.step s = .next t ∧ t.now = s.now + 1 ∧ t.pending = [] ∧
    (s.live = false → t = { s with now := s.now + 1 }) ∧
    (s.live = true → t.get Obj.nodeState = ({ s with now := s.now + 1 } : State).nodeNow))

/-- Every command is answered with a next state: none stops the block. The fuses (R3, R13) and the queue stay as they are, time
stands, and the levels at the DIRECT and WAKE balls move by their own rows alone. -/
def Obligations.EveryCommandIsAnswered : Prop :=
  ∀ (c : Instr) (s : State), Answers c s fun t => t.variant = s.variant ∧ t.pending = s.pending ∧ t.now = s.now ∧
    ((∀ n b, c ≠ .directPinChange n b) → t.direct = s.direct) ∧ ((∀ n b us, c ≠ .wakePin n b us) → t.wakes = s.wakes)

/-- The state after reset is a fresh module right after the release of a POR of VAON (R38, R199, R207, R222, R270, R338): every
object at its default, the logic die not yet started, places FREE, semaphores free, queues empty, coils and unlock gates
off. The module's variant, a factory-fresh Saltpan and the levels at the balls are the model's choice (log entries 1, 4, 5). -/
def Obligations.ResetIsAFreshModule : Prop :=
  (∀ k, State.reset.get k = defaultOf State.reset.variant k) ∧ State.reset.pending = [] ∧ State.reset.live = false ∧
  State.reset.get Obj.latticeState = 0 ∧ State.reset.get Obj.bypassState = 0 ∧ State.reset.get Obj.powerPhase = 0 ∧
  (∀ p, State.reset.placeNo p = 0 ∧ (State.reset.place p).session = none) ∧ (∀ n, State.reset.sema n = .free) ∧
  (∀ q, State.reset.fill q = 0) ∧ (∀ i, (State.reset.coil i).on = false) ∧ (∀ g ∈ State.reset.lat.gates, g = false) ∧
  (∀ c ∈ State.reset.chans, c.on = false) ∧ State.reset.canonical ∧ Fresh State.reset

/-- The object store stays canonical (R13, R165, R167, R180): numbers strictly rise, no object stands at its default, none is
CONST and each holds a value of its width, whatever a step does. -/
def Obligations.EveryStepKeepsTheStoreCanonical : Prop :=
  ∀ (s t : State), s.canonical → Sys2Proof.Machine.step s = .next t → t.canonical

/-- Transactions in flight stay unlike each other (R235): whatever a step does, no two share a number, and the next number is
above all of them. -/
def Obligations.EveryStepKeepsTransactionsUnlike : Prop :=
  ∀ (s t : State), Fresh s → Sys2Proof.Machine.step s = .next t → Fresh t

/-- The loop and the unlock gates (R27, R29, R31 to R33, R377): whatever a step does, a coil that comes on does so in RUN with
FD0 good and its relay seen released, coil 0 only while LOOP_TERM holds; and an unlock gate that opens does so in RUN and on
its own term. -/
def Obligations.NoStepClosesTheLoopUnlessItsTermHolds : Prop :=
  ∀ (s t : State), Sys2Proof.Machine.step s = .next t →
    (∀ i : Fin 2, (s.coil i).on = false → (t.coil i).on = true →
      t.latRun = true ∧ t.fd0Ok = true ∧ t.rb i = some false ∧ (i = 0 → t.loopTerm = true)) ∧
    (∀ l : Fin 24, s.lat.gates.getD l false = false → t.lat.gates.getD l false = true →
      t.latRun = true ∧ t.gateTerm l = true)

/-- Lattice images and sequence tables read back (R41, R59): the bytes of an image of 24 leaves and 12 doorways pass its format
checks and spell the image again, bytes that pass them spell an image with these bytes, and state records and table images
do likewise. -/
def Obligations.ImagesAndTablesReadBack : Prop :=
  (∀ (i : LatImage), i.leaves.length = 24 → i.doors.length = 12 → i.train.length = 6 →
    (∀ x ∈ [i.leafFilter, i.trainFilter, i.handleFilter, i.discrepancy, i.readback, i.pulseWidth, i.pulsePeriod] ++ i.train,
      x < 65536) →
    (∀ e ∈ i.leaves, ∀ x ∈ [e.closedNo, e.closedNc, e.lockedNo, e.lockedNc, e.isoNo, e.isoNc, e.unlock], x < 65536) →
    (∀ d ∈ i.doors, d.no < 65536 ∧ d.nc < 65536) →
    i.bytes.length = 532 ∧ imageCrcOk i.bytes = true ∧ imageHeadOk i.bytes = true ∧ imageReservedOk i.bytes = true ∧
    LatImage.ofBytes i.bytes = i) ∧
  (∀ (bs : List Byte), imageCrcOk bs = true → imageHeadOk bs = true → imageReservedOk bs = true →
    (LatImage.ofBytes bs).bytes = bs) ∧
  (∀ (bs : List Byte), bs.length = 144 → (StateRec.ofBytes bs).bytes = bs) ∧
  (∀ (h : List Byte) (rs : List StateRec), h.length = 16 → h.take 4 = [0x53, 0x51, 0x54, 0x31] → h.getD 9 0 = 0 →
    (h.getD 5 0).toNat = rs.length → leNat (h.drop 12) = crc32c (h.take 12 ++ rs.flatMap StateRec.bytes) →
    (SeqTab.ofParts h rs).header = h)

/-- Each unit keeps to its own (the frames of the families): what a field channel, the lattice, an axis, a port, a clock or a GP
pin does leaves the other units' state, and every object outside the chapters that it reports to, as they were. -/
def Obligations.EachUnitKeepsToItsOwn : Prop :=
  ∀ (c : Instr) (s : State), Answers c s fun t =>
    (fieldRow c = true → SameHost s t ∧ KeepsObjects [0x13, 0x14, 0x16, 0x22, 0x35, 0x61, 0x62, 0x63] s t ∧
      t.lat = s.lat ∧ t.seq = s.seq ∧ t.setpts = s.setpts ∧ t.sup = s.sup ∧ t.pow = s.pow ∧ t.clk = s.clk ∧
      t.rst = s.rst ∧ t.net = s.net ∧ t.gp = s.gp ∧ t.salt = s.salt ∧ t.diag = s.diag ∧ t.free = s.free) ∧
    (latticeRow c = true → SameHost s t ∧ KeepsObjects [0x10, 0x12, 0x13, 0x14, 0x16, 0x20, 0x22, 0x35] s t ∧
      t.seq = s.seq ∧ t.setpts = s.setpts ∧ t.axes = s.axes ∧ t.chans = s.chans ∧ t.sup = s.sup ∧ t.clk = s.clk ∧
      t.rst = s.rst ∧ t.gp = s.gp ∧ t.salt = s.salt ∧ t.diag = s.diag ∧ t.free = s.free) ∧
    (axisRow c = true → SameHost s t ∧
      KeepsObjects [0x12, 0x13, 0x14, 0x16, 0x22, 0x31, 0x32, 0x33, 0x34, 0x35] s t ∧
      t.lat = s.lat ∧ t.chans = s.chans ∧ t.dies = s.dies ∧ t.clk = s.clk ∧ t.rst = s.rst ∧ t.gp = s.gp ∧
      t.salt = s.salt ∧ t.diag = s.diag ∧ t.free = s.free) ∧
    (networkRow c = true → { t.host with linkEgress := s.host.linkEgress, pool := s.host.pool, seqs := s.host.seqs,
                                         weirs := s.host.weirs } = s.host ∧
      KeepsObjects [0x12, 0x13, 0x15, 0x16, 0x22, 0x35] s t ∧
      t.lat = s.lat ∧ t.seq = s.seq ∧ t.axes = s.axes ∧ t.setpts = s.setpts ∧ t.chans = s.chans ∧ t.dies = s.dies ∧
      t.sup = s.sup ∧ t.pow = s.pow ∧ t.clk = s.clk ∧ t.rst = s.rst ∧ t.gp = s.gp ∧ t.salt = s.salt ∧
      t.diag = s.diag ∧ t.free = s.free) ∧
    (clockRow c = true → SameHost s t ∧ KeepsObjects [0x12, 0x13, 0x14, 0x15, 0x16, 0x35] s t ∧
      t.lat = s.lat ∧ t.seq = s.seq ∧ t.recd = s.recd ∧ t.axes = s.axes ∧ t.setpts = s.setpts ∧ t.chans = s.chans ∧
      t.dies = s.dies ∧ t.sup = s.sup ∧ t.pow = s.pow ∧ t.rst = s.rst ∧ t.gp = s.gp ∧ t.salt = s.salt ∧
      t.diag = s.diag ∧ t.free = s.free) ∧
    (pinRow c = true → SameHost s t ∧ KeepsObjects [0x13, 0x18, 0x35] s t ∧
      t.lat = s.lat ∧ t.seq = s.seq ∧ t.recd = s.recd ∧ t.setpts = s.setpts ∧ t.chans = s.chans ∧ t.dies = s.dies ∧
      t.sup = s.sup ∧ t.pow = s.pow ∧ t.clk = s.clk ∧ t.rst = s.rst ∧ t.net = s.net ∧ t.salt = s.salt ∧
      t.diag = s.diag ∧ t.free = s.free)

/-- R415: objects that one value alone triggers. A write or CMD of any other value, which the access rules let through,
completes with 16#0205 and has no effect. -/
def Obligations.TriggersTakeTheirOneValue : Prop :=
  ∀ (s : State) (l : Fin 32) (f : Flight) (o : OpKind) (k trigger : Nat) (data : List Byte), Carries l f s →
    ((o = .write ∧ f.op = 0x11 ∧ f.req = .write (k / 256) (k % 256) data) ∨
      (o = .cmd ∧ f.op = 0x40 ∧ f.req = .cmd (k / 256) (k % 256) data)) →
    s.access (f.writer true) o k = 0 → data.length = Machine.sizeOf k → leNat data ≠ trigger →
    (trigger = 0xA5 ∧ (k = Obj.restoreDefaults ∨ k = Obj.deviceReset ∨ k = Obj.loadFactoryImage ∨
        (∃ c, c < 256 ∧ k = Obj.outputReset c) ∨ (∃ p, p < 2 ∧ k = Obj.portReset p) ∨ (∃ m, m < 2 ∧ k = Obj.slotReset m))) ∨
      (trigger = 1 ∧ (k = Obj.flushNow ∨ k = Obj.flushLearned ∨ k = Obj.insertGrant)) →
    ∃ c ∈ objectRows l, Answers c s fun t => Untouched s t ∧ Completed f 0x0205 0 [] s t

/-- R225: SemaHolders has two bits per semaphore, 0 free, 1 held by M0, 2 held by M1 and 3 in hold-off; SemaWaiters has bit
2n for a waiting M0 and bit 2n + 1 for a waiting M1; a READ answers with either as it stands in one state. -/
def Obligations.SemaHoldersAndWaitersShowEverySemaphore : Prop :=
  ∀ (s : State), s.host.semas.length = 64 → (∀ n m, s.sema n = .held m → m < 2) →
    Machine.sizeOf Obj.semaHolders = 16 ∧ Machine.sizeOf Obj.semaWaiters = 16 ∧
    (∀ n, n < 64 →
      s.view Obj.semaHolders / 4 ^ n % 4 = (match s.sema n with
        | .free => 0
        | .held m => m + 1
        | .holdoff _ => 3) ∧
      ((s.view Obj.semaWaiters).testBit (2 * n) = true ↔ ∃ w ∈ s.host.waits, w.sema = n ∧ w.place = 0) ∧
      ((s.view Obj.semaWaiters).testBit (2 * n + 1) = true ↔ ∃ w ∈ s.host.waits, w.sema = n ∧ w.place = 1)) ∧
    (∀ (l : Fin 32) f k, Carries l f s → (k = Obj.semaHolders ∨ k = Obj.semaWaiters) → f.op = 0x10 →
      f.req = .read (k / 256) (k % 256) 0 0 → s.access (f.writer false) .read k = 0 → Answers (.read l) s fun t =>
        Untouched s t ∧ Completed f 0 0 (toLe 16 (s.view k)) s t)

/-- WRITE (R167, R173, R180): whatever hangs on it, an object of class RW, RWD or RWS that the row WRITE takes reads back as
what was written; WakeAt alone, which a past time sets back, is left out (R333). -/
def Obligations.EveryPlainObjectTakesWhatIsWritten : Prop :=
  ∀ (s : State) (l : Fin 32) (f : Flight) (idx sub k : Nat) (data : List Byte) (g : Group) (i : Nat) (d : Sub),
    k = 256 * idx + sub → WritesAt l f idx sub data s → f.work = .write → lookup k = some (g, i, d) →
    (d.acc = .rw ∨ d.acc = .rwd ∨ ∃ m, d.acc = .rws m) → d.flags.contains .w1c = false →
    d.flags.contains .session = false → k ≠ Obj.wakeAt → Answers (.write l) s fun t =>
      t.get k = fitTo k (leNat data) ∧ doneOf f 0 0 [] s.now ∈ t.host.done

/-- R50: RetryCount of each axis instance, 0 to 15, shown in 16#3100+a.21. The RETRY action clears it, or increments it and
saturates at 15; the RETRY literal compares it with its operand n, or with RetryLimit when the operand is 16. -/
def Obligations.RetryCountsClearSaturateAndCompare : Prop :=
  ∀ (s : State) (a : Fin 24) (r : StateRec) (b2 b3 : Nat),
    (act (8 + a) r ⟨8, 0, b2, b3⟩ s).get (Obj.retryCount a) = 0 ∧
    (act (8 + a) r ⟨8, 1, b2, b3⟩ s).get (Obj.retryCount a) = min 15 (s.get (Obj.retryCount a) + 1) ∧
    (∀ b1 k, k ≠ Obj.retryCount a → (act (8 + a) r ⟨8, b1, b2, b3⟩ s).get k = s.get k) ∧
    (∀ n, n ≤ 15 → s.litHolds (8 + a) (lit 10 n) = decide (n ≤ s.get (Obj.retryCount a))) ∧
    s.litHolds (8 + a) (lit 10 16) = decide (s.get (Obj.retryLimit a) ≤ s.get (Obj.retryCount a)) ∧
    (∀ (l : Fin 32) f, Carries l f s → f.op = 0x10 → f.req = .read (0x3100 + a) 0x21 0 0 →
      s.access (f.writer false) .read (Obj.retryCount a) = 0 → Answers (.read l) s fun t =>
        Untouched s t ∧ Completed f 0 0 (toLe 1 (s.get (Obj.retryCount a))) s t)

/-- R213: KeyCheck0 to KeyCheck2 are U16 and RO. A READ answers with the first two bytes of HMAC-SHA-256(K, "DLS-CHK") of its
key, or with 0 while no key is provisioned, and a WRITE is refused with 16#0101. -/
def Obligations.KeyChecksShowTheirKeys : Prop :=
  ∀ (s : State) (l : Fin 32) (f : Flight) (r : Nat), r < 3 → Carries l f s →
    (f.op = 0x10 → f.req = .read 0x1110 (4 + r) 0 0 → Answers (.read l) s fun t => Untouched s t ∧
      Completed f 0 0 (match s.key r with
        | none => [0, 0]
        | some key => (hmac key (label "DLS-CHK")).take 2) s t) ∧
    (∀ data, f.place < 2 → f.op = 0x11 → f.req = .write 0x1110 (4 + r) data → Answers (.write l) s fun t =>
      Untouched s t ∧ Completed f 0x0101 0 [] s t)
end

