-- ==== Sys2Proof/Laws/Store.lean ====
section
/-!
SUPPORT. Laws/Store.lean: the object store reads back what was put, keeps every other object, and keeps its canonical
form: numbers strictly rising, no entry at its default, no entry of a CONST object.
-/
namespace Sys2Proof.Machine
open Sys2Proof Sys2Proof.Config

/-! One store. -/

theorem storeGet_filter_ne (d k j : Nat) (h : j ≠ k) (xs : List (Nat × Nat)) :
    storeGet d j (xs.filter fun e => e.1 != k) = storeGet d j xs := by
  induction xs with
  | nil => rfl
  | cons e r ih =>
    obtain ⟨a, b⟩ := e
    by_cases ha : a = k
    · subst ha; simp [storeGet, ih, Ne.symm h]
    · simp [storeGet, ih, ha]

theorem storeGet_filter_self (d k : Nat) (xs : List (Nat × Nat)) :
    storeGet d k (xs.filter fun e => e.1 != k) = d := by
  induction xs with
  | nil => rfl
  | cons e r ih =>
    obtain ⟨a, b⟩ := e
    by_cases ha : a = k
    · simp [ih, ha]
    · simp [storeGet, ih, ha]

theorem storeGet_insert_ne (d k v j : Nat) (h : j ≠ k) (xs : List (Nat × Nat)) :
    storeGet d j (storeInsert k v xs) = storeGet d j xs := by
  induction xs with
  | nil => simp [storeInsert, storeGet, Ne.symm h]
  | cons e r ih => obtain ⟨a, b⟩ := e; simp only [storeInsert]; split <;> simp [storeGet, ih, Ne.symm h]

theorem storeGet_insert_self (d k v : Nat) (xs : List (Nat × Nat)) (h : ∀ e ∈ xs, e.1 ≠ k) :
    storeGet d k (storeInsert k v xs) = v := by
  induction xs with
  | nil => simp [storeInsert, storeGet]
  | cons e r ih =>
    obtain ⟨a, b⟩ := e
    have ha : a ≠ k := h (a, b) (by simp)
    simp only [storeInsert]; split
    · simp [storeGet]
    · simp [storeGet, ha, ih fun e he => h e (by simp [he])]

theorem storeGet_put_self (d k v : Nat) (xs : List (Nat × Nat)) : storeGet d k (storePut d k v xs) = v := by
  unfold storePut; dsimp only; split
  · rename_i h; rw [h]; exact storeGet_filter_self _ k xs
  · exact storeGet_insert_self d k v _ (by simp)

theorem storeGet_put_ne (d d' k v j : Nat) (h : j ≠ k) (xs : List (Nat × Nat)) :
    storeGet d j (storePut d' k v xs) = storeGet d j xs := by
  unfold storePut; dsimp only; split
  · exact storeGet_filter_ne d k j h xs
  · rw [storeGet_insert_ne d k v j h, storeGet_filter_ne d k j h]

/-! The canonical form. -/

theorem mem_storeInsert (k v : Nat) (xs : List (Nat × Nat)) (e : Nat × Nat) :
    e ∈ storeInsert k v xs ↔ e = (k, v) ∨ e ∈ xs := by
  induction xs with
  | nil => simp [storeInsert]
  | cons a r ih => obtain ⟨x, y⟩ := a; simp only [storeInsert]; split <;> simp [ih, or_left_comm]

theorem rising_insert (k v : Nat) (xs : List (Nat × Nat)) (h : Rising xs) (hk : ∀ e ∈ xs, e.1 ≠ k) :
    Rising (storeInsert k v xs) := by
  induction xs with
  | nil => simp [storeInsert, Rising]
  | cons a r ih =>
    obtain ⟨x, y⟩ := a
    unfold Rising at h ih ⊢
    rw [List.pairwise_cons] at h
    simp only [storeInsert]; split
    · rename_i hlt
      refine List.pairwise_cons.2 ⟨?_, List.pairwise_cons.2 h⟩
      intro e he
      rcases List.mem_cons.1 he with rfl | he
      · exact hlt
      · exact Nat.lt_trans hlt (h.1 e he)
    · rename_i hge
      have hx : x ≠ k := hk (x, y) (by simp)
      refine List.pairwise_cons.2 ⟨?_, ih h.2 fun e he => hk e (by simp [he])⟩
      intro e he
      rcases (mem_storeInsert k v r e).1 he with rfl | he
      · show x < k; omega
      · exact h.1 e he

theorem rising_put (d k v : Nat) (xs : List (Nat × Nat)) (h : Rising xs) : Rising (storePut d k v xs) := by
  have hf : Rising (xs.filter fun e => e.1 != k) := h.filter _
  unfold storePut; dsimp only; split
  · exact hf
  · exact rising_insert k v _ hf (by simp)

theorem fitTo_fitTo (k v : Nat) : fitTo k (fitTo k v) = fitTo k v := by
  unfold fitTo; split <;> simp

theorem put_canonical (k v : Nat) (s : State) (h : s.canonical) : (s.put k v).canonical := by
  unfold State.put; split
  · exact h
  · rename_i hc
    refine ⟨rising_put _ _ _ _ h.1, ?_⟩
    intro e he
    have he : e ∈ storePut (defaultOf s.variant k) k (fitTo k v) s.objs := he
    unfold storePut at he; dsimp only at he; split at he
    · exact h.2 e ((List.mem_filter.1 he).1)
    · rename_i hd
      rcases (mem_storeInsert k _ _ e).1 he with rfl | he
      · exact ⟨by simpa using hc, hd, fitTo_fitTo k v⟩
      · exact h.2 e ((List.mem_filter.1 he).1)

/-! The store of the device. -/

@[simp] theorem get_put_self (k v : Nat) (s : State) (h : isConst k = false) : (s.put k v).get k = fitTo k v := by
  simp [State.get, State.put, h, storeGet_put_self]

@[simp] theorem get_put_ne (k v j : Nat) (s : State) (h : j ≠ k) : (s.put k v).get j = s.get j := by
  unfold State.get State.put; split
  · split <;> rfl
  · split
    · rfl
    · exact storeGet_put_ne _ _ _ _ _ h _

/-- A CONST object keeps its value whatever is put. -/
theorem get_const (k : Nat) (s : State) (h : isConst k = true) : s.get k = defaultOf s.variant k := by
  simp [State.get, h]

end Sys2Proof.Machine
end

