-- ==== Sys2Proof/Laws/State.lean ====
section
/-!
SUPPORT. Laws/State.lean: what each update of the state leaves unchanged, one lemma per field and update, so that no proof
unfolds a record update.
-/
namespace Sys2Proof.Machine
open Sys2Proof

variable (s : State)

/-! Objects. -/

@[simp] theorem put_variant (k v : Nat) : (s.put k v).variant = s.variant := by unfold State.put; split <;> rfl
@[simp] theorem put_now (k v : Nat) : (s.put k v).now = s.now := by unfold State.put; split <;> rfl
@[simp] theorem put_free (k v : Nat) : (s.put k v).free = s.free := by unfold State.put; split <;> rfl
@[simp] theorem put_pending (k v : Nat) : (s.put k v).pending = s.pending := by unfold State.put; split <;> rfl
@[simp] theorem put_host (k v : Nat) : (s.put k v).host = s.host := by unfold State.put; split <;> rfl
@[simp] theorem put_lat (k v : Nat) : (s.put k v).lat = s.lat := by unfold State.put; split <;> rfl
@[simp] theorem put_seq (k v : Nat) : (s.put k v).seq = s.seq := by unfold State.put; split <;> rfl
@[simp] theorem put_recd (k v : Nat) : (s.put k v).recd = s.recd := by unfold State.put; split <;> rfl
@[simp] theorem put_salt (k v : Nat) : (s.put k v).salt = s.salt := by unfold State.put; split <;> rfl
@[simp] theorem put_axes (k v : Nat) : (s.put k v).axes = s.axes := by unfold State.put; split <;> rfl
@[simp] theorem put_setpts (k v : Nat) : (s.put k v).setpts = s.setpts := by unfold State.put; split <;> rfl
@[simp] theorem put_chans (k v : Nat) : (s.put k v).chans = s.chans := by unfold State.put; split <;> rfl
@[simp] theorem put_dies (k v : Nat) : (s.put k v).dies = s.dies := by unfold State.put; split <;> rfl
@[simp] theorem put_direct (k v : Nat) : (s.put k v).direct = s.direct := by unfold State.put; split <;> rfl
@[simp] theorem put_wakes (k v : Nat) : (s.put k v).wakes = s.wakes := by unfold State.put; split <;> rfl
@[simp] theorem put_sup (k v : Nat) : (s.put k v).sup = s.sup := by unfold State.put; split <;> rfl
@[simp] theorem put_pow (k v : Nat) : (s.put k v).pow = s.pow := by unfold State.put; split <;> rfl
@[simp] theorem put_clk (k v : Nat) : (s.put k v).clk = s.clk := by unfold State.put; split <;> rfl
@[simp] theorem put_rst (k v : Nat) : (s.put k v).rst = s.rst := by unfold State.put; split <;> rfl
@[simp] theorem put_diag (k v : Nat) : (s.put k v).diag = s.diag := by unfold State.put; split <;> rfl
@[simp] theorem put_net (k v : Nat) : (s.put k v).net = s.net := by unfold State.put; split <;> rfl
@[simp] theorem put_gp (k v : Nat) : (s.put k v).gp = s.gp := by unfold State.put; split <;> rfl

@[simp] theorem inc_eq (k : Nat) : s.inc k = s.put k (s.get k + 1) := rfl
@[simp] theorem addTo_eq (k n : Nat) : s.addTo k n = s.put k (s.get k + n) := rfl
@[simp] theorem setBit_eq (k i : Nat) (b : Bool) : s.setBit k i b = s.put k (setBitOf (s.get k) i b) := rfl
@[simp] theorem puti_eq (k : Nat) (v : Int) : s.puti k v = s.put k (encSigned (8 * sizeOf k) v) := rfl
@[simp] theorem toDefault_eq (k : Nat) : s.toDefault k = s.put k (defaultOf s.variant k) := rfl
@[simp] theorem whenever_true (f : State → State) : s.whenever true f = f s := rfl
@[simp] theorem whenever_false (f : State → State) : s.whenever false f = s := rfl

/-- A CONST object and every other object of a state depend on its fuses and its store alone. -/
theorem get_congr (t : State) (k : Nat) (hv : t.variant = s.variant) (ho : t.objs = s.objs) : t.get k = s.get k := by
  unfold State.get; rw [hv, ho]

/-! `State.onAxis`. -/

@[simp] theorem onAxis_variant (a : Nat) (f : Axis → Axis) : (s.onAxis a f).variant = s.variant := rfl
@[simp] theorem onAxis_now (a : Nat) (f : Axis → Axis) : (s.onAxis a f).now = s.now := rfl
@[simp] theorem onAxis_free (a : Nat) (f : Axis → Axis) : (s.onAxis a f).free = s.free := rfl
@[simp] theorem onAxis_pending (a : Nat) (f : Axis → Axis) : (s.onAxis a f).pending = s.pending := rfl
@[simp] theorem onAxis_objs (a : Nat) (f : Axis → Axis) : (s.onAxis a f).objs = s.objs := rfl
@[simp] theorem onAxis_host (a : Nat) (f : Axis → Axis) : (s.onAxis a f).host = s.host := rfl
@[simp] theorem onAxis_lat (a : Nat) (f : Axis → Axis) : (s.onAxis a f).lat = s.lat := rfl
@[simp] theorem onAxis_seq (a : Nat) (f : Axis → Axis) : (s.onAxis a f).seq = s.seq := rfl
@[simp] theorem onAxis_recd (a : Nat) (f : Axis → Axis) : (s.onAxis a f).recd = s.recd := rfl
@[simp] theorem onAxis_salt (a : Nat) (f : Axis → Axis) : (s.onAxis a f).salt = s.salt := rfl
@[simp] theorem onAxis_setpts (a : Nat) (f : Axis → Axis) : (s.onAxis a f).setpts = s.setpts := rfl
@[simp] theorem onAxis_chans (a : Nat) (f : Axis → Axis) : (s.onAxis a f).chans = s.chans := rfl
@[simp] theorem onAxis_dies (a : Nat) (f : Axis → Axis) : (s.onAxis a f).dies = s.dies := rfl
@[simp] theorem onAxis_direct (a : Nat) (f : Axis → Axis) : (s.onAxis a f).direct = s.direct := rfl
@[simp] theorem onAxis_wakes (a : Nat) (f : Axis → Axis) : (s.onAxis a f).wakes = s.wakes := rfl
@[simp] theorem onAxis_sup (a : Nat) (f : Axis → Axis) : (s.onAxis a f).sup = s.sup := rfl
@[simp] theorem onAxis_pow (a : Nat) (f : Axis → Axis) : (s.onAxis a f).pow = s.pow := rfl
@[simp] theorem onAxis_clk (a : Nat) (f : Axis → Axis) : (s.onAxis a f).clk = s.clk := rfl
@[simp] theorem onAxis_rst (a : Nat) (f : Axis → Axis) : (s.onAxis a f).rst = s.rst := rfl
@[simp] theorem onAxis_diag (a : Nat) (f : Axis → Axis) : (s.onAxis a f).diag = s.diag := rfl
@[simp] theorem onAxis_net (a : Nat) (f : Axis → Axis) : (s.onAxis a f).net = s.net := rfl
@[simp] theorem onAxis_gp (a : Nat) (f : Axis → Axis) : (s.onAxis a f).gp = s.gp := rfl
@[simp] theorem onAxis_get (a : Nat) (f : Axis → Axis) (j : Nat) : (s.onAxis a f).get j = s.get j := rfl

/-! `State.onChan`. -/

@[simp] theorem onChan_variant (c : Nat) (f : Chan → Chan) : (s.onChan c f).variant = s.variant := rfl
@[simp] theorem onChan_now (c : Nat) (f : Chan → Chan) : (s.onChan c f).now = s.now := rfl
@[simp] theorem onChan_free (c : Nat) (f : Chan → Chan) : (s.onChan c f).free = s.free := rfl
@[simp] theorem onChan_pending (c : Nat) (f : Chan → Chan) : (s.onChan c f).pending = s.pending := rfl
@[simp] theorem onChan_objs (c : Nat) (f : Chan → Chan) : (s.onChan c f).objs = s.objs := rfl
@[simp] theorem onChan_host (c : Nat) (f : Chan → Chan) : (s.onChan c f).host = s.host := rfl
@[simp] theorem onChan_lat (c : Nat) (f : Chan → Chan) : (s.onChan c f).lat = s.lat := rfl
@[simp] theorem onChan_seq (c : Nat) (f : Chan → Chan) : (s.onChan c f).seq = s.seq := rfl
@[simp] theorem onChan_recd (c : Nat) (f : Chan → Chan) : (s.onChan c f).recd = s.recd := rfl
@[simp] theorem onChan_salt (c : Nat) (f : Chan → Chan) : (s.onChan c f).salt = s.salt := rfl
@[simp] theorem onChan_axes (c : Nat) (f : Chan → Chan) : (s.onChan c f).axes = s.axes := rfl
@[simp] theorem onChan_setpts (c : Nat) (f : Chan → Chan) : (s.onChan c f).setpts = s.setpts := rfl
@[simp] theorem onChan_dies (c : Nat) (f : Chan → Chan) : (s.onChan c f).dies = s.dies := rfl
@[simp] theorem onChan_direct (c : Nat) (f : Chan → Chan) : (s.onChan c f).direct = s.direct := rfl
@[simp] theorem onChan_wakes (c : Nat) (f : Chan → Chan) : (s.onChan c f).wakes = s.wakes := rfl
@[simp] theorem onChan_sup (c : Nat) (f : Chan → Chan) : (s.onChan c f).sup = s.sup := rfl
@[simp] theorem onChan_pow (c : Nat) (f : Chan → Chan) : (s.onChan c f).pow = s.pow := rfl
@[simp] theorem onChan_clk (c : Nat) (f : Chan → Chan) : (s.onChan c f).clk = s.clk := rfl
@[simp] theorem onChan_rst (c : Nat) (f : Chan → Chan) : (s.onChan c f).rst = s.rst := rfl
@[simp] theorem onChan_diag (c : Nat) (f : Chan → Chan) : (s.onChan c f).diag = s.diag := rfl
@[simp] theorem onChan_net (c : Nat) (f : Chan → Chan) : (s.onChan c f).net = s.net := rfl
@[simp] theorem onChan_gp (c : Nat) (f : Chan → Chan) : (s.onChan c f).gp = s.gp := rfl
@[simp] theorem onChan_get (c : Nat) (f : Chan → Chan) (j : Nat) : (s.onChan c f).get j = s.get j := rfl

/-! `State.onDie`. -/

@[simp] theorem onDie_variant (k : Nat) (f : Die → Die) : (s.onDie k f).variant = s.variant := rfl
@[simp] theorem onDie_now (k : Nat) (f : Die → Die) : (s.onDie k f).now = s.now := rfl
@[simp] theorem onDie_free (k : Nat) (f : Die → Die) : (s.onDie k f).free = s.free := rfl
@[simp] theorem onDie_pending (k : Nat) (f : Die → Die) : (s.onDie k f).pending = s.pending := rfl
@[simp] theorem onDie_objs (k : Nat) (f : Die → Die) : (s.onDie k f).objs = s.objs := rfl
@[simp] theorem onDie_host (k : Nat) (f : Die → Die) : (s.onDie k f).host = s.host := rfl
@[simp] theorem onDie_lat (k : Nat) (f : Die → Die) : (s.onDie k f).lat = s.lat := rfl
@[simp] theorem onDie_seq (k : Nat) (f : Die → Die) : (s.onDie k f).seq = s.seq := rfl
@[simp] theorem onDie_recd (k : Nat) (f : Die → Die) : (s.onDie k f).recd = s.recd := rfl
@[simp] theorem onDie_salt (k : Nat) (f : Die → Die) : (s.onDie k f).salt = s.salt := rfl
@[simp] theorem onDie_axes (k : Nat) (f : Die → Die) : (s.onDie k f).axes = s.axes := rfl
@[simp] theorem onDie_setpts (k : Nat) (f : Die → Die) : (s.onDie k f).setpts = s.setpts := rfl
@[simp] theorem onDie_chans (k : Nat) (f : Die → Die) : (s.onDie k f).chans = s.chans := rfl
@[simp] theorem onDie_direct (k : Nat) (f : Die → Die) : (s.onDie k f).direct = s.direct := rfl
@[simp] theorem onDie_wakes (k : Nat) (f : Die → Die) : (s.onDie k f).wakes = s.wakes := rfl
@[simp] theorem onDie_sup (k : Nat) (f : Die → Die) : (s.onDie k f).sup = s.sup := rfl
@[simp] theorem onDie_pow (k : Nat) (f : Die → Die) : (s.onDie k f).pow = s.pow := rfl
@[simp] theorem onDie_clk (k : Nat) (f : Die → Die) : (s.onDie k f).clk = s.clk := rfl
@[simp] theorem onDie_rst (k : Nat) (f : Die → Die) : (s.onDie k f).rst = s.rst := rfl
@[simp] theorem onDie_diag (k : Nat) (f : Die → Die) : (s.onDie k f).diag = s.diag := rfl
@[simp] theorem onDie_net (k : Nat) (f : Die → Die) : (s.onDie k f).net = s.net := rfl
@[simp] theorem onDie_gp (k : Nat) (f : Die → Die) : (s.onDie k f).gp = s.gp := rfl
@[simp] theorem onDie_get (k : Nat) (f : Die → Die) (j : Nat) : (s.onDie k f).get j = s.get j := rfl

/-! `State.onInst`. -/

@[simp] theorem onInst_variant (i : Nat) (f : SeqInst → SeqInst) : (s.onInst i f).variant = s.variant := rfl
@[simp] theorem onInst_now (i : Nat) (f : SeqInst → SeqInst) : (s.onInst i f).now = s.now := rfl
@[simp] theorem onInst_free (i : Nat) (f : SeqInst → SeqInst) : (s.onInst i f).free = s.free := rfl
@[simp] theorem onInst_pending (i : Nat) (f : SeqInst → SeqInst) : (s.onInst i f).pending = s.pending := rfl
@[simp] theorem onInst_objs (i : Nat) (f : SeqInst → SeqInst) : (s.onInst i f).objs = s.objs := rfl
@[simp] theorem onInst_host (i : Nat) (f : SeqInst → SeqInst) : (s.onInst i f).host = s.host := rfl
@[simp] theorem onInst_lat (i : Nat) (f : SeqInst → SeqInst) : (s.onInst i f).lat = s.lat := rfl
@[simp] theorem onInst_recd (i : Nat) (f : SeqInst → SeqInst) : (s.onInst i f).recd = s.recd := rfl
@[simp] theorem onInst_salt (i : Nat) (f : SeqInst → SeqInst) : (s.onInst i f).salt = s.salt := rfl
@[simp] theorem onInst_axes (i : Nat) (f : SeqInst → SeqInst) : (s.onInst i f).axes = s.axes := rfl
@[simp] theorem onInst_setpts (i : Nat) (f : SeqInst → SeqInst) : (s.onInst i f).setpts = s.setpts := rfl
@[simp] theorem onInst_chans (i : Nat) (f : SeqInst → SeqInst) : (s.onInst i f).chans = s.chans := rfl
@[simp] theorem onInst_dies (i : Nat) (f : SeqInst → SeqInst) : (s.onInst i f).dies = s.dies := rfl
@[simp] theorem onInst_direct (i : Nat) (f : SeqInst → SeqInst) : (s.onInst i f).direct = s.direct := rfl
@[simp] theorem onInst_wakes (i : Nat) (f : SeqInst → SeqInst) : (s.onInst i f).wakes = s.wakes := rfl
@[simp] theorem onInst_sup (i : Nat) (f : SeqInst → SeqInst) : (s.onInst i f).sup = s.sup := rfl
@[simp] theorem onInst_pow (i : Nat) (f : SeqInst → SeqInst) : (s.onInst i f).pow = s.pow := rfl
@[simp] theorem onInst_clk (i : Nat) (f : SeqInst → SeqInst) : (s.onInst i f).clk = s.clk := rfl
@[simp] theorem onInst_rst (i : Nat) (f : SeqInst → SeqInst) : (s.onInst i f).rst = s.rst := rfl
@[simp] theorem onInst_diag (i : Nat) (f : SeqInst → SeqInst) : (s.onInst i f).diag = s.diag := rfl
@[simp] theorem onInst_net (i : Nat) (f : SeqInst → SeqInst) : (s.onInst i f).net = s.net := rfl
@[simp] theorem onInst_gp (i : Nat) (f : SeqInst → SeqInst) : (s.onInst i f).gp = s.gp := rfl
@[simp] theorem onInst_get (i : Nat) (f : SeqInst → SeqInst) (j : Nat) : (s.onInst i f).get j = s.get j := rfl

/-! `State.onHost`. -/

@[simp] theorem onHost_variant (f : HostSide → HostSide) : (s.onHost f).variant = s.variant := rfl
@[simp] theorem onHost_now (f : HostSide → HostSide) : (s.onHost f).now = s.now := rfl
@[simp] theorem onHost_free (f : HostSide → HostSide) : (s.onHost f).free = s.free := rfl
@[simp] theorem onHost_pending (f : HostSide → HostSide) : (s.onHost f).pending = s.pending := rfl
@[simp] theorem onHost_objs (f : HostSide → HostSide) : (s.onHost f).objs = s.objs := rfl
@[simp] theorem onHost_lat (f : HostSide → HostSide) : (s.onHost f).lat = s.lat := rfl
@[simp] theorem onHost_seq (f : HostSide → HostSide) : (s.onHost f).seq = s.seq := rfl
@[simp] theorem onHost_recd (f : HostSide → HostSide) : (s.onHost f).recd = s.recd := rfl
@[simp] theorem onHost_salt (f : HostSide → HostSide) : (s.onHost f).salt = s.salt := rfl
@[simp] theorem onHost_axes (f : HostSide → HostSide) : (s.onHost f).axes = s.axes := rfl
@[simp] theorem onHost_setpts (f : HostSide → HostSide) : (s.onHost f).setpts = s.setpts := rfl
@[simp] theorem onHost_chans (f : HostSide → HostSide) : (s.onHost f).chans = s.chans := rfl
@[simp] theorem onHost_dies (f : HostSide → HostSide) : (s.onHost f).dies = s.dies := rfl
@[simp] theorem onHost_direct (f : HostSide → HostSide) : (s.onHost f).direct = s.direct := rfl
@[simp] theorem onHost_wakes (f : HostSide → HostSide) : (s.onHost f).wakes = s.wakes := rfl
@[simp] theorem onHost_sup (f : HostSide → HostSide) : (s.onHost f).sup = s.sup := rfl
@[simp] theorem onHost_pow (f : HostSide → HostSide) : (s.onHost f).pow = s.pow := rfl
@[simp] theorem onHost_clk (f : HostSide → HostSide) : (s.onHost f).clk = s.clk := rfl
@[simp] theorem onHost_rst (f : HostSide → HostSide) : (s.onHost f).rst = s.rst := rfl
@[simp] theorem onHost_diag (f : HostSide → HostSide) : (s.onHost f).diag = s.diag := rfl
@[simp] theorem onHost_net (f : HostSide → HostSide) : (s.onHost f).net = s.net := rfl
@[simp] theorem onHost_gp (f : HostSide → HostSide) : (s.onHost f).gp = s.gp := rfl
@[simp] theorem onHost_get (f : HostSide → HostSide) (j : Nat) : (s.onHost f).get j = s.get j := rfl

/-! `State.onLat`. -/

@[simp] theorem onLat_variant (f : Lattice → Lattice) : (s.onLat f).variant = s.variant := rfl
@[simp] theorem onLat_now (f : Lattice → Lattice) : (s.onLat f).now = s.now := rfl
@[simp] theorem onLat_free (f : Lattice → Lattice) : (s.onLat f).free = s.free := rfl
@[simp] theorem onLat_pending (f : Lattice → Lattice) : (s.onLat f).pending = s.pending := rfl
@[simp] theorem onLat_objs (f : Lattice → Lattice) : (s.onLat f).objs = s.objs := rfl
@[simp] theorem onLat_host (f : Lattice → Lattice) : (s.onLat f).host = s.host := rfl
@[simp] theorem onLat_seq (f : Lattice → Lattice) : (s.onLat f).seq = s.seq := rfl
@[simp] theorem onLat_recd (f : Lattice → Lattice) : (s.onLat f).recd = s.recd := rfl
@[simp] theorem onLat_salt (f : Lattice → Lattice) : (s.onLat f).salt = s.salt := rfl
@[simp] theorem onLat_axes (f : Lattice → Lattice) : (s.onLat f).axes = s.axes := rfl
@[simp] theorem onLat_setpts (f : Lattice → Lattice) : (s.onLat f).setpts = s.setpts := rfl
@[simp] theorem onLat_chans (f : Lattice → Lattice) : (s.onLat f).chans = s.chans := rfl
@[simp] theorem onLat_dies (f : Lattice → Lattice) : (s.onLat f).dies = s.dies := rfl
@[simp] theorem onLat_direct (f : Lattice → Lattice) : (s.onLat f).direct = s.direct := rfl
@[simp] theorem onLat_wakes (f : Lattice → Lattice) : (s.onLat f).wakes = s.wakes := rfl
@[simp] theorem onLat_sup (f : Lattice → Lattice) : (s.onLat f).sup = s.sup := rfl
@[simp] theorem onLat_pow (f : Lattice → Lattice) : (s.onLat f).pow = s.pow := rfl
@[simp] theorem onLat_clk (f : Lattice → Lattice) : (s.onLat f).clk = s.clk := rfl
@[simp] theorem onLat_rst (f : Lattice → Lattice) : (s.onLat f).rst = s.rst := rfl
@[simp] theorem onLat_diag (f : Lattice → Lattice) : (s.onLat f).diag = s.diag := rfl
@[simp] theorem onLat_net (f : Lattice → Lattice) : (s.onLat f).net = s.net := rfl
@[simp] theorem onLat_gp (f : Lattice → Lattice) : (s.onLat f).gp = s.gp := rfl
@[simp] theorem onLat_get (f : Lattice → Lattice) (j : Nat) : (s.onLat f).get j = s.get j := rfl

/-! `State.onRec`. -/

@[simp] theorem onRec_variant (f : Recorder → Recorder) : (s.onRec f).variant = s.variant := rfl
@[simp] theorem onRec_now (f : Recorder → Recorder) : (s.onRec f).now = s.now := rfl
@[simp] theorem onRec_free (f : Recorder → Recorder) : (s.onRec f).free = s.free := rfl
@[simp] theorem onRec_pending (f : Recorder → Recorder) : (s.onRec f).pending = s.pending := rfl
@[simp] theorem onRec_objs (f : Recorder → Recorder) : (s.onRec f).objs = s.objs := rfl
@[simp] theorem onRec_host (f : Recorder → Recorder) : (s.onRec f).host = s.host := rfl
@[simp] theorem onRec_lat (f : Recorder → Recorder) : (s.onRec f).lat = s.lat := rfl
@[simp] theorem onRec_seq (f : Recorder → Recorder) : (s.onRec f).seq = s.seq := rfl
@[simp] theorem onRec_salt (f : Recorder → Recorder) : (s.onRec f).salt = s.salt := rfl
@[simp] theorem onRec_axes (f : Recorder → Recorder) : (s.onRec f).axes = s.axes := rfl
@[simp] theorem onRec_setpts (f : Recorder → Recorder) : (s.onRec f).setpts = s.setpts := rfl
@[simp] theorem onRec_chans (f : Recorder → Recorder) : (s.onRec f).chans = s.chans := rfl
@[simp] theorem onRec_dies (f : Recorder → Recorder) : (s.onRec f).dies = s.dies := rfl
@[simp] theorem onRec_direct (f : Recorder → Recorder) : (s.onRec f).direct = s.direct := rfl
@[simp] theorem onRec_wakes (f : Recorder → Recorder) : (s.onRec f).wakes = s.wakes := rfl
@[simp] theorem onRec_sup (f : Recorder → Recorder) : (s.onRec f).sup = s.sup := rfl
@[simp] theorem onRec_pow (f : Recorder → Recorder) : (s.onRec f).pow = s.pow := rfl
@[simp] theorem onRec_clk (f : Recorder → Recorder) : (s.onRec f).clk = s.clk := rfl
@[simp] theorem onRec_rst (f : Recorder → Recorder) : (s.onRec f).rst = s.rst := rfl
@[simp] theorem onRec_diag (f : Recorder → Recorder) : (s.onRec f).diag = s.diag := rfl
@[simp] theorem onRec_net (f : Recorder → Recorder) : (s.onRec f).net = s.net := rfl
@[simp] theorem onRec_gp (f : Recorder → Recorder) : (s.onRec f).gp = s.gp := rfl
@[simp] theorem onRec_get (f : Recorder → Recorder) (j : Nat) : (s.onRec f).get j = s.get j := rfl

/-! `State.onSalt`. -/

@[simp] theorem onSalt_variant (f : Saltpan → Saltpan) : (s.onSalt f).variant = s.variant := rfl
@[simp] theorem onSalt_now (f : Saltpan → Saltpan) : (s.onSalt f).now = s.now := rfl
@[simp] theorem onSalt_free (f : Saltpan → Saltpan) : (s.onSalt f).free = s.free := rfl
@[simp] theorem onSalt_pending (f : Saltpan → Saltpan) : (s.onSalt f).pending = s.pending := rfl
@[simp] theorem onSalt_objs (f : Saltpan → Saltpan) : (s.onSalt f).objs = s.objs := rfl
@[simp] theorem onSalt_host (f : Saltpan → Saltpan) : (s.onSalt f).host = s.host := rfl
@[simp] theorem onSalt_lat (f : Saltpan → Saltpan) : (s.onSalt f).lat = s.lat := rfl
@[simp] theorem onSalt_seq (f : Saltpan → Saltpan) : (s.onSalt f).seq = s.seq := rfl
@[simp] theorem onSalt_recd (f : Saltpan → Saltpan) : (s.onSalt f).recd = s.recd := rfl
@[simp] theorem onSalt_axes (f : Saltpan → Saltpan) : (s.onSalt f).axes = s.axes := rfl
@[simp] theorem onSalt_setpts (f : Saltpan → Saltpan) : (s.onSalt f).setpts = s.setpts := rfl
@[simp] theorem onSalt_chans (f : Saltpan → Saltpan) : (s.onSalt f).chans = s.chans := rfl
@[simp] theorem onSalt_dies (f : Saltpan → Saltpan) : (s.onSalt f).dies = s.dies := rfl
@[simp] theorem onSalt_direct (f : Saltpan → Saltpan) : (s.onSalt f).direct = s.direct := rfl
@[simp] theorem onSalt_wakes (f : Saltpan → Saltpan) : (s.onSalt f).wakes = s.wakes := rfl
@[simp] theorem onSalt_sup (f : Saltpan → Saltpan) : (s.onSalt f).sup = s.sup := rfl
@[simp] theorem onSalt_pow (f : Saltpan → Saltpan) : (s.onSalt f).pow = s.pow := rfl
@[simp] theorem onSalt_clk (f : Saltpan → Saltpan) : (s.onSalt f).clk = s.clk := rfl
@[simp] theorem onSalt_rst (f : Saltpan → Saltpan) : (s.onSalt f).rst = s.rst := rfl
@[simp] theorem onSalt_diag (f : Saltpan → Saltpan) : (s.onSalt f).diag = s.diag := rfl
@[simp] theorem onSalt_net (f : Saltpan → Saltpan) : (s.onSalt f).net = s.net := rfl
@[simp] theorem onSalt_gp (f : Saltpan → Saltpan) : (s.onSalt f).gp = s.gp := rfl
@[simp] theorem onSalt_get (f : Saltpan → Saltpan) (j : Nat) : (s.onSalt f).get j = s.get j := rfl

/-! `State.onSup`. -/

@[simp] theorem onSup_variant (f : Supply → Supply) : (s.onSup f).variant = s.variant := rfl
@[simp] theorem onSup_now (f : Supply → Supply) : (s.onSup f).now = s.now := rfl
@[simp] theorem onSup_free (f : Supply → Supply) : (s.onSup f).free = s.free := rfl
@[simp] theorem onSup_pending (f : Supply → Supply) : (s.onSup f).pending = s.pending := rfl
@[simp] theorem onSup_objs (f : Supply → Supply) : (s.onSup f).objs = s.objs := rfl
@[simp] theorem onSup_host (f : Supply → Supply) : (s.onSup f).host = s.host := rfl
@[simp] theorem onSup_lat (f : Supply → Supply) : (s.onSup f).lat = s.lat := rfl
@[simp] theorem onSup_seq (f : Supply → Supply) : (s.onSup f).seq = s.seq := rfl
@[simp] theorem onSup_recd (f : Supply → Supply) : (s.onSup f).recd = s.recd := rfl
@[simp] theorem onSup_salt (f : Supply → Supply) : (s.onSup f).salt = s.salt := rfl
@[simp] theorem onSup_axes (f : Supply → Supply) : (s.onSup f).axes = s.axes := rfl
@[simp] theorem onSup_setpts (f : Supply → Supply) : (s.onSup f).setpts = s.setpts := rfl
@[simp] theorem onSup_chans (f : Supply → Supply) : (s.onSup f).chans = s.chans := rfl
@[simp] theorem onSup_dies (f : Supply → Supply) : (s.onSup f).dies = s.dies := rfl
@[simp] theorem onSup_direct (f : Supply → Supply) : (s.onSup f).direct = s.direct := rfl
@[simp] theorem onSup_wakes (f : Supply → Supply) : (s.onSup f).wakes = s.wakes := rfl
@[simp] theorem onSup_pow (f : Supply → Supply) : (s.onSup f).pow = s.pow := rfl
@[simp] theorem onSup_clk (f : Supply → Supply) : (s.onSup f).clk = s.clk := rfl
@[simp] theorem onSup_rst (f : Supply → Supply) : (s.onSup f).rst = s.rst := rfl
@[simp] theorem onSup_diag (f : Supply → Supply) : (s.onSup f).diag = s.diag := rfl
@[simp] theorem onSup_net (f : Supply → Supply) : (s.onSup f).net = s.net := rfl
@[simp] theorem onSup_gp (f : Supply → Supply) : (s.onSup f).gp = s.gp := rfl
@[simp] theorem onSup_get (f : Supply → Supply) (j : Nat) : (s.onSup f).get j = s.get j := rfl

/-! `State.onPow`. -/

@[simp] theorem onPow_variant (f : Power → Power) : (s.onPow f).variant = s.variant := rfl
@[simp] theorem onPow_now (f : Power → Power) : (s.onPow f).now = s.now := rfl
@[simp] theorem onPow_free (f : Power → Power) : (s.onPow f).free = s.free := rfl
@[simp] theorem onPow_pending (f : Power → Power) : (s.onPow f).pending = s.pending := rfl
@[simp] theorem onPow_objs (f : Power → Power) : (s.onPow f).objs = s.objs := rfl
@[simp] theorem onPow_host (f : Power → Power) : (s.onPow f).host = s.host := rfl
@[simp] theorem onPow_lat (f : Power → Power) : (s.onPow f).lat = s.lat := rfl
@[simp] theorem onPow_seq (f : Power → Power) : (s.onPow f).seq = s.seq := rfl
@[simp] theorem onPow_recd (f : Power → Power) : (s.onPow f).recd = s.recd := rfl
@[simp] theorem onPow_salt (f : Power → Power) : (s.onPow f).salt = s.salt := rfl
@[simp] theorem onPow_axes (f : Power → Power) : (s.onPow f).axes = s.axes := rfl
@[simp] theorem onPow_setpts (f : Power → Power) : (s.onPow f).setpts = s.setpts := rfl
@[simp] theorem onPow_chans (f : Power → Power) : (s.onPow f).chans = s.chans := rfl
@[simp] theorem onPow_dies (f : Power → Power) : (s.onPow f).dies = s.dies := rfl
@[simp] theorem onPow_direct (f : Power → Power) : (s.onPow f).direct = s.direct := rfl
@[simp] theorem onPow_wakes (f : Power → Power) : (s.onPow f).wakes = s.wakes := rfl
@[simp] theorem onPow_sup (f : Power → Power) : (s.onPow f).sup = s.sup := rfl
@[simp] theorem onPow_clk (f : Power → Power) : (s.onPow f).clk = s.clk := rfl
@[simp] theorem onPow_rst (f : Power → Power) : (s.onPow f).rst = s.rst := rfl
@[simp] theorem onPow_diag (f : Power → Power) : (s.onPow f).diag = s.diag := rfl
@[simp] theorem onPow_net (f : Power → Power) : (s.onPow f).net = s.net := rfl
@[simp] theorem onPow_gp (f : Power → Power) : (s.onPow f).gp = s.gp := rfl
@[simp] theorem onPow_get (f : Power → Power) (j : Nat) : (s.onPow f).get j = s.get j := rfl

/-! `State.onClk`. -/

@[simp] theorem onClk_variant (f : Clocks → Clocks) : (s.onClk f).variant = s.variant := rfl
@[simp] theorem onClk_now (f : Clocks → Clocks) : (s.onClk f).now = s.now := rfl
@[simp] theorem onClk_free (f : Clocks → Clocks) : (s.onClk f).free = s.free := rfl
@[simp] theorem onClk_pending (f : Clocks → Clocks) : (s.onClk f).pending = s.pending := rfl
@[simp] theorem onClk_objs (f : Clocks → Clocks) : (s.onClk f).objs = s.objs := rfl
@[simp] theorem onClk_host (f : Clocks → Clocks) : (s.onClk f).host = s.host := rfl
@[simp] theorem onClk_lat (f : Clocks → Clocks) : (s.onClk f).lat = s.lat := rfl
@[simp] theorem onClk_seq (f : Clocks → Clocks) : (s.onClk f).seq = s.seq := rfl
@[simp] theorem onClk_recd (f : Clocks → Clocks) : (s.onClk f).recd = s.recd := rfl
@[simp] theorem onClk_salt (f : Clocks → Clocks) : (s.onClk f).salt = s.salt := rfl
@[simp] theorem onClk_axes (f : Clocks → Clocks) : (s.onClk f).axes = s.axes := rfl
@[simp] theorem onClk_setpts (f : Clocks → Clocks) : (s.onClk f).setpts = s.setpts := rfl
@[simp] theorem onClk_chans (f : Clocks → Clocks) : (s.onClk f).chans = s.chans := rfl
@[simp] theorem onClk_dies (f : Clocks → Clocks) : (s.onClk f).dies = s.dies := rfl
@[simp] theorem onClk_direct (f : Clocks → Clocks) : (s.onClk f).direct = s.direct := rfl
@[simp] theorem onClk_wakes (f : Clocks → Clocks) : (s.onClk f).wakes = s.wakes := rfl
@[simp] theorem onClk_sup (f : Clocks → Clocks) : (s.onClk f).sup = s.sup := rfl
@[simp] theorem onClk_pow (f : Clocks → Clocks) : (s.onClk f).pow = s.pow := rfl
@[simp] theorem onClk_rst (f : Clocks → Clocks) : (s.onClk f).rst = s.rst := rfl
@[simp] theorem onClk_diag (f : Clocks → Clocks) : (s.onClk f).diag = s.diag := rfl
@[simp] theorem onClk_net (f : Clocks → Clocks) : (s.onClk f).net = s.net := rfl
@[simp] theorem onClk_gp (f : Clocks → Clocks) : (s.onClk f).gp = s.gp := rfl
@[simp] theorem onClk_get (f : Clocks → Clocks) (j : Nat) : (s.onClk f).get j = s.get j := rfl

/-! `State.onRst`. -/

@[simp] theorem onRst_variant (f : ResetUnit → ResetUnit) : (s.onRst f).variant = s.variant := rfl
@[simp] theorem onRst_now (f : ResetUnit → ResetUnit) : (s.onRst f).now = s.now := rfl
@[simp] theorem onRst_free (f : ResetUnit → ResetUnit) : (s.onRst f).free = s.free := rfl
@[simp] theorem onRst_pending (f : ResetUnit → ResetUnit) : (s.onRst f).pending = s.pending := rfl
@[simp] theorem onRst_objs (f : ResetUnit → ResetUnit) : (s.onRst f).objs = s.objs := rfl
@[simp] theorem onRst_host (f : ResetUnit → ResetUnit) : (s.onRst f).host = s.host := rfl
@[simp] theorem onRst_lat (f : ResetUnit → ResetUnit) : (s.onRst f).lat = s.lat := rfl
@[simp] theorem onRst_seq (f : ResetUnit → ResetUnit) : (s.onRst f).seq = s.seq := rfl
@[simp] theorem onRst_recd (f : ResetUnit → ResetUnit) : (s.onRst f).recd = s.recd := rfl
@[simp] theorem onRst_salt (f : ResetUnit → ResetUnit) : (s.onRst f).salt = s.salt := rfl
@[simp] theorem onRst_axes (f : ResetUnit → ResetUnit) : (s.onRst f).axes = s.axes := rfl
@[simp] theorem onRst_setpts (f : ResetUnit → ResetUnit) : (s.onRst f).setpts = s.setpts := rfl
@[simp] theorem onRst_chans (f : ResetUnit → ResetUnit) : (s.onRst f).chans = s.chans := rfl
@[simp] theorem onRst_dies (f : ResetUnit → ResetUnit) : (s.onRst f).dies = s.dies := rfl
@[simp] theorem onRst_direct (f : ResetUnit → ResetUnit) : (s.onRst f).direct = s.direct := rfl
@[simp] theorem onRst_wakes (f : ResetUnit → ResetUnit) : (s.onRst f).wakes = s.wakes := rfl
@[simp] theorem onRst_sup (f : ResetUnit → ResetUnit) : (s.onRst f).sup = s.sup := rfl
@[simp] theorem onRst_pow (f : ResetUnit → ResetUnit) : (s.onRst f).pow = s.pow := rfl
@[simp] theorem onRst_clk (f : ResetUnit → ResetUnit) : (s.onRst f).clk = s.clk := rfl
@[simp] theorem onRst_diag (f : ResetUnit → ResetUnit) : (s.onRst f).diag = s.diag := rfl
@[simp] theorem onRst_net (f : ResetUnit → ResetUnit) : (s.onRst f).net = s.net := rfl
@[simp] theorem onRst_gp (f : ResetUnit → ResetUnit) : (s.onRst f).gp = s.gp := rfl
@[simp] theorem onRst_get (f : ResetUnit → ResetUnit) (j : Nat) : (s.onRst f).get j = s.get j := rfl

/-! `State.onNet`. -/

@[simp] theorem onNet_variant (f : Net → Net) : (s.onNet f).variant = s.variant := rfl
@[simp] theorem onNet_now (f : Net → Net) : (s.onNet f).now = s.now := rfl
@[simp] theorem onNet_free (f : Net → Net) : (s.onNet f).free = s.free := rfl
@[simp] theorem onNet_pending (f : Net → Net) : (s.onNet f).pending = s.pending := rfl
@[simp] theorem onNet_objs (f : Net → Net) : (s.onNet f).objs = s.objs := rfl
@[simp] theorem onNet_host (f : Net → Net) : (s.onNet f).host = s.host := rfl
@[simp] theorem onNet_lat (f : Net → Net) : (s.onNet f).lat = s.lat := rfl
@[simp] theorem onNet_seq (f : Net → Net) : (s.onNet f).seq = s.seq := rfl
@[simp] theorem onNet_recd (f : Net → Net) : (s.onNet f).recd = s.recd := rfl
@[simp] theorem onNet_salt (f : Net → Net) : (s.onNet f).salt = s.salt := rfl
@[simp] theorem onNet_axes (f : Net → Net) : (s.onNet f).axes = s.axes := rfl
@[simp] theorem onNet_setpts (f : Net → Net) : (s.onNet f).setpts = s.setpts := rfl
@[simp] theorem onNet_chans (f : Net → Net) : (s.onNet f).chans = s.chans := rfl
@[simp] theorem onNet_dies (f : Net → Net) : (s.onNet f).dies = s.dies := rfl
@[simp] theorem onNet_direct (f : Net → Net) : (s.onNet f).direct = s.direct := rfl
@[simp] theorem onNet_wakes (f : Net → Net) : (s.onNet f).wakes = s.wakes := rfl
@[simp] theorem onNet_sup (f : Net → Net) : (s.onNet f).sup = s.sup := rfl
@[simp] theorem onNet_pow (f : Net → Net) : (s.onNet f).pow = s.pow := rfl
@[simp] theorem onNet_clk (f : Net → Net) : (s.onNet f).clk = s.clk := rfl
@[simp] theorem onNet_rst (f : Net → Net) : (s.onNet f).rst = s.rst := rfl
@[simp] theorem onNet_diag (f : Net → Net) : (s.onNet f).diag = s.diag := rfl
@[simp] theorem onNet_gp (f : Net → Net) : (s.onNet f).gp = s.gp := rfl
@[simp] theorem onNet_get (f : Net → Net) (j : Nat) : (s.onNet f).get j = s.get j := rfl

/-! `State.onGp`. -/

@[simp] theorem onGp_variant (f : Gp → Gp) : (s.onGp f).variant = s.variant := rfl
@[simp] theorem onGp_now (f : Gp → Gp) : (s.onGp f).now = s.now := rfl
@[simp] theorem onGp_free (f : Gp → Gp) : (s.onGp f).free = s.free := rfl
@[simp] theorem onGp_pending (f : Gp → Gp) : (s.onGp f).pending = s.pending := rfl
@[simp] theorem onGp_objs (f : Gp → Gp) : (s.onGp f).objs = s.objs := rfl
@[simp] theorem onGp_host (f : Gp → Gp) : (s.onGp f).host = s.host := rfl
@[simp] theorem onGp_lat (f : Gp → Gp) : (s.onGp f).lat = s.lat := rfl
@[simp] theorem onGp_seq (f : Gp → Gp) : (s.onGp f).seq = s.seq := rfl
@[simp] theorem onGp_recd (f : Gp → Gp) : (s.onGp f).recd = s.recd := rfl
@[simp] theorem onGp_salt (f : Gp → Gp) : (s.onGp f).salt = s.salt := rfl
@[simp] theorem onGp_axes (f : Gp → Gp) : (s.onGp f).axes = s.axes := rfl
@[simp] theorem onGp_setpts (f : Gp → Gp) : (s.onGp f).setpts = s.setpts := rfl
@[simp] theorem onGp_chans (f : Gp → Gp) : (s.onGp f).chans = s.chans := rfl
@[simp] theorem onGp_dies (f : Gp → Gp) : (s.onGp f).dies = s.dies := rfl
@[simp] theorem onGp_direct (f : Gp → Gp) : (s.onGp f).direct = s.direct := rfl
@[simp] theorem onGp_wakes (f : Gp → Gp) : (s.onGp f).wakes = s.wakes := rfl
@[simp] theorem onGp_sup (f : Gp → Gp) : (s.onGp f).sup = s.sup := rfl
@[simp] theorem onGp_pow (f : Gp → Gp) : (s.onGp f).pow = s.pow := rfl
@[simp] theorem onGp_clk (f : Gp → Gp) : (s.onGp f).clk = s.clk := rfl
@[simp] theorem onGp_rst (f : Gp → Gp) : (s.onGp f).rst = s.rst := rfl
@[simp] theorem onGp_diag (f : Gp → Gp) : (s.onGp f).diag = s.diag := rfl
@[simp] theorem onGp_net (f : Gp → Gp) : (s.onGp f).net = s.net := rfl
@[simp] theorem onGp_get (f : Gp → Gp) (j : Nat) : (s.onGp f).get j = s.get j := rfl

/-! `State.onPlace`. -/

@[simp] theorem onPlace_variant (p : Nat) (f : Place → Place) : (s.onPlace p f).variant = s.variant := rfl
@[simp] theorem onPlace_now (p : Nat) (f : Place → Place) : (s.onPlace p f).now = s.now := rfl
@[simp] theorem onPlace_free (p : Nat) (f : Place → Place) : (s.onPlace p f).free = s.free := rfl
@[simp] theorem onPlace_pending (p : Nat) (f : Place → Place) : (s.onPlace p f).pending = s.pending := rfl
@[simp] theorem onPlace_objs (p : Nat) (f : Place → Place) : (s.onPlace p f).objs = s.objs := rfl
@[simp] theorem onPlace_lat (p : Nat) (f : Place → Place) : (s.onPlace p f).lat = s.lat := rfl
@[simp] theorem onPlace_seq (p : Nat) (f : Place → Place) : (s.onPlace p f).seq = s.seq := rfl
@[simp] theorem onPlace_recd (p : Nat) (f : Place → Place) : (s.onPlace p f).recd = s.recd := rfl
@[simp] theorem onPlace_salt (p : Nat) (f : Place → Place) : (s.onPlace p f).salt = s.salt := rfl
@[simp] theorem onPlace_axes (p : Nat) (f : Place → Place) : (s.onPlace p f).axes = s.axes := rfl
@[simp] theorem onPlace_setpts (p : Nat) (f : Place → Place) : (s.onPlace p f).setpts = s.setpts := rfl
@[simp] theorem onPlace_chans (p : Nat) (f : Place → Place) : (s.onPlace p f).chans = s.chans := rfl
@[simp] theorem onPlace_dies (p : Nat) (f : Place → Place) : (s.onPlace p f).dies = s.dies := rfl
@[simp] theorem onPlace_direct (p : Nat) (f : Place → Place) : (s.onPlace p f).direct = s.direct := rfl
@[simp] theorem onPlace_wakes (p : Nat) (f : Place → Place) : (s.onPlace p f).wakes = s.wakes := rfl
@[simp] theorem onPlace_sup (p : Nat) (f : Place → Place) : (s.onPlace p f).sup = s.sup := rfl
@[simp] theorem onPlace_pow (p : Nat) (f : Place → Place) : (s.onPlace p f).pow = s.pow := rfl
@[simp] theorem onPlace_clk (p : Nat) (f : Place → Place) : (s.onPlace p f).clk = s.clk := rfl
@[simp] theorem onPlace_rst (p : Nat) (f : Place → Place) : (s.onPlace p f).rst = s.rst := rfl
@[simp] theorem onPlace_diag (p : Nat) (f : Place → Place) : (s.onPlace p f).diag = s.diag := rfl
@[simp] theorem onPlace_net (p : Nat) (f : Place → Place) : (s.onPlace p f).net = s.net := rfl
@[simp] theorem onPlace_gp (p : Nat) (f : Place → Place) : (s.onPlace p f).gp = s.gp := rfl
@[simp] theorem onPlace_get (p : Nat) (f : Place → Place) (j : Nat) : (s.onPlace p f).get j = s.get j := rfl

/-! `State.onSession`. -/

@[simp] theorem onSession_variant (p : Nat) (f : Session → Session) : (s.onSession p f).variant = s.variant := rfl
@[simp] theorem onSession_now (p : Nat) (f : Session → Session) : (s.onSession p f).now = s.now := rfl
@[simp] theorem onSession_free (p : Nat) (f : Session → Session) : (s.onSession p f).free = s.free := rfl
@[simp] theorem onSession_pending (p : Nat) (f : Session → Session) : (s.onSession p f).pending = s.pending := rfl
@[simp] theorem onSession_objs (p : Nat) (f : Session → Session) : (s.onSession p f).objs = s.objs := rfl
@[simp] theorem onSession_lat (p : Nat) (f : Session → Session) : (s.onSession p f).lat = s.lat := rfl
@[simp] theorem onSession_seq (p : Nat) (f : Session → Session) : (s.onSession p f).seq = s.seq := rfl
@[simp] theorem onSession_recd (p : Nat) (f : Session → Session) : (s.onSession p f).recd = s.recd := rfl
@[simp] theorem onSession_salt (p : Nat) (f : Session → Session) : (s.onSession p f).salt = s.salt := rfl
@[simp] theorem onSession_axes (p : Nat) (f : Session → Session) : (s.onSession p f).axes = s.axes := rfl
@[simp] theorem onSession_setpts (p : Nat) (f : Session → Session) : (s.onSession p f).setpts = s.setpts := rfl
@[simp] theorem onSession_chans (p : Nat) (f : Session → Session) : (s.onSession p f).chans = s.chans := rfl
@[simp] theorem onSession_dies (p : Nat) (f : Session → Session) : (s.onSession p f).dies = s.dies := rfl
@[simp] theorem onSession_direct (p : Nat) (f : Session → Session) : (s.onSession p f).direct = s.direct := rfl
@[simp] theorem onSession_wakes (p : Nat) (f : Session → Session) : (s.onSession p f).wakes = s.wakes := rfl
@[simp] theorem onSession_sup (p : Nat) (f : Session → Session) : (s.onSession p f).sup = s.sup := rfl
@[simp] theorem onSession_pow (p : Nat) (f : Session → Session) : (s.onSession p f).pow = s.pow := rfl
@[simp] theorem onSession_clk (p : Nat) (f : Session → Session) : (s.onSession p f).clk = s.clk := rfl
@[simp] theorem onSession_rst (p : Nat) (f : Session → Session) : (s.onSession p f).rst = s.rst := rfl
@[simp] theorem onSession_diag (p : Nat) (f : Session → Session) : (s.onSession p f).diag = s.diag := rfl
@[simp] theorem onSession_net (p : Nat) (f : Session → Session) : (s.onSession p f).net = s.net := rfl
@[simp] theorem onSession_gp (p : Nat) (f : Session → Session) : (s.onSession p f).gp = s.gp := rfl
@[simp] theorem onSession_get (p : Nat) (f : Session → Session) (j : Nat) : (s.onSession p f).get j = s.get j := rfl

/-! `State.onFn`. -/

@[simp] theorem onFn_variant (n : Nat) (f : FnUnit → FnUnit) : (s.onFn n f).variant = s.variant := rfl
@[simp] theorem onFn_now (n : Nat) (f : FnUnit → FnUnit) : (s.onFn n f).now = s.now := rfl
@[simp] theorem onFn_free (n : Nat) (f : FnUnit → FnUnit) : (s.onFn n f).free = s.free := rfl
@[simp] theorem onFn_pending (n : Nat) (f : FnUnit → FnUnit) : (s.onFn n f).pending = s.pending := rfl
@[simp] theorem onFn_objs (n : Nat) (f : FnUnit → FnUnit) : (s.onFn n f).objs = s.objs := rfl
@[simp] theorem onFn_lat (n : Nat) (f : FnUnit → FnUnit) : (s.onFn n f).lat = s.lat := rfl
@[simp] theorem onFn_seq (n : Nat) (f : FnUnit → FnUnit) : (s.onFn n f).seq = s.seq := rfl
@[simp] theorem onFn_recd (n : Nat) (f : FnUnit → FnUnit) : (s.onFn n f).recd = s.recd := rfl
@[simp] theorem onFn_salt (n : Nat) (f : FnUnit → FnUnit) : (s.onFn n f).salt = s.salt := rfl
@[simp] theorem onFn_axes (n : Nat) (f : FnUnit → FnUnit) : (s.onFn n f).axes = s.axes := rfl
@[simp] theorem onFn_setpts (n : Nat) (f : FnUnit → FnUnit) : (s.onFn n f).setpts = s.setpts := rfl
@[simp] theorem onFn_chans (n : Nat) (f : FnUnit → FnUnit) : (s.onFn n f).chans = s.chans := rfl
@[simp] theorem onFn_dies (n : Nat) (f : FnUnit → FnUnit) : (s.onFn n f).dies = s.dies := rfl
@[simp] theorem onFn_direct (n : Nat) (f : FnUnit → FnUnit) : (s.onFn n f).direct = s.direct := rfl
@[simp] theorem onFn_wakes (n : Nat) (f : FnUnit → FnUnit) : (s.onFn n f).wakes = s.wakes := rfl
@[simp] theorem onFn_sup (n : Nat) (f : FnUnit → FnUnit) : (s.onFn n f).sup = s.sup := rfl
@[simp] theorem onFn_pow (n : Nat) (f : FnUnit → FnUnit) : (s.onFn n f).pow = s.pow := rfl
@[simp] theorem onFn_clk (n : Nat) (f : FnUnit → FnUnit) : (s.onFn n f).clk = s.clk := rfl
@[simp] theorem onFn_rst (n : Nat) (f : FnUnit → FnUnit) : (s.onFn n f).rst = s.rst := rfl
@[simp] theorem onFn_diag (n : Nat) (f : FnUnit → FnUnit) : (s.onFn n f).diag = s.diag := rfl
@[simp] theorem onFn_net (n : Nat) (f : FnUnit → FnUnit) : (s.onFn n f).net = s.net := rfl
@[simp] theorem onFn_gp (n : Nat) (f : FnUnit → FnUnit) : (s.onFn n f).gp = s.gp := rfl
@[simp] theorem onFn_get (n : Nat) (f : FnUnit → FnUnit) (j : Nat) : (s.onFn n f).get j = s.get j := rfl

/-! `State.onWeir`. -/

@[simp] theorem onWeir_variant (q : Nat) (f : Weir → Weir) : (s.onWeir q f).variant = s.variant := rfl
@[simp] theorem onWeir_now (q : Nat) (f : Weir → Weir) : (s.onWeir q f).now = s.now := rfl
@[simp] theorem onWeir_free (q : Nat) (f : Weir → Weir) : (s.onWeir q f).free = s.free := rfl
@[simp] theorem onWeir_pending (q : Nat) (f : Weir → Weir) : (s.onWeir q f).pending = s.pending := rfl
@[simp] theorem onWeir_objs (q : Nat) (f : Weir → Weir) : (s.onWeir q f).objs = s.objs := rfl
@[simp] theorem onWeir_lat (q : Nat) (f : Weir → Weir) : (s.onWeir q f).lat = s.lat := rfl
@[simp] theorem onWeir_seq (q : Nat) (f : Weir → Weir) : (s.onWeir q f).seq = s.seq := rfl
@[simp] theorem onWeir_recd (q : Nat) (f : Weir → Weir) : (s.onWeir q f).recd = s.recd := rfl
@[simp] theorem onWeir_salt (q : Nat) (f : Weir → Weir) : (s.onWeir q f).salt = s.salt := rfl
@[simp] theorem onWeir_axes (q : Nat) (f : Weir → Weir) : (s.onWeir q f).axes = s.axes := rfl
@[simp] theorem onWeir_setpts (q : Nat) (f : Weir → Weir) : (s.onWeir q f).setpts = s.setpts := rfl
@[simp] theorem onWeir_chans (q : Nat) (f : Weir → Weir) : (s.onWeir q f).chans = s.chans := rfl
@[simp] theorem onWeir_dies (q : Nat) (f : Weir → Weir) : (s.onWeir q f).dies = s.dies := rfl
@[simp] theorem onWeir_direct (q : Nat) (f : Weir → Weir) : (s.onWeir q f).direct = s.direct := rfl
@[simp] theorem onWeir_wakes (q : Nat) (f : Weir → Weir) : (s.onWeir q f).wakes = s.wakes := rfl
@[simp] theorem onWeir_sup (q : Nat) (f : Weir → Weir) : (s.onWeir q f).sup = s.sup := rfl
@[simp] theorem onWeir_pow (q : Nat) (f : Weir → Weir) : (s.onWeir q f).pow = s.pow := rfl
@[simp] theorem onWeir_clk (q : Nat) (f : Weir → Weir) : (s.onWeir q f).clk = s.clk := rfl
@[simp] theorem onWeir_rst (q : Nat) (f : Weir → Weir) : (s.onWeir q f).rst = s.rst := rfl
@[simp] theorem onWeir_diag (q : Nat) (f : Weir → Weir) : (s.onWeir q f).diag = s.diag := rfl
@[simp] theorem onWeir_net (q : Nat) (f : Weir → Weir) : (s.onWeir q f).net = s.net := rfl
@[simp] theorem onWeir_gp (q : Nat) (f : Weir → Weir) : (s.onWeir q f).gp = s.gp := rfl
@[simp] theorem onWeir_get (q : Nat) (f : Weir → Weir) (j : Nat) : (s.onWeir q f).get j = s.get j := rfl

/-! `State.onFlight`. -/

@[simp] theorem onFlight_variant (n : Nat) (f : Flight → Flight) : (s.onFlight n f).variant = s.variant := rfl
@[simp] theorem onFlight_now (n : Nat) (f : Flight → Flight) : (s.onFlight n f).now = s.now := rfl
@[simp] theorem onFlight_free (n : Nat) (f : Flight → Flight) : (s.onFlight n f).free = s.free := rfl
@[simp] theorem onFlight_pending (n : Nat) (f : Flight → Flight) : (s.onFlight n f).pending = s.pending := rfl
@[simp] theorem onFlight_objs (n : Nat) (f : Flight → Flight) : (s.onFlight n f).objs = s.objs := rfl
@[simp] theorem onFlight_lat (n : Nat) (f : Flight → Flight) : (s.onFlight n f).lat = s.lat := rfl
@[simp] theorem onFlight_seq (n : Nat) (f : Flight → Flight) : (s.onFlight n f).seq = s.seq := rfl
@[simp] theorem onFlight_recd (n : Nat) (f : Flight → Flight) : (s.onFlight n f).recd = s.recd := rfl
@[simp] theorem onFlight_salt (n : Nat) (f : Flight → Flight) : (s.onFlight n f).salt = s.salt := rfl
@[simp] theorem onFlight_axes (n : Nat) (f : Flight → Flight) : (s.onFlight n f).axes = s.axes := rfl
@[simp] theorem onFlight_setpts (n : Nat) (f : Flight → Flight) : (s.onFlight n f).setpts = s.setpts := rfl
@[simp] theorem onFlight_chans (n : Nat) (f : Flight → Flight) : (s.onFlight n f).chans = s.chans := rfl
@[simp] theorem onFlight_dies (n : Nat) (f : Flight → Flight) : (s.onFlight n f).dies = s.dies := rfl
@[simp] theorem onFlight_direct (n : Nat) (f : Flight → Flight) : (s.onFlight n f).direct = s.direct := rfl
@[simp] theorem onFlight_wakes (n : Nat) (f : Flight → Flight) : (s.onFlight n f).wakes = s.wakes := rfl
@[simp] theorem onFlight_sup (n : Nat) (f : Flight → Flight) : (s.onFlight n f).sup = s.sup := rfl
@[simp] theorem onFlight_pow (n : Nat) (f : Flight → Flight) : (s.onFlight n f).pow = s.pow := rfl
@[simp] theorem onFlight_clk (n : Nat) (f : Flight → Flight) : (s.onFlight n f).clk = s.clk := rfl
@[simp] theorem onFlight_rst (n : Nat) (f : Flight → Flight) : (s.onFlight n f).rst = s.rst := rfl
@[simp] theorem onFlight_diag (n : Nat) (f : Flight → Flight) : (s.onFlight n f).diag = s.diag := rfl
@[simp] theorem onFlight_net (n : Nat) (f : Flight → Flight) : (s.onFlight n f).net = s.net := rfl
@[simp] theorem onFlight_gp (n : Nat) (f : Flight → Flight) : (s.onFlight n f).gp = s.gp := rfl
@[simp] theorem onFlight_get (n : Nat) (f : Flight → Flight) (j : Nat) : (s.onFlight n f).get j = s.get j := rfl

/-! Choices and steps over a list. -/

@[simp] theorem ite_variant (c : Prop) [Decidable c] (a b : State) : (if c then a else b).variant = if c then a.variant else b.variant := by
  split <;> rfl
@[simp] theorem each_variant {α : Type} (xs : List α) (f : α → State → State) (h : ∀ a t, (f a t).variant = t.variant) :
    (each xs f s).variant = s.variant := by
  unfold each; induction xs generalizing s with
  | nil => rfl
  | cons a r ih => simp [ih, h]
@[simp] theorem whenever_variant (b : Bool) (f : State → State) (h : ∀ t, (f t).variant = t.variant) : (s.whenever b f).variant = s.variant := by
  unfold State.whenever; split <;> simp [h]
@[simp] theorem ite_now (c : Prop) [Decidable c] (a b : State) : (if c then a else b).now = if c then a.now else b.now := by
  split <;> rfl
@[simp] theorem each_now {α : Type} (xs : List α) (f : α → State → State) (h : ∀ a t, (f a t).now = t.now) :
    (each xs f s).now = s.now := by
  unfold each; induction xs generalizing s with
  | nil => rfl
  | cons a r ih => simp [ih, h]
@[simp] theorem whenever_now (b : Bool) (f : State → State) (h : ∀ t, (f t).now = t.now) : (s.whenever b f).now = s.now := by
  unfold State.whenever; split <;> simp [h]
@[simp] theorem ite_free (c : Prop) [Decidable c] (a b : State) : (if c then a else b).free = if c then a.free else b.free := by
  split <;> rfl
@[simp] theorem each_free {α : Type} (xs : List α) (f : α → State → State) (h : ∀ a t, (f a t).free = t.free) :
    (each xs f s).free = s.free := by
  unfold each; induction xs generalizing s with
  | nil => rfl
  | cons a r ih => simp [ih, h]
@[simp] theorem whenever_free (b : Bool) (f : State → State) (h : ∀ t, (f t).free = t.free) : (s.whenever b f).free = s.free := by
  unfold State.whenever; split <;> simp [h]
@[simp] theorem ite_pending (c : Prop) [Decidable c] (a b : State) : (if c then a else b).pending = if c then a.pending else b.pending := by
  split <;> rfl
@[simp] theorem each_pending {α : Type} (xs : List α) (f : α → State → State) (h : ∀ a t, (f a t).pending = t.pending) :
    (each xs f s).pending = s.pending := by
  unfold each; induction xs generalizing s with
  | nil => rfl
  | cons a r ih => simp [ih, h]
@[simp] theorem whenever_pending (b : Bool) (f : State → State) (h : ∀ t, (f t).pending = t.pending) : (s.whenever b f).pending = s.pending := by
  unfold State.whenever; split <;> simp [h]
@[simp] theorem ite_lat (c : Prop) [Decidable c] (a b : State) : (if c then a else b).lat = if c then a.lat else b.lat := by
  split <;> rfl
@[simp] theorem each_lat {α : Type} (xs : List α) (f : α → State → State) (h : ∀ a t, (f a t).lat = t.lat) :
    (each xs f s).lat = s.lat := by
  unfold each; induction xs generalizing s with
  | nil => rfl
  | cons a r ih => simp [ih, h]
@[simp] theorem whenever_lat (b : Bool) (f : State → State) (h : ∀ t, (f t).lat = t.lat) : (s.whenever b f).lat = s.lat := by
  unfold State.whenever; split <;> simp [h]
@[simp] theorem ite_seq (c : Prop) [Decidable c] (a b : State) : (if c then a else b).seq = if c then a.seq else b.seq := by
  split <;> rfl
@[simp] theorem each_seq {α : Type} (xs : List α) (f : α → State → State) (h : ∀ a t, (f a t).seq = t.seq) :
    (each xs f s).seq = s.seq := by
  unfold each; induction xs generalizing s with
  | nil => rfl
  | cons a r ih => simp [ih, h]
@[simp] theorem whenever_seq (b : Bool) (f : State → State) (h : ∀ t, (f t).seq = t.seq) : (s.whenever b f).seq = s.seq := by
  unfold State.whenever; split <;> simp [h]
@[simp] theorem ite_recd (c : Prop) [Decidable c] (a b : State) : (if c then a else b).recd = if c then a.recd else b.recd := by
  split <;> rfl
@[simp] theorem each_recd {α : Type} (xs : List α) (f : α → State → State) (h : ∀ a t, (f a t).recd = t.recd) :
    (each xs f s).recd = s.recd := by
  unfold each; induction xs generalizing s with
  | nil => rfl
  | cons a r ih => simp [ih, h]
@[simp] theorem whenever_recd (b : Bool) (f : State → State) (h : ∀ t, (f t).recd = t.recd) : (s.whenever b f).recd = s.recd := by
  unfold State.whenever; split <;> simp [h]
@[simp] theorem ite_salt (c : Prop) [Decidable c] (a b : State) : (if c then a else b).salt = if c then a.salt else b.salt := by
  split <;> rfl
@[simp] theorem each_salt {α : Type} (xs : List α) (f : α → State → State) (h : ∀ a t, (f a t).salt = t.salt) :
    (each xs f s).salt = s.salt := by
  unfold each; induction xs generalizing s with
  | nil => rfl
  | cons a r ih => simp [ih, h]
@[simp] theorem whenever_salt (b : Bool) (f : State → State) (h : ∀ t, (f t).salt = t.salt) : (s.whenever b f).salt = s.salt := by
  unfold State.whenever; split <;> simp [h]
@[simp] theorem ite_axes (c : Prop) [Decidable c] (a b : State) : (if c then a else b).axes = if c then a.axes else b.axes := by
  split <;> rfl
@[simp] theorem each_axes {α : Type} (xs : List α) (f : α → State → State) (h : ∀ a t, (f a t).axes = t.axes) :
    (each xs f s).axes = s.axes := by
  unfold each; induction xs generalizing s with
  | nil => rfl
  | cons a r ih => simp [ih, h]
@[simp] theorem whenever_axes (b : Bool) (f : State → State) (h : ∀ t, (f t).axes = t.axes) : (s.whenever b f).axes = s.axes := by
  unfold State.whenever; split <;> simp [h]
@[simp] theorem ite_setpts (c : Prop) [Decidable c] (a b : State) : (if c then a else b).setpts = if c then a.setpts else b.setpts := by
  split <;> rfl
@[simp] theorem each_setpts {α : Type} (xs : List α) (f : α → State → State) (h : ∀ a t, (f a t).setpts = t.setpts) :
    (each xs f s).setpts = s.setpts := by
  unfold each; induction xs generalizing s with
  | nil => rfl
  | cons a r ih => simp [ih, h]
@[simp] theorem whenever_setpts (b : Bool) (f : State → State) (h : ∀ t, (f t).setpts = t.setpts) : (s.whenever b f).setpts = s.setpts := by
  unfold State.whenever; split <;> simp [h]
@[simp] theorem ite_chans (c : Prop) [Decidable c] (a b : State) : (if c then a else b).chans = if c then a.chans else b.chans := by
  split <;> rfl
@[simp] theorem each_chans {α : Type} (xs : List α) (f : α → State → State) (h : ∀ a t, (f a t).chans = t.chans) :
    (each xs f s).chans = s.chans := by
  unfold each; induction xs generalizing s with
  | nil => rfl
  | cons a r ih => simp [ih, h]
@[simp] theorem whenever_chans (b : Bool) (f : State → State) (h : ∀ t, (f t).chans = t.chans) : (s.whenever b f).chans = s.chans := by
  unfold State.whenever; split <;> simp [h]
@[simp] theorem ite_dies (c : Prop) [Decidable c] (a b : State) : (if c then a else b).dies = if c then a.dies else b.dies := by
  split <;> rfl
@[simp] theorem each_dies {α : Type} (xs : List α) (f : α → State → State) (h : ∀ a t, (f a t).dies = t.dies) :
    (each xs f s).dies = s.dies := by
  unfold each; induction xs generalizing s with
  | nil => rfl
  | cons a r ih => simp [ih, h]
@[simp] theorem whenever_dies (b : Bool) (f : State → State) (h : ∀ t, (f t).dies = t.dies) : (s.whenever b f).dies = s.dies := by
  unfold State.whenever; split <;> simp [h]
@[simp] theorem ite_direct (c : Prop) [Decidable c] (a b : State) : (if c then a else b).direct = if c then a.direct else b.direct := by
  split <;> rfl
@[simp] theorem each_direct {α : Type} (xs : List α) (f : α → State → State) (h : ∀ a t, (f a t).direct = t.direct) :
    (each xs f s).direct = s.direct := by
  unfold each; induction xs generalizing s with
  | nil => rfl
  | cons a r ih => simp [ih, h]
@[simp] theorem whenever_direct (b : Bool) (f : State → State) (h : ∀ t, (f t).direct = t.direct) : (s.whenever b f).direct = s.direct := by
  unfold State.whenever; split <;> simp [h]
@[simp] theorem ite_wakes (c : Prop) [Decidable c] (a b : State) : (if c then a else b).wakes = if c then a.wakes else b.wakes := by
  split <;> rfl
@[simp] theorem each_wakes {α : Type} (xs : List α) (f : α → State → State) (h : ∀ a t, (f a t).wakes = t.wakes) :
    (each xs f s).wakes = s.wakes := by
  unfold each; induction xs generalizing s with
  | nil => rfl
  | cons a r ih => simp [ih, h]
@[simp] theorem whenever_wakes (b : Bool) (f : State → State) (h : ∀ t, (f t).wakes = t.wakes) : (s.whenever b f).wakes = s.wakes := by
  unfold State.whenever; split <;> simp [h]
@[simp] theorem ite_sup (c : Prop) [Decidable c] (a b : State) : (if c then a else b).sup = if c then a.sup else b.sup := by
  split <;> rfl
@[simp] theorem each_sup {α : Type} (xs : List α) (f : α → State → State) (h : ∀ a t, (f a t).sup = t.sup) :
    (each xs f s).sup = s.sup := by
  unfold each; induction xs generalizing s with
  | nil => rfl
  | cons a r ih => simp [ih, h]
@[simp] theorem whenever_sup (b : Bool) (f : State → State) (h : ∀ t, (f t).sup = t.sup) : (s.whenever b f).sup = s.sup := by
  unfold State.whenever; split <;> simp [h]
@[simp] theorem ite_pow (c : Prop) [Decidable c] (a b : State) : (if c then a else b).pow = if c then a.pow else b.pow := by
  split <;> rfl
@[simp] theorem each_pow {α : Type} (xs : List α) (f : α → State → State) (h : ∀ a t, (f a t).pow = t.pow) :
    (each xs f s).pow = s.pow := by
  unfold each; induction xs generalizing s with
  | nil => rfl
  | cons a r ih => simp [ih, h]
@[simp] theorem whenever_pow (b : Bool) (f : State → State) (h : ∀ t, (f t).pow = t.pow) : (s.whenever b f).pow = s.pow := by
  unfold State.whenever; split <;> simp [h]
@[simp] theorem ite_clk (c : Prop) [Decidable c] (a b : State) : (if c then a else b).clk = if c then a.clk else b.clk := by
  split <;> rfl
@[simp] theorem each_clk {α : Type} (xs : List α) (f : α → State → State) (h : ∀ a t, (f a t).clk = t.clk) :
    (each xs f s).clk = s.clk := by
  unfold each; induction xs generalizing s with
  | nil => rfl
  | cons a r ih => simp [ih, h]
@[simp] theorem whenever_clk (b : Bool) (f : State → State) (h : ∀ t, (f t).clk = t.clk) : (s.whenever b f).clk = s.clk := by
  unfold State.whenever; split <;> simp [h]
@[simp] theorem ite_rst (c : Prop) [Decidable c] (a b : State) : (if c then a else b).rst = if c then a.rst else b.rst := by
  split <;> rfl
@[simp] theorem each_rst {α : Type} (xs : List α) (f : α → State → State) (h : ∀ a t, (f a t).rst = t.rst) :
    (each xs f s).rst = s.rst := by
  unfold each; induction xs generalizing s with
  | nil => rfl
  | cons a r ih => simp [ih, h]
@[simp] theorem whenever_rst (b : Bool) (f : State → State) (h : ∀ t, (f t).rst = t.rst) : (s.whenever b f).rst = s.rst := by
  unfold State.whenever; split <;> simp [h]
@[simp] theorem ite_diag (c : Prop) [Decidable c] (a b : State) : (if c then a else b).diag = if c then a.diag else b.diag := by
  split <;> rfl
@[simp] theorem each_diag {α : Type} (xs : List α) (f : α → State → State) (h : ∀ a t, (f a t).diag = t.diag) :
    (each xs f s).diag = s.diag := by
  unfold each; induction xs generalizing s with
  | nil => rfl
  | cons a r ih => simp [ih, h]
@[simp] theorem whenever_diag (b : Bool) (f : State → State) (h : ∀ t, (f t).diag = t.diag) : (s.whenever b f).diag = s.diag := by
  unfold State.whenever; split <;> simp [h]
@[simp] theorem ite_net (c : Prop) [Decidable c] (a b : State) : (if c then a else b).net = if c then a.net else b.net := by
  split <;> rfl
@[simp] theorem each_net {α : Type} (xs : List α) (f : α → State → State) (h : ∀ a t, (f a t).net = t.net) :
    (each xs f s).net = s.net := by
  unfold each; induction xs generalizing s with
  | nil => rfl
  | cons a r ih => simp [ih, h]
@[simp] theorem whenever_net (b : Bool) (f : State → State) (h : ∀ t, (f t).net = t.net) : (s.whenever b f).net = s.net := by
  unfold State.whenever; split <;> simp [h]
@[simp] theorem ite_gp (c : Prop) [Decidable c] (a b : State) : (if c then a else b).gp = if c then a.gp else b.gp := by
  split <;> rfl
@[simp] theorem each_gp {α : Type} (xs : List α) (f : α → State → State) (h : ∀ a t, (f a t).gp = t.gp) :
    (each xs f s).gp = s.gp := by
  unfold each; induction xs generalizing s with
  | nil => rfl
  | cons a r ih => simp [ih, h]
@[simp] theorem whenever_gp (b : Bool) (f : State → State) (h : ∀ t, (f t).gp = t.gp) : (s.whenever b f).gp = s.gp := by
  unfold State.whenever; split <;> simp [h]
@[simp] theorem ite_host_places (c : Prop) [Decidable c] (a b : State) : (if c then a else b).host.places = if c then a.host.places else b.host.places := by
  split <;> rfl
@[simp] theorem each_host_places {α : Type} (xs : List α) (f : α → State → State) (h : ∀ a t, (f a t).host.places = t.host.places) :
    (each xs f s).host.places = s.host.places := by
  unfold each; induction xs generalizing s with
  | nil => rfl
  | cons a r ih => simp [ih, h]
@[simp] theorem whenever_host_places (b : Bool) (f : State → State) (h : ∀ t, (f t).host.places = t.host.places) : (s.whenever b f).host.places = s.host.places := by
  unfold State.whenever; split <;> simp [h]
@[simp] theorem ite_host_gates (c : Prop) [Decidable c] (a b : State) : (if c then a else b).host.gates = if c then a.host.gates else b.host.gates := by
  split <;> rfl
@[simp] theorem each_host_gates {α : Type} (xs : List α) (f : α → State → State) (h : ∀ a t, (f a t).host.gates = t.host.gates) :
    (each xs f s).host.gates = s.host.gates := by
  unfold each; induction xs generalizing s with
  | nil => rfl
  | cons a r ih => simp [ih, h]
@[simp] theorem whenever_host_gates (b : Bool) (f : State → State) (h : ∀ t, (f t).host.gates = t.host.gates) : (s.whenever b f).host.gates = s.host.gates := by
  unfold State.whenever; split <;> simp [h]
@[simp] theorem ite_host_semas (c : Prop) [Decidable c] (a b : State) : (if c then a else b).host.semas = if c then a.host.semas else b.host.semas := by
  split <;> rfl
@[simp] theorem each_host_semas {α : Type} (xs : List α) (f : α → State → State) (h : ∀ a t, (f a t).host.semas = t.host.semas) :
    (each xs f s).host.semas = s.host.semas := by
  unfold each; induction xs generalizing s with
  | nil => rfl
  | cons a r ih => simp [ih, h]
@[simp] theorem whenever_host_semas (b : Bool) (f : State → State) (h : ∀ t, (f t).host.semas = t.host.semas) : (s.whenever b f).host.semas = s.host.semas := by
  unfold State.whenever; split <;> simp [h]
@[simp] theorem ite_host_waits (c : Prop) [Decidable c] (a b : State) : (if c then a else b).host.waits = if c then a.host.waits else b.host.waits := by
  split <;> rfl
@[simp] theorem each_host_waits {α : Type} (xs : List α) (f : α → State → State) (h : ∀ a t, (f a t).host.waits = t.host.waits) :
    (each xs f s).host.waits = s.host.waits := by
  unfold each; induction xs generalizing s with
  | nil => rfl
  | cons a r ih => simp [ih, h]
@[simp] theorem whenever_host_waits (b : Bool) (f : State → State) (h : ∀ t, (f t).host.waits = t.host.waits) : (s.whenever b f).host.waits = s.host.waits := by
  unfold State.whenever; split <;> simp [h]
@[simp] theorem ite_host_rotate (c : Prop) [Decidable c] (a b : State) : (if c then a else b).host.rotate = if c then a.host.rotate else b.host.rotate := by
  split <;> rfl
@[simp] theorem each_host_rotate {α : Type} (xs : List α) (f : α → State → State) (h : ∀ a t, (f a t).host.rotate = t.host.rotate) :
    (each xs f s).host.rotate = s.host.rotate := by
  unfold each; induction xs generalizing s with
  | nil => rfl
  | cons a r ih => simp [ih, h]
@[simp] theorem whenever_host_rotate (b : Bool) (f : State → State) (h : ∀ t, (f t).host.rotate = t.host.rotate) : (s.whenever b f).host.rotate = s.host.rotate := by
  unfold State.whenever; split <;> simp [h]
@[simp] theorem ite_host_nextSession (c : Prop) [Decidable c] (a b : State) : (if c then a else b).host.nextSession = if c then a.host.nextSession else b.host.nextSession := by
  split <;> rfl
@[simp] theorem each_host_nextSession {α : Type} (xs : List α) (f : α → State → State) (h : ∀ a t, (f a t).host.nextSession = t.host.nextSession) :
    (each xs f s).host.nextSession = s.host.nextSession := by
  unfold each; induction xs generalizing s with
  | nil => rfl
  | cons a r ih => simp [ih, h]
@[simp] theorem whenever_host_nextSession (b : Bool) (f : State → State) (h : ∀ t, (f t).host.nextSession = t.host.nextSession) : (s.whenever b f).host.nextSession = s.host.nextSession := by
  unfold State.whenever; split <;> simp [h]
@[simp] theorem ite_host_nextFlight (c : Prop) [Decidable c] (a b : State) : (if c then a else b).host.nextFlight = if c then a.host.nextFlight else b.host.nextFlight := by
  split <;> rfl
@[simp] theorem each_host_nextFlight {α : Type} (xs : List α) (f : α → State → State) (h : ∀ a t, (f a t).host.nextFlight = t.host.nextFlight) :
    (each xs f s).host.nextFlight = s.host.nextFlight := by
  unfold each; induction xs generalizing s with
  | nil => rfl
  | cons a r ih => simp [ih, h]
@[simp] theorem whenever_host_nextFlight (b : Bool) (f : State → State) (h : ∀ t, (f t).host.nextFlight = t.host.nextFlight) : (s.whenever b f).host.nextFlight = s.host.nextFlight := by
  unfold State.whenever; split <;> simp [h]
@[simp] theorem ite_host_flights (c : Prop) [Decidable c] (a b : State) : (if c then a else b).host.flights = if c then a.host.flights else b.host.flights := by
  split <;> rfl
@[simp] theorem each_host_flights {α : Type} (xs : List α) (f : α → State → State) (h : ∀ a t, (f a t).host.flights = t.host.flights) :
    (each xs f s).host.flights = s.host.flights := by
  unfold each; induction xs generalizing s with
  | nil => rfl
  | cons a r ih => simp [ih, h]
@[simp] theorem whenever_host_flights (b : Bool) (f : State → State) (h : ∀ t, (f t).host.flights = t.host.flights) : (s.whenever b f).host.flights = s.host.flights := by
  unfold State.whenever; split <;> simp [h]
@[simp] theorem ite_host_done (c : Prop) [Decidable c] (a b : State) : (if c then a else b).host.done = if c then a.host.done else b.host.done := by
  split <;> rfl
@[simp] theorem each_host_done {α : Type} (xs : List α) (f : α → State → State) (h : ∀ a t, (f a t).host.done = t.host.done) :
    (each xs f s).host.done = s.host.done := by
  unfold each; induction xs generalizing s with
  | nil => rfl
  | cons a r ih => simp [ih, h]
@[simp] theorem whenever_host_done (b : Bool) (f : State → State) (h : ∀ t, (f t).host.done = t.host.done) : (s.whenever b f).host.done = s.host.done := by
  unfold State.whenever; split <;> simp [h]
@[simp] theorem ite_host_bursts (c : Prop) [Decidable c] (a b : State) : (if c then a else b).host.bursts = if c then a.host.bursts else b.host.bursts := by
  split <;> rfl
@[simp] theorem each_host_bursts {α : Type} (xs : List α) (f : α → State → State) (h : ∀ a t, (f a t).host.bursts = t.host.bursts) :
    (each xs f s).host.bursts = s.host.bursts := by
  unfold each; induction xs generalizing s with
  | nil => rfl
  | cons a r ih => simp [ih, h]
@[simp] theorem whenever_host_bursts (b : Bool) (f : State → State) (h : ∀ t, (f t).host.bursts = t.host.bursts) : (s.whenever b f).host.bursts = s.host.bursts := by
  unfold State.whenever; split <;> simp [h]
@[simp] theorem ite_host_niIngress (c : Prop) [Decidable c] (a b : State) : (if c then a else b).host.niIngress = if c then a.host.niIngress else b.host.niIngress := by
  split <;> rfl
@[simp] theorem each_host_niIngress {α : Type} (xs : List α) (f : α → State → State) (h : ∀ a t, (f a t).host.niIngress = t.host.niIngress) :
    (each xs f s).host.niIngress = s.host.niIngress := by
  unfold each; induction xs generalizing s with
  | nil => rfl
  | cons a r ih => simp [ih, h]
@[simp] theorem whenever_host_niIngress (b : Bool) (f : State → State) (h : ∀ t, (f t).host.niIngress = t.host.niIngress) : (s.whenever b f).host.niIngress = s.host.niIngress := by
  unfold State.whenever; split <;> simp [h]
@[simp] theorem ite_host_linkIngress (c : Prop) [Decidable c] (a b : State) : (if c then a else b).host.linkIngress = if c then a.host.linkIngress else b.host.linkIngress := by
  split <;> rfl
@[simp] theorem each_host_linkIngress {α : Type} (xs : List α) (f : α → State → State) (h : ∀ a t, (f a t).host.linkIngress = t.host.linkIngress) :
    (each xs f s).host.linkIngress = s.host.linkIngress := by
  unfold each; induction xs generalizing s with
  | nil => rfl
  | cons a r ih => simp [ih, h]
@[simp] theorem whenever_host_linkIngress (b : Bool) (f : State → State) (h : ∀ t, (f t).host.linkIngress = t.host.linkIngress) : (s.whenever b f).host.linkIngress = s.host.linkIngress := by
  unfold State.whenever; split <;> simp [h]
@[simp] theorem ite_host_linkEgress (c : Prop) [Decidable c] (a b : State) : (if c then a else b).host.linkEgress = if c then a.host.linkEgress else b.host.linkEgress := by
  split <;> rfl
@[simp] theorem each_host_linkEgress {α : Type} (xs : List α) (f : α → State → State) (h : ∀ a t, (f a t).host.linkEgress = t.host.linkEgress) :
    (each xs f s).host.linkEgress = s.host.linkEgress := by
  unfold each; induction xs generalizing s with
  | nil => rfl
  | cons a r ih => simp [ih, h]
@[simp] theorem whenever_host_linkEgress (b : Bool) (f : State → State) (h : ∀ t, (f t).host.linkEgress = t.host.linkEgress) : (s.whenever b f).host.linkEgress = s.host.linkEgress := by
  unfold State.whenever; split <;> simp [h]
@[simp] theorem ite_host_linkErr (c : Prop) [Decidable c] (a b : State) : (if c then a else b).host.linkErr = if c then a.host.linkErr else b.host.linkErr := by
  split <;> rfl
@[simp] theorem each_host_linkErr {α : Type} (xs : List α) (f : α → State → State) (h : ∀ a t, (f a t).host.linkErr = t.host.linkErr) :
    (each xs f s).host.linkErr = s.host.linkErr := by
  unfold each; induction xs generalizing s with
  | nil => rfl
  | cons a r ih => simp [ih, h]
@[simp] theorem whenever_host_linkErr (b : Bool) (f : State → State) (h : ∀ t, (f t).host.linkErr = t.host.linkErr) : (s.whenever b f).host.linkErr = s.host.linkErr := by
  unfold State.whenever; split <;> simp [h]
@[simp] theorem ite_host_lastKindNotice (c : Prop) [Decidable c] (a b : State) : (if c then a else b).host.lastKindNotice = if c then a.host.lastKindNotice else b.host.lastKindNotice := by
  split <;> rfl
@[simp] theorem each_host_lastKindNotice {α : Type} (xs : List α) (f : α → State → State) (h : ∀ a t, (f a t).host.lastKindNotice = t.host.lastKindNotice) :
    (each xs f s).host.lastKindNotice = s.host.lastKindNotice := by
  unfold each; induction xs generalizing s with
  | nil => rfl
  | cons a r ih => simp [ih, h]
@[simp] theorem whenever_host_lastKindNotice (b : Bool) (f : State → State) (h : ∀ t, (f t).host.lastKindNotice = t.host.lastKindNotice) : (s.whenever b f).host.lastKindNotice = s.host.lastKindNotice := by
  unfold State.whenever; split <;> simp [h]
@[simp] theorem ite_host_pool (c : Prop) [Decidable c] (a b : State) : (if c then a else b).host.pool = if c then a.host.pool else b.host.pool := by
  split <;> rfl
@[simp] theorem each_host_pool {α : Type} (xs : List α) (f : α → State → State) (h : ∀ a t, (f a t).host.pool = t.host.pool) :
    (each xs f s).host.pool = s.host.pool := by
  unfold each; induction xs generalizing s with
  | nil => rfl
  | cons a r ih => simp [ih, h]
@[simp] theorem whenever_host_pool (b : Bool) (f : State → State) (h : ∀ t, (f t).host.pool = t.host.pool) : (s.whenever b f).host.pool = s.host.pool := by
  unfold State.whenever; split <;> simp [h]
@[simp] theorem ite_host_seqs (c : Prop) [Decidable c] (a b : State) : (if c then a else b).host.seqs = if c then a.host.seqs else b.host.seqs := by
  split <;> rfl
@[simp] theorem each_host_seqs {α : Type} (xs : List α) (f : α → State → State) (h : ∀ a t, (f a t).host.seqs = t.host.seqs) :
    (each xs f s).host.seqs = s.host.seqs := by
  unfold each; induction xs generalizing s with
  | nil => rfl
  | cons a r ih => simp [ih, h]
@[simp] theorem whenever_host_seqs (b : Bool) (f : State → State) (h : ∀ t, (f t).host.seqs = t.host.seqs) : (s.whenever b f).host.seqs = s.host.seqs := by
  unfold State.whenever; split <;> simp [h]
@[simp] theorem ite_host_weirs (c : Prop) [Decidable c] (a b : State) : (if c then a else b).host.weirs = if c then a.host.weirs else b.host.weirs := by
  split <;> rfl
@[simp] theorem each_host_weirs {α : Type} (xs : List α) (f : α → State → State) (h : ∀ a t, (f a t).host.weirs = t.host.weirs) :
    (each xs f s).host.weirs = s.host.weirs := by
  unfold each; induction xs generalizing s with
  | nil => rfl
  | cons a r ih => simp [ih, h]
@[simp] theorem whenever_host_weirs (b : Bool) (f : State → State) (h : ∀ t, (f t).host.weirs = t.host.weirs) : (s.whenever b f).host.weirs = s.host.weirs := by
  unfold State.whenever; split <;> simp [h]
@[simp] theorem ite_host_fns (c : Prop) [Decidable c] (a b : State) : (if c then a else b).host.fns = if c then a.host.fns else b.host.fns := by
  split <;> rfl
@[simp] theorem each_host_fns {α : Type} (xs : List α) (f : α → State → State) (h : ∀ a t, (f a t).host.fns = t.host.fns) :
    (each xs f s).host.fns = s.host.fns := by
  unfold each; induction xs generalizing s with
  | nil => rfl
  | cons a r ih => simp [ih, h]
@[simp] theorem whenever_host_fns (b : Bool) (f : State → State) (h : ∀ t, (f t).host.fns = t.host.fns) : (s.whenever b f).host.fns = s.host.fns := by
  unfold State.whenever; split <;> simp [h]
@[simp] theorem ite_get (c : Prop) [Decidable c] (a b : State) (k : Nat) : (if c then a else b).get k = if c then a.get k else b.get k := by
  split <;> rfl
@[simp] theorem each_get {α : Type} (xs : List α) (f : α → State → State) (k : Nat) (h : ∀ a t, (f a t).get k = t.get k) :
    (each xs f s).get k = s.get k := by
  unfold each; induction xs generalizing s with
  | nil => rfl
  | cons a r ih => simp [ih, h]
@[simp] theorem whenever_get (b : Bool) (f : State → State) (k : Nat) (h : ∀ t, (f t).get k = t.get k) : (s.whenever b f).get k = s.get k := by
  unfold State.whenever; split <;> simp [h]

/-! What each update does to its own field. -/

@[simp] theorem onAxis_axes (a : Nat) (f : Axis → Axis) : (s.onAxis a f).axes = s.axes.modify a f := rfl
@[simp] theorem onChan_chans (c : Nat) (f : Chan → Chan) : (s.onChan c f).chans = s.chans.modify c f := rfl
@[simp] theorem onDie_dies (k : Nat) (f : Die → Die) : (s.onDie k f).dies = s.dies.modify k f := rfl
@[simp] theorem onHost_host (f : HostSide → HostSide) : (s.onHost f).host = f s.host := rfl
@[simp] theorem onLat_lat (f : Lattice → Lattice) : (s.onLat f).lat = f s.lat := rfl
@[simp] theorem onRec_recd (f : Recorder → Recorder) : (s.onRec f).recd = f s.recd := rfl
@[simp] theorem onSalt_salt (f : Saltpan → Saltpan) : (s.onSalt f).salt = f s.salt := rfl
@[simp] theorem onSup_sup (f : Supply → Supply) : (s.onSup f).sup = f s.sup := rfl
@[simp] theorem onPow_pow (f : Power → Power) : (s.onPow f).pow = f s.pow := rfl
@[simp] theorem onClk_clk (f : Clocks → Clocks) : (s.onClk f).clk = f s.clk := rfl
@[simp] theorem onRst_rst (f : ResetUnit → ResetUnit) : (s.onRst f).rst = f s.rst := rfl
@[simp] theorem onNet_net (f : Net → Net) : (s.onNet f).net = f s.net := rfl
@[simp] theorem onGp_gp (f : Gp → Gp) : (s.onGp f).gp = f s.gp := rfl

end Sys2Proof.Machine
end

