-- ==== Sys2Proof/Laws/Notices.lean ====
section
/-!
SUPPORT. Laws/Notices.lean: the once-and-for-all frame of notices, weirs, records and completions. A notice moves the
pool, the source counters and the weirs; a record moves the recorder besides; a completion the transactions besides.
Every other field, and every object but the counters of those, stays.
-/
namespace Sys2Proof.Machine
open Sys2Proof

/-- The state without what a notice can move. -/
def State.hushed (s : State) : State := { s with objs := [], host := { s.host with pool := [], seqs := [], weirs := [] } }

/-- The state without what a notice or a record can move. -/
def State.noted (s : State) : State := { s.hushed with recd := Recorder.reset ⟨.c2624, .t⟩ }

/-- The state without what a notice or a completion can move. -/
def State.told (s : State) : State := { s.hushed with host := { s.hushed.host with flights := [], done := [] } }

/-- `t` is `s` but for what notices move. -/
structure Hush (s t : State) : Prop where
  rest : t.hushed = s.hushed
  obj : ∀ k, noisy k = false → t.get k = s.get k

/-- `t` is `s` but for what notices and records move. -/
structure Noted (s t : State) : Prop where
  rest : t.noted = s.noted
  obj : ∀ k, noisy k = false → t.get k = s.get k

/-- `t` is `s` but for what notices and completions move. -/
structure Told (s t : State) : Prop where
  rest : t.told = s.told
  obj : ∀ k, noisy k = false → t.get k = s.get k

theorem Hush.refl (s : State) : Hush s s := ⟨rfl, fun _ _ => rfl⟩
theorem Noted.refl (s : State) : Noted s s := ⟨rfl, fun _ _ => rfl⟩
theorem Told.refl (s : State) : Told s s := ⟨rfl, fun _ _ => rfl⟩
theorem Hush.trans {s t u : State} (h : Hush s t) (g : Hush t u) : Hush s u :=
  ⟨g.rest.trans h.rest, fun k hk => (g.obj k hk).trans (h.obj k hk)⟩
theorem Noted.trans {s t u : State} (h : Noted s t) (g : Noted t u) : Noted s u :=
  ⟨g.rest.trans h.rest, fun k hk => (g.obj k hk).trans (h.obj k hk)⟩
theorem Told.trans {s t u : State} (h : Told s t) (g : Told t u) : Told s u :=
  ⟨g.rest.trans h.rest, fun k hk => (g.obj k hk).trans (h.obj k hk)⟩
theorem Hush.noted {s t : State} (h : Hush s t) : Noted s t :=
  ⟨by unfold State.noted; rw [h.rest], h.obj⟩
theorem Hush.told {s t : State} (h : Hush s t) : Told s t :=
  ⟨by unfold State.told; rw [h.rest], h.obj⟩

/-- An `if` whose branches are hushed. -/
theorem Hush.ite {s t u : State} (b : Bool) (h : Hush s t) (g : Hush s u) : Hush s (if b then t else u) := by
  cases b <;> simpa

theorem hush_put (k v : Nat) (s : State) (h : noisy k = true) : Hush s (s.put k v) := by
  refine ⟨by simp [State.hushed], fun j hj => ?_⟩
  exact get_put_ne k v j s (by intro e; subst e; rw [h] at hj; cases hj)

theorem hush_onWeir (q : Nat) (f : Weir → Weir) (s : State) : Hush s (s.onWeir q f) := ⟨rfl, fun _ _ => rfl⟩

/-- Steps over a list, each hushed. -/
theorem hush_each {α : Type} (f : α → State → State) (hf : ∀ a s, Hush s (f a s)) (xs : List α) :
    ∀ s, Hush s (each xs f s) := by
  induction xs with
  | nil => exact Hush.refl
  | cons a r ih => intro s; exact (hf a s).trans (ih (f a s))

theorem noisy_queue (k q sub : Nat) (h : q < 256) (hk : k = 0x130000 + sub + 256 * q) (hs : sub < 256) : noisy k = true := by
  have : k / 65536 = 0x13 := by omega
  simp [noisy, this]

theorem hush_addNotice (n : Notice) (s : State) : Hush s (addNotice n s) := by
  have hput (ns : List Notice) (t : State) : Hush t (t.onHost fun h => { h with pool := ns ++ [n] }) := ⟨rfl, fun _ _ => rfl⟩
  have h1 : Hush s (s.inc Obj.foldCount) := hush_put _ _ _ (by decide)
  have h2 : Hush s (s.inc Obj.noticeSafetyLost) := hush_put _ _ _ (by decide)
  have h3 (ns : List Notice) := h1.trans (hput ns (s.inc Obj.foldCount))
  have h4 (ns : List Notice) := h2.trans (hput ns (s.inc Obj.noticeSafetyLost))
  unfold addNotice; dsimp only
  repeat' split
  all_goals first
    | with_reducible exact Hush.refl s
    | with_reducible exact h2
    | with_reducible exact h3 _
    | with_reducible exact h4 _
    | with_reducible exact hput _ _

theorem hush_raiseOn (fn cls num kind : Nat) (data : List Byte) (saf : Bool) (s : State) :
    Hush s (raiseOn fn cls num kind data saf s) := by
  unfold raiseOn; dsimp only
  have h0 : Hush s (s.onHost fun h => { h with seqs := bumpSeq (4096 * cls + num) h.seqs }) := ⟨rfl, fun _ _ => rfl⟩
  refine h0.trans (hush_each _ ?_ _ _)
  intro p t
  split
  · exact Hush.refl t
  · split
    · exact Hush.refl t
    · exact hush_addNotice _ t

theorem hush_crossingNotice (q : Nat) (hq : q < 256) (high : Bool) (s : State) : Hush s (crossingNotice q high s) := by
  have hn : noisy (Obj.suppressedNotices q) = true := noisy_queue _ q 10 hq (by show 0x13000A + 256 * q = _; omega) (by decide)
  have ha (f : Weir → Weir) : Hush s ((s.inc (Obj.suppressedNotices q)).onWeir q f) :=
    (hush_put _ _ s hn).trans (hush_onWeir q f _)
  have hb (f : Weir → Weir) : Hush s ((weirNotice q high s).onWeir q f) :=
    (hush_raiseOn _ _ _ _ _ _ s).trans (hush_onWeir q f _)
  unfold crossingNotice; dsimp only
  repeat' split
  all_goals first
    | with_reducible exact Hush.refl s
    | with_reducible exact ha _
    | with_reducible exact hb _

theorem hush_crossing (q : Nat) (hq : q < 256) (high : Bool) (n : Nat) (s : State) : Hush s (crossing q high n s) := by
  have k1 : noisy (Obj.weirStatus q) = true := noisy_queue _ q 6 hq (by show 0x130006 + 256 * q = _; omega) (by decide)
  have k2 : noisy (Obj.highCrossCount q) = true := noisy_queue _ q 7 hq (by show 0x130007 + 256 * q = _; omega) (by decide)
  have k3 : noisy (Obj.lowCrossCount q) = true := noisy_queue _ q 8 hq (by show 0x130008 + 256 * q = _; omega) (by decide)
  have k4 : noisy (Obj.peakFill q) = true := noisy_queue _ q 3 hq (by show 0x130003 + 256 * q = _; omega) (by decide)
  have k5 : noisy (if high then Obj.highCrossCount q else Obj.lowCrossCount q) = true := by cases high <;> assumption
  unfold crossing; dsimp only
  generalize ht : State.setBit (Obj.weirStatus q) (if high = true then 2 else 3) true s = t
  have h1 : Hush s t := ht ▸ hush_put _ _ s k1
  generalize hu : State.inc (if high = true then Obj.highCrossCount q else Obj.lowCrossCount q) t = u
  have h2 : Hush s u := h1.trans (hu ▸ hush_put _ _ t k5)
  generalize hw : (if u.get (Obj.peakFill q) < n then State.put (Obj.peakFill q) n u else u) = w
  have h3 : Hush s w := by
    subst hw; split
    · exact h2.trans (hush_put _ _ u k4)
    · exact h2
  exact (h3.trans (hush_onWeir q _ w)).trans (hush_crossingNotice q hq high _)

theorem hush_crossOf (q : Nat) (hq : q < 256) (s : State) : Hush s (crossOf q s) := by
  unfold crossOf; dsimp only
  generalize ht : s.onWeir q (fun w => _) = t
  have h : Hush s t := ht ▸ hush_onWeir q _ s
  split
  · exact h.trans (hush_crossing q hq true _ t)
  · split
    · exact h.trans (hush_crossing q hq false _ t)
    · exact h

theorem hush_moveFill (q : Nat) (hq : q < 256) (s : State) : Hush s (moveFill q s) := by
  unfold moveFill; dsimp only
  split
  · exact hush_crossOf q hq s
  · exact (hush_crossOf q hq s).trans ((hush_crossOf 5 (by decide) _).trans (hush_crossOf 5 (by decide) _))

/-- Whatever the queue, a moved fill leaves all but notices and objects alone. -/
theorem moveFill_hushed (q : Nat) (s : State) : (moveFill q s).hushed = s.hushed := by
  have hp (k v : Nat) (t : State) : (t.put k v).hushed = t.hushed := by simp [State.hushed]
  have hw (f : Weir → Weir) (t : State) : (t.onWeir q f).hushed = t.hushed := rfl
  have hn (high : Bool) (t : State) : (crossingNotice q high t).hushed = t.hushed := by
    have ha (f : Weir → Weir) : ((t.inc (Obj.suppressedNotices q)).onWeir q f).hushed = t.hushed :=
      (hw f _).trans (hp _ _ t)
    have hb (f : Weir → Weir) : ((weirNotice q high t).onWeir q f).hushed = t.hushed :=
      (hw f _).trans (hush_raiseOn _ _ _ _ _ _ t).rest
    unfold crossingNotice; dsimp only
    repeat' split
    all_goals first
      | with_reducible exact rfl
      | with_reducible exact ha _
      | with_reducible exact hb _
  have hc (high : Bool) (n : Nat) (t : State) : (crossing q high n t).hushed = t.hushed := by
    unfold crossing; dsimp only
    have hi (k : Nat) (t : State) : (t.inc k).hushed = t.hushed := hp _ _ t
    have hb (k i : Nat) (b : Bool) (t : State) : (t.setBit k i b).hushed = t.hushed := hp _ _ t
    rw [hn, hw, apply_ite State.hushed, hp, ite_self, hi, hb]
  have ho (t : State) : (crossOf q t).hushed = t.hushed := by
    unfold crossOf; dsimp only
    split
    · rw [hc, hw]
    · split
      · rw [hc, hw]
      · rw [hw]
  unfold moveFill; dsimp only
  split
  · exact ho s
  · rw [(hush_crossOf 5 (by decide) _).rest, (hush_crossOf 5 (by decide) _).rest, ho]

theorem hush_raiseIn (fn cls num kind : Nat) (data : List Byte) (saf : Bool) (s : State) :
    Hush s (raiseIn fn cls num kind data saf s) :=
  (hush_raiseOn fn cls num kind data saf s).trans (hush_moveFill 5 (by decide) _)

theorem hush_raise (cls num kind : Nat) (data : List Byte) (saf : Bool) (s : State) :
    Hush s (raise cls num kind data saf s) := hush_raiseIn _ _ _ _ _ _ _

theorem hush_stateNotice (k v : Nat) (s : State) : Hush s (stateNotice k v s) := hush_raise _ _ _ _ _ _

/-! Records. -/

theorem noted_onRec (f : Recorder → Recorder) (s : State) : Noted s (s.onRec f) := ⟨rfl, fun _ _ => rfl⟩

theorem noted_addFlush (final : Bool) (ids : List Nat) (s : State) : Noted s (addFlush final ids s) := by
  unfold addFlush
  split
  · exact Noted.refl s
  · exact noted_onRec _ s

theorem noted_wantFlush (s : State) : Noted s (wantFlush s) := noted_addFlush _ _ s

theorem noted_repeatRecord (r : LogRec) (s : State) : Noted s (repeatRecord r s) := by
  unfold repeatRecord; dsimp only
  split <;> exact noted_onRec _ s

theorem noted_dropped (s : State) : Noted s (s.inc Obj.droppedRecords) := (hush_put _ _ s (by decide)).noted

theorem noted_makeRoom (n fuel : Nat) : ∀ s, Noted s (makeRoom n fuel s) := by
  induction fuel with
  | zero => exact Noted.refl
  | succ k ih =>
    intro s
    unfold makeRoom
    repeat' split
    · exact Noted.refl s
    · exact Noted.refl s
    · exact ((noted_onRec _ s).trans (noted_dropped _)).trans (ih _)

theorem noted_admitRec (log kind src : Nat) (body : List Byte) (s : State) : Noted s (admitRec log kind src body s).2 := by
  unfold admitRec; dsimp only
  split
  · exact Noted.refl s
  split
  · exact noted_dropped s
  split
  · exact noted_repeatRecord _ s
  have h0 (b : Bool) : Noted s (if b then makeRoom (36 + body.length) 8192 s else s) := by
    cases b
    · exact Noted.refl s
    · exact noted_makeRoom _ _ s
  generalize hu : (if (s.get Obj.recorderState == 4) = true then makeRoom (36 + body.length) 8192 s else s) = u
  have hu' : Noted s u := by rw [← hu]; exact h0 _
  have h1 (f : Recorder → Recorder) : Noted s ((u.inc Obj.droppedRecords).onRec f) :=
    hu'.trans ((noted_dropped u).trans (noted_onRec f _))
  have h2 (f : Recorder → Recorder) : Noted s (moveFill 11 (u.onRec f)) :=
    hu'.trans ((noted_onRec f u).trans (hush_moveFill 11 (by decide) _).noted)
  have h3 (f : Recorder → Recorder) : Noted s (moveFill 11 (wantFlush (u.onRec f))) :=
    hu'.trans ((noted_onRec f u).trans ((noted_wantFlush _).trans (hush_moveFill 11 (by decide) _).noted))
  repeat' split
  all_goals first
    | with_reducible exact h1 _
    | with_reducible exact h2 _
    | with_reducible exact h3 _

theorem noted_admitEvent (log kind src : Nat) (body : List Byte) (s : State) : Noted s (admitEvent log kind src body s) :=
  noted_admitRec _ _ _ _ _

theorem noted_faultRecord (kind src k reaction cause v1 v2 cls num : Nat) (s : State) :
    Noted s (faultRecord kind src k reaction cause v1 v2 cls num s) := by
  unfold faultRecord; dsimp only
  have h := noted_admitRec 2 kind src (faultBody s k reaction cause v1 v2) s
  generalize admitRec 2 kind src (faultBody s k reaction cause v1 v2) s = p at h ⊢
  split
  · split
    · exact h.trans ((hush_put _ _ _ (by decide)).noted.trans (hush_raise _ _ _ _ _ _).noted)
    · exact h.trans (hush_raise _ _ _ _ _ _).noted
  · exact h

theorem noted_latticeFault (k reaction cause : Nat) (s : State) : Noted s (latticeFault k reaction cause s) :=
  noted_faultRecord _ _ _ _ _ _ _ _ _ _
theorem noted_channelFault (c reaction v : Nat) (s : State) : Noted s (channelFault c reaction v s) :=
  noted_faultRecord _ _ _ _ _ _ _ _ _ _
theorem noted_axisFaultRecord (a reaction : Nat) (s : State) : Noted s (axisFaultRecord a reaction s) :=
  noted_faultRecord _ _ _ _ _ _ _ _ _ _
theorem noted_supplyFault (k reaction cause v : Nat) (s : State) : Noted s (supplyFault k reaction cause v s) :=
  noted_faultRecord _ _ _ _ _ _ _ _ _ _
theorem noted_memoryFault (k cause v cls num : Nat) (s : State) : Noted s (memoryFault k cause v cls num s) :=
  noted_faultRecord _ _ _ _ _ _ _ _ _ _
theorem noted_histoCount (n : Nat) (x : Int) (s : State) : Noted s (histoCount n x s) := by
  unfold histoCount; exact noted_onRec _ s
theorem noted_extremeSample (n : Nat) (x : Int) (s : State) : Noted s (extremeSample n x s) := by
  unfold extremeSample; exact noted_onRec _ s

/-! Completions. -/

theorem told_onFlight (id : Nat) (f : Flight → Flight) (s : State) : Told s (s.onFlight id f) := ⟨rfl, fun _ _ => rfl⟩

theorem told_onDone (ds : List Done) (s : State) : Told s (s.onHost fun h => { h with done := h.done ++ ds }) :=
  ⟨rfl, fun _ _ => rfl⟩

theorem told_holdFlight (id : Nat) (s : State) : Told s (holdFlight id s) :=
  (told_onFlight id _ s).trans (hush_moveFill 3 (by decide) _).told

theorem told_completeWith (id st detail : Nat) (data : List Byte) (s : State) : Told s (completeWith id st detail data s) := by
  unfold completeWith
  split
  · exact Told.refl s
  rename_i f _
  split
  · exact Told.refl s
  split
  · have h1 : Told s (s.onHost fun h => { h with flights := h.flights.filter (·.id != id) }) := ⟨rfl, fun _ _ => rfl⟩
    dsimp only
    refine h1.trans (Told.trans ?_ ((hush_moveFill 3 (by decide) _).trans (hush_moveFill 4 (by decide) _)).told)
    split
    · rename_i hp
      refine (hush_put _ _ _ ?_).told
      have : f.place = 0 ∨ f.place = 1 := by omega
      rcases this with h | h <;> rw [h] <;> decide
    · exact Told.refl _
  · exact ((told_onFlight id _ s).trans (told_onDone _ _)).trans (hush_moveFill 3 (by decide) _).told

theorem told_complete (id st : Nat) (s : State) : Told s (complete id st s) := told_completeWith _ _ _ _ _

theorem told_completeAll (ids : List Nat) (st : Nat) : ∀ s, Told s (completeAll ids st s) := by
  induction ids with
  | nil => exact Told.refl
  | cons a r ih => intro s; exact (told_complete a st s).trans (ih _)

end Sys2Proof.Machine
end

