-- ==== Sys2Proof/Laws/Frames.lean ====
section
/-!
SUPPORT. Laws/Frames.lean: the frame of notices, records and completions, field by field, as rewriting lemmas.
-/
namespace Sys2Proof.Machine
open Sys2Proof

/-! The fields that the three relations keep. -/

theorem Noted.variant {s t : State} (h : Noted s t) : t.variant = s.variant :=
  (congrArg State.variant h.rest : t.noted.variant = s.noted.variant)
theorem Noted.now {s t : State} (h : Noted s t) : t.now = s.now :=
  (congrArg State.now h.rest : t.noted.now = s.noted.now)
theorem Noted.free {s t : State} (h : Noted s t) : t.free = s.free :=
  (congrArg State.free h.rest : t.noted.free = s.noted.free)
theorem Noted.pending {s t : State} (h : Noted s t) : t.pending = s.pending :=
  (congrArg State.pending h.rest : t.noted.pending = s.noted.pending)
theorem Noted.lat {s t : State} (h : Noted s t) : t.lat = s.lat :=
  (congrArg State.lat h.rest : t.noted.lat = s.noted.lat)
theorem Noted.seq {s t : State} (h : Noted s t) : t.seq = s.seq :=
  (congrArg State.seq h.rest : t.noted.seq = s.noted.seq)
theorem Noted.salt {s t : State} (h : Noted s t) : t.salt = s.salt :=
  (congrArg State.salt h.rest : t.noted.salt = s.noted.salt)
theorem Noted.axes {s t : State} (h : Noted s t) : t.axes = s.axes :=
  (congrArg State.axes h.rest : t.noted.axes = s.noted.axes)
theorem Noted.setpts {s t : State} (h : Noted s t) : t.setpts = s.setpts :=
  (congrArg State.setpts h.rest : t.noted.setpts = s.noted.setpts)
theorem Noted.chans {s t : State} (h : Noted s t) : t.chans = s.chans :=
  (congrArg State.chans h.rest : t.noted.chans = s.noted.chans)
theorem Noted.dies {s t : State} (h : Noted s t) : t.dies = s.dies :=
  (congrArg State.dies h.rest : t.noted.dies = s.noted.dies)
theorem Noted.direct {s t : State} (h : Noted s t) : t.direct = s.direct :=
  (congrArg State.direct h.rest : t.noted.direct = s.noted.direct)
theorem Noted.wakes {s t : State} (h : Noted s t) : t.wakes = s.wakes :=
  (congrArg State.wakes h.rest : t.noted.wakes = s.noted.wakes)
theorem Noted.sup {s t : State} (h : Noted s t) : t.sup = s.sup :=
  (congrArg State.sup h.rest : t.noted.sup = s.noted.sup)
theorem Noted.pow {s t : State} (h : Noted s t) : t.pow = s.pow :=
  (congrArg State.pow h.rest : t.noted.pow = s.noted.pow)
theorem Noted.clk {s t : State} (h : Noted s t) : t.clk = s.clk :=
  (congrArg State.clk h.rest : t.noted.clk = s.noted.clk)
theorem Noted.rst {s t : State} (h : Noted s t) : t.rst = s.rst :=
  (congrArg State.rst h.rest : t.noted.rst = s.noted.rst)
theorem Noted.diag {s t : State} (h : Noted s t) : t.diag = s.diag :=
  (congrArg State.diag h.rest : t.noted.diag = s.noted.diag)
theorem Noted.net {s t : State} (h : Noted s t) : t.net = s.net :=
  (congrArg State.net h.rest : t.noted.net = s.noted.net)
theorem Noted.gp {s t : State} (h : Noted s t) : t.gp = s.gp :=
  (congrArg State.gp h.rest : t.noted.gp = s.noted.gp)
theorem Told.variant {s t : State} (h : Told s t) : t.variant = s.variant :=
  (congrArg State.variant h.rest : t.told.variant = s.told.variant)
theorem Told.now {s t : State} (h : Told s t) : t.now = s.now :=
  (congrArg State.now h.rest : t.told.now = s.told.now)
theorem Told.free {s t : State} (h : Told s t) : t.free = s.free :=
  (congrArg State.free h.rest : t.told.free = s.told.free)
theorem Told.pending {s t : State} (h : Told s t) : t.pending = s.pending :=
  (congrArg State.pending h.rest : t.told.pending = s.told.pending)
theorem Told.lat {s t : State} (h : Told s t) : t.lat = s.lat :=
  (congrArg State.lat h.rest : t.told.lat = s.told.lat)
theorem Told.seq {s t : State} (h : Told s t) : t.seq = s.seq :=
  (congrArg State.seq h.rest : t.told.seq = s.told.seq)
theorem Told.salt {s t : State} (h : Told s t) : t.salt = s.salt :=
  (congrArg State.salt h.rest : t.told.salt = s.told.salt)
theorem Told.axes {s t : State} (h : Told s t) : t.axes = s.axes :=
  (congrArg State.axes h.rest : t.told.axes = s.told.axes)
theorem Told.setpts {s t : State} (h : Told s t) : t.setpts = s.setpts :=
  (congrArg State.setpts h.rest : t.told.setpts = s.told.setpts)
theorem Told.chans {s t : State} (h : Told s t) : t.chans = s.chans :=
  (congrArg State.chans h.rest : t.told.chans = s.told.chans)
theorem Told.dies {s t : State} (h : Told s t) : t.dies = s.dies :=
  (congrArg State.dies h.rest : t.told.dies = s.told.dies)
theorem Told.direct {s t : State} (h : Told s t) : t.direct = s.direct :=
  (congrArg State.direct h.rest : t.told.direct = s.told.direct)
theorem Told.wakes {s t : State} (h : Told s t) : t.wakes = s.wakes :=
  (congrArg State.wakes h.rest : t.told.wakes = s.told.wakes)
theorem Told.sup {s t : State} (h : Told s t) : t.sup = s.sup :=
  (congrArg State.sup h.rest : t.told.sup = s.told.sup)
theorem Told.pow {s t : State} (h : Told s t) : t.pow = s.pow :=
  (congrArg State.pow h.rest : t.told.pow = s.told.pow)
theorem Told.clk {s t : State} (h : Told s t) : t.clk = s.clk :=
  (congrArg State.clk h.rest : t.told.clk = s.told.clk)
theorem Told.rst {s t : State} (h : Told s t) : t.rst = s.rst :=
  (congrArg State.rst h.rest : t.told.rst = s.told.rst)
theorem Told.diag {s t : State} (h : Told s t) : t.diag = s.diag :=
  (congrArg State.diag h.rest : t.told.diag = s.told.diag)
theorem Told.net {s t : State} (h : Told s t) : t.net = s.net :=
  (congrArg State.net h.rest : t.told.net = s.told.net)
theorem Told.gp {s t : State} (h : Told s t) : t.gp = s.gp :=
  (congrArg State.gp h.rest : t.told.gp = s.told.gp)
theorem Told.host_places {s t : State} (h : Told s t) : t.host.places = s.host.places :=
  (congrArg (fun u => u.host.places) h.rest : t.told.host.places = s.told.host.places)
theorem Told.host_gates {s t : State} (h : Told s t) : t.host.gates = s.host.gates :=
  (congrArg (fun u => u.host.gates) h.rest : t.told.host.gates = s.told.host.gates)
theorem Told.host_semas {s t : State} (h : Told s t) : t.host.semas = s.host.semas :=
  (congrArg (fun u => u.host.semas) h.rest : t.told.host.semas = s.told.host.semas)
theorem Told.host_waits {s t : State} (h : Told s t) : t.host.waits = s.host.waits :=
  (congrArg (fun u => u.host.waits) h.rest : t.told.host.waits = s.told.host.waits)
theorem Told.host_rotate {s t : State} (h : Told s t) : t.host.rotate = s.host.rotate :=
  (congrArg (fun u => u.host.rotate) h.rest : t.told.host.rotate = s.told.host.rotate)
theorem Told.host_nextSession {s t : State} (h : Told s t) : t.host.nextSession = s.host.nextSession :=
  (congrArg (fun u => u.host.nextSession) h.rest : t.told.host.nextSession = s.told.host.nextSession)
theorem Told.host_nextFlight {s t : State} (h : Told s t) : t.host.nextFlight = s.host.nextFlight :=
  (congrArg (fun u => u.host.nextFlight) h.rest : t.told.host.nextFlight = s.told.host.nextFlight)
theorem Told.host_bursts {s t : State} (h : Told s t) : t.host.bursts = s.host.bursts :=
  (congrArg (fun u => u.host.bursts) h.rest : t.told.host.bursts = s.told.host.bursts)
theorem Told.host_niIngress {s t : State} (h : Told s t) : t.host.niIngress = s.host.niIngress :=
  (congrArg (fun u => u.host.niIngress) h.rest : t.told.host.niIngress = s.told.host.niIngress)
theorem Told.host_linkIngress {s t : State} (h : Told s t) : t.host.linkIngress = s.host.linkIngress :=
  (congrArg (fun u => u.host.linkIngress) h.rest : t.told.host.linkIngress = s.told.host.linkIngress)
theorem Told.host_linkEgress {s t : State} (h : Told s t) : t.host.linkEgress = s.host.linkEgress :=
  (congrArg (fun u => u.host.linkEgress) h.rest : t.told.host.linkEgress = s.told.host.linkEgress)
theorem Told.host_linkErr {s t : State} (h : Told s t) : t.host.linkErr = s.host.linkErr :=
  (congrArg (fun u => u.host.linkErr) h.rest : t.told.host.linkErr = s.told.host.linkErr)
theorem Told.host_lastKindNotice {s t : State} (h : Told s t) : t.host.lastKindNotice = s.host.lastKindNotice :=
  (congrArg (fun u => u.host.lastKindNotice) h.rest : t.told.host.lastKindNotice = s.told.host.lastKindNotice)
theorem Told.host_fns {s t : State} (h : Told s t) : t.host.fns = s.host.fns :=
  (congrArg (fun u => u.host.fns) h.rest : t.told.host.fns = s.told.host.fns)
theorem Noted.host_places {s t : State} (h : Noted s t) : t.host.places = s.host.places :=
  (congrArg (fun u => u.host.places) h.rest : t.noted.host.places = s.noted.host.places)
theorem Noted.host_gates {s t : State} (h : Noted s t) : t.host.gates = s.host.gates :=
  (congrArg (fun u => u.host.gates) h.rest : t.noted.host.gates = s.noted.host.gates)
theorem Noted.host_semas {s t : State} (h : Noted s t) : t.host.semas = s.host.semas :=
  (congrArg (fun u => u.host.semas) h.rest : t.noted.host.semas = s.noted.host.semas)
theorem Noted.host_waits {s t : State} (h : Noted s t) : t.host.waits = s.host.waits :=
  (congrArg (fun u => u.host.waits) h.rest : t.noted.host.waits = s.noted.host.waits)
theorem Noted.host_rotate {s t : State} (h : Noted s t) : t.host.rotate = s.host.rotate :=
  (congrArg (fun u => u.host.rotate) h.rest : t.noted.host.rotate = s.noted.host.rotate)
theorem Noted.host_nextSession {s t : State} (h : Noted s t) : t.host.nextSession = s.host.nextSession :=
  (congrArg (fun u => u.host.nextSession) h.rest : t.noted.host.nextSession = s.noted.host.nextSession)
theorem Noted.host_nextFlight {s t : State} (h : Noted s t) : t.host.nextFlight = s.host.nextFlight :=
  (congrArg (fun u => u.host.nextFlight) h.rest : t.noted.host.nextFlight = s.noted.host.nextFlight)
theorem Noted.host_bursts {s t : State} (h : Noted s t) : t.host.bursts = s.host.bursts :=
  (congrArg (fun u => u.host.bursts) h.rest : t.noted.host.bursts = s.noted.host.bursts)
theorem Noted.host_niIngress {s t : State} (h : Noted s t) : t.host.niIngress = s.host.niIngress :=
  (congrArg (fun u => u.host.niIngress) h.rest : t.noted.host.niIngress = s.noted.host.niIngress)
theorem Noted.host_linkIngress {s t : State} (h : Noted s t) : t.host.linkIngress = s.host.linkIngress :=
  (congrArg (fun u => u.host.linkIngress) h.rest : t.noted.host.linkIngress = s.noted.host.linkIngress)
theorem Noted.host_linkEgress {s t : State} (h : Noted s t) : t.host.linkEgress = s.host.linkEgress :=
  (congrArg (fun u => u.host.linkEgress) h.rest : t.noted.host.linkEgress = s.noted.host.linkEgress)
theorem Noted.host_linkErr {s t : State} (h : Noted s t) : t.host.linkErr = s.host.linkErr :=
  (congrArg (fun u => u.host.linkErr) h.rest : t.noted.host.linkErr = s.noted.host.linkErr)
theorem Noted.host_lastKindNotice {s t : State} (h : Noted s t) : t.host.lastKindNotice = s.host.lastKindNotice :=
  (congrArg (fun u => u.host.lastKindNotice) h.rest : t.noted.host.lastKindNotice = s.noted.host.lastKindNotice)
theorem Noted.host_fns {s t : State} (h : Noted s t) : t.host.fns = s.host.fns :=
  (congrArg (fun u => u.host.fns) h.rest : t.noted.host.fns = s.noted.host.fns)
theorem Noted.host_flights {s t : State} (h : Noted s t) : t.host.flights = s.host.flights :=
  (congrArg (fun u => u.host.flights) h.rest : t.noted.host.flights = s.noted.host.flights)
theorem Noted.host_done {s t : State} (h : Noted s t) : t.host.done = s.host.done :=
  (congrArg (fun u => u.host.done) h.rest : t.noted.host.done = s.noted.host.done)
theorem Told.recd {s t : State} (h : Told s t) : t.recd = s.recd :=
  (congrArg State.recd h.rest : t.told.recd = s.told.recd)
theorem Hush.recd {s t : State} (h : Hush s t) : t.recd = s.recd :=
  (congrArg State.recd h.rest : t.hushed.recd = s.hushed.recd)

section
variable (s : State)

@[simp] theorem moveFill_variant (q : Nat) : (moveFill q s).variant = s.variant :=
  (congrArg State.variant (moveFill_hushed q s) : (moveFill q s).hushed.variant = s.hushed.variant)
@[simp] theorem moveFill_now (q : Nat) : (moveFill q s).now = s.now :=
  (congrArg State.now (moveFill_hushed q s) : (moveFill q s).hushed.now = s.hushed.now)
@[simp] theorem moveFill_free (q : Nat) : (moveFill q s).free = s.free :=
  (congrArg State.free (moveFill_hushed q s) : (moveFill q s).hushed.free = s.hushed.free)
@[simp] theorem moveFill_pending (q : Nat) : (moveFill q s).pending = s.pending :=
  (congrArg State.pending (moveFill_hushed q s) : (moveFill q s).hushed.pending = s.hushed.pending)
@[simp] theorem moveFill_lat (q : Nat) : (moveFill q s).lat = s.lat :=
  (congrArg State.lat (moveFill_hushed q s) : (moveFill q s).hushed.lat = s.hushed.lat)
@[simp] theorem moveFill_seq (q : Nat) : (moveFill q s).seq = s.seq :=
  (congrArg State.seq (moveFill_hushed q s) : (moveFill q s).hushed.seq = s.hushed.seq)
@[simp] theorem moveFill_salt (q : Nat) : (moveFill q s).salt = s.salt :=
  (congrArg State.salt (moveFill_hushed q s) : (moveFill q s).hushed.salt = s.hushed.salt)
@[simp] theorem moveFill_axes (q : Nat) : (moveFill q s).axes = s.axes :=
  (congrArg State.axes (moveFill_hushed q s) : (moveFill q s).hushed.axes = s.hushed.axes)
@[simp] theorem moveFill_setpts (q : Nat) : (moveFill q s).setpts = s.setpts :=
  (congrArg State.setpts (moveFill_hushed q s) : (moveFill q s).hushed.setpts = s.hushed.setpts)
@[simp] theorem moveFill_chans (q : Nat) : (moveFill q s).chans = s.chans :=
  (congrArg State.chans (moveFill_hushed q s) : (moveFill q s).hushed.chans = s.hushed.chans)
@[simp] theorem moveFill_dies (q : Nat) : (moveFill q s).dies = s.dies :=
  (congrArg State.dies (moveFill_hushed q s) : (moveFill q s).hushed.dies = s.hushed.dies)
@[simp] theorem moveFill_direct (q : Nat) : (moveFill q s).direct = s.direct :=
  (congrArg State.direct (moveFill_hushed q s) : (moveFill q s).hushed.direct = s.hushed.direct)
@[simp] theorem moveFill_wakes (q : Nat) : (moveFill q s).wakes = s.wakes :=
  (congrArg State.wakes (moveFill_hushed q s) : (moveFill q s).hushed.wakes = s.hushed.wakes)
@[simp] theorem moveFill_sup (q : Nat) : (moveFill q s).sup = s.sup :=
  (congrArg State.sup (moveFill_hushed q s) : (moveFill q s).hushed.sup = s.hushed.sup)
@[simp] theorem moveFill_pow (q : Nat) : (moveFill q s).pow = s.pow :=
  (congrArg State.pow (moveFill_hushed q s) : (moveFill q s).hushed.pow = s.hushed.pow)
@[simp] theorem moveFill_clk (q : Nat) : (moveFill q s).clk = s.clk :=
  (congrArg State.clk (moveFill_hushed q s) : (moveFill q s).hushed.clk = s.hushed.clk)
@[simp] theorem moveFill_rst (q : Nat) : (moveFill q s).rst = s.rst :=
  (congrArg State.rst (moveFill_hushed q s) : (moveFill q s).hushed.rst = s.hushed.rst)
@[simp] theorem moveFill_diag (q : Nat) : (moveFill q s).diag = s.diag :=
  (congrArg State.diag (moveFill_hushed q s) : (moveFill q s).hushed.diag = s.hushed.diag)
@[simp] theorem moveFill_net (q : Nat) : (moveFill q s).net = s.net :=
  (congrArg State.net (moveFill_hushed q s) : (moveFill q s).hushed.net = s.hushed.net)
@[simp] theorem moveFill_gp (q : Nat) : (moveFill q s).gp = s.gp :=
  (congrArg State.gp (moveFill_hushed q s) : (moveFill q s).hushed.gp = s.hushed.gp)
@[simp] theorem moveFill_host_places (q : Nat) : (moveFill q s).host.places = s.host.places :=
  (congrArg (fun u => u.host.places) (moveFill_hushed q s) : (moveFill q s).hushed.host.places = s.hushed.host.places)
@[simp] theorem moveFill_host_gates (q : Nat) : (moveFill q s).host.gates = s.host.gates :=
  (congrArg (fun u => u.host.gates) (moveFill_hushed q s) : (moveFill q s).hushed.host.gates = s.hushed.host.gates)
@[simp] theorem moveFill_host_semas (q : Nat) : (moveFill q s).host.semas = s.host.semas :=
  (congrArg (fun u => u.host.semas) (moveFill_hushed q s) : (moveFill q s).hushed.host.semas = s.hushed.host.semas)
@[simp] theorem moveFill_host_waits (q : Nat) : (moveFill q s).host.waits = s.host.waits :=
  (congrArg (fun u => u.host.waits) (moveFill_hushed q s) : (moveFill q s).hushed.host.waits = s.hushed.host.waits)
@[simp] theorem moveFill_host_rotate (q : Nat) : (moveFill q s).host.rotate = s.host.rotate :=
  (congrArg (fun u => u.host.rotate) (moveFill_hushed q s) : (moveFill q s).hushed.host.rotate = s.hushed.host.rotate)
@[simp] theorem moveFill_host_nextSession (q : Nat) : (moveFill q s).host.nextSession = s.host.nextSession :=
  (congrArg (fun u => u.host.nextSession) (moveFill_hushed q s) : (moveFill q s).hushed.host.nextSession = s.hushed.host.nextSession)
@[simp] theorem moveFill_host_nextFlight (q : Nat) : (moveFill q s).host.nextFlight = s.host.nextFlight :=
  (congrArg (fun u => u.host.nextFlight) (moveFill_hushed q s) : (moveFill q s).hushed.host.nextFlight = s.hushed.host.nextFlight)
@[simp] theorem moveFill_host_bursts (q : Nat) : (moveFill q s).host.bursts = s.host.bursts :=
  (congrArg (fun u => u.host.bursts) (moveFill_hushed q s) : (moveFill q s).hushed.host.bursts = s.hushed.host.bursts)
@[simp] theorem moveFill_host_niIngress (q : Nat) : (moveFill q s).host.niIngress = s.host.niIngress :=
  (congrArg (fun u => u.host.niIngress) (moveFill_hushed q s) : (moveFill q s).hushed.host.niIngress = s.hushed.host.niIngress)
@[simp] theorem moveFill_host_linkIngress (q : Nat) : (moveFill q s).host.linkIngress = s.host.linkIngress :=
  (congrArg (fun u => u.host.linkIngress) (moveFill_hushed q s) : (moveFill q s).hushed.host.linkIngress = s.hushed.host.linkIngress)
@[simp] theorem moveFill_host_linkEgress (q : Nat) : (moveFill q s).host.linkEgress = s.host.linkEgress :=
  (congrArg (fun u => u.host.linkEgress) (moveFill_hushed q s) : (moveFill q s).hushed.host.linkEgress = s.hushed.host.linkEgress)
@[simp] theorem moveFill_host_linkErr (q : Nat) : (moveFill q s).host.linkErr = s.host.linkErr :=
  (congrArg (fun u => u.host.linkErr) (moveFill_hushed q s) : (moveFill q s).hushed.host.linkErr = s.hushed.host.linkErr)
@[simp] theorem moveFill_host_lastKindNotice (q : Nat) : (moveFill q s).host.lastKindNotice = s.host.lastKindNotice :=
  (congrArg (fun u => u.host.lastKindNotice) (moveFill_hushed q s) : (moveFill q s).hushed.host.lastKindNotice = s.hushed.host.lastKindNotice)
@[simp] theorem moveFill_host_fns (q : Nat) : (moveFill q s).host.fns = s.host.fns :=
  (congrArg (fun u => u.host.fns) (moveFill_hushed q s) : (moveFill q s).hushed.host.fns = s.hushed.host.fns)
@[simp] theorem moveFill_host_flights (q : Nat) : (moveFill q s).host.flights = s.host.flights :=
  (congrArg (fun u => u.host.flights) (moveFill_hushed q s) : (moveFill q s).hushed.host.flights = s.hushed.host.flights)
@[simp] theorem moveFill_host_done (q : Nat) : (moveFill q s).host.done = s.host.done :=
  (congrArg (fun u => u.host.done) (moveFill_hushed q s) : (moveFill q s).hushed.host.done = s.hushed.host.done)
@[simp] theorem moveFill_recd (q : Nat) : (moveFill q s).recd = s.recd :=
  (congrArg State.recd (moveFill_hushed q s) : (moveFill q s).hushed.recd = s.hushed.recd)
@[simp] theorem moveFill_get (q : Nat) (hq : q < 256) (j : Nat) (h : noisy j = false) : (moveFill q s).get j = s.get j := (hush_moveFill q hq s).obj j h

end

section
variable (s : State)

@[simp] theorem raiseIn_variant (fn cls num kind : Nat) (data : List Byte) (b : Bool) : (raiseIn fn cls num kind data b s).variant = s.variant := (hush_raiseIn fn cls num kind data b s).noted.variant
@[simp] theorem raiseIn_now (fn cls num kind : Nat) (data : List Byte) (b : Bool) : (raiseIn fn cls num kind data b s).now = s.now := (hush_raiseIn fn cls num kind data b s).noted.now
@[simp] theorem raiseIn_free (fn cls num kind : Nat) (data : List Byte) (b : Bool) : (raiseIn fn cls num kind data b s).free = s.free := (hush_raiseIn fn cls num kind data b s).noted.free
@[simp] theorem raiseIn_pending (fn cls num kind : Nat) (data : List Byte) (b : Bool) : (raiseIn fn cls num kind data b s).pending = s.pending := (hush_raiseIn fn cls num kind data b s).noted.pending
@[simp] theorem raiseIn_lat (fn cls num kind : Nat) (data : List Byte) (b : Bool) : (raiseIn fn cls num kind data b s).lat = s.lat := (hush_raiseIn fn cls num kind data b s).noted.lat
@[simp] theorem raiseIn_seq (fn cls num kind : Nat) (data : List Byte) (b : Bool) : (raiseIn fn cls num kind data b s).seq = s.seq := (hush_raiseIn fn cls num kind data b s).noted.seq
@[simp] theorem raiseIn_salt (fn cls num kind : Nat) (data : List Byte) (b : Bool) : (raiseIn fn cls num kind data b s).salt = s.salt := (hush_raiseIn fn cls num kind data b s).noted.salt
@[simp] theorem raiseIn_axes (fn cls num kind : Nat) (data : List Byte) (b : Bool) : (raiseIn fn cls num kind data b s).axes = s.axes := (hush_raiseIn fn cls num kind data b s).noted.axes
@[simp] theorem raiseIn_setpts (fn cls num kind : Nat) (data : List Byte) (b : Bool) : (raiseIn fn cls num kind data b s).setpts = s.setpts := (hush_raiseIn fn cls num kind data b s).noted.setpts
@[simp] theorem raiseIn_chans (fn cls num kind : Nat) (data : List Byte) (b : Bool) : (raiseIn fn cls num kind data b s).chans = s.chans := (hush_raiseIn fn cls num kind data b s).noted.chans
@[simp] theorem raiseIn_dies (fn cls num kind : Nat) (data : List Byte) (b : Bool) : (raiseIn fn cls num kind data b s).dies = s.dies := (hush_raiseIn fn cls num kind data b s).noted.dies
@[simp] theorem raiseIn_direct (fn cls num kind : Nat) (data : List Byte) (b : Bool) : (raiseIn fn cls num kind data b s).direct = s.direct := (hush_raiseIn fn cls num kind data b s).noted.direct
@[simp] theorem raiseIn_wakes (fn cls num kind : Nat) (data : List Byte) (b : Bool) : (raiseIn fn cls num kind data b s).wakes = s.wakes := (hush_raiseIn fn cls num kind data b s).noted.wakes
@[simp] theorem raiseIn_sup (fn cls num kind : Nat) (data : List Byte) (b : Bool) : (raiseIn fn cls num kind data b s).sup = s.sup := (hush_raiseIn fn cls num kind data b s).noted.sup
@[simp] theorem raiseIn_pow (fn cls num kind : Nat) (data : List Byte) (b : Bool) : (raiseIn fn cls num kind data b s).pow = s.pow := (hush_raiseIn fn cls num kind data b s).noted.pow
@[simp] theorem raiseIn_clk (fn cls num kind : Nat) (data : List Byte) (b : Bool) : (raiseIn fn cls num kind data b s).clk = s.clk := (hush_raiseIn fn cls num kind data b s).noted.clk
@[simp] theorem raiseIn_rst (fn cls num kind : Nat) (data : List Byte) (b : Bool) : (raiseIn fn cls num kind data b s).rst = s.rst := (hush_raiseIn fn cls num kind data b s).noted.rst
@[simp] theorem raiseIn_diag (fn cls num kind : Nat) (data : List Byte) (b : Bool) : (raiseIn fn cls num kind data b s).diag = s.diag := (hush_raiseIn fn cls num kind data b s).noted.diag
@[simp] theorem raiseIn_net (fn cls num kind : Nat) (data : List Byte) (b : Bool) : (raiseIn fn cls num kind data b s).net = s.net := (hush_raiseIn fn cls num kind data b s).noted.net
@[simp] theorem raiseIn_gp (fn cls num kind : Nat) (data : List Byte) (b : Bool) : (raiseIn fn cls num kind data b s).gp = s.gp := (hush_raiseIn fn cls num kind data b s).noted.gp
@[simp] theorem raiseIn_host_places (fn cls num kind : Nat) (data : List Byte) (b : Bool) : (raiseIn fn cls num kind data b s).host.places = s.host.places := (hush_raiseIn fn cls num kind data b s).noted.host_places
@[simp] theorem raiseIn_host_gates (fn cls num kind : Nat) (data : List Byte) (b : Bool) : (raiseIn fn cls num kind data b s).host.gates = s.host.gates := (hush_raiseIn fn cls num kind data b s).noted.host_gates
@[simp] theorem raiseIn_host_semas (fn cls num kind : Nat) (data : List Byte) (b : Bool) : (raiseIn fn cls num kind data b s).host.semas = s.host.semas := (hush_raiseIn fn cls num kind data b s).noted.host_semas
@[simp] theorem raiseIn_host_waits (fn cls num kind : Nat) (data : List Byte) (b : Bool) : (raiseIn fn cls num kind data b s).host.waits = s.host.waits := (hush_raiseIn fn cls num kind data b s).noted.host_waits
@[simp] theorem raiseIn_host_rotate (fn cls num kind : Nat) (data : List Byte) (b : Bool) : (raiseIn fn cls num kind data b s).host.rotate = s.host.rotate := (hush_raiseIn fn cls num kind data b s).noted.host_rotate
@[simp] theorem raiseIn_host_nextSession (fn cls num kind : Nat) (data : List Byte) (b : Bool) : (raiseIn fn cls num kind data b s).host.nextSession = s.host.nextSession := (hush_raiseIn fn cls num kind data b s).noted.host_nextSession
@[simp] theorem raiseIn_host_nextFlight (fn cls num kind : Nat) (data : List Byte) (b : Bool) : (raiseIn fn cls num kind data b s).host.nextFlight = s.host.nextFlight := (hush_raiseIn fn cls num kind data b s).noted.host_nextFlight
@[simp] theorem raiseIn_host_bursts (fn cls num kind : Nat) (data : List Byte) (b : Bool) : (raiseIn fn cls num kind data b s).host.bursts = s.host.bursts := (hush_raiseIn fn cls num kind data b s).noted.host_bursts
@[simp] theorem raiseIn_host_niIngress (fn cls num kind : Nat) (data : List Byte) (b : Bool) : (raiseIn fn cls num kind data b s).host.niIngress = s.host.niIngress := (hush_raiseIn fn cls num kind data b s).noted.host_niIngress
@[simp] theorem raiseIn_host_linkIngress (fn cls num kind : Nat) (data : List Byte) (b : Bool) : (raiseIn fn cls num kind data b s).host.linkIngress = s.host.linkIngress := (hush_raiseIn fn cls num kind data b s).noted.host_linkIngress
@[simp] theorem raiseIn_host_linkEgress (fn cls num kind : Nat) (data : List Byte) (b : Bool) : (raiseIn fn cls num kind data b s).host.linkEgress = s.host.linkEgress := (hush_raiseIn fn cls num kind data b s).noted.host_linkEgress
@[simp] theorem raiseIn_host_linkErr (fn cls num kind : Nat) (data : List Byte) (b : Bool) : (raiseIn fn cls num kind data b s).host.linkErr = s.host.linkErr := (hush_raiseIn fn cls num kind data b s).noted.host_linkErr
@[simp] theorem raiseIn_host_lastKindNotice (fn cls num kind : Nat) (data : List Byte) (b : Bool) : (raiseIn fn cls num kind data b s).host.lastKindNotice = s.host.lastKindNotice := (hush_raiseIn fn cls num kind data b s).noted.host_lastKindNotice
@[simp] theorem raiseIn_host_fns (fn cls num kind : Nat) (data : List Byte) (b : Bool) : (raiseIn fn cls num kind data b s).host.fns = s.host.fns := (hush_raiseIn fn cls num kind data b s).noted.host_fns
@[simp] theorem raiseIn_host_flights (fn cls num kind : Nat) (data : List Byte) (b : Bool) : (raiseIn fn cls num kind data b s).host.flights = s.host.flights := (hush_raiseIn fn cls num kind data b s).noted.host_flights
@[simp] theorem raiseIn_host_done (fn cls num kind : Nat) (data : List Byte) (b : Bool) : (raiseIn fn cls num kind data b s).host.done = s.host.done := (hush_raiseIn fn cls num kind data b s).noted.host_done
@[simp] theorem raiseIn_recd (fn cls num kind : Nat) (data : List Byte) (b : Bool) : (raiseIn fn cls num kind data b s).recd = s.recd := (hush_raiseIn fn cls num kind data b s).recd
@[simp] theorem raiseIn_get (fn cls num kind : Nat) (data : List Byte) (b : Bool) (j : Nat) (h : noisy j = false) : (raiseIn fn cls num kind data b s).get j = s.get j := (hush_raiseIn fn cls num kind data b s).obj j h

end

section
variable (s : State)

@[simp] theorem raise_variant (cls num kind : Nat) (data : List Byte) (b : Bool) : (raise cls num kind data b s).variant = s.variant := (hush_raise cls num kind data b s).noted.variant
@[simp] theorem raise_now (cls num kind : Nat) (data : List Byte) (b : Bool) : (raise cls num kind data b s).now = s.now := (hush_raise cls num kind data b s).noted.now
@[simp] theorem raise_free (cls num kind : Nat) (data : List Byte) (b : Bool) : (raise cls num kind data b s).free = s.free := (hush_raise cls num kind data b s).noted.free
@[simp] theorem raise_pending (cls num kind : Nat) (data : List Byte) (b : Bool) : (raise cls num kind data b s).pending = s.pending := (hush_raise cls num kind data b s).noted.pending
@[simp] theorem raise_lat (cls num kind : Nat) (data : List Byte) (b : Bool) : (raise cls num kind data b s).lat = s.lat := (hush_raise cls num kind data b s).noted.lat
@[simp] theorem raise_seq (cls num kind : Nat) (data : List Byte) (b : Bool) : (raise cls num kind data b s).seq = s.seq := (hush_raise cls num kind data b s).noted.seq
@[simp] theorem raise_salt (cls num kind : Nat) (data : List Byte) (b : Bool) : (raise cls num kind data b s).salt = s.salt := (hush_raise cls num kind data b s).noted.salt
@[simp] theorem raise_axes (cls num kind : Nat) (data : List Byte) (b : Bool) : (raise cls num kind data b s).axes = s.axes := (hush_raise cls num kind data b s).noted.axes
@[simp] theorem raise_setpts (cls num kind : Nat) (data : List Byte) (b : Bool) : (raise cls num kind data b s).setpts = s.setpts := (hush_raise cls num kind data b s).noted.setpts
@[simp] theorem raise_chans (cls num kind : Nat) (data : List Byte) (b : Bool) : (raise cls num kind data b s).chans = s.chans := (hush_raise cls num kind data b s).noted.chans
@[simp] theorem raise_dies (cls num kind : Nat) (data : List Byte) (b : Bool) : (raise cls num kind data b s).dies = s.dies := (hush_raise cls num kind data b s).noted.dies
@[simp] theorem raise_direct (cls num kind : Nat) (data : List Byte) (b : Bool) : (raise cls num kind data b s).direct = s.direct := (hush_raise cls num kind data b s).noted.direct
@[simp] theorem raise_wakes (cls num kind : Nat) (data : List Byte) (b : Bool) : (raise cls num kind data b s).wakes = s.wakes := (hush_raise cls num kind data b s).noted.wakes
@[simp] theorem raise_sup (cls num kind : Nat) (data : List Byte) (b : Bool) : (raise cls num kind data b s).sup = s.sup := (hush_raise cls num kind data b s).noted.sup
@[simp] theorem raise_pow (cls num kind : Nat) (data : List Byte) (b : Bool) : (raise cls num kind data b s).pow = s.pow := (hush_raise cls num kind data b s).noted.pow
@[simp] theorem raise_clk (cls num kind : Nat) (data : List Byte) (b : Bool) : (raise cls num kind data b s).clk = s.clk := (hush_raise cls num kind data b s).noted.clk
@[simp] theorem raise_rst (cls num kind : Nat) (data : List Byte) (b : Bool) : (raise cls num kind data b s).rst = s.rst := (hush_raise cls num kind data b s).noted.rst
@[simp] theorem raise_diag (cls num kind : Nat) (data : List Byte) (b : Bool) : (raise cls num kind data b s).diag = s.diag := (hush_raise cls num kind data b s).noted.diag
@[simp] theorem raise_net (cls num kind : Nat) (data : List Byte) (b : Bool) : (raise cls num kind data b s).net = s.net := (hush_raise cls num kind data b s).noted.net
@[simp] theorem raise_gp (cls num kind : Nat) (data : List Byte) (b : Bool) : (raise cls num kind data b s).gp = s.gp := (hush_raise cls num kind data b s).noted.gp
@[simp] theorem raise_host_places (cls num kind : Nat) (data : List Byte) (b : Bool) : (raise cls num kind data b s).host.places = s.host.places := (hush_raise cls num kind data b s).noted.host_places
@[simp] theorem raise_host_gates (cls num kind : Nat) (data : List Byte) (b : Bool) : (raise cls num kind data b s).host.gates = s.host.gates := (hush_raise cls num kind data b s).noted.host_gates
@[simp] theorem raise_host_semas (cls num kind : Nat) (data : List Byte) (b : Bool) : (raise cls num kind data b s).host.semas = s.host.semas := (hush_raise cls num kind data b s).noted.host_semas
@[simp] theorem raise_host_waits (cls num kind : Nat) (data : List Byte) (b : Bool) : (raise cls num kind data b s).host.waits = s.host.waits := (hush_raise cls num kind data b s).noted.host_waits
@[simp] theorem raise_host_rotate (cls num kind : Nat) (data : List Byte) (b : Bool) : (raise cls num kind data b s).host.rotate = s.host.rotate := (hush_raise cls num kind data b s).noted.host_rotate
@[simp] theorem raise_host_nextSession (cls num kind : Nat) (data : List Byte) (b : Bool) : (raise cls num kind data b s).host.nextSession = s.host.nextSession := (hush_raise cls num kind data b s).noted.host_nextSession
@[simp] theorem raise_host_nextFlight (cls num kind : Nat) (data : List Byte) (b : Bool) : (raise cls num kind data b s).host.nextFlight = s.host.nextFlight := (hush_raise cls num kind data b s).noted.host_nextFlight
@[simp] theorem raise_host_bursts (cls num kind : Nat) (data : List Byte) (b : Bool) : (raise cls num kind data b s).host.bursts = s.host.bursts := (hush_raise cls num kind data b s).noted.host_bursts
@[simp] theorem raise_host_niIngress (cls num kind : Nat) (data : List Byte) (b : Bool) : (raise cls num kind data b s).host.niIngress = s.host.niIngress := (hush_raise cls num kind data b s).noted.host_niIngress
@[simp] theorem raise_host_linkIngress (cls num kind : Nat) (data : List Byte) (b : Bool) : (raise cls num kind data b s).host.linkIngress = s.host.linkIngress := (hush_raise cls num kind data b s).noted.host_linkIngress
@[simp] theorem raise_host_linkEgress (cls num kind : Nat) (data : List Byte) (b : Bool) : (raise cls num kind data b s).host.linkEgress = s.host.linkEgress := (hush_raise cls num kind data b s).noted.host_linkEgress
@[simp] theorem raise_host_linkErr (cls num kind : Nat) (data : List Byte) (b : Bool) : (raise cls num kind data b s).host.linkErr = s.host.linkErr := (hush_raise cls num kind data b s).noted.host_linkErr
@[simp] theorem raise_host_lastKindNotice (cls num kind : Nat) (data : List Byte) (b : Bool) : (raise cls num kind data b s).host.lastKindNotice = s.host.lastKindNotice := (hush_raise cls num kind data b s).noted.host_lastKindNotice
@[simp] theorem raise_host_fns (cls num kind : Nat) (data : List Byte) (b : Bool) : (raise cls num kind data b s).host.fns = s.host.fns := (hush_raise cls num kind data b s).noted.host_fns
@[simp] theorem raise_host_flights (cls num kind : Nat) (data : List Byte) (b : Bool) : (raise cls num kind data b s).host.flights = s.host.flights := (hush_raise cls num kind data b s).noted.host_flights
@[simp] theorem raise_host_done (cls num kind : Nat) (data : List Byte) (b : Bool) : (raise cls num kind data b s).host.done = s.host.done := (hush_raise cls num kind data b s).noted.host_done
@[simp] theorem raise_recd (cls num kind : Nat) (data : List Byte) (b : Bool) : (raise cls num kind data b s).recd = s.recd := (hush_raise cls num kind data b s).recd
@[simp] theorem raise_get (cls num kind : Nat) (data : List Byte) (b : Bool) (j : Nat) (h : noisy j = false) : (raise cls num kind data b s).get j = s.get j := (hush_raise cls num kind data b s).obj j h

end

section
variable (s : State)

@[simp] theorem stateNotice_variant (k v : Nat) : (stateNotice k v s).variant = s.variant := (hush_stateNotice k v s).noted.variant
@[simp] theorem stateNotice_now (k v : Nat) : (stateNotice k v s).now = s.now := (hush_stateNotice k v s).noted.now
@[simp] theorem stateNotice_free (k v : Nat) : (stateNotice k v s).free = s.free := (hush_stateNotice k v s).noted.free
@[simp] theorem stateNotice_pending (k v : Nat) : (stateNotice k v s).pending = s.pending := (hush_stateNotice k v s).noted.pending
@[simp] theorem stateNotice_lat (k v : Nat) : (stateNotice k v s).lat = s.lat := (hush_stateNotice k v s).noted.lat
@[simp] theorem stateNotice_seq (k v : Nat) : (stateNotice k v s).seq = s.seq := (hush_stateNotice k v s).noted.seq
@[simp] theorem stateNotice_salt (k v : Nat) : (stateNotice k v s).salt = s.salt := (hush_stateNotice k v s).noted.salt
@[simp] theorem stateNotice_axes (k v : Nat) : (stateNotice k v s).axes = s.axes := (hush_stateNotice k v s).noted.axes
@[simp] theorem stateNotice_setpts (k v : Nat) : (stateNotice k v s).setpts = s.setpts := (hush_stateNotice k v s).noted.setpts
@[simp] theorem stateNotice_chans (k v : Nat) : (stateNotice k v s).chans = s.chans := (hush_stateNotice k v s).noted.chans
@[simp] theorem stateNotice_dies (k v : Nat) : (stateNotice k v s).dies = s.dies := (hush_stateNotice k v s).noted.dies
@[simp] theorem stateNotice_direct (k v : Nat) : (stateNotice k v s).direct = s.direct := (hush_stateNotice k v s).noted.direct
@[simp] theorem stateNotice_wakes (k v : Nat) : (stateNotice k v s).wakes = s.wakes := (hush_stateNotice k v s).noted.wakes
@[simp] theorem stateNotice_sup (k v : Nat) : (stateNotice k v s).sup = s.sup := (hush_stateNotice k v s).noted.sup
@[simp] theorem stateNotice_pow (k v : Nat) : (stateNotice k v s).pow = s.pow := (hush_stateNotice k v s).noted.pow
@[simp] theorem stateNotice_clk (k v : Nat) : (stateNotice k v s).clk = s.clk := (hush_stateNotice k v s).noted.clk
@[simp] theorem stateNotice_rst (k v : Nat) : (stateNotice k v s).rst = s.rst := (hush_stateNotice k v s).noted.rst
@[simp] theorem stateNotice_diag (k v : Nat) : (stateNotice k v s).diag = s.diag := (hush_stateNotice k v s).noted.diag
@[simp] theorem stateNotice_net (k v : Nat) : (stateNotice k v s).net = s.net := (hush_stateNotice k v s).noted.net
@[simp] theorem stateNotice_gp (k v : Nat) : (stateNotice k v s).gp = s.gp := (hush_stateNotice k v s).noted.gp
@[simp] theorem stateNotice_host_places (k v : Nat) : (stateNotice k v s).host.places = s.host.places := (hush_stateNotice k v s).noted.host_places
@[simp] theorem stateNotice_host_gates (k v : Nat) : (stateNotice k v s).host.gates = s.host.gates := (hush_stateNotice k v s).noted.host_gates
@[simp] theorem stateNotice_host_semas (k v : Nat) : (stateNotice k v s).host.semas = s.host.semas := (hush_stateNotice k v s).noted.host_semas
@[simp] theorem stateNotice_host_waits (k v : Nat) : (stateNotice k v s).host.waits = s.host.waits := (hush_stateNotice k v s).noted.host_waits
@[simp] theorem stateNotice_host_rotate (k v : Nat) : (stateNotice k v s).host.rotate = s.host.rotate := (hush_stateNotice k v s).noted.host_rotate
@[simp] theorem stateNotice_host_nextSession (k v : Nat) : (stateNotice k v s).host.nextSession = s.host.nextSession := (hush_stateNotice k v s).noted.host_nextSession
@[simp] theorem stateNotice_host_nextFlight (k v : Nat) : (stateNotice k v s).host.nextFlight = s.host.nextFlight := (hush_stateNotice k v s).noted.host_nextFlight
@[simp] theorem stateNotice_host_bursts (k v : Nat) : (stateNotice k v s).host.bursts = s.host.bursts := (hush_stateNotice k v s).noted.host_bursts
@[simp] theorem stateNotice_host_niIngress (k v : Nat) : (stateNotice k v s).host.niIngress = s.host.niIngress := (hush_stateNotice k v s).noted.host_niIngress
@[simp] theorem stateNotice_host_linkIngress (k v : Nat) : (stateNotice k v s).host.linkIngress = s.host.linkIngress := (hush_stateNotice k v s).noted.host_linkIngress
@[simp] theorem stateNotice_host_linkEgress (k v : Nat) : (stateNotice k v s).host.linkEgress = s.host.linkEgress := (hush_stateNotice k v s).noted.host_linkEgress
@[simp] theorem stateNotice_host_linkErr (k v : Nat) : (stateNotice k v s).host.linkErr = s.host.linkErr := (hush_stateNotice k v s).noted.host_linkErr
@[simp] theorem stateNotice_host_lastKindNotice (k v : Nat) : (stateNotice k v s).host.lastKindNotice = s.host.lastKindNotice := (hush_stateNotice k v s).noted.host_lastKindNotice
@[simp] theorem stateNotice_host_fns (k v : Nat) : (stateNotice k v s).host.fns = s.host.fns := (hush_stateNotice k v s).noted.host_fns
@[simp] theorem stateNotice_host_flights (k v : Nat) : (stateNotice k v s).host.flights = s.host.flights := (hush_stateNotice k v s).noted.host_flights
@[simp] theorem stateNotice_host_done (k v : Nat) : (stateNotice k v s).host.done = s.host.done := (hush_stateNotice k v s).noted.host_done
@[simp] theorem stateNotice_recd (k v : Nat) : (stateNotice k v s).recd = s.recd := (hush_stateNotice k v s).recd
@[simp] theorem stateNotice_get (k v : Nat) (j : Nat) (h : noisy j = false) : (stateNotice k v s).get j = s.get j := (hush_stateNotice k v s).obj j h

end

section
variable (s : State)

@[simp] theorem addFlush_variant (b : Bool) (ids : List Nat) : (addFlush b ids s).variant = s.variant := (noted_addFlush b ids s).variant
@[simp] theorem addFlush_now (b : Bool) (ids : List Nat) : (addFlush b ids s).now = s.now := (noted_addFlush b ids s).now
@[simp] theorem addFlush_free (b : Bool) (ids : List Nat) : (addFlush b ids s).free = s.free := (noted_addFlush b ids s).free
@[simp] theorem addFlush_pending (b : Bool) (ids : List Nat) : (addFlush b ids s).pending = s.pending := (noted_addFlush b ids s).pending
@[simp] theorem addFlush_lat (b : Bool) (ids : List Nat) : (addFlush b ids s).lat = s.lat := (noted_addFlush b ids s).lat
@[simp] theorem addFlush_seq (b : Bool) (ids : List Nat) : (addFlush b ids s).seq = s.seq := (noted_addFlush b ids s).seq
@[simp] theorem addFlush_salt (b : Bool) (ids : List Nat) : (addFlush b ids s).salt = s.salt := (noted_addFlush b ids s).salt
@[simp] theorem addFlush_axes (b : Bool) (ids : List Nat) : (addFlush b ids s).axes = s.axes := (noted_addFlush b ids s).axes
@[simp] theorem addFlush_setpts (b : Bool) (ids : List Nat) : (addFlush b ids s).setpts = s.setpts := (noted_addFlush b ids s).setpts
@[simp] theorem addFlush_chans (b : Bool) (ids : List Nat) : (addFlush b ids s).chans = s.chans := (noted_addFlush b ids s).chans
@[simp] theorem addFlush_dies (b : Bool) (ids : List Nat) : (addFlush b ids s).dies = s.dies := (noted_addFlush b ids s).dies
@[simp] theorem addFlush_direct (b : Bool) (ids : List Nat) : (addFlush b ids s).direct = s.direct := (noted_addFlush b ids s).direct
@[simp] theorem addFlush_wakes (b : Bool) (ids : List Nat) : (addFlush b ids s).wakes = s.wakes := (noted_addFlush b ids s).wakes
@[simp] theorem addFlush_sup (b : Bool) (ids : List Nat) : (addFlush b ids s).sup = s.sup := (noted_addFlush b ids s).sup
@[simp] theorem addFlush_pow (b : Bool) (ids : List Nat) : (addFlush b ids s).pow = s.pow := (noted_addFlush b ids s).pow
@[simp] theorem addFlush_clk (b : Bool) (ids : List Nat) : (addFlush b ids s).clk = s.clk := (noted_addFlush b ids s).clk
@[simp] theorem addFlush_rst (b : Bool) (ids : List Nat) : (addFlush b ids s).rst = s.rst := (noted_addFlush b ids s).rst
@[simp] theorem addFlush_diag (b : Bool) (ids : List Nat) : (addFlush b ids s).diag = s.diag := (noted_addFlush b ids s).diag
@[simp] theorem addFlush_net (b : Bool) (ids : List Nat) : (addFlush b ids s).net = s.net := (noted_addFlush b ids s).net
@[simp] theorem addFlush_gp (b : Bool) (ids : List Nat) : (addFlush b ids s).gp = s.gp := (noted_addFlush b ids s).gp
@[simp] theorem addFlush_host_places (b : Bool) (ids : List Nat) : (addFlush b ids s).host.places = s.host.places := (noted_addFlush b ids s).host_places
@[simp] theorem addFlush_host_gates (b : Bool) (ids : List Nat) : (addFlush b ids s).host.gates = s.host.gates := (noted_addFlush b ids s).host_gates
@[simp] theorem addFlush_host_semas (b : Bool) (ids : List Nat) : (addFlush b ids s).host.semas = s.host.semas := (noted_addFlush b ids s).host_semas
@[simp] theorem addFlush_host_waits (b : Bool) (ids : List Nat) : (addFlush b ids s).host.waits = s.host.waits := (noted_addFlush b ids s).host_waits
@[simp] theorem addFlush_host_rotate (b : Bool) (ids : List Nat) : (addFlush b ids s).host.rotate = s.host.rotate := (noted_addFlush b ids s).host_rotate
@[simp] theorem addFlush_host_nextSession (b : Bool) (ids : List Nat) : (addFlush b ids s).host.nextSession = s.host.nextSession := (noted_addFlush b ids s).host_nextSession
@[simp] theorem addFlush_host_nextFlight (b : Bool) (ids : List Nat) : (addFlush b ids s).host.nextFlight = s.host.nextFlight := (noted_addFlush b ids s).host_nextFlight
@[simp] theorem addFlush_host_bursts (b : Bool) (ids : List Nat) : (addFlush b ids s).host.bursts = s.host.bursts := (noted_addFlush b ids s).host_bursts
@[simp] theorem addFlush_host_niIngress (b : Bool) (ids : List Nat) : (addFlush b ids s).host.niIngress = s.host.niIngress := (noted_addFlush b ids s).host_niIngress
@[simp] theorem addFlush_host_linkIngress (b : Bool) (ids : List Nat) : (addFlush b ids s).host.linkIngress = s.host.linkIngress := (noted_addFlush b ids s).host_linkIngress
@[simp] theorem addFlush_host_linkEgress (b : Bool) (ids : List Nat) : (addFlush b ids s).host.linkEgress = s.host.linkEgress := (noted_addFlush b ids s).host_linkEgress
@[simp] theorem addFlush_host_linkErr (b : Bool) (ids : List Nat) : (addFlush b ids s).host.linkErr = s.host.linkErr := (noted_addFlush b ids s).host_linkErr
@[simp] theorem addFlush_host_lastKindNotice (b : Bool) (ids : List Nat) : (addFlush b ids s).host.lastKindNotice = s.host.lastKindNotice := (noted_addFlush b ids s).host_lastKindNotice
@[simp] theorem addFlush_host_fns (b : Bool) (ids : List Nat) : (addFlush b ids s).host.fns = s.host.fns := (noted_addFlush b ids s).host_fns
@[simp] theorem addFlush_host_flights (b : Bool) (ids : List Nat) : (addFlush b ids s).host.flights = s.host.flights := (noted_addFlush b ids s).host_flights
@[simp] theorem addFlush_host_done (b : Bool) (ids : List Nat) : (addFlush b ids s).host.done = s.host.done := (noted_addFlush b ids s).host_done
@[simp] theorem addFlush_get (b : Bool) (ids : List Nat) (j : Nat) (h : noisy j = false) : (addFlush b ids s).get j = s.get j := (noted_addFlush b ids s).obj j h

end

section
variable (s : State)

@[simp] theorem wantFlush_variant  : (wantFlush s).variant = s.variant := (noted_wantFlush s).variant
@[simp] theorem wantFlush_now  : (wantFlush s).now = s.now := (noted_wantFlush s).now
@[simp] theorem wantFlush_free  : (wantFlush s).free = s.free := (noted_wantFlush s).free
@[simp] theorem wantFlush_pending  : (wantFlush s).pending = s.pending := (noted_wantFlush s).pending
@[simp] theorem wantFlush_lat  : (wantFlush s).lat = s.lat := (noted_wantFlush s).lat
@[simp] theorem wantFlush_seq  : (wantFlush s).seq = s.seq := (noted_wantFlush s).seq
@[simp] theorem wantFlush_salt  : (wantFlush s).salt = s.salt := (noted_wantFlush s).salt
@[simp] theorem wantFlush_axes  : (wantFlush s).axes = s.axes := (noted_wantFlush s).axes
@[simp] theorem wantFlush_setpts  : (wantFlush s).setpts = s.setpts := (noted_wantFlush s).setpts
@[simp] theorem wantFlush_chans  : (wantFlush s).chans = s.chans := (noted_wantFlush s).chans
@[simp] theorem wantFlush_dies  : (wantFlush s).dies = s.dies := (noted_wantFlush s).dies
@[simp] theorem wantFlush_direct  : (wantFlush s).direct = s.direct := (noted_wantFlush s).direct
@[simp] theorem wantFlush_wakes  : (wantFlush s).wakes = s.wakes := (noted_wantFlush s).wakes
@[simp] theorem wantFlush_sup  : (wantFlush s).sup = s.sup := (noted_wantFlush s).sup
@[simp] theorem wantFlush_pow  : (wantFlush s).pow = s.pow := (noted_wantFlush s).pow
@[simp] theorem wantFlush_clk  : (wantFlush s).clk = s.clk := (noted_wantFlush s).clk
@[simp] theorem wantFlush_rst  : (wantFlush s).rst = s.rst := (noted_wantFlush s).rst
@[simp] theorem wantFlush_diag  : (wantFlush s).diag = s.diag := (noted_wantFlush s).diag
@[simp] theorem wantFlush_net  : (wantFlush s).net = s.net := (noted_wantFlush s).net
@[simp] theorem wantFlush_gp  : (wantFlush s).gp = s.gp := (noted_wantFlush s).gp
@[simp] theorem wantFlush_host_places  : (wantFlush s).host.places = s.host.places := (noted_wantFlush s).host_places
@[simp] theorem wantFlush_host_gates  : (wantFlush s).host.gates = s.host.gates := (noted_wantFlush s).host_gates
@[simp] theorem wantFlush_host_semas  : (wantFlush s).host.semas = s.host.semas := (noted_wantFlush s).host_semas
@[simp] theorem wantFlush_host_waits  : (wantFlush s).host.waits = s.host.waits := (noted_wantFlush s).host_waits
@[simp] theorem wantFlush_host_rotate  : (wantFlush s).host.rotate = s.host.rotate := (noted_wantFlush s).host_rotate
@[simp] theorem wantFlush_host_nextSession  : (wantFlush s).host.nextSession = s.host.nextSession := (noted_wantFlush s).host_nextSession
@[simp] theorem wantFlush_host_nextFlight  : (wantFlush s).host.nextFlight = s.host.nextFlight := (noted_wantFlush s).host_nextFlight
@[simp] theorem wantFlush_host_bursts  : (wantFlush s).host.bursts = s.host.bursts := (noted_wantFlush s).host_bursts
@[simp] theorem wantFlush_host_niIngress  : (wantFlush s).host.niIngress = s.host.niIngress := (noted_wantFlush s).host_niIngress
@[simp] theorem wantFlush_host_linkIngress  : (wantFlush s).host.linkIngress = s.host.linkIngress := (noted_wantFlush s).host_linkIngress
@[simp] theorem wantFlush_host_linkEgress  : (wantFlush s).host.linkEgress = s.host.linkEgress := (noted_wantFlush s).host_linkEgress
@[simp] theorem wantFlush_host_linkErr  : (wantFlush s).host.linkErr = s.host.linkErr := (noted_wantFlush s).host_linkErr
@[simp] theorem wantFlush_host_lastKindNotice  : (wantFlush s).host.lastKindNotice = s.host.lastKindNotice := (noted_wantFlush s).host_lastKindNotice
@[simp] theorem wantFlush_host_fns  : (wantFlush s).host.fns = s.host.fns := (noted_wantFlush s).host_fns
@[simp] theorem wantFlush_host_flights  : (wantFlush s).host.flights = s.host.flights := (noted_wantFlush s).host_flights
@[simp] theorem wantFlush_host_done  : (wantFlush s).host.done = s.host.done := (noted_wantFlush s).host_done
@[simp] theorem wantFlush_get  (j : Nat) (h : noisy j = false) : (wantFlush s).get j = s.get j := (noted_wantFlush s).obj j h

end

section
variable (s : State)

@[simp] theorem admitEvent_variant (log kind src : Nat) (body : List Byte) : (admitEvent log kind src body s).variant = s.variant := (noted_admitEvent log kind src body s).variant
@[simp] theorem admitEvent_now (log kind src : Nat) (body : List Byte) : (admitEvent log kind src body s).now = s.now := (noted_admitEvent log kind src body s).now
@[simp] theorem admitEvent_free (log kind src : Nat) (body : List Byte) : (admitEvent log kind src body s).free = s.free := (noted_admitEvent log kind src body s).free
@[simp] theorem admitEvent_pending (log kind src : Nat) (body : List Byte) : (admitEvent log kind src body s).pending = s.pending := (noted_admitEvent log kind src body s).pending
@[simp] theorem admitEvent_lat (log kind src : Nat) (body : List Byte) : (admitEvent log kind src body s).lat = s.lat := (noted_admitEvent log kind src body s).lat
@[simp] theorem admitEvent_seq (log kind src : Nat) (body : List Byte) : (admitEvent log kind src body s).seq = s.seq := (noted_admitEvent log kind src body s).seq
@[simp] theorem admitEvent_salt (log kind src : Nat) (body : List Byte) : (admitEvent log kind src body s).salt = s.salt := (noted_admitEvent log kind src body s).salt
@[simp] theorem admitEvent_axes (log kind src : Nat) (body : List Byte) : (admitEvent log kind src body s).axes = s.axes := (noted_admitEvent log kind src body s).axes
@[simp] theorem admitEvent_setpts (log kind src : Nat) (body : List Byte) : (admitEvent log kind src body s).setpts = s.setpts := (noted_admitEvent log kind src body s).setpts
@[simp] theorem admitEvent_chans (log kind src : Nat) (body : List Byte) : (admitEvent log kind src body s).chans = s.chans := (noted_admitEvent log kind src body s).chans
@[simp] theorem admitEvent_dies (log kind src : Nat) (body : List Byte) : (admitEvent log kind src body s).dies = s.dies := (noted_admitEvent log kind src body s).dies
@[simp] theorem admitEvent_direct (log kind src : Nat) (body : List Byte) : (admitEvent log kind src body s).direct = s.direct := (noted_admitEvent log kind src body s).direct
@[simp] theorem admitEvent_wakes (log kind src : Nat) (body : List Byte) : (admitEvent log kind src body s).wakes = s.wakes := (noted_admitEvent log kind src body s).wakes
@[simp] theorem admitEvent_sup (log kind src : Nat) (body : List Byte) : (admitEvent log kind src body s).sup = s.sup := (noted_admitEvent log kind src body s).sup
@[simp] theorem admitEvent_pow (log kind src : Nat) (body : List Byte) : (admitEvent log kind src body s).pow = s.pow := (noted_admitEvent log kind src body s).pow
@[simp] theorem admitEvent_clk (log kind src : Nat) (body : List Byte) : (admitEvent log kind src body s).clk = s.clk := (noted_admitEvent log kind src body s).clk
@[simp] theorem admitEvent_rst (log kind src : Nat) (body : List Byte) : (admitEvent log kind src body s).rst = s.rst := (noted_admitEvent log kind src body s).rst
@[simp] theorem admitEvent_diag (log kind src : Nat) (body : List Byte) : (admitEvent log kind src body s).diag = s.diag := (noted_admitEvent log kind src body s).diag
@[simp] theorem admitEvent_net (log kind src : Nat) (body : List Byte) : (admitEvent log kind src body s).net = s.net := (noted_admitEvent log kind src body s).net
@[simp] theorem admitEvent_gp (log kind src : Nat) (body : List Byte) : (admitEvent log kind src body s).gp = s.gp := (noted_admitEvent log kind src body s).gp
@[simp] theorem admitEvent_host_places (log kind src : Nat) (body : List Byte) : (admitEvent log kind src body s).host.places = s.host.places := (noted_admitEvent log kind src body s).host_places
@[simp] theorem admitEvent_host_gates (log kind src : Nat) (body : List Byte) : (admitEvent log kind src body s).host.gates = s.host.gates := (noted_admitEvent log kind src body s).host_gates
@[simp] theorem admitEvent_host_semas (log kind src : Nat) (body : List Byte) : (admitEvent log kind src body s).host.semas = s.host.semas := (noted_admitEvent log kind src body s).host_semas
@[simp] theorem admitEvent_host_waits (log kind src : Nat) (body : List Byte) : (admitEvent log kind src body s).host.waits = s.host.waits := (noted_admitEvent log kind src body s).host_waits
@[simp] theorem admitEvent_host_rotate (log kind src : Nat) (body : List Byte) : (admitEvent log kind src body s).host.rotate = s.host.rotate := (noted_admitEvent log kind src body s).host_rotate
@[simp] theorem admitEvent_host_nextSession (log kind src : Nat) (body : List Byte) : (admitEvent log kind src body s).host.nextSession = s.host.nextSession := (noted_admitEvent log kind src body s).host_nextSession
@[simp] theorem admitEvent_host_nextFlight (log kind src : Nat) (body : List Byte) : (admitEvent log kind src body s).host.nextFlight = s.host.nextFlight := (noted_admitEvent log kind src body s).host_nextFlight
@[simp] theorem admitEvent_host_bursts (log kind src : Nat) (body : List Byte) : (admitEvent log kind src body s).host.bursts = s.host.bursts := (noted_admitEvent log kind src body s).host_bursts
@[simp] theorem admitEvent_host_niIngress (log kind src : Nat) (body : List Byte) : (admitEvent log kind src body s).host.niIngress = s.host.niIngress := (noted_admitEvent log kind src body s).host_niIngress
@[simp] theorem admitEvent_host_linkIngress (log kind src : Nat) (body : List Byte) : (admitEvent log kind src body s).host.linkIngress = s.host.linkIngress := (noted_admitEvent log kind src body s).host_linkIngress
@[simp] theorem admitEvent_host_linkEgress (log kind src : Nat) (body : List Byte) : (admitEvent log kind src body s).host.linkEgress = s.host.linkEgress := (noted_admitEvent log kind src body s).host_linkEgress
@[simp] theorem admitEvent_host_linkErr (log kind src : Nat) (body : List Byte) : (admitEvent log kind src body s).host.linkErr = s.host.linkErr := (noted_admitEvent log kind src body s).host_linkErr
@[simp] theorem admitEvent_host_lastKindNotice (log kind src : Nat) (body : List Byte) : (admitEvent log kind src body s).host.lastKindNotice = s.host.lastKindNotice := (noted_admitEvent log kind src body s).host_lastKindNotice
@[simp] theorem admitEvent_host_fns (log kind src : Nat) (body : List Byte) : (admitEvent log kind src body s).host.fns = s.host.fns := (noted_admitEvent log kind src body s).host_fns
@[simp] theorem admitEvent_host_flights (log kind src : Nat) (body : List Byte) : (admitEvent log kind src body s).host.flights = s.host.flights := (noted_admitEvent log kind src body s).host_flights
@[simp] theorem admitEvent_host_done (log kind src : Nat) (body : List Byte) : (admitEvent log kind src body s).host.done = s.host.done := (noted_admitEvent log kind src body s).host_done
@[simp] theorem admitEvent_get (log kind src : Nat) (body : List Byte) (j : Nat) (h : noisy j = false) : (admitEvent log kind src body s).get j = s.get j := (noted_admitEvent log kind src body s).obj j h

end

section
variable (s : State)

@[simp] theorem latticeFault_variant (k r c : Nat) : (latticeFault k r c s).variant = s.variant := (noted_latticeFault k r c s).variant
@[simp] theorem latticeFault_now (k r c : Nat) : (latticeFault k r c s).now = s.now := (noted_latticeFault k r c s).now
@[simp] theorem latticeFault_free (k r c : Nat) : (latticeFault k r c s).free = s.free := (noted_latticeFault k r c s).free
@[simp] theorem latticeFault_pending (k r c : Nat) : (latticeFault k r c s).pending = s.pending := (noted_latticeFault k r c s).pending
@[simp] theorem latticeFault_lat (k r c : Nat) : (latticeFault k r c s).lat = s.lat := (noted_latticeFault k r c s).lat
@[simp] theorem latticeFault_seq (k r c : Nat) : (latticeFault k r c s).seq = s.seq := (noted_latticeFault k r c s).seq
@[simp] theorem latticeFault_salt (k r c : Nat) : (latticeFault k r c s).salt = s.salt := (noted_latticeFault k r c s).salt
@[simp] theorem latticeFault_axes (k r c : Nat) : (latticeFault k r c s).axes = s.axes := (noted_latticeFault k r c s).axes
@[simp] theorem latticeFault_setpts (k r c : Nat) : (latticeFault k r c s).setpts = s.setpts := (noted_latticeFault k r c s).setpts
@[simp] theorem latticeFault_chans (k r c : Nat) : (latticeFault k r c s).chans = s.chans := (noted_latticeFault k r c s).chans
@[simp] theorem latticeFault_dies (k r c : Nat) : (latticeFault k r c s).dies = s.dies := (noted_latticeFault k r c s).dies
@[simp] theorem latticeFault_direct (k r c : Nat) : (latticeFault k r c s).direct = s.direct := (noted_latticeFault k r c s).direct
@[simp] theorem latticeFault_wakes (k r c : Nat) : (latticeFault k r c s).wakes = s.wakes := (noted_latticeFault k r c s).wakes
@[simp] theorem latticeFault_sup (k r c : Nat) : (latticeFault k r c s).sup = s.sup := (noted_latticeFault k r c s).sup
@[simp] theorem latticeFault_pow (k r c : Nat) : (latticeFault k r c s).pow = s.pow := (noted_latticeFault k r c s).pow
@[simp] theorem latticeFault_clk (k r c : Nat) : (latticeFault k r c s).clk = s.clk := (noted_latticeFault k r c s).clk
@[simp] theorem latticeFault_rst (k r c : Nat) : (latticeFault k r c s).rst = s.rst := (noted_latticeFault k r c s).rst
@[simp] theorem latticeFault_diag (k r c : Nat) : (latticeFault k r c s).diag = s.diag := (noted_latticeFault k r c s).diag
@[simp] theorem latticeFault_net (k r c : Nat) : (latticeFault k r c s).net = s.net := (noted_latticeFault k r c s).net
@[simp] theorem latticeFault_gp (k r c : Nat) : (latticeFault k r c s).gp = s.gp := (noted_latticeFault k r c s).gp
@[simp] theorem latticeFault_host_places (k r c : Nat) : (latticeFault k r c s).host.places = s.host.places := (noted_latticeFault k r c s).host_places
@[simp] theorem latticeFault_host_gates (k r c : Nat) : (latticeFault k r c s).host.gates = s.host.gates := (noted_latticeFault k r c s).host_gates
@[simp] theorem latticeFault_host_semas (k r c : Nat) : (latticeFault k r c s).host.semas = s.host.semas := (noted_latticeFault k r c s).host_semas
@[simp] theorem latticeFault_host_waits (k r c : Nat) : (latticeFault k r c s).host.waits = s.host.waits := (noted_latticeFault k r c s).host_waits
@[simp] theorem latticeFault_host_rotate (k r c : Nat) : (latticeFault k r c s).host.rotate = s.host.rotate := (noted_latticeFault k r c s).host_rotate
@[simp] theorem latticeFault_host_nextSession (k r c : Nat) : (latticeFault k r c s).host.nextSession = s.host.nextSession := (noted_latticeFault k r c s).host_nextSession
@[simp] theorem latticeFault_host_nextFlight (k r c : Nat) : (latticeFault k r c s).host.nextFlight = s.host.nextFlight := (noted_latticeFault k r c s).host_nextFlight
@[simp] theorem latticeFault_host_bursts (k r c : Nat) : (latticeFault k r c s).host.bursts = s.host.bursts := (noted_latticeFault k r c s).host_bursts
@[simp] theorem latticeFault_host_niIngress (k r c : Nat) : (latticeFault k r c s).host.niIngress = s.host.niIngress := (noted_latticeFault k r c s).host_niIngress
@[simp] theorem latticeFault_host_linkIngress (k r c : Nat) : (latticeFault k r c s).host.linkIngress = s.host.linkIngress := (noted_latticeFault k r c s).host_linkIngress
@[simp] theorem latticeFault_host_linkEgress (k r c : Nat) : (latticeFault k r c s).host.linkEgress = s.host.linkEgress := (noted_latticeFault k r c s).host_linkEgress
@[simp] theorem latticeFault_host_linkErr (k r c : Nat) : (latticeFault k r c s).host.linkErr = s.host.linkErr := (noted_latticeFault k r c s).host_linkErr
@[simp] theorem latticeFault_host_lastKindNotice (k r c : Nat) : (latticeFault k r c s).host.lastKindNotice = s.host.lastKindNotice := (noted_latticeFault k r c s).host_lastKindNotice
@[simp] theorem latticeFault_host_fns (k r c : Nat) : (latticeFault k r c s).host.fns = s.host.fns := (noted_latticeFault k r c s).host_fns
@[simp] theorem latticeFault_host_flights (k r c : Nat) : (latticeFault k r c s).host.flights = s.host.flights := (noted_latticeFault k r c s).host_flights
@[simp] theorem latticeFault_host_done (k r c : Nat) : (latticeFault k r c s).host.done = s.host.done := (noted_latticeFault k r c s).host_done
@[simp] theorem latticeFault_get (k r c : Nat) (j : Nat) (h : noisy j = false) : (latticeFault k r c s).get j = s.get j := (noted_latticeFault k r c s).obj j h

end

section
variable (s : State)

@[simp] theorem channelFault_variant (c r v : Nat) : (channelFault c r v s).variant = s.variant := (noted_channelFault c r v s).variant
@[simp] theorem channelFault_now (c r v : Nat) : (channelFault c r v s).now = s.now := (noted_channelFault c r v s).now
@[simp] theorem channelFault_free (c r v : Nat) : (channelFault c r v s).free = s.free := (noted_channelFault c r v s).free
@[simp] theorem channelFault_pending (c r v : Nat) : (channelFault c r v s).pending = s.pending := (noted_channelFault c r v s).pending
@[simp] theorem channelFault_lat (c r v : Nat) : (channelFault c r v s).lat = s.lat := (noted_channelFault c r v s).lat
@[simp] theorem channelFault_seq (c r v : Nat) : (channelFault c r v s).seq = s.seq := (noted_channelFault c r v s).seq
@[simp] theorem channelFault_salt (c r v : Nat) : (channelFault c r v s).salt = s.salt := (noted_channelFault c r v s).salt
@[simp] theorem channelFault_axes (c r v : Nat) : (channelFault c r v s).axes = s.axes := (noted_channelFault c r v s).axes
@[simp] theorem channelFault_setpts (c r v : Nat) : (channelFault c r v s).setpts = s.setpts := (noted_channelFault c r v s).setpts
@[simp] theorem channelFault_chans (c r v : Nat) : (channelFault c r v s).chans = s.chans := (noted_channelFault c r v s).chans
@[simp] theorem channelFault_dies (c r v : Nat) : (channelFault c r v s).dies = s.dies := (noted_channelFault c r v s).dies
@[simp] theorem channelFault_direct (c r v : Nat) : (channelFault c r v s).direct = s.direct := (noted_channelFault c r v s).direct
@[simp] theorem channelFault_wakes (c r v : Nat) : (channelFault c r v s).wakes = s.wakes := (noted_channelFault c r v s).wakes
@[simp] theorem channelFault_sup (c r v : Nat) : (channelFault c r v s).sup = s.sup := (noted_channelFault c r v s).sup
@[simp] theorem channelFault_pow (c r v : Nat) : (channelFault c r v s).pow = s.pow := (noted_channelFault c r v s).pow
@[simp] theorem channelFault_clk (c r v : Nat) : (channelFault c r v s).clk = s.clk := (noted_channelFault c r v s).clk
@[simp] theorem channelFault_rst (c r v : Nat) : (channelFault c r v s).rst = s.rst := (noted_channelFault c r v s).rst
@[simp] theorem channelFault_diag (c r v : Nat) : (channelFault c r v s).diag = s.diag := (noted_channelFault c r v s).diag
@[simp] theorem channelFault_net (c r v : Nat) : (channelFault c r v s).net = s.net := (noted_channelFault c r v s).net
@[simp] theorem channelFault_gp (c r v : Nat) : (channelFault c r v s).gp = s.gp := (noted_channelFault c r v s).gp
@[simp] theorem channelFault_host_places (c r v : Nat) : (channelFault c r v s).host.places = s.host.places := (noted_channelFault c r v s).host_places
@[simp] theorem channelFault_host_gates (c r v : Nat) : (channelFault c r v s).host.gates = s.host.gates := (noted_channelFault c r v s).host_gates
@[simp] theorem channelFault_host_semas (c r v : Nat) : (channelFault c r v s).host.semas = s.host.semas := (noted_channelFault c r v s).host_semas
@[simp] theorem channelFault_host_waits (c r v : Nat) : (channelFault c r v s).host.waits = s.host.waits := (noted_channelFault c r v s).host_waits
@[simp] theorem channelFault_host_rotate (c r v : Nat) : (channelFault c r v s).host.rotate = s.host.rotate := (noted_channelFault c r v s).host_rotate
@[simp] theorem channelFault_host_nextSession (c r v : Nat) : (channelFault c r v s).host.nextSession = s.host.nextSession := (noted_channelFault c r v s).host_nextSession
@[simp] theorem channelFault_host_nextFlight (c r v : Nat) : (channelFault c r v s).host.nextFlight = s.host.nextFlight := (noted_channelFault c r v s).host_nextFlight
@[simp] theorem channelFault_host_bursts (c r v : Nat) : (channelFault c r v s).host.bursts = s.host.bursts := (noted_channelFault c r v s).host_bursts
@[simp] theorem channelFault_host_niIngress (c r v : Nat) : (channelFault c r v s).host.niIngress = s.host.niIngress := (noted_channelFault c r v s).host_niIngress
@[simp] theorem channelFault_host_linkIngress (c r v : Nat) : (channelFault c r v s).host.linkIngress = s.host.linkIngress := (noted_channelFault c r v s).host_linkIngress
@[simp] theorem channelFault_host_linkEgress (c r v : Nat) : (channelFault c r v s).host.linkEgress = s.host.linkEgress := (noted_channelFault c r v s).host_linkEgress
@[simp] theorem channelFault_host_linkErr (c r v : Nat) : (channelFault c r v s).host.linkErr = s.host.linkErr := (noted_channelFault c r v s).host_linkErr
@[simp] theorem channelFault_host_lastKindNotice (c r v : Nat) : (channelFault c r v s).host.lastKindNotice = s.host.lastKindNotice := (noted_channelFault c r v s).host_lastKindNotice
@[simp] theorem channelFault_host_fns (c r v : Nat) : (channelFault c r v s).host.fns = s.host.fns := (noted_channelFault c r v s).host_fns
@[simp] theorem channelFault_host_flights (c r v : Nat) : (channelFault c r v s).host.flights = s.host.flights := (noted_channelFault c r v s).host_flights
@[simp] theorem channelFault_host_done (c r v : Nat) : (channelFault c r v s).host.done = s.host.done := (noted_channelFault c r v s).host_done
@[simp] theorem channelFault_get (c r v : Nat) (j : Nat) (h : noisy j = false) : (channelFault c r v s).get j = s.get j := (noted_channelFault c r v s).obj j h

end

section
variable (s : State)

@[simp] theorem axisFaultRecord_variant (a r : Nat) : (axisFaultRecord a r s).variant = s.variant := (noted_axisFaultRecord a r s).variant
@[simp] theorem axisFaultRecord_now (a r : Nat) : (axisFaultRecord a r s).now = s.now := (noted_axisFaultRecord a r s).now
@[simp] theorem axisFaultRecord_free (a r : Nat) : (axisFaultRecord a r s).free = s.free := (noted_axisFaultRecord a r s).free
@[simp] theorem axisFaultRecord_pending (a r : Nat) : (axisFaultRecord a r s).pending = s.pending := (noted_axisFaultRecord a r s).pending
@[simp] theorem axisFaultRecord_lat (a r : Nat) : (axisFaultRecord a r s).lat = s.lat := (noted_axisFaultRecord a r s).lat
@[simp] theorem axisFaultRecord_seq (a r : Nat) : (axisFaultRecord a r s).seq = s.seq := (noted_axisFaultRecord a r s).seq
@[simp] theorem axisFaultRecord_salt (a r : Nat) : (axisFaultRecord a r s).salt = s.salt := (noted_axisFaultRecord a r s).salt
@[simp] theorem axisFaultRecord_axes (a r : Nat) : (axisFaultRecord a r s).axes = s.axes := (noted_axisFaultRecord a r s).axes
@[simp] theorem axisFaultRecord_setpts (a r : Nat) : (axisFaultRecord a r s).setpts = s.setpts := (noted_axisFaultRecord a r s).setpts
@[simp] theorem axisFaultRecord_chans (a r : Nat) : (axisFaultRecord a r s).chans = s.chans := (noted_axisFaultRecord a r s).chans
@[simp] theorem axisFaultRecord_dies (a r : Nat) : (axisFaultRecord a r s).dies = s.dies := (noted_axisFaultRecord a r s).dies
@[simp] theorem axisFaultRecord_direct (a r : Nat) : (axisFaultRecord a r s).direct = s.direct := (noted_axisFaultRecord a r s).direct
@[simp] theorem axisFaultRecord_wakes (a r : Nat) : (axisFaultRecord a r s).wakes = s.wakes := (noted_axisFaultRecord a r s).wakes
@[simp] theorem axisFaultRecord_sup (a r : Nat) : (axisFaultRecord a r s).sup = s.sup := (noted_axisFaultRecord a r s).sup
@[simp] theorem axisFaultRecord_pow (a r : Nat) : (axisFaultRecord a r s).pow = s.pow := (noted_axisFaultRecord a r s).pow
@[simp] theorem axisFaultRecord_clk (a r : Nat) : (axisFaultRecord a r s).clk = s.clk := (noted_axisFaultRecord a r s).clk
@[simp] theorem axisFaultRecord_rst (a r : Nat) : (axisFaultRecord a r s).rst = s.rst := (noted_axisFaultRecord a r s).rst
@[simp] theorem axisFaultRecord_diag (a r : Nat) : (axisFaultRecord a r s).diag = s.diag := (noted_axisFaultRecord a r s).diag
@[simp] theorem axisFaultRecord_net (a r : Nat) : (axisFaultRecord a r s).net = s.net := (noted_axisFaultRecord a r s).net
@[simp] theorem axisFaultRecord_gp (a r : Nat) : (axisFaultRecord a r s).gp = s.gp := (noted_axisFaultRecord a r s).gp
@[simp] theorem axisFaultRecord_host_places (a r : Nat) : (axisFaultRecord a r s).host.places = s.host.places := (noted_axisFaultRecord a r s).host_places
@[simp] theorem axisFaultRecord_host_gates (a r : Nat) : (axisFaultRecord a r s).host.gates = s.host.gates := (noted_axisFaultRecord a r s).host_gates
@[simp] theorem axisFaultRecord_host_semas (a r : Nat) : (axisFaultRecord a r s).host.semas = s.host.semas := (noted_axisFaultRecord a r s).host_semas
@[simp] theorem axisFaultRecord_host_waits (a r : Nat) : (axisFaultRecord a r s).host.waits = s.host.waits := (noted_axisFaultRecord a r s).host_waits
@[simp] theorem axisFaultRecord_host_rotate (a r : Nat) : (axisFaultRecord a r s).host.rotate = s.host.rotate := (noted_axisFaultRecord a r s).host_rotate
@[simp] theorem axisFaultRecord_host_nextSession (a r : Nat) : (axisFaultRecord a r s).host.nextSession = s.host.nextSession := (noted_axisFaultRecord a r s).host_nextSession
@[simp] theorem axisFaultRecord_host_nextFlight (a r : Nat) : (axisFaultRecord a r s).host.nextFlight = s.host.nextFlight := (noted_axisFaultRecord a r s).host_nextFlight
@[simp] theorem axisFaultRecord_host_bursts (a r : Nat) : (axisFaultRecord a r s).host.bursts = s.host.bursts := (noted_axisFaultRecord a r s).host_bursts
@[simp] theorem axisFaultRecord_host_niIngress (a r : Nat) : (axisFaultRecord a r s).host.niIngress = s.host.niIngress := (noted_axisFaultRecord a r s).host_niIngress
@[simp] theorem axisFaultRecord_host_linkIngress (a r : Nat) : (axisFaultRecord a r s).host.linkIngress = s.host.linkIngress := (noted_axisFaultRecord a r s).host_linkIngress
@[simp] theorem axisFaultRecord_host_linkEgress (a r : Nat) : (axisFaultRecord a r s).host.linkEgress = s.host.linkEgress := (noted_axisFaultRecord a r s).host_linkEgress
@[simp] theorem axisFaultRecord_host_linkErr (a r : Nat) : (axisFaultRecord a r s).host.linkErr = s.host.linkErr := (noted_axisFaultRecord a r s).host_linkErr
@[simp] theorem axisFaultRecord_host_lastKindNotice (a r : Nat) : (axisFaultRecord a r s).host.lastKindNotice = s.host.lastKindNotice := (noted_axisFaultRecord a r s).host_lastKindNotice
@[simp] theorem axisFaultRecord_host_fns (a r : Nat) : (axisFaultRecord a r s).host.fns = s.host.fns := (noted_axisFaultRecord a r s).host_fns
@[simp] theorem axisFaultRecord_host_flights (a r : Nat) : (axisFaultRecord a r s).host.flights = s.host.flights := (noted_axisFaultRecord a r s).host_flights
@[simp] theorem axisFaultRecord_host_done (a r : Nat) : (axisFaultRecord a r s).host.done = s.host.done := (noted_axisFaultRecord a r s).host_done
@[simp] theorem axisFaultRecord_get (a r : Nat) (j : Nat) (h : noisy j = false) : (axisFaultRecord a r s).get j = s.get j := (noted_axisFaultRecord a r s).obj j h

end

section
variable (s : State)

@[simp] theorem supplyFault_variant (k r c v : Nat) : (supplyFault k r c v s).variant = s.variant := (noted_supplyFault k r c v s).variant
@[simp] theorem supplyFault_now (k r c v : Nat) : (supplyFault k r c v s).now = s.now := (noted_supplyFault k r c v s).now
@[simp] theorem supplyFault_free (k r c v : Nat) : (supplyFault k r c v s).free = s.free := (noted_supplyFault k r c v s).free
@[simp] theorem supplyFault_pending (k r c v : Nat) : (supplyFault k r c v s).pending = s.pending := (noted_supplyFault k r c v s).pending
@[simp] theorem supplyFault_lat (k r c v : Nat) : (supplyFault k r c v s).lat = s.lat := (noted_supplyFault k r c v s).lat
@[simp] theorem supplyFault_seq (k r c v : Nat) : (supplyFault k r c v s).seq = s.seq := (noted_supplyFault k r c v s).seq
@[simp] theorem supplyFault_salt (k r c v : Nat) : (supplyFault k r c v s).salt = s.salt := (noted_supplyFault k r c v s).salt
@[simp] theorem supplyFault_axes (k r c v : Nat) : (supplyFault k r c v s).axes = s.axes := (noted_supplyFault k r c v s).axes
@[simp] theorem supplyFault_setpts (k r c v : Nat) : (supplyFault k r c v s).setpts = s.setpts := (noted_supplyFault k r c v s).setpts
@[simp] theorem supplyFault_chans (k r c v : Nat) : (supplyFault k r c v s).chans = s.chans := (noted_supplyFault k r c v s).chans
@[simp] theorem supplyFault_dies (k r c v : Nat) : (supplyFault k r c v s).dies = s.dies := (noted_supplyFault k r c v s).dies
@[simp] theorem supplyFault_direct (k r c v : Nat) : (supplyFault k r c v s).direct = s.direct := (noted_supplyFault k r c v s).direct
@[simp] theorem supplyFault_wakes (k r c v : Nat) : (supplyFault k r c v s).wakes = s.wakes := (noted_supplyFault k r c v s).wakes
@[simp] theorem supplyFault_sup (k r c v : Nat) : (supplyFault k r c v s).sup = s.sup := (noted_supplyFault k r c v s).sup
@[simp] theorem supplyFault_pow (k r c v : Nat) : (supplyFault k r c v s).pow = s.pow := (noted_supplyFault k r c v s).pow
@[simp] theorem supplyFault_clk (k r c v : Nat) : (supplyFault k r c v s).clk = s.clk := (noted_supplyFault k r c v s).clk
@[simp] theorem supplyFault_rst (k r c v : Nat) : (supplyFault k r c v s).rst = s.rst := (noted_supplyFault k r c v s).rst
@[simp] theorem supplyFault_diag (k r c v : Nat) : (supplyFault k r c v s).diag = s.diag := (noted_supplyFault k r c v s).diag
@[simp] theorem supplyFault_net (k r c v : Nat) : (supplyFault k r c v s).net = s.net := (noted_supplyFault k r c v s).net
@[simp] theorem supplyFault_gp (k r c v : Nat) : (supplyFault k r c v s).gp = s.gp := (noted_supplyFault k r c v s).gp
@[simp] theorem supplyFault_host_places (k r c v : Nat) : (supplyFault k r c v s).host.places = s.host.places := (noted_supplyFault k r c v s).host_places
@[simp] theorem supplyFault_host_gates (k r c v : Nat) : (supplyFault k r c v s).host.gates = s.host.gates := (noted_supplyFault k r c v s).host_gates
@[simp] theorem supplyFault_host_semas (k r c v : Nat) : (supplyFault k r c v s).host.semas = s.host.semas := (noted_supplyFault k r c v s).host_semas
@[simp] theorem supplyFault_host_waits (k r c v : Nat) : (supplyFault k r c v s).host.waits = s.host.waits := (noted_supplyFault k r c v s).host_waits
@[simp] theorem supplyFault_host_rotate (k r c v : Nat) : (supplyFault k r c v s).host.rotate = s.host.rotate := (noted_supplyFault k r c v s).host_rotate
@[simp] theorem supplyFault_host_nextSession (k r c v : Nat) : (supplyFault k r c v s).host.nextSession = s.host.nextSession := (noted_supplyFault k r c v s).host_nextSession
@[simp] theorem supplyFault_host_nextFlight (k r c v : Nat) : (supplyFault k r c v s).host.nextFlight = s.host.nextFlight := (noted_supplyFault k r c v s).host_nextFlight
@[simp] theorem supplyFault_host_bursts (k r c v : Nat) : (supplyFault k r c v s).host.bursts = s.host.bursts := (noted_supplyFault k r c v s).host_bursts
@[simp] theorem supplyFault_host_niIngress (k r c v : Nat) : (supplyFault k r c v s).host.niIngress = s.host.niIngress := (noted_supplyFault k r c v s).host_niIngress
@[simp] theorem supplyFault_host_linkIngress (k r c v : Nat) : (supplyFault k r c v s).host.linkIngress = s.host.linkIngress := (noted_supplyFault k r c v s).host_linkIngress
@[simp] theorem supplyFault_host_linkEgress (k r c v : Nat) : (supplyFault k r c v s).host.linkEgress = s.host.linkEgress := (noted_supplyFault k r c v s).host_linkEgress
@[simp] theorem supplyFault_host_linkErr (k r c v : Nat) : (supplyFault k r c v s).host.linkErr = s.host.linkErr := (noted_supplyFault k r c v s).host_linkErr
@[simp] theorem supplyFault_host_lastKindNotice (k r c v : Nat) : (supplyFault k r c v s).host.lastKindNotice = s.host.lastKindNotice := (noted_supplyFault k r c v s).host_lastKindNotice
@[simp] theorem supplyFault_host_fns (k r c v : Nat) : (supplyFault k r c v s).host.fns = s.host.fns := (noted_supplyFault k r c v s).host_fns
@[simp] theorem supplyFault_host_flights (k r c v : Nat) : (supplyFault k r c v s).host.flights = s.host.flights := (noted_supplyFault k r c v s).host_flights
@[simp] theorem supplyFault_host_done (k r c v : Nat) : (supplyFault k r c v s).host.done = s.host.done := (noted_supplyFault k r c v s).host_done
@[simp] theorem supplyFault_get (k r c v : Nat) (j : Nat) (h : noisy j = false) : (supplyFault k r c v s).get j = s.get j := (noted_supplyFault k r c v s).obj j h

end

section
variable (s : State)

@[simp] theorem memoryFault_variant (k c v cls num : Nat) : (memoryFault k c v cls num s).variant = s.variant := (noted_memoryFault k c v cls num s).variant
@[simp] theorem memoryFault_now (k c v cls num : Nat) : (memoryFault k c v cls num s).now = s.now := (noted_memoryFault k c v cls num s).now
@[simp] theorem memoryFault_free (k c v cls num : Nat) : (memoryFault k c v cls num s).free = s.free := (noted_memoryFault k c v cls num s).free
@[simp] theorem memoryFault_pending (k c v cls num : Nat) : (memoryFault k c v cls num s).pending = s.pending := (noted_memoryFault k c v cls num s).pending
@[simp] theorem memoryFault_lat (k c v cls num : Nat) : (memoryFault k c v cls num s).lat = s.lat := (noted_memoryFault k c v cls num s).lat
@[simp] theorem memoryFault_seq (k c v cls num : Nat) : (memoryFault k c v cls num s).seq = s.seq := (noted_memoryFault k c v cls num s).seq
@[simp] theorem memoryFault_salt (k c v cls num : Nat) : (memoryFault k c v cls num s).salt = s.salt := (noted_memoryFault k c v cls num s).salt
@[simp] theorem memoryFault_axes (k c v cls num : Nat) : (memoryFault k c v cls num s).axes = s.axes := (noted_memoryFault k c v cls num s).axes
@[simp] theorem memoryFault_setpts (k c v cls num : Nat) : (memoryFault k c v cls num s).setpts = s.setpts := (noted_memoryFault k c v cls num s).setpts
@[simp] theorem memoryFault_chans (k c v cls num : Nat) : (memoryFault k c v cls num s).chans = s.chans := (noted_memoryFault k c v cls num s).chans
@[simp] theorem memoryFault_dies (k c v cls num : Nat) : (memoryFault k c v cls num s).dies = s.dies := (noted_memoryFault k c v cls num s).dies
@[simp] theorem memoryFault_direct (k c v cls num : Nat) : (memoryFault k c v cls num s).direct = s.direct := (noted_memoryFault k c v cls num s).direct
@[simp] theorem memoryFault_wakes (k c v cls num : Nat) : (memoryFault k c v cls num s).wakes = s.wakes := (noted_memoryFault k c v cls num s).wakes
@[simp] theorem memoryFault_sup (k c v cls num : Nat) : (memoryFault k c v cls num s).sup = s.sup := (noted_memoryFault k c v cls num s).sup
@[simp] theorem memoryFault_pow (k c v cls num : Nat) : (memoryFault k c v cls num s).pow = s.pow := (noted_memoryFault k c v cls num s).pow
@[simp] theorem memoryFault_clk (k c v cls num : Nat) : (memoryFault k c v cls num s).clk = s.clk := (noted_memoryFault k c v cls num s).clk
@[simp] theorem memoryFault_rst (k c v cls num : Nat) : (memoryFault k c v cls num s).rst = s.rst := (noted_memoryFault k c v cls num s).rst
@[simp] theorem memoryFault_diag (k c v cls num : Nat) : (memoryFault k c v cls num s).diag = s.diag := (noted_memoryFault k c v cls num s).diag
@[simp] theorem memoryFault_net (k c v cls num : Nat) : (memoryFault k c v cls num s).net = s.net := (noted_memoryFault k c v cls num s).net
@[simp] theorem memoryFault_gp (k c v cls num : Nat) : (memoryFault k c v cls num s).gp = s.gp := (noted_memoryFault k c v cls num s).gp
@[simp] theorem memoryFault_host_places (k c v cls num : Nat) : (memoryFault k c v cls num s).host.places = s.host.places := (noted_memoryFault k c v cls num s).host_places
@[simp] theorem memoryFault_host_gates (k c v cls num : Nat) : (memoryFault k c v cls num s).host.gates = s.host.gates := (noted_memoryFault k c v cls num s).host_gates
@[simp] theorem memoryFault_host_semas (k c v cls num : Nat) : (memoryFault k c v cls num s).host.semas = s.host.semas := (noted_memoryFault k c v cls num s).host_semas
@[simp] theorem memoryFault_host_waits (k c v cls num : Nat) : (memoryFault k c v cls num s).host.waits = s.host.waits := (noted_memoryFault k c v cls num s).host_waits
@[simp] theorem memoryFault_host_rotate (k c v cls num : Nat) : (memoryFault k c v cls num s).host.rotate = s.host.rotate := (noted_memoryFault k c v cls num s).host_rotate
@[simp] theorem memoryFault_host_nextSession (k c v cls num : Nat) : (memoryFault k c v cls num s).host.nextSession = s.host.nextSession := (noted_memoryFault k c v cls num s).host_nextSession
@[simp] theorem memoryFault_host_nextFlight (k c v cls num : Nat) : (memoryFault k c v cls num s).host.nextFlight = s.host.nextFlight := (noted_memoryFault k c v cls num s).host_nextFlight
@[simp] theorem memoryFault_host_bursts (k c v cls num : Nat) : (memoryFault k c v cls num s).host.bursts = s.host.bursts := (noted_memoryFault k c v cls num s).host_bursts
@[simp] theorem memoryFault_host_niIngress (k c v cls num : Nat) : (memoryFault k c v cls num s).host.niIngress = s.host.niIngress := (noted_memoryFault k c v cls num s).host_niIngress
@[simp] theorem memoryFault_host_linkIngress (k c v cls num : Nat) : (memoryFault k c v cls num s).host.linkIngress = s.host.linkIngress := (noted_memoryFault k c v cls num s).host_linkIngress
@[simp] theorem memoryFault_host_linkEgress (k c v cls num : Nat) : (memoryFault k c v cls num s).host.linkEgress = s.host.linkEgress := (noted_memoryFault k c v cls num s).host_linkEgress
@[simp] theorem memoryFault_host_linkErr (k c v cls num : Nat) : (memoryFault k c v cls num s).host.linkErr = s.host.linkErr := (noted_memoryFault k c v cls num s).host_linkErr
@[simp] theorem memoryFault_host_lastKindNotice (k c v cls num : Nat) : (memoryFault k c v cls num s).host.lastKindNotice = s.host.lastKindNotice := (noted_memoryFault k c v cls num s).host_lastKindNotice
@[simp] theorem memoryFault_host_fns (k c v cls num : Nat) : (memoryFault k c v cls num s).host.fns = s.host.fns := (noted_memoryFault k c v cls num s).host_fns
@[simp] theorem memoryFault_host_flights (k c v cls num : Nat) : (memoryFault k c v cls num s).host.flights = s.host.flights := (noted_memoryFault k c v cls num s).host_flights
@[simp] theorem memoryFault_host_done (k c v cls num : Nat) : (memoryFault k c v cls num s).host.done = s.host.done := (noted_memoryFault k c v cls num s).host_done
@[simp] theorem memoryFault_get (k c v cls num : Nat) (j : Nat) (h : noisy j = false) : (memoryFault k c v cls num s).get j = s.get j := (noted_memoryFault k c v cls num s).obj j h

end

section
variable (s : State)

@[simp] theorem faultRecord_variant (kind src k r c v w cls num : Nat) : (faultRecord kind src k r c v w cls num s).variant = s.variant := (noted_faultRecord kind src k r c v w cls num s).variant
@[simp] theorem faultRecord_now (kind src k r c v w cls num : Nat) : (faultRecord kind src k r c v w cls num s).now = s.now := (noted_faultRecord kind src k r c v w cls num s).now
@[simp] theorem faultRecord_free (kind src k r c v w cls num : Nat) : (faultRecord kind src k r c v w cls num s).free = s.free := (noted_faultRecord kind src k r c v w cls num s).free
@[simp] theorem faultRecord_pending (kind src k r c v w cls num : Nat) : (faultRecord kind src k r c v w cls num s).pending = s.pending := (noted_faultRecord kind src k r c v w cls num s).pending
@[simp] theorem faultRecord_lat (kind src k r c v w cls num : Nat) : (faultRecord kind src k r c v w cls num s).lat = s.lat := (noted_faultRecord kind src k r c v w cls num s).lat
@[simp] theorem faultRecord_seq (kind src k r c v w cls num : Nat) : (faultRecord kind src k r c v w cls num s).seq = s.seq := (noted_faultRecord kind src k r c v w cls num s).seq
@[simp] theorem faultRecord_salt (kind src k r c v w cls num : Nat) : (faultRecord kind src k r c v w cls num s).salt = s.salt := (noted_faultRecord kind src k r c v w cls num s).salt
@[simp] theorem faultRecord_axes (kind src k r c v w cls num : Nat) : (faultRecord kind src k r c v w cls num s).axes = s.axes := (noted_faultRecord kind src k r c v w cls num s).axes
@[simp] theorem faultRecord_setpts (kind src k r c v w cls num : Nat) : (faultRecord kind src k r c v w cls num s).setpts = s.setpts := (noted_faultRecord kind src k r c v w cls num s).setpts
@[simp] theorem faultRecord_chans (kind src k r c v w cls num : Nat) : (faultRecord kind src k r c v w cls num s).chans = s.chans := (noted_faultRecord kind src k r c v w cls num s).chans
@[simp] theorem faultRecord_dies (kind src k r c v w cls num : Nat) : (faultRecord kind src k r c v w cls num s).dies = s.dies := (noted_faultRecord kind src k r c v w cls num s).dies
@[simp] theorem faultRecord_direct (kind src k r c v w cls num : Nat) : (faultRecord kind src k r c v w cls num s).direct = s.direct := (noted_faultRecord kind src k r c v w cls num s).direct
@[simp] theorem faultRecord_wakes (kind src k r c v w cls num : Nat) : (faultRecord kind src k r c v w cls num s).wakes = s.wakes := (noted_faultRecord kind src k r c v w cls num s).wakes
@[simp] theorem faultRecord_sup (kind src k r c v w cls num : Nat) : (faultRecord kind src k r c v w cls num s).sup = s.sup := (noted_faultRecord kind src k r c v w cls num s).sup
@[simp] theorem faultRecord_pow (kind src k r c v w cls num : Nat) : (faultRecord kind src k r c v w cls num s).pow = s.pow := (noted_faultRecord kind src k r c v w cls num s).pow
@[simp] theorem faultRecord_clk (kind src k r c v w cls num : Nat) : (faultRecord kind src k r c v w cls num s).clk = s.clk := (noted_faultRecord kind src k r c v w cls num s).clk
@[simp] theorem faultRecord_rst (kind src k r c v w cls num : Nat) : (faultRecord kind src k r c v w cls num s).rst = s.rst := (noted_faultRecord kind src k r c v w cls num s).rst
@[simp] theorem faultRecord_diag (kind src k r c v w cls num : Nat) : (faultRecord kind src k r c v w cls num s).diag = s.diag := (noted_faultRecord kind src k r c v w cls num s).diag
@[simp] theorem faultRecord_net (kind src k r c v w cls num : Nat) : (faultRecord kind src k r c v w cls num s).net = s.net := (noted_faultRecord kind src k r c v w cls num s).net
@[simp] theorem faultRecord_gp (kind src k r c v w cls num : Nat) : (faultRecord kind src k r c v w cls num s).gp = s.gp := (noted_faultRecord kind src k r c v w cls num s).gp
@[simp] theorem faultRecord_host_places (kind src k r c v w cls num : Nat) : (faultRecord kind src k r c v w cls num s).host.places = s.host.places := (noted_faultRecord kind src k r c v w cls num s).host_places
@[simp] theorem faultRecord_host_gates (kind src k r c v w cls num : Nat) : (faultRecord kind src k r c v w cls num s).host.gates = s.host.gates := (noted_faultRecord kind src k r c v w cls num s).host_gates
@[simp] theorem faultRecord_host_semas (kind src k r c v w cls num : Nat) : (faultRecord kind src k r c v w cls num s).host.semas = s.host.semas := (noted_faultRecord kind src k r c v w cls num s).host_semas
@[simp] theorem faultRecord_host_waits (kind src k r c v w cls num : Nat) : (faultRecord kind src k r c v w cls num s).host.waits = s.host.waits := (noted_faultRecord kind src k r c v w cls num s).host_waits
@[simp] theorem faultRecord_host_rotate (kind src k r c v w cls num : Nat) : (faultRecord kind src k r c v w cls num s).host.rotate = s.host.rotate := (noted_faultRecord kind src k r c v w cls num s).host_rotate
@[simp] theorem faultRecord_host_nextSession (kind src k r c v w cls num : Nat) : (faultRecord kind src k r c v w cls num s).host.nextSession = s.host.nextSession := (noted_faultRecord kind src k r c v w cls num s).host_nextSession
@[simp] theorem faultRecord_host_nextFlight (kind src k r c v w cls num : Nat) : (faultRecord kind src k r c v w cls num s).host.nextFlight = s.host.nextFlight := (noted_faultRecord kind src k r c v w cls num s).host_nextFlight
@[simp] theorem faultRecord_host_bursts (kind src k r c v w cls num : Nat) : (faultRecord kind src k r c v w cls num s).host.bursts = s.host.bursts := (noted_faultRecord kind src k r c v w cls num s).host_bursts
@[simp] theorem faultRecord_host_niIngress (kind src k r c v w cls num : Nat) : (faultRecord kind src k r c v w cls num s).host.niIngress = s.host.niIngress := (noted_faultRecord kind src k r c v w cls num s).host_niIngress
@[simp] theorem faultRecord_host_linkIngress (kind src k r c v w cls num : Nat) : (faultRecord kind src k r c v w cls num s).host.linkIngress = s.host.linkIngress := (noted_faultRecord kind src k r c v w cls num s).host_linkIngress
@[simp] theorem faultRecord_host_linkEgress (kind src k r c v w cls num : Nat) : (faultRecord kind src k r c v w cls num s).host.linkEgress = s.host.linkEgress := (noted_faultRecord kind src k r c v w cls num s).host_linkEgress
@[simp] theorem faultRecord_host_linkErr (kind src k r c v w cls num : Nat) : (faultRecord kind src k r c v w cls num s).host.linkErr = s.host.linkErr := (noted_faultRecord kind src k r c v w cls num s).host_linkErr
@[simp] theorem faultRecord_host_lastKindNotice (kind src k r c v w cls num : Nat) : (faultRecord kind src k r c v w cls num s).host.lastKindNotice = s.host.lastKindNotice := (noted_faultRecord kind src k r c v w cls num s).host_lastKindNotice
@[simp] theorem faultRecord_host_fns (kind src k r c v w cls num : Nat) : (faultRecord kind src k r c v w cls num s).host.fns = s.host.fns := (noted_faultRecord kind src k r c v w cls num s).host_fns
@[simp] theorem faultRecord_host_flights (kind src k r c v w cls num : Nat) : (faultRecord kind src k r c v w cls num s).host.flights = s.host.flights := (noted_faultRecord kind src k r c v w cls num s).host_flights
@[simp] theorem faultRecord_host_done (kind src k r c v w cls num : Nat) : (faultRecord kind src k r c v w cls num s).host.done = s.host.done := (noted_faultRecord kind src k r c v w cls num s).host_done
@[simp] theorem faultRecord_get (kind src k r c v w cls num : Nat) (j : Nat) (h : noisy j = false) : (faultRecord kind src k r c v w cls num s).get j = s.get j := (noted_faultRecord kind src k r c v w cls num s).obj j h

end

section
variable (s : State)

@[simp] theorem histoCount_variant (n : Nat) (x : Int) : (histoCount n x s).variant = s.variant := (noted_histoCount n x s).variant
@[simp] theorem histoCount_now (n : Nat) (x : Int) : (histoCount n x s).now = s.now := (noted_histoCount n x s).now
@[simp] theorem histoCount_free (n : Nat) (x : Int) : (histoCount n x s).free = s.free := (noted_histoCount n x s).free
@[simp] theorem histoCount_pending (n : Nat) (x : Int) : (histoCount n x s).pending = s.pending := (noted_histoCount n x s).pending
@[simp] theorem histoCount_lat (n : Nat) (x : Int) : (histoCount n x s).lat = s.lat := (noted_histoCount n x s).lat
@[simp] theorem histoCount_seq (n : Nat) (x : Int) : (histoCount n x s).seq = s.seq := (noted_histoCount n x s).seq
@[simp] theorem histoCount_salt (n : Nat) (x : Int) : (histoCount n x s).salt = s.salt := (noted_histoCount n x s).salt
@[simp] theorem histoCount_axes (n : Nat) (x : Int) : (histoCount n x s).axes = s.axes := (noted_histoCount n x s).axes
@[simp] theorem histoCount_setpts (n : Nat) (x : Int) : (histoCount n x s).setpts = s.setpts := (noted_histoCount n x s).setpts
@[simp] theorem histoCount_chans (n : Nat) (x : Int) : (histoCount n x s).chans = s.chans := (noted_histoCount n x s).chans
@[simp] theorem histoCount_dies (n : Nat) (x : Int) : (histoCount n x s).dies = s.dies := (noted_histoCount n x s).dies
@[simp] theorem histoCount_direct (n : Nat) (x : Int) : (histoCount n x s).direct = s.direct := (noted_histoCount n x s).direct
@[simp] theorem histoCount_wakes (n : Nat) (x : Int) : (histoCount n x s).wakes = s.wakes := (noted_histoCount n x s).wakes
@[simp] theorem histoCount_sup (n : Nat) (x : Int) : (histoCount n x s).sup = s.sup := (noted_histoCount n x s).sup
@[simp] theorem histoCount_pow (n : Nat) (x : Int) : (histoCount n x s).pow = s.pow := (noted_histoCount n x s).pow
@[simp] theorem histoCount_clk (n : Nat) (x : Int) : (histoCount n x s).clk = s.clk := (noted_histoCount n x s).clk
@[simp] theorem histoCount_rst (n : Nat) (x : Int) : (histoCount n x s).rst = s.rst := (noted_histoCount n x s).rst
@[simp] theorem histoCount_diag (n : Nat) (x : Int) : (histoCount n x s).diag = s.diag := (noted_histoCount n x s).diag
@[simp] theorem histoCount_net (n : Nat) (x : Int) : (histoCount n x s).net = s.net := (noted_histoCount n x s).net
@[simp] theorem histoCount_gp (n : Nat) (x : Int) : (histoCount n x s).gp = s.gp := (noted_histoCount n x s).gp
@[simp] theorem histoCount_host_places (n : Nat) (x : Int) : (histoCount n x s).host.places = s.host.places := (noted_histoCount n x s).host_places
@[simp] theorem histoCount_host_gates (n : Nat) (x : Int) : (histoCount n x s).host.gates = s.host.gates := (noted_histoCount n x s).host_gates
@[simp] theorem histoCount_host_semas (n : Nat) (x : Int) : (histoCount n x s).host.semas = s.host.semas := (noted_histoCount n x s).host_semas
@[simp] theorem histoCount_host_waits (n : Nat) (x : Int) : (histoCount n x s).host.waits = s.host.waits := (noted_histoCount n x s).host_waits
@[simp] theorem histoCount_host_rotate (n : Nat) (x : Int) : (histoCount n x s).host.rotate = s.host.rotate := (noted_histoCount n x s).host_rotate
@[simp] theorem histoCount_host_nextSession (n : Nat) (x : Int) : (histoCount n x s).host.nextSession = s.host.nextSession := (noted_histoCount n x s).host_nextSession
@[simp] theorem histoCount_host_nextFlight (n : Nat) (x : Int) : (histoCount n x s).host.nextFlight = s.host.nextFlight := (noted_histoCount n x s).host_nextFlight
@[simp] theorem histoCount_host_bursts (n : Nat) (x : Int) : (histoCount n x s).host.bursts = s.host.bursts := (noted_histoCount n x s).host_bursts
@[simp] theorem histoCount_host_niIngress (n : Nat) (x : Int) : (histoCount n x s).host.niIngress = s.host.niIngress := (noted_histoCount n x s).host_niIngress
@[simp] theorem histoCount_host_linkIngress (n : Nat) (x : Int) : (histoCount n x s).host.linkIngress = s.host.linkIngress := (noted_histoCount n x s).host_linkIngress
@[simp] theorem histoCount_host_linkEgress (n : Nat) (x : Int) : (histoCount n x s).host.linkEgress = s.host.linkEgress := (noted_histoCount n x s).host_linkEgress
@[simp] theorem histoCount_host_linkErr (n : Nat) (x : Int) : (histoCount n x s).host.linkErr = s.host.linkErr := (noted_histoCount n x s).host_linkErr
@[simp] theorem histoCount_host_lastKindNotice (n : Nat) (x : Int) : (histoCount n x s).host.lastKindNotice = s.host.lastKindNotice := (noted_histoCount n x s).host_lastKindNotice
@[simp] theorem histoCount_host_fns (n : Nat) (x : Int) : (histoCount n x s).host.fns = s.host.fns := (noted_histoCount n x s).host_fns
@[simp] theorem histoCount_host_flights (n : Nat) (x : Int) : (histoCount n x s).host.flights = s.host.flights := (noted_histoCount n x s).host_flights
@[simp] theorem histoCount_host_done (n : Nat) (x : Int) : (histoCount n x s).host.done = s.host.done := (noted_histoCount n x s).host_done
@[simp] theorem histoCount_get (n : Nat) (x : Int) (j : Nat) (h : noisy j = false) : (histoCount n x s).get j = s.get j := (noted_histoCount n x s).obj j h

end

section
variable (s : State)

@[simp] theorem extremeSample_variant (n : Nat) (x : Int) : (extremeSample n x s).variant = s.variant := (noted_extremeSample n x s).variant
@[simp] theorem extremeSample_now (n : Nat) (x : Int) : (extremeSample n x s).now = s.now := (noted_extremeSample n x s).now
@[simp] theorem extremeSample_free (n : Nat) (x : Int) : (extremeSample n x s).free = s.free := (noted_extremeSample n x s).free
@[simp] theorem extremeSample_pending (n : Nat) (x : Int) : (extremeSample n x s).pending = s.pending := (noted_extremeSample n x s).pending
@[simp] theorem extremeSample_lat (n : Nat) (x : Int) : (extremeSample n x s).lat = s.lat := (noted_extremeSample n x s).lat
@[simp] theorem extremeSample_seq (n : Nat) (x : Int) : (extremeSample n x s).seq = s.seq := (noted_extremeSample n x s).seq
@[simp] theorem extremeSample_salt (n : Nat) (x : Int) : (extremeSample n x s).salt = s.salt := (noted_extremeSample n x s).salt
@[simp] theorem extremeSample_axes (n : Nat) (x : Int) : (extremeSample n x s).axes = s.axes := (noted_extremeSample n x s).axes
@[simp] theorem extremeSample_setpts (n : Nat) (x : Int) : (extremeSample n x s).setpts = s.setpts := (noted_extremeSample n x s).setpts
@[simp] theorem extremeSample_chans (n : Nat) (x : Int) : (extremeSample n x s).chans = s.chans := (noted_extremeSample n x s).chans
@[simp] theorem extremeSample_dies (n : Nat) (x : Int) : (extremeSample n x s).dies = s.dies := (noted_extremeSample n x s).dies
@[simp] theorem extremeSample_direct (n : Nat) (x : Int) : (extremeSample n x s).direct = s.direct := (noted_extremeSample n x s).direct
@[simp] theorem extremeSample_wakes (n : Nat) (x : Int) : (extremeSample n x s).wakes = s.wakes := (noted_extremeSample n x s).wakes
@[simp] theorem extremeSample_sup (n : Nat) (x : Int) : (extremeSample n x s).sup = s.sup := (noted_extremeSample n x s).sup
@[simp] theorem extremeSample_pow (n : Nat) (x : Int) : (extremeSample n x s).pow = s.pow := (noted_extremeSample n x s).pow
@[simp] theorem extremeSample_clk (n : Nat) (x : Int) : (extremeSample n x s).clk = s.clk := (noted_extremeSample n x s).clk
@[simp] theorem extremeSample_rst (n : Nat) (x : Int) : (extremeSample n x s).rst = s.rst := (noted_extremeSample n x s).rst
@[simp] theorem extremeSample_diag (n : Nat) (x : Int) : (extremeSample n x s).diag = s.diag := (noted_extremeSample n x s).diag
@[simp] theorem extremeSample_net (n : Nat) (x : Int) : (extremeSample n x s).net = s.net := (noted_extremeSample n x s).net
@[simp] theorem extremeSample_gp (n : Nat) (x : Int) : (extremeSample n x s).gp = s.gp := (noted_extremeSample n x s).gp
@[simp] theorem extremeSample_host_places (n : Nat) (x : Int) : (extremeSample n x s).host.places = s.host.places := (noted_extremeSample n x s).host_places
@[simp] theorem extremeSample_host_gates (n : Nat) (x : Int) : (extremeSample n x s).host.gates = s.host.gates := (noted_extremeSample n x s).host_gates
@[simp] theorem extremeSample_host_semas (n : Nat) (x : Int) : (extremeSample n x s).host.semas = s.host.semas := (noted_extremeSample n x s).host_semas
@[simp] theorem extremeSample_host_waits (n : Nat) (x : Int) : (extremeSample n x s).host.waits = s.host.waits := (noted_extremeSample n x s).host_waits
@[simp] theorem extremeSample_host_rotate (n : Nat) (x : Int) : (extremeSample n x s).host.rotate = s.host.rotate := (noted_extremeSample n x s).host_rotate
@[simp] theorem extremeSample_host_nextSession (n : Nat) (x : Int) : (extremeSample n x s).host.nextSession = s.host.nextSession := (noted_extremeSample n x s).host_nextSession
@[simp] theorem extremeSample_host_nextFlight (n : Nat) (x : Int) : (extremeSample n x s).host.nextFlight = s.host.nextFlight := (noted_extremeSample n x s).host_nextFlight
@[simp] theorem extremeSample_host_bursts (n : Nat) (x : Int) : (extremeSample n x s).host.bursts = s.host.bursts := (noted_extremeSample n x s).host_bursts
@[simp] theorem extremeSample_host_niIngress (n : Nat) (x : Int) : (extremeSample n x s).host.niIngress = s.host.niIngress := (noted_extremeSample n x s).host_niIngress
@[simp] theorem extremeSample_host_linkIngress (n : Nat) (x : Int) : (extremeSample n x s).host.linkIngress = s.host.linkIngress := (noted_extremeSample n x s).host_linkIngress
@[simp] theorem extremeSample_host_linkEgress (n : Nat) (x : Int) : (extremeSample n x s).host.linkEgress = s.host.linkEgress := (noted_extremeSample n x s).host_linkEgress
@[simp] theorem extremeSample_host_linkErr (n : Nat) (x : Int) : (extremeSample n x s).host.linkErr = s.host.linkErr := (noted_extremeSample n x s).host_linkErr
@[simp] theorem extremeSample_host_lastKindNotice (n : Nat) (x : Int) : (extremeSample n x s).host.lastKindNotice = s.host.lastKindNotice := (noted_extremeSample n x s).host_lastKindNotice
@[simp] theorem extremeSample_host_fns (n : Nat) (x : Int) : (extremeSample n x s).host.fns = s.host.fns := (noted_extremeSample n x s).host_fns
@[simp] theorem extremeSample_host_flights (n : Nat) (x : Int) : (extremeSample n x s).host.flights = s.host.flights := (noted_extremeSample n x s).host_flights
@[simp] theorem extremeSample_host_done (n : Nat) (x : Int) : (extremeSample n x s).host.done = s.host.done := (noted_extremeSample n x s).host_done
@[simp] theorem extremeSample_get (n : Nat) (x : Int) (j : Nat) (h : noisy j = false) : (extremeSample n x s).get j = s.get j := (noted_extremeSample n x s).obj j h

end

section
variable (s : State)

@[simp] theorem completeWith_variant (id st det : Nat) (data : List Byte) : (completeWith id st det data s).variant = s.variant := (told_completeWith id st det data s).variant
@[simp] theorem completeWith_now (id st det : Nat) (data : List Byte) : (completeWith id st det data s).now = s.now := (told_completeWith id st det data s).now
@[simp] theorem completeWith_free (id st det : Nat) (data : List Byte) : (completeWith id st det data s).free = s.free := (told_completeWith id st det data s).free
@[simp] theorem completeWith_pending (id st det : Nat) (data : List Byte) : (completeWith id st det data s).pending = s.pending := (told_completeWith id st det data s).pending
@[simp] theorem completeWith_lat (id st det : Nat) (data : List Byte) : (completeWith id st det data s).lat = s.lat := (told_completeWith id st det data s).lat
@[simp] theorem completeWith_seq (id st det : Nat) (data : List Byte) : (completeWith id st det data s).seq = s.seq := (told_completeWith id st det data s).seq
@[simp] theorem completeWith_salt (id st det : Nat) (data : List Byte) : (completeWith id st det data s).salt = s.salt := (told_completeWith id st det data s).salt
@[simp] theorem completeWith_axes (id st det : Nat) (data : List Byte) : (completeWith id st det data s).axes = s.axes := (told_completeWith id st det data s).axes
@[simp] theorem completeWith_setpts (id st det : Nat) (data : List Byte) : (completeWith id st det data s).setpts = s.setpts := (told_completeWith id st det data s).setpts
@[simp] theorem completeWith_chans (id st det : Nat) (data : List Byte) : (completeWith id st det data s).chans = s.chans := (told_completeWith id st det data s).chans
@[simp] theorem completeWith_dies (id st det : Nat) (data : List Byte) : (completeWith id st det data s).dies = s.dies := (told_completeWith id st det data s).dies
@[simp] theorem completeWith_direct (id st det : Nat) (data : List Byte) : (completeWith id st det data s).direct = s.direct := (told_completeWith id st det data s).direct
@[simp] theorem completeWith_wakes (id st det : Nat) (data : List Byte) : (completeWith id st det data s).wakes = s.wakes := (told_completeWith id st det data s).wakes
@[simp] theorem completeWith_sup (id st det : Nat) (data : List Byte) : (completeWith id st det data s).sup = s.sup := (told_completeWith id st det data s).sup
@[simp] theorem completeWith_pow (id st det : Nat) (data : List Byte) : (completeWith id st det data s).pow = s.pow := (told_completeWith id st det data s).pow
@[simp] theorem completeWith_clk (id st det : Nat) (data : List Byte) : (completeWith id st det data s).clk = s.clk := (told_completeWith id st det data s).clk
@[simp] theorem completeWith_rst (id st det : Nat) (data : List Byte) : (completeWith id st det data s).rst = s.rst := (told_completeWith id st det data s).rst
@[simp] theorem completeWith_diag (id st det : Nat) (data : List Byte) : (completeWith id st det data s).diag = s.diag := (told_completeWith id st det data s).diag
@[simp] theorem completeWith_net (id st det : Nat) (data : List Byte) : (completeWith id st det data s).net = s.net := (told_completeWith id st det data s).net
@[simp] theorem completeWith_gp (id st det : Nat) (data : List Byte) : (completeWith id st det data s).gp = s.gp := (told_completeWith id st det data s).gp
@[simp] theorem completeWith_host_places (id st det : Nat) (data : List Byte) : (completeWith id st det data s).host.places = s.host.places := (told_completeWith id st det data s).host_places
@[simp] theorem completeWith_host_gates (id st det : Nat) (data : List Byte) : (completeWith id st det data s).host.gates = s.host.gates := (told_completeWith id st det data s).host_gates
@[simp] theorem completeWith_host_semas (id st det : Nat) (data : List Byte) : (completeWith id st det data s).host.semas = s.host.semas := (told_completeWith id st det data s).host_semas
@[simp] theorem completeWith_host_waits (id st det : Nat) (data : List Byte) : (completeWith id st det data s).host.waits = s.host.waits := (told_completeWith id st det data s).host_waits
@[simp] theorem completeWith_host_rotate (id st det : Nat) (data : List Byte) : (completeWith id st det data s).host.rotate = s.host.rotate := (told_completeWith id st det data s).host_rotate
@[simp] theorem completeWith_host_nextSession (id st det : Nat) (data : List Byte) : (completeWith id st det data s).host.nextSession = s.host.nextSession := (told_completeWith id st det data s).host_nextSession
@[simp] theorem completeWith_host_nextFlight (id st det : Nat) (data : List Byte) : (completeWith id st det data s).host.nextFlight = s.host.nextFlight := (told_completeWith id st det data s).host_nextFlight
@[simp] theorem completeWith_host_bursts (id st det : Nat) (data : List Byte) : (completeWith id st det data s).host.bursts = s.host.bursts := (told_completeWith id st det data s).host_bursts
@[simp] theorem completeWith_host_niIngress (id st det : Nat) (data : List Byte) : (completeWith id st det data s).host.niIngress = s.host.niIngress := (told_completeWith id st det data s).host_niIngress
@[simp] theorem completeWith_host_linkIngress (id st det : Nat) (data : List Byte) : (completeWith id st det data s).host.linkIngress = s.host.linkIngress := (told_completeWith id st det data s).host_linkIngress
@[simp] theorem completeWith_host_linkEgress (id st det : Nat) (data : List Byte) : (completeWith id st det data s).host.linkEgress = s.host.linkEgress := (told_completeWith id st det data s).host_linkEgress
@[simp] theorem completeWith_host_linkErr (id st det : Nat) (data : List Byte) : (completeWith id st det data s).host.linkErr = s.host.linkErr := (told_completeWith id st det data s).host_linkErr
@[simp] theorem completeWith_host_lastKindNotice (id st det : Nat) (data : List Byte) : (completeWith id st det data s).host.lastKindNotice = s.host.lastKindNotice := (told_completeWith id st det data s).host_lastKindNotice
@[simp] theorem completeWith_host_fns (id st det : Nat) (data : List Byte) : (completeWith id st det data s).host.fns = s.host.fns := (told_completeWith id st det data s).host_fns
@[simp] theorem completeWith_recd (id st det : Nat) (data : List Byte) : (completeWith id st det data s).recd = s.recd := (told_completeWith id st det data s).recd
@[simp] theorem completeWith_get (id st det : Nat) (data : List Byte) (j : Nat) (h : noisy j = false) : (completeWith id st det data s).get j = s.get j := (told_completeWith id st det data s).obj j h

end

section
variable (s : State)

@[simp] theorem complete_variant (id st : Nat) : (complete id st s).variant = s.variant := (told_complete id st s).variant
@[simp] theorem complete_now (id st : Nat) : (complete id st s).now = s.now := (told_complete id st s).now
@[simp] theorem complete_free (id st : Nat) : (complete id st s).free = s.free := (told_complete id st s).free
@[simp] theorem complete_pending (id st : Nat) : (complete id st s).pending = s.pending := (told_complete id st s).pending
@[simp] theorem complete_lat (id st : Nat) : (complete id st s).lat = s.lat := (told_complete id st s).lat
@[simp] theorem complete_seq (id st : Nat) : (complete id st s).seq = s.seq := (told_complete id st s).seq
@[simp] theorem complete_salt (id st : Nat) : (complete id st s).salt = s.salt := (told_complete id st s).salt
@[simp] theorem complete_axes (id st : Nat) : (complete id st s).axes = s.axes := (told_complete id st s).axes
@[simp] theorem complete_setpts (id st : Nat) : (complete id st s).setpts = s.setpts := (told_complete id st s).setpts
@[simp] theorem complete_chans (id st : Nat) : (complete id st s).chans = s.chans := (told_complete id st s).chans
@[simp] theorem complete_dies (id st : Nat) : (complete id st s).dies = s.dies := (told_complete id st s).dies
@[simp] theorem complete_direct (id st : Nat) : (complete id st s).direct = s.direct := (told_complete id st s).direct
@[simp] theorem complete_wakes (id st : Nat) : (complete id st s).wakes = s.wakes := (told_complete id st s).wakes
@[simp] theorem complete_sup (id st : Nat) : (complete id st s).sup = s.sup := (told_complete id st s).sup
@[simp] theorem complete_pow (id st : Nat) : (complete id st s).pow = s.pow := (told_complete id st s).pow
@[simp] theorem complete_clk (id st : Nat) : (complete id st s).clk = s.clk := (told_complete id st s).clk
@[simp] theorem complete_rst (id st : Nat) : (complete id st s).rst = s.rst := (told_complete id st s).rst
@[simp] theorem complete_diag (id st : Nat) : (complete id st s).diag = s.diag := (told_complete id st s).diag
@[simp] theorem complete_net (id st : Nat) : (complete id st s).net = s.net := (told_complete id st s).net
@[simp] theorem complete_gp (id st : Nat) : (complete id st s).gp = s.gp := (told_complete id st s).gp
@[simp] theorem complete_host_places (id st : Nat) : (complete id st s).host.places = s.host.places := (told_complete id st s).host_places
@[simp] theorem complete_host_gates (id st : Nat) : (complete id st s).host.gates = s.host.gates := (told_complete id st s).host_gates
@[simp] theorem complete_host_semas (id st : Nat) : (complete id st s).host.semas = s.host.semas := (told_complete id st s).host_semas
@[simp] theorem complete_host_waits (id st : Nat) : (complete id st s).host.waits = s.host.waits := (told_complete id st s).host_waits
@[simp] theorem complete_host_rotate (id st : Nat) : (complete id st s).host.rotate = s.host.rotate := (told_complete id st s).host_rotate
@[simp] theorem complete_host_nextSession (id st : Nat) : (complete id st s).host.nextSession = s.host.nextSession := (told_complete id st s).host_nextSession
@[simp] theorem complete_host_nextFlight (id st : Nat) : (complete id st s).host.nextFlight = s.host.nextFlight := (told_complete id st s).host_nextFlight
@[simp] theorem complete_host_bursts (id st : Nat) : (complete id st s).host.bursts = s.host.bursts := (told_complete id st s).host_bursts
@[simp] theorem complete_host_niIngress (id st : Nat) : (complete id st s).host.niIngress = s.host.niIngress := (told_complete id st s).host_niIngress
@[simp] theorem complete_host_linkIngress (id st : Nat) : (complete id st s).host.linkIngress = s.host.linkIngress := (told_complete id st s).host_linkIngress
@[simp] theorem complete_host_linkEgress (id st : Nat) : (complete id st s).host.linkEgress = s.host.linkEgress := (told_complete id st s).host_linkEgress
@[simp] theorem complete_host_linkErr (id st : Nat) : (complete id st s).host.linkErr = s.host.linkErr := (told_complete id st s).host_linkErr
@[simp] theorem complete_host_lastKindNotice (id st : Nat) : (complete id st s).host.lastKindNotice = s.host.lastKindNotice := (told_complete id st s).host_lastKindNotice
@[simp] theorem complete_host_fns (id st : Nat) : (complete id st s).host.fns = s.host.fns := (told_complete id st s).host_fns
@[simp] theorem complete_recd (id st : Nat) : (complete id st s).recd = s.recd := (told_complete id st s).recd
@[simp] theorem complete_get (id st : Nat) (j : Nat) (h : noisy j = false) : (complete id st s).get j = s.get j := (told_complete id st s).obj j h

end

section
variable (s : State)

@[simp] theorem completeAll_variant (ids : List Nat) (st : Nat) : (completeAll ids st s).variant = s.variant := (told_completeAll ids st s).variant
@[simp] theorem completeAll_now (ids : List Nat) (st : Nat) : (completeAll ids st s).now = s.now := (told_completeAll ids st s).now
@[simp] theorem completeAll_free (ids : List Nat) (st : Nat) : (completeAll ids st s).free = s.free := (told_completeAll ids st s).free
@[simp] theorem completeAll_pending (ids : List Nat) (st : Nat) : (completeAll ids st s).pending = s.pending := (told_completeAll ids st s).pending
@[simp] theorem completeAll_lat (ids : List Nat) (st : Nat) : (completeAll ids st s).lat = s.lat := (told_completeAll ids st s).lat
@[simp] theorem completeAll_seq (ids : List Nat) (st : Nat) : (completeAll ids st s).seq = s.seq := (told_completeAll ids st s).seq
@[simp] theorem completeAll_salt (ids : List Nat) (st : Nat) : (completeAll ids st s).salt = s.salt := (told_completeAll ids st s).salt
@[simp] theorem completeAll_axes (ids : List Nat) (st : Nat) : (completeAll ids st s).axes = s.axes := (told_completeAll ids st s).axes
@[simp] theorem completeAll_setpts (ids : List Nat) (st : Nat) : (completeAll ids st s).setpts = s.setpts := (told_completeAll ids st s).setpts
@[simp] theorem completeAll_chans (ids : List Nat) (st : Nat) : (completeAll ids st s).chans = s.chans := (told_completeAll ids st s).chans
@[simp] theorem completeAll_dies (ids : List Nat) (st : Nat) : (completeAll ids st s).dies = s.dies := (told_completeAll ids st s).dies
@[simp] theorem completeAll_direct (ids : List Nat) (st : Nat) : (completeAll ids st s).direct = s.direct := (told_completeAll ids st s).direct
@[simp] theorem completeAll_wakes (ids : List Nat) (st : Nat) : (completeAll ids st s).wakes = s.wakes := (told_completeAll ids st s).wakes
@[simp] theorem completeAll_sup (ids : List Nat) (st : Nat) : (completeAll ids st s).sup = s.sup := (told_completeAll ids st s).sup
@[simp] theorem completeAll_pow (ids : List Nat) (st : Nat) : (completeAll ids st s).pow = s.pow := (told_completeAll ids st s).pow
@[simp] theorem completeAll_clk (ids : List Nat) (st : Nat) : (completeAll ids st s).clk = s.clk := (told_completeAll ids st s).clk
@[simp] theorem completeAll_rst (ids : List Nat) (st : Nat) : (completeAll ids st s).rst = s.rst := (told_completeAll ids st s).rst
@[simp] theorem completeAll_diag (ids : List Nat) (st : Nat) : (completeAll ids st s).diag = s.diag := (told_completeAll ids st s).diag
@[simp] theorem completeAll_net (ids : List Nat) (st : Nat) : (completeAll ids st s).net = s.net := (told_completeAll ids st s).net
@[simp] theorem completeAll_gp (ids : List Nat) (st : Nat) : (completeAll ids st s).gp = s.gp := (told_completeAll ids st s).gp
@[simp] theorem completeAll_host_places (ids : List Nat) (st : Nat) : (completeAll ids st s).host.places = s.host.places := (told_completeAll ids st s).host_places
@[simp] theorem completeAll_host_gates (ids : List Nat) (st : Nat) : (completeAll ids st s).host.gates = s.host.gates := (told_completeAll ids st s).host_gates
@[simp] theorem completeAll_host_semas (ids : List Nat) (st : Nat) : (completeAll ids st s).host.semas = s.host.semas := (told_completeAll ids st s).host_semas
@[simp] theorem completeAll_host_waits (ids : List Nat) (st : Nat) : (completeAll ids st s).host.waits = s.host.waits := (told_completeAll ids st s).host_waits
@[simp] theorem completeAll_host_rotate (ids : List Nat) (st : Nat) : (completeAll ids st s).host.rotate = s.host.rotate := (told_completeAll ids st s).host_rotate
@[simp] theorem completeAll_host_nextSession (ids : List Nat) (st : Nat) : (completeAll ids st s).host.nextSession = s.host.nextSession := (told_completeAll ids st s).host_nextSession
@[simp] theorem completeAll_host_nextFlight (ids : List Nat) (st : Nat) : (completeAll ids st s).host.nextFlight = s.host.nextFlight := (told_completeAll ids st s).host_nextFlight
@[simp] theorem completeAll_host_bursts (ids : List Nat) (st : Nat) : (completeAll ids st s).host.bursts = s.host.bursts := (told_completeAll ids st s).host_bursts
@[simp] theorem completeAll_host_niIngress (ids : List Nat) (st : Nat) : (completeAll ids st s).host.niIngress = s.host.niIngress := (told_completeAll ids st s).host_niIngress
@[simp] theorem completeAll_host_linkIngress (ids : List Nat) (st : Nat) : (completeAll ids st s).host.linkIngress = s.host.linkIngress := (told_completeAll ids st s).host_linkIngress
@[simp] theorem completeAll_host_linkEgress (ids : List Nat) (st : Nat) : (completeAll ids st s).host.linkEgress = s.host.linkEgress := (told_completeAll ids st s).host_linkEgress
@[simp] theorem completeAll_host_linkErr (ids : List Nat) (st : Nat) : (completeAll ids st s).host.linkErr = s.host.linkErr := (told_completeAll ids st s).host_linkErr
@[simp] theorem completeAll_host_lastKindNotice (ids : List Nat) (st : Nat) : (completeAll ids st s).host.lastKindNotice = s.host.lastKindNotice := (told_completeAll ids st s).host_lastKindNotice
@[simp] theorem completeAll_host_fns (ids : List Nat) (st : Nat) : (completeAll ids st s).host.fns = s.host.fns := (told_completeAll ids st s).host_fns
@[simp] theorem completeAll_recd (ids : List Nat) (st : Nat) : (completeAll ids st s).recd = s.recd := (told_completeAll ids st s).recd
@[simp] theorem completeAll_get (ids : List Nat) (st : Nat) (j : Nat) (h : noisy j = false) : (completeAll ids st s).get j = s.get j := (told_completeAll ids st s).obj j h

end

section
variable (s : State)

@[simp] theorem holdFlight_variant (id : Nat) : (holdFlight id s).variant = s.variant := (told_holdFlight id s).variant
@[simp] theorem holdFlight_now (id : Nat) : (holdFlight id s).now = s.now := (told_holdFlight id s).now
@[simp] theorem holdFlight_free (id : Nat) : (holdFlight id s).free = s.free := (told_holdFlight id s).free
@[simp] theorem holdFlight_pending (id : Nat) : (holdFlight id s).pending = s.pending := (told_holdFlight id s).pending
@[simp] theorem holdFlight_lat (id : Nat) : (holdFlight id s).lat = s.lat := (told_holdFlight id s).lat
@[simp] theorem holdFlight_seq (id : Nat) : (holdFlight id s).seq = s.seq := (told_holdFlight id s).seq
@[simp] theorem holdFlight_salt (id : Nat) : (holdFlight id s).salt = s.salt := (told_holdFlight id s).salt
@[simp] theorem holdFlight_axes (id : Nat) : (holdFlight id s).axes = s.axes := (told_holdFlight id s).axes
@[simp] theorem holdFlight_setpts (id : Nat) : (holdFlight id s).setpts = s.setpts := (told_holdFlight id s).setpts
@[simp] theorem holdFlight_chans (id : Nat) : (holdFlight id s).chans = s.chans := (told_holdFlight id s).chans
@[simp] theorem holdFlight_dies (id : Nat) : (holdFlight id s).dies = s.dies := (told_holdFlight id s).dies
@[simp] theorem holdFlight_direct (id : Nat) : (holdFlight id s).direct = s.direct := (told_holdFlight id s).direct
@[simp] theorem holdFlight_wakes (id : Nat) : (holdFlight id s).wakes = s.wakes := (told_holdFlight id s).wakes
@[simp] theorem holdFlight_sup (id : Nat) : (holdFlight id s).sup = s.sup := (told_holdFlight id s).sup
@[simp] theorem holdFlight_pow (id : Nat) : (holdFlight id s).pow = s.pow := (told_holdFlight id s).pow
@[simp] theorem holdFlight_clk (id : Nat) : (holdFlight id s).clk = s.clk := (told_holdFlight id s).clk
@[simp] theorem holdFlight_rst (id : Nat) : (holdFlight id s).rst = s.rst := (told_holdFlight id s).rst
@[simp] theorem holdFlight_diag (id : Nat) : (holdFlight id s).diag = s.diag := (told_holdFlight id s).diag
@[simp] theorem holdFlight_net (id : Nat) : (holdFlight id s).net = s.net := (told_holdFlight id s).net
@[simp] theorem holdFlight_gp (id : Nat) : (holdFlight id s).gp = s.gp := (told_holdFlight id s).gp
@[simp] theorem holdFlight_host_places (id : Nat) : (holdFlight id s).host.places = s.host.places := (told_holdFlight id s).host_places
@[simp] theorem holdFlight_host_gates (id : Nat) : (holdFlight id s).host.gates = s.host.gates := (told_holdFlight id s).host_gates
@[simp] theorem holdFlight_host_semas (id : Nat) : (holdFlight id s).host.semas = s.host.semas := (told_holdFlight id s).host_semas
@[simp] theorem holdFlight_host_waits (id : Nat) : (holdFlight id s).host.waits = s.host.waits := (told_holdFlight id s).host_waits
@[simp] theorem holdFlight_host_rotate (id : Nat) : (holdFlight id s).host.rotate = s.host.rotate := (told_holdFlight id s).host_rotate
@[simp] theorem holdFlight_host_nextSession (id : Nat) : (holdFlight id s).host.nextSession = s.host.nextSession := (told_holdFlight id s).host_nextSession
@[simp] theorem holdFlight_host_nextFlight (id : Nat) : (holdFlight id s).host.nextFlight = s.host.nextFlight := (told_holdFlight id s).host_nextFlight
@[simp] theorem holdFlight_host_bursts (id : Nat) : (holdFlight id s).host.bursts = s.host.bursts := (told_holdFlight id s).host_bursts
@[simp] theorem holdFlight_host_niIngress (id : Nat) : (holdFlight id s).host.niIngress = s.host.niIngress := (told_holdFlight id s).host_niIngress
@[simp] theorem holdFlight_host_linkIngress (id : Nat) : (holdFlight id s).host.linkIngress = s.host.linkIngress := (told_holdFlight id s).host_linkIngress
@[simp] theorem holdFlight_host_linkEgress (id : Nat) : (holdFlight id s).host.linkEgress = s.host.linkEgress := (told_holdFlight id s).host_linkEgress
@[simp] theorem holdFlight_host_linkErr (id : Nat) : (holdFlight id s).host.linkErr = s.host.linkErr := (told_holdFlight id s).host_linkErr
@[simp] theorem holdFlight_host_lastKindNotice (id : Nat) : (holdFlight id s).host.lastKindNotice = s.host.lastKindNotice := (told_holdFlight id s).host_lastKindNotice
@[simp] theorem holdFlight_host_fns (id : Nat) : (holdFlight id s).host.fns = s.host.fns := (told_holdFlight id s).host_fns
@[simp] theorem holdFlight_recd (id : Nat) : (holdFlight id s).recd = s.recd := (told_holdFlight id s).recd
@[simp] theorem holdFlight_get (id : Nat) (j : Nat) (h : noisy j = false) : (holdFlight id s).get j = s.get j := (told_holdFlight id s).obj j h

end

end Sys2Proof.Machine
end

