-- ==== Sys2Proof/Laws/Dictionary.lean ====
section
/-!
SUPPORT. Laws/Dictionary.lean: the ranges of the object dictionary do not overlap, so an object of a range has the
descriptor of the range's first object; what follows for the reading and writing of a numbered object.
-/
namespace Sys2Proof.Machine
open Sys2Proof Sys2Proof.Config

/-- The index ranges rise and do not overlap. -/
theorem groups_apart : objGroups.Pairwise fun a b => a.lo + a.n ≤ b.lo := by decide +kernel

theorem find_group (gs : List Group) (h : gs.Pairwise fun a b => a.lo + a.n ≤ b.lo) (g : Group) (hg : g ∈ gs) (idx : Nat)
    (h1 : g.lo ≤ idx) (h2 : idx < g.lo + g.n) :
    gs.find? (fun g => decide (g.lo ≤ idx) && decide (idx < g.lo + g.n)) = some g := by
  induction gs with
  | nil => cases hg
  | cons a r ih =>
    rw [List.pairwise_cons] at h
    rcases List.mem_cons.1 hg with rfl | hr
    · simp [h1, h2]
    · have ha := h.1 g hr
      have : ¬ idx < a.lo + a.n := by omega
      simp [this, ih h.2 hr]

/-- An object of an index range has the descriptor of the range's first object. -/
theorem lookup_shift (k0 i : Nat) (g : Group) (d : Sub) (h0 : lookup k0 = some (g, 0, d)) (hi : i < g.n) :
    lookup (k0 + 256 * i) = some (g, i, d) := by
  unfold lookup at h0; dsimp only at h0
  split at h0
  · rename_i g' hg
    split at h0
    · rename_i d' hd
      simp only [Option.some.injEq, Prod.mk.injEq] at h0
      obtain ⟨rfl, h0, rfl⟩ := h0
      have hp := List.find?_some hg
      simp only [Bool.and_eq_true, decide_eq_true_eq] at hp
      have hm := List.mem_of_find?_eq_some hg
      have e1 : (k0 + 256 * i) / 256 = g'.lo + i := by omega
      have e2 : (k0 + 256 * i) % 256 = k0 % 256 := by omega
      unfold lookup; dsimp only
      rw [e1, e2, find_group objGroups groups_apart g' hm (g'.lo + i) (by omega) (by omega)]
      dsimp only
      rw [hd]
      simp
    · cases h0
  · cases h0

/-- How many objects the range has that `k0` begins; 0 where it begins none. -/
def rangeOf (k0 : Nat) : Nat :=
  match lookup k0 with
  | some (g, 0, _) => g.n
  | _ => 0

theorem lookup_range (k0 i : Nat) (hi : i < rangeOf k0) :
    ∃ g d, lookup k0 = some (g, 0, d) ∧ lookup (k0 + 256 * i) = some (g, i, d) := by
  unfold rangeOf at hi
  split at hi
  · rename_i g d h; exact ⟨g, d, h, lookup_shift k0 i g d h hi⟩
  · omega

theorem isConst_shift (k0 i n : Nat) (hn : rangeOf k0 = n) (hi : i < n) : isConst (k0 + 256 * i) = isConst k0 := by
  obtain ⟨g, d, h0, h⟩ := lookup_range k0 i (hn ▸ hi)
  simp [isConst, h0, h]

theorem sizeOf_shift (k0 i n : Nat) (hn : rangeOf k0 = n) (hi : i < n) : sizeOf (k0 + 256 * i) = sizeOf k0 := by
  obtain ⟨g, d, h0, h⟩ := lookup_range k0 i (hn ▸ hi)
  simp [sizeOf, h0, h]

/-- A bit put into an object that holds it reads back. -/
theorem bit_put (k v i : Nat) (s : State) (hc : isConst k = false) (hi : i < 8 * sizeOf k) :
    (s.put k v).bit k i = v.testBit i := by
  have hs : sizeOf k ≠ 0 := by omega
  rw [State.bit, get_put_self k v s hc, fitTo, if_neg hs, show (256 : Nat) = 2 ^ 8 from rfl, ← Nat.pow_mul,
    Nat.testBit_mod_two_pow]
  simp [hi]

/-- A set bit taken off a number clears that bit alone. -/
theorem testBit_sub_pow (n i j : Nat) (h : n.testBit i = true) :
    (n - 2 ^ i).testBit j = if j = i then false else n.testBit j := by
  have hp : 0 < 2 ^ i := Nat.two_pow_pos i
  have ho : n / 2 ^ i % 2 = 1 := by rw [Nat.testBit_eq_decide_div_mod_eq] at h; simpa using h
  have hr : n % 2 ^ i < 2 ^ i := Nat.mod_lt _ hp
  obtain ⟨q, hq⟩ : ∃ q, n / 2 ^ i = 2 * q + 1 := ⟨n / 2 ^ i / 2, by omega⟩
  have hn : n = 2 ^ i * (2 * q + 1) + n % 2 ^ i := by rw [← hq]; exact (Nat.div_add_mod n (2 ^ i)).symm
  have hm : n - 2 ^ i = 2 ^ i * (2 * q) + n % 2 ^ i := by
    have : 2 ^ i * (2 * q + 1) = 2 ^ i * (2 * q) + 2 ^ i := Nat.mul_succ _ _
    omega
  rw [hm, Nat.testBit_two_pow_mul_add _ hr]
  conv => rhs; rw [hn, Nat.testBit_two_pow_mul_add _ hr]
  by_cases hj : j < i
  · simp [hj, Nat.ne_of_lt hj]
  · by_cases he : j = i
    · subst he; simp
    · obtain ⟨k, hk⟩ : ∃ k, j - i = k + 1 := ⟨j - i - 1, by omega⟩
      have e1 : 2 * q / 2 = q := by omega
      have e2 : (2 * q + 1) / 2 = q := by omega
      simp [hj, he, hk, Nat.testBit_succ, e1, e2]

theorem testBit_setBitOf (n i j : Nat) (b : Bool) : (setBitOf n i b).testBit j = if j = i then b else n.testBit j := by
  unfold setBitOf
  split
  · rename_i h; subst h
    by_cases hj : j = i
    · subst hj; simp
    · simp [Nat.testBit_or, hj, Ne.symm hj]
  · rename_i h
    have hb : b = false := by simpa using h
    subst hb
    split
    · rename_i hn; exact testBit_sub_pow n i j hn
    · rename_i hn
      by_cases hj : j = i
      · subst hj; simpa using hn
      · simp [hj]

/-- A bit set in an object reads back, the other bits stay. -/
theorem bit_setBit (k i j : Nat) (b : Bool) (s : State) (hc : isConst k = false) (hj : j < 8 * sizeOf k) :
    (s.setBit k i b).bit k j = if j = i then b else s.bit k j := by
  rw [setBit_eq, bit_put k _ j s hc hj, testBit_setBitOf]; rfl

end Sys2Proof.Machine
end

