-- ==== Sys2Proof/Laws/Answers.lean ====
section
/-!
SUPPORT. Laws/Answers.lean: from the meaning of a command to what its answer holds, and the elements of the lists of
axes, channels and dies.
-/
namespace Sys2Proof.Machine
open Sys2Proof

/-- A command answers with what its meaning makes of the state, the fuses and the waiting commands put back. -/
theorem answers_of {c : Instr} {s : State} {P : State → Prop} (t : State) (he : exec c s = s.answer t)
    (h : P { t with variant := s.variant, pending := s.pending }) : Answers c s P := ⟨_, he, h⟩

/-- Where the meaning keeps the fuses, the answer shows the objects that the meaning left. -/
theorem seal_get {s t : State} (hv : t.variant = s.variant) (k : Nat) :
    ({ t with variant := s.variant, pending := s.pending } : State).get k = t.get k := get_congr _ _ k hv.symm rfl

theorem seal_bit {s t : State} (hv : t.variant = s.variant) (k i : Nat) :
    ({ t with variant := s.variant, pending := s.pending } : State).bit k i = t.bit k i := by
  rw [State.bit, seal_get hv]; rfl

@[simp] theorem answerLive_live {s : State} (h : s.live = true) (f : State → State) : s.answerLive f = s.answer (f s) := by
  simp [State.answerLive, h]

@[simp] theorem answerServed_live {s : State} (h : s.live = true) (hs : s.served = true) (f : State → State) :
    s.answerServed f = s.answer (f s) := by simp [State.answerServed, h, hs]

theorem chan_eq {s : State} {c : Nat} {x : Chan} (h : s.chans[c]? = some x) : s.chan c = x := by
  simp [State.chan, List.getD, h]

theorem axis_eq {s : State} {a : Nat} {x : Axis} (h : s.axes[a]? = some x) : s.axis a = x := by
  simp [State.axis, List.getD, h]

theorem die_eq {s : State} {k : Nat} {x : Die} (h : s.dies[k]? = some x) : s.die k = x := by
  simp [State.die, List.getD, h]

theorem oneMoves_modify {α : Type} {i : Nat} {x : α} {xs : List α} (f : α → α) (h : xs[i]? = some x) :
    OneMoves i (f x) xs (xs.modify i f) := by
  refine ⟨by simp [h], fun j hj => ?_⟩
  simp [Ne.symm hj]

theorem heldFor_passed {s : State} {t : Option Nat} {d : Nat} (h : Passed t d s) : heldFor s.now d t = true := by
  obtain ⟨t0, rfl, h⟩ := h; simp [heldFor, h]

theorem BitTo.of_get {k i : Nat} {b : Bool} {s t u : State} (h : BitTo k i b s t) (hg : u.get k = t.get k) : BitTo k i b s u :=
  fun j hj => by rw [State.bit, hg]; exact h j hj

theorem BitTo.seal {k i : Nat} {b : Bool} {s t : State} (h : BitTo k i b s t) (hv : t.variant = s.variant) :
    BitTo k i b s { t with variant := s.variant, pending := s.pending } := h.of_get (seal_get hv k)

theorem CountsUp.seal {k : Nat} {s t : State} (h : CountsUp k s t) (hv : t.variant = s.variant) :
    CountsUp k s { t with variant := s.variant, pending := s.pending } := (seal_get hv k).trans h

theorem OnlyMoves.seal {ks : List Nat} {s t : State} (h : OnlyMoves ks s t) (hv : t.variant = s.variant) :
    OnlyMoves ks s { t with variant := s.variant, pending := s.pending } := fun k hk => (seal_get hv k).trans (h k hk)

theorem bitTo_setBit (k i : Nat) (b : Bool) (s : State) (hc : isConst k = false) : BitTo k i b s (s.setBit k i b) :=
  fun j hj => bit_setBit k i j b s hc hj

theorem onlyMoves_put (k v : Nat) (s : State) : OnlyMoves [k] s (s.put k v) :=
  fun j hj => get_put_ne k v j s (by simpa using hj)

/-- Objects of one range at different subindices differ. -/
theorem obj_ne (a b c : Nat) (h : a ≠ b) : a + 256 * c ≠ b + 256 * c := by omega

end Sys2Proof.Machine
end

