-- ==== Sys2Proof/Laws/Field.lean ====
section
/-!
SUPPORT. Laws/Field.lean: the diagnostics of a field channel: what a rise or a fall of a bit does, once and for all.
-/
namespace Sys2Proof.Machine
open Sys2Proof

/-- A bit of DiagStatus that rises moves objects of the channel's counters alone, beside notices and records. -/
def diagKeys (c : Nat) : List Nat :=
  [Obj.diagStatus c, Obj.diagSticky c, Obj.overloadCount c, Obj.wireBreakCount c, Obj.overTempCount c, Obj.xcheckCount c,
    Obj.tripCount c, Obj.lockCount c]

theorem chanNotice_get (c b : Nat) (s : State) (k : Nat) (hk : noisy k = false) : (chanNotice c b s).get k = s.get k := by
  unfold chanNotice; dsimp only
  simp only [ite_get, onChan_get, raise_get, hk, ite_self]

/-- What the rise of a bit adds beside the bit itself: its counters and its record. -/
theorem diagRise_get (c b v : Nat) (s : State) (k : Nat) (hk : noisy k = false) (hd : k ∉ diagKeys c) :
    (diagRise c b v s).get k = s.get k := by
  simp only [diagKeys, List.mem_cons, List.not_mem_nil, or_false, not_or] at hd
  obtain ⟨h1, h2, h3, h4, h5, h6, h7, h8⟩ := hd
  unfold diagRise; dsimp only
  split
  · rfl
  · rw [chanNotice_get _ _ _ _ hk]
    split <;> simp [hk, h1, h2, h3, h4, h5, h6, h7, h8]

/-- The counter of the field objects at index 16#6n00 + c. -/
theorem field_plain (k0 c : Nat) (h : rangeOf k0 = 256 ∧ isConst k0 = false) (hc : c < 256) : isConst (k0 + 256 * c) = false :=
  (isConst_shift k0 c 256 h.1 hc).trans h.2

theorem field_quiet (k0 c : Nat) (h : 0x600000 ≤ k0 ∧ k0 < 0x700000) (hc : c < 256) : noisy (k0 + 256 * c) = false := by
  simp [noisy, Obj.droppedRecords, Obj.safetyFaultCount, Obj.discardedCompletions]; omega

/-- A bit of DiagStatus that rises: it and its sticky copy are set. -/
theorem diagRise_bits (c b v : Nat) (s : State) (hc : c < 256) (hb : s.bit (Obj.diagStatus c) b = false) :
    BitTo (Obj.diagStatus c) b true s (diagRise c b v s) ∧ BitTo (Obj.diagSticky c) b true s (diagRise c b v s) := by
  have c1 : isConst (Obj.diagStatus c) = false := field_plain 0x620001 c (by decide) hc
  have c2 : isConst (Obj.diagSticky c) = false := field_plain 0x620002 c (by decide) hc
  have n1 : noisy (Obj.diagStatus c) = false := field_quiet 0x620001 c (by decide) hc
  have n2 : noisy (Obj.diagSticky c) = false := field_quiet 0x620002 c (by decide) hc
  have key (k : Nat) (hn : noisy k = false) (h : k = Obj.diagStatus c ∨ k = Obj.diagSticky c) :
      (diagRise c b v s).get k = ((s.setBit (Obj.diagStatus c) b true).setBit (Obj.diagSticky c) b true).get k := by
    have h3 : k ≠ Obj.overloadCount c := by
      rcases h with rfl | rfl <;> exact obj_ne _ _ c (by decide)
    have h4 : k ≠ Obj.wireBreakCount c := by
      rcases h with rfl | rfl <;> exact obj_ne _ _ c (by decide)
    have h5 : k ≠ Obj.overTempCount c := by
      rcases h with rfl | rfl <;> exact obj_ne _ _ c (by decide)
    have h6 : k ≠ Obj.xcheckCount c := by
      rcases h with rfl | rfl <;> exact obj_ne _ _ c (by decide)
    have h7 : k ≠ Obj.tripCount c := by
      rcases h with rfl | rfl <;> exact obj_ne _ _ c (by decide)
    have h8 : k ≠ Obj.lockCount c := by
      rcases h with rfl | rfl <;> exact obj_ne _ _ c (by decide)
    unfold diagRise; dsimp only
    rw [hb, if_neg (by decide), chanNotice_get _ _ _ _ hn]
    split <;> simp [hn, h3, h4, h5, h6, h7, h8]
  constructor
  · refine (bitTo_setBit _ b true s c1).of_get ?_
    rw [key _ n1 (.inl rfl), setBit_eq _ (Obj.diagSticky c), get_put_ne _ _ _ _ (obj_ne 0x620001 0x620002 c (by decide))]
  · refine BitTo.of_get (t := (s.setBit (Obj.diagStatus c) b true).setBit (Obj.diagSticky c) b true) ?_ (key _ n2 (.inr rfl))
    intro j hj
    rw [bit_setBit _ _ _ _ _ c2 hj]
    split
    · rfl
    · rw [State.bit, State.bit, setBit_eq, get_put_ne _ _ _ _ (obj_ne 0x620002 0x620001 c (by decide))]

/-- The counter that goes up with a bit. -/
def diagCounter (c b : Nat) : Nat :=
  match b with
  | 0 => Obj.overloadCount c
  | 1 => Obj.wireBreakCount c
  | 2 => Obj.overTempCount c
  | 3 => Obj.xcheckCount c
  | 9 => Obj.tripCount c
  | _ => Obj.lockCount c

theorem diagRise_counts (c b v : Nat) (s : State) (hc : c < 256) (hb : s.bit (Obj.diagStatus c) b = false)
    (h : b = 0 ∨ b = 1 ∨ b = 2 ∨ b = 3 ∨ b = 9 ∨ b = 10 ∨ b = 11 ∨ b = 12) :
    CountsUp (diagCounter c b) s (diagRise c b v s) := by
  have c0 := field_plain 0x620006 c (by decide) hc
  have c1 := field_plain 0x620004 c (by decide) hc
  have c2 := field_plain 0x620005 c (by decide) hc
  have c3 := field_plain 0x620003 c (by decide) hc
  have c9 := field_plain 0x630006 c (by decide) hc
  have c10 := field_plain 0x630008 c (by decide) hc
  have n (k0 : Nat) (h : 0x600000 ≤ k0 ∧ k0 < 0x700000) := field_quiet k0 c h hc
  have e (a b : Nat) (h : a ≠ b) := obj_ne a b c h
  unfold CountsUp diagRise; dsimp only
  rw [hb, if_neg (by decide)]
  rcases h with rfl | rfl | rfl | rfl | rfl | rfl | rfl | rfl <;>
    simp only [diagCounter] <;> rw [chanNotice_get _ _ _ _ (n _ (by decide))] <;>
    simp [n, e, c0, c1, c2, c3, c9, c10]

@[simp] theorem diagRise_variant (c b v : Nat) (s : State) : (diagRise c b v s).variant = s.variant := by
  unfold diagRise chanNotice; dsimp only
  split
  · rfl
  · simp only [ite_variant, onChan_variant, raise_variant, ite_self]; split <;> simp

/-- A bit of DiagStatus that falls falls alone. -/
theorem diagFall_bits (c b : Nat) (s : State) (hc : c < 256) : BitTo (Obj.diagStatus c) b false s (diagFall c b s) :=
  bitTo_setBit _ b false s (field_plain 0x620001 c (by decide) hc)

theorem diagFall_get (c b : Nat) (s : State) (k : Nat) (hk : k ≠ Obj.diagStatus c) : (diagFall c b s).get k = s.get k := by
  simp [diagFall, hk]

end Sys2Proof.Machine
end

