-- ==== Sys2Proof/Tests/Witness.lean ====
section
/-!
SUPPORT. Tests/Witness.lean: small states that meet the hypotheses of the statements. Each is the state of a running module
with a few values set; Tests/Slice0.lean shows which hypotheses it meets.
-/
namespace Sys2Proof.Tests
open Sys2Proof Sys2Proof.Machine Sys2Proof.Config

/-- A running module of a variant, 100 s after power came to VAON, with every object at its default. -/
def runOf (v : Variant) : State :=
  { State.powerOn v with
    now := sec 100
    pow := { Power.reset with logicUp := true, restart := false }
    rst := { ResetUnit.reset with inReset := false, latched := [] }
    clk := { Clocks.reset with fRuns := true } }

/-- A running 2624T module. -/
def run : State := runOf ⟨.c2624, .t⟩

/-- Channel `c` in a mode, in the die and in its object. -/
def inMode (c m : Nat) (s : State) : State := (s.put (Obj.channelMode c) m).onRegs c fun r => { r with mode := m }

/-- Axis, channel and die entries at places of a list. -/
def placed {α : Type} (x y : α) (n i : Nat) : List α := (List.replicate n x).set i y

/-- A KEEP of master 0 in lane 31. -/
def aFlight : Flight :=
  { id := 0, place := 0, sess := 1, tag := 7, frame := 1, elem := 0, op := 0x01, req := .keep, raw := [], safety := none
    fns := [0], cls := 0, orphan := false, phase := .lane 31, since := sec 100, link := false, sk := [], poison := none }

/-! Field inputs. -/

/-- A cell whose timed conditions have all lasted 10 s. -/
def lateChan : Chan :=
  { Chan.reset with
    gapSince := some (sec 90), xBad := some (sec 90), xGood := some (sec 90), overSince := some (sec 90)
    inRangeSince := some (sec 90), testBad := 1, testGood := 1, holdFrom := some (sec 90) }

/-- Channel 0 is an input of 24 V whose timed conditions have all lasted. -/
def lateInput : State := { inMode 0 1 run with chans := placed Chan.reset lateChan 256 0 }

/-- Channel 255, the last one, is an input of type 3 whose second change waits for its filter. -/
def filteringInput : State :=
  { inMode 255 2 run with chans := placed Chan.reset ({ Chan.reset with pend := some (1, sec 90), ran := true }) 256 255 }

/-- Die 1 with a test source at its first channel and an input at its second. -/
def sourceDie : Die :=
  { Die.reset with
    outUp := true, outAt := sec 100
    regs := ((List.replicate 64 ChanRegs.reset).set 0 ⟨4, 0xFF, 700, 0, 0⟩).set 1 ⟨1, 0xFF, 700, 0, 0⟩ }

/-- Channel 64 is a test source that feeds channel 65 and whose window is due. -/
def testSource : State :=
  { (inMode 65 1 (inMode 64 4 run)).put (Obj.testSource 65) 64 with
    chans := placed Chan.reset ({ Chan.reset with on := true, dem := true }) 256 64
    dies := placed Die.reset sourceDie 4 1 }

/-- The same source with a window that has lasted. -/
def testWindow : State := testSource.onChan 64 fun x => { x with window := some (sec 90), on := false }

/-- Die 3 with a good functional frame in the past. -/
def lateFrames : State :=
  { run with dies := placed Die.reset ({ Die.reset with funcUp := true, outUp := true, lattUp := true }) 4 3 }

/-! Field outputs. -/

/-- A cell that is on, with an inrush window that has ended, in a clamp event, hot and locked. -/
def busyChan : Chan :=
  { Chan.reset with on := true, clamping := true, hot := true, dem := true }

/-- Channel 0 is an output that is on. -/
def outputOn : State :=
  ({ inMode 0 4 run with chans := placed Chan.reset ({ Chan.reset with on := true, dem := true }) 256 0 }.onDie 0
    fun d => { d with outUp := true }).put (Obj.openLoadCheck 0) 3

/-- It has an inrush window that ends now, and a freewheel path outside. -/
def outputInrush : State :=
  (outputOn.onChan 0 fun x => { x with inrushUntil := some (sec 100) }).onRegs 0 fun r =>
    { r with load := 3, turnOff := 1 }

/-- Channel 0 is an output that is off, in a clamp event, and hot. -/
def outputOff : State := outputOn.onChan 0 fun x => { x with on := false, clamping := true, hot := true }

/-- Channel 191, a PWM output, and channel 128, a DIRECT output, of die 2 with frames. -/
def outputDie : State :=
  { ((inMode 128 8 (inMode 191 7 run)).onRegs 128 fun r => { r with pin := 15 }) with
    chans := placed Chan.reset ({ Chan.reset with base := 255, flash := some ⟨ms 500, false, sec 100⟩ }) 256 191 }.onDie 2
    fun d => { d with outUp := true }

/-! Supplies of the dies. -/

/-- A die in under-voltage and surge. -/
def weakDie : Die := { Die.reset with uv := true, surge := true, lattUp := true }

/-- A die that lost its registers and has been heard again, with its ground shifted. -/
def lostDie : Die :=
  { Die.reset with
    lost := true, gnd := true, lattAt := sec 100, lattUp := true, funcAt := sec 100, funcUp := true
    outAt := sec 100, outUp := true }

/-- Die 0 in under-voltage and surge, and die 3 that lost its registers and has been heard again. -/
def troubledDie : State := { run with dies := (placed Die.reset weakDie 4 0).set 3 lostDie }

/-! The lattice. -/

/-- The lattice in RUN with every die delivering. -/
def latticeUp : State :=
  { run.put Obj.latticeState 1 with
    dies := List.replicate 4 { Die.reset with lattUp := true, funcUp := true, outUp := true, lattAt := sec 100,
                                              funcAt := sec 100, outAt := sec 100 }
    lat := { Lattice.reset with started := true, rb := List.replicate 2 ⟨false, sec 1, some false⟩ } }

/-- Contact 1 has filtered; leaf 0 has contradicted itself, and doorway 11 has been consistent. -/
def latticeInputs : State :=
  latticeUp.onLat fun l =>
    { l with contacts := placed Contact.reset ⟨true, sec 1, false, true⟩ 256 1
             pairs := (placed PairWatch.reset ⟨some (sec 1), none, false⟩ 87 0).set 83 ⟨none, some (sec 1), true⟩ }

/-- Both coils on for long, coil 0 in a test pulse, one bad window and one bad count, relays that show released. -/
def latticeOn : State :=
  latticeUp.onLat fun l =>
    { l with coils := [⟨true, true, sec 1, 0, true, sec 99, 0⟩, ⟨true, true, sec 1, 0, false, sec 1, sec 1⟩]
             badWindows := 1, badCounts := 1 }

/-- Coils off, relays that show pulled. -/
def latticeStuck : State := latticeUp.onLat fun l => { l with rb := List.replicate 2 ⟨true, sec 1, some true⟩ }

/-- Both coils on, none in a pulse, both due. -/
def pulseDue : State :=
  latticeUp.onLat fun l => { l with coils := List.replicate 2 ⟨true, true, sec 1, 0, false, sec 1, sec 1⟩ }

/-- INIT may end. -/
def initEnds : State :=
  { (latticeUp.put Obj.latticeState 0).onLat fun l => { l with initAt := some (sec 1), goodWindows := 2 } with
    salt := Saltpan.factory ⟨.c2624, .t⟩ }

/-! Drives. -/

/-- Axis 23 with a duty, a guard that ends now and a movement against its direction. -/
def driven : State :=
  (run.put (Obj.duty 23) 500).onAxis 23 fun x => { x with guard := some (sec 100, true), dirBase := -100000 }

/-- Axis 0 in a closing motion at its cruise speed, armed, too slow and over its threshold for 10 s. -/
def closing : State :=
  ((((run.put (Obj.axisStatus 0) 0).put (Obj.moveTarget 0) 0).put (Obj.strokeCounts 0) 10000).put (Obj.speedRef 0) 1000).onAxis 0
    fun x => { x with
      en := true, running := true, cruising := true, armed := true, tripArmed := true, overSince := some (sec 90)
      slowSince := some (sec 90) }

/-- Its trips name channel 0 and channel 255. -/
def closingTrips : State := ((closing.put (Obj.tripChannel1 0) 0).put (Obj.tripChannel2 0) 255)

/-- Axis 0 at its target with a clean full stroke. -/
def arriving : State := closing.onAxis 0 fun x => { x with running := false, clean := true, fullStroke := true }

/-- Axis 0 UNREFERENCED at its end stop. -/
def atEnd : State :=
  ((closing.put (Obj.axisStatus 0) 32).put (Obj.currentMean 0) 60000).onAxis 0 fun x =>
    { x with endStopSince := some (sec 1) }

/-- Set-point 0 below its target. -/
def setPoints : State := { run with setpts := [⟨0, 0⟩, ⟨65536000, 0⟩, ⟨0, 0⟩] }

/-! Position feedback. -/

/-- Axis 23 in QUADRATURE mode with 4096 counts per revolution and two edges in its window. -/
def counting : State :=
  ((run.put (Obj.feedbackMode 23) 0).put (Obj.countsPerRev 23) 4096).onAxis 23 fun x =>
    { x with edges := [⟨0, sec 100 - ms 4⟩, ⟨100, sec 100 - ms 1⟩], illegalAt := [sec 1], pulseUntil := some (sec 100) }

/-- Axis 23 in TONE_WHEEL mode, driven. -/
def toothed : State := (counting.put (Obj.feedbackMode 23) 1).onAxis 23 fun x => { x with en := true }

/-- Axis 23 with its phase captured, 3 counts behind it, and a pair that disagrees. -/
def referenced : State :=
  (((counting.put (Obj.feedbackStatus 23) 8).put (Obj.axisStatus 23) 0).put (Obj.inRev 23) 3).onAxis 23 fun x =>
    { x with pairBad := [true, false, true] }

/-- Axis 23 in SERIAL mode with 12 bits of turns and 12 bits of a turn. -/
def serial : State :=
  ((run.put (Obj.feedbackMode 23) 2).put (Obj.ssiLayout 23) (12 + 256 * 12)).put (Obj.countsPerRev 23) 4096

/-! Sequencers. -/

/-- A state without transitions. -/
def stayState : StateRec := ⟨0, 0, 0, 0, List.replicate 16 0, List.replicate 8 ⟨0, 0, 0, 0⟩, List.replicate 8 ⟨[0, 0, 0, 0, 0], 0, 0⟩⟩
/-- A state that goes on to state 1. -/
def goState : StateRec := { stayState with transCount := 1, trans := List.replicate 8 ⟨[0, 0, 0, 0, 0], 1, 0⟩ }

/-- Instance `i` runs a table of a kind whose states are given, with T3 running, a command that waits and one accepted. -/
def runsTable (i kind : Nat) (forced : Bool) (rs : List StateRec) (s : State) : State :=
  { (((s.put (Obj.functionState 1) 1).put (Obj.fnAxisMask 1) (2 ^ 24 - 1)).put (Obj.seqSet 1) 0).onInst i fun q =>
      { q with running := true, forced := forced, timers := [.off, .off, .off, .running (sec 1)]
               waiting := [⟨1, 5, 0⟩], accepted := [⟨2, 6, 0⟩] } with
    host := { HostSide.reset with nextFlight := 7, flights := [{ aFlight with id := 5 }, { aFlight with id := 6 }] }
    recd := { s.recd with tables := (List.replicate 32 none).set 31 (some ⟨kind, 0, 1, 1, 0, rs⟩) } }

/-- Instance 8, of axis 0, in a state that goes on. -/
def seqGoes : State := (runsTable 8 1 false [goState, stayState] run).put (Obj.seqTable 0) 31
/-- Instance 8 in a state without transitions. -/
def seqStays : State := (runsTable 8 1 false [stayState, stayState] run).put (Obj.seqTable 0) 31
/-- Instance 8 forced into its FaultState. -/
def seqForced : State := (runsTable 8 1 true [goState, stayState] run).put (Obj.seqTable 0) 31

/-! GP pins. -/

/-- Line 7 on pin 16p + 7 of port 0, both edges, an edge to report; unit 3 holds its pattern; a PPS pulse ends. -/
def pins : State :=
  ((((run.put (Obj.lineConfig 7) (256 * 10 + 16 * 3)).put (Obj.control 3) 1).put (Obj.holdTime 3) 100).put Obj.calState 1).onGp
    fun g => { g with
      sync := g.sync.set 7 true, units := g.units.set 3 ⟨some (sec 1)⟩, ppsUntil := some (sec 100) }

/-- The line's edge comes inside MinInterval, after one that was suppressed; unit 3 no longer holds. -/
def pinsBusy : State :=
  (((pins.put (Obj.lineConfig 7) (256 * 10 + 16)).put (Obj.control 3) 0).put (Obj.unitStatus 3) 3).onGp fun g =>
    { g with lines := g.lines.set 7 ⟨false, false, some (sec 100 - us 999), false⟩ }

/-- The line reports edges of the other direction alone. -/
def pinsOther : State := pins.put (Obj.lineConfig 7) (256 * 10 + 16 * 2)

/-- A suppressed edge whose interval has passed. -/
def pinsLate : State := pins.onGp fun g => { g with lines := g.lines.set 7 ⟨true, false, some (sec 1), true⟩ }

/-! The network. -/

/-- A frame of a host for a group. -/
def groupFrame : EthFrame := ⟨0x01005E000001, 0x020000000001, none, 1522, true, .data⟩
/-- The same from NI. -/
def ownGroup : NetFrame := ⟨groupFrame, none, sec 100, 6, 2, false, none⟩

/-- Both ports up and sending. -/
def sending : State :=
  { run with net := { Net.reset with
      ports := List.replicate 2 ⟨true, true, [[], [], [], []], some ownGroup, 0, none⟩, niWait := [ownGroup] } }

/-- The destination of a waiting frame is learned at port 1, and an old frame waits there. -/
def niWaits : State :=
  sending.onNet fun n => { n with
    learned := [⟨0x020000000002, 1, 0⟩]
    niWait := [{ ownGroup with frame := { groupFrame with dst := 0x020000000002 } }] }

/-- Port 0 sends behind a queue with an old and a young frame. -/
def oldFrames : State :=
  sending.onNet fun n => { n with
    ports := n.ports.set 0 ⟨true, true, [[], [{ ownGroup with at_ := 0, q := 1 }, { ownGroup with q := 1 }], [], []], some ownGroup, 0, none⟩ }

/-- Both links down, the PHYs powered and the coils energised. -/
def linksDown : State :=
  { run with net := { Net.reset with bypass := ⟨true, false, false, 0, 0, 0, false, false, true⟩ }
             sup := { Supply.reset ⟨.c2624, .t⟩ with rails := 31, pens := List.replicate 4 ⟨true, 0, none⟩ } }

/-- Port 0 idle in DOZE with EEE, and port 1 waking with a frame. -/
def lpiPorts : State :=
  { ((linksDown.put Obj.powerState 2).put (Obj.portStatus 0) 9).put (Obj.portStatus 1) 9 with
    net := { Net.reset with
      ports := [⟨true, true, [[], [], [], []], none, 0, none⟩, ⟨true, true, [[], [], [ownGroup], []], none, 0, some (sec 1)⟩] } }

/-- Every rail good and every PEN high. -/
def supplied : Supply := { Supply.reset ⟨.c2624, .t⟩ with rails := 31, pens := List.replicate 4 ⟨true, 0, none⟩ }

/-- The bypass in a state, 10 s since, with FD0 delivering and the PHYs powered. -/
def bypassIn (n : Nat) : State :=
  { latticeUp.put Obj.bypassState n with
    sup := supplied, net := { Net.reset with bypass := ⟨false, false, false, sec 90, 0, 0, false, false, true⟩ } }

/-- INSERTING with both links up. -/
def inserting : State := (bypassIn 2).onNet fun n => { n with ports := List.replicate 2 { PortUnit.reset with up := true } }

/-- The self-test runs in ON_GRANT. -/
def testing : State := (bypassIn 1).put Obj.bypassMode 2

/-- The transparent clock with one Sync that waits toward port NB. -/
def transparent : State :=
  (run.put Obj.tcEnable 1).onNet fun n => { n with tc := [⟨true, true, 65535, 2 ^ 64, 500, sec 99⟩, ⟨false, false, 0, 1, 0, 0⟩] }

/-- The best Announce of a grandmaster. -/
def anAnnounce : Announce :=
  { sender := 7, udp := true, domain := 0, priority1 := 1, clockClass := 6, accuracy := 0x20, variance := 0, priority2 := 1
    grandmaster := 9, steps := 0, utcOffset := some 37, intervalMs := 1000 }

/-- An ordinary clock that hears its master at port NA, has a Sync and a Delay_Req, and is sending. -/
def ordinary : State :=
  { (sending.put Obj.ptpEnable 1).put Obj.calState 3 with
    clk := { run.clk with calBase := 1000000000000, usedUtcOffset := some 37, ptpUtcOffset := some 37 } }.onNet fun n =>
    { n with
      ptp := { n.ptp with
        masters := [some ⟨anAnnounce, 0⟩, none], syncPending := some (5, 1000), sync := some (1100000000000, 1063000000400)
        delayReq := some (9, 1063000000500) } }

/-- The same with a large offset, and with the calendar set by hand. -/
def stepping : State := ordinary.onNet fun n => { n with ptp := { n.ptp with sync := some (1100000000000, 1063900000000) } }
def handSet : State := ordinary.put Obj.calSource 2

/-! Clocks. -/

/-- A calendar that is locked, its RTC trimmed long ago, and two bad counts of XTAL. -/
def locked : State :=
  { (run.put Obj.calState 3).put Obj.rtcAutoTrim 1 with
    now := sec 2000, clk := { run.clk with xtalBad := 1, disciplineRtc := some 0, lastTrim := 0, nclkBad := false } }

/-- HOLDOVER has lasted, the RTC has stopped and NCLK is out of its limits. -/
def holding : State :=
  { (run.put Obj.calState 3).put Obj.holdoverLimit 10 with
    clk := { run.clk with disciplineRtc := some 0, rtcBase := 32768000, nclkBad := true, rtcRuns := false } }

/-! The recorder. -/

/-- The Saltpan is open and a flush is due. -/
def recording : State := run.put Obj.recorderState 1

/-- A periodic flush waits. -/
def flushWaits : State := recording.onRec fun r => { r with queue := [Job.waiting (.flush false) [5]] }

/-- A flush, final or not, has run for long, with a transaction that waits for its commit. -/
def flushRuns (final : Bool) : State :=
  { (run.put Obj.recorderState 2).onRec fun r => { r with running := some { Job.waiting (.flush final) [5] with startedAt := sec 1 } } with
    host := { HostSide.reset with nextFlight := 6, flights := [{ aFlight with id := 5, phase := .held }] } }

/-- The temperature's extremes have been seen. -/
def extremes : State :=
  run.onRec fun r => { r with extremes := r.extremes.set 53 ⟨some ⟨20, 0, 0, 0⟩, some ⟨-5, 0, 0, 0⟩, false, 0, 0, 0, 0⟩ }

/-- The logic die has been too hot for 10 s. -/
def tooHot : State := { run.setBit Obj.periodicFault 2 true with diag := ⟨some (sec 90), []⟩ }

/-! Supplies. -/

/-- A device without and with a Spring, its recorder open. -/
def onMain : State := (recording.onSup fun u => { u with okAt := some 0, mainOk := true }).put Obj.cellCount 0
def withSpring : State := (recording.onSup fun u => { u with okAt := some 0, mainOk := true }).put Obj.cellCount 2
/-- It runs on its reserve since 50 s; over-voltage on main has ended. -/
def onReserve : State := (withSpring.put Obj.pathState 1).onSup fun u => { u with failAt := some (sec 50), mainOk := false }
def overVolt : State := withSpring.onSup fun u => { u with ov := true, ppMain := false }

/-! Rails, resets and phases. -/

/-- All rails good. -/
def railed : State := { run with sup := supplied }
/-- VPHY is missing long after its PEN rose, in P1. -/
def railMissing : State := { run.put Obj.powerPhase 0x11 with sup := { supplied with rails := 23 } }
/-- A start has failed 2 s ago. -/
def failedStart : State := { run with pow := { run.pow with failedAt := some (sec 98) }, rst := { run.rst with inReset := true } }
/-- The watchdog is armed and no tick has come; a DeviceReset's final flush has committed. -/
def watched : State :=
  { run with rst := { run.rst with armed := true, device := true, deviceCommitAt := some (sec 99) } }
/-- The logic die is in reset in OFF and nothing holds a start. -/
def parked : State :=
  { (run.put Obj.powerState 5).put Obj.wakeMask 255 with
    rst := { run.rst with inReset := true }, pow := { run.pow with restart := true } }
/-- STANDBY with a wake pin selected. -/
def standby : State :=
  { run.put Obj.powerState 4 with
    rst := { run.rst with inReset := true }, pow := { run.pow with held := [(Obj.wakeMask, 255), (Obj.wakePolarity, 255)] } }
/-- SLEEP with a planned wake that is due. -/
def asleep : State :=
  { run.put Obj.powerState 3 with pow := { run.pow with wakeTime := some (sec 100), restart := true, logicUp := false } }
/-- In TRIM, with a lane in use; an entry into SLEEP whose flush has ended; a wake that is due. -/
def trimmed : State := run.put Obj.powerState 1
def enteringSleep : State := recording.onPow fun p => { p with sleepAt := some (sec 99) }
def wakeDue : State := ((run.put Obj.calState 1).put Obj.wakeAt 5).onClk fun k => { k with calBase := 6000000000 }
/-- The phase, with the recorder's state. -/
def inPhase (ph r : Nat) : State := { (run.put Obj.powerPhase ph).put Obj.recorderState r with sup := supplied }
/-- P4 with its steps done, and a power-down with an off request. -/
def p4Done : State := ((inPhase 0x14 1).put Obj.latticeState 1).onPow fun p => { p with tested := true }
def offAsked : State := (inPhase 0 1).onPow fun p => { p with off := some 5 }

/-! Sessions. -/

/-- A session of a number over a transport. -/
def aSession (no : Nat) (tr : Transport) (keyless : Bool) : Session :=
  { no := no, sid := 0x1234 + no, transport := tr, peer := if tr = .link then linkPeer else ⟨0xC0A80001, 7000⟩
    sk := List.replicate 32 7, keyless := keyless, rxCount := 5, txCount := 7, timerAt := sec 1, closing := false
    endOn := none, safetyExpected := 1, safetySent := 0, subs := [], echo := [], cursorLog := 0, cursorSeq := 0
    windowSize := 512 }

/-- Master 0 over the local host link, master 1 over port NA and observer place 7 over port NA; master 0 holds every
semaphore and is a maintainer; every function is bound to it. -/
def hosted : State :=
  { ((((run.put (Obj.slotState 0) 2).put (Obj.slotState 1) 2).put (Obj.placeState 5) 2).put (Obj.maintainer 0) 1).put
      Obj.recorderState 1 with
    net := { Net.reset with ports := List.replicate 2 { PortUnit.reset with up := true } }
    host := { HostSide.reset with
      places := (((List.replicate 8 Place.empty).set 0 ⟨none, some (aSession 1 .link true), 0⟩).set 1
        ⟨none, some (aSession 2 .udpA false), 0⟩).set 7 ⟨none, some (aSession 3 .udpA false), 0⟩
      semas := List.replicate 64 (.held 0), nextSession := 4, nextFlight := 9 } }

/-- A state in which semaphore `n` is in the state `x`. -/
def withSema (n : Nat) (x : SemaState) (s : State) : State := s.onHost fun h => { h with semas := h.semas.set n x }

/-- The transaction of place `p` that lane 31 carries. -/
def asked (p op : Nat) (r : Req) : Flight :=
  { aFlight with place := p, sess := if p = 0 then 1 else if p = 1 then 2 else 3, op := op, req := r, link := decide (p = 0) }

/-- Lane 31 carries a transaction of place `p`, and nothing else is in flight. -/
def asks (p op : Nat) (r : Req) (s : State) : State :=
  s.onHost fun h => { h with flights := [asked p op r], nextFlight := 1 }

/-- The value of object `k` as a WRITE carries it. -/
def dataOf (k v : Nat) : List Byte := toLe (Machine.sizeOf k) v

/-- Lane 31 carries a WRITE of a value to object `k` by master 0. -/
def writes (k v : Nat) (s : State) : State := asks 0 0x11 (.write (k / 256) (k % 256) (dataOf k v)) s
/-- Lane 31 carries a CMD with a value to object `k` by master 0. -/
def commands (k v : Nat) (s : State) : State := asks 0 0x40 (.cmd (k / 256) (k % 256) (dataOf k v)) s

/-- Keys of M0 and of the observers are provisioned; no session is bound. -/
def keyed : State :=
  { (run.put Obj.keyM0 5).put (Obj.keyM0 + 2) 6 with net := { Net.reset with ports := List.replicate 2 { PortUnit.reset with up := true } } }

/-- A HELLO and a PROOF of a role. -/
def helloOf (role flags : Nat) : List Byte := [1, 1, byte role, byte flags, 0, 0, 0, 0] ++ List.replicate 16 9
def proofOf (role sid : Nat) (mac : List Byte) : List Byte :=
  [1, 3, byte role, 0] ++ toLe 2 sid ++ [0, 0] ++ List.replicate 16 9 ++ mac

/-- Place 0 waits for a PROOF since `at_`. -/
def challenged (keyless : Bool) (at_ : Nat) : State :=
  (keyed.put (Obj.slotState 0) 1).onPlace 0 fun q =>
    { q with challenge := some ⟨0x1234, List.replicate 16 9, List.replicate 16 8, false, .link, linkPeer, at_, keyless⟩ }

/-- Lock-outs, a challenge and hold-offs whose time has passed; a take that waits. -/
def timedOut : State :=
  { ((hosted.put (Obj.slotState 1) 3).put (Obj.slotState 0) 3).put (Obj.placeState 0) 1 with
    host := { hosted.host with
      gates := [⟨[], some (sec 100)⟩, ⟨[], some (sec 100 + 1)⟩, ⟨[], none⟩]
      places := (List.replicate 8 Place.empty).set 2 ⟨some ⟨1, [], [], false, .link, linkPeer, 0, false⟩, none, 0⟩
      semas := (List.replicate 64 (.holdoff 0)).set 63 (.holdoff 1)
      waits := [⟨63, 0, 0, sec 100⟩, ⟨5, 1, 0, sec 100⟩]
      flights := [{ asked 0 0x30 (.semaTake 63 100) with phase := .held }], nextFlight := 1 } }

/-- A HOST frame of a session with a count and a body. -/
def hostFrame (sid fc count : Nat) (body tag : List Byte) : List Byte :=
  [1, 0x10] ++ toLe 2 sid ++ toLe 4 fc ++ [0, 0, 0, 0, byte count, 0] ++ toLe 2 body.length ++ body ++ tag

/-- A KEEP element with a tag. -/
def keepElem : List Byte := [1, 0, 7, 0, 8, 0, 0, 0]
/-- A READ element of object 16#1001.01. -/
def readBytes : List Byte := [0x10, 0, 7, 0, 16, 0, 0, 0, 1, 0x10, 1, 0, 0, 0, 0, 0]

/-- The link has a frame of master 0 and NI one of master 1. -/
def admitting (body : List Byte) : State :=
  hosted.onHost fun h => { h with
    linkIngress := [⟨.link, linkPeer, 0, 1, 6, body, 1⟩], niIngress := [⟨.udpA, ⟨0xC0A80001, 7000⟩, 1, 2, 6, body, 1⟩] }

/-- A burst of master 0 is open with a segment that waits. -/
def bursting : State :=
  hosted.onHost fun h => { h with
    bursts := [⟨true, none, [], 0⟩, Burst.closed]
    flights := [{ asked 0 0x21 (.burstSeg 0 0x6000 3 0 [1, 0]) with phase := .queued, cls := 0 }] }

/-- A notice for master 0 that waits, and one that was sent and waits for its acknowledgement. -/
def aNotice : Notice :=
  { place := 0, sess := 1, subId := 255, source := 0x6001, seq := 3, kind := 1, safety := false, tb32 := 0, data := [], acked := true
    unicast := true, fn := 0, sentAt := none }
def noticed (sentAt : Option Nat) : State :=
  hosted.onHost fun h => { h with pool := [{ aNotice with sentAt := sentAt }], seqs := [(0x6001, 3)] }

/-- A completion of master 0 waits. -/
def completed : State :=
  hosted.onHost fun h => { h with done := [doneOf (asked 0 0x10 .keep) 0 0 [1, 2] 0], flights := [{ asked 0 0x10 .keep with phase := .done }] }

/-- A frame waits for the link. -/
def linkWaits : State := hosted.onHost fun h => { h with linkEgress := [⟨.link, linkPeer, false, [1, 2, 3], sec 100⟩] }

/-- A queued transaction waits for a lane, and 32 lanes are in use. -/
def grants : State := hosted.onHost fun h => { h with flights := [{ asked 0 0x10 (.read 0x1001 1 0 0) with phase := .queued }] }
def lanesFull : State :=
  hosted.onHost fun h => { h with flights := (List.range 32).map fun l => { aFlight with id := l, phase := .lane l } }

/-- Function 7 drains with a FunctionControl write that waits, and a weir notice was suppressed. -/
def draining : State :=
  { (hosted.put (Obj.functionState 7) 2) with
    host := { hosted.host with
      fns := (List.replicate 8 FnUnit.reset).set 7 ⟨0, false, true, true, [5], 0, 0, false, false⟩
      flights := [{ asked 0 0x11 (.write 0x1707 9 [2]) with id := 5, phase := .held }]
      weirs := (List.replicate 15 Weir.reset).set 14 ⟨0, true, some 0, some 0, true, true⟩ } }

/-! Transactions in lane 31. -/

/-- Master 0 has subscriptions; a CLOSE of it has nothing before it, or a KEEP. -/
def subscribed : State :=
  hosted.onSession 0 fun x => { x with subs := [⟨0, 0, 0, false, false⟩, ⟨255, 1, 0, true, true⟩] }
def closesFirst : State := asks 0 2 .close subscribed
def closesLater : State :=
  (closesFirst.onHost fun h => { h with flights := [{ aFlight with phase := .held }, { asked 0 2 .close with id := 1 }], nextFlight := 2 })

/-- Master 0 has a burst. -/
def withBurst (b : Burst) (s : State) : State := s.onHost fun h => { h with bursts := [b, Burst.closed] }
/-- A staged segment that sets the input filter of channel 0. -/
def aSegment (v : Nat) : Segment := ⟨0, 0x6000, 2, 0, toLe 2 v, [0, 0], false⟩

/-- Master 1 waits for semaphore 63, which master 0 holds. -/
def semaWaits : State :=
  (asks 0 0x31 (.semaGive 63) hosted).onHost fun h => { h with
    flights := h.flights ++ [{ asked 1 0x30 (.semaTake 63 100) with id := 1, phase := .held }], nextFlight := 2
    waits := [⟨63, 1, 1, sec 200⟩] }

/-- A sequencer instance runs. -/
def instRuns (i : Nat) (s : State) : State := s.onInst i fun q => { q with running := true }

end Sys2Proof.Tests
end

