-- ==== Sys2Proof/WellFormed.lean ====
section
/-!
DEFINITION. WellFormed.lean: commands whose operands lie in the ranges that the spec gives their fields. A range of a
number of an axis, a channel or a lane stands in its type.
-/
namespace Sys2Proof

/-- An IPv4 address and a UDP port (R206). -/
def Peer.wf (p : Peer) : Bool := decide (p.ip < 2 ^ 32 ∧ p.port < 65536)
/-- A Dulas frame holds at most 1472 bytes (R230). -/
def frameWf (bs : List Byte) : Bool := decide (bs.length ≤ 1472)
/-- A MAC address. -/
def macWf (a : Nat) : Bool := decide (a < 2 ^ 48)
/-- An entry of a NOTICE_ACK: SubscriptionId, Source, AckSeq (R249). -/
def ackWf (e : Nat × Nat × Nat) : Bool := decide (e.1 < 256 ∧ e.2.1 < 65536 ∧ e.2.2 < 65536)
/-- An Ethernet frame: addresses and a tag of their widths. -/
def EthFrame.wf (f : EthFrame) : Bool :=
  macWf f.dst && macWf f.src && (f.tag.map fun t => decide (t.1 < 8 ∧ t.2 < 4096)).getD true
/-- An Announce: the fields of a byte and of 16 bits. -/
def Announce.wf (a : Announce) : Bool :=
  decide (a.domain < 256 ∧ a.priority1 < 256 ∧ a.clockClass < 256 ∧ a.accuracy < 256 ∧ a.variance < 65536
    ∧ a.priority2 < 256 ∧ a.grandmaster < 2 ^ 64 ∧ a.steps < 65536)

/-- The command is well formed. -/
def Instr.wf : Instr → Bool
  | .hello _ p frame => p.wf && frameWf frame
  | .proof _ p frame => p.wf && frameWf frame
  | .authLockoutExpiry _ => true
  | .challengeTimeout _ => true
  | .hostFrameRx _ p frame => p.wf && frameWf frame
  | .frameAdmission _ => true
  | .laneGrant => true
  | .keep _ => true
  | .close _ => true
  | .read _ => true
  | .write _ => true
  | .readMulti _ => true
  | .writeMulti _ => true
  | .burstBegin _ => true
  | .burstSeg _ => true
  | .burstEnd _ => true
  | .burstAbort _ tag frame elem => decide (tag < 512 ∧ frame < 2 ^ 32 ∧ elem < 64)
  | .burstIdleExpiry _ => true
  | .semaTake _ => true
  | .semaGive _ => true
  | .semaWaitExpiry _ _ => true
  | .semaQuery _ => true
  | .subscribe _ => true
  | .unsubscribe _ => true
  | .store _ => true
  | .noticeAck _ entries => decide (entries.length ≤ 32) && entries.all ackWf
  | .noticeResend _ => true
  | .completionFrameSend _ => true
  | .sessionTimeout _ => true
  | .semaHoldoffExpiry _ => true
  | .slotReset _ => true
  | .keyWrite _ => true
  | .maintainerWrite _ => true
  | .hostLinkReset => true
  | .linkWriteExchange header frame _ => decide (header.length = 4 ∧ frame.length ≤ 1476)
  | .linkReadExchange header _ _ => decide (header.length = 4)
  | .linkStatusExchange header => decide (header.length = 4)
  | .sideCommand _ => true
  | .axisCommand _ => true
  | .flushNow _ => true
  | .powerCommandOff _ => true
  | .powerCommandStandby _ => true
  | .powerCommandStay _ => true
  | .seqTick => true
  | .cmdWaitExpiry _ => true
  | .cmdLifeExpiry _ => true
  | .seqTimerExpiry _ _ => true
  | .bindingWrite _ => true
  | .loadFactoryImage _ => true
  | .latticeFrame _ _ => true
  | .latticeLinkTimeout _ => true
  | .latticeFilterExpiry _ => true
  | .channelDisagree _ => true
  | .discrepancyTimeout _ => true
  | .inputFaultClear _ => true
  | .readbackSample _ _ => true
  | .rbNoPull _ => true
  | .rbStuckPulled _ => true
  | .testPulseStart _ => true
  | .testPulseEnd _ => true
  | .pulseFault _ => true
  | .coilDrive _ => true
  | .monitorWindow _ => true
  | .monitorCount _ => true
  | .latticeInitEnd _ => true
  | .speedLoopUpdate => true
  | .dirGuardEnd _ => true
  | .currentWindow _ _ => true
  | .atTarget _ => true
  | .overtime _ => true
  | .endStopDetect _ => true
  | .armDelayExpiry _ => true
  | .currentTrip _ => true
  | .speedTrip _ => true
  | .tripInput _ _ => true
  | .overcurrent _ _ _ _ => true
  | .senseFault _ _ => true
  | .directionFault _ => true
  | .setpointUpdate => true
  | .captureSeed _ => true
  | .resetToSeed _ => true
  | .seedWrite _ => true
  | .feedbackConfigWrite _ => true
  | .encoderEdge _ _ _ => true
  | .pairGlitch _ _ _ => true
  | .pairFault _ _ _ => true
  | .referenceMark _ => true
  | .toneTooth _ => true
  | .ssiWordStart _ _ => true
  | .ssiWordEnd _ word => decide (word < 2 ^ 32)
  | .speedCompute _ => true
  | .latchArm _ => true
  | .latchSourceWrite _ => true
  | .comparePulseEnd _ => true
  | .compareArm _ => true
  | .functionalFrame _ _ => true
  | .functionalLinkTimeout _ => true
  | .inputFilterExpiry _ => true
  | .inputFilterWrite _ => true
  | .inputVoltageWindow _ _ => true
  | .marginal _ => true
  | .xcheckSet _ => true
  | .xcheckClear _ => true
  | .comparatorSelftest _ _ => true
  | .testWindowStart _ => true
  | .testWindowEnd _ => true
  | .filterHoldEnd _ => true
  | .inputOverload _ => true
  | .overloadClear _ => true
  | .diagStickyWrite _ => true
  | .channelModeWrite _ => true
  | .gangModeWrite _ => true
  | .testSourceWrite _ => true
  | .outputFrame _ _ => true
  | .outputLinkTimeout _ => true
  | .outputDemandWrite _ => true
  | .currentLatchOff _ _ _ => true
  | .inrushWindowEnd _ => true
  | .clampEventEnd _ _ => true
  | .clampDecay _ => true
  | .fwMissing _ _ _ _ => true
  | .outputReset _ => true
  | .cellOvertemp _ _ => true
  | .thermalRetry _ _ _ => true
  | .openLoadOn _ _ _ => true
  | .offStateCheck _ _ _ => true
  | .offCheckClear _ _ _ _ => true
  | .pwmCompensation _ _ => true
  | .directPinChange _ _ => true
  | .dieUnderVoltage _ _ _ => true
  | .dieUvExit _ _ _ => true
  | .fieldPor _ _ => true
  | .fieldPorReload _ => true
  | .surgeEntry _ _ _ => true
  | .surgeExit _ _ _ => true
  | .gndShiftEntry _ _ _ => true
  | .gndShiftExit _ _ _ => true
  | .reverseSupply _ => true
  | .porSeenClear _ => true
  | .flushPeriodExpiry => true
  | .flushStart => true
  | .journalCommit => true
  | .windowRead _ => true
  | .clearLog _ => true
  | .histogramSample vfld _ => decide (vfld.length = 4)
  | .extremeSample vfld _ rails _ => decide (vfld.length = 4 ∧ rails.length = 5)
  | .restoreDefaults _ => true
  | .portFrameRx _ f => f.wf
  | .niFrameTx dst => macWf dst
  | .learnAgeing mac => macWf mac
  | .flushLearned _ => true
  | .blockedPortWrite _ => true
  | .frameAgeDiscard _ => true
  | .linkUp _ _ _ _ _ _ => true
  | .linkDown _ => true
  | .arpRequest _ target sender => decide (target < 2 ^ 32) && macWf sender
  | .icmpEcho _ target sender _ => decide (target < 2 ^ 32) && macWf sender
  | .bypassSelftestStart => true
  | .bypassSelftestEnd _ _ _ => true
  | .bypassNoPull _ _ => true
  | .insertLinkTimeout => true
  | .bypassDropped _ _ _ => true
  | .insertGrant _ => true
  | .bypassModeWrite _ => true
  | .portReset _ => true
  | .lpiEntry _ => true
  | .lpiWake _ => true
  | .announceRx _ a => a.wf
  | .announceTimeout _ => true
  | .syncRx _ _ domain _ seq _ _ _ _ => decide (domain < 256 ∧ seq < 65536)
  | .delayReqTx => true
  | .delayRespRx _ _ domain _ seq _ _ => decide (domain < 256 ∧ seq < 65536)
  | .tcEventForward _ f _ => f.wf
  | .tcCorrection _ f => f.wf
  | .tcEntryExpiry => true
  | .functionEnable _ => true
  | .functionDisable _ => true
  | .functionReset _ => true
  | .drainEnd _ => true
  | .functionMaskWrite _ => true
  | .boundSlotWrite _ => true
  | .weirNoticeIntervalEnd _ _ => true
  | .weirStatusWrite _ => true
  | .eccUncorrectable _ _ _ _ => true
  | .mainFail _ _ => true
  | .mainOk _ _ => true
  | .chargerResume => true
  | .mainOv _ _ => true
  | .mainOvClear _ _ => true
  | .reserveCycle cells _ _ => decide (cells.length ≤ 16)
  | .chemistryWrite _ => true
  | .railBrownOut _ _ _ => true
  | .vphyBrownOut _ _ => true
  | .vaonPor _ _ => true
  | .railPowerGood _ _ => true
  | .railStartTimeout => true
  | .failedStartRetry => true
  | .trimEntry => true
  | .trimExit => true
  | .plannerEvaluation => true
  | .sleepExit => true
  | .wakePin _ _ _ => true
  | .plannedWake => true
  | .hostLinkWake => true
  | .deepGrantWrite _ => true
  | .nextServiceWrite _ => true
  | .wakeAtReached => true
  | .phaseP0 => true
  | .phaseP1 => true
  | .phaseP2 => true
  | .phaseP3 => true
  | .phaseP4 fails _ _ clocks _ => decide (fails < 256 ∧ clocks < 128)
  | .phaseP5 => true
  | .phaseD0 => true
  | .phaseD1 => true
  | .phaseD2 => true
  | .phaseD3 => true
  | .phaseD4 => true
  | .restartHoldoffExpiry => true
  | .pllUnlock _ => true
  | .xtalFreq _ => true
  | .clockDivFault _ _ => true
  | .nclkDiv _ => true
  | .nclkRecover _ => true
  | .rtcStop _ => true
  | .calSet _ => true
  | .rtcAutoTrim _ => true
  | .calOffsetSave => true
  | .holdoverExpiry => true
  | .operatingSecond => true
  | .xresetAssert _ => true
  | .xresetRelease => true
  | .watchdogExpiry => true
  | .deviceReset _ => true
  | .deviceResetAssert => true
  | .outputLevelWrite _ => true
  | .setBits _ => true
  | .clearBits _ => true
  | .patternUnitWrite _ => true
  | .patternMatch _ => true
  | .patternMatchEnd _ => true
  | .lineEdge _ => true
  | .minIntervalEnd _ => true
  | .ppsPulse => true
  | .sramScrubRound _ => true
  | .mramScrub _ _ => true
  | .dieTempSample _ => true
  | .overTempShutdown => true
  | .fieldInputChange _ _ _ => true
  | .gpPinChange _ _ => true
  | .flashToggle _ => true
  | .rtcEdgesReturn => true
  | .ppsPulseEnd => true
  | .noticeFrameSend => true
  | .egressFrameEnd _ => true
  | .partnerLpi _ _ => true
  | .illegalBitExpiry _ => true

end Sys2Proof
end

section
/-! The objects that show their store value: a number of the dictionary, spelled by its descriptor, and its view. -/
namespace Sys2Proof.Machine
open Sys2Proof Sys2Proof.Config

/-- A descriptor spells the number that it was found for. -/
theorem lookup_spells {k i : Nat} {g : Group} {d : Sub} (h : lookup k = some (g, i, d)) :
    256 * (g.lo + i) + d.sub = k := by
  unfold lookup at h; dsimp only at h
  split at h
  next g' hg =>
    split at h
    next d' hd =>
      simp only [Option.some.injEq, Prod.mk.injEq] at h
      obtain ⟨rfl, rfl, rfl⟩ := h
      have hlo := List.find?_some hg
      have hsub := List.find?_some hd
      simp only [Bool.and_eq_true, decide_eq_true_eq, beq_iff_eq] at hlo hsub
      omega
    next => cases h
  next => cases h

/-- An object of a range that no entry of `views` computes shows its value in the store. -/
theorem view_shift (k0 i n : Nat) (s : State) (hn : rangeOf k0 = n) (hi : i < n)
    (hv : (views.map Prod.fst).contains k0 = false) : s.view (k0 + 256 * i) = s.get (k0 + 256 * i) := by
  obtain ⟨g, d, h0, h⟩ := lookup_range k0 i (hn ▸ hi)
  have hk : 256 * g.lo + d.sub = k0 := lookup_spells h0
  have hnone : (views.find? fun v => v.1 == 256 * g.lo + d.sub) = none := by
    rw [hk, List.find?_eq_none]
    intro v hmem he
    rw [List.contains_eq_mem, decide_eq_false_iff_not] at hv
    exact hv (beq_iff_eq.1 he ▸ List.mem_map_of_mem hmem)
  simp only [State.view, h, hnone]

theorem isDom_shift (k0 i n : Nat) (hn : rangeOf k0 = n) (hi : i < n) : isDom (k0 + 256 * i) = isDom k0 := by
  obtain ⟨g, d, h0, h⟩ := lookup_range k0 i (hn ▸ hi)
  simp [isDom, h0, h]

/-- A session reads what the object shows, the three objects of its own cursor and window apart (R159). -/
theorem readValue_eq_view (s : State) (p k : Nat) (h1 : k ≠ Obj.cursorLog) (h2 : k ≠ Obj.cursorSeq)
    (h3 : k ≠ Obj.windowSize) : s.readValue p k = s.view k := by
  simp [State.readValue, h1, h2, h3]

end Sys2Proof.Machine
end

section
/-! A transaction in its lane: what the start of a row runs, and the COMPLETE that it leaves (R236, R245). -/
namespace Sys2Proof.Machine
open Sys2Proof Sys2Proof.Config

theorem Carries.phase {l : Fin 32} {f : Flight} {s : State} (h : Carries l f s) : f.phase = .lane l :=
  of_decide_eq_true (List.find?_some (p := fun f : Flight => decide (f.phase = .lane l)) h.lane)

/-- The row of a carried transaction runs it: its start refuses nothing. -/
theorem Carries.runLane_eq {l : Fin 32} {f : Flight} {s : State} (h : Carries l f s) {w : Work} (hw : f.work = w) :
    runLane w l s = runReq f s := by
  simp only [runLane, h.lane, hw, if_true, startWork, h.starts]

/-- A transaction that is known, not yet complete and not orphaned adds its one COMPLETE. -/
theorem completeWith_host_done (f : Flight) (st det : Nat) (data : List Byte) (s : State) (hk : s.flight f.id = some f)
    (hp : f.phase ≠ .done) (ho : f.orphan = false) :
    (completeWith f.id st det data s).host.done = s.host.done ++ [doneOf f st det data s.now] := by
  simp [completeWith, hk, hp, ho, doneOf, State.onFlight, State.onHost]

theorem Carries.completed {l : Fin 32} {f : Flight} {s : State} (h : Carries l f s) (st det : Nat) (data : List Byte) :
    Completed f st det data s (completeWith f.id st det data s) :=
  completeWith_host_done f st det data s h.known (by rw [h.phase]; nofun) h.own

/-- What moves notices and completions alone leaves the device untouched. -/
theorem Told.untouched {s t : State} (h : Told s t) : Untouched s t where
  objs := h.obj
  rest := ⟨h.lat, h.seq, h.recd, h.salt, h.axes, h.setpts, h.chans, h.dies, h.sup, h.pow, h.clk, h.rst, h.net, h.gp⟩
  host := ⟨h.host_places, h.host_semas, h.host_bursts, h.host_waits⟩

theorem Untouched.seal {s t : State} (h : Untouched s t) (hv : t.variant = s.variant) :
    Untouched s { t with variant := s.variant, pending := s.pending } where
  objs k hk := (seal_get hv k).trans (h.objs k hk)
  rest := h.rest
  host := h.host

/-- A row whose carried transaction only completes answers so. -/
theorem Carries.answers_completeWith {l : Fin 32} {f : Flight} {s : State} (h : Carries l f s) {c : Instr} {w : Work}
    {st det : Nat} {data : List Byte} (hc : exec c s = s.answerLive (runLane w l)) (hw : f.work = w)
    (hr : runReq f s = completeWith f.id st det data s) :
    Answers c s fun t => Untouched s t ∧ Completed f st det data s t := by
  refine answers_of (completeWith f.id st det data s) ?_ ⟨?_, h.completed st det data⟩
  · rw [hc, answerLive_live h.live, h.runLane_eq hw, hr]
  · exact (told_completeWith ..).untouched.seal (completeWith_variant s ..)

/-- READ of a whole value that passes the checks answers with what its session reads there (R178). -/
theorem Carries.answers_read_value {l : Fin 32} {f : Flight} {s : State} (h : Carries l f s) {idx sub k : Nat}
    (hop : f.op = 0x10) (hreq : f.req = .read idx sub 0 0) (hk : 256 * idx + sub = k) (hwin : k ≠ Obj.window)
    (hdom : isDom k = false) (hacc : s.access (f.writer false) .read k = 0) :
    Answers (.read l) s fun t =>
      Untouched s t ∧ Completed f 0 0 (toLe (sizeOf k) (s.readValue f.place k)) s t := by
  have hw : f.work = .read := by simp only [Flight.work, hreq, hk, hwin, if_false]
  have hobj : readObject (f.writer false) k 0 0 s = (0, s.readBytes f.place k, s) := by
    have hplace : (f.writer false).place = f.place := rfl
    simp only [readObject, hacc, hwin, hdom, hplace, if_false, Bool.false_eq_true, ne_eq, not_true, or_self]
  refine h.answers_completeWith (w := .read) rfl hw ?_
  simp only [runReq, hop, hreq, hk, runRead, hobj, State.readBytes]

end Sys2Proof.Machine
end

section
/-! RetryCount of an axis (R50): its object, the RETRY action and the RETRY literal. -/
namespace Sys2Proof.Machine
open Sys2Proof Sys2Proof.Config

section
variable (a : Fin 24)

theorem rangeOf_retryCount : rangeOf (Obj.retryCount 0) = 24 := by decide

theorem retryCount_plain : isConst (Obj.retryCount a) = false :=
  (isConst_shift (Obj.retryCount 0) a 24 rangeOf_retryCount a.isLt).trans (by decide)

theorem sizeOf_retryCount : sizeOf (Obj.retryCount a) = 1 :=
  (sizeOf_shift (Obj.retryCount 0) a 24 rangeOf_retryCount a.isLt).trans (by decide)

theorem isDom_retryCount : isDom (Obj.retryCount a) = false :=
  (isDom_shift (Obj.retryCount 0) a 24 rangeOf_retryCount a.isLt).trans (by decide)

theorem retryCount_ne_of_lt {k : Nat} (h : k < 0x310000) : Obj.retryCount a ≠ k := by
  unfold Obj.retryCount; omega

/-- A session reads RetryCount as it stands in the store. -/
theorem readValue_retryCount (s : State) (p : Nat) : s.readValue p (Obj.retryCount a) = s.get (Obj.retryCount a) := by
  rw [readValue_eq_view s p _ (retryCount_ne_of_lt a (by decide)) (retryCount_ne_of_lt a (by decide))
    (retryCount_ne_of_lt a (by decide))]
  exact view_shift (Obj.retryCount 0) a 24 s rangeOf_retryCount a.isLt (by decide)

/-- The count that the RETRY action leaves: 0, or one more up to 15. -/
def retryNext (b1 n : Nat) : Nat := if b1 = 0 then 0 else min 15 (n + 1)

theorem fitTo_retryNext (b1 n : Nat) : fitTo (Obj.retryCount a) (retryNext b1 n) = retryNext b1 n := by
  have hle : retryNext b1 n ≤ 15 := by unfold retryNext; split <;> omega
  rw [fitTo, sizeOf_retryCount, if_neg (by decide)]
  exact Nat.mod_eq_of_lt (by omega)

/-- The RETRY action (op 8) of the sequencer of axis `a` writes its RetryCount and nothing else. -/
theorem act_retry (r : StateRec) (b1 b2 b3 : Nat) (s : State) :
    act (8 + a) r ⟨8, b1, b2, b3⟩ s = s.put (Obj.retryCount a) (retryNext b1 (s.get (Obj.retryCount a))) := by
  simp only [act, retryNext, Nat.add_sub_cancel_left]

theorem act_retry_get_self (r : StateRec) (b1 b2 b3 : Nat) (s : State) :
    (act (8 + a) r ⟨8, b1, b2, b3⟩ s).get (Obj.retryCount a) = retryNext b1 (s.get (Obj.retryCount a)) := by
  rw [act_retry, get_put_self _ _ _ (retryCount_plain a), fitTo_retryNext]

theorem act_retry_get_ne (r : StateRec) (b1 b2 b3 k : Nat) (s : State) (hk : k ≠ Obj.retryCount a) :
    (act (8 + a) r ⟨8, b1, b2, b3⟩ s).get k = s.get k := by
  rw [act_retry, get_put_ne _ _ _ _ hk]

/-- The RETRY literal (class 10) compares RetryCount with its operand, 16 standing for RetryLimit. -/
theorem litHolds_retry (s : State) (n : Nat) (hn : n < 1024) :
    s.litHolds (8 + a) (lit 10 n) =
      decide ((if n = 16 then s.get (Obj.retryLimit a) else n) ≤ s.get (Obj.retryCount a)) := by
  have hcls : litClass (lit 10 n) = 10 := by unfold litClass lit; omega
  have hop : litOp (lit 10 n) = n := by unfold litOp lit; omega
  simp only [State.litHolds, hcls, hop, Nat.add_sub_cancel_left]

end

/-- Settles O59: the RETRY action is one write of RetryCount, the RETRY literal one comparison, and a READ answers with
the object as it stands in the store. -/
theorem retryCountsClearSaturateAndCompare : Obligations.RetryCountsClearSaturateAndCompare := by
  unfold Obligations.RetryCountsClearSaturateAndCompare
  intro s a r b2 b3
  refine ⟨act_retry_get_self a r 0 b2 b3 s, act_retry_get_self a r 1 b2 b3 s,
    fun b1 k hk => act_retry_get_ne a r b1 b2 b3 k s hk, fun n hn => ?_, litHolds_retry a s 16 (by decide), ?_⟩
  · rw [litHolds_retry a s n (by omega), if_neg (by omega)]
  · intro l f hf hop hreq hacc
    have hread := hf.answers_read_value hop hreq (k := Obj.retryCount a) (by unfold Obj.retryCount; omega)
      (retryCount_ne_of_lt a (by decide)) (isDom_retryCount a) hacc
    rwa [sizeOf_retryCount, readValue_retryCount] at hread

end Sys2Proof.Machine
end

section
/-! The rows of a WRITE or CMD of one object (R173, R236), and its refusal: the check's status and nothing else. -/
namespace Sys2Proof.Machine
open Sys2Proof Sys2Proof.Config

/-- The command that is a row of the table in lane `l`. -/
def Work.row (l : Fin 32) : Work → Instr
  | .keep => .keep l
  | .close => .close l
  | .read => .read l
  | .windowRead => .windowRead l
  | .write => .write l
  | .readMulti => .readMulti l
  | .writeMulti => .writeMulti l
  | .burstBegin => .burstBegin l
  | .burstSeg => .burstSeg l
  | .burstEnd => .burstEnd l
  | .semaTake => .semaTake l
  | .semaGive => .semaGive l
  | .semaQuery => .semaQuery l
  | .subscribe => .subscribe l
  | .unsubscribe => .unsubscribe l
  | .store => .store l
  | .slotReset => .slotReset l
  | .keyWrite => .keyWrite l
  | .maintainerWrite => .maintainerWrite l
  | .sideCommand => .sideCommand l
  | .axisCommand => .axisCommand l
  | .flushNow => .flushNow l
  | .powerOff => .powerCommandOff l
  | .powerStandby => .powerCommandStandby l
  | .powerStay => .powerCommandStay l
  | .bindingWrite => .bindingWrite l
  | .loadFactoryImage => .loadFactoryImage l
  | .captureSeed => .captureSeed l
  | .resetToSeed => .resetToSeed l
  | .seedWrite => .seedWrite l
  | .feedbackConfigWrite => .feedbackConfigWrite l
  | .latchArm => .latchArm l
  | .latchSourceWrite => .latchSourceWrite l
  | .compareArm => .compareArm l
  | .inputFilterWrite => .inputFilterWrite l
  | .diagStickyWrite => .diagStickyWrite l
  | .channelModeWrite => .channelModeWrite l
  | .gangModeWrite => .gangModeWrite l
  | .testSourceWrite => .testSourceWrite l
  | .outputDemandWrite => .outputDemandWrite l
  | .outputReset => .outputReset l
  | .porSeenClear => .porSeenClear l
  | .clearLog => .clearLog l
  | .restoreDefaults => .restoreDefaults l
  | .flushLearned => .flushLearned l
  | .blockedPortWrite => .blockedPortWrite l
  | .insertGrant => .insertGrant l
  | .bypassModeWrite => .bypassModeWrite l
  | .portReset => .portReset l
  | .functionEnable => .functionEnable l
  | .functionDisable => .functionDisable l
  | .functionReset => .functionReset l
  | .functionMaskWrite => .functionMaskWrite l
  | .boundSlotWrite => .boundSlotWrite l
  | .weirStatusWrite => .weirStatusWrite l
  | .chemistryWrite => .chemistryWrite l
  | .deepGrantWrite => .deepGrantWrite l
  | .nextServiceWrite => .nextServiceWrite l
  | .calSet => .calSet l
  | .deviceReset => .deviceReset l
  | .outputLevelWrite => .outputLevelWrite l
  | .setBits => .setBits l
  | .clearBits => .clearBits l
  | .patternUnitWrite => .patternUnitWrite l

/-- Every row of a lane does one thing: its work on the transaction of that lane. -/
theorem exec_row (l : Fin 32) (w : Work) (s : State) : exec (w.row l) s = s.answerLive (runLane w l) := by
  cases w <;> rfl

/-- The kinds of work that are a WRITE or CMD of one object, in the order of `objectRows`. -/
def objectWorks : List Work :=
  [.write, .slotReset, .keyWrite, .maintainerWrite, .deviceReset, .powerOff, .powerStandby, .powerStay, .bindingWrite,
   .loadFactoryImage, .captureSeed, .resetToSeed, .seedWrite, .feedbackConfigWrite, .latchArm, .latchSourceWrite,
   .compareArm, .inputFilterWrite, .diagStickyWrite, .channelModeWrite, .gangModeWrite, .testSourceWrite,
   .outputDemandWrite, .outputReset, .porSeenClear, .clearLog, .restoreDefaults, .flushLearned, .blockedPortWrite,
   .insertGrant, .bypassModeWrite, .portReset, .functionEnable, .functionDisable, .functionReset, .functionMaskWrite,
   .boundSlotWrite, .weirStatusWrite, .chemistryWrite, .deepGrantWrite, .nextServiceWrite, .calSet, .outputLevelWrite,
   .setBits, .clearBits, .patternUnitWrite, .sideCommand, .axisCommand, .flushNow]

theorem objectRows_eq_map (l : Fin 32) : objectRows l = objectWorks.map (Work.row l) := rfl

theorem writeWork_mem_objectWorks (g sub v : Nat) : writeWork g sub v ∈ objectWorks := by
  unfold writeWork
  repeat' split
  all_goals decide

theorem cmdWork_mem_objectWorks (g sub : Nat) : cmdWork g sub ∈ objectWorks := by
  unfold cmdWork
  split <;> decide

/-- The transaction is a WRITE, or a CMD, of `data` to object `idx`.`sub`; `o` says which. -/
def Flight.Asks (f : Flight) (o : OpKind) (idx sub : Nat) (data : List Byte) : Prop :=
  (o = .write ∧ f.op = 0x11 ∧ f.req = .write idx sub data) ∨ (o = .cmd ∧ f.op = 0x40 ∧ f.req = .cmd idx sub data)

section
variable {f : Flight} {o : OpKind} {idx sub : Nat} {data : List Byte}

theorem Flight.Asks.work_mem (h : f.Asks o idx sub data) : f.work ∈ objectWorks := by
  obtain ⟨-, -, hreq⟩ | ⟨-, -, hreq⟩ := h
  · simp only [Flight.work, hreq]
    split
    · exact writeWork_mem_objectWorks ..
    · decide
  · simp only [Flight.work, hreq]
    split
    · exact cmdWork_mem_objectWorks ..
    · decide

theorem Flight.Asks.runReq_eq (h : f.Asks o idx sub data) (s : State) :
    runReq f s = runWrite o f (256 * idx + sub) data s := by
  obtain ⟨rfl, hop, hreq⟩ | ⟨rfl, hop, hreq⟩ := h <;> simp only [runReq, hop, hreq]

/-- A WRITE or CMD that a check refuses only completes, with that check's status; a table slot's notes its refusal too. -/
theorem runWrite_refused {s : State} {k st : Nat} (hst : s.writeRefusal (f.writer true) o k data = st) (h0 : st ≠ 0)
    (htab : st ≠ 0x0330) : runWrite o f k data s = complete f.id st s := by
  have hobj : writeObject (f.writer true) o k data s = (some st, s) := by
    unfold writeObject
    split
    case h_1 heq => exact absurd (hst.symm.trans heq) h0
    case h_2 => rw [hst, if_neg htab]
  simp only [runWrite, hobj]

/-- The row of a WRITE or CMD that a check refuses answers with that status and no effect (R11, R173). -/
theorem Carries.answers_refused {l : Fin 32} {s : State} {st : Nat} (h : Carries l f s) (ha : f.Asks o idx sub data)
    (hst : s.writeRefusal (f.writer true) o (256 * idx + sub) data = st) (h0 : st ≠ 0) (htab : st ≠ 0x0330) :
    ∃ c ∈ objectRows l, Answers c s fun t => Untouched s t ∧ Completed f st 0 [] s t := by
  refine ⟨f.work.row l, objectRows_eq_map l ▸ List.mem_map_of_mem ha.work_mem,
    h.answers_completeWith (exec_row l f.work s) rfl ?_⟩
  rw [ha.runReq_eq, runWrite_refused hst h0 htab, complete]

end

end Sys2Proof.Machine
end

section
/-! Objects that one value alone triggers (R415): their entry in the dictionary names it. -/
namespace Sys2Proof.Machine
open Sys2Proof Sys2Proof.Config

/-- The one value of a range that holds one alone. -/
def soleValue : Rng → Option Nat
  | .only v => some v
  | _ => none

theorem soleValue_eq_some {r : Rng} {v : Nat} (h : soleValue r = some v) : r = .only v := by
  cases r
  case only => exact congrArg Rng.only (Option.some.inj h)
  all_goals cases h

/-- The one value that the entry of an object takes, where it takes one alone (R168, R415). -/
def onlyValue (k : Nat) : Option Nat := (lookup k).bind fun e => soleValue e.2.2.rng

theorem onlyValue_eq_some {k v : Nat} (h : onlyValue k = some v) :
    ∃ g i d, lookup k = some (g, i, d) ∧ d.rng = .only v := by
  obtain ⟨⟨g, i, d⟩, hk, hd⟩ := Option.bind_eq_some_iff.1 h
  exact ⟨g, i, d, hk, soleValue_eq_some hd⟩

theorem onlyValue_shift (k0 i n : Nat) (hn : rangeOf k0 = n) (hi : i < n) :
    onlyValue (k0 + 256 * i) = onlyValue k0 := by
  obtain ⟨g, d, h0, h⟩ := lookup_range k0 i (hn ▸ hi)
  simp [onlyValue, h0, h]

theorem onlyValue_outputReset {c : Nat} (hc : c < 256) : onlyValue (Obj.outputReset c) = some 0xA5 :=
  (onlyValue_shift (Obj.outputReset 0) c 256 (by decide) hc).trans (by decide)

theorem onlyValue_portReset {p : Nat} (hp : p < 2) : onlyValue (Obj.portReset p) = some 0xA5 :=
  (onlyValue_shift (Obj.portReset 0) p 2 (by decide) hp).trans (by decide)

theorem onlyValue_slotReset {m : Nat} (hm : m < 2) : onlyValue (Obj.slotReset m) = some 0xA5 :=
  (onlyValue_shift (Obj.slotReset 0) m 2 (by decide) hm).trans (by decide)

theorem firstOf_zero_cons (xs : List Nat) : firstOf (0 :: xs) = firstOf xs := rfl

theorem firstOf_singleton (x : Nat) : firstOf [x] = x := by
  simp only [firstOf]
  split
  next h => exact h.symm
  next => rfl

theorem firstOf_cons_of_ne {x : Nat} (hx : x ≠ 0) (xs : List Nat) : firstOf (x :: xs) = x := if_neg hx

/-- Any other value of the right length is refused at the object's range (step 13). -/
theorem valueRefusal_only {k v : Nat} {data : List Byte} (hk : onlyValue k = some v) (hlen : data.length = sizeOf k)
    (hv : leNat data ≠ v) (w : Writer) (was t : State) : valueRefusal w k data was t = 0x0205 := by
  obtain ⟨g, i, d, hlk, hrng⟩ := onlyValue_eq_some hk
  have hbytes : data.length = d.ty.bytes := by rw [hlen, sizeOf, hlk]
  have hrange : d.rng.refusal d.ty (leNat data) = 0x0205 := by rw [hrng, Rng.refusal, if_neg hv]
  simp only [valueRefusal, hlk, hbytes, hrange, ne_eq, not_true, if_false]
  exact firstOf_cons_of_ne (by decide) _

/-- What the access rules let through is judged by its value (R173). -/
theorem writeRefusal_of_access {s : State} {w : Writer} {o : OpKind} {k : Nat} (data : List Byte)
    (h : s.access w o k = 0) : s.writeRefusal w o k data = valueRefusal w k data s (plainPut k (leNat data) s) := by
  rw [State.writeRefusal, h, firstOf_zero_cons, firstOf_singleton]

/-- Settles O56: each object's entry takes its one value alone, so any other value is refused with 16#0205 at its range,
and a refused WRITE or CMD only completes. -/
theorem triggersTakeTheirOneValue : Obligations.TriggersTakeTheirOneValue := by
  unfold Obligations.TriggersTakeTheirOneValue
  intro s l f o k trigger data hf hasks hacc hlen hne htrig
  have honly : onlyValue k = some trigger := by
    obtain ⟨rfl, hk⟩ | ⟨rfl, hk⟩ := htrig
    · obtain rfl | rfl | rfl | ⟨c, hc, rfl⟩ | ⟨p, hp, rfl⟩ | ⟨m, hm, rfl⟩ := hk
      · decide
      · decide
      · decide
      · exact onlyValue_outputReset hc
      · exact onlyValue_portReset hp
      · exact onlyValue_slotReset hm
    · obtain rfl | rfl | rfl := hk <;> decide
  have hst : s.writeRefusal (f.writer true) o k data = 0x0205 :=
    (writeRefusal_of_access data hacc).trans (valueRefusal_only honly hlen hne ..)
  exact hf.answers_refused hasks (by rwa [Nat.div_add_mod]) (by decide) (by decide)

end Sys2Proof.Machine
end

section
/-! RO objects of F0 without qualifiers (R169, R173): every READ shows the object as it stands, and every WRITE of a
master is refused with 16#0101. -/
namespace Sys2Proof.Machine
open Sys2Proof Sys2Proof.Config

/-- The object has an entry of class RO and no DOM: of F0, without qualifiers, in every variant, no function's control. -/
def openRo (k : Nat) : Bool :=
  k % 256 != 0 && (lookup k).any fun e => decide (e.1.lo ≠ 0x1700 ∧ e.2.2.acc = .ro ∧ e.2.2.flags = [] ∧
    e.2.2.absent = .none ∧ e.2.2.owner = .f0 ∧ e.2.2.ty ≠ .dom)

/-- The entry of an object lies in the group of its index. -/
theorem lookupIdx_of_lookup {k i : Nat} {g : Group} {d : Sub} (h : lookup k = some (g, i, d)) :
    lookupIdx (k / 256) = some g := by
  unfold lookup at h; dsimp only at h
  split at h
  next g' hg =>
    split at h
    next => cases h; exact hg
    next => cases h
  next => cases h

/-- F0 gates nothing (step 3, R254). -/
theorem gated_of_ownerOf_zero {s : State} {k : Nat} (h : s.ownerOf k = 0) (o : OpKind) : s.gated o k = false := by
  simp only [State.gated, h, bne_self_eq_false, Bool.false_and]

/-- A WRITE or CMD that fails the access checks is refused with their status. -/
theorem writeRefusal_of_access_ne {s : State} {w : Writer} {o : OpKind} {k : Nat} (data : List Byte)
    (h : s.access w o k ≠ 0) : s.writeRefusal w o k data = s.access w o k := firstOf_cons_of_ne h _

/-- The row of a WRITE or CMD that a check refuses answers with that status and no effect, whichever row it is. -/
theorem Carries.answers_row_refused {l : Fin 32} {f : Flight} {s : State} {o : OpKind} {idx sub st : Nat}
    {data : List Byte} {w : Work} (h : Carries l f s) (ha : f.Asks o idx sub data) (hw : f.work = w)
    (hst : s.writeRefusal (f.writer true) o (256 * idx + sub) data = st) (h0 : st ≠ 0) (htab : st ≠ 0x0330) :
    Answers (w.row l) s fun t => Untouched s t ∧ Completed f st 0 [] s t :=
  h.answers_completeWith (exec_row l w s) hw (by rw [ha.runReq_eq, runWrite_refused hst h0 htab, complete])

section
variable {k : Nat} (h : openRo k = true)
include h

theorem openRo_entry : k % 256 ≠ 0 ∧ ∃ g i d, lookup k = some (g, i, d) ∧ g.lo ≠ 0x1700 ∧ d.acc = .ro ∧
    d.flags = [] ∧ d.absent = .none ∧ d.owner = .f0 ∧ d.ty ≠ .dom := by
  simp only [openRo, Bool.and_eq_true, bne_iff_ne, Option.any_eq_true, decide_eq_true_eq] at h
  obtain ⟨hsub, ⟨g, i, d⟩, hlk, hd⟩ := h
  exact ⟨hsub, g, i, d, hlk, hd⟩

theorem ne_of_openRo {j : Nat} (hj : openRo j = false) : k ≠ j := by
  rintro rfl
  exact Bool.noConfusion (h.symm.trans hj)

theorem isDom_openRo : isDom k = false := by
  obtain ⟨-, g, i, d, hlk, -, -, -, -, -, hty⟩ := openRo_entry h
  simp [isDom, hlk, hty]

/-- Of the access checks only those of the entry itself (steps 7 to 11) can refuse an open RO object. -/
theorem access_openRo (s : State) (w : Writer) (o : OpKind) (hsafe : needsSafety o k = false) :
    ∃ g i d, g ≠ 0x1700 ∧ d.acc = .ro ∧ d.flags = [] ∧ s.access w o k =
      firstOf [s.roleRefusal w o d, kindRefusal o g i k d, s.bindRefusal w o g i k d, s.semRefusal w o k d,
        s.disabledRefusal o g i k d] := by
  obtain ⟨hsub, g, i, d, hlk, hg, hacc, hflags, habs, hown, -⟩ := openRo_entry h
  have hgate : s.gated o k = false := gated_of_ownerOf_zero (by simp only [State.ownerOf, hlk, hown]) o
  refine ⟨g.lo, k / 256 - g.lo, d, hg, hacc, hflags, ?_⟩
  simp only [State.access, hgate, hsafe, lookupIdx_of_lookup hlk, hsub, hlk, habs, Absent.isPresent, Bool.not_true,
    Bool.false_and, Bool.false_eq_true, if_false]

/-- Anyone may READ an open RO object. -/
theorem access_read_openRo (s : State) (w : Writer) : s.access w .read k = 0 := by
  obtain ⟨g, i, d, -, hacc, hflags, heq⟩ := access_openRo h s w .read rfl
  have hkind : kindRefusal .read g i k d = 0 := by simp [kindRefusal, hflags, hacc, OpKind.multi, OpKind.reads]
  have hbind : s.bindRefusal w .read g i k d = 0 := by simp [State.bindRefusal, hflags, OpKind.reads]
  rw [heq, hkind, hbind]
  rfl

/-- A WRITE of a master to an open RO object is refused with 16#0101 at its class (step 8). -/
theorem access_write_openRo (s : State) {w : Writer} (hw : w.place < 2) : s.access w .write k = 0x0101 := by
  have hsafe : needsSafety .write k = false := by
    simp [needsSafety, ne_of_openRo h (j := Obj.loadFactoryImage) (by decide)]
  obtain ⟨g, i, d, hg, hacc, hflags, heq⟩ := access_openRo h s w .write hsafe
  have hrole : s.roleRefusal w .write d = 0 := by
    simp [State.roleRefusal, hflags, OpKind.reads, Nat.not_le.2 hw]
  have hkind : kindRefusal .write g i k d = 0x0101 := by
    simp [kindRefusal, hflags, hacc, hg, OpKind.multi, OpKind.reads]
  rw [heq, hrole, hkind]
  rfl

/-- READ of an open RO object answers with what the object shows. -/
theorem Carries.answers_read_openRo {l : Fin 32} {f : Flight} {s : State} {idx sub : Nat} (hf : Carries l f s)
    (hop : f.op = 0x10) (hreq : f.req = .read idx sub 0 0) (hk : 256 * idx + sub = k) :
    Answers (.read l) s fun t => Untouched s t ∧ Completed f 0 0 (toLe (sizeOf k) (s.view k)) s t := by
  rw [← readValue_eq_view s f.place k (ne_of_openRo h (by decide)) (ne_of_openRo h (by decide))
    (ne_of_openRo h (by decide))]
  exact hf.answers_read_value hop hreq hk (ne_of_openRo h (by decide)) (isDom_openRo h) (access_read_openRo h s _)

end

end Sys2Proof.Machine
end

section
/-! KeyCheck0 to KeyCheck2 (R213): their entries, the two bytes that they show, and their refusal of a WRITE. -/
namespace Sys2Proof.Machine
open Sys2Proof Sys2Proof.Config

@[simp] theorem length_toLe (n v : Nat) : (toLe n v).length = n := by
  induction n generalizing v with
  | zero => rfl
  | succ n ih => rw [toLe, List.length_cons, ih]

/-- A byte string is the encoding of its own number. -/
theorem toLe_leNat (bs : List Byte) : toLe bs.length (leNat bs) = bs := by
  induction bs with
  | nil => rfl
  | cons b bs ih =>
    have hb : b.toNat < 256 := b.isLt
    have hhead : byte (leNat (b :: bs)) = b := BitVec.eq_of_toNat_eq (by
      rw [byte, BitVec.toNat_ofNat, leNat]; omega)
    have htail : leNat (b :: bs) / 256 = leNat bs := by rw [leNat]; omega
    rw [List.length_cons, toLe, hhead, htail, ih]

@[simp] theorem length_sha256 (bs : List Byte) : (sha256 bs).length = 32 := by
  simp [sha256, toBe]

@[simp] theorem length_hmac (key msg : List Byte) : (hmac key msg).length = 32 := length_sha256 _

/-- The bytes of KeyCheck: the first two of the HMAC of its key, or zeros without a key. -/
theorem toLe_keyCheck (s : State) (r : Nat) :
    toLe 2 (s.keyCheck r) = match s.key r with
      | none => [0, 0]
      | some key => (hmac key (label "DLS-CHK")).take 2 := by
  unfold State.keyCheck
  cases s.key r with
  | none => rfl
  | some key =>
    have hlen : ((hmac key (label "DLS-CHK")).take 2).length = 2 := by rw [List.length_take, length_hmac]; rfl
    have hle := toLe_leNat ((hmac key (label "DLS-CHK")).take 2)
    rwa [hlen] at hle

section
variable {r : Nat} (hr : r < 3)
include hr

/-- The roles of the three keys. -/
theorem eq_of_lt_three : r = 0 ∨ r = 1 ∨ r = 2 := by omega

theorem openRo_keyCheck : openRo (Obj.keyCheck0 + r) = true := by
  obtain rfl | rfl | rfl := eq_of_lt_three hr <;> decide

theorem sizeOf_keyCheck : sizeOf (Obj.keyCheck0 + r) = 2 := by
  obtain rfl | rfl | rfl := eq_of_lt_three hr <;> decide

theorem view_keyCheck (s : State) : s.view (Obj.keyCheck0 + r) = s.keyCheck r := by
  obtain rfl | rfl | rfl := eq_of_lt_three hr <;> rfl

/-- A WRITE of a KeyCheck is one of the row WRITE. -/
theorem work_write_keyCheck {f : Flight} {data : List Byte} (h : f.req = .write 0x1110 (4 + r) data) :
    f.work = .write := by
  rw [Flight.work, h]
  obtain rfl | rfl | rfl := eq_of_lt_three hr <;> rfl

end

/-- Settles O60: each KeyCheck is an open RO object that shows the encoding of its HMAC's first two bytes. -/
theorem keyChecksShowTheirKeys : Obligations.KeyChecksShowTheirKeys := by
  unfold Obligations.KeyChecksShowTheirKeys
  intro s l f r hr hf
  have hopen := openRo_keyCheck hr
  have hk : 256 * 0x1110 + (4 + r) = Obj.keyCheck0 + r := by unfold Obj.keyCheck0; omega
  refine ⟨fun hop hreq => ?_, fun data hplace hop hreq => ?_⟩
  · have hread := hf.answers_read_openRo hopen hop hreq hk
    rwa [sizeOf_keyCheck hr, view_keyCheck hr, toLe_keyCheck] at hread
  · have hacc : s.access (f.writer true) .write (Obj.keyCheck0 + r) = 0x0101 := access_write_openRo hopen s hplace
    have hst : s.writeRefusal (f.writer true) .write (Obj.keyCheck0 + r) data = 0x0101 :=
      (writeRefusal_of_access_ne data (by rw [hacc]; decide)).trans hacc
    exact hf.answers_row_refused (.inl ⟨rfl, hop, hreq⟩) (work_write_keyCheck hr hreq) (hk ▸ hst) (by decide) (by decide)

end Sys2Proof.Machine
end

section
/-! SemaHolders and SemaWaiters (R225): numbers of two-bit fields, and the field of each semaphore. -/
namespace Sys2Proof.Machine
open Sys2Proof Sys2Proof.Config

/-- Field `n` of packed fields is element `n` cut to its width. -/
theorem packBits_div_mod (w : Nat) (xs : List Nat) (n : Nat) :
    packBits w xs / (2 ^ w) ^ n % 2 ^ w = xs.getD n 0 % 2 ^ w := by
  have hpos : 0 < 2 ^ w := Nat.two_pow_pos w
  induction xs generalizing n with
  | nil => simp [packBits]
  | cons x xs ih =>
    cases n with
    | zero => simp [packBits]
    | succ n =>
      have htail : packBits w (x :: xs) / 2 ^ w = packBits w xs := by
        rw [packBits, Nat.add_mul_div_left _ _ hpos, Nat.div_eq_of_lt (Nat.mod_lt _ hpos), Nat.zero_add]
      rw [Nat.pow_succ', ← Nat.div_div_eq_div_mul, htail, ih, List.getD_cons_succ]

/-- A bit of field `n` of packed fields is that bit of element `n`. -/
theorem testBit_packBits (w : Nat) (xs : List Nat) (n : Nat) {j : Nat} (hj : j < w) :
    (packBits w xs).testBit (w * n + j) = (xs.getD n 0).testBit j := by
  have h := congrArg (Nat.testBit · j) (packBits_div_mod w xs n)
  simpa [Nat.testBit_mod_two_pow, hj, ← Nat.pow_mul, Nat.testBit_div_two_pow, Nat.add_comm] using h

/-- Bit `j` of a number made from bits is the `j`-th of them. -/
theorem testBit_ofBits (bs : List Bool) (j : Nat) : (ofBits bs).testBit j = bs.getD j false := by
  induction bs generalizing j with
  | nil => simp [ofBits]
  | cons b bs ih =>
    cases j with
    | zero => cases b <;> simp [ofBits, bitVal]
    | succ j =>
      have hhalf : ofBits (b :: bs) / 2 = ofBits bs := by
        have hb : bitVal b < 2 := by cases b <;> decide
        rw [ofBits]; omega
      rw [Nat.testBit_succ, hhalf, ih, List.getD_cons_succ]

theorem openRo_semas {k : Nat} (h : k = Obj.semaHolders ∨ k = Obj.semaWaiters) : openRo k = true := by
  obtain rfl | rfl := h <;> decide

theorem sizeOf_semas {k : Nat} (h : k = Obj.semaHolders ∨ k = Obj.semaWaiters) : sizeOf k = 16 := by
  obtain rfl | rfl := h <;> decide

theorem view_semaHolders (s : State) : s.view Obj.semaHolders = s.semaHolders := rfl

theorem view_semaWaiters (s : State) : s.view Obj.semaWaiters = s.semaWaiters := rfl

theorem code_lt_four {x : SemaState} (h : ∀ m, x = .held m → m < 2) : x.code < 4 := by
  cases x with
  | free => decide
  | held m => exact Nat.succ_lt_succ (Nat.lt_succ_of_lt (h m rfl))
  | holdoff => exact Nat.lt_succ_self 3

/-- SemaHolders shows the code of semaphore `n` in field `n`. -/
theorem semaHolders_field (s : State) (n : Nat) (h : ∀ m, s.sema n = .held m → m < 2) :
    s.semaHolders / 4 ^ n % 4 = (s.sema n).code := by
  have hget : (s.host.semas.map SemaState.code).getD n 0 = (s.sema n).code := by
    simp only [State.sema, List.getD_eq_getElem?_getD, List.getElem?_map]
    cases s.host.semas[n]? <;> rfl
  have hfield := packBits_div_mod 2 (s.host.semas.map SemaState.code) n
  rw [hget] at hfield
  exact hfield.trans (Nat.mod_eq_of_lt (code_lt_four h))

/-- SemaWaiters shows in bit 2n + m whether master `m` waits for semaphore `n`. -/
theorem testBit_semaWaiters (s : State) {n m : Nat} (hn : n < 64) (hm : m < 2) :
    s.semaWaiters.testBit (2 * n + m) = s.waits m n := by
  have hget : ((List.range 64).map s.waiterBits).getD n 0 = s.waiterBits n := by simp [List.getD, hn]
  rw [State.semaWaiters, testBit_packBits 2 _ n hm, hget, State.waiterBits, testBit_ofBits]
  obtain rfl | rfl : m = 0 ∨ m = 1 := by omega
  · rfl
  · rfl

theorem waits_iff (s : State) (m n : Nat) : s.waits m n = true ↔ ∃ w ∈ s.host.waits, w.sema = n ∧ w.place = m := by
  simp only [State.waits, List.any_eq_true, Bool.and_eq_true, beq_iff_eq]

/-- Settles O57: both objects pack one two-bit field for each semaphore, and a READ of either shows it whole. -/
theorem semaHoldersAndWaitersShowEverySemaphore : Obligations.SemaHoldersAndWaitersShowEverySemaphore := by
  unfold Obligations.SemaHoldersAndWaitersShowEverySemaphore
  intro s _ hheld
  refine ⟨sizeOf_semas (.inl rfl), sizeOf_semas (.inr rfl), fun n hn => ⟨?_, ?_, ?_⟩, fun l f k hf hk hop hreq _ => ?_⟩
  · rw [view_semaHolders, semaHolders_field s n (hheld n)]
    cases s.sema n <;> rfl
  · have hbit : s.semaWaiters.testBit (2 * n) = s.waits 0 n := testBit_semaWaiters s hn (m := 0) (by decide)
    rw [view_semaWaiters, hbit, waits_iff]
  · rw [view_semaWaiters, testBit_semaWaiters s hn (by decide), waits_iff]
  · have hread := hf.answers_read_openRo (openRo_semas hk) hop hreq (Nat.div_add_mod k 256)
    rwa [sizeOf_semas hk] at hread

end Sys2Proof.Machine
end


section
/-! Facts about lists, numbers and conditions that the developments below cite. -/
namespace Sys2Proof.Machine
open Sys2Proof Sys2Proof.Config

theorem of_mem_filter {α : Type} {p : α → Bool} {a : α} {xs : List α} (h : a ∈ xs.filter p) : a ∈ xs :=
  (List.mem_filter.1 h).1

theorem find?_eq_find? {α : Type} {p q : α → Bool} {xs : List α} (h : ∀ x ∈ xs, p x = q x) : xs.find? p = xs.find? q := by
  induction xs with
  | nil => rfl
  | cons x xs ih =>
    rw [List.find?_cons, List.find?_cons, h x List.mem_cons_self, ih fun y hy => h y (List.mem_cons_of_mem _ hy)]

/-- What a test keeps and what it does not are the whole list. -/
theorem length_filter_add (p : α → Bool) (xs : List α) : (xs.filter p).length + (xs.filter fun x => !p x).length = xs.length := by
  induction xs with
  | nil => rfl
  | cons x xs ih =>
    cases h : p x
    · simp only [List.filter_cons, h, Bool.false_eq_true, if_false, Bool.not_false, if_true, List.length_cons]
      omega
    · simp only [List.filter_cons, h, if_true, Bool.not_true, Bool.false_eq_true, if_false, List.length_cons]
      omega

/-- The largest magnitude of a signed number of four bytes. -/
theorem half_four : ((2 ^ (8 * 4 - 1) : Nat) : Int) = 2147483648 := rfl

end Sys2Proof.Machine
end


section
/-! What an operation on the state may move: a frame by parts, with the two invariants that every operation keeps. -/
namespace Sys2Proof.Machine
open Sys2Proof Sys2Proof.Config
set_option Elab.async false

/-- The parts of the state that operations move. The notice pool, the source counters and the weirs are no part: any
operation may raise a notice. -/
inductive Part where
  | objs | free | places | semas | waits | flights | bursts | ingress | egress | fns | hostRest | lat | seq | image | recd
  | salt | axes | setpts | chans | dies | direct | wakes | sup | pow | clk | rst | diag | net | gp | loop

/-- What a part holds. The loop is no field: it stands for a coil that comes on and an unlock gate that opens. -/
def Part.Ty : Part → Type
  | .objs => List (Nat × Nat)
  | .free => Nat
  | .places => List Place
  | .semas => List SemaState
  | .waits => List SemaWait
  | .flights => List Flight × List Done × Nat
  | .bursts => List Burst
  | .ingress => List RxFrame × List RxFrame
  | .egress => List TxFrame
  | .fns => List FnUnit
  | .hostRest => List AuthGate × Bool × Nat × Bool × Bool
  | .lat => Lattice
  | .seq => Sequencers
  | .image => LatImage
  | .recd => Recorder
  | .salt => Saltpan
  | .axes => List Axis
  | .setpts => List SetPoint
  | .chans => List Chan
  | .dies => List Die
  | .direct => List Bool
  | .wakes => List Bool
  | .sup => Supply
  | .pow => Power
  | .clk => Clocks
  | .rst => ResetUnit
  | .diag => Diag
  | .net => Net
  | .gp => Gp
  | .loop => Unit

/-- A part of a state. The active image is a part of its own, so the recorder is taken with one fixed image. -/
def State.part (s : State) : (p : Part) → p.Ty
  | .objs => s.objs
  | .free => s.free
  | .places => s.host.places
  | .semas => s.host.semas
  | .waits => s.host.waits
  | .flights => (s.host.flights, s.host.done, s.host.nextFlight)
  | .bursts => s.host.bursts
  | .ingress => (s.host.niIngress, s.host.linkIngress)
  | .egress => s.host.linkEgress
  | .fns => s.host.fns
  | .hostRest => (s.host.gates, s.host.rotate, s.host.nextSession, s.host.linkErr, s.host.lastKindNotice)
  | .lat => s.lat
  | .seq => s.seq
  | .image => s.recd.activeImage
  | .recd => { s.recd with activeImage := factoryImage ⟨.c2624, .t⟩ }
  | .salt => s.salt
  | .axes => s.axes
  | .setpts => s.setpts
  | .chans => s.chans
  | .dies => s.dies
  | .direct => s.direct
  | .wakes => s.wakes
  | .sup => s.sup
  | .pow => s.pow
  | .clk => s.clk
  | .rst => s.rst
  | .diag => s.diag
  | .net => s.net
  | .gp => s.gp
  | .loop => ()

/-- A set of parts as a mask. -/
def caps (ps : List Part) : Nat := ps.foldr (fun p n => 2 ^ p.ctorIdx ||| n) 0

/-- From `s` to `t` no coil comes on and no unlock gate opens. -/
def Falls (s t : State) : Prop :=
  (∀ i, (t.coil i).on = true → (s.coil i).on = true) ∧
  ∀ l, t.lat.gates.getD l false = true → s.lat.gates.getD l false = true

theorem Falls.of_lat {s t : State} (h : t.lat = s.lat) : Falls s t := by
  unfold Falls State.coil
  rw [h]
  exact ⟨fun _ => id, fun _ => id⟩

theorem Falls.trans {s t u : State} (h : Falls s t) (g : Falls t u) : Falls s u :=
  ⟨fun i x => h.1 i (g.1 i x), fun l x => h.2 l (g.2 l x)⟩

/-- From `s` to `t` no part outside the mask `κ` moves; fuses, queue and time stay, the object store stays canonical and
the numbers of transactions stay unlike each other. -/
structure Moves (κ : Nat) (s t : State) : Prop where
  variant : t.variant = s.variant
  pending : t.pending = s.pending
  now : t.now = s.now
  canonical : s.canonical → t.canonical
  fresh : Fresh s → Fresh t
  part : ∀ p : Part, κ.testBit p.ctorIdx = false → t.part p = s.part p
  falls : κ.testBit Part.loop.ctorIdx = false → Falls s t

namespace Moves
variable {κ F : Nat} {s t u : State}

theorem refl (s : State) : Moves κ s s := ⟨rfl, rfl, rfl, id, id, fun _ _ => rfl, fun _ => .of_lat rfl⟩

theorem trans (h : Moves κ s t) (g : Moves κ t u) : Moves κ s u :=
  ⟨g.variant.trans h.variant, g.pending.trans h.pending, g.now.trans h.now, fun x => g.canonical (h.canonical x),
    fun x => g.fresh (h.fresh x), fun p hp => (g.part p hp).trans (h.part p hp),
    fun hp => (h.falls hp).trans (g.falls hp)⟩

theorem mono (h : Moves F s t) (hc : F ||| κ = κ) : Moves κ s t :=
  have hsub (n : Nat) (hn : κ.testBit n = false) : F.testBit n = false := by
    rw [← hc, Nat.testBit_or, Bool.or_eq_false_iff] at hn
    exact hn.1
  { h with part := fun p hp => h.part p (hsub _ hp), falls := fun hp => h.falls (hsub _ hp) }

/-- After what moved parts of `κ`, an operation that moves some of them. -/
theorem of (h : Moves κ s t) (hc : F ||| κ = κ) (g : Moves F t u) : Moves κ s u := h.trans (g.mono hc)

theorem ite {p : Prop} [Decidable p] (h : Moves κ s t) (g : Moves κ s u) : Moves κ s (if p then t else u) := by
  split <;> assumption

theorem dite {p : Prop} [Decidable p] {a : p → State} {b : ¬p → State} (h : ∀ x, Moves κ s (a x))
    (g : ∀ x, Moves κ s (b x)) : Moves κ s (if x : p then a x else b x) := by
  split
  · exact h _
  · exact g _

/-- A step that is taken where a condition holds. -/
theorem opt {p : Prop} [Decidable p] (h : Moves κ s t) (g : Moves κ t u) : Moves κ s (if p then u else t) :=
  .ite (h.trans g) h

theorem optNot {p : Prop} [Decidable p] (h : Moves κ s t) (g : Moves κ t u) : Moves κ s (if p then t else u) :=
  .ite h (h.trans g)

/-- A step that reads the state it starts from. -/
theorem bind {f : State → State} (h : Moves κ s t) (g : ∀ v, Moves κ v (f v)) : Moves κ s (f t) := h.trans (g t)

/-- A mask inside a mask. -/
theorem mask_trans {F G : Nat} (h : F ||| G = G) (hc : G ||| κ = κ) : F ||| κ = κ := by
  rw [← hc, ← Nat.or_assoc, h]

end Moves

section
variable {κ : Nat} {s0 s t : State}

/-- An update that leaves the store and the transactions alone. -/
theorem update_moves (h : Moves κ s0 s) (hv : t.variant = s.variant := by rfl) (hp : t.pending = s.pending := by rfl)
    (hn : t.now = s.now := by rfl) (ho : t.objs = s.objs := by rfl)
    (hf : t.host.flights = s.host.flights := by rfl) (hx : t.host.nextFlight = s.host.nextFlight := by rfl)
    (hs : ∀ p : Part, κ.testBit p.ctorIdx = false → t.part p = s.part p := by
      intro p hp
      cases p <;> first | rfl | exact absurd hp (by decide))
    (hl : Falls s t := by exact .of_lat rfl) : Moves κ s0 t := by
  refine h.trans ⟨hv, hp, hn, fun hc => ?_, fun hc => ?_, hs, fun _ => hl⟩
  · unfold State.canonical; rwa [ho, hv]
  · unfold Fresh; rwa [hf, hx]

theorem put_moves {k v : Nat} (h : Moves κ s0 s) (hc : caps [.objs] ||| κ = κ := by decide) :
    Moves κ s0 (s.put k v) := by
  refine h.of hc ⟨put_variant s k v, put_pending s k v, put_now s k v, put_canonical k v s, by simp [Fresh], fun p hp => ?_,
    fun _ => .of_lat (put_lat s k v)⟩
  unfold State.put
  split
  · rfl
  · cases p <;> first | rfl | exact absurd hp (by decide)

/-- The entries of the store that a test keeps. -/
theorem filterObjs_moves {q : Nat × Nat → Bool} (h : Moves κ s0 s) (hc : caps [.objs] ||| κ = κ := by decide) :
    Moves κ s0 { s with objs := s.objs.filter q } := by
  refine h.of hc ⟨rfl, rfl, rfl, fun hs => ?_, id, fun p hp => ?_, fun _ => .of_lat rfl⟩
  · exact ⟨hs.1.filter _, fun e he => hs.2 e (List.mem_filter.1 he).1⟩
  · cases p <;> first | rfl | exact absurd hp (by decide)

theorem onAxis_moves {a : Nat} {f : Axis → Axis} (h : Moves κ s0 s) (hc : caps [.axes] ||| κ = κ := by decide) :
    Moves κ s0 (s.onAxis a f) := h.of hc (update_moves (.refl s))

theorem onChan_moves {a : Nat} {f : Chan → Chan} (h : Moves κ s0 s) (hc : caps [.chans] ||| κ = κ := by decide) :
    Moves κ s0 (s.onChan a f) := h.of hc (update_moves (.refl s))

theorem onDie_moves {k : Nat} {f : Die → Die} (h : Moves κ s0 s) (hc : caps [.dies] ||| κ = κ := by decide) :
    Moves κ s0 (s.onDie k f) := h.of hc (update_moves (.refl s))

theorem onInst_moves {i : Nat} {f : SeqInst → SeqInst} (h : Moves κ s0 s) (hc : caps [.seq] ||| κ = κ := by decide) :
    Moves κ s0 (s.onInst i f) := h.of hc (update_moves (.refl s))

/-- An update of the lattice that leaves coils and gates alone. -/
theorem onLat_moves {f : Lattice → Lattice} (h : Moves κ s0 s) (hc : caps [.lat] ||| κ = κ := by decide)
    (hco : (f s.lat).coils = s.lat.coils := by rfl) (hg : (f s.lat).gates = s.lat.gates := by rfl) :
    Moves κ s0 (s.onLat f) := by
  refine h.of hc (update_moves (.refl s) (hl := ⟨fun i hi => ?_, fun l hl => ?_⟩))
  · rwa [State.coil, onLat_lat, hco] at hi
  · rwa [onLat_lat, hg] at hl

/-- An update of the lattice that may bring a coil on or open a gate. -/
theorem onLat_loop_moves {f : Lattice → Lattice} (h : Moves κ s0 s) (hc : caps [.lat, .loop] ||| κ = κ := by decide) :
    Moves κ s0 (s.onLat f) := by
  refine h.of hc ⟨rfl, rfl, rfl, id, id, fun p hp => ?_, fun hp => absurd hp (by decide)⟩
  cases p <;> first | rfl | exact absurd hp (by decide)

/-- An update of a coil that does not bring it on. -/
theorem onCoil_moves {i : Nat} {f : Coil → Coil} (h : Moves κ s0 s) (hc : caps [.lat] ||| κ = κ := by decide)
    (hf : ∀ c, (f c).on = true → c.on = true := by intro _ h; exact h) : Moves κ s0 (s.onCoil i f) := by
  refine h.of hc (update_moves (.refl s) (hl := ⟨fun j hj => ?_, fun l hl => hl⟩))
  simp only [State.coil, State.onCoil, onLat_lat, List.getD_eq_getElem?_getD, List.getElem?_modify] at hj ⊢
  cases hx : s.lat.coils[j]? with
  | none => rw [hx] at hj; exact hj
  | some x =>
    rw [hx] at hj
    simp only [Option.map_eq_map, Option.map_some, Option.getD_some] at hj ⊢
    split at hj
    · exact hf x hj
    · exact hj

theorem onSalt_moves {f : Saltpan → Saltpan} (h : Moves κ s0 s) (hc : caps [.salt] ||| κ = κ := by decide) :
    Moves κ s0 (s.onSalt f) := h.of hc (update_moves (.refl s))

theorem onSup_moves {f : Supply → Supply} (h : Moves κ s0 s) (hc : caps [.sup] ||| κ = κ := by decide) :
    Moves κ s0 (s.onSup f) := h.of hc (update_moves (.refl s))

theorem onPow_moves {f : Power → Power} (h : Moves κ s0 s) (hc : caps [.pow] ||| κ = κ := by decide) :
    Moves κ s0 (s.onPow f) := h.of hc (update_moves (.refl s))

theorem onClk_moves {f : Clocks → Clocks} (h : Moves κ s0 s) (hc : caps [.clk] ||| κ = κ := by decide) :
    Moves κ s0 (s.onClk f) := h.of hc (update_moves (.refl s))

theorem onRst_moves {f : ResetUnit → ResetUnit} (h : Moves κ s0 s) (hc : caps [.rst] ||| κ = κ := by decide) :
    Moves κ s0 (s.onRst f) := h.of hc (update_moves (.refl s))

theorem onNet_moves {f : Net → Net} (h : Moves κ s0 s) (hc : caps [.net] ||| κ = κ := by decide) :
    Moves κ s0 (s.onNet f) := h.of hc (update_moves (.refl s))

theorem onGp_moves {f : Gp → Gp} (h : Moves κ s0 s) (hc : caps [.gp] ||| κ = κ := by decide) :
    Moves κ s0 (s.onGp f) := h.of hc (update_moves (.refl s))

theorem onPlace_moves {p : Nat} {f : Place → Place} (h : Moves κ s0 s) (hc : caps [.places] ||| κ = κ := by decide) :
    Moves κ s0 (s.onPlace p f) := h.of hc (update_moves (.refl s))

theorem onSession_moves {p : Nat} {f : Session → Session} (h : Moves κ s0 s)
    (hc : caps [.places] ||| κ = κ := by decide) : Moves κ s0 (s.onSession p f) := h.of hc (update_moves (.refl s))

theorem onFn_moves {n : Nat} {f : FnUnit → FnUnit} (h : Moves κ s0 s) (hc : caps [.fns] ||| κ = κ := by decide) :
    Moves κ s0 (s.onFn n f) := h.of hc (update_moves (.refl s))

/-- An update of the host side that leaves the transactions alone. -/
theorem onHost_moves {f : HostSide → HostSide} (h : Moves κ s0 s)
    (hf : (f s.host).flights = s.host.flights := by rfl) (hx : (f s.host).nextFlight = s.host.nextFlight := by rfl)
    (hs : ∀ p : Part, κ.testBit p.ctorIdx = false → (s.onHost f).part p = s.part p := by
      intro p hp
      cases p <;> first | rfl | exact absurd hp (by decide)) : Moves κ s0 (s.onHost f) :=
  update_moves h rfl rfl rfl rfl hf hx hs

/-- An update of the recorder that leaves the active image alone. -/
theorem onRec_moves {f : Recorder → Recorder} (h : Moves κ s0 s) (hc : caps [.recd] ||| κ = κ := by decide)
    (hi : (f s.recd).activeImage = s.recd.activeImage := by rfl) : Moves κ s0 (s.onRec f) := by
  refine h.of hc (update_moves (.refl s) rfl rfl rfl rfl rfl rfl fun p hp => ?_)
  cases p <;> first | rfl | exact hi | exact absurd hp (by decide)

theorem onRec_image_moves {f : Recorder → Recorder} (h : Moves κ s0 s)
    (hc : caps [.recd, .image] ||| κ = κ := by decide) : Moves κ s0 (s.onRec f) := h.of hc (update_moves (.refl s))

theorem draw_moves (h : Moves κ s0 s) (hc : caps [.free] ||| κ = κ := by decide) : Moves κ s0 s.draw.2 :=
  h.of hc (update_moves (.refl s))

theorem each_moves {α : Type} {xs : List α} {f : α → State → State} (hf : ∀ a t, Moves κ t (f a t)) (h : Moves κ s0 s) :
    Moves κ s0 (each xs f s) := by
  unfold each
  induction xs generalizing s with
  | nil => exact h
  | cons a r ih => exact ih (h.trans (hf a s))

theorem whenever_moves {b : Bool} {f : State → State} (hf : ∀ t, Moves κ t (f t)) (h : Moves κ s0 s) :
    Moves κ s0 (s.whenever b f) := by
  unfold State.whenever
  exact .ite (h.bind hf) h

/-! Transactions. -/

/-- A filter and a change of transactions that keeps their numbers. -/
theorem Fresh.filterMap {s t : State} (h : Fresh s) (q : Flight → Bool) (g : Flight → Flight) (hg : ∀ f, (g f).id = f.id)
    (hf : t.host.flights = (s.host.flights.filter q).map g) (hx : t.host.nextFlight = s.host.nextFlight) : Fresh t := by
  refine ⟨?_, fun f hm => ?_⟩
  · rw [hf, List.pairwise_map]
    exact (h.1.filter q).imp fun hne => by rwa [hg, hg]
  · rw [hf] at hm
    obtain ⟨x, hx', rfl⟩ := List.mem_map.1 hm
    rw [hg, hx]
    exact h.2 x (List.mem_filter.1 hx').1

/-- An update of the transactions that keeps their numbers. -/
theorem flights_moves {f : HostSide → HostSide} (q : Flight → Bool) (g : Flight → Flight) (h : Moves κ s0 s)
    (hg : ∀ x, (g x).id = x.id) (hf : (f s.host).flights = (s.host.flights.filter q).map g)
    (hx : (f s.host).nextFlight = s.host.nextFlight := by rfl)
    (hs : ∀ p : Part, κ.testBit p.ctorIdx = false → (s.onHost f).part p = s.part p := by
      intro p hp
      cases p <;> first | rfl | exact absurd hp (by decide)) : Moves κ s0 (s.onHost f) :=
  h.trans ⟨rfl, rfl, rfl, id, fun hfr => hfr.filterMap q g hg hf hx, hs, fun _ => .of_lat rfl⟩

theorem onFlight_moves {id : Nat} {f : Flight → Flight} (h : Moves κ s0 s) (hc : caps [.flights] ||| κ = κ := by decide)
    (hf : ∀ x, (f x).id = x.id := by intro x; rfl) : Moves κ s0 (s.onFlight id f) := by
  refine h.of hc (flights_moves (fun _ => true) (fun x => if x.id == id then f x else x) (.refl s) (fun x => ?_) ?_)
  · split
    · exact hf x
    · rfl
  · rw [List.filter_eq_self.2 fun _ _ => rfl]

end

/-! Answers. -/

/-- The command is answered with a next state to which at most the parts of the mask moved. -/
def Gives (κ : Nat) (s : State) (o : Host.Outcome State Fault Refusal) : Prop := ∃ t, o = .next t ∧ Moves κ s t

section
variable {κ : Nat} {s t : State}

theorem answer_gives (h : Moves κ s t) : Gives κ s (s.answer t) := by
  refine ⟨_, rfl, ?_⟩
  have hseal : ({ t with variant := s.variant, pending := s.pending } : State) = t := by
    rw [← h.variant, ← h.pending]
  rwa [hseal]

theorem answerLive_gives {f : State → State} (h : ∀ t, Moves κ t (f t)) : Gives κ s (s.answerLive f) :=
  answer_gives (.ite (h s) (.refl s))

theorem answerServed_gives {f : State → State} (h : ∀ t, Moves κ t (f t)) : Gives κ s (s.answerServed f) :=
  answerLive_gives fun t => .ite (h t) (.refl t)

theorem Gives.mono {F : Nat} {o : Host.Outcome State Fault Refusal} (h : Gives F s o) (hc : F ||| κ = κ) : Gives κ s o := by
  obtain ⟨t, ho, hm⟩ := h
  exact ⟨t, ho, hm.mono hc⟩

end

end Sys2Proof.Machine
end

section
/-! The parts that each operation of the model may move, and what each row answers with. -/
namespace Sys2Proof.Machine
open Sys2Proof Sys2Proof.Config
set_option Elab.async false

variable {κ : Nat} {s0 s : State}

theorem onWeir_moves {q : Nat} {f : Weir → Weir} (h : Moves κ s0 s) (hc : caps [] ||| κ = κ := by decide) :
    Moves κ s0 (State.onWeir q f s) :=
  h.of hc (onHost_moves (.refl _))

theorem addNotice_moves {n : Notice} (h : Moves κ s0 s) (hc : caps [.objs] ||| κ = κ := by decide) :
    Moves κ s0 (addNotice n s) := by
  refine h.of hc ?_
  unfold addNotice
  dsimp only
  refine .ite ?_ ?_
  · split
    · exact onHost_moves (put_moves (.refl _))
    · refine .ite ?_ ?_
      · split
        · exact onHost_moves (put_moves (.refl _))
        · exact put_moves (.refl _)
      · exact .refl _
  · exact onHost_moves (.refl _)

theorem raiseOn_moves {fn : Nat} {cls : Nat} {num : Nat} {kind : Nat} {data : List Byte} {safety : Bool}
    (h : Moves κ s0 s) (hc : caps [.objs] ||| κ = κ := by decide) :
    Moves κ s0 (raiseOn fn cls num kind data safety s) := by
  refine h.of hc ?_
  unfold raiseOn
  dsimp only
  refine each_moves (fun _ _ => ?_) (onHost_moves (.refl _))
  split
  · exact .refl _
  · split
    · exact .refl _
    · exact addNotice_moves (.refl _)

theorem weirNotice_moves {q : Nat} {high : Bool} (h : Moves κ s0 s) (hc : caps [.objs] ||| κ = κ := by decide) :
    Moves κ s0 (weirNotice q high s) :=
  h.of hc (raiseOn_moves (.refl _))

theorem crossingNotice_moves {q : Nat} {high : Bool} (h : Moves κ s0 s) (hc : caps [.objs] ||| κ = κ := by decide) :
    Moves κ s0 (crossingNotice q high s) :=
  h.of hc (.ite (.ite (onWeir_moves (put_moves (.refl _))) (onWeir_moves (weirNotice_moves (.refl _)))) (.refl _))

theorem crossing_moves {q : Nat} {high : Bool} {n : Nat} (h : Moves κ s0 s) (hc : caps [.objs] ||| κ = κ := by
    decide) : Moves κ s0 (crossing q high n s) :=
  h.of hc (crossingNotice_moves (onWeir_moves (.ite (put_moves (put_moves (put_moves (.refl _)))) (put_moves
    (put_moves (.refl _))))))

theorem crossOf_moves {q : Nat} (h : Moves κ s0 s) (hc : caps [.objs] ||| κ = κ := by decide) :
    Moves κ s0 (crossOf q s) :=
  h.of hc (.ite (crossing_moves (onWeir_moves (.refl _))) (.ite (crossing_moves (onWeir_moves (.refl _)))
    (onWeir_moves (.refl _))))

theorem moveFill_moves {q : Nat} (h : Moves κ s0 s) (hc : caps [.objs] ||| κ = κ := by decide) :
    Moves κ s0 (moveFill q s) :=
  h.of hc (.ite (crossOf_moves (.refl _)) (crossOf_moves (crossOf_moves (crossOf_moves (.refl _)))))

theorem linkPush_moves {f : TxFrame} (h : Moves κ s0 s) (hc : caps [.objs, .egress] ||| κ = κ := by decide) :
    Moves κ s0 (linkPush f s) :=
  h.of hc (moveFill_moves (onHost_moves (.refl _)))

theorem sendFrame_moves {f : TxFrame} (h : Moves κ s0 s) (hc : caps [.objs, .egress, .net] ||| κ = κ := by decide) :
    Moves κ s0 (sendFrame f s) := by
  refine h.of hc ?_
  unfold sendFrame
  split
  · exact linkPush_moves (.refl _)
  · exact onNet_moves (.refl _)

theorem answerOpen_moves {t : Transport} {p : Peer} {bs : List Byte} (h : Moves κ s0 s)
    (hc : caps [.objs, .egress, .net] ||| κ = κ := by decide) : Moves κ s0 (answerOpen t p bs s) :=
  h.of hc (.ite (.refl _) (sendFrame_moves (.refl _)))

theorem hello_moves {t : Transport} {p : Peer} {bs : List Byte} (h : Moves κ s0 s)
    (hc : caps [.objs, .free, .places, .egress, .net] ||| κ = κ := by decide) : Moves κ s0 (hello t p bs s) := by
  refine h.of hc ?_
  unfold hello
  dsimp only
  refine .ite ?_ ?_
  · exact put_moves (.refl _)
  · split
    · exact answerOpen_moves (.ite (put_moves (onPlace_moves (draw_moves (.refl _)))) (onPlace_moves (draw_moves
        (.refl _))))
    · exact answerOpen_moves (.refl _)

theorem execHello_gives {t : Transport} {p : Peer} {frame : List Byte} {s : State} :
    Gives (caps [.objs, .free, .places, .egress, .net]) s (execHello t p frame s) :=
  answerLive_gives fun _ => .ite (hello_moves (.refl _)) (.refl _)

theorem dropChallenge_moves {i : Nat} (h : Moves κ s0 s) (hc : caps [.objs, .places] ||| κ = κ := by decide) :
    Moves κ s0 (dropChallenge i s) :=
  h.of hc (.ite (put_moves (onPlace_moves (.refl _))) (onPlace_moves (.refl _)))

theorem endWork_moves {p : Nat} {se : Session} (h : Moves κ s0 s)
    (hc : caps [.objs, .waits, .flights, .bursts, .ingress] ||| κ = κ := by decide) :
    Moves κ s0 (endWork p se s) := by
  refine h.of hc ?_
  unfold endWork
  dsimp only
  have hb : Moves (caps [.objs, .waits, .flights, .bursts, .ingress]) s (moveFill (13 + p)
      (s.onHost fun h => if p < 2 then { h with bursts := h.bursts.set p Burst.closed } else h)) := by
    refine moveFill_moves ?_
    by_cases hp : p < 2
    · simp only [hp, if_true]
      exact onHost_moves (.refl _)
    · simp only [hp, if_false]
      exact onHost_moves (.refl _)
  generalize moveFill (13 + p) _ = t at hb ⊢
  refine each_moves (fun _ _ => moveFill_moves (.refl _)) ?_
  refine .ite (put_moves (put_moves ?_)) ?_ <;>
    exact flights_moves _ (fun f => if f.sess == se.no then { f with orphan := true } else f) hb
      (fun x => by split <;> rfl) rfl

theorem dropSubs_moves {p : Nat} (h : Moves κ s0 s) (hc : caps [.objs, .places] ||| κ = κ := by decide) :
    Moves κ s0 (dropSubs p s) :=
  h.of hc (moveFill_moves (onHost_moves (onSession_moves (.refl _))))

theorem clearPlace_moves {p : Nat} (h : Moves κ s0 s) (hc : caps [.objs] ||| κ = κ := by decide) :
    Moves κ s0 (clearPlace p s) :=
  h.of hc (put_moves (put_moves (put_moves (.refl _))))

theorem completeWith_moves {id status detail : Nat} {data : List Byte} (h : Moves κ s0 s)
    (hc : caps [.objs, .flights] ||| κ = κ := by decide) : Moves κ s0 (completeWith id status detail data s) := by
  refine h.of hc ?_
  unfold completeWith
  dsimp only
  split
  · exact .refl _
  · refine .ite (.refl _) (.ite (moveFill_moves (moveFill_moves ?_))
      (moveFill_moves (onHost_moves (onFlight_moves (.refl _)))))
    refine .ite (put_moves ?_) ?_ <;> exact flights_moves _ (fun f => f) (.refl _) (fun _ => rfl) (List.map_id _).symm

theorem complete_moves {id : Nat} {status : Nat} (h : Moves κ s0 s) (hc : caps [.objs, .flights] ||| κ = κ := by
    decide) : Moves κ s0 (complete id status s) :=
  h.of hc (completeWith_moves (.refl _))

theorem completeAll_moves {ids : List Nat} {status : Nat} (h : Moves κ s0 s)
    (hc : caps [.objs, .flights] ||| κ = κ := by decide) : Moves κ s0 (completeAll ids status s) :=
  h.of hc (each_moves (fun _ _ => complete_moves (.refl _)) (.refl _))

theorem diagFall_moves {c : Nat} {b : Nat} (h : Moves κ s0 s) (hc : caps [.objs] ||| κ = κ := by decide) :
    Moves κ s0 (diagFall c b s) :=
  h.of hc (put_moves (.refl _))

theorem clearLatches_moves {c : Nat} {fw : Bool} (h : Moves κ s0 s) (hc : caps [.objs] ||| κ = κ := by decide) :
    Moves κ s0 (clearLatches c fw s) :=
  h.of hc (.ite (.ite (diagFall_moves (.ite (diagFall_moves (diagFall_moves (.refl _))) (diagFall_moves (.refl _))))
    (.ite (diagFall_moves (diagFall_moves (.refl _))) (diagFall_moves (.refl _)))) (diagFall_moves (.ite
    (diagFall_moves (.ite (diagFall_moves (diagFall_moves (.refl _))) (diagFall_moves (.refl _)))) (.ite
    (diagFall_moves (diagFall_moves (.refl _))) (diagFall_moves (.refl _))))))

theorem demandMoved_moves {c : Nat} {old : Nat} (h : Moves κ s0 s) (hc : caps [.objs, .chans] ||| κ = κ := by
    decide) : Moves κ s0 (demandMoved c old s) :=
  h.of hc (.ite (.ite (clearLatches_moves (.refl _)) (.refl _)) (.ite (onChan_moves (.refl _)) (.refl _)))

theorem withDemand_moves {d : Nat} {f : State → State} (hf : ∀ t, Moves κ t (f t)) (h : Moves κ s0 s)
    (hc : caps [.objs, .chans] ||| κ = κ := by decide) : Moves κ s0 (withDemand d f s) :=
  demandMoved_moves (h.bind hf) hc

theorem setOrphan_moves {c : Nat} {b : Bool} (h : Moves κ s0 s) (hc : caps [.objs, .chans] ||| κ = κ := by decide) :
    Moves κ s0 (setOrphan c b s) :=
  h.of hc (.ite (.refl _) (withDemand_moves (fun _ => onChan_moves (.refl _)) (.refl _)))

theorem orphanHost_moves {m : Nat} (h : Moves κ s0 s) (hc : caps [.objs, .chans] ||| κ = κ := by decide) :
    Moves κ s0 (orphanHost m s) :=
  h.of hc (each_moves (fun _ _ => each_moves (fun _ _ => setOrphan_moves (.refl _)) (.refl _)) (.refl _))

theorem setSema_moves {n : Nat} {v : SemaState} (h : Moves κ s0 s) (hc : caps [.semas] ||| κ = κ := by decide) :
    Moves κ s0 (setSema n v s) :=
  h.of hc (onHost_moves (.refl _))

theorem releaseSema_moves {n : Nat} (h : Moves κ s0 s)
    (hc : caps [.objs, .semas, .waits, .flights, .hostRest] ||| κ = κ := by decide) :
    Moves κ s0 (releaseSema n s) := by
  refine h.of hc ?_
  unfold releaseSema
  dsimp only
  split
  · exact setSema_moves (.refl _)
  · exact completeAll_moves (setSema_moves (onHost_moves (.refl _)))

theorem releaseAll_moves {v : SemaState} (h : Moves κ s0 s)
    (hc : caps [.objs, .semas, .waits, .flights, .hostRest] ||| κ = κ := by decide) : Moves κ s0 (releaseAll v s) :=
  h.of hc (each_moves (fun _ _ => releaseSema_moves (.refl _)) (.refl _))

theorem remarkSemas_moves {v : SemaState} {w : SemaState} (h : Moves κ s0 s) (hc : caps [.semas] ||| κ = κ := by
    decide) : Moves κ s0 (remarkSemas v w s) :=
  h.of hc (onHost_moves (.refl _))

theorem holdoffEnd_moves {m : Nat} (h : Moves κ s0 s)
    (hc : caps [.objs, .semas, .waits, .flights, .hostRest, .chans] ||| κ = κ := by decide) :
    Moves κ s0 (holdoffEnd m s) :=
  h.of hc (put_moves (orphanHost_moves (releaseAll_moves (.refl _))))

theorem endSession_moves {p : Nat} {cause : Nat} (h : Moves κ s0 s) (hc : caps [.objs, .places, .semas, .waits,
    .flights, .bursts, .ingress, .hostRest, .chans, .pow] ||| κ = κ := by decide) :
    Moves κ s0 (endSession p cause s) := by
  refine h.of hc ?_
  unfold endSession
  dsimp only
  split
  · exact .refl _
  · exact .ite (put_moves (completeAll_moves (clearPlace_moves (onPlace_moves (endWork_moves (dropSubs_moves (.refl
      _))))))) (.ite (orphanHost_moves (releaseAll_moves (onPow_moves (.ite (put_moves (completeAll_moves
      (clearPlace_moves (onPlace_moves (endWork_moves (dropSubs_moves (.refl _))))))) (put_moves (put_moves
      (completeAll_moves (clearPlace_moves (onPlace_moves (endWork_moves (dropSubs_moves (.refl _)))))))))))) (.ite
      (holdoffEnd_moves (onPlace_moves (put_moves (.ite (releaseAll_moves (onPow_moves (.ite (put_moves
      (completeAll_moves (clearPlace_moves (onPlace_moves (endWork_moves (dropSubs_moves (.refl _))))))) (put_moves
      (put_moves (completeAll_moves (clearPlace_moves (onPlace_moves (endWork_moves (dropSubs_moves (.refl
      _))))))))))) (remarkSemas_moves (onPow_moves (.ite (put_moves (completeAll_moves (clearPlace_moves
      (onPlace_moves (endWork_moves (dropSubs_moves (.refl _))))))) (put_moves (put_moves (completeAll_moves
      (clearPlace_moves (onPlace_moves (endWork_moves (dropSubs_moves (.refl _))))))))))))))) (onPlace_moves
      (put_moves (.ite (releaseAll_moves (onPow_moves (.ite (put_moves (completeAll_moves (clearPlace_moves
      (onPlace_moves (endWork_moves (dropSubs_moves (.refl _))))))) (put_moves (put_moves (completeAll_moves
      (clearPlace_moves (onPlace_moves (endWork_moves (dropSubs_moves (.refl _))))))))))) (remarkSemas_moves
      (onPow_moves (.ite (put_moves (completeAll_moves (clearPlace_moves (onPlace_moves (endWork_moves
      (dropSubs_moves (.refl _))))))) (put_moves (put_moves (completeAll_moves (clearPlace_moves (onPlace_moves
      (endWork_moves (dropSubs_moves (.refl _))))))))))))))))

theorem dropClosed_moves {p : Nat} (h : Moves κ s0 s)
    (hc : caps [.objs, .places, .waits, .flights, .bursts, .ingress] ||| κ = κ := by decide) :
    Moves κ s0 (dropClosed p s) := by
  refine h.of hc ?_
  unfold dropClosed
  split
  · exact .refl _
  · exact .ite (.refl _) (clearPlace_moves (onPlace_moves (endWork_moves (.refl _))))

theorem bindSession_moves {i : Nat} {c : Challenge} {sk : List Byte} (h : Moves κ s0 s) (hc : caps [.objs, .places,
    .semas, .waits, .flights, .bursts, .ingress, .hostRest, .chans, .pow] ||| κ = κ := by decide) :
    Moves κ s0 (bindSession i c sk s) :=
  h.of hc (.ite (remarkSemas_moves (put_moves (put_moves (put_moves (put_moves (put_moves (put_moves (put_moves
    (onPlace_moves (onHost_moves (dropClosed_moves (.ite (endSession_moves (.refl _)) (.refl _)))))))))))))
    (put_moves (put_moves (put_moves (put_moves (onPlace_moves (onHost_moves (dropClosed_moves (.ite
    (endSession_moves (.refl _)) (.refl _))))))))))

theorem authFailed_moves {role : Nat} (h : Moves κ s0 s) (hc : caps [.objs, .hostRest] ||| κ = κ := by decide) :
    Moves κ s0 (authFailed role s) :=
  h.of hc (onHost_moves (put_moves (.refl _)))

theorem proof_moves {t : Transport} {p : Peer} {bs : List Byte} (h : Moves κ s0 s) (hc : caps [.objs, .places, .semas,
    .waits, .flights, .bursts, .ingress, .egress, .hostRest, .chans, .pow, .net] ||| κ = κ := by decide) :
    Moves κ s0 (proof t p bs s) := by
  refine h.of hc ?_
  unfold proof
  dsimp only
  refine .ite ?_ ?_
  · exact put_moves (.refl _)
  · split
    · exact put_moves (.refl _)
    · split
      · exact .refl _
      · exact .ite (answerOpen_moves (dropChallenge_moves (.refl _))) (.ite (answerOpen_moves (dropChallenge_moves
          (.refl _))) (.ite (answerOpen_moves (bindSession_moves (.refl _))) (answerOpen_moves (authFailed_moves
          (dropChallenge_moves (.refl _))))))

theorem execProof_gives {t : Transport} {p : Peer} {frame : List Byte} {s : State} :
    Gives (caps [.objs, .places, .semas, .waits, .flights, .bursts, .ingress, .egress, .hostRest, .chans, .pow, .net])
    s (execProof t p frame s) :=
  answerLive_gives fun _ => .ite (proof_moves (.refl _)) (.refl _)

theorem execAuthLockoutExpiry_gives {role : Fin 3} {s : State} :
    Gives (caps [.hostRest]) s (execAuthLockoutExpiry role s) :=
  answerLive_gives fun _ => .ite (.refl _) (onHost_moves (.refl _))

theorem execChallengeTimeout_gives {p : Fin 8} {s : State} : Gives (caps [.objs]) s (execChallengeTimeout p s) :=
  answerLive_gives fun _ => .ite (put_moves (.refl _)) (.refl _)

theorem receiveHost_moves {i : Nat} {se : Session} {bs : List Byte} (h : Moves κ s0 s) (hc : caps [.objs, .places,
    .semas, .waits, .flights, .bursts, .ingress, .hostRest, .chans, .pow] ||| κ = κ := by decide) :
    Moves κ s0 (receiveHost i se bs s) :=
  h.of hc (.ite (put_moves (.refl _)) (.ite (put_moves (.refl _)) (.ite (put_moves (.refl _)) (.ite (.ite
    (endSession_moves (put_moves (onSession_moves (.refl _)))) (put_moves (onSession_moves (.refl _)))) (.ite
    (moveFill_moves (onHost_moves (onSession_moves (.refl _)))) (moveFill_moves (onHost_moves (onSession_moves
    (.refl _)))))))))

theorem hostFrame_moves {t : Transport} {p : Peer} {bs : List Byte} (h : Moves κ s0 s) (hc : caps [.objs, .places,
    .semas, .waits, .flights, .bursts, .ingress, .hostRest, .chans, .pow] ||| κ = κ := by decide) :
    Moves κ s0 (hostFrame t p bs s) := by
  refine h.of hc ?_
  unfold hostFrame
  refine .ite ?_ ?_
  · exact put_moves (.refl _)
  · refine .ite ?_ ?_
    · exact put_moves (.refl _)
    · split
      · exact put_moves (.refl _)
      · split
        · exact receiveHost_moves (.refl _)
        · exact .refl _

theorem execHostFrameRx_gives {t : Transport} {p : Peer} {frame : List Byte} {s : State} :
    Gives (caps [.objs, .places, .semas, .waits, .flights, .bursts, .ingress, .hostRest, .chans, .pow]) s
    (execHostFrameRx t p frame s) :=
  answerLive_gives fun _ => .ite (hostFrame_moves (.refl _)) (.refl _)

theorem ackEntry_moves {p : Nat} {e : Nat × Nat × Nat} (h : Moves κ s0 s) (hc : caps [.objs] ||| κ = κ := by decide) :
    Moves κ s0 (ackEntry p e s) := by
  refine h.of hc ?_
  unfold ackEntry
  dsimp only
  split
  · exact put_moves (.refl _)
  · exact .ite (put_moves (.refl _)) (moveFill_moves (onHost_moves (.refl _)))

theorem ackNotices_moves {p : Nat} {r : Req} (h : Moves κ s0 s) (hc : caps [.objs] ||| κ = κ := by decide) :
    Moves κ s0 (ackNotices p r s) := by
  refine h.of hc ?_
  unfold ackNotices
  split
  · exact each_moves (fun _ _ => ackEntry_moves (.refl _)) (.refl _)
  · exact put_moves (.refl _)

theorem checkSafety_moves {p : Nat} {e : Elem} (h : Moves κ s0 s)
    (hc : caps [.objs, .places] ||| κ = κ := by decide) : Moves κ s0 (checkSafety p e s).2 := by
  refine h.of hc ?_
  unfold checkSafety
  dsimp only
  split
  · split
    · dsimp only; exact put_moves (.refl _)
    · exact .refl _
  · split
    · dsimp only; exact put_moves (.refl _)
    · split
      · dsimp only; exact put_moves (.refl _)
      · split
        · dsimp only; exact put_moves (onSession_moves (.refl _))
        · exact onSession_moves (.refl _)

theorem dozeExit_moves (h : Moves κ s0 s) (hc : caps [.objs, .pow, .net] ||| κ = κ := by decide) :
    Moves κ s0 (dozeExit s) :=
  h.of hc (.ite (each_moves (fun _ _ => .ite (onNet_moves (put_moves (.refl _))) (.refl _)) (onPow_moves (put_moves
    (.refl _)))) (.refl _))

theorem abortBurst_moves {p : Nat} {id : Nat} (h : Moves κ s0 s) (hc : caps [.objs, .flights, .bursts] ||| κ = κ :=
    by decide) : Moves κ s0 (abortBurst p id s) :=
  h.of hc (.ite (complete_moves (.refl _)) (.ite (complete_moves (.refl _)) (complete_moves (moveFill_moves
    (completeAll_moves (moveFill_moves (onHost_moves (.refl _))))))))

/-- A transaction under the next number joins those in flight. -/
theorem admitFlight_moves {f : Flight} (h : Moves κ s0 s) (hf : f.id = s.host.nextFlight)
    (hc : caps [.flights] ||| κ = κ := by decide) :
    Moves κ s0 (s.onHost fun h => { h with nextFlight := s.host.nextFlight + 1, flights := h.flights ++ [f] }) := by
  refine h.of hc ⟨rfl, rfl, rfl, id, fun hs => ⟨?_, fun g hg => ?_⟩, fun p hp => ?_,
    fun _ => .of_lat rfl⟩
  · refine List.pairwise_append.2 ⟨hs.1, List.pairwise_singleton _ _, fun a ha b hb => ?_⟩
    rw [List.mem_singleton.1 hb, hf]
    exact Nat.ne_of_lt (hs.2 a ha)
  · rcases List.mem_append.1 hg with hg | hg
    · exact Nat.lt_succ_of_lt (hs.2 g hg)
    · rw [List.mem_singleton.1 hg, hf]
      exact Nat.lt_succ_self _
  · cases p <;> first | rfl | exact absurd hp (by decide)

theorem admitElem_moves {p frame i : Nat} {e : Elem} (h : Moves κ s0 s)
    (hc : caps [.objs, .places, .flights, .bursts, .pow, .net] ||| κ = κ := by decide) :
    Moves κ s0 (admitElem p frame i e s) := by
  refine h.of hc ?_
  unfold admitElem
  dsimp only
  split
  · exact .refl _
  · rename_i se _
    have ha (f : Flight) (hf : f.id = s.host.nextFlight) : Moves (caps [.objs, .places, .flights, .bursts, .pow,
      .net]) s
        (moveFill 4 (moveFill (min p 2) (dozeExit (if p < 2 then
          (s.onHost fun h => { h with nextFlight := s.host.nextFlight + 1, flights := h.flights ++ [f] }).inc
            (Obj.admittedCount p)
          else s.onHost fun h => { h with nextFlight := s.host.nextFlight + 1, flights := h.flights ++ [f] })))) :=
      moveFill_moves (moveFill_moves (dozeExit_moves (.ite (put_moves (admitFlight_moves (.refl _) hf))
        (admitFlight_moves (.refl _) hf))))
    exact .ite (abortBurst_moves (ha _ rfl)) (.ite (onSession_moves (ha _ rfl)) (ha _ rfl))

theorem poisonAtAdmission_moves {p : Nat} {st : Nat} {segNo : Nat} (h : Moves κ s0 s)
    (hc : caps [.flights, .bursts] ||| κ = κ := by decide) : Moves κ s0 (poisonAtAdmission p st segNo s) := by
  refine h.of hc ?_
  unfold poisonAtAdmission
  split
  · exact onFlight_moves (.refl _)
  · exact onHost_moves (.refl _)

theorem refuseElem_moves {p : Nat} {frame : Nat} {i : Nat} {e : Elem} {st : Nat} {data : List Byte} (h : Moves κ s0 s)
    (hc : caps [.objs, .flights, .bursts] ||| κ = κ := by decide) :
    Moves κ s0 (refuseElem p frame i e st data s) := by
  refine h.of hc ?_
  unfold refuseElem
  dsimp only
  split
  · exact .refl _
  · exact moveFill_moves (.ite (poisonAtAdmission_moves (.ite (put_moves (onHost_moves (.refl _))) (onHost_moves
      (.refl _)))) (.ite (put_moves (onHost_moves (.refl _))) (onHost_moves (.refl _))))

theorem takeElem_moves {p frame : Nat} {closing : Bool} {i : Nat} {e : Elem} (h : Moves κ s0 s)
    (hc : caps [.objs, .places, .flights, .bursts, .pow, .net] ||| κ = κ := by decide) :
    Moves κ s0 (takeElem p frame closing i e s) := by
  refine h.of hc ?_
  unfold takeElem
  refine .ite (.ite (.refl _) (ackNotices_moves (.refl _))) ?_
  have hsafe : Moves (caps [.objs, .places, .flights, .bursts, .pow, .net]) s (checkSafety p e s).2 :=
    checkSafety_moves (.refl _)
  split
  · split
    · next hx => exact admitElem_moves (by simpa [hx] using hsafe)
    · next hx => exact refuseElem_moves (by simpa [hx] using hsafe)
  · exact refuseElem_moves (.refl _)

theorem settleLanes_moves (h : Moves κ s0 s) (hc : caps [.fns] ||| κ = κ := by decide) : Moves κ s0 (settleLanes s) :=
  h.of hc (each_moves (fun _ _ => onFn_moves (.refl _)) (.refl _))

theorem admitFrame_moves {f : RxFrame} (h : Moves κ s0 s) (hc : caps [.objs, .places, .semas, .waits, .flights,
    .bursts, .ingress, .fns, .hostRest, .chans, .pow, .net] ||| κ = κ := by decide) :
    Moves κ s0 (admitFrame f s) := by
  refine h.of hc ?_
  unfold admitFrame
  dsimp only
  split
  · exact .refl _
  · exact .ite (.refl _) (settleLanes_moves (.ite (endSession_moves (each_moves (fun _ _ => takeElem_moves (.refl
      _)) (.refl _))) (each_moves (fun _ _ => takeElem_moves (.refl _)) (.refl _))))

theorem execFrameAdmission_gives {link : Bool} {s : State} :
    Gives (caps [.objs, .places, .semas, .waits, .flights, .bursts, .ingress, .fns, .hostRest, .chans, .pow, .net]) s
    (execFrameAdmission link s) := by
  unfold execFrameAdmission
  refine answerServed_gives fun _ => ?_
  split
  · exact .refl _
  · exact .ite (.refl _) (.ite (admitFrame_moves (moveFill_moves (onHost_moves (.refl _)))) (admitFrame_moves
      (moveFill_moves (onHost_moves (.refl _)))))

theorem execLaneGrant_gives {s : State} : Gives (caps [.objs, .flights, .fns, .hostRest]) s (execLaneGrant s) := by
  unfold execLaneGrant
  dsimp only
  refine answerLive_gives fun _ => ?_
  split
  · exact settleLanes_moves (.refl _)
  · split
    · exact settleLanes_moves (moveFill_moves (moveFill_moves (.ite (onHost_moves (onFn_moves (onFlight_moves
        (settleLanes_moves (.refl _))))) (onFn_moves (onFlight_moves (settleLanes_moves (.refl _)))))))
    · exact settleLanes_moves (.refl _)

theorem onBurst_moves {m : Nat} {g : Burst → Burst} (h : Moves κ s0 s) (hc : caps [.objs, .bursts] ||| κ = κ := by
    decide) : Moves κ s0 (onBurst m g s) :=
  h.of hc (moveFill_moves (onHost_moves (.refl _)))

theorem runBegin_moves {f : Flight} (h : Moves κ s0 s) (hc : caps [.objs, .flights, .bursts] ||| κ = κ := by decide) :
    Moves κ s0 (runBegin f s) :=
  h.of hc (.ite (complete_moves (.refl _)) (.ite (complete_moves (.refl _)) (complete_moves (onBurst_moves (.refl
    _)))))

theorem poisonWith_moves {m : Nat} {st : Nat} {segNo : Nat} (h : Moves κ s0 s)
    (hc : caps [.objs, .bursts] ||| κ = κ := by decide) : Moves κ s0 (poisonWith m st segNo s) :=
  h.of hc (onBurst_moves (.refl _))

theorem runSeg_moves {f : Flight} (h : Moves κ s0 s) (hc : caps [.objs, .flights, .bursts] ||| κ = κ := by decide) :
    Moves κ s0 (runSeg f s) := by
  refine h.of hc ?_
  unfold runSeg
  dsimp only
  refine .ite ?_ ?_
  · exact complete_moves (.refl _)
  · refine .ite ?_ ?_
    · exact complete_moves (.refl _)
    · split
      · split
        · exact complete_moves (onBurst_moves (.refl _))
        · exact completeWith_moves (poisonWith_moves (.refl _))
      · split
        · exact completeWith_moves (.refl _)
        · exact completeWith_moves (poisonWith_moves (.refl _))

theorem noteRefusal_moves {t : Nat} {r : TabRefusal} (h : Moves κ s0 s) (hc : caps [.objs] ||| κ = κ := by decide) :
    Moves κ s0 (noteRefusal t r s) :=
  h.of hc (put_moves (put_moves (put_moves (put_moves (.refl _)))))

/-- What a refused segment adds to the refusal of its burst moves objects alone. -/
theorem segRefusal_moves {w : Writer} {segs before : List Segment} {x : Segment} {was after : State} (s : State) :
    Moves (caps [.objs]) s ((segRefusal w segs before x was after).2 s) := by
  have hid : Moves (caps [.objs]) s (id s) := .refl s
  have hput (k v : Nat) : Moves (caps [.objs]) s (s.put k v) := put_moves (.refl s)
  unfold segRefusal
  dsimp only
  repeat' split
  all_goals first
    | exact hid
    | exact noteRefusal_moves (.refl s)
    | (dsimp only; exact hput _ _)

/-- What a refused burst leaves behind moves objects alone. -/
theorem burstRefusal_moves {w : Writer} {segs : List Segment} {was after : State} {before xs : List Segment}
    {st n : Nat} {f : State → State} (hf : burstRefusal w segs was after before xs = some (st, n, f))
    (h : Moves κ s0 s) (hc : caps [.objs] ||| κ = κ := by decide) : Moves κ s0 (f s) := by
  refine h.of hc ?_
  clear h
  induction xs generalizing before with
  | nil => cases hf
  | cons x xs ih =>
    unfold burstRefusal at hf
    split at hf
    · exact ih hf
    · next hx =>
      cases hf
      have := segRefusal_moves (w := w) (segs := segs) (before := before) (x := x) (was := was) (after := after) s
      rwa [hx] at this

theorem plainPut_moves {k : Nat} {v : Nat} (h : Moves κ s0 s) (hc : caps [.objs] ||| κ = κ := by decide) :
    Moves κ s0 (plainPut k v s) := by
  refine h.of hc ?_
  unfold plainPut
  dsimp only
  split
  · exact .refl _
  · exact .ite (put_moves (.refl _)) (.refl _)

theorem afterBurst_moves {segs : List Segment} (h : Moves κ s0 s) (hc : caps [.objs, .recd] ||| κ = κ := by decide) :
    Moves κ s0 (afterBurst segs s) :=
  h.of hc (each_moves (fun _ _ => onRec_moves (.refl _)) (.ite (onRec_moves (each_moves (fun _ _ => .ite
    (plainPut_moves (.refl _)) (.refl _)) (.refl _))) (each_moves (fun _ _ => .ite (plainPut_moves (.refl _)) (.refl
    _)) (.refl _))))

theorem countPort_moves {k : Nat} {p : Nat} {n : Nat} (h : Moves κ s0 s) (hc : caps [.objs] ||| κ = κ := by decide) :
    Moves κ s0 (countPort k p n s) :=
  h.of hc (put_moves (.refl _))

theorem onPort_moves {p : Nat} {f : PortUnit → PortUnit} (h : Moves κ s0 s) (hc : caps [.net] ||| κ = κ := by
    decide) : Moves κ s0 (State.onPort p f s) :=
  h.of hc (onNet_moves (.refl _))

theorem settleClock_moves (h : Moves κ s0 s) (hc : caps [.objs, .net] ||| κ = κ := by decide) :
    Moves κ s0 (settleClock s) := by
  refine h.of hc ?_
  unfold settleClock
  dsimp only
  split
  · exact .ite (put_moves (.refl _)) (onNet_moves (put_moves (put_moves (.refl _))))
  · exact .ite (put_moves (onNet_moves (put_moves (.refl _)))) (onNet_moves (put_moves (.refl _)))

theorem flushLearning_moves (h : Moves κ s0 s) (hc : caps [.net] ||| κ = κ := by decide) :
    Moves κ s0 (flushLearning s) :=
  h.of hc (onNet_moves (.refl _))

theorem blockPort_moves {v : Nat} (h : Moves κ s0 s) (hc : caps [.objs, .net] ||| κ = κ := by decide) :
    Moves κ s0 (blockPort v s) :=
  h.of hc (settleClock_moves (flushLearning_moves (each_moves (fun _ _ => .ite (moveFill_moves (countPort_moves
    (onPort_moves (.refl _)))) (.refl _)) (put_moves (.refl _)))))

theorem onBypass_moves {f : Bypass → Bypass} (h : Moves κ s0 s) (hc : caps [.net] ||| κ = κ := by decide) :
    Moves κ s0 (State.onBypass f s) :=
  h.of hc (onNet_moves (.refl _))

theorem toBypassed_moves (h : Moves κ s0 s) (hc : caps [.objs, .net] ||| κ = κ := by decide) :
    Moves κ s0 (toBypassed s) :=
  h.of hc (onBypass_moves (put_moves (.refl _)))

theorem loopback_moves {on : Bool} (h : Moves κ s0 s) (hc : caps [.objs] ||| κ = κ := by decide) :
    Moves κ s0 (loopback on s) :=
  h.of hc (each_moves (fun _ _ => put_moves (.refl _)) (.refl _))

theorem dropBypass_moves (h : Moves κ s0 s) (hc : caps [.objs, .net] ||| κ = κ := by decide) :
    Moves κ s0 (dropBypass s) :=
  h.of hc (.ite (onBypass_moves (.refl _)) (onBypass_moves (toBypassed_moves (loopback_moves (.refl _)))))

theorem tryInserting_moves (h : Moves κ s0 s) (hc : caps [.objs, .net] ||| κ = κ := by decide) :
    Moves κ s0 (tryInserting s) :=
  h.of hc (.ite (onBypass_moves (put_moves (.refl _))) (.refl _))

theorem bypassModeWritten_moves {v : Nat} (h : Moves κ s0 s) (hc : caps [.objs, .net] ||| κ = κ := by decide) :
    Moves κ s0 (bypassModeWritten v s) :=
  h.of hc (.ite (dropBypass_moves (put_moves (.refl _))) (tryInserting_moves (put_moves (.refl _))))

theorem springWritten_moves {k : Nat} {v : Nat} (h : Moves κ s0 s) (hc : caps [.objs, .sup] ||| κ = κ := by decide) :
    Moves κ s0 (springWritten k v s) := by
  refine h.of hc ?_
  unfold springWritten
  dsimp only
  exact onSup_moves (.ite (each_moves (fun _ _ => put_moves (.refl _)) (.refl _)) (.refl _))

theorem raiseIn_moves {fn : Nat} {cls : Nat} {num : Nat} {kind : Nat} {data : List Byte} {safety : Bool}
    (h : Moves κ s0 s) (hc : caps [.objs] ||| κ = κ := by decide) :
    Moves κ s0 (raiseIn fn cls num kind data safety s) :=
  h.of hc (moveFill_moves (raiseOn_moves (.refl _)))

theorem raise_moves {cls : Nat} {num : Nat} {kind : Nat} {data : List Byte} {safety : Bool} (h : Moves κ s0 s)
    (hc : caps [.objs] ||| κ = κ := by decide) : Moves κ s0 (raise cls num kind data safety s) :=
  h.of hc (raiseIn_moves (.refl _))

theorem stateNotice_moves {k : Nat} {v : Nat} (h : Moves κ s0 s) (hc : caps [.objs] ||| κ = κ := by decide) :
    Moves κ s0 (stateNotice k v s) :=
  h.of hc (raise_moves (.refl _))

theorem checkWakeAt_moves (h : Moves κ s0 s) (hc : caps [.objs] ||| κ = κ := by decide) :
    Moves κ s0 (checkWakeAt s) :=
  h.of hc (.ite (stateNotice_moves (put_moves (.refl _))) (.refl _))

theorem serviceWritten_moves {m : Nat} {v : Nat} (h : Moves κ s0 s) (hc : caps [.pow] ||| κ = κ := by decide) :
    Moves κ s0 (serviceWritten m v s) :=
  h.of hc (onPow_moves (.refl _))

theorem holdRtc_moves (h : Moves κ s0 s) (hc : caps [.clk] ||| κ = κ := by decide) : Moves κ s0 (holdRtc s) :=
  h.of hc (onClk_moves (.refl _))

theorem setTrim_moves {v : Nat} (h : Moves κ s0 s) (hc : caps [.objs, .clk] ||| κ = κ := by decide) :
    Moves κ s0 (setTrim v s) :=
  h.of hc (put_moves (holdRtc_moves (.refl _)))

theorem setEnv_moves {a : Nat} {opening : Bool} {v : Nat} (h : Moves κ s0 s) (hc : caps [.objs, .recd] ||| κ = κ :=
    by decide) : Moves κ s0 (setEnv a opening v s) :=
  h.of hc (onRec_moves (put_moves (.refl _)))

theorem learnEnv_moves {a : Nat} {opening : Bool} (h : Moves κ s0 s) (hc : caps [.objs, .recd] ||| κ = κ := by
    decide) : Moves κ s0 (learnEnv a opening s) :=
  h.of hc (.ite (put_moves (put_moves (setEnv_moves (.refl _)))) (put_moves (setEnv_moves (.refl _))))

theorem captureSeed_moves {a : Nat} {opening : Bool} {sums : List BinSum} (h : Moves κ s0 s)
    (hc : caps [.objs, .recd] ||| κ = κ := by decide) : Moves κ s0 (captureSeed a opening sums s) :=
  h.of hc (setEnv_moves (put_moves (.refl _)))

theorem captureStroke_moves {a : Nat} {opening : Bool} (h : Moves κ s0 s)
    (hc : caps [.objs, .recd, .axes] ||| κ = κ := by decide) : Moves κ s0 (captureStroke a opening s) :=
  h.of hc (.ite (.refl _) (.ite (onAxis_moves (put_moves (captureSeed_moves (captureSeed_moves (.refl _)))))
    (onAxis_moves (.refl _))))

theorem learnPending_moves {a : Nat} (h : Moves κ s0 s) (hc : caps [.objs, .recd, .axes] ||| κ = κ := by decide) :
    Moves κ s0 (learnPending a s) := by
  refine h.of hc ?_
  unfold learnPending
  dsimp only
  split
  · exact .refl _
  · exact onAxis_moves (.ite (.ite (onAxis_moves (learnEnv_moves (.refl _))) (.refl _)) (captureStroke_moves (.ite
      (onAxis_moves (learnEnv_moves (.refl _))) (.refl _))))

theorem copySeeds_moves {a : Nat} (h : Moves κ s0 s) (hc : caps [.objs, .recd] ||| κ = κ := by decide) :
    Moves κ s0 (copySeeds a s) :=
  h.of hc (setEnv_moves (setEnv_moves (.refl _)))

theorem setReserveMotion_moves {a : Nat} {b : Bool} (h : Moves κ s0 s) (hc : caps [.sup] ||| κ = κ := by decide) :
    Moves κ s0 (setReserveMotion a b s) :=
  h.of hc (onSup_moves (.refl _))

theorem setSt_moves {a : Nat} {b : Nat} {v : Bool} (h : Moves κ s0 s) (hc : caps [.objs] ||| κ = κ := by decide) :
    Moves κ s0 (setSt a b v s) :=
  h.of hc (put_moves (.refl _))

theorem refreshMoving_moves {a : Nat} (h : Moves κ s0 s) (hc : caps [.objs, .axes] ||| κ = κ := by decide) :
    Moves κ s0 (refreshMoving a s) :=
  h.of hc (.ite (.refl _) (onAxis_moves (setSt_moves (.refl _))))

theorem holdAxis_moves {a : Nat} (h : Moves κ s0 s) (hc : caps [.objs, .axes] ||| κ = κ := by decide) :
    Moves κ s0 (holdAxis a s) :=
  h.of hc (onAxis_moves (setSt_moves (.refl _)))

theorem zeroDrive_moves {a : Nat} (h : Moves κ s0 s) (hc : caps [.objs] ||| κ = κ := by decide) :
    Moves κ s0 (zeroDrive a s) :=
  h.of hc (setSt_moves (put_moves (put_moves (.refl _))))

theorem brakeAxis_moves {a : Nat} (h : Moves κ s0 s) (hc : caps [.objs, .axes] ||| κ = κ := by decide) :
    Moves κ s0 (brakeAxis a s) :=
  h.of hc (zeroDrive_moves (onAxis_moves (.refl _)))

theorem freeAxis_moves {a : Nat} (h : Moves κ s0 s) (hc : caps [.objs, .axes] ||| κ = κ := by decide) :
    Moves κ s0 (freeAxis a s) :=
  h.of hc (zeroDrive_moves (onAxis_moves (.refl _)))

theorem applyReaction_moves {a : Nat} (h : Moves κ s0 s) (hc : caps [.objs, .axes] ||| κ = κ := by decide) :
    Moves κ s0 (applyReaction a s) := by
  refine h.of hc ?_
  unfold applyReaction
  split
  · exact freeAxis_moves (.refl _)
  · exact brakeAxis_moves (.refl _)
  · exact zeroDrive_moves (onAxis_moves (.refl _))
  · exact .refl _

theorem repeatRecord_moves {r : LogRec} (h : Moves κ s0 s) (hc : caps [.recd] ||| κ = κ := by decide) :
    Moves κ s0 (repeatRecord r s) :=
  h.of hc (.ite (onRec_moves (.refl _)) (onRec_moves (.refl _)))

theorem makeRoom_moves {n fuel : Nat} (h : Moves κ s0 s) (hc : caps [.objs, .recd] ||| κ = κ := by decide) :
    Moves κ s0 (makeRoom n fuel s) := by
  refine h.of hc ?_
  induction fuel generalizing s0 s with
  | zero => exact .refl _
  | succ fuel ih =>
    unfold makeRoom
    refine .ite (.refl _) ?_
    split
    · exact .refl _
    · exact .trans (put_moves (onRec_moves (.refl _))) (ih (.refl _))

theorem addFlush_moves {final : Bool} {flights : List Nat} (h : Moves κ s0 s)
    (hc : caps [.recd] ||| κ = κ := by decide) : Moves κ s0 (addFlush final flights s) := by
  refine h.of hc ?_
  unfold addFlush
  exact .ite (.refl _) (onRec_moves (.refl _) (hi := by split <;> rfl))

theorem wantFlush_moves (h : Moves κ s0 s) (hc : caps [.recd] ||| κ = κ := by decide) : Moves κ s0 (wantFlush s) :=
  h.of hc (addFlush_moves (.refl _))

theorem admitRec_moves {log kind src : Nat} {body : List Byte} (h : Moves κ s0 s)
    (hc : caps [.objs, .recd] ||| κ = κ := by decide) : Moves κ s0 (admitRec log kind src body s).2 := by
  refine h.of hc ?_
  have hdrop (t : State) (ht : Moves (caps [.objs, .recd]) s t) : Moves (caps [.objs, .recd]) s (t.inc
    Obj.droppedRecords) := put_moves ht
  have hroom (b : Bool) : Moves (caps [.objs, .recd]) s (if b then makeRoom (36 + body.length) 8192 s else s) :=
    .ite (makeRoom_moves (.refl _)) (.refl _)
  unfold admitRec
  dsimp only
  split
  · exact .refl _
  split
  · exact hdrop s (.refl _)
  split
  · exact repeatRecord_moves (.refl _)
  rw [apply_ite Prod.snd]
  dsimp only
  exact .ite (onRec_moves (hdrop _ (hroom _)))
    (moveFill_moves (.ite (wantFlush_moves (onRec_moves (hroom _))) (onRec_moves (hroom _))))

theorem faultRecord_moves {kind : Nat} {src : Nat} {k : Nat} {reaction : Nat} {cause : Nat} {value1 : Nat}
    {value2 : Nat} {cls : Nat} {num : Nat} (h : Moves κ s0 s) (hc : caps [.objs, .recd] ||| κ = κ := by decide) :
    Moves κ s0 (faultRecord kind src k reaction cause value1 value2 cls num s) :=
  h.of hc (.ite (raise_moves (.ite (put_moves (admitRec_moves (.refl _))) (admitRec_moves (.refl _))))
    (admitRec_moves (.refl _)))

theorem axisFaultRecord_moves {a : Nat} {reaction : Nat} (h : Moves κ s0 s) (hc : caps [.objs, .recd] ||| κ = κ :=
    by decide) : Moves κ s0 (axisFaultRecord a reaction s) :=
  h.of hc (faultRecord_moves (.refl _))

theorem raiseFault_moves {a : Nat} {b : Nat} (h : Moves κ s0 s)
    (hc : caps [.objs, .seq, .recd, .axes, .pow, .net] ||| κ = κ := by decide) : Moves κ s0 (raiseFault a b s) :=
  h.of hc (.ite (dozeExit_moves (axisFaultRecord_moves (onInst_moves (setSt_moves (applyReaction_moves (onAxis_moves
    (put_moves (.refl _)))))))) (applyReaction_moves (onAxis_moves (put_moves (.refl _)))))

theorem cycleMove_moves {a : Nat} {opening : Bool} (h : Moves κ s0 s) (hc : caps [.axes] ||| κ = κ := by decide) :
    Moves κ s0 (cycleMove a opening s) :=
  h.of hc (onAxis_moves (.refl _))

theorem checkNip_moves {a : Nat} (h : Moves κ s0 s) (hc : caps [.objs, .axes] ||| κ = κ := by decide) :
    Moves κ s0 (checkNip a s) :=
  h.of hc (.ite (onAxis_moves (setSt_moves (.refl _))) (.refl _))

theorem startMotion_moves {a : Nat} {target : Nat} {mandatory : Bool} (h : Moves κ s0 s)
    (hc : caps [.objs, .axes, .sup] ||| κ = κ := by decide) : Moves κ s0 (startMotion a target mandatory s) :=
  h.of hc (checkNip_moves (setReserveMotion_moves (cycleMove_moves (onAxis_moves (.refl _)))))

theorem moveToEnd_moves {a : Nat} {target : Nat} {mandatory : Bool} (h : Moves κ s0 s)
    (hc : caps [.objs, .seq, .recd, .axes, .sup, .pow, .net] ||| κ = κ := by decide) :
    Moves κ s0 (moveToEnd a target mandatory s) :=
  h.of hc (.ite (raiseFault_moves (.refl _)) (.ite (refreshMoving_moves (holdAxis_moves (onAxis_moves (put_moves
    (put_moves (setSt_moves (.refl _))))))) (refreshMoving_moves (startMotion_moves (.ite (put_moves (.refl _))
    (.refl _))))))

theorem moveTo_moves {a : Nat} {target : Nat} {mandatory : Bool} (h : Moves κ s0 s)
    (hc : caps [.objs, .seq, .recd, .axes, .sup, .pow, .net] ||| κ = κ := by decide) :
    Moves κ s0 (moveTo a target mandatory s) := by
  refine h.of hc ?_
  unfold moveTo
  split
  · exact refreshMoving_moves (holdAxis_moves (.refl _))
  · exact refreshMoving_moves (brakeAxis_moves (.refl _))
  · exact refreshMoving_moves (freeAxis_moves (.refl _))
  · exact moveToEnd_moves (.refl _)

theorem moveAxis_moves {a : Nat} {target : Nat} {prof : Nat} {mandatory : Bool} (h : Moves κ s0 s)
    (hc : caps [.objs, .seq, .recd, .axes, .sup, .pow, .net] ||| κ = κ := by decide) :
    Moves κ s0 (moveAxis a target prof mandatory s) :=
  h.of hc (.ite (onAxis_moves (setReserveMotion_moves (put_moves (put_moves (put_moves (.ite (onAxis_moves
    (copySeeds_moves (learnPending_moves (.refl _)))) (learnPending_moves (.refl _)))))))) (moveTo_moves
    (onAxis_moves (onAxis_moves (setReserveMotion_moves (put_moves (put_moves (put_moves (.ite (onAxis_moves
    (copySeeds_moves (learnPending_moves (.refl _)))) (learnPending_moves (.refl _)))))))))))

theorem disableAxes_moves {as : List Nat} {v : Nat} (h : Moves κ s0 s)
    (hc : caps [.objs, .seq, .recd, .axes, .sup, .pow, .net] ||| κ = κ := by decide) :
    Moves κ s0 (disableAxes as v s) :=
  h.of hc (each_moves (fun _ _ => .ite (.refl _) (moveAxis_moves (.refl _))) (.refl _))

theorem orphanOutputs_moves {cs : List Nat} (h : Moves κ s0 s) (hc : caps [.objs, .chans] ||| κ = κ := by decide) :
    Moves κ s0 (orphanOutputs cs s) :=
  h.of hc (each_moves (fun _ _ => .ite (.refl _) (setOrphan_moves (.refl _))) (.refl _))

theorem showConflicts_moves (h : Moves κ s0 s) (hc : caps [.objs] ||| κ = κ := by decide) :
    Moves κ s0 (showConflicts s) := by
  refine h.of hc ?_
  unfold showConflicts
  dsimp only
  exact put_moves (put_moves (.refl _))

theorem capture_moves {a : Nat} {n : Nat} {kind : Nat} {t : Nat} (h : Moves κ s0 s)
    (hc : caps [.objs, .axes] ||| κ = κ := by decide) : Moves κ s0 (capture a n kind t s) :=
  h.of hc (.ite (.refl _) (onAxis_moves (put_moves (.refl _))))

theorem offerLatches_moves {kind : Nat} {t : Nat} {sources : List Nat} (h : Moves κ s0 s)
    (hc : caps [.objs, .axes] ||| κ = κ := by decide) : Moves κ s0 (offerLatches kind t sources s) :=
  h.of hc (each_moves (fun _ _ => each_moves (fun _ _ => .ite (capture_moves (.refl _)) (.refl _)) (.refl _)) (.refl
    _))

theorem pinLatch_moves {i : Nat} {rise : Bool} (h : Moves κ s0 s) (hc : caps [.objs, .axes] ||| κ = κ := by decide) :
    Moves κ s0 (pinLatch i rise s) :=
  h.of hc (offerLatches_moves (.refl _))

theorem holdPatterns_moves (h : Moves κ s0 s) (hc : caps [.gp] ||| κ = κ := by decide) :
    Moves κ s0 (holdPatterns s) :=
  h.of hc (onGp_moves (.refl _))

theorem settlePins_moves (h : Moves κ s0 s) (hc : caps [.objs, .axes, .gp] ||| κ = κ := by decide) :
    Moves κ s0 (settlePins s) :=
  h.of hc (holdPatterns_moves (each_moves (fun _ _ => .ite (.refl _) (pinLatch_moves (onGp_moves (.refl _))))
    (showConflicts_moves (.refl _))))

theorem orphanPin_moves {n : Nat} (h : Moves κ s0 s) (hc : caps [.gp] ||| κ = κ := by decide) :
    Moves κ s0 (orphanPin n s) :=
  h.of hc (.ite (onGp_moves (.refl _)) (.refl _))

theorem orphanPins_moves {ns : List Nat} (h : Moves κ s0 s) (hc : caps [.objs, .axes, .gp] ||| κ = κ := by decide) :
    Moves κ s0 (orphanPins ns s) :=
  h.of hc (settlePins_moves (each_moves (fun _ _ => orphanPin_moves (.refl _)) (.refl _)))

theorem maskWritten_moves {n : Nat} {k : Nat} {v : Nat} (h : Moves κ s0 s)
    (hc : caps [.objs, .seq, .recd, .axes, .chans, .sup, .pow, .net, .gp] ||| κ = κ := by decide) :
    Moves κ s0 (maskWritten n k v s) :=
  h.of hc (.ite (disableAxes_moves (put_moves (.refl _))) (.ite (orphanOutputs_moves (put_moves (.refl _))) (.ite
    (orphanPins_moves (put_moves (.refl _))) (put_moves (.refl _)))))

theorem freePin_moves {n : Nat} (h : Moves κ s0 s) (hc : caps [.gp] ||| κ = κ := by decide) :
    Moves κ s0 (freePin n s) :=
  h.of hc (onGp_moves (.refl _))

theorem setLevels_moves {p : Nat} {v : Nat} (h : Moves κ s0 s) (hc : caps [.objs, .axes, .gp] ||| κ = κ := by
    decide) : Moves κ s0 (setLevels p v s) :=
  h.of hc (settlePins_moves (each_moves (fun _ _ => freePin_moves (.refl _)) (put_moves (.refl _))))

theorem patternWritten_moves {u : Nat} (h : Moves κ s0 s) (hc : caps [.objs, .gp] ||| κ = κ := by decide) :
    Moves κ s0 (patternWritten u s) :=
  h.of hc (holdPatterns_moves (onGp_moves (put_moves (.refl _))))

theorem onLine_moves {n : Nat} {f : PinLine → PinLine} (h : Moves κ s0 s) (hc : caps [.gp] ||| κ = κ := by decide) :
    Moves κ s0 (State.onLine n f s) :=
  h.of hc (onGp_moves (.refl _))

theorem lineWritten_moves {n : Nat} (h : Moves κ s0 s) (hc : caps [.gp] ||| κ = κ := by decide) :
    Moves κ s0 (lineWritten n s) :=
  h.of hc (onLine_moves (.refl _))

theorem unreference_moves {a : Nat} (h : Moves κ s0 s) (hc : caps [.objs, .axes] ||| κ = κ := by decide) :
    Moves κ s0 (unreference a s) :=
  h.of hc (.ite (.refl _) (.ite (setSt_moves (onAxis_moves (setSt_moves (.refl _)))) (onAxis_moves (setSt_moves
    (.refl _)))))

theorem setFb_moves {a : Nat} {b : Nat} {v : Bool} (h : Moves κ s0 s) (hc : caps [.objs] ||| κ = κ := by decide) :
    Moves κ s0 (setFb a b v s) :=
  h.of hc (put_moves (.refl _))

theorem shiftEdges_moves {a : Nat} {d : Int} (h : Moves κ s0 s) (hc : caps [.axes] ||| κ = κ := by decide) :
    Moves κ s0 (shiftEdges a d s) :=
  h.of hc (onAxis_moves (.refl _))

theorem resideCompares_moves {a : Nat} (h : Moves κ s0 s) (hc : caps [.axes] ||| κ = κ := by decide) :
    Moves κ s0 (resideCompares a s) :=
  h.of hc (onAxis_moves (.refl _))

theorem jumpPos_moves {a : Nat} (h : Moves κ s0 s) (hc : caps [.objs, .axes] ||| κ = κ := by decide) :
    Moves κ s0 (jumpPos a s) :=
  h.of hc (resideCompares_moves (onAxis_moves (shiftEdges_moves (put_moves (.refl _)))))

theorem feedbackConfigWritten_moves {a : Nat} (h : Moves κ s0 s) (hc : caps [.objs, .axes] ||| κ = κ := by decide) :
    Moves κ s0 (feedbackConfigWritten a s) :=
  h.of hc (jumpPos_moves (onAxis_moves (setFb_moves (put_moves (put_moves (put_moves (unreference_moves (.refl
    _))))))))

theorem seedWritten_moves {a : Nat} {opening : Bool} (h : Moves κ s0 s)
    (hc : caps [.objs, .recd, .axes] ||| κ = κ := by decide) : Moves κ s0 (seedWritten a opening s) :=
  h.of hc (.ite (onAxis_moves (setEnv_moves (.refl _))) (put_moves (onAxis_moves (setEnv_moves (.refl _)))))

theorem switchCell_moves {c : Nat} {b : Bool} (h : Moves κ s0 s) (hc : caps [.objs, .chans] ||| κ = κ := by decide) :
    Moves κ s0 (switchCell c b s) :=
  h.of hc (.ite (.refl _) (.ite (onChan_moves (put_moves (.refl _))) (onChan_moves (.refl _))))

theorem onRegs_moves {c : Nat} {f : ChanRegs → ChanRegs} (h : Moves κ s0 s) (hc : caps [.dies] ||| κ = κ := by
    decide) : Moves κ s0 (State.onRegs c f s) :=
  h.of hc (onDie_moves (.refl _))

theorem putInput_moves {c : Nat} {b : Bool} (h : Moves κ s0 s) (hc : caps [.objs, .pow, .net] ||| κ = κ := by
    decide) : Moves κ s0 (putInput c b s) :=
  h.of hc (.ite (.refl _) (dozeExit_moves (put_moves (.refl _))))

theorem admitEvent_moves {log : Nat} {kind : Nat} {src : Nat} {body : List Byte} (h : Moves κ s0 s)
    (hc : caps [.objs, .recd] ||| κ = κ := by decide) : Moves κ s0 (admitEvent log kind src body s) :=
  h.of hc (admitRec_moves (.refl _))

theorem channelFault_moves {c : Nat} {reaction : Nat} {value1 : Nat} (h : Moves κ s0 s)
    (hc : caps [.objs, .recd] ||| κ = κ := by decide) : Moves κ s0 (channelFault c reaction value1 s) :=
  h.of hc (faultRecord_moves (.refl _))

theorem chanNotice_moves {c : Nat} {b : Nat} (h : Moves κ s0 s) (hc : caps [.objs, .chans] ||| κ = κ := by decide) :
    Moves κ s0 (chanNotice c b s) :=
  h.of hc (.ite (onChan_moves (raise_moves (.refl _))) (.refl _))

theorem diagRise_moves {c : Nat} {b : Nat} {value1 : Nat} (h : Moves κ s0 s)
    (hc : caps [.objs, .recd, .chans] ||| κ = κ := by decide) : Moves κ s0 (diagRise c b value1 s) := by
  refine h.of hc ?_
  unfold diagRise
  dsimp only
  refine .ite ?_ ?_
  · exact .refl _
  · refine chanNotice_moves ?_
    split
    · exact put_moves (put_moves (put_moves (.refl _)))
    · exact admitEvent_moves (put_moves (put_moves (put_moves (.refl _))))
    · exact put_moves (put_moves (put_moves (.refl _)))
    · exact channelFault_moves (put_moves (put_moves (put_moves (.refl _))))
    · exact channelFault_moves (put_moves (put_moves (.refl _)))
    · exact channelFault_moves (put_moves (put_moves (put_moves (put_moves (.refl _)))))
    · exact channelFault_moves (put_moves (put_moves (put_moves (.refl _))))
    · exact channelFault_moves (put_moves (put_moves (put_moves (.refl _))))
    · exact channelFault_moves (put_moves (put_moves (put_moves (.refl _))))
    · exact put_moves (put_moves (.refl _))

theorem linkDiag_moves {c : Nat} (h : Moves κ s0 s) (hc : caps [.objs, .recd, .chans] ||| κ = κ := by decide) :
    Moves κ s0 (linkDiag c s) :=
  h.of hc (.ite (diagRise_moves (.refl _)) (diagFall_moves (.refl _)))

theorem applyCell_moves {c : Nat} (h : Moves κ s0 s) (hc : caps [.objs, .chans] ||| κ = κ := by decide) :
    Moves κ s0 (applyCell c s) :=
  h.of hc (switchCell_moves (.refl _))

theorem configureCell_moves {c : Nat} (h : Moves κ s0 s)
    (hc : caps [.objs, .recd, .chans, .dies, .pow, .net] ||| κ = κ := by decide) : Moves κ s0 (configureCell c s) :=
  h.of hc (.ite (applyCell_moves (linkDiag_moves (putInput_moves (onChan_moves (onRegs_moves (put_moves
    (switchCell_moves (.refl _)))))))) (linkDiag_moves (putInput_moves (onChan_moves (onRegs_moves (put_moves
    (switchCell_moves (.refl _))))))))

theorem applyMode_moves {c : Nat} {m : Nat} (h : Moves κ s0 s)
    (hc : caps [.objs, .recd, .chans, .dies, .pow, .net] ||| κ = κ := by decide) : Moves κ s0 (applyMode c m s) :=
  h.of hc (.ite (.refl _) (each_moves (fun _ _ => configureCell_moves (onChan_moves (put_moves (.refl _))))
    (put_moves (put_moves (configureCell_moves (put_moves (.ite (.refl _) (each_moves (fun _ _ =>
    configureCell_moves (onChan_moves (put_moves (.refl _)))) (.refl _)))))))))

theorem inputFilterWritten_moves {c : Nat} (h : Moves κ s0 s) (hc : caps [.chans] ||| κ = κ := by decide) :
    Moves κ s0 (inputFilterWritten c s) :=
  h.of hc (onChan_moves (.refl _))

theorem testSourceWritten_moves {c : Nat} {v : Nat} (h : Moves κ s0 s) (hc : caps [.objs, .chans] ||| κ = κ := by
    decide) : Moves κ s0 (testSourceWritten c v s) :=
  h.of hc (each_moves (fun _ _ => applyCell_moves (.refl _)) (put_moves (.refl _)))

theorem reloadLimits_moves {c : Nat} (h : Moves κ s0 s) (hc : caps [.dies] ||| κ = κ := by decide) :
    Moves κ s0 (reloadLimits c s) :=
  h.of hc (onRegs_moves (.refl _))

theorem orphanStateWritten_moves {c : Nat} {v : Nat} (h : Moves κ s0 s) (hc : caps [.objs, .chans] ||| κ = κ := by
    decide) : Moves κ s0 (orphanStateWritten c v s) :=
  h.of hc (withDemand_moves (fun _ => onChan_moves (put_moves (.refl _))) (.refl _))

theorem directPinWritten_moves {c : Nat} {v : Nat} (h : Moves κ s0 s) (hc : caps [.objs, .chans, .dies] ||| κ = κ :=
    by decide) : Moves κ s0 (directPinWritten c v s) :=
  h.of hc (applyCell_moves (withDemand_moves (fun _ => reloadLimits_moves (put_moves (.refl _))) (.refl _)))

theorem putHook_moves {k : Nat} {v : Nat} (h : Moves κ s0 s)
    (hc : caps [.objs, .seq, .recd, .axes, .chans, .dies, .sup, .pow, .clk, .net, .gp] ||| κ = κ := by decide) :
    Moves κ s0 (putHook k v s) := by
  refine h.of hc ?_
  unfold putHook
  dsimp only
  split
  · exact .refl _
  · split
    · exact blockPort_moves (.refl _)
    · exact bypassModeWritten_moves (.refl _)
    · exact settleClock_moves (put_moves (.refl _))
    · exact settleClock_moves (put_moves (.refl _))
    · exact settleClock_moves (put_moves (.refl _))
    · exact springWritten_moves (put_moves (.refl _))
    · exact springWritten_moves (put_moves (.refl _))
    · exact checkWakeAt_moves (put_moves (.refl _))
    · exact serviceWritten_moves (put_moves (.refl _))
    · exact settleClock_moves (put_moves (.refl _))
    · exact setTrim_moves (.refl _)
    · exact maskWritten_moves (.refl _)
    · exact maskWritten_moves (.refl _)
    · exact maskWritten_moves (.refl _)
    · exact maskWritten_moves (.refl _)
    · exact settlePins_moves (put_moves (.refl _))
    · exact setLevels_moves (.refl _)
    · exact settlePins_moves (put_moves (.refl _))
    · exact patternWritten_moves (put_moves (.refl _))
    · exact lineWritten_moves (put_moves (.refl _))
    · exact feedbackConfigWritten_moves (put_moves (.refl _))
    · exact feedbackConfigWritten_moves (put_moves (.refl _))
    · exact feedbackConfigWritten_moves (put_moves (.refl _))
    · exact seedWritten_moves (put_moves (.refl _))
    · exact seedWritten_moves (put_moves (.refl _))
    · exact resideCompares_moves (put_moves (.refl _))
    · exact resideCompares_moves (put_moves (.refl _))
    · exact settlePins_moves (put_moves (.refl _))
    · exact resideCompares_moves (put_moves (.refl _))
    · exact resideCompares_moves (put_moves (.refl _))
    · exact applyMode_moves (.refl _)
    · exact inputFilterWritten_moves (put_moves (.refl _))
    · exact testSourceWritten_moves (.refl _)
    · exact reloadLimits_moves (put_moves (.refl _))
    · exact reloadLimits_moves (put_moves (.refl _))
    · exact reloadLimits_moves (put_moves (.refl _))
    · exact orphanStateWritten_moves (.refl _)
    · exact directPinWritten_moves (.refl _)
    · exact put_moves (.refl _)

theorem restoreDefaults_moves (h : Moves κ s0 s)
    (hc : caps [.objs, .seq, .recd, .axes, .chans, .dies, .sup, .pow, .clk, .net, .gp] ||| κ = κ := by decide) :
    Moves κ s0 (restoreDefaults s).2 :=
  h.of hc (each_moves (fun _ _ => putHook_moves (.refl _)) (.refl _))

theorem slotReset_moves {w : Writer} {m : Nat} (h : Moves κ s0 s) (hc : caps [.objs, .places, .semas, .waits,
    .flights, .bursts, .ingress, .hostRest, .chans, .pow] ||| κ = κ := by decide) : Moves κ s0 (slotReset w m s) :=
  h.of hc (.ite (onSession_moves (.refl _)) (endSession_moves (.refl _)))

theorem countWrite_moves {k : Nat} (h : Moves κ s0 s) (hc : caps [.recd] ||| κ = κ := by decide) :
    Moves κ s0 (countWrite k s) :=
  h.of hc (.ite (onRec_moves (.refl _)) (.refl _))

theorem keyWritten_moves {target : Nat} {v : Nat} {sk : List Byte} (h : Moves κ s0 s)
    (hc : caps [.objs] ||| κ = κ := by decide) : Moves κ s0 (keyWritten target v sk s) := by
  refine h.of hc ?_
  unfold keyWritten
  dsimp only
  exact put_moves (put_moves (.refl _))

theorem linkLost_moves {p : Nat} (h : Moves κ s0 s) (hc : caps [.objs, .net] ||| κ = κ := by decide) :
    Moves κ s0 (linkLost p s) :=
  h.of hc (.ite (.refl _) (settleClock_moves (moveFill_moves (flushLearning_moves (onNet_moves (countPort_moves
    (countPort_moves (put_moves (onPort_moves (.refl _))))))))))

theorem resetPhys_moves (h : Moves κ s0 s) (hc : caps [.objs, .net] ||| κ = κ := by decide) :
    Moves κ s0 (resetPhys s) :=
  h.of hc (each_moves (fun _ _ => onPort_moves (linkLost_moves (.refl _))) (.refl _))

theorem portDefaults_moves {p : Nat} (h : Moves κ s0 s) (hc : caps [.objs] ||| κ = κ := by decide) :
    Moves κ s0 (portDefaults p s) :=
  h.of hc (each_moves (fun _ _ => put_moves (.refl _)) (put_moves (.refl _)))

theorem portReset_moves {p : Nat} (h : Moves κ s0 s) (hc : caps [.objs, .net] ||| κ = κ := by decide) :
    Moves κ s0 (portReset p s) := by
  refine h.of hc ?_
  unfold portReset
  dsimp only
  exact onBypass_moves (toBypassed_moves (put_moves (portDefaults_moves (moveFill_moves (resetPhys_moves
    (loopback_moves (countPort_moves (onPort_moves (.refl _)))))))))

theorem insertGrant_moves (h : Moves κ s0 s) (hc : caps [.objs, .net] ||| κ = κ := by decide) :
    Moves κ s0 (insertGrant s) :=
  h.of hc (tryInserting_moves (onBypass_moves (.refl _)))

theorem weirStatusWritten_moves {q : Nat} {v : Nat} (h : Moves κ s0 s) (hc : caps [.objs] ||| κ = κ := by decide) :
    Moves κ s0 (weirStatusWritten q v s) :=
  h.of hc (put_moves (.refl _))

theorem onPen_moves {i : Nat} {f : Pen → Pen} (h : Moves κ s0 s) (hc : caps [.sup] ||| κ = κ := by decide) :
    Moves κ s0 (onPen i f s) :=
  h.of hc (onSup_moves (.refl _))

theorem fallPens_moves {gap : Nat} {is : List Nat} (h : Moves κ s0 s) (hc : caps [.sup, .pow] ||| κ = κ := by
    decide) : Moves κ s0 (fallPens gap is s) := by
  refine h.of hc ?_
  unfold fallPens
  dsimp only
  exact onPow_moves (each_moves (fun _ _ => onPen_moves (.refl _)) (.refl _))

theorem dropPens_moves {gap : Nat} {follow : Bool} (h : Moves κ s0 s) (hc : caps [.sup, .pow] ||| κ = κ := by
    decide) : Moves κ s0 (dropPens gap follow s) :=
  h.of hc (fallPens_moves (onSup_moves (each_moves (fun _ _ => onPen_moves (.refl _)) (.refl _))))

theorem saveSettings_moves (h : Moves κ s0 s) (hc : caps [.pow] ||| κ = κ := by decide) :
    Moves κ s0 (saveSettings s) :=
  h.of hc (.ite (.refl _) (onPow_moves (.refl _)))

theorem cutJob_moves (h : Moves κ s0 s) (hc : caps [.free, .salt] ||| κ = κ := by decide) :
    Moves κ s0 (cutJob s) := by
  refine h.of hc ?_
  unfold cutJob
  split
  · exact .refl _
  · exact .ite (onSalt_moves (draw_moves (.refl _))) (draw_moves (.refl _))

/-- Nothing of the host side that a reset of the logic die leaves is in flight. -/
theorem fresh_of_reset {s : State} (hs : s.host = HostSide.reset) : Fresh s := by
  unfold Fresh
  rw [hs]
  exact ⟨.nil, nofun⟩

theorem canonical_filter {s t : State} (h : s.canonical) (hv : t.variant = s.variant) (q : Nat × Nat → Bool)
    (ho : t.objs = s.objs.filter q) : t.canonical := by
  unfold State.canonical
  rw [ho, hv]
  exact ⟨h.1.filter _, fun e he => h.2 e (List.mem_filter.1 he).1⟩

theorem resetGates_shut (l : Nat) : (List.replicate 24 false).getD l false = false := by
  rw [List.getD_eq_getElem?_getD, List.getElem?_replicate]
  split <;> rfl

/-- A lattice whose coils are off and whose gates are shut. -/
theorem falls_of_off {s t : State} (hc : ∀ c ∈ t.lat.coils, c.on = false)
    (hg : t.lat.gates = List.replicate 24 false) : Falls s t := by
  refine ⟨fun i hi => ?_, fun l hl => ?_⟩
  · rw [State.coil, List.getD_eq_getElem?_getD] at hi
    cases hx : t.lat.coils[i]? with
    | none => rw [hx] at hi; cases hi
    | some x => rw [hx, Option.getD_some, hc x (List.mem_of_getElem? hx)] at hi; cases hi
  · rw [hg, resetGates_shut] at hl; cases hl

theorem resetCoils_off : ∀ c ∈ Lattice.reset.coils, c.on = false := by decide

theorem loseLogic_moves (h : Moves κ s0 s) (hc : caps [.objs, .free, .places, .semas, .waits, .flights, .bursts,
    .ingress, .egress, .fns, .hostRest, .lat, .seq, .image, .recd, .salt, .axes, .setpts, .chans, .dies, .sup, .pow,
    .clk, .rst, .diag, .net, .gp] ||| κ = κ := by decide) : Moves κ s0 (loseLogic s) := by
  refine h.of hc ?_
  have hs : Moves (caps [.objs, .free, .places, .semas, .waits, .flights, .bursts, .ingress, .egress, .fns, .hostRest,
    .lat, .seq, .image, .recd, .salt, .axes, .setpts, .chans, .dies, .sup, .pow, .clk, .rst, .diag, .net, .gp]) s
    (saveSettings (cutJob s)) := saveSettings_moves (cutJob_moves (.refl _))
  refine hs.trans ⟨rfl, rfl, rfl, fun hx => canonical_filter hx rfl _ rfl, fun _ => fresh_of_reset rfl, fun p hp => ?_,
    fun _ => falls_of_off (fun c hm => ?_) rfl⟩
  · cases p <;> first | rfl | exact absurd hp (by decide)
  · obtain ⟨x, -, rfl⟩ := List.mem_map.1 hm
    rfl

theorem unwind_moves {target : Nat} (h : Moves κ s0 s) (hc : caps [.objs, .free, .places, .semas, .waits, .flights,
    .bursts, .ingress, .egress, .fns, .hostRest, .lat, .seq, .image, .recd, .salt, .axes, .setpts, .chans, .dies,
    .sup, .pow, .clk, .rst, .diag, .net, .gp] ||| κ = κ := by decide) : Moves κ s0 (unwind target s) := by
  refine h.of hc ?_
  unfold unwind
  dsimp only
  exact onPow_moves (onRst_moves (put_moves (put_moves (dropPens_moves (.ite (loseLogic_moves (.refl _)) (.refl
    _))))))

theorem markStart_moves (h : Moves κ s0 s) (hc : caps [.recd] ||| κ = κ := by decide) : Moves κ s0 (markStart s) := by
  refine h.of hc ?_
  unfold markStart
  dsimp only
  refine .ite ?_ ?_
  · exact onRec_moves (.refl _)
  · split
    · exact .refl _
    · exact onRec_moves (.refl _)

theorem offRequest_moves {target : Nat} {holdup : Bool} (h : Moves κ s0 s) (hc : caps [.objs, .free, .places, .semas,
    .waits, .flights, .bursts, .ingress, .egress, .fns, .hostRest, .lat, .seq, .image, .recd, .salt, .axes, .setpts,
    .chans, .dies, .sup, .pow, .clk, .rst, .diag, .net, .gp] ||| κ = κ := by decide) :
    Moves κ s0 (offRequest target holdup s) :=
  h.of hc (.ite (.refl _) (.ite (unwind_moves (.refl _)) (.ite (onPow_moves (onPow_moves (.ite (markStart_moves
    (.refl _)) (.refl _)))) (onPow_moves (.refl _)))))

theorem requestBus_moves {i : Nat} {j : Nat} {v : Option Nat} (h : Moves κ s0 s)
    (hc : caps [.seq, .axes] ||| κ = κ := by decide) : Moves κ s0 (requestBus i j v s) :=
  h.of hc (.ite (onInst_moves (.refl _)) (each_moves (fun _ _ => onAxis_moves (.refl _)) (onInst_moves (.refl _))))

theorem takeDatum_moves {a : Nat} (h : Moves κ s0 s) (hc : caps [.objs, .axes] ||| κ = κ := by decide) :
    Moves κ s0 (takeDatum a s) :=
  h.of hc (onAxis_moves (put_moves (put_moves (put_moves (setSt_moves (jumpPos_moves (put_moves (.refl _))))))))

theorem datumAtStart_moves {a : Nat} (h : Moves κ s0 s) (hc : caps [.objs, .axes] ||| κ = κ := by decide) :
    Moves κ s0 (datumAtStart a s) :=
  h.of hc (.ite (takeDatum_moves (.refl _)) (.refl _))

theorem cycleEnter_moves {e : Entry} (h : Moves κ s0 s) (hc : caps [.axes] ||| κ = κ := by decide) :
    Moves κ s0 (cycleEnter e s) :=
  h.of hc (.ite (.refl _) (onAxis_moves (.refl _)))

theorem feedbackFault_moves {a : Nat} {kind : Nat} (h : Moves κ s0 s)
    (hc : caps [.objs, .seq, .recd, .axes, .pow, .net] ||| κ = κ := by decide) :
    Moves κ s0 (feedbackFault a kind s) :=
  h.of hc (raiseFault_moves (.ite (put_moves (.refl _)) (unreference_moves (put_moves (.refl _)))))

theorem stillFaulty_moves {a : Nat} (h : Moves κ s0 s)
    (hc : caps [.objs, .seq, .recd, .axes, .pow, .net] ||| κ = κ := by decide) : Moves κ s0 (stillFaulty a s) :=
  h.of hc (each_moves (fun _ _ => feedbackFault_moves (.refl _)) (.refl _))

theorem clearFault_moves {a : Nat} (h : Moves κ s0 s)
    (hc : caps [.objs, .seq, .recd, .axes, .pow, .net] ||| κ = κ := by decide) : Moves κ s0 (clearFault a s) :=
  h.of hc (stillFaulty_moves (put_moves (put_moves (setSt_moves (.refl _)))))

theorem enterState_moves {e : Entry} (h : Moves κ s0 s)
    (hc : caps [.objs, .seq, .recd, .axes, .pow, .net] ||| κ = κ := by decide) : Moves κ s0 (enterState e s) :=
  h.of hc (.ite (put_moves (cycleEnter_moves (.refl _))) (.ite (clearFault_moves (put_moves (put_moves
    (cycleEnter_moves (.refl _))))) (put_moves (put_moves (cycleEnter_moves (.refl _))))))

theorem setBase_moves {c : Nat} {v : Nat} (h : Moves κ s0 s) (hc : caps [.objs, .chans] ||| κ = κ := by decide) :
    Moves κ s0 (setBase c v s) :=
  h.of hc (withDemand_moves (fun _ => onChan_moves (.refl _)) (.refl _))

theorem setFlash_moves {c : Nat} {half : Nat} (h : Moves κ s0 s) (hc : caps [.objs, .chans] ||| κ = κ := by decide) :
    Moves κ s0 (setFlash c half s) :=
  h.of hc (withDemand_moves (fun _ => onChan_moves (.refl _)) (.refl _))

theorem setUnlock_moves {c : Nat} {b : Bool} (h : Moves κ s0 s) (hc : caps [.objs, .chans] ||| κ = κ := by decide) :
    Moves κ s0 (setUnlock c b s) :=
  h.of hc (withDemand_moves (fun _ => onChan_moves (.refl _)) (.refl _))

theorem act_moves {i : Nat} {r : StateRec} {x : Act} (h : Moves κ s0 s)
    (hc : caps [.objs, .flights, .seq, .recd, .axes, .chans, .sup, .pow, .net] ||| κ = κ := by decide) :
    Moves κ s0 (act i r x s) := by
  refine h.of hc ?_
  unfold act
  dsimp only
  split
  · split
    · exact setBase_moves (.refl _)
    · exact .refl _
  · split
    · exact setFlash_moves (.refl _)
    · exact .refl _
  · exact .ite (setUnlock_moves (onInst_moves (.refl _))) (onInst_moves (.refl _))
  · exact .ite (moveAxis_moves (.refl _)) (.refl _)
  · exact requestBus_moves (.refl _)
  · exact onInst_moves (.refl _)
  · exact onInst_moves (.refl _)
  · exact put_moves (.refl _)
  · exact put_moves (.refl _)
  · exact completeAll_moves (onInst_moves (.refl _))
  · exact raise_moves (.refl _)
  · exact onAxis_moves (.refl _)
  · exact .refl _

theorem entryActs_moves {e : Entry} (h : Moves κ s0 s)
    (hc : caps [.objs, .flights, .seq, .recd, .axes, .chans, .sup, .pow, .net] ||| κ = κ := by decide) :
    Moves κ s0 (entryActs e s) :=
  h.of hc (each_moves (fun _ _ => act_moves (.refl _)) (.refl _))

theorem histoCount_moves {n : Nat} {x : Int} (h : Moves κ s0 s) (hc : caps [.recd] ||| κ = κ := by decide) :
    Moves κ s0 (histoCount n x s) := by
  refine h.of hc ?_
  unfold histoCount
  dsimp only
  exact onRec_moves (.refl _)

theorem extremeSample_moves {n : Nat} {x : Int} (h : Moves κ s0 s) (hc : caps [.recd] ||| κ = κ := by decide) :
    Moves κ s0 (extremeSample n x s) := by
  refine h.of hc ?_
  unfold extremeSample
  dsimp only
  exact onRec_moves (.refl _)

theorem closeCycle_moves {a : Nat} {outcome : Nat} (h : Moves κ s0 s) (hc : caps [.objs, .recd, .axes] ||| κ = κ :=
    by decide) : Moves κ s0 (closeCycle a outcome s) := by
  refine h.of hc ?_
  unfold closeCycle
  dsimp only
  split
  · exact .refl _
  · exact extremeSample_moves (histoCount_moves (histoCount_moves (histoCount_moves (histoCount_moves
      (admitEvent_moves (onAxis_moves (.refl _)))))))

theorem recordAct_moves {i : Nat} {code : Nat} (h : Moves κ s0 s) (hc : caps [.objs, .recd] ||| κ = κ := by decide) :
    Moves κ s0 (recordAct i code s) :=
  h.of hc (admitEvent_moves (.refl _))

theorem entryRecords_moves {es : List Entry} (h : Moves κ s0 s) (hc : caps [.objs, .recd, .axes] ||| κ = κ := by
    decide) : Moves κ s0 (entryRecords es s) :=
  h.of hc (each_moves (fun _ _ => each_moves (fun _ _ => recordAct_moves (.refl _)) (.ite (closeCycle_moves (.refl
    _)) (.refl _))) (.refl _))

theorem enterAll_moves {es : List Entry} (h : Moves κ s0 s)
    (hc : caps [.objs, .flights, .seq, .recd, .axes, .chans, .sup, .pow, .net] ||| κ = κ := by decide) :
    Moves κ s0 (enterAll es s) :=
  h.of hc (.ite (.refl _) (onPow_moves (entryRecords_moves (.ite (put_moves (each_moves (fun _ _ => entryActs_moves
    (.refl _)) (each_moves (fun _ _ => enterState_moves (.refl _)) (.refl _)))) (each_moves (fun _ _ =>
    entryActs_moves (.refl _)) (each_moves (fun _ _ => enterState_moves (.refl _)) (.refl _)))))))

theorem startInsts_moves {is : List Nat} (h : Moves κ s0 s)
    (hc : caps [.objs, .flights, .seq, .recd, .axes, .chans, .sup, .pow, .net] ||| κ = κ := by decide) :
    Moves κ s0 (startInsts is s) :=
  h.of hc (enterAll_moves (each_moves (fun _ _ => onInst_moves (.refl _)) (each_moves (fun _ _ => datumAtStart_moves
    (.refl _)) (.refl _))))

theorem orphanAll_moves {cs : List Nat} {b : Bool} (h : Moves κ s0 s) (hc : caps [.objs, .chans] ||| κ = κ := by
    decide) : Moves κ s0 (orphanAll cs b s) :=
  h.of hc (each_moves (fun _ _ => setOrphan_moves (.refl _)) (.refl _))

theorem freePins_moves {ns : List Nat} (h : Moves κ s0 s) (hc : caps [.objs, .axes, .gp] ||| κ = κ := by decide) :
    Moves κ s0 (freePins ns s) :=
  h.of hc (settlePins_moves (each_moves (fun _ _ => freePin_moves (.refl _)) (.refl _)))

theorem enableFn_moves {n : Nat} (h : Moves κ s0 s)
    (hc : caps [.objs, .flights, .seq, .recd, .axes, .chans, .sup, .pow, .net, .gp] ||| κ = κ := by decide) :
    Moves κ s0 (enableFn n s) :=
  h.of hc (freePins_moves (orphanAll_moves (startInsts_moves (each_moves (fun _ _ => requestBus_moves
    (requestBus_moves (.refl _))) (put_moves (.refl _))))))

theorem drainBoundary_moves {n : Nat} (h : Moves κ s0 s)
    (hc : caps [.objs, .flights, .fns, .seq, .recd, .axes, .chans, .sup, .pow, .net, .gp] ||| κ = κ := by decide) :
    Moves κ s0 (drainBoundary n s) := by
  refine h.of hc ?_
  unfold drainBoundary
  dsimp only
  refine onFn_moves ?_
  refine orphanPins_moves ?_
  refine orphanOutputs_moves ?_
  refine each_moves (fun _ _ => onInst_moves (.refl _)) ?_
  refine .ite ?_ ?_
  · refine disableAxes_moves ?_
    split
    · exact put_moves (each_moves (fun _ _ => completeAll_moves (put_moves (.ite (put_moves (onInst_moves (.refl
        _))) (onInst_moves (.refl _))))) (.refl _))
    · exact each_moves (fun _ _ => completeAll_moves (put_moves (.ite (put_moves (onInst_moves (.refl _)))
        (onInst_moves (.refl _))))) (.refl _)
  · refine each_moves (fun _ _ => requestBus_moves (requestBus_moves (.refl _))) ?_
    refine disableAxes_moves ?_
    split
    · exact put_moves (each_moves (fun _ _ => completeAll_moves (put_moves (.ite (put_moves (onInst_moves (.refl
        _))) (onInst_moves (.refl _))))) (.refl _))
    · exact each_moves (fun _ _ => completeAll_moves (put_moves (.ite (put_moves (onInst_moves (.refl _)))
        (onInst_moves (.refl _))))) (.refl _)

theorem seedState_moves {a : Nat} (h : Moves κ s0 s) (hc : caps [.objs] ||| κ = κ := by decide) :
    Moves κ s0 (seedState a s) :=
  h.of hc (put_moves (.refl _))

theorem resetPins_moves {fn : Nat} (h : Moves κ s0 s) (hc : caps [.objs, .axes, .gp] ||| κ = κ := by decide) :
    Moves κ s0 (resetPins fn s) :=
  h.of hc (settlePins_moves (each_moves (fun _ _ => .ite (put_moves (.refl _)) (.refl _)) (put_moves (each_moves
    (fun _ _ => put_moves (.refl _)) (.refl _)))))

theorem resetFn_moves {n : Nat} (h : Moves κ s0 s) (hc : caps [.objs, .axes, .chans, .gp] ||| κ = κ := by decide) :
    Moves κ s0 (resetFn n s) :=
  h.of hc (resetPins_moves (each_moves (fun _ _ => onChan_moves (.refl _)) (each_moves
    (fun _ _ => seedState_moves (.refl _)) (.ite (.refl _) (filterObjs_moves (.refl _))))))

theorem drainEnd_moves {n : Nat} (h : Moves κ s0 s)
    (hc : caps [.objs, .flights, .fns, .seq, .recd, .axes, .chans, .sup, .pow, .net, .gp] ||| κ = κ := by decide) :
    Moves κ s0 (drainEnd n s) :=
  h.of hc (each_moves (fun _ _ => complete_moves (.refl _)) (onFn_moves (.ite (put_moves (.ite (enableFn_moves (.ite
    (each_moves (fun _ _ => requestBus_moves (requestBus_moves (.refl _))) (resetFn_moves (put_moves (.refl _))))
    (put_moves (.refl _)))) (put_moves (.ite (each_moves (fun _ _ => requestBus_moves (requestBus_moves (.refl _)))
    (resetFn_moves (put_moves (.refl _)))) (put_moves (.refl _)))))) (.ite (enableFn_moves (.ite (each_moves (fun _
    _ => requestBus_moves (requestBus_moves (.refl _))) (resetFn_moves (put_moves (.refl _)))) (put_moves (.refl
    _)))) (put_moves (.ite (each_moves (fun _ _ => requestBus_moves (requestBus_moves (.refl _))) (resetFn_moves
    (put_moves (.refl _)))) (put_moves (.refl _))))))))

theorem resumeRun_moves (h : Moves κ s0 s)
    (hc : caps [.objs, .flights, .fns, .seq, .recd, .axes, .chans, .sup, .pow, .net, .gp] ||| κ = κ := by decide) :
    Moves κ s0 (resumeRun s) := by
  refine h.of hc ?_
  unfold resumeRun
  dsimp only
  refine each_moves (fun _ _ => ?_) (onSup_moves (onPow_moves (put_moves (.refl _))))
  split
  · exact .ite (enableFn_moves (.refl _)) (.refl _)
  · exact drainEnd_moves (onFn_moves (.ite (.refl _) (drainBoundary_moves (.refl _))))
  · exact .refl _

theorem onRequest_moves {source : Nat} (h : Moves κ s0 s)
    (hc : caps [.objs, .flights, .fns, .seq, .recd, .axes, .chans, .sup, .pow, .net, .gp] ||| κ = κ := by decide) :
    Moves κ s0 (onRequest source s) :=
  h.of hc (.ite (put_moves (resumeRun_moves (.refl _))) (.ite (onPow_moves (.refl _)) (.ite (onPow_moves (.refl _))
    (.refl _))))

theorem powerCommand_moves {v : Nat} (h : Moves κ s0 s) (hc : caps [.objs, .free, .places, .semas, .waits, .flights,
    .bursts, .ingress, .egress, .fns, .hostRest, .lat, .seq, .image, .recd, .salt, .axes, .setpts, .chans, .dies,
    .sup, .pow, .clk, .rst, .diag, .net, .gp] ||| κ = κ := by decide) : Moves κ s0 (powerCommand v s) := by
  refine h.of hc ?_
  unfold powerCommand
  split
  · exact offRequest_moves (.refl _)
  · exact offRequest_moves (.refl _)
  · exact .ite (onRequest_moves (.refl _)) (.refl _)

theorem dieStatusWritten_moves {k : Nat} {v : Nat} (h : Moves κ s0 s) (hc : caps [.objs] ||| κ = κ := by decide) :
    Moves κ s0 (dieStatusWritten k v s) :=
  h.of hc (.ite (put_moves (.refl _)) (.refl _))

theorem disciplined_moves (h : Moves κ s0 s) (hc : caps [.clk] ||| κ = κ := by decide) : Moves κ s0 (disciplined s) :=
  h.of hc (onClk_moves (.refl _))

theorem setCal_moves {ns : Int} (h : Moves κ s0 s) (hc : caps [.clk] ||| κ = κ := by decide) :
    Moves κ s0 (setCal ns s) :=
  h.of hc (onClk_moves (.refl _))

theorem saveOffset_moves (h : Moves κ s0 s) (hc : caps [.clk] ||| κ = κ := by decide) : Moves κ s0 (saveOffset s) :=
  h.of hc (onClk_moves (.refl _))

theorem moveCal_moves {ns : Int} (h : Moves κ s0 s) (hc : caps [.objs, .clk, .net] ||| κ = κ := by decide) :
    Moves κ s0 (moveCal ns s) :=
  h.of hc (checkWakeAt_moves (saveOffset_moves (onNet_moves (setCal_moves (.refl _)))))

theorem setCalendar_moves {v : Nat} (h : Moves κ s0 s) (hc : caps [.objs, .clk, .net] ||| κ = κ := by decide) :
    Moves κ s0 (setCalendar v s) :=
  h.of hc (disciplined_moves (moveCal_moves (put_moves (.refl _))))

theorem holdFlight_moves {id : Nat} (h : Moves κ s0 s) (hc : caps [.objs, .flights] ||| κ = κ := by decide) :
    Moves κ s0 (holdFlight id s) :=
  h.of hc (moveFill_moves (onFlight_moves (.refl _)))

theorem joinRunning_moves {ids : List Nat} (h : Moves κ s0 s) (hc : caps [.recd] ||| κ = κ := by decide) :
    Moves κ s0 (joinRunning ids s) :=
  h.of hc (onRec_moves (.refl _))

theorem deviceReset_moves {w : Writer} (h : Moves κ s0 s)
    (hc : caps [.objs, .flights, .recd, .rst] ||| κ = κ := by decide) : Moves κ s0 (deviceReset w s).2 := by
  refine h.of hc ?_
  unfold deviceReset
  dsimp only
  have hw : Moves (caps [.objs, .flights, .recd, .rst]) s ((s.onRst fun r => { r with device := true }).whenever
    w.single (holdFlight w.id)) :=
    whenever_moves (fun _ => holdFlight_moves (.refl _)) (onRst_moves (.refl _))
  split
  · exact addFlush_moves hw
  · split
    · exact joinRunning_moves hw
    · dsimp only
      exact onRst_moves (onRst_moves (.refl _))

theorem startDrain_moves {n : Nat} {enabled : Bool} {reset : Bool} {joined : List Nat} (h : Moves κ s0 s)
    (hc : caps [.objs, .fns] ||| κ = κ := by decide) : Moves κ s0 (startDrain n enabled reset joined s) :=
  h.of hc (onFn_moves (put_moves (.refl _)))

theorem fnControl_moves {n : Nat} {v : Nat} {flight : Option Nat} (h : Moves κ s0 s)
    (hc : caps [.objs, .flights, .fns, .seq, .recd, .axes, .chans, .sup, .pow, .net, .gp] ||| κ = κ := by decide) :
    Moves κ s0 (fnControl n v flight s).2 := by
  refine h.of hc ?_
  unfold fnControl
  split
  · split
    · exact enableFn_moves (.refl _)
    · exact .refl _
  · exact put_moves (resetFn_moves (.refl _))
  · exact .refl _
  · exact .refl _
  · exact startDrain_moves (.refl _)
  · exact startDrain_moves (.refl _)
  · exact .refl _
  · exact onFn_moves (.refl _)
  · exact onFn_moves (.refl _)

theorem controlFn_moves {w : Writer} {n v : Nat} (h : Moves κ s0 s)
    (hc : caps [.objs, .flights, .fns, .seq, .recd, .axes, .chans, .sup, .pow, .net, .gp] ||| κ = κ := by decide) :
    Moves κ s0 (controlFn w n v s).2 := by
  refine h.of hc ?_
  have hf : Moves (caps [.objs, .flights, .fns, .seq, .recd, .axes, .chans, .sup, .pow, .net, .gp]) s (fnControl n v
    (if w.single then some w.id else none) s).2 := fnControl_moves (.refl _)
  unfold controlFn
  split
  next x t hx =>
    rw [hx] at hf
    split
    · exact hf
    · split
      · exact holdFlight_moves hf
      · exact hf

theorem unitStatusWritten_moves {u : Nat} {v : Nat} (h : Moves κ s0 s) (hc : caps [.objs, .gp] ||| κ = κ := by
    decide) : Moves κ s0 (unitStatusWritten u v s) :=
  h.of hc (patternWritten_moves (.ite (put_moves (.refl _)) (.refl _)))

theorem bumpGen_moves {k : Nat} (h : Moves κ s0 s) (hc : caps [.recd] ||| κ = κ := by decide) :
    Moves κ s0 (bumpGen k s) :=
  h.of hc (onRec_moves (.refl _))

theorem startJob_moves {j : Job} (h : Moves κ s0 s) (hc : caps [.objs, .recd, .axes] ||| κ = κ := by decide) :
    Moves κ s0 (startJob j s) := by
  refine h.of hc ?_
  unfold startJob
  exact onRec_moves (put_moves (.ite (onRec_moves (each_moves (fun _ _ => closeCycle_moves (.refl _)) (.refl _)))
    (.refl _)))

theorem kick_moves (h : Moves κ s0 s) (hc : caps [.objs, .recd, .axes] ||| κ = κ := by decide) :
    Moves κ s0 (kick s) := by
  refine h.of hc ?_
  unfold kick
  split
  · exact .ite (.refl _) (startJob_moves (onRec_moves (.refl _)))
  · exact .refl _

theorem addJob_moves {k : JobKind} {flights : List Nat} (h : Moves κ s0 s)
    (hc : caps [.objs, .flights, .recd, .axes] ||| κ = κ := by decide) : Moves κ s0 (addJob k flights s) :=
  h.of hc (.ite (kick_moves (onRec_moves (.refl _))) (completeAll_moves (.refl _)))

theorem loadImage_moves {i : LatImage} (h : Moves κ s0 s) (hc : caps [.objs, .flights, .recd, .axes] ||| κ = κ := by
    decide) : Moves κ s0 (loadImage i s) :=
  h.of hc (bumpGen_moves (addJob_moves (put_moves (onRec_moves (.refl _)))))

theorem loadFactory_moves (h : Moves κ s0 s) (hc : caps [.objs, .flights, .recd, .axes] ||| κ = κ := by decide) :
    Moves κ s0 (loadFactory s).2 := by
  refine h.of hc ?_
  unfold loadFactory
  dsimp only
  split
  · exact .refl _
  · split
    · exact loadImage_moves (.refl _)
    · dsimp only
      exact put_moves (.refl _)

theorem deliver_moves {i : Nat} {code : Nat} {flight : Nat} (h : Moves κ s0 s)
    (hc : caps [.objs, .flights, .seq] ||| κ = κ := by decide) : Moves κ s0 (deliver i code flight s) :=
  h.of hc (.ite (holdFlight_moves (onInst_moves (.refl _))) (complete_moves (.refl _)))

theorem commandInst_moves {w : Writer} {i : Nat} {code : Nat} (h : Moves κ s0 s)
    (hc : caps [.objs, .flights, .seq] ||| κ = κ := by decide) : Moves κ s0 (commandInst w i code s).2 := by
  refine h.of hc ?_
  unfold commandInst
  split
  · exact .refl _
  · split
    · exact deliver_moves (.refl _)
    · exact .refl _

theorem flushNow_moves {w : Writer} (h : Moves κ s0 s) (hc : caps [.objs, .flights, .recd] ||| κ = κ := by decide) :
    Moves κ s0 (flushNow w s).2 := by
  refine h.of hc ?_
  unfold flushNow
  split
  · exact addFlush_moves (holdFlight_moves (.refl _))
  · exact .refl _

theorem sessionWritten_moves {p : Nat} {sub : Nat} {v : Nat} (h : Moves κ s0 s) (hc : caps [.places] ||| κ = κ := by
    decide) : Moves κ s0 (sessionWritten p sub v s) :=
  h.of hc (onSession_moves (.refl _))

theorem clearLogs_moves {w : Writer} {code : Nat} (h : Moves κ s0 s)
    (hc : caps [.objs, .flights, .recd, .axes] ||| κ = κ := by decide) : Moves κ s0 (clearLogs w code s).2 := by
  refine h.of hc ?_
  unfold clearLogs
  split
  · exact .refl _
  · split
    · exact addJob_moves (holdFlight_moves (.refl _))
    · exact addJob_moves (.refl _)

theorem captureCommand_moves {a : Nat} (h : Moves κ s0 s) (hc : caps [.objs, .axes] ||| κ = κ := by decide) :
    Moves κ s0 (captureCommand a s) :=
  h.of hc (onAxis_moves (put_moves (.refl _)))

theorem resetToSeedCommand_moves {a : Nat} (h : Moves κ s0 s) (hc : caps [.objs, .recd, .axes] ||| κ = κ := by
    decide) : Moves κ s0 (resetToSeedCommand a s) :=
  h.of hc (.ite (onAxis_moves (.refl _)) (copySeeds_moves (.refl _)))

theorem envCommand_moves {a : Nat} {v : Nat} (h : Moves κ s0 s) (hc : caps [.objs, .recd, .axes] ||| κ = κ := by
    decide) : Moves κ s0 (envCommand a v s) :=
  h.of hc (.ite (captureCommand_moves (.refl _)) (resetToSeedCommand_moves (.refl _)))

theorem latchArmWritten_moves {a : Nat} {v : Nat} (h : Moves κ s0 s) (hc : caps [.axes] ||| κ = κ := by decide) :
    Moves κ s0 (latchArmWritten a v s) :=
  h.of hc (onAxis_moves (.refl _))

theorem compareArmWritten_moves {a : Nat} {v : Nat} (h : Moves κ s0 s) (hc : caps [.axes] ||| κ = κ := by decide) :
    Moves κ s0 (compareArmWritten a v s) :=
  h.of hc (.ite (resideCompares_moves (onAxis_moves (.refl _))) (.refl _))

theorem outputReset_moves {c : Nat} (h : Moves κ s0 s) (hc : caps [.objs, .chans] ||| κ = κ := by decide) :
    Moves κ s0 (outputReset c s).2 :=
  h.of hc (applyCell_moves (clearLatches_moves (.refl _)))

theorem stickyWritten_moves {c : Nat} {v : Nat} (h : Moves κ s0 s) (hc : caps [.objs] ||| κ = κ := by decide) :
    Moves κ s0 (stickyWritten c v s) :=
  h.of hc (put_moves (.refl _))

theorem applyWrite_moves {w : Writer} {k : Nat} {data : List Byte} (h : Moves κ s0 s) (hc : caps [.objs, .free,
    .places, .semas, .waits, .flights, .bursts, .ingress, .egress, .fns, .hostRest, .lat, .seq, .image, .recd, .salt,
    .axes, .setpts, .chans, .dies, .sup, .pow, .clk, .rst, .diag, .net, .gp] ||| κ = κ := by decide) :
    Moves κ s0 (applyWrite w k data s).2 := by
  refine h.of hc ?_
  unfold applyWrite
  dsimp only
  split
  · exact .refl _
  · split
    · exact restoreDefaults_moves (.refl _)
    · exact slotReset_moves (.refl _)
    · exact countWrite_moves (keyWritten_moves (.refl _))
    · exact countWrite_moves (keyWritten_moves (.refl _))
    · exact countWrite_moves (keyWritten_moves (.refl _))
    · exact flushLearning_moves (.refl _)
    · exact portReset_moves (.refl _)
    · exact insertGrant_moves (.refl _)
    · exact weirStatusWritten_moves (.refl _)
    · exact powerCommand_moves (.refl _)
    · exact dieStatusWritten_moves (.refl _)
    · exact setCalendar_moves (.refl _)
    · exact deviceReset_moves (.refl _)
    · exact controlFn_moves (.refl _)
    · exact setLevels_moves (.refl _)
    · exact setLevels_moves (.refl _)
    · exact unitStatusWritten_moves (.refl _)
    · exact loadFactory_moves (.refl _)
    · exact commandInst_moves (.refl _)
    · exact flushNow_moves (.refl _)
    · exact sessionWritten_moves (.refl _)
    · exact clearLogs_moves (.refl _)
    · exact commandInst_moves (.refl _)
    · exact envCommand_moves (.refl _)
    · exact latchArmWritten_moves (.refl _)
    · exact compareArmWritten_moves (.refl _)
    · exact setBase_moves (.refl _)
    · exact outputReset_moves (.refl _)
    · exact stickyWritten_moves (.refl _)
    · exact countWrite_moves (putHook_moves (.refl _))

theorem burstApply_moves {w : Writer} {segs : List Segment} {t : State} (h : Moves κ s0 s)
    (ht : burstApply w segs s = .ok t) (hc : caps [.objs, .free, .places, .semas, .waits, .flights, .bursts, .ingress,
    .egress, .fns, .hostRest, .lat, .seq, .image, .recd, .salt, .axes, .setpts, .chans, .dies, .sup, .pow, .clk, .rst,
    .diag, .net, .gp] ||| κ = κ := by decide) : Moves κ s0 t := by
  refine h.of hc ?_
  clear h
  induction segs generalizing s with
  | nil => cases ht; exact .refl _
  | cons x xs ih =>
    unfold burstApply at ht
    split at ht
    · exact ih ht
    · have hw : Moves (caps [.objs, .free, .places, .semas, .waits, .flights, .bursts, .ingress, .egress, .fns,
      .hostRest, .lat, .seq, .image, .recd, .salt, .axes, .setpts, .chans, .dies, .sup, .pow, .clk, .rst, .diag, .net,
      .gp]) s (applyWrite { w with safe := x.safety } x.key x.data s).2 := applyWrite_moves (.refl _)
      split at ht
      · next hx => rw [hx] at hw; exact hw.trans (ih ht)
      · next hx => rw [hx] at hw; exact hw.trans (ih ht)
      · cases ht

theorem burstLoads_moves {segs : List Segment} (h : Moves κ s0 s)
    (hc : caps [.objs, .flights, .recd, .axes] ||| κ = κ := by decide) : Moves κ s0 (burstLoads segs s) :=
  h.of hc (.ite (.ite (loadImage_moves (.refl _)) (.refl _)) (addJob_moves (each_moves (fun _ _ => bumpGen_moves
    (onRec_moves (.refl _))) (.ite (loadImage_moves (.refl _)) (.refl _)))))

theorem joinLastJob_moves {id : Nat} (h : Moves κ s0 s) (hc : caps [.recd] ||| κ = κ := by decide) :
    Moves κ s0 (joinLastJob id s) := by
  refine h.of hc ?_
  unfold joinLastJob
  split
  · exact onRec_moves (.refl _)
  · exact joinRunning_moves (.refl _)

theorem runBurst_moves {w : Writer} {segs : List Segment} (h : Moves κ s0 s) (hc : caps [.objs, .free, .places,
    .semas, .waits, .flights, .bursts, .ingress, .egress, .fns, .hostRest, .lat, .seq, .image, .recd, .salt, .axes,
    .setpts, .chans, .dies, .sup, .pow, .clk, .rst, .diag, .net, .gp] ||| κ = κ := by decide) :
    Moves κ s0 (runBurst w segs s).2 := by
  refine h.of hc ?_
  unfold runBurst
  split
  · next hf => exact burstRefusal_moves hf (.refl _)
  · split
    · exact .refl _
    · next ht =>
      have hl := burstLoads_moves (segs := segs) (burstApply_moves (κ := caps [.objs, .free, .places, .semas, .waits,
        .flights, .bursts, .ingress, .egress, .fns, .hostRest, .lat, .seq, .image, .recd, .salt, .axes, .setpts,
        .chans, .dies, .sup, .pow, .clk, .rst, .diag, .net, .gp]) (.refl _) ht)
      dsimp only
      split
      · exact joinLastJob_moves (holdFlight_moves hl)
      · exact hl

theorem runEnd_moves {f : Flight} (h : Moves κ s0 s) (hc : caps [.objs, .free, .places, .semas, .waits, .flights,
    .bursts, .ingress, .egress, .fns, .hostRest, .lat, .seq, .image, .recd, .salt, .axes, .setpts, .chans, .dies,
    .sup, .pow, .clk, .rst, .diag, .net, .gp] ||| κ = κ := by decide) : Moves κ s0 (runEnd f s) := by
  refine h.of hc ?_
  unfold runEnd
  dsimp only
  refine .ite (complete_moves (.refl _)) (.ite (complete_moves (.refl _)) ?_)
  have hb : Moves (caps [.objs, .free, .places, .semas, .waits, .flights, .bursts, .ingress, .egress, .fns, .hostRest,
    .lat, .seq, .image, .recd, .salt, .axes, .setpts, .chans, .dies, .sup, .pow, .clk, .rst, .diag, .net, .gp]) s
    (onBurst f.place (fun _ => Burst.closed) s) := onBurst_moves (.refl _)
  split
  · have hr := runBurst_moves (w := f.writer false) (segs := (s.burst f.place).segs) hb
    split
    · next hx => rw [hx] at hr; exact completeWith_moves hr
    · next hx => rw [hx] at hr; exact hr
  · exact completeWith_moves (.ite (put_moves hb) hb)

theorem settleClose_moves {p : Nat} (h : Moves κ s0 s)
    (hc : caps [.objs, .places, .semas, .waits, .flights, .hostRest, .chans, .pow] ||| κ = κ := by decide) :
    Moves κ s0 (settleClose p s) := by
  refine h.of hc ?_
  unfold settleClose
  dsimp only
  split
  · exact .refl _
  · split
    · exact .refl _
    · exact .ite (.refl _) (.ite (put_moves (onSession_moves (completeWith_moves (dropSubs_moves (.refl _))))) (.ite
        (holdoffEnd_moves (onPlace_moves (put_moves (onPow_moves (releaseAll_moves (put_moves (onSession_moves
        (completeWith_moves (dropSubs_moves (.refl _)))))))))) (onPlace_moves (put_moves (onPow_moves
        (releaseAll_moves (put_moves (onSession_moves (completeWith_moves (dropSubs_moves (.refl _)))))))))))

theorem readObject_moves {w : Writer} {k offset maxLen : Nat} (h : Moves κ s0 s)
    (hc : caps [.places] ||| κ = κ := by decide) : Moves κ s0 (readObject w k offset maxLen s).2.2 := by
  refine h.of hc ?_
  unfold readObject
  dsimp only
  repeat' split
  all_goals first
    | exact .refl _
    | exact onSession_moves (.refl _)

theorem runRead_moves {f : Flight} {k offset maxLen : Nat} (h : Moves κ s0 s)
    (hc : caps [.objs, .places, .flights] ||| κ = κ := by decide) : Moves κ s0 (runRead f k offset maxLen s) :=
  h.of hc (completeWith_moves (readObject_moves (.refl _)))

theorem noteTableWrite_moves {k : Nat} (h : Moves κ s0 s) (hc : caps [.objs] ||| κ = κ := by decide) :
    Moves κ s0 (noteTableWrite k s) := by
  refine h.of hc ?_
  unfold noteTableWrite
  dsimp only
  split
  · exact .refl _
  · exact put_moves (put_moves (put_moves (put_moves (.refl _))))

theorem writeObject_moves {w : Writer} {o : OpKind} {k : Nat} {data : List Byte} (h : Moves κ s0 s) (hc : caps [.objs,
    .free, .places, .semas, .waits, .flights, .bursts, .ingress, .egress, .fns, .hostRest, .lat, .seq, .image, .recd,
    .salt, .axes, .setpts, .chans, .dies, .sup, .pow, .clk, .rst, .diag, .net, .gp] ||| κ = κ := by
    decide) : Moves κ s0 (writeObject w o k data s).2 := by
  refine h.of hc ?_
  unfold writeObject
  split
  · exact applyWrite_moves (.refl _)
  · exact .ite (noteTableWrite_moves (.refl _)) (.refl _)

theorem runWrite_moves {o : OpKind} {f : Flight} {k : Nat} {data : List Byte} (h : Moves κ s0 s) (hc : caps [.objs,
    .free, .places, .semas, .waits, .flights, .bursts, .ingress, .egress, .fns, .hostRest, .lat, .seq, .image, .recd,
    .salt, .axes, .setpts, .chans, .dies, .sup, .pow, .clk, .rst, .diag, .net, .gp] ||| κ = κ := by decide) :
    Moves κ s0 (runWrite o f k data s) := by
  refine h.of hc ?_
  have hw : Moves (caps [.objs, .free, .places, .semas, .waits, .flights, .bursts, .ingress, .egress, .fns, .hostRest,
    .lat, .seq, .image, .recd, .salt, .axes, .setpts, .chans, .dies, .sup, .pow, .clk, .rst, .diag, .net, .gp]) s
    (writeObject (f.writer true) o k data s).2 := writeObject_moves (.refl _)
  unfold runWrite
  split
  · next hx => rw [hx] at hw; exact complete_moves hw
  · next hx => rw [hx] at hw; exact hw

theorem runReadMulti_moves {f : Flight} {es : List (Nat × Nat)} (h : Moves κ s0 s)
    (hc : caps [.objs, .flights] ||| κ = κ := by decide) : Moves κ s0 (runReadMulti f es s) :=
  h.of hc (completeWith_moves (.refl _))

theorem writeEach_moves {w : Writer} {es : List (Nat × Nat × List Byte)} (h : Moves κ s0 s) (hc : caps [.objs, .free,
    .places, .semas, .waits, .flights, .bursts, .ingress, .egress, .fns, .hostRest, .lat, .seq, .image, .recd, .salt,
    .axes, .setpts, .chans, .dies, .sup, .pow, .clk, .rst, .diag, .net, .gp] ||| κ = κ := by decide) :
    Moves κ s0 (writeEach w es s).2 := by
  refine h.of hc ?_
  clear h
  induction es generalizing s with
  | nil => exact .refl _
  | cons e es ih =>
    unfold writeEach
    exact .trans (writeObject_moves (.refl _)) ih

theorem runWriteMulti_moves {f : Flight} {es : List (Nat × Nat × List Byte)} (h : Moves κ s0 s) (hc : caps [.objs,
    .free, .places, .semas, .waits, .flights, .bursts, .ingress, .egress, .fns, .hostRest, .lat, .seq, .image, .recd,
    .salt, .axes, .setpts, .chans, .dies, .sup, .pow, .clk, .rst, .diag, .net, .gp] ||| κ = κ := by decide) :
    Moves κ s0 (runWriteMulti f es s) :=
  h.of hc (completeWith_moves (writeEach_moves (.refl _)))

theorem runTake_moves {f : Flight} {n : Nat} {wait : Nat} (h : Moves κ s0 s)
    (hc : caps [.objs, .semas, .waits, .flights] ||| κ = κ := by decide) : Moves κ s0 (runTake f n wait s) := by
  refine h.of hc ?_
  unfold runTake
  dsimp only
  split
  · exact .ite (complete_moves (setSema_moves (.refl _))) (.ite (complete_moves (.refl _)) (.ite (complete_moves
      (.refl _)) (holdFlight_moves (onHost_moves (.refl _)))))
  · exact complete_moves (.refl _)

theorem runGive_moves {f : Flight} {n : Nat} (h : Moves κ s0 s)
    (hc : caps [.objs, .semas, .waits, .flights, .hostRest] ||| κ = κ := by decide) : Moves κ s0 (runGive f n s) := by
  refine h.of hc ?_
  unfold runGive
  split
  · exact .ite (complete_moves (releaseSema_moves (.refl _))) (complete_moves (.refl _))
  · exact complete_moves (.refl _)

theorem runQuery_moves {f : Flight} {n : Nat} (h : Moves κ s0 s) (hc : caps [.objs, .flights] ||| κ = κ := by
    decide) : Moves κ s0 (runQuery f n s) := by
  refine h.of hc ?_
  unfold runQuery
  split
  · exact completeWith_moves (.refl _)
  · exact complete_moves (.refl _)

theorem runSubscribe_moves {f : Flight} {fn : Nat} {flags : Nat} {mask : Nat} (h : Moves κ s0 s)
    (hc : caps [.objs, .free, .places, .flights] ||| κ = κ := by decide) :
    Moves κ s0 (runSubscribe f fn flags mask s) := by
  refine h.of hc ?_
  unfold runSubscribe
  dsimp only
  split
  · exact complete_moves (.refl _)
  · exact .ite (complete_moves (.refl _)) (.ite (complete_moves (.refl _)) (.ite (complete_moves (.refl _)) (.ite
      (complete_moves (.refl _)) (completeWith_moves (onSession_moves (draw_moves (.refl _)))))))

theorem runUnsubscribe_moves {f : Flight} {id : Nat} (h : Moves κ s0 s)
    (hc : caps [.objs, .places, .flights] ||| κ = κ := by decide) : Moves κ s0 (runUnsubscribe f id s) := by
  refine h.of hc ?_
  unfold runUnsubscribe
  dsimp only
  split
  · exact complete_moves (.refl _)
  · exact .ite (complete_moves (.refl _)) (.ite (complete_moves (moveFill_moves (onHost_moves (onSession_moves
      (.refl _))))) (complete_moves (.refl _)))

theorem runStore_moves {f : Flight} {scope : Nat} (h : Moves κ s0 s)
    (hc : caps [.objs, .flights, .recd, .axes] ||| κ = κ := by decide) : Moves κ s0 (runStore f scope s) := by
  refine h.of hc ?_
  unfold runStore
  split
  · exact addJob_moves (holdFlight_moves (.refl _))
  · exact complete_moves (.refl _)

theorem runReq_moves {f : Flight} (h : Moves κ s0 s) (hc : caps [.objs, .free, .places, .semas, .waits, .flights,
    .bursts, .ingress, .egress, .fns, .hostRest, .lat, .seq, .image, .recd, .salt, .axes, .setpts, .chans, .dies,
    .sup, .pow, .clk, .rst, .diag, .net, .gp] ||| κ = κ := by decide) : Moves κ s0 (runReq f s) := by
  refine h.of hc ?_
  unfold runReq
  split
  · exact runBegin_moves (.refl _)
  · exact runSeg_moves (.refl _)
  · exact runEnd_moves (.refl _)
  · exact completeWith_moves (.refl _)
  · exact settleClose_moves (holdFlight_moves (.refl _))
  · exact runRead_moves (.refl _)
  · exact runWrite_moves (.refl _)
  · exact runWrite_moves (.refl _)
  · exact runReadMulti_moves (.refl _)
  · exact runWriteMulti_moves (.refl _)
  · exact runTake_moves (.refl _)
  · exact runGive_moves (.refl _)
  · exact runQuery_moves (.refl _)
  · exact runSubscribe_moves (.refl _)
  · exact runUnsubscribe_moves (.refl _)
  · exact runStore_moves (.refl _)
  · exact complete_moves (.refl _)
  · exact complete_moves (.refl _)
  · exact complete_moves (.refl _)

theorem refuseStart_moves {f : Flight} {st : Nat} (h : Moves κ s0 s)
    (hc : caps [.objs, .flights, .bursts] ||| κ = κ := by decide) : Moves κ s0 (refuseStart f st s) :=
  h.of hc (.ite (complete_moves (.ite (put_moves (onFlight_moves (.refl _))) (.refl _))) (.ite (completeWith_moves
    (poisonWith_moves (.ite (put_moves (onFlight_moves (.refl _))) (.refl _)))) (.ite (complete_moves (onBurst_moves
    (.ite (put_moves (onFlight_moves (.refl _))) (.refl _)))) (complete_moves (.ite (put_moves (onFlight_moves
    (.refl _))) (.refl _))))))

theorem startWork_moves {f : Flight} (h : Moves κ s0 s) (hc : caps [.objs, .free, .places, .semas, .waits, .flights,
    .bursts, .ingress, .egress, .fns, .hostRest, .lat, .seq, .image, .recd, .salt, .axes, .setpts, .chans, .dies,
    .sup, .pow, .clk, .rst, .diag, .net, .gp] ||| κ = κ := by decide) : Moves κ s0 (startWork f s) := by
  refine h.of hc ?_
  unfold startWork
  split
  · exact runReq_moves (.refl _)
  · exact refuseStart_moves (.refl _)

theorem runLane_moves {w : Work} {l : Nat} (h : Moves κ s0 s) (hc : caps [.objs, .free, .places, .semas, .waits,
    .flights, .bursts, .ingress, .egress, .fns, .hostRest, .lat, .seq, .image, .recd, .salt, .axes, .setpts, .chans,
    .dies, .sup, .pow, .clk, .rst, .diag, .net, .gp] ||| κ = κ := by decide) : Moves κ s0 (runLane w l s) := by
  refine h.of hc ?_
  unfold runLane
  split
  · exact .refl _
  · exact .ite (startWork_moves (.refl _)) (.refl _)

theorem execKeep_gives {l : Fin 32} {s : State} :
    Gives (caps [.objs, .free, .places, .semas, .waits, .flights, .bursts, .ingress, .egress, .fns, .hostRest, .lat,
    .seq, .image, .recd, .salt, .axes, .setpts, .chans, .dies, .sup, .pow, .clk, .rst, .diag, .net, .gp]) s
    (execKeep l s) :=
  answerLive_gives fun _ => runLane_moves (.refl _)

theorem execClose_gives {l : Fin 32} {s : State} :
    Gives (caps [.objs, .free, .places, .semas, .waits, .flights, .bursts, .ingress, .egress, .fns, .hostRest, .lat,
    .seq, .image, .recd, .salt, .axes, .setpts, .chans, .dies, .sup, .pow, .clk, .rst, .diag, .net, .gp]) s
    (execClose l s) :=
  answerLive_gives fun _ => runLane_moves (.refl _)

theorem execRead_gives {l : Fin 32} {s : State} :
    Gives (caps [.objs, .free, .places, .semas, .waits, .flights, .bursts, .ingress, .egress, .fns, .hostRest, .lat,
    .seq, .image, .recd, .salt, .axes, .setpts, .chans, .dies, .sup, .pow, .clk, .rst, .diag, .net, .gp]) s
    (execRead l s) :=
  answerLive_gives fun _ => runLane_moves (.refl _)

theorem execWrite_gives {l : Fin 32} {s : State} :
    Gives (caps [.objs, .free, .places, .semas, .waits, .flights, .bursts, .ingress, .egress, .fns, .hostRest, .lat,
    .seq, .image, .recd, .salt, .axes, .setpts, .chans, .dies, .sup, .pow, .clk, .rst, .diag, .net, .gp]) s
    (execWrite l s) :=
  answerLive_gives fun _ => runLane_moves (.refl _)

theorem execReadMulti_gives {l : Fin 32} {s : State} :
    Gives (caps [.objs, .free, .places, .semas, .waits, .flights, .bursts, .ingress, .egress, .fns, .hostRest, .lat,
    .seq, .image, .recd, .salt, .axes, .setpts, .chans, .dies, .sup, .pow, .clk, .rst, .diag, .net, .gp]) s
    (execReadMulti l s) :=
  answerLive_gives fun _ => runLane_moves (.refl _)

theorem execWriteMulti_gives {l : Fin 32} {s : State} :
    Gives (caps [.objs, .free, .places, .semas, .waits, .flights, .bursts, .ingress, .egress, .fns, .hostRest, .lat,
    .seq, .image, .recd, .salt, .axes, .setpts, .chans, .dies, .sup, .pow, .clk, .rst, .diag, .net, .gp]) s
    (execWriteMulti l s) :=
  answerLive_gives fun _ => runLane_moves (.refl _)

theorem execBurstBegin_gives {l : Fin 32} {s : State} :
    Gives (caps [.objs, .free, .places, .semas, .waits, .flights, .bursts, .ingress, .egress, .fns, .hostRest, .lat,
    .seq, .image, .recd, .salt, .axes, .setpts, .chans, .dies, .sup, .pow, .clk, .rst, .diag, .net, .gp]) s
    (execBurstBegin l s) :=
  answerLive_gives fun _ => runLane_moves (.refl _)

theorem execBurstSeg_gives {l : Fin 32} {s : State} :
    Gives (caps [.objs, .free, .places, .semas, .waits, .flights, .bursts, .ingress, .egress, .fns, .hostRest, .lat,
    .seq, .image, .recd, .salt, .axes, .setpts, .chans, .dies, .sup, .pow, .clk, .rst, .diag, .net, .gp]) s
    (execBurstSeg l s) :=
  answerLive_gives fun _ => runLane_moves (.refl _)

theorem execBurstEnd_gives {l : Fin 32} {s : State} :
    Gives (caps [.objs, .free, .places, .semas, .waits, .flights, .bursts, .ingress, .egress, .fns, .hostRest, .lat,
    .seq, .image, .recd, .salt, .axes, .setpts, .chans, .dies, .sup, .pow, .clk, .rst, .diag, .net, .gp]) s
    (execBurstEnd l s) :=
  answerLive_gives fun _ => runLane_moves (.refl _)

theorem execBurstAbort_gives {m : Fin 2} {tag : Nat} {frame : Nat} {elem : Nat} {s : State} :
    Gives (caps [.objs, .places, .flights, .bursts, .fns, .pow, .net]) s (execBurstAbort m tag frame elem s) := by
  unfold execBurstAbort
  refine answerServed_gives fun _ => ?_
  split
  · exact .refl _
  · exact settleLanes_moves (takeElem_moves (.refl _))

theorem execBurstIdleExpiry_gives {m : Fin 2} {s : State} :
    Gives (caps [.objs, .bursts]) s (execBurstIdleExpiry m s) :=
  answerLive_gives fun _ => .ite (put_moves (onBurst_moves (.refl _))) (.refl _)

theorem execSemaTake_gives {l : Fin 32} {s : State} :
    Gives (caps [.objs, .free, .places, .semas, .waits, .flights, .bursts, .ingress, .egress, .fns, .hostRest, .lat,
    .seq, .image, .recd, .salt, .axes, .setpts, .chans, .dies, .sup, .pow, .clk, .rst, .diag, .net, .gp]) s
    (execSemaTake l s) :=
  answerLive_gives fun _ => runLane_moves (.refl _)

theorem execSemaGive_gives {l : Fin 32} {s : State} :
    Gives (caps [.objs, .free, .places, .semas, .waits, .flights, .bursts, .ingress, .egress, .fns, .hostRest, .lat,
    .seq, .image, .recd, .salt, .axes, .setpts, .chans, .dies, .sup, .pow, .clk, .rst, .diag, .net, .gp]) s
    (execSemaGive l s) :=
  answerLive_gives fun _ => runLane_moves (.refl _)

theorem execSemaWaitExpiry_gives {m : Fin 2} {sema : Fin 64} {s : State} :
    Gives (caps [.objs, .waits, .flights]) s (execSemaWaitExpiry m sema s) :=
  answerLive_gives fun _ => completeAll_moves (onHost_moves (.refl _))

theorem execSemaQuery_gives {l : Fin 32} {s : State} :
    Gives (caps [.objs, .free, .places, .semas, .waits, .flights, .bursts, .ingress, .egress, .fns, .hostRest, .lat,
    .seq, .image, .recd, .salt, .axes, .setpts, .chans, .dies, .sup, .pow, .clk, .rst, .diag, .net, .gp]) s
    (execSemaQuery l s) :=
  answerLive_gives fun _ => runLane_moves (.refl _)

theorem execSubscribe_gives {l : Fin 32} {s : State} :
    Gives (caps [.objs, .free, .places, .semas, .waits, .flights, .bursts, .ingress, .egress, .fns, .hostRest, .lat,
    .seq, .image, .recd, .salt, .axes, .setpts, .chans, .dies, .sup, .pow, .clk, .rst, .diag, .net, .gp]) s
    (execSubscribe l s) :=
  answerLive_gives fun _ => runLane_moves (.refl _)

theorem execUnsubscribe_gives {l : Fin 32} {s : State} :
    Gives (caps [.objs, .free, .places, .semas, .waits, .flights, .bursts, .ingress, .egress, .fns, .hostRest, .lat,
    .seq, .image, .recd, .salt, .axes, .setpts, .chans, .dies, .sup, .pow, .clk, .rst, .diag, .net, .gp]) s
    (execUnsubscribe l s) :=
  answerLive_gives fun _ => runLane_moves (.refl _)

theorem execStore_gives {l : Fin 32} {s : State} :
    Gives (caps [.objs, .free, .places, .semas, .waits, .flights, .bursts, .ingress, .egress, .fns, .hostRest, .lat,
    .seq, .image, .recd, .salt, .axes, .setpts, .chans, .dies, .sup, .pow, .clk, .rst, .diag, .net, .gp]) s
    (execStore l s) :=
  answerLive_gives fun _ => runLane_moves (.refl _)

theorem execNoticeAck_gives {p : Fin 8} {entries : List (Nat × Nat × Nat)} {s : State} :
    Gives (caps [.objs]) s (execNoticeAck p entries s) := by
  unfold execNoticeAck
  refine answerServed_gives fun _ => ?_
  split
  · exact .refl _
  · exact .ite (.refl _) (ackNotices_moves (.refl _))

theorem sendElems_moves {p : Nat} {kind : Nat} {group : Bool} {es : List (List Byte)} (h : Moves κ s0 s)
    (hc : caps [.objs, .places, .egress, .net] ||| κ = κ := by decide) :
    Moves κ s0 (sendElems p kind group es s) := by
  refine h.of hc ?_
  unfold sendElems
  dsimp only
  split
  · exact .refl _
  · exact onSession_moves (sendFrame_moves (.refl _))

theorem endExhausted_moves {p : Nat} (h : Moves κ s0 s) (hc : caps [.objs, .places, .semas, .waits, .flights, .bursts,
    .ingress, .hostRest, .chans, .pow] ||| κ = κ := by decide) : Moves κ s0 (endExhausted p s) := by
  refine h.of hc ?_
  unfold endExhausted
  split
  · exact .refl _
  · exact .ite (endSession_moves (.refl _)) (.refl _)

theorem sendNotes_moves {p : Nat} {unicast : Bool} {resent : Bool} {ns : List Notice} (h : Moves κ s0 s) (hc : caps
    [.objs, .places, .semas, .waits, .flights, .bursts, .ingress, .egress, .hostRest, .chans, .pow, .net] ||| κ = κ :=
    by decide) : Moves κ s0 (sendNotes p unicast resent ns s) :=
  h.of hc (endExhausted_moves (moveFill_moves (onHost_moves (sendElems_moves (.refl _)))))

theorem execNoticeResend_gives {p : Fin 8} {s : State} :
    Gives (caps [.objs, .places, .semas, .waits, .flights, .bursts, .ingress, .egress, .hostRest, .chans, .pow, .net])
    s (execNoticeResend p s) := by
  unfold execNoticeResend
  dsimp only
  refine answerServed_gives fun _ => ?_
  split
  · exact .refl _
  · split
    · exact .refl _
    · exact .ite (sendNotes_moves (onHost_moves (.refl _))) (.refl _)

theorem sendCompletions_moves {p : Nat} {se : Session} (h : Moves κ s0 s) (hc : caps [.objs, .places, .semas, .waits,
    .flights, .bursts, .ingress, .egress, .hostRest, .chans, .pow, .net] ||| κ = κ := by decide) :
    Moves κ s0 (sendCompletions p se s) := by
  refine h.of hc ?_
  unfold sendCompletions
  dsimp only
  refine endExhausted_moves (settleClose_moves ?_)
  have hs : Moves (caps [.objs, .places, .semas, .waits, .flights, .bursts, .ingress, .egress, .hostRest, .chans,
    .pow, .net]) s (sendElems p 0x11 false (doneBytes (s.safetyPrefix p) s.tb32 se.safetySent (s.batch p)) s) :=
    sendElems_moves (.refl _)
  have hf := flights_moves (f := fun h => { h with
    done := (h.done.filter fun d => d.sess != se.no) ++ ((h.done.filter fun d => d.sess == se.no).drop (s.batch
      p).length)
    flights := h.flights.filter fun f => !((s.batch p).filterMap (·.flight)).contains f.id
    lastKindNotice := false }) _ (fun f => f) hs (fun _ => rfl) (List.map_id _).symm
  split
  · exact .ite (.ite (dropClosed_moves (moveFill_moves (onSession_moves hf)))
      (endSession_moves (moveFill_moves (onSession_moves hf)))) (moveFill_moves (onSession_moves hf))
  · exact moveFill_moves (onSession_moves hf)

theorem execCompletionFrameSend_gives {p : Fin 8} {s : State} :
    Gives (caps [.objs, .places, .semas, .waits, .flights, .bursts, .ingress, .egress, .hostRest, .chans, .pow, .net])
    s (execCompletionFrameSend p s) := by
  unfold execCompletionFrameSend
  refine answerServed_gives fun _ => ?_
  split
  · exact .refl _
  · exact .ite (sendCompletions_moves (.refl _)) (.refl _)

theorem execSessionTimeout_gives {p : Fin 8} {s : State} :
    Gives (caps [.objs, .places, .semas, .waits, .flights, .bursts, .ingress, .hostRest, .chans, .pow]) s
    (execSessionTimeout p s) := by
  unfold execSessionTimeout
  refine answerLive_gives fun _ => ?_
  split
  · exact .refl _
  · exact .ite (endSession_moves (.refl _)) (.refl _)

theorem execSemaHoldoffExpiry_gives {m : Fin 2} {s : State} :
    Gives (caps [.objs, .semas, .waits, .flights, .hostRest, .chans]) s (execSemaHoldoffExpiry m s) :=
  answerLive_gives fun _ => .ite (holdoffEnd_moves (.refl _)) (.refl _)

theorem execSlotReset_gives {l : Fin 32} {s : State} :
    Gives (caps [.objs, .free, .places, .semas, .waits, .flights, .bursts, .ingress, .egress, .fns, .hostRest, .lat,
    .seq, .image, .recd, .salt, .axes, .setpts, .chans, .dies, .sup, .pow, .clk, .rst, .diag, .net, .gp]) s
    (execSlotReset l s) :=
  answerLive_gives fun _ => runLane_moves (.refl _)

theorem execKeyWrite_gives {l : Fin 32} {s : State} :
    Gives (caps [.objs, .free, .places, .semas, .waits, .flights, .bursts, .ingress, .egress, .fns, .hostRest, .lat,
    .seq, .image, .recd, .salt, .axes, .setpts, .chans, .dies, .sup, .pow, .clk, .rst, .diag, .net, .gp]) s
    (execKeyWrite l s) :=
  answerLive_gives fun _ => runLane_moves (.refl _)

theorem execMaintainerWrite_gives {l : Fin 32} {s : State} :
    Gives (caps [.objs, .free, .places, .semas, .waits, .flights, .bursts, .ingress, .egress, .fns, .hostRest, .lat,
    .seq, .image, .recd, .salt, .axes, .setpts, .chans, .dies, .sup, .pow, .clk, .rst, .diag, .net, .gp]) s
    (execMaintainerWrite l s) :=
  answerLive_gives fun _ => runLane_moves (.refl _)

theorem execHostLinkReset_gives {s : State} :
    Gives (caps [.objs, .places, .semas, .waits, .flights, .bursts, .ingress, .hostRest, .chans, .pow]) s
    (execHostLinkReset s) := by
  unfold execHostLinkReset
  refine answerLive_gives fun _ => ?_
  split
  · exact endSession_moves (.refl _)
  · exact .refl _

theorem linkErr_moves (h : Moves κ s0 s) (hc : caps [.hostRest] ||| κ = κ := by decide) : Moves κ s0 (linkErr s) :=
  h.of hc (onHost_moves (.refl _))

theorem headerError_moves (h : Moves κ s0 s) (hc : caps [.objs, .hostRest] ||| κ = κ := by decide) :
    Moves κ s0 (headerError s) :=
  h.of hc (linkErr_moves (put_moves (.refl _)))

theorem linkFrame_moves {bs : List Byte} (h : Moves κ s0 s) (hc : caps [.objs, .free, .places, .semas, .waits,
    .flights, .bursts, .ingress, .egress, .hostRest, .chans, .pow, .net] ||| κ = κ := by decide) :
    Moves κ s0 (linkFrame bs s) := by
  refine h.of hc ?_
  unfold linkFrame
  split
  · exact hello_moves (.refl _)
  · exact proof_moves (.refl _)
  · exact hostFrame_moves (.refl _)

theorem execLinkWriteExchange_gives {header : List Byte} {frame : List Byte} {timingOk : Bool} {s : State} :
    Gives (caps [.objs, .free, .places, .semas, .waits, .flights, .bursts, .ingress, .egress, .hostRest, .chans, .pow,
    .net]) s (execLinkWriteExchange header frame timingOk s) :=
  answerServed_gives fun _ => .ite (headerError_moves (.refl _)) (.ite (.refl _) (.ite (linkFrame_moves (.refl _))
    (linkErr_moves (put_moves (.refl _)))))

theorem ageLink_moves (h : Moves κ s0 s) (hc : caps [.objs, .egress] ||| κ = κ := by decide) :
    Moves κ s0 (ageLink s) :=
  h.of hc (.ite (.refl _) (moveFill_moves (countPort_moves (onHost_moves (.refl _)))))

theorem execLinkReadExchange_gives {header : List Byte} {taken : Nat} {timingOk : Bool} {s : State} :
    Gives (caps [.objs, .egress, .hostRest]) s (execLinkReadExchange header taken timingOk s) := by
  unfold execLinkReadExchange
  dsimp only
  refine answerServed_gives fun _ => ?_
  refine .ite ?_ ?_
  · exact headerError_moves (.refl _)
  · refine .ite ?_ ?_
    · exact .refl _
    · split
      · exact ageLink_moves (.refl _)
      · exact .ite (linkErr_moves (ageLink_moves (.refl _))) (.ite (moveFill_moves (onHost_moves (ageLink_moves
          (.refl _)))) (ageLink_moves (.refl _)))

theorem execLinkStatusExchange_gives {header : List Byte} {s : State} :
    Gives (caps [.objs, .hostRest]) s (execLinkStatusExchange header s) :=
  answerServed_gives fun _ => .ite (headerError_moves (.refl _)) (.ite (onHost_moves (.refl _)) (.refl _))

theorem execSideCommand_gives {l : Fin 32} {s : State} :
    Gives (caps [.objs, .free, .places, .semas, .waits, .flights, .bursts, .ingress, .egress, .fns, .hostRest, .lat,
    .seq, .image, .recd, .salt, .axes, .setpts, .chans, .dies, .sup, .pow, .clk, .rst, .diag, .net, .gp]) s
    (execSideCommand l s) :=
  answerLive_gives fun _ => runLane_moves (.refl _)

theorem execAxisCommand_gives {l : Fin 32} {s : State} :
    Gives (caps [.objs, .free, .places, .semas, .waits, .flights, .bursts, .ingress, .egress, .fns, .hostRest, .lat,
    .seq, .image, .recd, .salt, .axes, .setpts, .chans, .dies, .sup, .pow, .clk, .rst, .diag, .net, .gp]) s
    (execAxisCommand l s) :=
  answerLive_gives fun _ => runLane_moves (.refl _)

theorem execFlushNow_gives {l : Fin 32} {s : State} :
    Gives (caps [.objs, .free, .places, .semas, .waits, .flights, .bursts, .ingress, .egress, .fns, .hostRest, .lat,
    .seq, .image, .recd, .salt, .axes, .setpts, .chans, .dies, .sup, .pow, .clk, .rst, .diag, .net, .gp]) s
    (execFlushNow l s) :=
  answerLive_gives fun _ => runLane_moves (.refl _)

theorem execPowerCommandOff_gives {l : Fin 32} {s : State} :
    Gives (caps [.objs, .free, .places, .semas, .waits, .flights, .bursts, .ingress, .egress, .fns, .hostRest, .lat,
    .seq, .image, .recd, .salt, .axes, .setpts, .chans, .dies, .sup, .pow, .clk, .rst, .diag, .net, .gp]) s
    (execPowerCommandOff l s) :=
  answerLive_gives fun _ => runLane_moves (.refl _)

theorem execPowerCommandStandby_gives {l : Fin 32} {s : State} :
    Gives (caps [.objs, .free, .places, .semas, .waits, .flights, .bursts, .ingress, .egress, .fns, .hostRest, .lat,
    .seq, .image, .recd, .salt, .axes, .setpts, .chans, .dies, .sup, .pow, .clk, .rst, .diag, .net, .gp]) s
    (execPowerCommandStandby l s) :=
  answerLive_gives fun _ => runLane_moves (.refl _)

theorem execPowerCommandStay_gives {l : Fin 32} {s : State} :
    Gives (caps [.objs, .free, .places, .semas, .waits, .flights, .bursts, .ingress, .egress, .fns, .hostRest, .lat,
    .seq, .image, .recd, .salt, .axes, .setpts, .chans, .dies, .sup, .pow, .clk, .rst, .diag, .net, .gp]) s
    (execPowerCommandStay l s) :=
  answerLive_gives fun _ => runLane_moves (.refl _)

theorem dropWaiting_moves {i : Nat} {status : Nat} {p : SeqCmd → Bool} (h : Moves κ s0 s)
    (hc : caps [.objs, .flights, .seq] ||| κ = κ := by decide) : Moves κ s0 (dropWaiting i status p s) :=
  h.of hc (completeAll_moves (onInst_moves (.refl _)))

theorem waitExpiry_moves {i : Nat} (h : Moves κ s0 s) (hc : caps [.objs, .flights, .seq] ||| κ = κ := by decide) :
    Moves κ s0 (waitExpiry i s) :=
  h.of hc (dropWaiting_moves (.refl _))

theorem acceptTaken_moves {i : Nat} {t : Trans} (h : Moves κ s0 s) (hc : caps [.seq] ||| κ = κ := by decide) :
    Moves κ s0 (acceptTaken i t s) :=
  h.of hc (.ite (onInst_moves (.refl _)) (.refl _))

theorem lifeExpiry_moves {i : Nat} (h : Moves κ s0 s) (hc : caps [.objs, .flights, .seq] ||| κ = κ := by decide) :
    Moves κ s0 (lifeExpiry i s) :=
  h.of hc (completeAll_moves (onInst_moves (.refl _)))

theorem evaluate_moves (h : Moves κ s0 s)
    (hc : caps [.objs, .flights, .seq, .recd, .axes, .chans, .sup, .pow, .net] ||| κ = κ := by decide) :
    Moves κ s0 (evaluate s) := by
  refine h.of hc ?_
  unfold evaluate
  dsimp only
  refine .ite ?_ ?_
  · refine enterAll_moves ?_
    refine each_moves (fun _ _ => lifeExpiry_moves (dropWaiting_moves (.refl _))) ?_
    refine each_moves (fun _ _ => ?_) (each_moves (fun _ _ => waitExpiry_moves (.refl _)) (each_moves (fun _ _ =>
      onInst_moves (.refl _)) (.refl _)))
    split
    · exact acceptTaken_moves (.refl _)
    · exact onInst_moves (.refl _)
  · refine dozeExit_moves ?_
    refine enterAll_moves ?_
    refine each_moves (fun _ _ => lifeExpiry_moves (dropWaiting_moves (.refl _))) ?_
    refine each_moves (fun _ _ => ?_) (each_moves (fun _ _ => waitExpiry_moves (.refl _)) (each_moves (fun _ _ =>
      onInst_moves (.refl _)) (.refl _)))
    split
    · exact acceptTaken_moves (.refl _)
    · exact onInst_moves (.refl _)

theorem seqTick_moves (h : Moves κ s0 s) (hc : caps [.objs, .flights, .fns, .seq, .recd, .axes, .chans, .sup, .pow,
    .rst, .net, .gp] ||| κ = κ := by decide) : Moves κ s0 (seqTick s) :=
  h.of hc (.ite (onRst_moves (evaluate_moves (each_moves (fun _ _ => .ite (drainBoundary_moves (.refl _)) (.refl _))
    (update_moves (.refl s))))) (.refl _))

theorem escrowOff_moves (h : Moves κ s0 s) (hc : caps [.objs, .free, .places, .semas, .waits, .flights, .bursts,
    .ingress, .egress, .fns, .hostRest, .lat, .seq, .image, .recd, .salt, .axes, .setpts, .chans, .dies, .sup, .pow,
    .clk, .rst, .diag, .net, .gp] ||| κ = κ := by decide) : Moves κ s0 (escrowOff s) :=
  h.of hc (.ite (onSup_moves (.refl _)) (offRequest_moves (onSup_moves (.refl _))))

theorem execSeqTick_gives {s : State} :
    Gives (caps [.objs, .free, .places, .semas, .waits, .flights, .bursts, .ingress, .egress, .fns, .hostRest, .lat,
    .seq, .image, .recd, .salt, .axes, .setpts, .chans, .dies, .sup, .pow, .clk, .rst, .diag, .net, .gp]) s
    (execSeqTick s) :=
  answerLive_gives fun _ => .ite (escrowOff_moves (seqTick_moves (.refl _))) (seqTick_moves (.refl _))

theorem execCmdWaitExpiry_gives {inst : Fin 32} {s : State} :
    Gives (caps [.objs, .flights, .seq]) s (execCmdWaitExpiry inst s) :=
  answerLive_gives fun _ => .ite (waitExpiry_moves (.refl _)) (.refl _)

theorem execCmdLifeExpiry_gives {inst : Fin 32} {s : State} :
    Gives (caps [.objs, .flights, .seq]) s (execCmdLifeExpiry inst s) :=
  answerLive_gives fun _ => lifeExpiry_moves (.refl _)

theorem execSeqTimerExpiry_gives {inst : Fin 32} {t : Fin 4} {s : State} :
    Gives (caps [.seq]) s (execSeqTimerExpiry inst t s) :=
  answerLive_gives fun _ => onInst_moves (.refl _)

theorem execBindingWrite_gives {l : Fin 32} {s : State} :
    Gives (caps [.objs, .free, .places, .semas, .waits, .flights, .bursts, .ingress, .egress, .fns, .hostRest, .lat,
    .seq, .image, .recd, .salt, .axes, .setpts, .chans, .dies, .sup, .pow, .clk, .rst, .diag, .net, .gp]) s
    (execBindingWrite l s) :=
  answerLive_gives fun _ => runLane_moves (.refl _)

theorem execLoadFactoryImage_gives {l : Fin 32} {s : State} :
    Gives (caps [.objs, .free, .places, .semas, .waits, .flights, .bursts, .ingress, .egress, .fns, .hostRest, .lat,
    .seq, .image, .recd, .salt, .axes, .setpts, .chans, .dies, .sup, .pow, .clk, .rst, .diag, .net, .gp]) s
    (execLoadFactoryImage l s) :=
  answerLive_gives fun _ => runLane_moves (.refl _)

theorem latticeMoves_moves {f : State → State} (hf : ∀ t, Moves κ t (f t)) (h : Moves κ s0 s)
    (hc : caps [.objs, .pow, .net] ||| κ = κ := by decide) : Moves κ s0 (latticeMoves f s) :=
  .ite (h.bind hf) (dozeExit_moves (h.bind hf) hc)

theorem onContact_moves {c : Nat} {f : Contact → Contact} (h : Moves κ s0 s) (hc : caps [.lat] ||| κ = κ := by
    decide) : Moves κ s0 (State.onContact c f s) :=
  h.of hc (onLat_moves (.refl _))

theorem takeFrame_moves {k : Nat} {fresh : Bool} (h : Moves κ s0 s) (hc : caps [.lat] ||| κ = κ := by decide) :
    Moves κ s0 (takeFrame k fresh s) :=
  h.of hc (each_moves (fun _ _ => onContact_moves (.refl _)) (.refl _))

theorem watchPairs_moves (h : Moves κ s0 s) (hc : caps [.lat] ||| κ = κ := by decide) : Moves κ s0 (watchPairs s) :=
  h.of hc (onLat_moves (.refl _))

theorem publish_moves (h : Moves κ s0 s) (hc : caps [.objs, .lat, .loop] ||| κ = κ := by decide) :
    Moves κ s0 (publish s) :=
  h.of hc (onLat_loop_moves (put_moves (.refl _)))

theorem energise_moves {i : Nat} (h : Moves κ s0 s) (hc : caps [.lat, .loop] ||| κ = κ := by decide) :
    Moves κ s0 (energise i s) :=
  h.of hc (.opt (.refl _) (onLat_loop_moves (.refl _)))

theorem coilOff_moves {i : Nat} (h : Moves κ s0 s) (hc : caps [.lat] ||| κ = κ := by decide) :
    Moves κ s0 (coilOff i s) := by
  have ho : Moves (caps [.lat]) s (s.onCoil i fun c =>
      { c with on := false, want := false, offAt := if c.on then s.now else c.offAt }) :=
    onCoil_moves (.refl _) (hf := fun _ h => nomatch h)
  exact h.of hc (.opt ho (onLat_moves (.refl _)))

theorem demandCoil_moves {i : Nat} {w : Bool} (h : Moves κ s0 s) (hc : caps [.lat, .loop] ||| κ = κ := by decide) :
    Moves κ s0 (demandCoil i w s) :=
  h.of hc (.ite (energise_moves (onCoil_moves (.refl _))) (coilOff_moves (.refl _)))

theorem evalLoop_moves (h : Moves κ s0 s) (hc : caps [.lat, .loop] ||| κ = κ := by decide) :
    Moves κ s0 (evalLoop s) :=
  h.of hc (demandCoil_moves (demandCoil_moves (.refl _)))

theorem execLatticeFrame_gives {k : Fin 4} {crcOk : Bool} {s : State} :
    Gives (caps [.objs, .lat, .dies, .pow, .net, .loop]) s (execLatticeFrame k crcOk s) :=
  answerLive_gives fun _ => .ite (.refl _) (latticeMoves_moves (fun _ => publish_moves (evalLoop_moves (.ite
    (watchPairs_moves (.ite (takeFrame_moves (onDie_moves (.refl _))) (onDie_moves (.refl _)))) (.ite
    (takeFrame_moves (onDie_moves (.refl _))) (onDie_moves (.refl _)))))) (.refl _))

theorem confirmLoop_moves (h : Moves κ s0 s) (hc : caps [.objs, .lat, .recd] ||| κ = κ := by decide) :
    Moves κ s0 (confirmLoop s) :=
  h.of hc (.ite (histoCount_moves (put_moves (put_moves (onLat_moves (.refl _))))) (onLat_moves (.refl _)))

theorem fd0Lost_moves (h : Moves κ s0 s) (hc : caps [.objs, .lat, .recd, .net, .loop] ||| κ = κ := by decide) :
    Moves κ s0 (fd0Lost s) :=
  h.of hc (.ite (confirmLoop_moves (evalLoop_moves (onLat_moves (.refl _)))) (onBypass_moves (dropBypass_moves
    (confirmLoop_moves (evalLoop_moves (onLat_moves (.refl _)))))))

theorem dieMoved_moves {k : Nat} {f : State → State} (hf : ∀ t, Moves κ t (f t)) (h : Moves κ s0 s)
    (hc : caps [.objs, .lat, .recd, .pow, .net, .loop] ||| κ = κ := by decide) : Moves κ s0 (dieMoved k f s) := by
  refine latticeMoves_moves (fun t => (hf t).of hc ?_) h (Moves.mask_trans (by decide) hc)
  exact publish_moves (evalLoop_moves (watchPairs_moves (.ite (fd0Lost_moves (.refl _)) (.refl _))))

theorem supplyFault_moves {k : Nat} {reaction : Nat} {cause : Nat} {value1 : Nat} (h : Moves κ s0 s)
    (hc : caps [.objs, .recd] ||| κ = κ := by decide) : Moves κ s0 (supplyFault k reaction cause value1 s) :=
  h.of hc (faultRecord_moves (.refl _))

theorem dieRecord_moves {k : Nat} {reaction : Nat} (h : Moves κ s0 s) (hc : caps [.objs, .recd] ||| κ = κ := by
    decide) : Moves κ s0 (dieRecord k reaction s) :=
  h.of hc (supplyFault_moves (.refl _))

theorem dieOff_moves {k : Nat} {f : State → State} (hf : ∀ t, Moves κ t (f t)) (h : Moves κ s0 s)
    (hc : caps [.objs, .lat, .recd, .pow, .net, .loop] ||| κ = κ := by decide) : Moves κ s0 (dieOff k f s) :=
  dieRecord_moves (dieMoved_moves hf h (Moves.mask_trans (by decide) hc)) (Moves.mask_trans (by decide) hc)

theorem execLatticeLinkTimeout_gives {k : Fin 4} {s : State} :
    Gives (caps [.objs, .lat, .recd, .dies, .pow, .net, .loop]) s (execLatticeLinkTimeout k s) :=
  answerLive_gives fun _ => .ite (dieOff_moves (fun _ => onDie_moves (.refl _)) (.refl _)) (.refl _)

theorem execLatticeFilterExpiry_gives {c : Fin 256} {s : State} :
    Gives (caps [.objs, .lat, .pow, .net, .loop]) s (execLatticeFilterExpiry c s) :=
  answerLive_gives fun _ => .ite (latticeMoves_moves (fun _ => evalLoop_moves (watchPairs_moves (onContact_moves
    (.refl _)))) (.refl _)) (.refl _)

theorem latticeFault_moves {k : Nat} {reaction : Nat} {cause : Nat} (h : Moves κ s0 s)
    (hc : caps [.objs, .recd] ||| κ = κ := by decide) : Moves κ s0 (latticeFault k reaction cause s) :=
  h.of hc (faultRecord_moves (.refl _))

theorem enterHeld_moves {causes : Nat} (h : Moves κ s0 s)
    (hc : caps [.objs, .lat, .recd, .pow, .net, .loop] ||| κ = κ := by decide) : Moves κ s0 (enterHeld causes s) := by
  refine h.of hc (latticeMoves_moves (fun t => ?_) (.refl _))
  exact .ite (latticeFault_moves (publish_moves (evalLoop_moves (put_moves (put_moves (.refl _))))))
    (publish_moves (evalLoop_moves (put_moves (put_moves (.refl _)))))

theorem execChannelDisagree_gives {cycles : Nat} {s : State} :
    Gives (caps [.objs, .lat, .recd, .pow, .net, .loop]) s (execChannelDisagree cycles s) :=
  answerLive_gives fun _ => .ite (enterHeld_moves (.refl _)) (.refl _)

theorem onPair_moves {i : LatInput} {f : PairWatch → PairWatch} (h : Moves κ s0 s) (hc : caps [.lat] ||| κ = κ := by
    decide) : Moves κ s0 (State.onPair i f s) :=
  h.of hc (onLat_moves (.refl _))

theorem execDiscrepancyTimeout_gives {i : LatInput} {s : State} :
    Gives (caps [.objs, .lat, .recd, .pow, .net, .loop]) s (execDiscrepancyTimeout i s) :=
  answerLive_gives fun _ => .ite (latticeMoves_moves (fun _ => latticeFault_moves (evalLoop_moves (put_moves
    (put_moves (onPair_moves (.refl _)))))) (.refl _)) (.refl _)

theorem execInputFaultClear_gives {i : LatInput} {s : State} :
    Gives (caps [.objs, .lat, .recd, .pow, .net, .loop]) s (execInputFaultClear i s) :=
  answerLive_gives fun _ => .ite (latticeMoves_moves (fun _ => evalLoop_moves (admitEvent_moves (put_moves
    (onPair_moves (.refl _))))) (.refl _)) (.refl _)

theorem execReadbackSample_gives {rb1 : Bool} {rb2 : Bool} {s : State} :
    Gives (caps [.objs, .lat, .recd, .pow, .net, .loop]) s (execReadbackSample rb1 rb2 s) :=
  answerServed_gives fun _ => latticeMoves_moves (fun _ => confirmLoop_moves (energise_moves (energise_moves
    (onLat_moves (.refl _))))) (.refl _)

theorem execRbNoPull_gives {coil : Fin 2} {s : State} :
    Gives (caps [.objs, .lat, .recd, .pow, .net, .loop]) s (execRbNoPull coil s) :=
  answerLive_gives fun _ => .ite (enterHeld_moves (.refl _)) (.refl _)

theorem execRbStuckPulled_gives {coil : Fin 2} {s : State} :
    Gives (caps [.objs, .lat, .recd, .pow, .net, .loop]) s (execRbStuckPulled coil s) :=
  answerLive_gives fun _ => .ite (enterHeld_moves (.refl _)) (.refl _)

theorem execTestPulseStart_gives {coil : Fin 2} {s : State} : Gives (caps [.lat]) s (execTestPulseStart coil s) :=
  answerLive_gives fun _ => .ite (.ite (onCoil_moves (onCoil_moves (.refl _))) (onCoil_moves (.refl _))) (.refl _)

theorem execTestPulseEnd_gives {coil : Fin 2} {s : State} : Gives (caps [.lat]) s (execTestPulseEnd coil s) :=
  answerLive_gives fun _ => .ite (onCoil_moves (.refl _)) (.refl _)

theorem execPulseFault_gives {coil : Fin 2} {s : State} :
    Gives (caps [.objs, .lat, .recd, .pow, .net, .loop]) s (execPulseFault coil s) :=
  answerLive_gives fun _ => .ite (enterHeld_moves (.refl _)) (.refl _)

theorem execCoilDrive_gives {coil : Fin 2} {s : State} :
    Gives (caps [.objs, .lat, .recd, .pow, .net, .loop]) s (execCoilDrive coil s) := by
  unfold execCoilDrive
  refine answerLive_gives fun _ => ?_
  split
  · exact enterHeld_moves (.refl _)

theorem execMonitorWindow_gives {count : Nat} {s : State} :
    Gives (caps [.objs, .lat, .recd, .pow, .net, .loop]) s (execMonitorWindow count s) :=
  answerLive_gives fun _ => .ite (enterHeld_moves (onLat_moves (.refl _))) (onLat_moves (.refl _))

theorem execMonitorCount_gives {count : Nat} {s : State} :
    Gives (caps [.objs, .lat, .recd, .pow, .net, .loop]) s (execMonitorCount count s) :=
  answerLive_gives fun _ => .ite (enterHeld_moves (onLat_moves (.refl _))) (onLat_moves (.refl _))

theorem execLatticeInitEnd_gives {vectorsOk : Bool} {s : State} :
    Gives (caps [.objs, .lat, .recd, .pow, .net, .loop]) s (execLatticeInitEnd vectorsOk s) :=
  answerLive_gives fun _ => .ite (.refl _) (.ite (latticeMoves_moves (fun _ => publish_moves (evalLoop_moves
    (put_moves (.refl _)))) (.refl _)) (enterHeld_moves (.refl _)))

theorem moveTraj_moves {a : Nat} (h : Moves κ s0 s) (hc : caps [.objs, .axes] ||| κ = κ := by decide) :
    Moves κ s0 (moveTraj a s) :=
  h.of hc (.ite (onAxis_moves (put_moves (.refl _))) (.ite (setSt_moves (put_moves (.refl _))) (put_moves (.refl
    _))))

theorem speedLoop_moves {a : Nat} (h : Moves κ s0 s) (hc : caps [.objs, .axes] ||| κ = κ := by decide) :
    Moves κ s0 (speedLoop a s) :=
  h.of hc (refreshMoving_moves (onAxis_moves (put_moves (moveTraj_moves (.refl _)))))

theorem execSpeedLoopUpdate_gives {s : State} : Gives (caps [.objs, .axes]) s (execSpeedLoopUpdate s) :=
  answerLive_gives fun _ => each_moves (fun _ _ => .ite (speedLoop_moves (.refl _)) (.refl _)) (.refl _)

theorem execDirGuardEnd_gives {a : Fin 24} {s : State} : Gives (caps [.axes]) s (execDirGuardEnd a s) := by
  unfold execDirGuardEnd
  dsimp only
  refine answerLive_gives fun _ => ?_
  split
  · exact .refl _
  · exact .ite (onAxis_moves (.refl _)) (.refl _)

theorem execCurrentWindow_gives {a : Fin 24} {mean : Int} {s : State} :
    Gives (caps [.objs, .recd, .axes]) s (execCurrentWindow a mean s) :=
  answerLive_gives fun _ => .ite (.refl _) (.ite (put_moves (.refl _)) (extremeSample_moves (onAxis_moves (put_moves
    (.refl _)))))

theorem reachTarget_moves {a : Nat} (h : Moves κ s0 s) (hc : caps [.objs, .axes, .sup] ||| κ = κ := by decide) :
    Moves κ s0 (reachTarget a s) :=
  h.of hc (onAxis_moves (setReserveMotion_moves (holdAxis_moves (setSt_moves (.refl _)))))

theorem execAtTarget_gives {a : Fin 24} {s : State} : Gives (caps [.objs, .axes, .sup]) s (execAtTarget a s) :=
  answerLive_gives fun _ => .ite (reachTarget_moves (.refl _)) (.refl _)

theorem execOvertime_gives {a : Fin 24} {s : State} : Gives (caps [.objs, .axes]) s (execOvertime a s) :=
  answerLive_gives fun _ => .ite (onAxis_moves (setSt_moves (.refl _))) (.refl _)

theorem execEndStopDetect_gives {a : Fin 24} {s : State} :
    Gives (caps [.objs, .axes, .sup]) s (execEndStopDetect a s) :=
  answerLive_gives fun _ => .ite (.ite (takeDatum_moves (reachTarget_moves (.refl _))) (reachTarget_moves (.refl
    _))) (.refl _)

theorem execArmDelayExpiry_gives {a : Fin 24} {s : State} : Gives (caps [.axes]) s (execArmDelayExpiry a s) :=
  answerLive_gives fun _ => .ite (onAxis_moves (.refl _)) (.refl _)

theorem ownLatch_moves {a : Nat} {kind : Nat} (h : Moves κ s0 s) (hc : caps [.objs, .axes] ||| κ = κ := by decide) :
    Moves κ s0 (ownLatch a kind s) :=
  h.of hc (each_moves (fun _ _ => .ite (capture_moves (.refl _)) (.refl _)) (.refl _))

theorem obstacle_moves {a : Nat} {cause : Nat} (h : Moves κ s0 s) (hc : caps [.objs, .recd, .axes] ||| κ = κ := by
    decide) : Moves κ s0 (obstacle a cause s) :=
  h.of hc (admitEvent_moves (ownLatch_moves (put_moves (put_moves (refreshMoving_moves (brakeAxis_moves
    (onAxis_moves (setSt_moves (.refl _)))))))))

theorem execCurrentTrip_gives {a : Fin 24} {s : State} : Gives (caps [.objs, .recd, .axes]) s (execCurrentTrip a s) :=
  answerLive_gives fun _ => .ite (obstacle_moves (.refl _)) (.refl _)

theorem execSpeedTrip_gives {a : Fin 24} {s : State} : Gives (caps [.objs, .recd, .axes]) s (execSpeedTrip a s) :=
  answerLive_gives fun _ => .ite (obstacle_moves (.refl _)) (.refl _)

theorem execTripInput_gives {a : Fin 24} {n : Fin 2} {s : State} :
    Gives (caps [.objs, .recd, .axes]) s (execTripInput a n s) :=
  answerLive_gives fun _ => .ite (obstacle_moves (.refl _)) (.refl _)

theorem execOvercurrent_gives {a : Fin 24} {s1 : Nat} {s2 : Nat} {s3 : Nat} {s : State} :
    Gives (caps [.objs, .seq, .recd, .axes, .pow, .net]) s (execOvercurrent a s1 s2 s3 s) :=
  answerLive_gives fun _ => .ite (raiseFault_moves (.refl _)) (.refl _)

theorem execSenseFault_gives {a : Fin 24} {heldUs : Nat} {s : State} :
    Gives (caps [.objs, .seq, .recd, .axes, .pow, .net]) s (execSenseFault a heldUs s) :=
  answerLive_gives fun _ => .ite (raiseFault_moves (.refl _)) (.refl _)

theorem execDirectionFault_gives {a : Fin 24} {s : State} :
    Gives (caps [.objs, .seq, .recd, .axes, .pow, .net]) s (execDirectionFault a s) :=
  answerLive_gives fun _ => .ite (raiseFault_moves (.refl _)) (.refl _)

theorem updateSetpoint_moves {j : Nat} (h : Moves κ s0 s) (hc : caps [.objs, .setpts] ||| κ = κ := by decide) :
    Moves κ s0 (updateSetpoint j s) :=
  h.of hc (put_moves (put_moves (put_moves (update_moves (.refl s)))))

theorem execSetpointUpdate_gives {s : State} : Gives (caps [.objs, .setpts]) s (execSetpointUpdate s) :=
  answerLive_gives fun _ => .ite (each_moves (fun _ _ => updateSetpoint_moves (.refl _)) (.refl _)) (.refl _)

theorem execCaptureSeed_gives {l : Fin 32} {s : State} :
    Gives (caps [.objs, .free, .places, .semas, .waits, .flights, .bursts, .ingress, .egress, .fns, .hostRest, .lat,
    .seq, .image, .recd, .salt, .axes, .setpts, .chans, .dies, .sup, .pow, .clk, .rst, .diag, .net, .gp]) s
    (execCaptureSeed l s) :=
  answerLive_gives fun _ => runLane_moves (.refl _)

theorem execResetToSeed_gives {l : Fin 32} {s : State} :
    Gives (caps [.objs, .free, .places, .semas, .waits, .flights, .bursts, .ingress, .egress, .fns, .hostRest, .lat,
    .seq, .image, .recd, .salt, .axes, .setpts, .chans, .dies, .sup, .pow, .clk, .rst, .diag, .net, .gp]) s
    (execResetToSeed l s) :=
  answerLive_gives fun _ => runLane_moves (.refl _)

theorem execSeedWrite_gives {l : Fin 32} {s : State} :
    Gives (caps [.objs, .free, .places, .semas, .waits, .flights, .bursts, .ingress, .egress, .fns, .hostRest, .lat,
    .seq, .image, .recd, .salt, .axes, .setpts, .chans, .dies, .sup, .pow, .clk, .rst, .diag, .net, .gp]) s
    (execSeedWrite l s) :=
  answerLive_gives fun _ => runLane_moves (.refl _)

theorem execFeedbackConfigWrite_gives {l : Fin 32} {s : State} :
    Gives (caps [.objs, .free, .places, .semas, .waits, .flights, .bursts, .ingress, .egress, .fns, .hostRest, .lat,
    .seq, .image, .recd, .salt, .axes, .setpts, .chans, .dies, .sup, .pow, .clk, .rst, .diag, .net, .gp]) s
    (execFeedbackConfigWrite l s) :=
  answerLive_gives fun _ => runLane_moves (.refl _)

theorem illegalTransition_moves {a : Nat} (h : Moves κ s0 s)
    (hc : caps [.objs, .seq, .recd, .axes, .pow, .net] ||| κ = κ := by decide) : Moves κ s0 (illegalTransition a s) :=
  h.of hc (.ite (feedbackFault_moves (onAxis_moves (put_moves (setFb_moves (.refl _))))) (onAxis_moves (put_moves
    (setFb_moves (.refl _)))))

theorem setTotal_moves {a : Nat} {total : Int} (h : Moves κ s0 s)
    (hc : caps [.objs, .seq, .recd, .axes, .pow, .net] ||| κ = κ := by decide) : Moves κ s0 (setTotal a total s) :=
  h.of hc (.ite (feedbackFault_moves (onAxis_moves (.refl _))) (put_moves (put_moves (put_moves (.refl _)))))

theorem checkTravel_moves {a : Nat} (h : Moves κ s0 s) (hc : caps [.objs, .axes] ||| κ = κ := by decide) :
    Moves κ s0 (checkTravel a s) :=
  h.of hc (.ite (setFb_moves (onAxis_moves (.refl _))) (onAxis_moves (.refl _)))

theorem fireCompare_moves {a : Nat} {i : Nat} (h : Moves κ s0 s) (hc : caps [.objs, .axes] ||| κ = κ := by decide) :
    Moves κ s0 (fireCompare a i s) :=
  h.of hc (onAxis_moves (put_moves (put_moves (.refl _))))

theorem runCompares_moves {a : Nat} (h : Moves κ s0 s) (hc : caps [.objs, .axes] ||| κ = κ := by decide) :
    Moves κ s0 (runCompares a s) :=
  h.of hc (each_moves (fun _ _ => .ite (fireCompare_moves (onAxis_moves (.refl _))) (onAxis_moves (.refl _))) (.refl
    _))

theorem posMoved_moves {a : Nat} (h : Moves κ s0 s) (hc : caps [.objs, .axes] ||| κ = κ := by decide) :
    Moves κ s0 (posMoved a s) :=
  h.of hc (checkNip_moves (runCompares_moves (onAxis_moves (.refl _))))

theorem markEdge_moves {a : Nat} {up : Bool} {t : Nat} (h : Moves κ s0 s) (hc : caps [.objs, .axes] ||| κ = κ := by
    decide) : Moves κ s0 (markEdge a up t s) :=
  h.of hc (onAxis_moves (put_moves (.refl _)))

theorem countOne_moves {a : Nat} {up : Bool} {t : Nat} (h : Moves κ s0 s)
    (hc : caps [.objs, .seq, .recd, .axes, .pow, .net] ||| κ = κ := by decide) : Moves κ s0 (countOne a up t s) :=
  h.of hc (.ite (.refl _) (.ite (setTotal_moves (.refl _)) (checkTravel_moves (posMoved_moves (markEdge_moves
    (setTotal_moves (.refl _)))))))

theorem execEncoderEdge_gives {a : Fin 24} {levelA : Bool} {levelB : Bool} {s : State} :
    Gives (caps [.objs, .seq, .recd, .axes, .pow, .net]) s (execEncoderEdge a levelA levelB s) :=
  answer_gives (.ite (onAxis_moves (.refl _)) (.ite (.refl _) (.ite (illegalTransition_moves (onAxis_moves (.refl
    _))) (.ite (countOne_moves (onAxis_moves (.refl _))) (onAxis_moves (.refl _))))))

theorem showPairs_moves {a : Nat} (h : Moves κ s0 s) (hc : caps [.objs] ||| κ = κ := by decide) :
    Moves κ s0 (showPairs a s) :=
  h.of hc (setFb_moves (.refl _))

theorem execPairGlitch_gives {a : Fin 24} {line : Fin 3} {live : Bool} {s : State} :
    Gives (caps [.objs, .axes]) s (execPairGlitch a line live s) :=
  answerLive_gives fun _ => .ite (.refl _) (showPairs_moves (.ite (put_moves (onAxis_moves (.refl _))) (onAxis_moves
    (.refl _))))

theorem execPairFault_gives {a : Fin 24} {line : Fin 3} {heldUs : Nat} {s : State} :
    Gives (caps [.objs, .seq, .recd, .axes, .pow, .net]) s (execPairFault a line heldUs s) :=
  answerLive_gives fun _ => .ite (feedbackFault_moves (onAxis_moves (.refl _))) (.refl _)

theorem phaseCapture_moves {a : Nat} {expected : Nat} (h : Moves κ s0 s) (hc : caps [.objs] ||| κ = κ := by decide) :
    Moves κ s0 (phaseCapture a expected s) :=
  h.of hc (setFb_moves (put_moves (put_moves (.refl _))))

theorem setCounts_moves {a : Nat} {total : Int} (h : Moves κ s0 s) (hc : caps [.objs] ||| κ = κ := by decide) :
    Moves κ s0 (setCounts a total s) :=
  h.of hc (put_moves (put_moves (.refl _)))

theorem snapCount_moves {a : Nat} {e : Int} (h : Moves κ s0 s) (hc : caps [.objs, .axes] ||| κ = κ := by decide) :
    Moves κ s0 (snapCount a e s) :=
  h.of hc (jumpPos_moves (setCounts_moves (.refl _)))

theorem referenceSlip_moves {a : Nat} {e : Int} (h : Moves κ s0 s) (hc : caps [.objs, .recd, .axes] ||| κ = κ := by
    decide) : Moves κ s0 (referenceSlip a e s) :=
  h.of hc (.ite (unreference_moves (.ite (snapCount_moves (admitEvent_moves (ownLatch_moves (put_moves (put_moves
    (setFb_moves (.refl _))))))) (admitEvent_moves (ownLatch_moves (put_moves (put_moves (setFb_moves (.refl
    _)))))))) (.ite (snapCount_moves (admitEvent_moves (ownLatch_moves (put_moves (put_moves (setFb_moves (.refl
    _))))))) (admitEvent_moves (ownLatch_moves (put_moves (put_moves (setFb_moves (.refl _))))))))

theorem reference_moves {a : Nat} {expected : Nat} (h : Moves κ s0 s) (hc : caps [.objs, .recd, .axes] ||| κ = κ :=
    by decide) : Moves κ s0 (reference a expected s) :=
  h.of hc (.ite (.refl _) (.ite (phaseCapture_moves (setFb_moves (onAxis_moves (ownLatch_moves (.refl _))))) (.ite
    (.ite (snapCount_moves (setFb_moves (put_moves (put_moves (setFb_moves (onAxis_moves (ownLatch_moves (.refl
    _)))))))) (setFb_moves (put_moves (put_moves (setFb_moves (onAxis_moves (ownLatch_moves (.refl _))))))))
    (referenceSlip_moves (put_moves (setFb_moves (onAxis_moves (ownLatch_moves (.refl _)))))))))

theorem execReferenceMark_gives {a : Fin 24} {s : State} :
    Gives (caps [.objs, .recd, .axes]) s (execReferenceMark a s) :=
  answerServed_gives fun _ => .ite (reference_moves (.refl _)) (.refl _)

theorem countTooth_moves {a : Nat} (h : Moves κ s0 s)
    (hc : caps [.objs, .seq, .recd, .axes, .pow, .net] ||| κ = κ := by decide) : Moves κ s0 (countTooth a s) :=
  h.of hc (countOne_moves (.ite (.refl _) (unreference_moves (setFb_moves (.refl _)))))

theorem execToneTooth_gives {a : Fin 24} {s : State} :
    Gives (caps [.objs, .seq, .recd, .axes, .pow, .net]) s (execToneTooth a s) :=
  answerServed_gives fun _ => .ite (.refl _) (.ite (countTooth_moves (onAxis_moves (onAxis_moves (.refl _)))) (.ite
    (countTooth_moves (onAxis_moves (onAxis_moves (.refl _)))) (.ite (countTooth_moves (reference_moves
    (countTooth_moves (onAxis_moves (.refl _))))) (.ite (reference_moves (onAxis_moves (onAxis_moves (.refl _))))
    (countTooth_moves (onAxis_moves (onAxis_moves (.refl _))))))))

theorem execSsiWordStart_gives {a : Fin 24} {lineHigh : Bool} {s : State} :
    Gives (caps [.axes]) s (execSsiWordStart a lineHigh s) :=
  answerServed_gives fun _ => .ite (onAxis_moves (.refl _)) (.refl _)

theorem setFbs_moves {a : Nat} {b : Nat} {vs : List Bool} (h : Moves κ s0 s) (hc : caps [.objs] ||| κ = κ := by
    decide) : Moves κ s0 (setFbs a b vs s) :=
  h.of hc (put_moves (.refl _))

theorem invalidWord_moves {a : Nat} (h : Moves κ s0 s)
    (hc : caps [.objs, .seq, .recd, .axes, .pow, .net] ||| κ = κ := by decide) : Moves κ s0 (invalidWord a s) :=
  h.of hc (.ite (feedbackFault_moves (onAxis_moves (put_moves (.refl _)))) (onAxis_moves (put_moves (.refl _))))

theorem execSsiWordEnd_gives {a : Fin 24} {word : Nat} {s : State} :
    Gives (caps [.objs, .seq, .recd, .axes, .pow, .net]) s (execSsiWordEnd a word s) := by
  refine answerServed_gives fun t => .ite (.refl _) ?_
  dsimp only
  generalize t.ssiFields a word = w
  obtain ⟨mt, st, err, crcOk⟩ := w
  have hf (bs : List Bool) : Moves (caps [.objs, .seq, .recd, .axes, .pow, .net]) t (setFbs a 7 bs t) := setFbs_moves
    (.refl _)
  exact .ite (invalidWord_moves (hf _)) (.ite (hf _) (.ite (setTotal_moves (hf _)) (posMoved_moves (markEdge_moves
    (.opt (onAxis_moves (setTotal_moves (hf _))) (onAxis_moves (setSt_moves (.refl _))))))))

theorem execSpeedCompute_gives {a : Fin 24} {s : State} : Gives (caps [.objs, .axes]) s (execSpeedCompute a s) :=
  answerLive_gives fun _ => .ite (.refl _) (refreshMoving_moves (put_moves (onAxis_moves (.refl _))))

theorem execLatchArm_gives {l : Fin 32} {s : State} :
    Gives (caps [.objs, .free, .places, .semas, .waits, .flights, .bursts, .ingress, .egress, .fns, .hostRest, .lat,
    .seq, .image, .recd, .salt, .axes, .setpts, .chans, .dies, .sup, .pow, .clk, .rst, .diag, .net, .gp]) s
    (execLatchArm l s) :=
  answerLive_gives fun _ => runLane_moves (.refl _)

theorem execLatchSourceWrite_gives {l : Fin 32} {s : State} :
    Gives (caps [.objs, .free, .places, .semas, .waits, .flights, .bursts, .ingress, .egress, .fns, .hostRest, .lat,
    .seq, .image, .recd, .salt, .axes, .setpts, .chans, .dies, .sup, .pow, .clk, .rst, .diag, .net, .gp]) s
    (execLatchSourceWrite l s) :=
  answerLive_gives fun _ => runLane_moves (.refl _)

theorem execComparePulseEnd_gives {a : Fin 24} {s : State} : Gives (caps [.axes]) s (execComparePulseEnd a s) :=
  answerLive_gives fun _ => .ite (onAxis_moves (.refl _)) (.refl _)

theorem execCompareArm_gives {l : Fin 32} {s : State} :
    Gives (caps [.objs, .free, .places, .semas, .waits, .flights, .bursts, .ingress, .egress, .fns, .hostRest, .lat,
    .seq, .image, .recd, .salt, .axes, .setpts, .chans, .dies, .sup, .pow, .clk, .rst, .diag, .net, .gp]) s
    (execCompareArm l s) :=
  answerLive_gives fun _ => runLane_moves (.refl _)

theorem execFunctionalFrame_gives {k : Fin 4} {crcOk : Bool} {s : State} :
    Gives (caps [.objs, .recd, .chans, .dies, .pow, .net]) s (execFunctionalFrame k crcOk s) :=
  answerLive_gives fun _ => .ite (.refl _) (each_moves (fun _ _ => linkDiag_moves (putInput_moves (.refl _)))
    (onDie_moves (.refl _)))

theorem execFunctionalLinkTimeout_gives {k : Fin 4} {s : State} :
    Gives (caps [.objs, .lat, .recd, .chans, .dies, .pow, .net, .loop]) s (execFunctionalLinkTimeout k s) :=
  answerLive_gives fun _ => .ite (each_moves (fun _ _ => linkDiag_moves (putInput_moves (.refl _))) (dieMoved_moves
    (fun _ => onDie_moves (.refl _)) (.refl _))) (.refl _)

theorem chanLatch_moves {c : Nat} {rise : Bool} (h : Moves κ s0 s) (hc : caps [.objs, .axes] ||| κ = κ := by decide) :
    Moves κ s0 (chanLatch c rise s) :=
  h.of hc (offerLatches_moves (.refl _))

theorem filteredChange_moves {c : Nat} {rise : Bool} (h : Moves κ s0 s) (hc : caps [.objs, .axes] ||| κ = κ := by
    decide) : Moves κ s0 (filteredChange c rise s) :=
  h.of hc (.ite (.refl _) (chanLatch_moves (.ite (put_moves (put_moves (.refl _))) (put_moves (.refl _)))))

theorem filterDone_moves {c : Nat} {i : Nat} (h : Moves κ s0 s)
    (hc : caps [.objs, .recd, .axes, .chans] ||| κ = κ := by decide) : Moves κ s0 (filterDone c i s) :=
  h.of hc (.ite (.ite (diagRise_moves (.ite (onChan_moves (.refl _)) (filteredChange_moves (onChan_moves (.refl
    _))))) (diagFall_moves (.ite (onChan_moves (.refl _)) (filteredChange_moves (onChan_moves (.refl _)))))) (.ite
    (onChan_moves (.refl _)) (filteredChange_moves (onChan_moves (.refl _)))))

theorem execInputFilterExpiry_gives {c : Fin 256} {s : State} :
    Gives (caps [.objs, .recd, .axes, .chans]) s (execInputFilterExpiry c s) := by
  unfold execInputFilterExpiry
  refine answer_gives ?_
  split
  · exact .refl _
  · exact .ite (filterDone_moves (.refl _)) (.refl _)

theorem execInputFilterWrite_gives {l : Fin 32} {s : State} :
    Gives (caps [.objs, .free, .places, .semas, .waits, .flights, .bursts, .ingress, .egress, .fns, .hostRest, .lat,
    .seq, .image, .recd, .salt, .axes, .setpts, .chans, .dies, .sup, .pow, .clk, .rst, .diag, .net, .gp]) s
    (execInputFilterWrite l s) :=
  answerLive_gives fun _ => runLane_moves (.refl _)

theorem execInputVoltageWindow_gives {c : Fin 256} {mv : Nat} {s : State} :
    Gives (caps [.objs]) s (execInputVoltageWindow c mv s) :=
  answerLive_gives fun _ => put_moves (.refl _)

theorem execMarginal_gives {c : Fin 256} {s : State} : Gives (caps [.chans]) s (execMarginal c s) :=
  answer_gives (.ite (onChan_moves (.refl _)) (.refl _))

theorem execXcheckSet_gives {c : Fin 256} {s : State} : Gives (caps [.objs, .recd, .chans]) s (execXcheckSet c s) :=
  answer_gives (.ite (diagRise_moves (.refl _)) (.refl _))

theorem execXcheckClear_gives {c : Fin 256} {s : State} : Gives (caps [.objs]) s (execXcheckClear c s) :=
  answer_gives (.ite (diagFall_moves (.refl _)) (.refl _))

theorem execComparatorSelftest_gives {c : Fin 256} {pass : Bool} {s : State} :
    Gives (caps [.objs, .recd, .chans]) s (execComparatorSelftest c pass s) :=
  answer_gives (.ite (.refl _) (.ite (diagRise_moves (onChan_moves (.refl _))) (.ite (diagFall_moves (onChan_moves
    (.refl _))) (onChan_moves (.refl _)))))

theorem execTestWindowStart_gives {c : Fin 256} {s : State} :
    Gives (caps [.objs, .chans]) s (execTestWindowStart c s) :=
  answer_gives (.ite (each_moves (fun _ _ => onChan_moves (.refl _)) (applyCell_moves (onChan_moves (.refl _))))
    (.refl _))

theorem judgeWindow_moves {i : Nat} (h : Moves κ s0 s) (hc : caps [.objs, .recd, .chans] ||| κ = κ := by decide) :
    Moves κ s0 (judgeWindow i s) :=
  h.of hc (.ite (diagRise_moves (onChan_moves (.refl _))) (.ite (.ite (diagFall_moves (onChan_moves (.refl _)))
    (onChan_moves (.refl _))) (.refl _)))

theorem resample_moves {c : Nat} (h : Moves κ s0 s) (hc : caps [.chans] ||| κ = κ := by decide) :
    Moves κ s0 (resample c s) :=
  h.of hc (onChan_moves (.refl _))

theorem execTestWindowEnd_gives {c : Fin 256} {s : State} :
    Gives (caps [.objs, .recd, .chans]) s (execTestWindowEnd c s) :=
  answer_gives (.ite (each_moves (fun _ _ => resample_moves (.refl _)) (applyCell_moves (onChan_moves (each_moves
    (fun _ _ => judgeWindow_moves (.refl _)) (.refl _))))) (.refl _))

theorem execFilterHoldEnd_gives {c : Fin 256} {s : State} : Gives (caps [.chans]) s (execFilterHoldEnd c s) := by
  unfold execFilterHoldEnd
  dsimp only
  refine answer_gives ?_
  split
  · exact .refl _
  · exact .ite (resample_moves (onChan_moves (.refl _))) (.refl _)

theorem execInputOverload_gives {c : Fin 256} {s : State} :
    Gives (caps [.objs, .recd, .chans]) s (execInputOverload c s) :=
  answer_gives (.ite (diagRise_moves (.refl _)) (.refl _))

theorem execOverloadClear_gives {c : Fin 256} {s : State} : Gives (caps [.objs]) s (execOverloadClear c s) :=
  answer_gives (.ite (diagFall_moves (.refl _)) (.refl _))

theorem execDiagStickyWrite_gives {l : Fin 32} {s : State} :
    Gives (caps [.objs, .free, .places, .semas, .waits, .flights, .bursts, .ingress, .egress, .fns, .hostRest, .lat,
    .seq, .image, .recd, .salt, .axes, .setpts, .chans, .dies, .sup, .pow, .clk, .rst, .diag, .net, .gp]) s
    (execDiagStickyWrite l s) :=
  answerLive_gives fun _ => runLane_moves (.refl _)

theorem execChannelModeWrite_gives {l : Fin 32} {s : State} :
    Gives (caps [.objs, .free, .places, .semas, .waits, .flights, .bursts, .ingress, .egress, .fns, .hostRest, .lat,
    .seq, .image, .recd, .salt, .axes, .setpts, .chans, .dies, .sup, .pow, .clk, .rst, .diag, .net, .gp]) s
    (execChannelModeWrite l s) :=
  answerLive_gives fun _ => runLane_moves (.refl _)

theorem execGangModeWrite_gives {l : Fin 32} {s : State} :
    Gives (caps [.objs, .free, .places, .semas, .waits, .flights, .bursts, .ingress, .egress, .fns, .hostRest, .lat,
    .seq, .image, .recd, .salt, .axes, .setpts, .chans, .dies, .sup, .pow, .clk, .rst, .diag, .net, .gp]) s
    (execGangModeWrite l s) :=
  answerLive_gives fun _ => runLane_moves (.refl _)

theorem execTestSourceWrite_gives {l : Fin 32} {s : State} :
    Gives (caps [.objs, .free, .places, .semas, .waits, .flights, .bursts, .ingress, .egress, .fns, .hostRest, .lat,
    .seq, .image, .recd, .salt, .axes, .setpts, .chans, .dies, .sup, .pow, .clk, .rst, .diag, .net, .gp]) s
    (execTestSourceWrite l s) :=
  answerLive_gives fun _ => runLane_moves (.refl _)

theorem execOutputFrame_gives {k : Fin 4} {crcOk : Bool} {s : State} :
    Gives (caps [.objs, .recd, .chans, .dies]) s (execOutputFrame k crcOk s) :=
  answerLive_gives fun _ => .ite (.refl _) (each_moves (fun _ _ => .ite (.refl _) (linkDiag_moves (applyCell_moves
    (onChan_moves (.refl _))))) (onDie_moves (.refl _)))

theorem execOutputLinkTimeout_gives {k : Fin 4} {s : State} :
    Gives (caps [.objs, .recd, .chans, .dies]) s (execOutputLinkTimeout k s) :=
  answer_gives (.ite (each_moves (fun _ _ => linkDiag_moves (applyCell_moves (.refl _))) (onDie_moves (.refl _)))
    (.refl _))

theorem execOutputDemandWrite_gives {l : Fin 32} {s : State} :
    Gives (caps [.objs, .free, .places, .semas, .waits, .flights, .bursts, .ingress, .egress, .fns, .hostRest, .lat,
    .seq, .image, .recd, .salt, .axes, .setpts, .chans, .dies, .sup, .pow, .clk, .rst, .diag, .net, .gp]) s
    (execOutputDemandWrite l s) :=
  answerLive_gives fun _ => runLane_moves (.refl _)

theorem execCurrentLatchOff_gives {c : Fin 256} {mA : Nat} {heldUs : Nat} {s : State} :
    Gives (caps [.objs, .recd, .chans]) s (execCurrentLatchOff c mA heldUs s) := by
  unfold execCurrentLatchOff
  dsimp only
  refine answer_gives ?_
  refine .ite ?_ ?_
  · exact .refl _
  · split
    · exact .ite (applyCell_moves (diagRise_moves (put_moves (.refl _)))) (put_moves (.refl _))
    · exact put_moves (.refl _)

theorem execInrushWindowEnd_gives {c : Fin 256} {s : State} : Gives (caps [.chans]) s (execInrushWindowEnd c s) :=
  answer_gives (.ite (onChan_moves (.refl _)) (.refl _))

theorem execClampEventEnd_gives {c : Fin 256} {energyUj : Nat} {s : State} :
    Gives (caps [.objs, .recd, .chans]) s (execClampEventEnd c energyUj s) :=
  answer_gives (.ite (.refl _) (.ite (applyCell_moves (diagRise_moves (put_moves (put_moves (put_moves (onChan_moves
    (.refl _))))))) (put_moves (put_moves (put_moves (onChan_moves (.refl _)))))))

theorem execClampDecay_gives {c : Fin 256} {s : State} : Gives (caps [.objs, .chans]) s (execClampDecay c s) :=
  answer_gives (.ite (onChan_moves (put_moves (.refl _))) (.refl _))

theorem execFwMissing_gives {c : Fin 256} {mv : Int} {offMa : Nat} {afterUs : Nat} {s : State} :
    Gives (caps [.objs, .recd, .chans]) s (execFwMissing c mv offMa afterUs s) :=
  answer_gives (.ite (applyCell_moves (diagRise_moves (.refl _))) (.refl _))

theorem execOutputReset_gives {l : Fin 32} {s : State} :
    Gives (caps [.objs, .free, .places, .semas, .waits, .flights, .bursts, .ingress, .egress, .fns, .hostRest, .lat,
    .seq, .image, .recd, .salt, .axes, .setpts, .chans, .dies, .sup, .pow, .clk, .rst, .diag, .net, .gp]) s
    (execOutputReset l s) :=
  answerLive_gives fun _ => runLane_moves (.refl _)

theorem execCellOvertemp_gives {c : Fin 256} {tj : Int} {s : State} :
    Gives (caps [.objs, .recd, .chans]) s (execCellOvertemp c tj s) :=
  answer_gives (.ite (.refl _) (.ite (applyCell_moves (.ite (diagRise_moves (put_moves (diagRise_moves (onChan_moves
    (.refl _))))) (put_moves (diagRise_moves (onChan_moves (.refl _)))))) (diagRise_moves (onChan_moves (.refl
    _)))))

theorem execThermalRetry_gives {c : Fin 256} {tj : Int} {heldUs : Nat} {s : State} :
    Gives (caps [.objs, .chans]) s (execThermalRetry c tj heldUs s) :=
  answer_gives (.ite (.refl _) (applyCell_moves (.ite (onChan_moves (diagFall_moves (onChan_moves (.refl _))))
    (diagFall_moves (onChan_moves (.refl _))))))

theorem execOpenLoadOn_gives {c : Fin 256} {mA : Nat} {heldUs : Nat} {s : State} :
    Gives (caps [.objs, .recd, .chans]) s (execOpenLoadOn c mA heldUs s) :=
  answer_gives (.ite (.ite (diagRise_moves (put_moves (.refl _))) (put_moves (.refl _))) (.refl _))

theorem execOffStateCheck_gives {c : Fin 256} {mv : Nat} {heldUs : Nat} {s : State} :
    Gives (caps [.objs, .recd, .chans]) s (execOffStateCheck c mv heldUs s) :=
  answer_gives (.ite (.refl _) (.ite (diagRise_moves (.refl _)) (diagRise_moves (.refl _))))

theorem execOffCheckClear_gives {c : Fin 256} {onCheck : Bool} {value : Nat} {heldUs : Nat} {s : State} :
    Gives (caps [.objs]) s (execOffCheckClear c onCheck value heldUs s) :=
  answer_gives (.ite (diagFall_moves (diagFall_moves (.refl _))) (.refl _))

theorem execPwmCompensation_gives {k : Fin 4} {vfldMv : Nat} {s : State} :
    Gives (caps [.objs, .chans]) s (execPwmCompensation k vfldMv s) := by
  unfold execPwmCompensation
  dsimp only
  refine answer_gives ?_
  refine .ite ?_ ?_
  · exact .refl _
  · refine each_moves (fun _ _ => ?_) (put_moves (.refl _))
    split
    · exact put_moves (put_moves (.refl _))
    · exact resample_moves (.refl _)
    · exact .refl _

theorem execDirectPinChange_gives {n : Fin 16} {level : Bool} {s : State} :
    Gives (caps [.objs, .chans, .direct]) s (execDirectPinChange n level s) :=
  answer_gives (each_moves (fun _ _ => applyCell_moves (demandMoved_moves (.refl _))) (update_moves (.refl s)))

theorem dieDown_moves {k : Nat} (h : Moves κ s0 s) (hc : caps [.objs, .recd, .chans] ||| κ = κ := by decide) :
    Moves κ s0 (dieDown k s) :=
  h.of hc (each_moves (fun _ _ => applyCell_moves (diagRise_moves (.refl _))) (.refl _))

theorem showDie_moves {k : Nat} (h : Moves κ s0 s) (hc : caps [.objs] ||| κ = κ := by decide) :
    Moves κ s0 (showDie k s) :=
  h.of hc (put_moves (put_moves (put_moves (.refl _))))

theorem enterDown_moves {k count : Nat} {f : State → State} (hf : ∀ t, Moves κ t (f t)) (h : Moves κ s0 s)
    (hc : caps [.objs, .lat, .recd, .chans, .pow, .net, .loop] ||| κ = κ := by decide) :
    Moves κ s0 (enterDown k count f s) := by
  have hd (t : State) : Moves κ t (dieDown k (f t)) := dieDown_moves (hf t) (Moves.mask_trans (by decide) hc)
  exact .ite (dieOff_moves (fun t => put_moves (showDie_moves (hd t) (Moves.mask_trans (by decide) hc))
    (Moves.mask_trans (by decide) hc)) h (Moves.mask_trans (by decide) hc)) (h.bind hd)

theorem execDieUnderVoltage_gives {k : Fin 4} {mv : Int} {heldUs : Nat} {s : State} :
    Gives (caps [.objs, .lat, .recd, .chans, .dies, .pow, .net, .loop]) s (execDieUnderVoltage k mv heldUs s) :=
  answer_gives (.ite (enterDown_moves (fun _ => onDie_moves (.refl _)) (.refl _)) (.refl _))

theorem dieUp_moves {k : Nat} (h : Moves κ s0 s) (hc : caps [.objs, .chans] ||| κ = κ := by decide) :
    Moves κ s0 (dieUp k s) :=
  h.of hc (each_moves (fun _ _ => applyCell_moves (diagFall_moves (onChan_moves (.refl _)))) (.refl _))

theorem leaveDown_moves {k : Nat} {f : State → State} (hf : ∀ t, Moves κ t (f t)) (h : Moves κ s0 s)
    (hc : caps [.objs, .lat, .recd, .chans, .pow, .net, .loop] ||| κ = κ := by decide) :
    Moves κ s0 (leaveDown k f s) := by
  have hd (t : State) : Moves κ t (if ((f t).die k).down then f t else dieUp k (f t)) :=
    .ite (hf t) (dieUp_moves (hf t) (Moves.mask_trans (by decide) hc))
  exact .ite (dieMoved_moves (fun t => showDie_moves (hd t) (Moves.mask_trans (by decide) hc)) h (Moves.mask_trans (by
    decide) hc))
    (h.bind hd)

theorem execDieUvExit_gives {k : Fin 4} {mv : Int} {heldUs : Nat} {s : State} :
    Gives (caps [.objs, .lat, .recd, .chans, .dies, .pow, .net, .loop]) s (execDieUvExit k mv heldUs s) :=
  answer_gives (.ite (leaveDown_moves (fun _ => onDie_moves (.refl _)) (.refl _)) (.refl _))

theorem fieldPor_moves {k : Nat} (h : Moves κ s0 s) (hc : caps [.objs, .recd, .chans, .dies] ||| κ = κ := by decide) :
    Moves κ s0 (fieldPor k s) :=
  h.of hc (each_moves (fun _ _ => linkDiag_moves (.ite (put_moves (onChan_moves (.refl _))) (onChan_moves (.refl _))))
    (filterObjs_moves (onDie_moves (each_moves (fun _ _ => .ite (onChan_moves (.refl _)) (switchCell_moves (.refl _)))
      (.refl _)))))

theorem execFieldPor_gives {k : Fin 4} {mv : Int} {s : State} :
    Gives (caps [.objs, .lat, .recd, .chans, .dies, .pow, .net, .loop]) s (execFieldPor k mv s) :=
  answer_gives (.ite (.ite (dieMoved_moves (fun _ => fieldPor_moves (.refl _)) (.refl _)) (fieldPor_moves (.refl
    _))) (.refl _))

theorem showUv_moves {k : Nat} {c : Nat} (h : Moves κ s0 s) (hc : caps [.objs, .recd, .chans] ||| κ = κ := by
    decide) : Moves κ s0 (showUv k c s) :=
  h.of hc (.ite (diagRise_moves (.refl _)) (diagFall_moves (.refl _)))

theorem reloadDie_moves {k : Nat} (h : Moves κ s0 s)
    (hc : caps [.objs, .recd, .chans, .dies, .pow, .net] ||| κ = κ := by decide) : Moves κ s0 (reloadDie k s) :=
  h.of hc (showDie_moves (each_moves (fun _ _ => showUv_moves (.ite (linkDiag_moves (.refl _)) (configureCell_moves
    (.refl _)))) (.refl _)))

theorem porReload_moves {k : Nat} (h : Moves κ s0 s)
    (hc : caps [.objs, .lat, .recd, .chans, .dies, .pow, .net, .loop] ||| κ = κ := by decide) :
    Moves κ s0 (porReload k s) :=
  h.of hc (dieMoved_moves (fun _ => reloadDie_moves (onDie_moves (dieRecord_moves (put_moves (put_moves (.refl
    _)))))) (.refl _))

theorem execFieldPorReload_gives {k : Fin 4} {s : State} :
    Gives (caps [.objs, .lat, .recd, .chans, .dies, .pow, .net, .loop]) s (execFieldPorReload k s) :=
  answerLive_gives fun _ => .ite (porReload_moves (.refl _)) (.refl _)

theorem inLogic_moves {f : State → State} (hf : ∀ t, Moves κ t (f t)) (h : Moves κ s0 s) : Moves κ s0 (inLogic f s) :=
  .opt h (hf s)

theorem execSurgeEntry_gives {k : Fin 4} {mv : Nat} {heldUs : Nat} {s : State} :
    Gives (caps [.objs, .recd, .dies]) s (execSurgeEntry k mv heldUs s) :=
  answer_gives (.ite (inLogic_moves (fun _ => dieRecord_moves (put_moves (showDie_moves (.refl _)))) (onDie_moves
    (.refl _))) (.refl _))

theorem execSurgeExit_gives {k : Fin 4} {mv : Nat} {heldUs : Nat} {s : State} :
    Gives (caps [.objs, .dies]) s (execSurgeExit k mv heldUs s) :=
  answer_gives (.ite (inLogic_moves (fun _ => showDie_moves (.refl _)) (onDie_moves (.refl _))) (.refl _))

theorem execGndShiftEntry_gives {k : Fin 4} {mv : Nat} {heldUs : Nat} {s : State} :
    Gives (caps [.objs, .lat, .recd, .chans, .dies, .pow, .net, .loop]) s (execGndShiftEntry k mv heldUs s) :=
  answer_gives (.ite (enterDown_moves (fun _ => onDie_moves (.refl _)) (.refl _)) (.refl _))

theorem execGndShiftExit_gives {k : Fin 4} {mv : Nat} {heldUs : Nat} {s : State} :
    Gives (caps [.objs, .lat, .recd, .chans, .dies, .pow, .net, .loop]) s (execGndShiftExit k mv heldUs s) :=
  answer_gives (.ite (leaveDown_moves (fun _ => onDie_moves (.refl _)) (.refl _)) (.refl _))

theorem execReverseSupply_gives {k : Fin 4} {s : State} : Gives (caps [.chans, .dies]) s (execReverseSupply k s) :=
  answer_gives (.ite (.refl _) (each_moves (fun _ _ => onChan_moves (.refl _)) (onDie_moves (.refl _))))

theorem execPorSeenClear_gives {l : Fin 32} {s : State} :
    Gives (caps [.objs, .free, .places, .semas, .waits, .flights, .bursts, .ingress, .egress, .fns, .hostRest, .lat,
    .seq, .image, .recd, .salt, .axes, .setpts, .chans, .dies, .sup, .pow, .clk, .rst, .diag, .net, .gp]) s
    (execPorSeenClear l s) :=
  answerLive_gives fun _ => runLane_moves (.refl _)

theorem execFlushPeriodExpiry_gives {s : State} : Gives (caps [.recd]) s (execFlushPeriodExpiry s) :=
  answerLive_gives fun _ => .ite (wantFlush_moves (.refl _)) (.refl _)

theorem execFlushStart_gives {s : State} : Gives (caps [.objs, .recd, .axes]) s (execFlushStart s) := by
  unfold execFlushStart
  refine answerLive_gives fun _ => ?_
  split
  · exact .ite (startJob_moves (onRec_moves (.refl _))) (.refl _)
  · exact .refl _

theorem applyUpdates_moves {us : List LogRec} (h : Moves κ s0 s) (hc : caps [.salt] ||| κ = κ := by decide) :
    Moves κ s0 (applyUpdates us s) :=
  h.of hc (onSalt_moves (.refl _))

theorem toLog_moves {r : LogRec} (h : Moves κ s0 s) (hc : caps [.objs, .salt, .diag] ||| κ = κ := by decide) :
    Moves κ s0 (toLog r s) := by
  refine h.of hc ?_
  have hbad (t : State) (ws : List (Nat × Nat)) : Moves (caps [.objs, .salt, .diag]) t { t with diag := { t.diag with
    badWords := ws } } :=
    update_moves (.refl t)
  exact .ite (onSalt_moves (put_moves (.refl _))) (.trans (onSalt_moves (.ite (put_moves (put_moves (.refl _)))
    (put_moves (.refl _)))) (hbad _ _))

theorem healWords_moves {lo hi : Nat} {unit : Option Nat} (h : Moves κ s0 s) (hc : caps [.diag] ||| κ = κ := by decide) :
    Moves κ s0 (healWords lo hi unit s) := h.of hc (update_moves (.refl s))

theorem clearLog_moves {l : Nat} {cut : Nat} (h : Moves κ s0 s) (hc : caps [.objs, .recd, .salt] ||| κ = κ := by
    decide) : Moves κ s0 (clearLog l cut s).2 :=
  h.of hc (moveFill_moves (put_moves (onRec_moves (onSalt_moves (.refl _)))))

theorem clearOne_moves {l cut : Nat} (h : Moves κ s0 s) (hc : caps [.objs, .recd, .salt] ||| κ = κ := by decide) :
    Moves κ s0 (clearOne l cut s).2 := by
  refine h.of hc ?_
  unfold clearOne
  split
  · dsimp only; exact onSalt_moves (onRec_moves (.refl _))
  · dsimp only; exact onSalt_moves (onRec_moves (.refl _))
  · exact clearLog_moves (.refl _)

theorem commitData_moves {j : Job} (h : Moves κ s0 s)
    (hc : caps [.objs, .recd, .salt, .diag] ||| κ = κ := by decide) : Moves κ s0 (commitData j s).1 := by
  refine h.of hc ?_
  unfold commitData
  split
  · dsimp only
    refine moveFill_moves (put_moves (put_moves ?_))
    have hu : Moves (caps [.objs, .recd, .salt, .diag]) s (applyUpdates j.updates (each (s.recd.brine.take j.cut) toLog
        (s.onRec fun r => { r with brine := r.brine.drop j.cut }))) :=
      applyUpdates_moves (each_moves (fun _ _ => toLog_moves (.refl _)) (onRec_moves (.refl _)))
    split
    · exact hu
    · exact healWords_moves (.ite (healWords_moves (onSalt_moves hu)) (onSalt_moves hu))
  · dsimp only
    exact put_moves (.ite (healWords_moves (onRec_moves (onSalt_moves (.refl _)))) (onRec_moves (onSalt_moves (.refl
      _))))
  · exact healWords_moves (onSalt_moves (.refl _))
  · exact healWords_moves (onSalt_moves (.refl _))
  · exact each_moves (fun _ _ => healWords_moves (onSalt_moves (.refl _))) (.refl _)
  · next code _ =>
    have hfold (ls : List Nat) (p : State × List (Nat × Nat)) : Moves (caps [.objs, .recd, .salt, .diag]) p.1
        (ls.foldl (fun (s, out) l => let (n, s) := clearOne l j.cut s; (s, out ++ [(l, n)])) p).1 := by
      induction ls generalizing p with
      | nil => exact .refl _
      | cons l ls ih => exact .trans (clearOne_moves (.refl _)) (ih ((clearOne l j.cut p.1).2, _))
    exact hfold _ (s, [])

theorem commitJob_moves {j : Job} (h : Moves κ s0 s)
    (hc : caps [.objs, .flights, .recd, .salt, .axes, .sup, .rst, .diag] ||| κ = κ := by decide) :
    Moves κ s0 (commitJob j s) := by
  refine h.of hc ?_
  unfold commitJob
  dsimp only
  refine .ite (.opt (.opt (completeAll_moves (onRec_moves ?_)) (onSup_moves (.refl _))) (onRst_moves (.refl _)))
    (kick_moves ?_) <;>
  exact each_moves (fun _ _ => admitEvent_moves (.refl _)) (completeAll_moves (put_moves (.opt (onRec_moves
    (onSalt_moves (put_moves (commitData_moves (.refl _))))) (put_moves (.refl _)))))

theorem execJournalCommit_gives {s : State} :
    Gives (caps [.objs, .flights, .recd, .salt, .axes, .sup, .rst, .diag]) s (execJournalCommit s) := by
  unfold execJournalCommit
  refine answerLive_gives fun _ => ?_
  split
  · exact .refl _
  · exact .ite (commitJob_moves (.refl _)) (.refl _)

theorem execWindowRead_gives {l : Fin 32} {s : State} :
    Gives (caps [.objs, .free, .places, .semas, .waits, .flights, .bursts, .ingress, .egress, .fns, .hostRest, .lat,
    .seq, .image, .recd, .salt, .axes, .setpts, .chans, .dies, .sup, .pow, .clk, .rst, .diag, .net, .gp]) s
    (execWindowRead l s) :=
  answerLive_gives fun _ => runLane_moves (.refl _)

theorem execClearLog_gives {l : Fin 32} {s : State} :
    Gives (caps [.objs, .free, .places, .semas, .waits, .flights, .bursts, .ingress, .egress, .fns, .hostRest, .lat,
    .seq, .image, .recd, .salt, .axes, .setpts, .chans, .dies, .sup, .pow, .clk, .rst, .diag, .net, .gp]) s
    (execClearLog l s) :=
  answerLive_gives fun _ => runLane_moves (.refl _)

theorem execHistogramSample_gives {vfld : List Nat} {temp : Int} {s : State} :
    Gives (caps [.recd]) s (execHistogramSample vfld temp s) :=
  answerLive_gives fun _ => histoCount_moves (each_moves (fun _ _ => histoCount_moves (.refl _)) (.refl _))

theorem execExtremeSample_gives {vfld : List Nat} {vrsv : Nat} {rails : List Nat} {temp : Int} {s : State} :
    Gives (caps [.objs, .recd]) s (execExtremeSample vfld vrsv rails temp s) :=
  answerLive_gives fun _ => extremeSample_moves (extremeSample_moves (extremeSample_moves (.ite (extremeSample_moves
    (each_moves (fun _ _ => extremeSample_moves (.refl _)) (each_moves (fun _ _ => put_moves (.refl _)) (.refl _))))
    (each_moves (fun _ _ => extremeSample_moves (.refl _)) (each_moves (fun _ _ => put_moves (.refl _)) (.refl
    _))))))

theorem execRestoreDefaults_gives {l : Fin 32} {s : State} :
    Gives (caps [.objs, .free, .places, .semas, .waits, .flights, .bursts, .ingress, .egress, .fns, .hostRest, .lat,
    .seq, .image, .recd, .salt, .axes, .setpts, .chans, .dies, .sup, .pow, .clk, .rst, .diag, .net, .gp]) s
    (execRestoreDefaults l s) :=
  answerLive_gives fun _ => runLane_moves (.refl _)

theorem learn_moves {mac : Nat} {p : Nat} (h : Moves κ s0 s) (hc : caps [.net] ||| κ = κ := by decide) :
    Moves κ s0 (learn mac p s) :=
  h.of hc (.ite (.refl _) (onNet_moves (.refl _)))

theorem ageHeads_moves {p : Nat} (h : Moves κ s0 s) (hc : caps [.objs, .net] ||| κ = κ := by decide) :
    Moves κ s0 (ageHeads p s) :=
  h.of hc (.ite (.refl _) (countPort_moves (onPort_moves (.refl _))))

theorem serve_moves {p : Nat} (h : Moves κ s0 s) (hc : caps [.objs, .net] ||| κ = κ := by decide) :
    Moves κ s0 (serve p s) := by
  refine h.of hc ?_
  unfold serve
  dsimp only
  refine moveFill_moves ?_
  refine .ite ?_ ?_
  · refine onPort_moves ?_
    refine .ite ?_ ?_
    · split
      · exact onPort_moves (ageHeads_moves (.refl _))
      · exact ageHeads_moves (.refl _)
    · exact ageHeads_moves (.refl _)
  · refine .ite ?_ ?_
    · split
      · exact onPort_moves (ageHeads_moves (.refl _))
      · exact ageHeads_moves (.refl _)
    · exact ageHeads_moves (.refl _)

theorem enqueue_moves {p : Nat} {f : NetFrame} (h : Moves κ s0 s) (hc : caps [.objs, .net] ||| κ = κ := by decide) :
    Moves κ s0 (enqueue p f s) :=
  h.of hc (.ite (countPort_moves (.refl _)) (.ite (countPort_moves (.refl _)) (serve_moves (moveFill_moves (.ite
    (onPort_moves (put_moves (onPort_moves (.refl _)))) (onPort_moves (.refl _)))))))

theorem transit_moves {p : Nat} {f : EthFrame} (h : Moves κ s0 s) (hc : caps [.objs, .net] ||| κ = κ := by decide) :
    Moves κ s0 (transit p f s) :=
  h.of hc (.ite (.refl _) (.ite (countPort_moves (.refl _)) (.ite (countPort_moves (.refl _)) (.ite (.refl _)
    (enqueue_moves (.refl _))))))

theorem execPortFrameRx_gives {p : Fin 2} {f : EthFrame} {s : State} :
    Gives (caps [.objs, .net]) s (execPortFrameRx p f s) :=
  answerLive_gives fun _ => .ite (.refl _) (.ite (countPort_moves (.refl _)) (.ite (countPort_moves (.refl _)) (.ite
    (countPort_moves (.ite (countPort_moves (countPort_moves (.refl _))) (countPort_moves (countPort_moves
    (countPort_moves (.refl _)))))) (.ite (countPort_moves (.ite (countPort_moves (countPort_moves (.refl _)))
    (countPort_moves (countPort_moves (countPort_moves (.refl _)))))) (.ite (countPort_moves (.ite (countPort_moves
    (countPort_moves (.refl _))) (countPort_moves (countPort_moves (countPort_moves (.refl _)))))) (.ite
    (transit_moves (.ite (learn_moves (.ite (countPort_moves (countPort_moves (.refl _))) (countPort_moves
    (countPort_moves (countPort_moves (.refl _)))))) (.ite (countPort_moves (countPort_moves (.refl _)))
    (countPort_moves (countPort_moves (countPort_moves (.refl _))))))) (.ite (learn_moves (.ite (countPort_moves
    (countPort_moves (.refl _))) (countPort_moves (countPort_moves (countPort_moves (.refl _)))))) (.ite
    (countPort_moves (countPort_moves (.refl _))) (countPort_moves (countPort_moves (countPort_moves (.refl
    _))))))))))))

theorem sendOwn_moves {f : NetFrame} (h : Moves κ s0 s) (hc : caps [.objs, .net] ||| κ = κ := by decide) :
    Moves κ s0 (sendOwn f s) :=
  h.of hc (each_moves (fun _ _ => enqueue_moves (.refl _)) (.refl _))

theorem execNiFrameTx_gives {dst : Nat} {s : State} : Gives (caps [.objs, .net]) s (execNiFrameTx dst s) := by
  unfold execNiFrameTx
  dsimp only
  refine answerLive_gives fun _ => ?_
  split
  · exact .refl _
  · exact sendOwn_moves (onNet_moves (.refl _))

theorem execLearnAgeing_gives {mac : Nat} {s : State} : Gives (caps [.net]) s (execLearnAgeing mac s) :=
  answerLive_gives fun _ => onNet_moves (.refl _)

theorem execFlushLearned_gives {l : Fin 32} {s : State} :
    Gives (caps [.objs, .free, .places, .semas, .waits, .flights, .bursts, .ingress, .egress, .fns, .hostRest, .lat,
    .seq, .image, .recd, .salt, .axes, .setpts, .chans, .dies, .sup, .pow, .clk, .rst, .diag, .net, .gp]) s
    (execFlushLearned l s) :=
  answerLive_gives fun _ => runLane_moves (.refl _)

theorem execBlockedPortWrite_gives {l : Fin 32} {s : State} :
    Gives (caps [.objs, .free, .places, .semas, .waits, .flights, .bursts, .ingress, .egress, .fns, .hostRest, .lat,
    .seq, .image, .recd, .salt, .axes, .setpts, .chans, .dies, .sup, .pow, .clk, .rst, .diag, .net, .gp]) s
    (execBlockedPortWrite l s) :=
  answerLive_gives fun _ => runLane_moves (.refl _)

theorem execFrameAgeDiscard_gives {p : Fin 2} {s : State} :
    Gives (caps [.objs, .egress, .net]) s (execFrameAgeDiscard p s) :=
  answerLive_gives fun _ => .ite (serve_moves (ageLink_moves (.refl _))) (ageLink_moves (.refl _))

theorem tryInserted_moves (h : Moves κ s0 s) (hc : caps [.objs, .net] ||| κ = κ := by decide) :
    Moves κ s0 (tryInserted s) :=
  h.of hc (.ite (onBypass_moves (put_moves (put_moves (put_moves (.refl _))))) (.refl _))

theorem execLinkUp_gives {p : Fin 2} {common : Bool} {eee : Bool} {mdix : Bool} {rbA : Bool} {rbB : Bool}
    {s : State} : Gives (caps [.objs, .net]) s (execLinkUp p common eee mdix rbA rbB s) :=
  answerLive_gives fun _ => .ite (.refl _) (.ite (put_moves (.refl _)) (tryInserted_moves (settleClock_moves
    (onBypass_moves (onPort_moves (put_moves (.refl _)))))))

theorem execLinkDown_gives {p : Fin 2} {s : State} : Gives (caps [.objs, .net]) s (execLinkDown p s) :=
  answerLive_gives fun _ => linkLost_moves (.refl _)

theorem execArpRequest_gives {p : Fin 2} {target : Nat} {sender : Nat} {s : State} :
    Gives (caps [.objs, .net]) s (execArpRequest p target sender s) :=
  answerLive_gives fun _ => .ite (sendOwn_moves (.refl _)) (.refl _)

theorem execIcmpEcho_gives {p : Fin 2} {target : Nat} {sender : Nat} {bytes : Nat} {s : State} :
    Gives (caps [.objs, .net]) s (execIcmpEcho p target sender bytes s) :=
  answerLive_gives fun _ => .ite (sendOwn_moves (.refl _)) (.refl _)

theorem execBypassSelftestStart_gives {s : State} : Gives (caps [.objs, .net]) s (execBypassSelftestStart s) :=
  answerLive_gives fun _ => .ite (loopback_moves (onBypass_moves (put_moves (.refl _)))) (.refl _)

theorem physOff_moves (h : Moves κ s0 s) (hc : caps [.objs, .net] ||| κ = κ := by decide) : Moves κ s0 (physOff s) :=
  h.of hc (each_moves (fun _ _ => linkLost_moves (.refl _)) (loopback_moves (onBypass_moves (.refl _))))

theorem bypassFailed_moves {cause : Nat} (h : Moves κ s0 s) (hc : caps [.objs, .recd, .net] ||| κ = κ := by decide) :
    Moves κ s0 (bypassFailed cause s) :=
  h.of hc (supplyFault_moves (physOff_moves (put_moves (onBypass_moves (put_moves (.refl _))))))

theorem retryDelay_moves {doubles : Bool} (h : Moves κ s0 s) (hc : caps [.net] ||| κ = κ := by decide) :
    Moves κ s0 (retryDelay doubles s) := by
  refine h.of hc ?_
  unfold retryDelay
  dsimp only
  exact onBypass_moves (.refl _)

theorem execBypassSelftestEnd_gives {pass : Bool} {rbA : Bool} {rbB : Bool} {s : State} :
    Gives (caps [.objs, .recd, .net]) s (execBypassSelftestEnd pass rbA rbB s) :=
  answerLive_gives fun _ => .ite (.refl _) (.ite (bypassFailed_moves (loopback_moves (onBypass_moves (.refl _))))
    (.ite (tryInserting_moves (onBypass_moves (loopback_moves (onBypass_moves (.refl _))))) (retryDelay_moves
    (toBypassed_moves (loopback_moves (onBypass_moves (.refl _)))))))

theorem execBypassNoPull_gives {rbA : Bool} {rbB : Bool} {s : State} :
    Gives (caps [.objs, .recd, .net]) s (execBypassNoPull rbA rbB s) :=
  answerLive_gives fun _ => .ite (.ite (tryInserted_moves (onBypass_moves (.refl _))) (bypassFailed_moves
    (onBypass_moves (.refl _)))) (.refl _)

theorem execInsertLinkTimeout_gives {s : State} : Gives (caps [.objs, .net]) s (execInsertLinkTimeout s) :=
  answerLive_gives fun _ => .ite (.ite (tryInserted_moves (.refl _)) (retryDelay_moves (put_moves (toBypassed_moves
    (.refl _))))) (.refl _)

theorem execBypassDropped_gives {rbA : Bool} {rbB : Bool} {heldUs : Nat} {s : State} :
    Gives (caps [.objs, .recd, .net]) s (execBypassDropped rbA rbB heldUs s) :=
  answerLive_gives fun _ => .ite (bypassFailed_moves (onBypass_moves (.refl _))) (.refl _)

theorem execInsertGrant_gives {l : Fin 32} {s : State} :
    Gives (caps [.objs, .free, .places, .semas, .waits, .flights, .bursts, .ingress, .egress, .fns, .hostRest, .lat,
    .seq, .image, .recd, .salt, .axes, .setpts, .chans, .dies, .sup, .pow, .clk, .rst, .diag, .net, .gp]) s
    (execInsertGrant l s) :=
  answerLive_gives fun _ => runLane_moves (.refl _)

theorem execBypassModeWrite_gives {l : Fin 32} {s : State} :
    Gives (caps [.objs, .free, .places, .semas, .waits, .flights, .bursts, .ingress, .egress, .fns, .hostRest, .lat,
    .seq, .image, .recd, .salt, .axes, .setpts, .chans, .dies, .sup, .pow, .clk, .rst, .diag, .net, .gp]) s
    (execBypassModeWrite l s) :=
  answerLive_gives fun _ => runLane_moves (.refl _)

theorem execPortReset_gives {l : Fin 32} {s : State} :
    Gives (caps [.objs, .free, .places, .semas, .waits, .flights, .bursts, .ingress, .egress, .fns, .hostRest, .lat,
    .seq, .image, .recd, .salt, .axes, .setpts, .chans, .dies, .sup, .pow, .clk, .rst, .diag, .net, .gp]) s
    (execPortReset l s) :=
  answerLive_gives fun _ => runLane_moves (.refl _)

theorem execLpiEntry_gives {p : Fin 2} {s : State} : Gives (caps [.objs]) s (execLpiEntry p s) :=
  answerLive_gives fun _ => .ite (countPort_moves (put_moves (.refl _))) (.refl _)

theorem execLpiWake_gives {p : Fin 2} {s : State} : Gives (caps [.objs, .net]) s (execLpiWake p s) :=
  answerLive_gives fun _ => .ite (serve_moves (onPort_moves (.refl _))) (.refl _)

theorem onPtp_moves {f : PtpUnit → PtpUnit} (h : Moves κ s0 s) (hc : caps [.net] ||| κ = κ := by decide) :
    Moves κ s0 (State.onPtp f s) :=
  h.of hc (onNet_moves (.refl _))

theorem execAnnounceRx_gives {p : Fin 2} {a : Announce} {s : State} :
    Gives (caps [.objs, .clk, .net]) s (execAnnounceRx p a s) :=
  answerLive_gives fun _ => .ite (.refl _) (settleClock_moves (onClk_moves (.ite (onPtp_moves (.refl _)) (.refl
    _))))

theorem execAnnounceTimeout_gives {p : Fin 2} {s : State} :
    Gives (caps [.objs, .net]) s (execAnnounceTimeout p s) := by
  unfold execAnnounceTimeout
  refine answerLive_gives fun _ => ?_
  split
  · exact .refl _
  · exact .ite (settleClock_moves (onPtp_moves (.refl _))) (.refl _)

theorem execSyncRx_gives {p : Fin 2} {udp : Bool} {domain : Nat} {sender : Nat} {seq : Nat} {followUp : Bool}
    {twoStep : Bool} {origin : Int} {intervalMs : Nat} {s : State} :
    Gives (caps [.net]) s (execSyncRx p udp domain sender seq followUp twoStep origin intervalMs s) := by
  unfold execSyncRx
  dsimp only
  refine answerLive_gives fun _ => ?_
  refine .ite ?_ ?_
  · exact .refl _
  · refine .ite ?_ ?_
    · split
      · exact .ite (onPtp_moves (.refl _)) (.refl _)
      · exact .refl _
    · exact .ite (onPtp_moves (onPtp_moves (.refl _))) (onPtp_moves (onPtp_moves (.refl _)))

theorem execDelayReqTx_gives {s : State} : Gives (caps [.objs, .net]) s (execDelayReqTx s) := by
  unfold execDelayReqTx
  dsimp only
  refine answerLive_gives fun _ => ?_
  split
  · exact .refl _
  · exact .ite (.refl _) (.ite (.refl _) (enqueue_moves (onPtp_moves (.refl _))))

theorem stepUtc_moves (h : Moves κ s0 s) (hc : caps [.objs, .clk, .net] ||| κ = κ := by decide) :
    Moves κ s0 (stepUtc s) :=
  h.of hc (.ite (onClk_moves (.refl _)) (moveCal_moves (put_moves (onClk_moves (.refl _)))))

theorem stepOffset_moves {o : Int} (h : Moves κ s0 s) (hc : caps [.objs, .clk, .net] ||| κ = κ := by decide) :
    Moves κ s0 (stepOffset o s) :=
  h.of hc (moveCal_moves (put_moves (put_moves (onClk_moves (.refl _)))))

theorem judgeLock_moves {o : Int} (h : Moves κ s0 s) (hc : caps [.objs, .clk] ||| κ = κ := by decide) :
    Moves κ s0 (judgeLock o s) :=
  h.of hc (.ite (put_moves (onClk_moves (.refl _))) (.ite (onClk_moves (put_moves (onClk_moves (.refl _))))
    (onClk_moves (.refl _))))

theorem setRate_moves {rate : Int} {integ : Int} (h : Moves κ s0 s) (hc : caps [.clk] ||| κ = κ := by decide) :
    Moves κ s0 (setRate rate integ s) :=
  h.of hc (onClk_moves (setCal_moves (.refl _)))

theorem slewOffset_moves {o : Int} {t : Nat} (h : Moves κ s0 s) (hc : caps [.clk] ||| κ = κ := by decide) :
    Moves κ s0 (slewOffset o t s) :=
  h.of hc (setRate_moves (.refl _))

theorem applyOffset_moves {o : Int} {t : Nat} (h : Moves κ s0 s) (hc : caps [.objs, .clk, .net] ||| κ = κ := by
    decide) : Moves κ s0 (applyOffset o t s) :=
  h.of hc (.ite (disciplined_moves (.refl _)) (disciplined_moves (.ite (put_moves (.ite (stepOffset_moves
    (stepUtc_moves (.refl _))) (judgeLock_moves (slewOffset_moves (stepUtc_moves (.refl _)))))) (.ite
    (stepOffset_moves (stepUtc_moves (.refl _))) (judgeLock_moves (slewOffset_moves (stepUtc_moves (.refl _))))))))

theorem execDelayRespRx_gives {p : Fin 2} {udp : Bool} {domain : Nat} {sender : Nat} {seq : Nat} {received : Int}
    {intervalMs : Nat} {s : State} :
    Gives (caps [.objs, .clk, .net]) s (execDelayRespRx p udp domain sender seq received intervalMs s) := by
  unfold execDelayRespRx
  dsimp only
  refine answerLive_gives fun _ => ?_
  refine .ite ?_ ?_
  · exact .refl _
  · split
    · exact .ite (onPtp_moves (.refl _)) (applyOffset_moves (onPtp_moves (put_moves (put_moves (onPtp_moves (.refl
        _))))))
    · exact onPtp_moves (.refl _)

theorem execTcEventForward_gives {p : Fin 2} {f : EthFrame} {residence : Nat} {s : State} :
    Gives (caps [.objs, .net]) s (execTcEventForward p f residence s) := by
  unfold execTcEventForward
  dsimp only
  refine answerLive_gives fun _ => ?_
  split
  · refine .ite ?_ ?_
    · exact .refl _
    · split
      · exact .ite (onNet_moves (.refl _)) (.refl _)
      · exact put_moves (.refl _)
      · exact .ite (onNet_moves (.refl _)) (.refl _)
      · exact .refl _
  · exact .refl _

theorem execTcCorrection_gives {p : Fin 2} {f : EthFrame} {s : State} :
    Gives (caps [.objs, .net]) s (execTcCorrection p f s) := by
  unfold execTcCorrection
  dsimp only
  refine answerLive_gives fun _ => ?_
  split
  · refine .ite ?_ ?_
    · exact .refl _
    · split
      · exact .ite (onNet_moves (put_moves (.refl _))) (put_moves (.refl _))
      · exact .ite (onNet_moves (put_moves (.refl _))) (put_moves (.refl _))
      · exact .refl _
  · exact .refl _

theorem execTcEntryExpiry_gives {s : State} : Gives (caps [.net]) s (execTcEntryExpiry s) :=
  answerLive_gives fun _ => onNet_moves (.refl _)

theorem execFunctionEnable_gives {l : Fin 32} {s : State} :
    Gives (caps [.objs, .free, .places, .semas, .waits, .flights, .bursts, .ingress, .egress, .fns, .hostRest, .lat,
    .seq, .image, .recd, .salt, .axes, .setpts, .chans, .dies, .sup, .pow, .clk, .rst, .diag, .net, .gp]) s
    (execFunctionEnable l s) :=
  answerLive_gives fun _ => runLane_moves (.refl _)

theorem execFunctionDisable_gives {l : Fin 32} {s : State} :
    Gives (caps [.objs, .free, .places, .semas, .waits, .flights, .bursts, .ingress, .egress, .fns, .hostRest, .lat,
    .seq, .image, .recd, .salt, .axes, .setpts, .chans, .dies, .sup, .pow, .clk, .rst, .diag, .net, .gp]) s
    (execFunctionDisable l s) :=
  answerLive_gives fun _ => runLane_moves (.refl _)

theorem execFunctionReset_gives {l : Fin 32} {s : State} :
    Gives (caps [.objs, .free, .places, .semas, .waits, .flights, .bursts, .ingress, .egress, .fns, .hostRest, .lat,
    .seq, .image, .recd, .salt, .axes, .setpts, .chans, .dies, .sup, .pow, .clk, .rst, .diag, .net, .gp]) s
    (execFunctionReset l s) :=
  answerLive_gives fun _ => runLane_moves (.refl _)

theorem execDrainEnd_gives {n : Fin 8} {s : State} :
    Gives (caps [.objs, .flights, .fns, .seq, .recd, .axes, .chans, .sup, .pow, .net, .gp]) s (execDrainEnd n s) :=
  answerLive_gives fun _ => .ite (drainEnd_moves (.refl _)) (.refl _)

theorem execFunctionMaskWrite_gives {l : Fin 32} {s : State} :
    Gives (caps [.objs, .free, .places, .semas, .waits, .flights, .bursts, .ingress, .egress, .fns, .hostRest, .lat,
    .seq, .image, .recd, .salt, .axes, .setpts, .chans, .dies, .sup, .pow, .clk, .rst, .diag, .net, .gp]) s
    (execFunctionMaskWrite l s) :=
  answerLive_gives fun _ => runLane_moves (.refl _)

theorem execBoundSlotWrite_gives {l : Fin 32} {s : State} :
    Gives (caps [.objs, .free, .places, .semas, .waits, .flights, .bursts, .ingress, .egress, .fns, .hostRest, .lat,
    .seq, .image, .recd, .salt, .axes, .setpts, .chans, .dies, .sup, .pow, .clk, .rst, .diag, .net, .gp]) s
    (execBoundSlotWrite l s) :=
  answerLive_gives fun _ => runLane_moves (.refl _)

theorem execWeirNoticeIntervalEnd_gives {q : Fin 15} {high : Bool} {s : State} :
    Gives (caps [.objs]) s (execWeirNoticeIntervalEnd q high s) :=
  answerLive_gives fun _ => .ite (onWeir_moves (weirNotice_moves (.refl _))) (.refl _)

theorem execWeirStatusWrite_gives {l : Fin 32} {s : State} :
    Gives (caps [.objs, .free, .places, .semas, .waits, .flights, .bursts, .ingress, .egress, .fns, .hostRest, .lat,
    .seq, .image, .recd, .salt, .axes, .setpts, .chans, .dies, .sup, .pow, .clk, .rst, .diag, .net, .gp]) s
    (execWeirStatusWrite l s) :=
  answerLive_gives fun _ => runLane_moves (.refl _)

theorem memoryFault_moves {k : Nat} {cause : Nat} {value1 : Nat} {cls : Nat} {num : Nat} (h : Moves κ s0 s)
    (hc : caps [.objs, .recd] ||| κ = κ := by decide) : Moves κ s0 (memoryFault k cause value1 cls num s) :=
  h.of hc (faultRecord_moves (.refl _))

theorem abandonJob_moves (h : Moves κ s0 s) (hc : caps [.objs, .recd] ||| κ = κ := by decide) :
    Moves κ s0 (abandonJob s) := by
  refine h.of hc ?_
  unfold abandonJob
  split
  · exact .refl _
  · exact onRec_moves (whenever_moves (fun _ => put_moves (.refl _)) (.refl _))

theorem queueError_moves {q : Nat} {unit : Nat} (h : Moves κ s0 s) (hc : caps [.objs, .places, .semas, .waits,
    .flights, .bursts, .ingress, .hostRest, .recd, .chans, .pow, .net] ||| κ = κ := by decide) :
    Moves κ s0 (queueError q unit s) := by
  refine h.of hc ?_
  unfold queueError
  dsimp only
  split
  · exact moveFill_moves (onHost_moves (.refl _))
  · split
    · exact .refl _
    · exact moveFill_moves (put_moves (onRec_moves (.refl _)))
  · exact abandonJob_moves (.refl _)
  · exact .ite (.ite (onPort_moves (countPort_moves (.refl _))) (serve_moves (onPort_moves (countPort_moves (.refl
      _))))) (endSession_moves (.refl _))

theorem execEccUncorrectable_gives {q : Fin 15} {double : Bool} {unit : Nat} {word : Nat} {s : State} :
    Gives (caps [.objs, .places, .semas, .waits, .flights, .bursts, .ingress, .hostRest, .recd, .chans, .pow, .net]) s
    (execEccUncorrectable q double unit word s) :=
  answerLive_gives fun _ => .ite (.refl _) (.ite (put_moves (.refl _)) (queueError_moves (memoryFault_moves
    (put_moves (put_moves (.refl _))))))

theorem showReserve_moves (h : Moves κ s0 s) (hc : caps [.objs] ||| κ = κ := by decide) :
    Moves κ s0 (showReserve s) :=
  h.of hc (put_moves (.refl _))

theorem failMain_moves {mv : Nat} (h : Moves κ s0 s) (hc : caps [.objs, .free, .places, .semas, .waits, .flights,
    .bursts, .ingress, .egress, .fns, .hostRest, .lat, .seq, .image, .recd, .salt, .axes, .setpts, .chans, .dies,
    .sup, .pow, .clk, .rst, .diag, .net, .gp] ||| κ = κ := by decide) : Moves κ s0 (failMain mv s) :=
  h.of hc (.ite (offRequest_moves (stateNotice_moves (showReserve_moves (supplyFault_moves (put_moves (put_moves
    (onSup_moves (dozeExit_moves (put_moves (put_moves (.refl _))))))))))) (stateNotice_moves (showReserve_moves
    (supplyFault_moves (put_moves (put_moves (onSup_moves (dozeExit_moves (put_moves (put_moves (.refl _)))))))))))

theorem latchCause_moves {c : Nat} (h : Moves κ s0 s) (hc : caps [.objs, .rst] ||| κ = κ := by decide) :
    Moves κ s0 (latchCause c s) :=
  h.of hc (.ite (put_moves (.ite (put_moves (put_moves (put_moves (onRst_moves (.refl _))))) (put_moves (put_moves
    (onRst_moves (.refl _)))))) (.ite (put_moves (put_moves (put_moves (onRst_moves (.refl _))))) (put_moves
    (put_moves (onRst_moves (.refl _))))))

theorem enterP0_moves (h : Moves κ s0 s) (hc : caps [.objs, .lat, .pow, .rst] ||| κ = κ := by decide) :
    Moves κ s0 (enterP0 s) := by
  refine h.of hc ?_
  unfold enterP0
  dsimp only
  exact onPow_moves (onRst_moves (onLat_moves (put_moves (put_moves (put_moves (.refl _))))))

theorem tryStart_moves (h : Moves κ s0 s) (hc : caps [.objs, .lat, .pow, .rst] ||| κ = κ := by decide) :
    Moves κ s0 (tryStart s) :=
  h.of hc (.ite (enterP0_moves (.refl _)) (.refl _))

theorem wake_moves {source : Nat} (h : Moves κ s0 s) (hc : caps [.objs, .lat, .pow, .rst] ||| κ = κ := by decide) :
    Moves κ s0 (wake source s) :=
  h.of hc (.ite (tryStart_moves (onPow_moves (latchCause_moves (.refl _)))) (.ite (onPow_moves (.refl _)) (.refl
    _)))

theorem declareFail_moves {mv : Nat} (h : Moves κ s0 s) (hc : caps [.objs, .free, .places, .semas, .waits, .flights,
    .bursts, .ingress, .egress, .fns, .hostRest, .lat, .seq, .image, .recd, .salt, .axes, .setpts, .chans, .dies,
    .sup, .pow, .clk, .rst, .diag, .net, .gp] ||| κ = κ := by decide) : Moves κ s0 (declareFail mv s) :=
  h.of hc (.ite (.ite (failMain_moves (onSup_moves (.refl _))) (onSup_moves (.refl _))) (.ite (.ite (wake_moves
    (onSup_moves (.refl _))) (onSup_moves (.refl _))) (.ite (onSup_moves (.refl _)) (offRequest_moves (onSup_moves
    (.refl _))))))

theorem execMainFail_gives {mv : Nat} {heldUs : Nat} {s : State} :
    Gives (caps [.objs, .free, .places, .semas, .waits, .flights, .bursts, .ingress, .egress, .fns, .hostRest, .lat,
    .seq, .image, .recd, .salt, .axes, .setpts, .chans, .dies, .sup, .pow, .clk, .rst, .diag, .net, .gp]) s
    (execMainFail mv heldUs s) :=
  answer_gives (.ite (declareFail_moves (.refl _)) (.refl _))

theorem crossover_moves {mv : Nat} (h : Moves κ s0 s)
    (hc : caps [.objs, .flights, .fns, .seq, .recd, .axes, .chans, .sup, .pow, .net, .gp] ||| κ = κ := by decide) :
    Moves κ s0 (crossover mv s) :=
  h.of hc (onRequest_moves (showReserve_moves (onSup_moves (put_moves (put_moves (put_moves (admitEvent_moves
    (put_moves (put_moves (put_moves (.refl _)))))))))))

theorem execMainOk_gives {mv : Nat} {heldUs : Nat} {s : State} :
    Gives (caps [.objs, .flights, .fns, .lat, .seq, .recd, .axes, .chans, .sup, .pow, .rst, .net, .gp]) s
    (execMainOk mv heldUs s) :=
  answer_gives (.ite (.ite (.ite (onSup_moves (.refl _)) (crossover_moves (onSup_moves (.refl _)))) (.ite
    (wake_moves (onSup_moves (.refl _))) (onSup_moves (.refl _)))) (.refl _))

theorem runCharger_moves (h : Moves κ s0 s) (hc : caps [.objs, .sup] ||| κ = κ := by decide) :
    Moves κ s0 (runCharger s) :=
  h.of hc (showReserve_moves (onSup_moves (.refl _)))

theorem execChargerResume_gives {s : State} : Gives (caps [.objs, .sup]) s (execChargerResume s) :=
  answerServed_gives fun _ => .ite (runCharger_moves (.refl _)) (.refl _)

theorem execMainOv_gives {mv : Nat} {heldUs : Nat} {s : State} :
    Gives (caps [.objs, .free, .places, .semas, .waits, .flights, .bursts, .ingress, .egress, .fns, .hostRest, .lat,
    .seq, .image, .recd, .salt, .axes, .setpts, .chans, .dies, .sup, .pow, .clk, .rst, .diag, .net, .gp]) s
    (execMainOv mv heldUs s) :=
  answerServed_gives fun _ => .ite (declareFail_moves (onSup_moves (put_moves (.refl _)))) (.refl _)

theorem execMainOvClear_gives {mv : Nat} {heldUs : Nat} {s : State} :
    Gives (caps [.objs, .sup]) s (execMainOvClear mv heldUs s) :=
  answerServed_gives fun _ => .ite (onSup_moves (put_moves (.refl _))) (.refl _)

theorem restartSpring_moves (h : Moves κ s0 s) (hc : caps [.objs, .sup] ||| κ = κ := by decide) :
    Moves κ s0 (restartSpring s) := by
  refine h.of hc ?_
  unfold restartSpring
  dsimp only
  exact onSup_moves (each_moves (fun _ _ => put_moves (.refl _)) (.refl _))

theorem publishCells_moves {cells : List Nat} {pack : Nat} (h : Moves κ s0 s) (hc : caps [.objs] ||| κ = κ := by
    decide) : Moves κ s0 (publishCells cells pack s) :=
  h.of hc (put_moves (put_moves (put_moves (put_moves (each_moves (fun _ _ => put_moves (.refl _)) (.refl _))))))

theorem judgePack_moves {sum pack : Nat} (h : Moves κ s0 s) (hc : caps [.sup] ||| κ = κ := by decide) :
    Moves κ s0 (judgePack sum pack s).2.2 := by
  refine h.of hc ?_
  unfold judgePack
  dsimp only
  exact onSup_moves (.refl _)

theorem setReserveFault_moves {new : Nat} (h : Moves κ s0 s)
    (hc : caps [.objs, .recd, .sup, .pow, .net] ||| κ = κ := by decide) : Moves κ s0 (setReserveFault new s) :=
  h.of hc (.ite (.ite (onSup_moves (.ite (dozeExit_moves (each_moves (fun _ _ => stateNotice_moves
    (supplyFault_moves (.refl _))) (put_moves (.refl _)))) (each_moves (fun _ _ => stateNotice_moves
    (supplyFault_moves (.refl _))) (put_moves (.refl _))))) (onSup_moves (.ite (dozeExit_moves (each_moves (fun _ _
    => stateNotice_moves (supplyFault_moves (.refl _))) (put_moves (.refl _)))) (each_moves (fun _ _ =>
    stateNotice_moves (supplyFault_moves (.refl _))) (put_moves (.refl _)))))) (.ite (onSup_moves (.ite
    (dozeExit_moves (each_moves (fun _ _ => stateNotice_moves (supplyFault_moves (.refl _))) (put_moves (.refl _))))
    (each_moves (fun _ _ => stateNotice_moves (supplyFault_moves (.refl _))) (put_moves (.refl _))))) (.ite
    (dozeExit_moves (each_moves (fun _ _ => stateNotice_moves (supplyFault_moves (.refl _))) (put_moves (.refl _))))
    (each_moves (fun _ _ => stateNotice_moves (supplyFault_moves (.refl _))) (put_moves (.refl _))))))

theorem judgeCells_moves {cells : List Nat} (h : Moves κ s0 s) (hc : caps [.objs, .sup] ||| κ = κ := by decide) :
    Moves κ s0 (judgeCells cells s) :=
  h.of hc (put_moves (put_moves (onSup_moves (put_moves (.refl _)))))

theorem testWire_moves {cells : List Nat} {test : List Nat} (h : Moves κ s0 s)
    (hc : caps [.objs, .recd, .sup, .pow, .net] ||| κ = κ := by decide) : Moves κ s0 (testWire cells test s) :=
  h.of hc (setReserveFault_moves (.ite (put_moves (onSup_moves (.ite (put_moves (.refl _)) (.ite (put_moves (.refl
    _)) (.refl _))))) (onSup_moves (.ite (put_moves (.refl _)) (.ite (put_moves (.refl _)) (.refl _))))))

theorem reserveCycle_moves {cells : List Nat} {pack : Nat} {test : List Nat} (h : Moves κ s0 s) (hc : caps [.objs,
    .free, .places, .semas, .waits, .flights, .bursts, .ingress, .egress, .fns, .hostRest, .lat, .seq, .image, .recd,
    .salt, .axes, .setpts, .chans, .dies, .sup, .pow, .clk, .rst, .diag, .net, .gp] ||| κ = κ := by decide) :
    Moves κ s0 (reserveCycle cells pack test s) := by
  have hr : Moves (caps [.objs, .free, .places, .semas, .waits, .flights, .bursts, .ingress, .egress, .fns, .hostRest,
    .lat, .seq, .image, .recd, .salt, .axes, .setpts, .chans, .dies, .sup, .pow, .clk, .rst, .diag, .net, .gp]) s (if
    s.sup.restart then restartSpring s else s) := .opt (.refl _) (restartSpring_moves (.refl _))
  exact h.of hc (.ite (runCharger_moves hr) (.opt (testWire_moves (put_moves (runCharger_moves (setReserveFault_moves
    (.opt (put_moves (put_moves (judgeCells_moves (setReserveFault_moves (judgePack_moves (publishCells_moves
      (onSup_moves hr))))))) (put_moves (.refl _))))))) (escrowOff_moves (.refl _))))

theorem execReserveCycle_gives {cells : List Nat} {pack : Nat} {test : List Nat} {s : State} :
    Gives (caps [.objs, .free, .places, .semas, .waits, .flights, .bursts, .ingress, .egress, .fns, .hostRest, .lat,
    .seq, .image, .recd, .salt, .axes, .setpts, .chans, .dies, .sup, .pow, .clk, .rst, .diag, .net, .gp]) s
    (execReserveCycle cells pack test s) :=
  answerServed_gives fun _ => .ite (reserveCycle_moves (.refl _)) (.refl _)

theorem execChemistryWrite_gives {l : Fin 32} {s : State} :
    Gives (caps [.objs, .free, .places, .semas, .waits, .flights, .bursts, .ingress, .egress, .fns, .hostRest, .lat,
    .seq, .image, .recd, .salt, .axes, .setpts, .chans, .dies, .sup, .pow, .clk, .rst, .diag, .net, .gp]) s
    (execChemistryWrite l s) :=
  answerLive_gives fun _ => runLane_moves (.refl _)

theorem railFell_moves {r : Nat} (h : Moves κ s0 s) (hc : caps [.sup, .pow] ||| κ = κ := by decide) :
    Moves κ s0 (railFell r s) :=
  h.of hc (.ite (fallPens_moves (.refl _)) (.refl _))

theorem railLost_moves {r : Nat} (h : Moves κ s0 s) (hc : caps [.sup, .pow] ||| κ = κ := by decide) :
    Moves κ s0 (railLost r s) :=
  h.of hc (railFell_moves (onSup_moves (.refl _)))

theorem assertReset_moves {cause : Nat} (h : Moves κ s0 s) (hc : caps [.objs, .free, .places, .semas, .waits,
    .flights, .bursts, .ingress, .egress, .fns, .hostRest, .lat, .seq, .image, .recd, .salt, .axes, .setpts, .chans,
    .dies, .sup, .pow, .clk, .rst, .diag, .net, .gp] ||| κ = κ := by decide) : Moves κ s0 (assertReset cause s) := by
  refine h.of hc ?_
  unfold assertReset
  dsimp only
  exact onPow_moves (onRst_moves (put_moves (put_moves (latchCause_moves (loseLogic_moves (.refl _))))))

theorem execRailBrownOut_gives {rail : Fin 3} {mv : Int} {heldUs : Nat} {s : State} :
    Gives (caps [.objs, .free, .places, .semas, .waits, .flights, .bursts, .ingress, .egress, .fns, .hostRest, .lat,
    .seq, .image, .recd, .salt, .axes, .setpts, .chans, .dies, .sup, .pow, .clk, .rst, .diag, .net, .gp]) s
    (execRailBrownOut rail mv heldUs s) :=
  answer_gives (.ite (.refl _) (.ite (assertReset_moves (onRst_moves (railLost_moves (.refl _)))) (railLost_moves
    (.refl _))))

theorem physHeld_moves (h : Moves κ s0 s) (hc : caps [.objs, .net] ||| κ = κ := by decide) :
    Moves κ s0 (physHeld s) :=
  h.of hc (each_moves (fun _ _ => linkLost_moves (.refl _)) (dropBypass_moves (.refl _)))

theorem execVphyBrownOut_gives {mv : Int} {heldUs : Nat} {s : State} :
    Gives (caps [.objs, .sup, .pow, .net]) s (execVphyBrownOut mv heldUs s) :=
  answer_gives (.ite (.ite (physHeld_moves (railLost_moves (.refl _))) (railLost_moves (.refl _))) (railFell_moves
    (.refl _)))

theorem execVaonPor_gives {mv : Int} {heldUs : Nat} {s : State} :
    Gives (caps [.objs, .free, .places, .semas, .waits, .flights, .bursts, .ingress, .egress, .fns, .hostRest, .lat,
    .seq, .image, .recd, .salt, .axes, .setpts, .chans, .dies, .sup, .pow, .clk, .rst, .diag, .net,
    .gp]) s (execVaonPor mv heldUs s) := by
  have hl : Moves (caps [.objs, .free, .places, .semas, .waits, .flights, .bursts, .ingress, .egress, .fns, .hostRest,
    .lat, .seq, .image, .recd, .salt, .axes, .setpts, .chans, .dies, .sup, .pow, .clk, .rst, .diag,
    .net, .gp]) s (loseLogic s) := loseLogic_moves (.refl _)
  unfold execVaonPor
  split
  · refine ⟨_, rfl, rfl, rfl, hl.now, fun hx => ?_, fun _ => fresh_of_reset rfl, fun p hp => ?_,
      fun _ => falls_of_off resetCoils_off rfl⟩
    · exact canonical_filter (hl.canonical hx) hl.variant.symm _ rfl
    · have hpart := hl.part p hp
      cases p <;> first | exact hpart | exact absurd hp (by decide)
  · exact answer_gives (.refl s)

theorem raisePen_moves {i : Nat} {at_ : Nat} (h : Moves κ s0 s) (hc : caps [.sup] ||| κ = κ := by decide) :
    Moves κ s0 (raisePen i at_ s) :=
  h.of hc (.ite (.refl _) (onPen_moves (onSup_moves (.refl _))))

theorem execRailPowerGood_gives {rail : Fin 4} {mv : Int} {s : State} :
    Gives (caps [.sup]) s (execRailPowerGood rail mv s) :=
  answer_gives (.ite (.refl _) (.ite (raisePen_moves (onSup_moves (.refl _))) (onSup_moves (.refl _))))

theorem failStart_moves (h : Moves κ s0 s) (hc : caps [.objs, .free, .places, .semas, .waits, .flights, .bursts,
    .ingress, .egress, .fns, .hostRest, .lat, .seq, .image, .recd, .salt, .axes, .setpts, .chans, .dies, .sup, .pow,
    .clk, .rst, .diag, .net, .gp] ||| κ = κ := by decide) : Moves κ s0 (failStart s) := by
  refine h.of hc ?_
  unfold failStart
  dsimp only
  exact onPow_moves (onRst_moves (put_moves (dropPens_moves (.ite (loseLogic_moves (.refl _)) (.refl _)))))

theorem execRailStartTimeout_gives {s : State} :
    Gives (caps [.objs, .free, .places, .semas, .waits, .flights, .bursts, .ingress, .egress, .fns, .hostRest, .lat,
    .seq, .image, .recd, .salt, .axes, .setpts, .chans, .dies, .sup, .pow, .clk, .rst, .diag, .net, .gp]) s
    (execRailStartTimeout s) :=
  answer_gives (.ite (failStart_moves (.refl _)) (.refl _))

theorem execFailedStartRetry_gives {s : State} : Gives (caps [.objs, .lat, .pow, .rst]) s (execFailedStartRetry s) :=
  answer_gives (.ite (enterP0_moves (latchCause_moves (.refl _))) (.refl _))

theorem setPower_moves {v : Nat} (h : Moves κ s0 s) (hc : caps [.objs, .pow] ||| κ = κ := by decide) :
    Moves κ s0 (setPower v s) :=
  h.of hc (onPow_moves (put_moves (.refl _)))

theorem execTrimEntry_gives {s : State} : Gives (caps [.objs, .pow]) s (execTrimEntry s) :=
  answerLive_gives fun _ => .ite (setPower_moves (.refl _)) (.refl _)

theorem execTrimExit_gives {s : State} : Gives (caps [.objs, .pow]) s (execTrimExit s) :=
  answerLive_gives fun _ => .ite (setPower_moves (.refl _)) (.refl _)

theorem pruneService_moves (h : Moves κ s0 s) (hc : caps [.pow] ||| κ = κ := by decide) :
    Moves κ s0 (pruneService s) :=
  h.of hc (onPow_moves (.refl _))

theorem quietOutputs_moves (h : Moves κ s0 s) (hc : caps [.objs, .lat, .chans, .pow, .net, .loop] ||| κ = κ := by
    decide) : Moves κ s0 (quietOutputs s) :=
  h.of hc (each_moves (fun _ _ => applyCell_moves (onChan_moves (.refl _))) (physOff_moves (dropBypass_moves
    (latticeMoves_moves (fun _ => publish_moves (evalLoop_moves (.refl _))) (.refl _)))))

theorem endAllSessions_moves (h : Moves κ s0 s) (hc : caps [.objs, .places, .semas, .waits, .flights, .bursts,
    .ingress, .hostRest, .chans, .pow] ||| κ = κ := by decide) : Moves κ s0 (endAllSessions s) :=
  h.of hc (each_moves (fun _ _ => .ite (holdoffEnd_moves (.refl _)) (.refl _)) (each_moves (fun _ _ =>
    dropClosed_moves (dropChallenge_moves (endSession_moves (.refl _)))) (.refl _)))

theorem enterSleep_moves (h : Moves κ s0 s) (hc : caps [.objs, .places, .semas, .waits, .flights, .bursts, .ingress,
    .hostRest, .lat, .chans, .dies, .sup, .pow, .clk, .net, .loop] ||| κ = κ := by decide) :
    Moves κ s0 (enterSleep s) := by
  refine h.of hc ?_
  have hdies (t : State) (ds : List Die) : Moves (caps [.objs, .places, .semas, .waits, .flights, .bursts, .ingress,
    .hostRest, .lat, .chans, .dies, .sup, .pow, .clk, .net, .loop]) t { t with dies := ds } := update_moves (.refl t)
  unfold enterSleep
  refine onPow_moves (onClk_moves (onSup_moves (.trans ?_ (hdies _ _))))
  exact onPen_moves (saveSettings_moves (saveOffset_moves (quietOutputs_moves (setPower_moves (put_moves
    (endAllSessions_moves (.refl _)))))))

theorem applyPlan_moves (h : Moves κ s0 s) (hc : caps [.objs, .free, .places, .semas, .waits, .flights, .bursts,
    .ingress, .egress, .fns, .hostRest, .lat, .seq, .image, .recd, .salt, .axes, .setpts, .chans, .dies, .sup, .pow,
    .clk, .rst, .diag, .net, .gp] ||| κ = κ := by decide) : Moves κ s0 (applyPlan s) := by
  refine h.of hc ?_
  unfold applyPlan
  dsimp only
  split
  · exact .ite (put_moves (.refl _)) (setPower_moves (put_moves (put_moves (.refl _))))
  · exact .ite (put_moves (.refl _)) (addFlush_moves (onPow_moves (put_moves (.refl _))))
  · exact offRequest_moves (put_moves (.refl _))
  · exact dozeExit_moves (put_moves (.refl _))

theorem execPlannerEvaluation_gives {s : State} :
    Gives (caps [.objs, .free, .places, .semas, .waits, .flights, .bursts, .ingress, .egress, .fns, .hostRest, .lat,
    .seq, .image, .recd, .salt, .axes, .setpts, .chans, .dies, .sup, .pow, .clk, .rst, .diag, .net, .gp, .loop]) s
    (execPlannerEvaluation s) :=
  answerLive_gives fun _ => .ite (.refl _) (.ite (.ite (enterSleep_moves (onPow_moves (pruneService_moves (.refl
    _)))) (onPow_moves (pruneService_moves (.refl _)))) (applyPlan_moves (onPow_moves (pruneService_moves (.refl
    _)))))

theorem resumeCalendar_moves {limit : Nat} (h : Moves κ s0 s) (hc : caps [.objs, .clk] ||| κ = κ := by decide) :
    Moves κ s0 (resumeCalendar limit s) := by
  refine h.of hc ?_
  unfold resumeCalendar
  split
  · exact put_moves (.refl _)
  · exact .ite (put_moves (setCal_moves (.refl _))) (onClk_moves (put_moves (.refl _)))

theorem countSeconds_moves {n : Nat} (h : Moves κ s0 s) (hc : caps [.objs, .clk] ||| κ = κ := by decide) :
    Moves κ s0 (countSeconds n s) :=
  h.of hc (onClk_moves (put_moves (.refl _)))

theorem resumeClocks_moves (h : Moves κ s0 s) (hc : caps [.objs, .clk] ||| κ = κ := by decide) :
    Moves κ s0 (resumeClocks s) :=
  h.of hc (resumeCalendar_moves (countSeconds_moves (onClk_moves (.refl _))))

theorem startFilters_moves (h : Moves κ s0 s) (hc : caps [.lat] ||| κ = κ := by decide) :
    Moves κ s0 (startFilters s) :=
  h.of hc (onLat_moves (.refl _))

theorem promoteImage_moves (h : Moves κ s0 s)
    (hc : caps [.objs, .flights, .image, .recd, .axes] ||| κ = κ := by decide) : Moves κ s0 (promoteImage s) := by
  refine h.of hc ?_
  unfold promoteImage
  split
  · exact .refl _
  · have hb : Moves (caps [.objs, .flights, .image, .recd, .axes]) s
        (bumpGen Obj.configImage ((s.onRec fun q => { q with pendingImage := none }).put Obj.pendingState 0)) :=
      bumpGen_moves (put_moves (onRec_moves (.refl _)))
    dsimp only
    exact .ite (bumpGen_moves (addJob_moves (onRec_image_moves hb)))
      (addJob_moves (latticeFault_moves (put_moves hb)))

theorem pinNotice_moves {num : Nat} {level : Bool} {port : Nat} {pins : List Nat} (h : Moves κ s0 s)
    (hc : caps [.objs] ||| κ = κ := by decide) : Moves κ s0 (pinNotice num level port pins s) :=
  h.of hc (raiseIn_moves (.refl _))

theorem reportLine_moves {n : Nat} {pin : Nat} {v : Bool} (h : Moves κ s0 s) (hc : caps [.objs, .gp] ||| κ = κ := by
    decide) : Moves κ s0 (reportLine n pin v s) :=
  h.of hc (onLine_moves (pinNotice_moves (.refl _)))

theorem resumePins_moves (h : Moves κ s0 s) (hc : caps [.objs, .axes, .gp] ||| κ = κ := by decide) :
    Moves κ s0 (resumePins s) := by
  refine h.of hc ?_
  unfold resumePins
  dsimp only
  refine each_moves (fun _ _ => ?_) (settlePins_moves (onGp_moves (.refl _)))
  split
  · exact .refl _
  · exact .ite (.refl _) (reportLine_moves (.refl _))

theorem execSleepExit_gives {s : State} :
    Gives (caps [.objs, .flights, .lat, .image, .recd, .axes, .chans, .sup, .pow, .clk, .rst, .net, .gp, .loop]) s
    (execSleepExit s) := by
  have hch (t : State) (cs : List Chan) : Moves (caps [.objs, .flights, .lat, .image, .recd, .axes, .chans, .sup,
    .pow, .clk, .rst, .net, .gp, .loop]) t { t with chans := cs } := update_moves (.refl t)
  exact answer_gives (.ite (.refl _) (resumePins_moves (onBypass_moves (publish_moves (startFilters_moves
    (promoteImage_moves (.optNot (onLat_moves (.trans (onRst_moves (put_moves (setPower_moves (raisePen_moves
      (resumeClocks_moves (onPow_moves (.refl _))))))) (hch _ _))) (put_moves (.refl _)))))))))

theorem pinWake_moves {n : Nat} (h : Moves κ s0 s) (hc : caps [.objs, .flights, .fns, .lat, .seq, .recd, .axes,
    .chans, .sup, .pow, .rst, .net, .gp] ||| κ = κ := by decide) : Moves κ s0 (pinWake n s) :=
  h.of hc (.ite (.ite (onRequest_moves (.refl _)) (.refl _)) (.ite (.ite (wake_moves (.refl _)) (.refl _)) (.ite
    (wake_moves (.refl _)) (.refl _))))

theorem execWakePin_gives {n : Fin 16} {level : Bool} {heldUs : Nat} {s : State} :
    Gives (caps [.objs, .flights, .fns, .lat, .seq, .recd, .axes, .chans, .wakes, .sup, .pow, .rst, .net, .gp]) s
    (execWakePin n level heldUs s) := by
  have hw : Moves (caps [.objs, .flights, .fns, .lat, .seq, .recd, .axes, .chans, .wakes, .sup, .pow, .rst, .net,
    .gp]) s (if n.val < 8 then { s with wakes := s.wakes.set n level }
      else if (s.onGp fun g => { g with outside := g.outside.set (n - 8) level }).live
        then settlePins (s.onGp fun g => { g with outside := g.outside.set (n - 8) level })
        else s.onGp fun g => { g with outside := g.outside.set (n - 8) level }) :=
    .ite (update_moves (.refl s)) (.ite (settlePins_moves (onGp_moves (.refl _))) (onGp_moves (.refl _)))
  exact answer_gives (.ite hw (.ite (pinWake_moves (put_moves hw)) (put_moves hw)))

theorem execPlannedWake_gives {s : State} : Gives (caps [.objs, .lat, .pow, .rst]) s (execPlannedWake s) :=
  answer_gives (.ite (wake_moves (onPow_moves (.refl _))) (.refl _))

theorem execHostLinkWake_gives {s : State} : Gives (caps [.objs, .lat, .pow, .rst]) s (execHostLinkWake s) :=
  answer_gives (.ite (wake_moves (.refl _)) (.refl _))

theorem execDeepGrantWrite_gives {l : Fin 32} {s : State} :
    Gives (caps [.objs, .free, .places, .semas, .waits, .flights, .bursts, .ingress, .egress, .fns, .hostRest, .lat,
    .seq, .image, .recd, .salt, .axes, .setpts, .chans, .dies, .sup, .pow, .clk, .rst, .diag, .net, .gp]) s
    (execDeepGrantWrite l s) :=
  answerLive_gives fun _ => runLane_moves (.refl _)

theorem execNextServiceWrite_gives {l : Fin 32} {s : State} :
    Gives (caps [.objs, .free, .places, .semas, .waits, .flights, .bursts, .ingress, .egress, .fns, .hostRest, .lat,
    .seq, .image, .recd, .salt, .axes, .setpts, .chans, .dies, .sup, .pow, .clk, .rst, .diag, .net, .gp]) s
    (execNextServiceWrite l s) :=
  answerLive_gives fun _ => runLane_moves (.refl _)

theorem execWakeAtReached_gives {s : State} : Gives (caps [.objs]) s (execWakeAtReached s) :=
  answerLive_gives fun _ => checkWakeAt_moves (.refl _)

theorem execPhaseP0_gives {s : State} : Gives (caps [.objs, .lat, .pow, .rst]) s (execPhaseP0 s) :=
  answer_gives (tryStart_moves (.refl _))

theorem raiseFirst_moves (h : Moves κ s0 s) (hc : caps [.sup] ||| κ = κ := by decide) :
    Moves κ s0 (raiseFirst s) := by
  refine h.of hc ?_
  unfold raiseFirst
  split
  · exact .refl _
  · exact .ite (raisePen_moves (.refl _)) (.refl _)

theorem enterPhase_moves {v : Nat} (h : Moves κ s0 s) (hc : caps [.objs, .pow] ||| κ = κ := by decide) :
    Moves κ s0 (enterPhase v s) :=
  h.of hc (stateNotice_moves (onPow_moves (put_moves (.refl _))))

theorem execPhaseP1_gives {s : State} : Gives (caps [.objs, .sup, .pow]) s (execPhaseP1 s) :=
  answer_gives (.ite (raiseFirst_moves (enterPhase_moves (.refl _))) (.refl _))

theorem clockFault_moves {code : Nat} {b : Nat} (h : Moves κ s0 s) (hc : caps [.objs] ||| κ = κ := by decide) :
    Moves κ s0 (clockFault code b s) := by
  refine h.of hc ?_
  unfold clockFault
  dsimp only
  exact stateNotice_moves (put_moves (put_moves (put_moves (.refl _))))

theorem releaseLogic_moves (h : Moves κ s0 s) (hc : caps [.objs, .axes, .pow, .clk, .rst] ||| κ = κ := by decide) :
    Moves κ s0 (releaseLogic s) :=
  h.of hc (.optNot (each_moves (fun _ _ => unreference_moves (.refl _)) (setCal_moves (onRst_moves (onClk_moves
    (onPow_moves
    (put_moves (put_moves (put_moves (put_moves (filterObjs_moves (.refl _))))))))))) (clockFault_moves (.refl _)))

theorem execPhaseP2_gives {s : State} : Gives (caps [.objs, .axes, .pow, .clk, .rst]) s (execPhaseP2 s) :=
  answer_gives (.ite (releaseLogic_moves (.refl _)) (.refl _))

theorem loadStored_moves {por : Bool} (h : Moves κ s0 s) (hc : caps [.objs] ||| κ = κ := by decide) :
    Moves κ s0 (loadStored por s) :=
  h.of hc (each_moves (fun _ _ => seedState_moves (.refl _)) (each_moves (fun _ _ => put_moves (.refl _)) (.refl
    _)))

theorem openRecorder_moves {por : Bool} {cause : Nat} (h : Moves κ s0 s)
    (hc : caps [.objs, .image, .recd, .salt] ||| κ = κ := by decide) : Moves κ s0 (openRecorder por cause s) := by
  refine h.of hc ?_
  unfold openRecorder
  dsimp only
  refine admitRec_moves (put_moves ?_)
  have hcut (v : State) (b : Bool) : Moves (caps [.objs, .image, .recd, .salt]) v (if b then (v.inc
    Obj.interruptedFlushCount).onSalt fun p =>
      { p with journal := p.journal.filter (·.committed) } else v) := .ite (onSalt_moves (put_moves (.refl _))) (.refl
        _)
  exact .ite (loadStored_moves (onRec_image_moves (put_moves (onSalt_moves (put_moves (put_moves
      (.trans (onSalt_moves (.refl _)) (hcut _ _))))))))
    (onRec_image_moves (put_moves (onSalt_moves (put_moves (put_moves (.trans (onSalt_moves (.refl _)) (hcut _ _)))))))

theorem execPhaseP3_gives {s : State} :
    Gives (caps [.objs, .image, .recd, .salt, .pow, .clk, .net]) s (execPhaseP3 s) :=
  answerLive_gives fun _ => .ite (.refl _) (.ite (put_moves (onNet_moves (onPow_moves (openRecorder_moves
    (resumeCalendar_moves (holdRtc_moves (enterPhase_moves (.refl _)))))))) (onNet_moves (onPow_moves
    (openRecorder_moves (resumeCalendar_moves (holdRtc_moves (enterPhase_moves (.refl _))))))))

theorem restoreGangs_moves (h : Moves κ s0 s) (hc : caps [.chans] ||| κ = κ := by decide) :
    Moves κ s0 (restoreGangs s) :=
  h.of hc (update_moves (.refl s))

theorem configureStart_moves (h : Moves κ s0 s) (hc : caps [.objs, .flights, .lat, .image, .recd, .axes, .chans,
    .dies, .pow, .net, .loop] ||| κ = κ := by decide) : Moves κ s0 (configureStart s) :=
  h.of hc (startFilters_moves (promoteImage_moves (each_moves (fun _ _ => .ite (.ite (porReload_moves (.refl _))
    (.refl _)) (reloadDie_moves (.refl _))) (restoreGangs_moves (.refl _)))))

theorem selfTests_moves {fails : Nat} {chans : List Nat} {clocks : Nat} {us_ : Nat} (h : Moves κ s0 s)
    (hc : caps [.objs, .lat, .recd, .chans, .pow, .net, .loop] ||| κ = κ := by decide) :
    Moves κ s0 (selfTests fails chans clocks us_ s) :=
  h.of hc (.ite (each_moves (fun _ _ => put_moves (.refl _)) (.ite (enterHeld_moves (.ite (each_moves (fun _ _ =>
    diagRise_moves (.refl _)) (.ite (put_moves (put_moves (.refl _))) (memoryFault_moves (put_moves (put_moves
    (.refl _)))))) (.ite (put_moves (put_moves (.refl _))) (memoryFault_moves (put_moves (put_moves (.refl _)))))))
    (.ite (each_moves (fun _ _ => diagRise_moves (.refl _)) (.ite (put_moves (put_moves (.refl _)))
    (memoryFault_moves (put_moves (put_moves (.refl _)))))) (.ite (put_moves (put_moves (.refl _)))
    (memoryFault_moves (put_moves (put_moves (.refl _)))))))) (.ite (enterHeld_moves (.ite (each_moves (fun _ _ =>
    diagRise_moves (.refl _)) (.ite (put_moves (put_moves (.refl _))) (memoryFault_moves (put_moves (put_moves
    (.refl _)))))) (.ite (put_moves (put_moves (.refl _))) (memoryFault_moves (put_moves (put_moves (.refl _)))))))
    (.ite (each_moves (fun _ _ => diagRise_moves (.refl _)) (.ite (put_moves (put_moves (.refl _)))
    (memoryFault_moves (put_moves (put_moves (.refl _)))))) (.ite (put_moves (put_moves (.refl _)))
    (memoryFault_moves (put_moves (put_moves (.refl _))))))))

theorem startFns_moves (h : Moves κ s0 s)
    (hc : caps [.objs, .flights, .seq, .recd, .axes, .chans, .sup, .pow, .net, .gp] ||| κ = κ := by decide) :
    Moves κ s0 (startFns s) :=
  h.of hc (each_moves (fun _ _ => .ite (enableFn_moves (.refl _)) (faultRecord_moves (.refl _))) (.refl _))

theorem idleOrphans_moves (h : Moves κ s0 s) (hc : caps [.objs, .axes, .chans, .gp] ||| κ = κ := by decide) :
    Moves κ s0 (idleOrphans s) :=
  h.of hc (each_moves (fun _ _ => orphanPins_moves (orphanOutputs_moves (.refl _))) (.refl _))

theorem finishStart_moves {fails : Nat} {axes chans : List Nat} {clocks us_ : Nat} (h : Moves κ s0 s) (hc : caps
    [.objs, .flights, .lat, .seq, .recd, .axes, .chans, .sup, .pow, .net, .gp, .loop] ||| κ = κ := by decide) :
    Moves κ s0 (finishStart fails axes chans clocks us_ s) := by
  refine h.of hc (.bind (f := fun v => (v.onLat fun l => { l with initAt := some v.now }).onPow fun p =>
    { p with tested := true }) (toBypassed_moves (settlePins_moves (idleOrphans_moves ?_)))
    fun v => onPow_moves (onLat_moves (.refl v)))
  exact .opt (.opt (each_moves (fun _ _ => datumAtStart_moves (.refl _)) (selfTests_moves (.refl _)))
    (startFns_moves (.refl _))) (each_moves (fun _ _ => raiseFault_moves (.refl _)) (.refl _))

theorem execPhaseP4_gives {fails : Nat} {axes : List (Fin 24)} {chans : List (Fin 256)} {clocks : Nat} {us : Nat}
    {s : State} :
    Gives (caps [.objs, .flights, .lat, .seq, .image, .recd, .axes, .chans, .dies, .sup, .pow, .net, .gp, .loop]) s
    (execPhaseP4 fails axes chans clocks us s) :=
  answerLive_gives fun _ => .ite (.ite (onPow_moves (enterPhase_moves (.refl _))) (configureStart_moves
    (enterPhase_moves (.refl _)))) (.ite (.ite (onPow_moves (.refl _)) (.ite (finishStart_moves (.refl _)) (.refl
    _))) (.refl _))

theorem settleNode_moves (h : Moves κ s0 s) (hc : caps [.objs] ||| κ = κ := by decide) : Moves κ s0 (settleNode s) :=
  h.of hc (.ite (.refl _) (stateNotice_moves (put_moves (.refl _))))

theorem execPhaseP5_gives {s : State} : Gives (caps [.objs, .pow, .rst]) s (execPhaseP5 s) :=
  answerLive_gives fun _ => .ite (settleNode_moves (onPow_moves (put_moves (onRst_moves (put_moves (put_moves
    (enterPhase_moves (.refl _)))))))) (.refl _)

theorem execPhaseD0_gives {s : State} : Gives (caps [.objs, .pow, .net]) s (execPhaseD0 s) :=
  answerLive_gives fun _ => .ite (settleNode_moves (enterPhase_moves (setPower_moves (onPow_moves (dozeExit_moves
    (.refl _)))))) (.refl _)

theorem drainAll_moves (h : Moves κ s0 s) (hc : caps [.objs, .fns] ||| κ = κ := by decide) :
    Moves κ s0 (drainAll s) :=
  h.of hc (each_moves (fun _ _ => startDrain_moves (.refl _)) (.refl _))

theorem execPhaseD1_gives {s : State} : Gives (caps [.objs, .fns, .seq, .chans, .pow]) s (execPhaseD1 s) := by
  have hseq (t : State) (q : Sequencers) : Moves (caps [.objs, .fns, .seq, .chans, .pow]) t { t with seq := q } :=
    update_moves (.refl t)
  refine answerLive_gives fun t => .ite (each_moves (fun _ _ => setUnlock_moves (.refl _)) ?_) (.refl _)
  exact .trans (drainAll_moves (onPow_moves (enterPhase_moves (.refl _)))) (hseq _ _)

theorem execPhaseD2_gives {s : State} : Gives (caps [.objs, .recd, .pow]) s (execPhaseD2 s) :=
  answerLive_gives fun _ => .ite (addFlush_moves (enterPhase_moves (.refl _))) (.refl _)

theorem execPhaseD3_gives {s : State} :
    Gives
    (caps [.objs, .places, .semas, .waits, .flights, .bursts, .ingress, .hostRest, .lat, .chans, .pow, .net, .loop]) s
    (execPhaseD3 s) :=
  answerLive_gives fun _ => .ite (quietOutputs_moves (endAllSessions_moves (enterPhase_moves (.refl _)))) (.refl _)

theorem execPhaseD4_gives {s : State} :
    Gives (caps [.objs, .free, .places, .semas, .waits, .flights, .bursts, .ingress, .egress, .fns, .hostRest, .lat,
    .seq, .image, .recd, .salt, .axes, .setpts, .chans, .dies, .sup, .pow, .clk, .rst, .diag, .net, .gp]) s
    (execPhaseD4 s) :=
  answerLive_gives fun _ => .ite (.ite (latchCause_moves (onPow_moves (put_moves (put_moves (dropPens_moves
    (loseLogic_moves (.ite (put_moves (saveOffset_moves (enterPhase_moves (.refl _)))) (saveOffset_moves
    (enterPhase_moves (.refl _)))))))))) (onPow_moves (put_moves (put_moves (dropPens_moves (loseLogic_moves (.ite
    (put_moves (saveOffset_moves (enterPhase_moves (.refl _)))) (saveOffset_moves (enterPhase_moves (.refl
    _)))))))))) (.refl _)

theorem execRestartHoldoffExpiry_gives {s : State} :
    Gives (caps [.objs, .lat, .pow, .rst]) s (execRestartHoldoffExpiry s) :=
  answer_gives (.ite (wake_moves (.refl _)) (tryStart_moves (.refl _)))

theorem execPllUnlock_gives {heldUs : Nat} {s : State} :
    Gives (caps [.objs, .free, .places, .semas, .waits, .flights, .bursts, .ingress, .egress, .fns, .hostRest, .lat,
    .seq, .image, .recd, .salt, .axes, .setpts, .chans, .dies, .sup, .pow, .clk, .rst, .diag, .net, .gp]) s
    (execPllUnlock heldUs s) :=
  answerLive_gives fun _ => .ite (assertReset_moves (clockFault_moves (.refl _))) (.refl _)

theorem execXtalFreq_gives {count : Nat} {s : State} :
    Gives (caps [.objs, .free, .places, .semas, .waits, .flights, .bursts, .ingress, .egress, .fns, .hostRest, .lat,
    .seq, .image, .recd, .salt, .axes, .setpts, .chans, .dies, .sup, .pow, .clk, .rst, .diag, .net, .gp]) s
    (execXtalFreq count s) :=
  answerLive_gives fun _ => .ite (.refl _) (.ite (onClk_moves (.refl _)) (.ite (onClk_moves (.refl _))
    (assertReset_moves (clockFault_moves (.refl _)))))

theorem execClockDivFault_gives {which : Fin 3} {count : Nat} {s : State} :
    Gives (caps [.objs, .free, .places, .semas, .waits, .flights, .bursts, .ingress, .egress, .fns, .hostRest, .lat,
    .seq, .image, .recd, .salt, .axes, .setpts, .chans, .dies, .sup, .pow, .clk, .rst, .diag, .net, .gp]) s
    (execClockDivFault which count s) :=
  answerLive_gives fun _ => .ite (assertReset_moves (clockFault_moves (.refl _))) (.refl _)

theorem execNclkDiv_gives {count : Nat} {s : State} : Gives (caps [.objs, .clk, .net]) s (execNclkDiv count s) :=
  answerLive_gives fun _ => .ite (physHeld_moves (clockFault_moves (onClk_moves (.refl _)))) (.refl _)

theorem execNclkRecover_gives {heldUs : Nat} {s : State} : Gives (caps [.objs, .clk]) s (execNclkRecover heldUs s) :=
  answerLive_gives fun _ => .ite (put_moves (onClk_moves (.refl _))) (.refl _)

theorem execRtcStop_gives {heldUs : Nat} {s : State} : Gives (caps [.objs, .clk]) s (execRtcStop heldUs s) :=
  answer_gives (.ite (.ite (clockFault_moves (onClk_moves (onClk_moves (holdRtc_moves (.refl _))))) (onClk_moves
    (holdRtc_moves (.refl _)))) (.refl _))

theorem execCalSet_gives {l : Fin 32} {s : State} :
    Gives (caps [.objs, .free, .places, .semas, .waits, .flights, .bursts, .ingress, .egress, .fns, .hostRest, .lat,
    .seq, .image, .recd, .salt, .axes, .setpts, .chans, .dies, .sup, .pow, .clk, .rst, .diag, .net, .gp]) s
    (execCalSet l s) :=
  answerLive_gives fun _ => runLane_moves (.refl _)

theorem execRtcAutoTrim_gives {err : Int} {s : State} : Gives (caps [.objs, .clk]) s (execRtcAutoTrim err s) :=
  answerLive_gives fun _ => .ite (onClk_moves (setTrim_moves (.refl _))) (.refl _)

theorem execCalOffsetSave_gives {s : State} : Gives (caps [.clk]) s (execCalOffsetSave s) :=
  answerLive_gives fun _ => .ite (saveOffset_moves (.refl _)) (.refl _)

theorem execHoldoverExpiry_gives {s : State} : Gives (caps [.objs, .clk]) s (execHoldoverExpiry s) :=
  answerLive_gives fun _ => .ite (saveOffset_moves (put_moves (setRate_moves (.refl _)))) (.refl _)

theorem execOperatingSecond_gives {s : State} : Gives (caps [.objs, .clk]) s (execOperatingSecond s) :=
  answerLive_gives fun _ => .ite (countSeconds_moves (.refl _)) (.refl _)

theorem execXresetAssert_gives {heldUs : Nat} {s : State} :
    Gives (caps [.objs, .free, .places, .semas, .waits, .flights, .bursts, .ingress, .egress, .fns, .hostRest, .lat,
    .seq, .image, .recd, .salt, .axes, .setpts, .chans, .dies, .sup, .pow, .clk, .rst, .diag, .net, .gp]) s
    (execXresetAssert heldUs s) :=
  answer_gives (.ite (.refl _) (.ite (onPow_moves (latchCause_moves (onRst_moves (.refl _)))) (assertReset_moves
    (onRst_moves (.refl _)))))

theorem execXresetRelease_gives {s : State} : Gives (caps [.objs, .lat, .pow, .rst]) s (execXresetRelease s) :=
  answer_gives (tryStart_moves (onRst_moves (.refl _)))

theorem execWatchdogExpiry_gives {s : State} :
    Gives (caps [.objs, .free, .places, .semas, .waits, .flights, .bursts, .ingress, .egress, .fns, .hostRest, .lat,
    .seq, .image, .recd, .salt, .axes, .setpts, .chans, .dies, .sup, .pow, .clk, .rst, .diag, .net, .gp]) s
    (execWatchdogExpiry s) :=
  answerLive_gives fun _ => .ite (assertReset_moves (.refl _)) (.refl _)

theorem execDeviceReset_gives {l : Fin 32} {s : State} :
    Gives (caps [.objs, .free, .places, .semas, .waits, .flights, .bursts, .ingress, .egress, .fns, .hostRest, .lat,
    .seq, .image, .recd, .salt, .axes, .setpts, .chans, .dies, .sup, .pow, .clk, .rst, .diag, .net, .gp]) s
    (execDeviceReset l s) :=
  answerLive_gives fun _ => runLane_moves (.refl _)

theorem execDeviceResetAssert_gives {s : State} :
    Gives (caps [.objs, .free, .places, .semas, .waits, .flights, .bursts, .ingress, .egress, .fns, .hostRest, .lat,
    .seq, .image, .recd, .salt, .axes, .setpts, .chans, .dies, .sup, .pow, .clk, .rst, .diag, .net, .gp]) s
    (execDeviceResetAssert s) :=
  answerLive_gives fun _ => .ite (assertReset_moves (.refl _)) (.refl _)

theorem execOutputLevelWrite_gives {l : Fin 32} {s : State} :
    Gives (caps [.objs, .free, .places, .semas, .waits, .flights, .bursts, .ingress, .egress, .fns, .hostRest, .lat,
    .seq, .image, .recd, .salt, .axes, .setpts, .chans, .dies, .sup, .pow, .clk, .rst, .diag, .net, .gp]) s
    (execOutputLevelWrite l s) :=
  answerLive_gives fun _ => runLane_moves (.refl _)

theorem execSetBits_gives {l : Fin 32} {s : State} :
    Gives (caps [.objs, .free, .places, .semas, .waits, .flights, .bursts, .ingress, .egress, .fns, .hostRest, .lat,
    .seq, .image, .recd, .salt, .axes, .setpts, .chans, .dies, .sup, .pow, .clk, .rst, .diag, .net, .gp]) s
    (execSetBits l s) :=
  answerLive_gives fun _ => runLane_moves (.refl _)

theorem execClearBits_gives {l : Fin 32} {s : State} :
    Gives (caps [.objs, .free, .places, .semas, .waits, .flights, .bursts, .ingress, .egress, .fns, .hostRest, .lat,
    .seq, .image, .recd, .salt, .axes, .setpts, .chans, .dies, .sup, .pow, .clk, .rst, .diag, .net, .gp]) s
    (execClearBits l s) :=
  answerLive_gives fun _ => runLane_moves (.refl _)

theorem execPatternUnitWrite_gives {l : Fin 32} {s : State} :
    Gives (caps [.objs, .free, .places, .semas, .waits, .flights, .bursts, .ingress, .egress, .fns, .hostRest, .lat,
    .seq, .image, .recd, .salt, .axes, .setpts, .chans, .dies, .sup, .pow, .clk, .rst, .diag, .net, .gp]) s
    (execPatternUnitWrite l s) :=
  answerLive_gives fun _ => runLane_moves (.refl _)

theorem execPatternMatch_gives {u : Fin 4} {s : State} : Gives (caps [.objs]) s (execPatternMatch u s) :=
  answerLive_gives fun _ => .ite (pinNotice_moves (put_moves (put_moves (.refl _)))) (.refl _)

theorem execPatternMatchEnd_gives {u : Fin 4} {s : State} : Gives (caps [.objs]) s (execPatternMatchEnd u s) :=
  answerLive_gives fun _ => .ite (.ite (pinNotice_moves (put_moves (.refl _))) (put_moves (.refl _))) (.refl _)

theorem execLineEdge_gives {n : Fin 8} {s : State} : Gives (caps [.objs, .gp]) s (execLineEdge n s) := by
  unfold execLineEdge
  dsimp only
  refine answerLive_gives fun _ => ?_
  split
  · exact .refl _
  · exact .ite (.refl _) (.ite (onLine_moves (.refl _)) (.ite (onLine_moves (put_moves (put_moves (onLine_moves
      (.refl _))))) (reportLine_moves (put_moves (onLine_moves (.refl _))))))

theorem execMinIntervalEnd_gives {n : Fin 8} {s : State} : Gives (caps [.objs, .gp]) s (execMinIntervalEnd n s) := by
  unfold execMinIntervalEnd
  dsimp only
  refine answerLive_gives fun _ => ?_
  split
  · exact .refl _
  · exact .ite (.ite (onLine_moves (.refl _)) (reportLine_moves (onLine_moves (.refl _)))) (.refl _)

theorem execPpsPulse_gives {s : State} : Gives (caps [.objs, .axes, .gp]) s (execPpsPulse s) :=
  answerLive_gives fun _ => .ite (settlePins_moves (onGp_moves (.refl _))) (.refl _)

theorem execSramScrubRound_gives {romOk : Bool} {s : State} :
    Gives (caps [.objs, .recd]) s (execSramScrubRound romOk s) :=
  answerLive_gives fun _ => .ite (put_moves (.refl _)) (memoryFault_moves (put_moves (put_moves (.refl _))))

theorem mramBad_moves {a u : Nat} (h : Moves κ s0 s) (hc : caps [.objs, .recd, .salt, .diag] ||| κ = κ := by decide) :
    Moves κ s0 (mramBad a u s) := by
  have hdiag (t : State) (d : Diag) : Moves (caps [.objs, .recd, .salt, .diag]) t { t with diag := d } := update_moves
    (.refl t)
  exact h.of hc (memoryFault_moves (put_moves (put_moves (.trans (onSalt_moves (.refl _)) (hdiag _ _)))))

theorem execMramScrub_gives {err : Option (Nat × Nat × Bool)} {last : Bool} {s : State} :
    Gives (caps [.objs, .recd, .salt, .diag]) s (execMramScrub err last s) := by
  unfold execMramScrub
  dsimp only
  refine answerLive_gives fun _ => ?_
  refine .ite ?_ ?_
  · refine put_moves ?_
    split
    · exact .refl _
    · exact .ite (.refl _) (.ite (mramBad_moves (.refl _)) (put_moves (.refl _)))
  · split
    · exact .refl _
    · exact .ite (.refl _) (.ite (mramBad_moves (.refl _)) (put_moves (.refl _)))

theorem execDieTempSample_gives {t : Int} {s : State} :
    Gives (caps [.objs, .recd, .diag]) s (execDieTempSample t s) := by
  have hdiag (t : State) (d : Diag) : Moves (caps [.objs, .recd, .diag]) t { t with diag := d } := update_moves (.refl
    t)
  refine answerLive_gives fun v => ?_
  have hd (d : Diag) : Moves (caps [.objs, .recd, .diag]) v { v.puti Obj.dieTemp t with diag := d } := .trans
    (put_moves (.refl _)) (hdiag _ _)
  exact .ite (.ite (put_moves (hd _)) (hd _)) (.ite (supplyFault_moves (put_moves (hd _))) (hd _))

theorem execOverTempShutdown_gives {s : State} :
    Gives (caps [.objs, .free, .places, .semas, .waits, .flights, .bursts, .ingress, .egress, .fns, .hostRest, .lat,
    .seq, .image, .recd, .salt, .axes, .setpts, .chans, .dies, .sup, .pow, .clk, .rst, .diag, .net, .gp]) s
    (execOverTempShutdown s) :=
  answerLive_gives fun _ => .ite (offRequest_moves (.refl _)) (.refl _)

theorem execFieldInputChange_gives {c : Fin 256} {mv : Int} {lattMv : Int} {s : State} :
    Gives (caps [.chans]) s (execFieldInputChange c mv lattMv s) :=
  answer_gives (.ite (onChan_moves (.refl _)) (resample_moves (onChan_moves (.refl _))))

theorem execGpPinChange_gives {n : Fin 96} {level : Bool} {s : State} :
    Gives (caps [.objs, .axes, .gp]) s (execGpPinChange n level s) :=
  answer_gives (.ite (settlePins_moves (onGp_moves (.refl _))) (onGp_moves (.refl _)))

theorem execFlashToggle_gives {c : Fin 256} {s : State} : Gives (caps [.objs, .chans]) s (execFlashToggle c s) :=
  answerLive_gives fun _ => withDemand_moves (fun _ => onChan_moves (.refl _)) (.refl _)

theorem execRtcEdgesReturn_gives {s : State} : Gives (caps [.objs, .clk]) s (execRtcEdgesReturn s) :=
  answer_gives (.ite (.refl _) (.ite (put_moves (onClk_moves (.refl _))) (onClk_moves (.refl _))))

theorem execPpsPulseEnd_gives {s : State} : Gives (caps [.objs, .axes, .gp]) s (execPpsPulseEnd s) :=
  answerLive_gives fun _ => .ite (settlePins_moves (onGp_moves (.refl _))) (.refl _)

theorem settleNotes_moves (h : Moves κ s0 s) (hc : caps [.fns] ||| κ = κ := by decide) : Moves κ s0 (settleNotes s) :=
  h.of hc (each_moves (fun _ _ => onFn_moves (.refl _)) (.refl _))

theorem takeNote_moves {n : Notice} (h : Moves κ s0 s) (hc : caps [.fns] ||| κ = κ := by decide) :
    Moves κ s0 (takeNote n s) :=
  h.of hc (settleNotes_moves (.ite (onHost_moves (.refl _)) (onFn_moves (onHost_moves (.refl _)))))

theorem gatherNotes_moves {first : Notice} {fuel : Nat} {got : List Notice} (h : Moves κ s0 s)
    (hc : caps [.fns] ||| κ = κ := by decide) : Moves κ s0 (gatherNotes first fuel got s).2 := by
  refine h.of hc ?_
  clear h
  induction fuel generalizing got s with
  | zero => exact .refl _
  | succ fuel ih =>
    unfold gatherNotes
    split
    · exact .refl _
    · split
      · exact .trans (takeNote_moves (.refl _)) ih
      · exact .refl _

theorem execNoticeFrameSend_gives {s : State} :
    Gives
    (caps [.objs, .places, .semas, .waits, .flights, .bursts, .ingress, .egress, .fns, .hostRest, .chans, .pow, .net])
    s (execNoticeFrameSend s) := by
  refine answerServed_gives fun t => ?_
  have hn : Moves (caps [.objs, .places, .semas, .waits, .flights, .bursts, .ingress, .egress, .fns, .hostRest,
    .chans, .pow, .net]) t (settleNotes t) := settleNotes_moves (.refl _)
  dsimp only
  split
  · exact hn
  · exact .ite hn (sendNotes_moves (gatherNotes_moves hn))

theorem execEgressFrameEnd_gives {p : Fin 2} {s : State} : Gives (caps [.objs, .net]) s (execEgressFrameEnd p s) := by
  unfold execEgressFrameEnd
  dsimp only
  refine answerLive_gives fun _ => ?_
  split
  · exact .refl _
  · exact serve_moves (moveFill_moves (.ite (onPort_moves (.ite (countPort_moves (countPort_moves (countPort_moves
      (onPort_moves (.refl _))))) (countPort_moves (countPort_moves (onPort_moves (.refl _)))))) (.ite
      (countPort_moves (countPort_moves (countPort_moves (onPort_moves (.refl _))))) (countPort_moves
      (countPort_moves (onPort_moves (.refl _)))))))

theorem execPartnerLpi_gives {p : Fin 2} {on : Bool} {s : State} : Gives (caps [.objs]) s (execPartnerLpi p on s) :=
  answerLive_gives fun _ => .ite (put_moves (.refl _)) (.refl _)

theorem execIllegalBitExpiry_gives {a : Fin 24} {s : State} :
    Gives (caps [.objs, .axes]) s (execIllegalBitExpiry a s) :=
  answerLive_gives fun _ => .ite (setFb_moves (onAxis_moves (.refl _))) (.refl _)

/-- A row that may bring a coil on or open an unlock gate: it moves an input of the lattice or the lattice's state. -/
def loopRow : Instr → Bool
  | .latticeFrame .. => true
  | .latticeLinkTimeout .. => true
  | .latticeFilterExpiry .. => true
  | .channelDisagree .. => true
  | .discrepancyTimeout .. => true
  | .inputFaultClear .. => true
  | .readbackSample .. => true
  | .rbNoPull .. => true
  | .rbStuckPulled .. => true
  | .pulseFault .. => true
  | .coilDrive .. => true
  | .monitorWindow .. => true
  | .monitorCount .. => true
  | .latticeInitEnd .. => true
  | .functionalLinkTimeout .. => true
  | .dieUnderVoltage .. => true
  | .dieUvExit .. => true
  | .fieldPor .. => true
  | .fieldPorReload .. => true
  | .gndShiftEntry .. => true
  | .gndShiftExit .. => true
  | .plannerEvaluation .. => true
  | .sleepExit .. => true
  | .phaseP4 .. => true
  | .phaseD3 .. => true
  | _ => false

/-- Every part but the balls' levels and the loop. -/
def commonCaps : Nat := caps [.objs, .free, .places, .semas, .waits, .flights, .bursts, .ingress, .egress, .fns, .hostRest,
  .lat, .seq, .image, .recd, .salt, .axes, .setpts, .chans, .dies, .sup, .pow, .clk, .rst, .diag, .net, .gp]

/-- The parts that a row may move. -/
def rowCaps (c : Instr) : Nat :=
  match c with
  | .directPinChange .. => caps [.direct] ||| commonCaps
  | .wakePin .. => caps [.wakes] ||| commonCaps
  | c => if loopRow c then caps [.loop] ||| commonCaps else commonCaps

theorem Gives.common {F : Nat} {o : Host.Outcome State Fault Refusal} (h : Gives F s o)
    (hc : F ||| commonCaps = commonCaps := by decide) : Gives commonCaps s o := h.mono hc

theorem Gives.looped {F : Nat} {o : Host.Outcome State Fault Refusal} (h : Gives F s o)
    (hc : F ||| (caps [.loop] ||| commonCaps) = caps [.loop] ||| commonCaps := by decide) :
    Gives (caps [.loop] ||| commonCaps) s o := h.mono hc

/-- Every row is answered with a next state to which at most the parts of its mask have moved. -/
theorem exec_gives (c : Instr) (s : State) : Gives (rowCaps c) s (exec c s) := by
  cases c with
  | hello => exact execHello_gives.common
  | proof => exact execProof_gives.common
  | authLockoutExpiry => exact execAuthLockoutExpiry_gives.common
  | challengeTimeout => exact execChallengeTimeout_gives.common
  | hostFrameRx => exact execHostFrameRx_gives.common
  | frameAdmission => exact execFrameAdmission_gives.common
  | laneGrant => exact execLaneGrant_gives.common
  | keep => exact execKeep_gives.common
  | close => exact execClose_gives.common
  | read => exact execRead_gives.common
  | write => exact execWrite_gives.common
  | readMulti => exact execReadMulti_gives.common
  | writeMulti => exact execWriteMulti_gives.common
  | burstBegin => exact execBurstBegin_gives.common
  | burstSeg => exact execBurstSeg_gives.common
  | burstEnd => exact execBurstEnd_gives.common
  | burstAbort => exact execBurstAbort_gives.common
  | burstIdleExpiry => exact execBurstIdleExpiry_gives.common
  | semaTake => exact execSemaTake_gives.common
  | semaGive => exact execSemaGive_gives.common
  | semaWaitExpiry => exact execSemaWaitExpiry_gives.common
  | semaQuery => exact execSemaQuery_gives.common
  | subscribe => exact execSubscribe_gives.common
  | unsubscribe => exact execUnsubscribe_gives.common
  | store => exact execStore_gives.common
  | noticeAck => exact execNoticeAck_gives.common
  | noticeResend => exact execNoticeResend_gives.common
  | completionFrameSend => exact execCompletionFrameSend_gives.common
  | sessionTimeout => exact execSessionTimeout_gives.common
  | semaHoldoffExpiry => exact execSemaHoldoffExpiry_gives.common
  | slotReset => exact execSlotReset_gives.common
  | keyWrite => exact execKeyWrite_gives.common
  | maintainerWrite => exact execMaintainerWrite_gives.common
  | hostLinkReset => exact execHostLinkReset_gives.common
  | linkWriteExchange => exact execLinkWriteExchange_gives.common
  | linkReadExchange => exact execLinkReadExchange_gives.common
  | linkStatusExchange => exact execLinkStatusExchange_gives.common
  | sideCommand => exact execSideCommand_gives.common
  | axisCommand => exact execAxisCommand_gives.common
  | flushNow => exact execFlushNow_gives.common
  | powerCommandOff => exact execPowerCommandOff_gives.common
  | powerCommandStandby => exact execPowerCommandStandby_gives.common
  | powerCommandStay => exact execPowerCommandStay_gives.common
  | seqTick => exact execSeqTick_gives.common
  | cmdWaitExpiry => exact execCmdWaitExpiry_gives.common
  | cmdLifeExpiry => exact execCmdLifeExpiry_gives.common
  | seqTimerExpiry => exact execSeqTimerExpiry_gives.common
  | bindingWrite => exact execBindingWrite_gives.common
  | loadFactoryImage => exact execLoadFactoryImage_gives.common
  | latticeFrame => exact execLatticeFrame_gives.looped
  | latticeLinkTimeout => exact execLatticeLinkTimeout_gives.looped
  | latticeFilterExpiry => exact execLatticeFilterExpiry_gives.looped
  | channelDisagree => exact execChannelDisagree_gives.looped
  | discrepancyTimeout => exact execDiscrepancyTimeout_gives.looped
  | inputFaultClear => exact execInputFaultClear_gives.looped
  | readbackSample => exact execReadbackSample_gives.looped
  | rbNoPull => exact execRbNoPull_gives.looped
  | rbStuckPulled => exact execRbStuckPulled_gives.looped
  | testPulseStart => exact execTestPulseStart_gives.common
  | testPulseEnd => exact execTestPulseEnd_gives.common
  | pulseFault => exact execPulseFault_gives.looped
  | coilDrive coil => exact (execCoilDrive_gives (coil := coil)).looped
  | monitorWindow => exact execMonitorWindow_gives.looped
  | monitorCount => exact execMonitorCount_gives.looped
  | latticeInitEnd => exact execLatticeInitEnd_gives.looped
  | speedLoopUpdate => exact execSpeedLoopUpdate_gives.common
  | dirGuardEnd => exact execDirGuardEnd_gives.common
  | currentWindow => exact execCurrentWindow_gives.common
  | atTarget => exact execAtTarget_gives.common
  | overtime => exact execOvertime_gives.common
  | endStopDetect => exact execEndStopDetect_gives.common
  | armDelayExpiry => exact execArmDelayExpiry_gives.common
  | currentTrip => exact execCurrentTrip_gives.common
  | speedTrip => exact execSpeedTrip_gives.common
  | tripInput => exact execTripInput_gives.common
  | overcurrent => exact execOvercurrent_gives.common
  | senseFault => exact execSenseFault_gives.common
  | directionFault => exact execDirectionFault_gives.common
  | setpointUpdate => exact execSetpointUpdate_gives.common
  | captureSeed => exact execCaptureSeed_gives.common
  | resetToSeed => exact execResetToSeed_gives.common
  | seedWrite => exact execSeedWrite_gives.common
  | feedbackConfigWrite => exact execFeedbackConfigWrite_gives.common
  | encoderEdge => exact execEncoderEdge_gives.common
  | pairGlitch => exact execPairGlitch_gives.common
  | pairFault => exact execPairFault_gives.common
  | referenceMark => exact execReferenceMark_gives.common
  | toneTooth => exact execToneTooth_gives.common
  | ssiWordStart => exact execSsiWordStart_gives.common
  | ssiWordEnd => exact execSsiWordEnd_gives.common
  | speedCompute => exact execSpeedCompute_gives.common
  | latchArm => exact execLatchArm_gives.common
  | latchSourceWrite => exact execLatchSourceWrite_gives.common
  | comparePulseEnd => exact execComparePulseEnd_gives.common
  | compareArm => exact execCompareArm_gives.common
  | functionalFrame => exact execFunctionalFrame_gives.common
  | functionalLinkTimeout => exact execFunctionalLinkTimeout_gives.looped
  | inputFilterExpiry => exact execInputFilterExpiry_gives.common
  | inputFilterWrite => exact execInputFilterWrite_gives.common
  | inputVoltageWindow => exact execInputVoltageWindow_gives.common
  | marginal => exact execMarginal_gives.common
  | xcheckSet => exact execXcheckSet_gives.common
  | xcheckClear => exact execXcheckClear_gives.common
  | comparatorSelftest => exact execComparatorSelftest_gives.common
  | testWindowStart => exact execTestWindowStart_gives.common
  | testWindowEnd => exact execTestWindowEnd_gives.common
  | filterHoldEnd => exact execFilterHoldEnd_gives.common
  | inputOverload => exact execInputOverload_gives.common
  | overloadClear => exact execOverloadClear_gives.common
  | diagStickyWrite => exact execDiagStickyWrite_gives.common
  | channelModeWrite => exact execChannelModeWrite_gives.common
  | gangModeWrite => exact execGangModeWrite_gives.common
  | testSourceWrite => exact execTestSourceWrite_gives.common
  | outputFrame => exact execOutputFrame_gives.common
  | outputLinkTimeout => exact execOutputLinkTimeout_gives.common
  | outputDemandWrite => exact execOutputDemandWrite_gives.common
  | currentLatchOff => exact execCurrentLatchOff_gives.common
  | inrushWindowEnd => exact execInrushWindowEnd_gives.common
  | clampEventEnd => exact execClampEventEnd_gives.common
  | clampDecay => exact execClampDecay_gives.common
  | fwMissing => exact execFwMissing_gives.common
  | outputReset => exact execOutputReset_gives.common
  | cellOvertemp => exact execCellOvertemp_gives.common
  | thermalRetry => exact execThermalRetry_gives.common
  | openLoadOn => exact execOpenLoadOn_gives.common
  | offStateCheck => exact execOffStateCheck_gives.common
  | offCheckClear => exact execOffCheckClear_gives.common
  | pwmCompensation => exact execPwmCompensation_gives.common
  | directPinChange => exact execDirectPinChange_gives.mono (κ := caps [.direct] ||| commonCaps) (by decide)
  | dieUnderVoltage => exact execDieUnderVoltage_gives.looped
  | dieUvExit => exact execDieUvExit_gives.looped
  | fieldPor => exact execFieldPor_gives.looped
  | fieldPorReload => exact execFieldPorReload_gives.looped
  | surgeEntry => exact execSurgeEntry_gives.common
  | surgeExit => exact execSurgeExit_gives.common
  | gndShiftEntry => exact execGndShiftEntry_gives.looped
  | gndShiftExit => exact execGndShiftExit_gives.looped
  | reverseSupply => exact execReverseSupply_gives.common
  | porSeenClear => exact execPorSeenClear_gives.common
  | flushPeriodExpiry => exact execFlushPeriodExpiry_gives.common
  | flushStart => exact execFlushStart_gives.common
  | journalCommit => exact execJournalCommit_gives.common
  | windowRead => exact execWindowRead_gives.common
  | clearLog => exact execClearLog_gives.common
  | histogramSample => exact execHistogramSample_gives.common
  | extremeSample => exact execExtremeSample_gives.common
  | restoreDefaults => exact execRestoreDefaults_gives.common
  | portFrameRx => exact execPortFrameRx_gives.common
  | niFrameTx => exact execNiFrameTx_gives.common
  | learnAgeing => exact execLearnAgeing_gives.common
  | flushLearned => exact execFlushLearned_gives.common
  | blockedPortWrite => exact execBlockedPortWrite_gives.common
  | frameAgeDiscard => exact execFrameAgeDiscard_gives.common
  | linkUp => exact execLinkUp_gives.common
  | linkDown => exact execLinkDown_gives.common
  | arpRequest => exact execArpRequest_gives.common
  | icmpEcho => exact execIcmpEcho_gives.common
  | bypassSelftestStart => exact execBypassSelftestStart_gives.common
  | bypassSelftestEnd => exact execBypassSelftestEnd_gives.common
  | bypassNoPull => exact execBypassNoPull_gives.common
  | insertLinkTimeout => exact execInsertLinkTimeout_gives.common
  | bypassDropped => exact execBypassDropped_gives.common
  | insertGrant => exact execInsertGrant_gives.common
  | bypassModeWrite => exact execBypassModeWrite_gives.common
  | portReset => exact execPortReset_gives.common
  | lpiEntry => exact execLpiEntry_gives.common
  | lpiWake => exact execLpiWake_gives.common
  | announceRx => exact execAnnounceRx_gives.common
  | announceTimeout => exact execAnnounceTimeout_gives.common
  | syncRx => exact execSyncRx_gives.common
  | delayReqTx => exact execDelayReqTx_gives.common
  | delayRespRx => exact execDelayRespRx_gives.common
  | tcEventForward => exact execTcEventForward_gives.common
  | tcCorrection => exact execTcCorrection_gives.common
  | tcEntryExpiry => exact execTcEntryExpiry_gives.common
  | functionEnable => exact execFunctionEnable_gives.common
  | functionDisable => exact execFunctionDisable_gives.common
  | functionReset => exact execFunctionReset_gives.common
  | drainEnd => exact execDrainEnd_gives.common
  | functionMaskWrite => exact execFunctionMaskWrite_gives.common
  | boundSlotWrite => exact execBoundSlotWrite_gives.common
  | weirNoticeIntervalEnd => exact execWeirNoticeIntervalEnd_gives.common
  | weirStatusWrite => exact execWeirStatusWrite_gives.common
  | eccUncorrectable => exact execEccUncorrectable_gives.common
  | mainFail => exact execMainFail_gives.common
  | mainOk => exact execMainOk_gives.common
  | chargerResume => exact execChargerResume_gives.common
  | mainOv => exact execMainOv_gives.common
  | mainOvClear => exact execMainOvClear_gives.common
  | reserveCycle => exact execReserveCycle_gives.common
  | chemistryWrite => exact execChemistryWrite_gives.common
  | railBrownOut => exact execRailBrownOut_gives.common
  | vphyBrownOut => exact execVphyBrownOut_gives.common
  | vaonPor => exact execVaonPor_gives.common
  | railPowerGood => exact execRailPowerGood_gives.common
  | railStartTimeout => exact execRailStartTimeout_gives.common
  | failedStartRetry => exact execFailedStartRetry_gives.common
  | trimEntry => exact execTrimEntry_gives.common
  | trimExit => exact execTrimExit_gives.common
  | plannerEvaluation => exact execPlannerEvaluation_gives.looped
  | sleepExit => exact execSleepExit_gives.looped
  | wakePin => exact execWakePin_gives.mono (κ := caps [.wakes] ||| commonCaps) (by decide)
  | plannedWake => exact execPlannedWake_gives.common
  | hostLinkWake => exact execHostLinkWake_gives.common
  | deepGrantWrite => exact execDeepGrantWrite_gives.common
  | nextServiceWrite => exact execNextServiceWrite_gives.common
  | wakeAtReached => exact execWakeAtReached_gives.common
  | phaseP0 => exact execPhaseP0_gives.common
  | phaseP1 => exact execPhaseP1_gives.common
  | phaseP2 => exact execPhaseP2_gives.common
  | phaseP3 => exact execPhaseP3_gives.common
  | phaseP4 => exact execPhaseP4_gives.looped
  | phaseP5 => exact execPhaseP5_gives.common
  | phaseD0 => exact execPhaseD0_gives.common
  | phaseD1 => exact execPhaseD1_gives.common
  | phaseD2 => exact execPhaseD2_gives.common
  | phaseD3 => exact execPhaseD3_gives.looped
  | phaseD4 => exact execPhaseD4_gives.common
  | restartHoldoffExpiry => exact execRestartHoldoffExpiry_gives.common
  | pllUnlock => exact execPllUnlock_gives.common
  | xtalFreq => exact execXtalFreq_gives.common
  | clockDivFault => exact execClockDivFault_gives.common
  | nclkDiv => exact execNclkDiv_gives.common
  | nclkRecover => exact execNclkRecover_gives.common
  | rtcStop => exact execRtcStop_gives.common
  | calSet => exact execCalSet_gives.common
  | rtcAutoTrim => exact execRtcAutoTrim_gives.common
  | calOffsetSave => exact execCalOffsetSave_gives.common
  | holdoverExpiry => exact execHoldoverExpiry_gives.common
  | operatingSecond => exact execOperatingSecond_gives.common
  | xresetAssert => exact execXresetAssert_gives.common
  | xresetRelease => exact execXresetRelease_gives.common
  | watchdogExpiry => exact execWatchdogExpiry_gives.common
  | deviceReset => exact execDeviceReset_gives.common
  | deviceResetAssert => exact execDeviceResetAssert_gives.common
  | outputLevelWrite => exact execOutputLevelWrite_gives.common
  | setBits => exact execSetBits_gives.common
  | clearBits => exact execClearBits_gives.common
  | patternUnitWrite => exact execPatternUnitWrite_gives.common
  | patternMatch => exact execPatternMatch_gives.common
  | patternMatchEnd => exact execPatternMatchEnd_gives.common
  | lineEdge => exact execLineEdge_gives.common
  | minIntervalEnd => exact execMinIntervalEnd_gives.common
  | ppsPulse => exact execPpsPulse_gives.common
  | sramScrubRound => exact execSramScrubRound_gives.common
  | mramScrub => exact execMramScrub_gives.common
  | dieTempSample => exact execDieTempSample_gives.common
  | overTempShutdown => exact execOverTempShutdown_gives.common
  | fieldInputChange => exact execFieldInputChange_gives.common
  | gpPinChange => exact execGpPinChange_gives.common
  | flashToggle => exact execFlashToggle_gives.common
  | rtcEdgesReturn => exact execRtcEdgesReturn_gives.common
  | ppsPulseEnd => exact execPpsPulseEnd_gives.common
  | noticeFrameSend => exact execNoticeFrameSend_gives.common
  | egressFrameEnd => exact execEgressFrameEnd_gives.common
  | partnerLpi => exact execPartnerLpi_gives.common
  | illegalBitExpiry => exact execIllegalBitExpiry_gives.common

end Sys2Proof.Machine
end

section
/-! What every step keeps: the store, the numbers of transactions, the fuses, the queue and the time. -/
namespace Sys2Proof.Machine
open Sys2Proof Sys2Proof.Config
set_option Elab.async false

/-- An operation on each element of a list that leaves an object as it is. -/
theorem each_mem_get {α : Type} {xs : List α} {f : α → State → State} {k : Nat} {s : State}
    (h : ∀ a ∈ xs, ∀ t, (f a t).get k = t.get k) : (each xs f s).get k = s.get k := by
  unfold each
  induction xs generalizing s with
  | nil => rfl
  | cons a r ih =>
    rw [List.foldl_cons, ih fun b hb => h b (List.mem_cons_of_mem a hb), h a List.mem_cons_self]

/-- Latches write their records alone, in chapter 16#35. -/
theorem offerLatches_get {kind t : Nat} {sources : List Nat} {k : Nat} {s : State} (hk : k / 65536 ≠ 0x35) :
    (offerLatches kind t sources s).get k = s.get k := by
  refine each_mem_get fun a ha u => each_mem_get fun n hn v => ?_
  have hne : k ≠ latchRecordKey a n := by
    simp only [List.mem_range, List.mem_cons, List.not_mem_nil, or_false] at ha hn
    rcases hn with rfl | rfl <;> simp only [latchRecordKey, Obj.latchRecord0, Obj.latchRecord1, reduceIte, Nat.reduceEqDiff] <;> omega
  unfold capture
  dsimp only
  simp only [ite_get, onAxis_get, get_put_ne _ _ _ _ hne, ite_self]

/-- Moved pads show conflicts and offer latches; they write no object outside chapters 16#18 and 16#35. -/
theorem settlePins_get {k : Nat} {s : State} (h18 : k / 65536 ≠ 0x18) (h35 : k / 65536 ≠ 0x35) :
    (settlePins s).get k = s.get k := by
  have h1 : k ≠ Obj.conflictFlags := by rintro rfl; exact h18 rfl
  have h2 : k ≠ Obj.conflictCount := by rintro rfl; exact h18 rfl
  have hshow (t : State) : (showConflicts t).get k = t.get k := by
    unfold showConflicts State.addTo
    dsimp only
    rw [get_put_ne _ _ _ _ h2, get_put_ne _ _ _ _ h1]
  unfold settlePins holdPatterns
  dsimp only
  rw [onGp_get, each_mem_get fun n _ t => ?_, hshow]
  simp only [ite_get, pinLatch, offerLatches_get h35, onGp_get, ite_self]

/-- NodeState shows the state of the node (R22). -/
theorem settleNode_nodeState (s : State) : (settleNode s).get Obj.nodeState = s.nodeNow := by
  unfold settleNode
  dsimp only
  split
  · next h => exact h.symm
  · rw [stateNotice_get _ _ _ _ rfl, get_put_self _ _ _ rfl]
    refine Nat.mod_eq_of_lt ?_
    unfold State.nodeNow
    dsimp only
    repeat' split
    all_goals decide

/-- One cycle without a command: time passes by one, the queue stays, and a running node shows its state. -/
theorem idle_moves (s : State) : Moves commonCaps { s with now := s.now + 1 } (idle s) := by
  unfold idle
  dsimp only
  exact .ite (settlePins_moves (settleNode_moves (.refl _))) (.refl _)

theorem step_eq_of_idle {s : State} (h : s.pending = []) : step s = .next (idle s) := by rw [step, h]

theorem step_eq_of_command {s : State} {c : Instr} {cs : List Instr} (h : s.pending = c :: cs) :
    step s = exec c { s with pending := cs } := by rw [step, h]

/-- A step comes from a cycle without a command or from a row. -/
theorem step_cases {s t : State} (h : step s = .next t) :
    Moves commonCaps { s with now := s.now + 1 } t ∨
    ∃ c cs, s.pending = c :: cs ∧ exec c { s with pending := cs } = .next t ∧ Moves (rowCaps c) { s with pending := cs } t := by
  by_cases hp : s.pending = []
  · rw [step_eq_of_idle hp] at h
    injection h with h
    exact .inl (h ▸ idle_moves s)
  · obtain ⟨c, cs, hp⟩ := List.exists_cons_of_ne_nil hp
    rw [step_eq_of_command hp] at h
    obtain ⟨u, hu, hm⟩ := exec_gives c { s with pending := cs }
    rw [hu] at h
    cases h
    exact .inr ⟨c, cs, hp, hu, hm⟩

/-- Settles O51: a cycle without a command and every row keep the store canonical. -/
theorem everyStepKeepsTheStoreCanonical : Obligations.EveryStepKeepsTheStoreCanonical := by
  intro s t hs h
  rcases step_cases h with hm | ⟨c, cs, -, -, hm⟩ <;> exact hm.canonical hs

/-- Settles O52: a cycle without a command and every row keep the numbers of transactions unlike each other. -/
theorem everyStepKeepsTransactionsUnlike : Obligations.EveryStepKeepsTransactionsUnlike := by
  intro s t hs h
  rcases step_cases h with hm | ⟨c, cs, -, -, hm⟩ <;> exact hm.fresh hs

/-- The levels at the DIRECT balls move by DIRECT_PIN_CHANGE alone. -/
theorem rowCaps_direct {c : Instr} (h : ∀ n b, c ≠ .directPinChange n b) : (rowCaps c).testBit Part.direct.ctorIdx = false := by
  unfold rowCaps
  split
  · exact absurd rfl (h _ _)
  · decide
  · split <;> decide

/-- The levels at the WAKE balls move by WAKE_PIN alone. -/
theorem rowCaps_wakes {c : Instr} (h : ∀ n b us, c ≠ .wakePin n b us) : (rowCaps c).testBit Part.wakes.ctorIdx = false := by
  unfold rowCaps
  split
  · decide
  · exact absurd rfl (h _ _ _)
  · split <;> decide

/-- Settles O49: every row gives a next state, and its mask holds the balls' levels in their own rows alone. -/
theorem everyCommandIsAnswered : Obligations.EveryCommandIsAnswered := by
  intro c s
  obtain ⟨t, ht, hm⟩ := exec_gives c s
  exact ⟨t, ht, hm.variant, hm.pending, hm.now, fun h => hm.part .direct (rowCaps_direct h),
    fun h => hm.part .wakes (rowCaps_wakes h)⟩

/-- Settles O48: `step` runs the front command on the rest of the queue, or idles. -/
theorem aStepTakesTheFrontCommand : Obligations.AStepTakesTheFrontCommand := by
  refine ⟨fun c cs s h => step_eq_of_command h, fun s h => ⟨idle s, step_eq_of_idle h, (idle_moves s).now, ?_, ?_, ?_⟩⟩
  · exact (idle_moves s).pending.trans h
  · intro hl
    have hl' : ({ s with now := s.now + 1 } : State).live = false := hl
    rw [idle, hl']
    rfl
  · intro hl
    have hl' : ({ s with now := s.now + 1 } : State).live = true := hl
    rw [idle, hl']
    exact (settlePins_get (by decide) (by decide)).trans (settleNode_nodeState _)

/-- Refutes O50: the reset state is named for every number of a place, and the number 10, which no place has, stands for the
object 16#110C.01, whose default is 1. -/
theorem not_resetIsAFreshModule : ¬ Obligations.ResetIsAFreshModule := by
  rintro ⟨-, -, -, -, -, -, hplaces, -⟩
  exact absurd (hplaces 10).1 (by decide +kernel)

end Sys2Proof.Machine
end

section
/-! What one unit does can reach another: a lead that no channel has. -/
namespace Sys2Proof.Machine
open Sys2Proof Sys2Proof.Config

set_option Elab.async false

/-- A module whose channel 0 follows a lead of number 512, which no channel object has, and this lead sees a clamp event. -/
def strayLead : State :=
  { State.reset with chans := { Chan.reset with lead := some 512 } :: List.replicate 512 { Chan.reset with clamping := true } }

/-- Refutes O55: the lead of a channel is any number of the state, and the energy of a clamp event of lead 512 is written to
16#6500.01, outside the chapters of the field. -/
theorem not_eachUnitKeepsToItsOwn : ¬ Obligations.EachUnitKeepsToItsOwn := by
  intro h
  obtain ⟨t, ht, hfield, -⟩ := h (.clampEventEnd 0 10) strayLead
  obtain ⟨-, hkeeps, -⟩ := hfield rfl
  have hstays := hkeeps 0x650001 (by decide)
  injection ht with ht
  subst ht
  exact absurd hstays (by decide +kernel)

end Sys2Proof.Machine
end

section
/-! From what a row does to what it answers. -/
namespace Sys2Proof.Machine
open Sys2Proof Sys2Proof.Config

/-- A value below the end of an object of two bytes fits it. -/
theorem fitTo_two {k v : Nat} (hs : sizeOf k = 2) (hv : v < 65536) : fitTo k v = v := by
  rw [fitTo, hs, if_neg (by decide)]
  exact Nat.mod_eq_of_lt hv

theorem answers_answer {c : Instr} {s : State} {P : State → Prop} (t : State) (he : exec c s = s.answer t)
    (hv : t.variant = s.variant) (hp : t.pending = s.pending) (h : P t) : Answers c s P := by
  refine ⟨t, ?_, h⟩
  rw [he, State.answer, ← hv, ← hp]

end Sys2Proof.Machine
end

section
/-! Timed conditions of a field input. -/
namespace Sys2Proof.Machine
open Sys2Proof Sys2Proof.Config

/-- MARGINAL: 20 ms in a gap. -/
theorem marginal_answers {s : State} {c : Fin 256} {x : Chan} (hx : s.chans[c.val]? = some x)
    (h : Passed x.gapSince (ms 20) s) : Answers (.marginal c) s fun t =>
      OneMoves c.val { x with marginal := true } s.chans t.chans ∧ t.objs = s.objs := by
  refine answers_answer (s.onChan c fun x => { x with marginal := true }) ?_ rfl rfl ⟨oneMoves_modify _ hx, rfl⟩
  show execMarginal c s = _
  rw [execMarginal, chan_eq hx, heldFor_passed h, if_pos rfl]

/-- A bit of DiagStatus that rises: the bit, its sticky copy and its counter. -/
theorem diagRise_answers {i : Instr} {s : State} {c : Fin 256} {b v : Nat} (he : exec i s = s.answer (diagRise c b v s))
    (hb : s.bit (Obj.diagStatus c) b = false) (h : b = 0 ∨ b = 3) : Answers i s fun t =>
      BitTo (Obj.diagStatus c) b true s t ∧ BitTo (Obj.diagSticky c) b true s t ∧ CountsUp (diagCounter c b) s t := by
  obtain ⟨hstatus, hsticky⟩ := diagRise_bits c b v s c.isLt hb
  refine answers_answer _ he (diagRise_variant ..) ?_ ⟨hstatus, hsticky, diagRise_counts c b v s c.isLt hb (by omega)⟩
  exact (diagRise_moves (κ := commonCaps) (.refl s)).pending

/-- A bit of DiagStatus that falls, and nothing else. -/
theorem diagFall_answers {i : Instr} {s u : State} {c : Fin 256} {b : Nat} (he : exec i s = s.answer (diagFall c b u))
    (hv : u.variant = s.variant) (hp : u.pending = s.pending) (hg : ∀ k, u.get k = s.get k) : Answers i s fun t =>
      BitTo (Obj.diagStatus c) b false s t ∧ OnlyMoves [Obj.diagStatus c] s t := by
  refine answers_answer _ he ((put_variant ..).trans hv) ((put_pending ..).trans hp) ⟨fun j hj => ?_, fun k hk => ?_⟩
  · rw [diagFall_bits c b u c.isLt j hj, State.bit, State.bit, hg]
  · rw [diagFall_get c b u k (by simpa using hk), hg]

/-- What COMPARATOR_SELFTEST counts in the cell. -/
def selftested (pass : Bool) (x : Chan) : Chan :=
  { x with testBad := if pass then 0 else x.testBad + 1, testGood := if pass then x.testGood + 1 else 0 }

theorem exec_comparatorSelftest {s : State} {c : Fin 256} {x : Chan} {pass : Bool} (hx : s.chans[c.val]? = some x)
    (hm : isInput (s.mode c) = true) : exec (.comparatorSelftest c pass) s = s.answer
      (if 2 ≤ (selftested pass x).testBad then diagRise c 4 0 (s.onChan c (selftested pass))
        else if 2 ≤ (selftested pass x).testGood then diagFall c 4 (s.onChan c (selftested pass))
        else s.onChan c (selftested pass)) := by
  have hy : (s.onChan c (selftested pass)).chan c = selftested pass x := chan_eq (oneMoves_modify _ hx).1
  show execComparatorSelftest c pass s = _
  rw [execComparatorSelftest, hm, ← hy]
  rfl

/-- COMPARATOR_SELFTEST: the second wrong one in a row, a first wrong one, the second right one. -/
theorem comparatorSelftest_answers {s : State} {c : Fin 256} {x : Chan} (hx : s.chans[c.val]? = some x)
    (hm : isInput (s.mode c) = true) :
    (x.testBad = 1 → s.bit (Obj.diagStatus c) 4 = false → Answers (.comparatorSelftest c false) s fun t =>
      BitTo (Obj.diagStatus c) 4 true s t ∧ BitTo (Obj.diagSticky c) 4 true s t) ∧
    (x.testBad = 0 → Answers (.comparatorSelftest c false) s fun t =>
      t.objs = s.objs ∧ OneMoves c.val { x with testBad := 1, testGood := 0 } s.chans t.chans) ∧
    (x.testGood = 1 → Answers (.comparatorSelftest c true) s fun t =>
      BitTo (Obj.diagStatus c) 4 false s t ∧ OnlyMoves [Obj.diagStatus c] s t) := by
  refine ⟨fun hbad hb => ?_, fun hbad => ?_, fun hgood => ?_⟩
  · obtain ⟨hstatus, hsticky⟩ := diagRise_bits c 4 0 (s.onChan c (selftested false)) c.isLt hb
    refine answers_answer (diagRise c 4 0 (s.onChan c (selftested false))) ?_ (diagRise_variant ..) ?_ ⟨hstatus, hsticky⟩
    · rw [exec_comparatorSelftest hx hm, if_pos (by simp [selftested, hbad])]
    · exact (diagRise_moves (κ := commonCaps) (.refl _)).pending
  · refine answers_answer (s.onChan c (selftested false)) ?_ rfl rfl ⟨rfl, ?_⟩
    · rw [exec_comparatorSelftest hx hm, if_neg (by simp [selftested, hbad]), if_neg (by simp [selftested])]
    · have hmove := oneMoves_modify (selftested false) hx
      simpa [selftested, hbad] using hmove
  · refine diagFall_answers (u := s.onChan c (selftested true)) ?_ rfl rfl fun k => rfl
    rw [exec_comparatorSelftest hx hm, if_neg (by simp [selftested]), if_pos (by simp [selftested, hgood])]

/-- Settles O1, row by row: each row's guard holds, and its act is a rise or a fall of a bit, a value or the cell. -/
theorem inputConditionsActWhenTheirTimeHasPassed : Obligations.InputConditionsActWhenTheirTimeHasPassed := by
  intro s c x hx
  refine ⟨marginal_answers hx, fun h hm hb => diagRise_answers (v := 0) ?_ hb (.inr rfl), fun h => diagFall_answers ?_ rfl rfl fun k => rfl,
    fun h hm hb => diagRise_answers (v := 0) ?_ hb (.inl rfl), fun h => diagFall_answers ?_ rfl rfl fun k => rfl,
    fun hm => (comparatorSelftest_answers hx hm).1, fun hm => (comparatorSelftest_answers hx hm).2.1,
    fun hm => (comparatorSelftest_answers hx hm).2.2, fun mv hl => ?_⟩
  · show execXcheckSet c s = _
    rw [execXcheckSet, chan_eq hx, heldFor_passed h, hm]
    rfl
  · show execXcheckClear c s = _
    rw [execXcheckClear, chan_eq hx, heldFor_passed h, if_pos rfl]
  · show execInputOverload c s = _
    rw [execInputOverload, chan_eq hx, heldFor_passed h, hm]
    rfl
  · show execOverloadClear c s = _
    rw [execOverloadClear, chan_eq hx, heldFor_passed h, if_pos rfl]
  · refine answers_answer (s.put (Obj.inputVoltage c) (min mv 65535)) (answerLive_live hl _) (put_variant ..) (put_pending ..)
      ⟨?_, onlyMoves_put _ _ _⟩
    rw [get_put_self _ _ _ (field_plain 0x610003 c (by decide) c.isLt)]
    exact fitTo_two (sizeOf_shift 0x610003 c 256 (by decide) c.isLt) (by omega)

end Sys2Proof.Machine
end

section
/-! The entry into SLEEP and the unlock gates -/
namespace Sys2Proof.Machine
open Sys2Proof Sys2Proof.Config

/-- An image of one leaf without an isolation input and one doorway of the left side; the train inputs are channels 0
to 3. -/
def oneGateImage : LatImage :=
  { factoryImage State.reset.variant with
    train := [0, 1, 2, 3]
    leaves := [⟨true, false, noChan, noChan, noChan, noChan, noChan, noChan, 4⟩]
    doors := [⟨true, false, false, false, noChan, noChan⟩] }

/-- A node in RUN on the eve of SLEEP: the train inputs have just been filtered, so the term of unlock gate 0 holds, and
no frame has published it yet. -/
def beforeSleep : State :=
  State.put Obj.latticeState 1 (State.put Obj.recorderState 1
    { State.reset with
      pending := [.plannerEvaluation]
      lat := { State.reset.lat with contacts := List.replicate 4 { Contact.reset with filtered := true } }
      recd := { State.reset.recd with activeImage := oneGateImage }
      dies := [{ Die.reset with lattUp := true }]
      rst := { State.reset.rst with inReset := false }
      pow := { State.reset.pow with logicUp := true, sleepAt := some 0 } })

/-- Refutes O53: the entry into SLEEP publishes the unlock gates and then stops the lattice links, without which the term
of the gate that has just opened is false. -/
theorem not_noStepClosesTheLoopUnlessItsTermHolds : ¬ Obligations.NoStepClosesTheLoopUnlessItsTermHolds := by
  intro h
  obtain ⟨-, hgates⟩ := h beforeSleep _ rfl
  obtain ⟨-, hterm⟩ := hgates 0 (by decide +kernel) (by decide +kernel)
  exact absurd hterm (by decide +kernel)

end Sys2Proof.Machine
end

section
/-! Lattice images, state records and table headers read back (R41, R59) -/
namespace Sys2Proof.Machine
open Sys2Proof Sys2Proof.Config

/-! Numbers and their bytes. -/

@[simp] theorem byte_toNat (b : Byte) : byte b.toNat = b := BitVec.eq_of_toNat_eq (by simp [byte])

@[simp] theorem toNat_byte (n : Nat) : (byte n).toNat = n % 256 := by rw [byte, BitVec.toNat_ofNat]

theorem leNat_toLe (n v : Nat) : leNat (toLe n v) = v % 256 ^ n := by
  induction n generalizing v with
  | zero => rw [toLe, leNat, Nat.pow_zero, Nat.mod_one]
  | succ n ih => rw [toLe, leNat, toNat_byte, ih, Nat.pow_succ', Nat.mod_mul]

theorem leNat_toLe_two {v : Nat} (h : v < 65536) : leNat (toLe 2 v) = v := by
  rw [leNat_toLe]
  exact Nat.mod_eq_of_lt h

/-- The first `n` bytes of a string are the encoding of their number. -/
theorem toLe_leNat_take {n : Nat} {bs : List Byte} (h : n ≤ bs.length) : toLe n (leNat (bs.take n)) = bs.take n := by
  have hl : (bs.take n).length = n := by rw [List.length_take, Nat.min_eq_left h]
  have := toLe_leNat (bs.take n)
  rwa [hl] at this

theorem singleton_byte (v : Nat) : [byte v] = toLe 1 v := rfl

/-! A CRC-32C has 32 bits. -/

theorem crcBit_lt {p c : Nat} (hp : p < 2 ^ 32) (hc : c < 2 ^ 32) : crcBit p c < 2 ^ 32 := by
  have half : c / 2 < 2 ^ 32 := by omega
  unfold crcBit
  split
  · exact Nat.xor_lt_two_pow half hp
  · exact half

theorem crcByte_lt {p c : Nat} (b : Byte) (hp : p < 2 ^ 32) (hc : c < 2 ^ 32) : crcByte p c b < 2 ^ 32 := by
  have hb : b.toNat < 2 ^ 32 := by have := b.isLt; omega
  have h := Nat.xor_lt_two_pow hc hb
  exact crcBit_lt hp (crcBit_lt hp (crcBit_lt hp (crcBit_lt hp (crcBit_lt hp (crcBit_lt hp (crcBit_lt hp
    (crcBit_lt hp h)))))))

theorem crc32c_lt (bs : List Byte) : crc32c bs < 2 ^ 32 := by
  have h : ∀ c, c < 2 ^ 32 → bs.foldl (crcByte 0x82F63B78) c < 2 ^ 32 := by
    induction bs with
    | nil => exact fun c hc => hc
    | cons b bs ih => exact fun c hc => ih _ (crcByte_lt b (by decide) hc)
  exact Nat.xor_lt_two_pow (h _ (by decide)) (by decide)

/-! Entries of one width. -/

theorem length_flatMap_of {α : Type} {f : α → List Byte} {w : Nat} (xs : List α) (h : ∀ x ∈ xs, (f x).length = w) :
    (xs.flatMap f).length = w * xs.length := by
  induction xs with
  | nil => rfl
  | cons x xs ih =>
    rw [List.flatMap_cons, List.length_append, h x (by simp), ih fun y hy => h y (by simp [hy]), List.length_cons]
    rw [Nat.mul_add, Nat.mul_one, Nat.add_comm]

/-- Entries of one width are cut out of their concatenation again. -/
theorem chunks_flatMap {α : Type} {f : α → List Byte} {w : Nat} (xs : List α) (rest : List Byte)
    (h : ∀ x ∈ xs, (f x).length = w) : chunks w xs.length (xs.flatMap f ++ rest) = xs.map f := by
  induction xs with
  | nil => rfl
  | cons x xs ih =>
    have hx : (f x).length = w := h x (by simp)
    rw [List.flatMap_cons, List.length_cons, chunks, List.append_assoc, List.take_left' hx, List.drop_left' hx,
      ih fun y hy => h y (by simp [hy]), List.map_cons]

/-- What cutting and reading entries of one width gives, where each entry is read back from its bytes. -/
theorem map_chunks_flatMap {α : Type} {f : α → List Byte} {g : List Byte → α} {w : Nat} (xs : List α)
    (rest : List Byte) (h : ∀ x ∈ xs, (f x).length = w) (hg : ∀ x ∈ xs, g (f x) = x) :
    (chunks w xs.length (xs.flatMap f ++ rest)).map g = xs := by
  rw [chunks_flatMap xs rest h, List.map_map]
  exact (List.map_congr_left hg).trans xs.map_id

/-- What spelling the entries cut out of a string gives, where each entry spells its bytes. -/
theorem flatMap_chunks {α : Type} {f : α → List Byte} {g : List Byte → α} {w n : Nat} {bs : List Byte}
    (hl : w * n ≤ bs.length) (hg : ∀ c : List Byte, c.length = w → f (g c) = c) :
    ((chunks w n bs).map g).flatMap f = bs.take (w * n) := by
  induction n generalizing bs with
  | zero => simp [chunks]
  | succ n ih =>
    have hw : w + w * n ≤ bs.length := by rw [Nat.mul_succ] at hl; omega
    have htail : w * n ≤ (bs.drop w).length := by rw [List.length_drop]; omega
    rw [chunks, List.map_cons, List.flatMap_cons, ih htail,
      hg _ (by rw [List.length_take]; omega), ← List.take_add, Nat.mul_succ, Nat.add_comm]

/-! Lattice images (R41). -/

theorem LatLeaf.length_bytes (l : LatLeaf) : l.bytes.length = 16 := rfl

theorem LatDoor.length_bytes (d : LatDoor) : d.bytes.length = 8 := rfl

theorem LatLeaf.ofBytes_bytes (l : LatLeaf)
    (h : ∀ x ∈ [l.closedNo, l.closedNc, l.lockedNo, l.lockedNc, l.isoNo, l.isoNc, l.unlock], x < 65536) :
    LatLeaf.ofBytes l.bytes = l := by
  have hflags : ∀ a b : Bool, ((bitVal a + 2 * bitVal b) % 256).testBit 0 = a ∧
      ((bitVal a + 2 * bitVal b) % 256).testBit 1 = b := by decide
  obtain ⟨en, iso, a, b, c, d, e, f, g⟩ := l
  simp only [List.mem_cons, List.not_mem_nil, or_false, forall_eq_or_imp, forall_eq] at h
  obtain ⟨ha, hb, hc, hd, he, hf, hg⟩ := h
  have hx : LatLeaf.ofBytes (LatLeaf.bytes ⟨en, iso, a, b, c, d, e, f, g⟩) =
    ⟨((bitVal en + 2 * bitVal iso) % 256).testBit 0, ((bitVal en + 2 * bitVal iso) % 256).testBit 1,
      leNat (toLe 2 a), leNat (toLe 2 b), leNat (toLe 2 c), leNat (toLe 2 d), leNat (toLe 2 e), leNat (toLe 2 f),
      leNat (toLe 2 g)⟩ := by
    simp [LatLeaf.ofBytes, LatLeaf.bytes, le16At, toLe, leNat]
  rw [hx, (hflags en iso).1, (hflags en iso).2, leNat_toLe_two ha, leNat_toLe_two hb, leNat_toLe_two hc,
    leNat_toLe_two hd, leNat_toLe_two he, leNat_toLe_two hf, leNat_toLe_two hg]

theorem LatDoor.ofBytes_bytes (d : LatDoor) (hno : d.no < 65536) (hnc : d.nc < 65536) :
    LatDoor.ofBytes d.bytes = d := by
  have hflags : ∀ a b c e : Bool, ((bitVal a + 2 * bitVal b + 4 * bitVal c + 8 * bitVal e) % 256).testBit 0 = a ∧
      ((bitVal a + 2 * bitVal b + 4 * bitVal c + 8 * bitVal e) % 256).testBit 1 = b ∧
      ((bitVal a + 2 * bitVal b + 4 * bitVal c + 8 * bitVal e) % 256).testBit 2 = c ∧
      ((bitVal a + 2 * bitVal b + 4 * bitVal c + 8 * bitVal e) % 256).testBit 3 = e := by decide
  obtain ⟨a, b, c, e, no, nc⟩ := d
  obtain ⟨h0, h1, h2, h3⟩ := hflags a b c e
  have hx : LatDoor.ofBytes (LatDoor.bytes ⟨a, b, c, e, no, nc⟩) =
    ⟨((bitVal a + 2 * bitVal b + 4 * bitVal c + 8 * bitVal e) % 256).testBit 0,
      ((bitVal a + 2 * bitVal b + 4 * bitVal c + 8 * bitVal e) % 256).testBit 1,
      ((bitVal a + 2 * bitVal b + 4 * bitVal c + 8 * bitVal e) % 256).testBit 2,
      ((bitVal a + 2 * bitVal b + 4 * bitVal c + 8 * bitVal e) % 256).testBit 3,
      leNat (toLe 2 no), leNat (toLe 2 nc)⟩ := by
    simp [LatDoor.ofBytes, LatDoor.bytes, le16At, toLe, leNat]
  rw [hx, h0, h1, h2, h3, leNat_toLe_two hno, leNat_toLe_two hnc]

/-- Bytes 0 to 31 of an image: its head and its times. -/
def LatImage.front (i : LatImage) : List Byte :=
  [0x4C, 0x54, 0x43, 0x31] ++ toLe 2 1 ++ toLe 2 532 ++ [24, 12, byte (bitVal i.platform), 0]
    ++ [i.leafFilter, i.trainFilter, i.handleFilter, i.discrepancy, i.readback, i.pulseWidth,
        i.pulsePeriod].flatMap (toLe 2) ++ List.replicate 6 0

theorem LatImage.length_front (i : LatImage) : i.front.length = 32 := rfl

theorem LatImage.body_eq (i : LatImage) : i.body = i.front ++ (i.train.flatMap (toLe 2) ++ (List.replicate 4 0 ++
    (i.leaves.flatMap LatLeaf.bytes ++ i.doors.flatMap LatDoor.bytes))) := by
  simp only [LatImage.body, LatImage.front, List.append_assoc]

/-- An image of the counts of R41 with fields of 16 bits. -/
structure LatImage.Fits (i : LatImage) : Prop where
  leaves : i.leaves.length = 24
  doors : i.doors.length = 12
  train : i.train.length = 6
  times : ∀ x ∈ [i.leafFilter, i.trainFilter, i.handleFilter, i.discrepancy, i.readback, i.pulseWidth, i.pulsePeriod] ++
    i.train, x < 65536
  leafFields : ∀ e ∈ i.leaves,
    ∀ x ∈ [e.closedNo, e.closedNc, e.lockedNo, e.lockedNc, e.isoNo, e.isoNc, e.unlock], x < 65536
  doorFields : ∀ d ∈ i.doors, d.no < 65536 ∧ d.nc < 65536

section
variable {i : LatImage}

theorem LatImage.Fits.length_trainBytes (h : i.Fits) : (i.train.flatMap (toLe 2)).length = 12 := by
  rw [length_flatMap_of (w := 2) _ fun x _ => length_toLe 2 x, h.train]

theorem LatImage.Fits.length_leafBytes (h : i.Fits) : (i.leaves.flatMap LatLeaf.bytes).length = 384 := by
  rw [length_flatMap_of (w := 16) _ fun x _ => x.length_bytes, h.leaves]

theorem LatImage.Fits.length_doorBytes (h : i.Fits) : (i.doors.flatMap LatDoor.bytes).length = 96 := by
  rw [length_flatMap_of (w := 8) _ fun x _ => x.length_bytes, h.doors]

theorem LatImage.Fits.length_body (h : i.Fits) : i.body.length = 528 := by
  simp only [LatImage.body_eq, List.length_append, i.length_front, h.length_trainBytes, h.length_leafBytes,
    h.length_doorBytes, List.length_replicate]

theorem LatImage.Fits.length_bytes (h : i.Fits) : i.bytes.length = 532 := by
  rw [LatImage.bytes, List.length_append, h.length_body, length_toLe]

/-- The train lines are read from bytes 32 to 43. -/
theorem LatImage.Fits.train_read (h : i.Fits) : (chunks 2 6 (i.bytes.drop 32)).map leNat = i.train := by
  have hsmall : ∀ x ∈ i.train, leNat (toLe 2 x) = x := fun x hx => leNat_toLe_two (h.times x (by simp [hx]))
  rw [LatImage.bytes, LatImage.body_eq, List.append_assoc, List.drop_left' i.length_front, List.append_assoc,
    ← h.train]
  exact map_chunks_flatMap i.train _ (fun x _ => length_toLe 2 x) hsmall

/-- The leaf entries are read from bytes 48 to 431. -/
theorem LatImage.Fits.leaves_read (h : i.Fits) : (chunks 16 24 (i.bytes.drop 48)).map LatLeaf.ofBytes = i.leaves := by
  have hpre : (i.front ++ (i.train.flatMap (toLe 2) ++ List.replicate 4 0)).length = 48 := by
    rw [List.length_append, List.length_append, i.length_front, h.length_trainBytes, List.length_replicate]
  have hbytes : i.bytes = (i.front ++ (i.train.flatMap (toLe 2) ++ List.replicate 4 0)) ++
      (i.leaves.flatMap LatLeaf.bytes ++ (i.doors.flatMap LatDoor.bytes ++ toLe 4 i.crc)) := by
    simp only [LatImage.bytes, LatImage.body_eq, List.append_assoc]
  rw [hbytes, List.drop_left' hpre, ← h.leaves]
  exact map_chunks_flatMap i.leaves _ (fun x _ => x.length_bytes) fun x hx => x.ofBytes_bytes (h.leafFields x hx)

/-- The doorway entries are read from bytes 432 to 527. -/
theorem LatImage.Fits.doors_read (h : i.Fits) : (chunks 8 12 (i.bytes.drop 432)).map LatDoor.ofBytes = i.doors := by
  have hpre : (i.front ++ (i.train.flatMap (toLe 2) ++ (List.replicate 4 0 ++
      i.leaves.flatMap LatLeaf.bytes))).length = 432 := by
    simp only [List.length_append, i.length_front, h.length_trainBytes, h.length_leafBytes, List.length_replicate]
  have hbytes : i.bytes = (i.front ++ (i.train.flatMap (toLe 2) ++ (List.replicate 4 0 ++
      i.leaves.flatMap LatLeaf.bytes))) ++ (i.doors.flatMap LatDoor.bytes ++ toLe 4 i.crc) := by
    simp only [LatImage.bytes, LatImage.body_eq, List.append_assoc]
  rw [hbytes, List.drop_left' hpre, ← h.doors]
  exact map_chunks_flatMap i.doors _ (fun x _ => x.length_bytes) fun x hx =>
    x.ofBytes_bytes (h.doorFields x hx).1 (h.doorFields x hx).2

/-- The times are read from bytes 10 to 25. -/
theorem LatImage.Fits.times_read (h : i.Fits) :
    (leNat ((i.bytes.drop 10).take 1)).testBit 0 = i.platform ∧ le16At i.bytes 12 = i.leafFilter ∧
    le16At i.bytes 14 = i.trainFilter ∧ le16At i.bytes 16 = i.handleFilter ∧ le16At i.bytes 18 = i.discrepancy ∧
    le16At i.bytes 20 = i.readback ∧ le16At i.bytes 22 = i.pulseWidth ∧ le16At i.bytes 24 = i.pulsePeriod := by
  have hflag : ∀ b : Bool, (leNat [byte (bitVal b)]).testBit 0 = b := by decide
  have ht := h.times
  simp only [List.cons_append, List.nil_append, List.mem_cons, forall_eq_or_imp] at ht
  obtain ⟨h1, h2, h3, h4, h5, h6, h7, -⟩ := ht
  rw [LatImage.bytes, LatImage.body_eq]
  exact ⟨hflag _, leNat_toLe_two h1, leNat_toLe_two h2, leNat_toLe_two h3, leNat_toLe_two h4, leNat_toLe_two h5,
    leNat_toLe_two h6, leNat_toLe_two h7⟩

theorem LatImage.Fits.ofBytes_bytes (h : i.Fits) : LatImage.ofBytes i.bytes = i := by
  obtain ⟨hp, h1, h2, h3, h4, h5, h6, h7⟩ := h.times_read
  rw [LatImage.ofBytes, h.train_read, h.leaves_read, h.doors_read, hp, h1, h2, h3, h4, h5, h6, h7]

theorem LatImage.Fits.imageHeadOk (h : i.Fits) : imageHeadOk i.bytes = true := by
  have hhead : i.bytes.take 4 = [0x4C, 0x54, 0x43, 0x31] ∧ le16At i.bytes 4 = 1 ∧ le16At i.bytes 6 = 532 ∧
      (i.bytes.drop 8).take 2 = [24, 12] := by
    rw [LatImage.bytes, LatImage.body_eq]
    exact ⟨rfl, rfl, rfl, rfl⟩
  obtain ⟨h1, h2, h3, h4⟩ := hhead
  simp only [Machine.imageHeadOk, h.length_bytes, h1, h2, h3, h4, beq_self_eq_true, Bool.and_self]

theorem LatImage.Fits.take_bytes (h : i.Fits) : i.bytes.take 528 = i.body := List.take_left' h.length_body

theorem LatImage.Fits.imageCrcOk (h : i.Fits) : imageCrcOk i.bytes = true := by
  have hcrc : (i.bytes.drop 528).take 4 = toLe 4 i.crc := by
    rw [LatImage.bytes, List.drop_left' h.length_body]
    exact List.take_of_length_le (Nat.le_of_eq (length_toLe ..))
  rw [Machine.imageCrcOk, h.take_bytes, hcrc, leNat_toLe, beq_iff_eq]
  exact Nat.mod_eq_of_lt (crc32c_lt _)

theorem LatImage.Fits.imageReservedOk (h : i.Fits) : imageReservedOk i.bytes = true := by
  rw [Machine.imageReservedOk, h.ofBytes_bytes, h.take_bytes, beq_iff_eq]

end

/-- Bytes that pass the format checks are spelled again by their image. -/
theorem LatImage.bytes_ofBytes {bs : List Byte} (hcrc : imageCrcOk bs = true) (hhead : imageHeadOk bs = true)
    (hres : imageReservedOk bs = true) : (LatImage.ofBytes bs).bytes = bs := by
  have hlen : bs.length = 532 := by
    simp only [imageHeadOk, Bool.and_eq_true, beq_iff_eq] at hhead
    exact hhead.1.1.1.1
  have hbody : (LatImage.ofBytes bs).body = bs.take 528 := beq_iff_eq.mp hres
  have hdrop : (bs.drop 528).take 4 = bs.drop 528 := List.take_of_length_le (by simp [hlen])
  have hsum : crc32c (bs.take 528) = leNat ((bs.drop 528).take 4) := (beq_iff_eq.mp hcrc).symm
  rw [LatImage.bytes, LatImage.crc, hbody, hsum, toLe_leNat_take (by simp [hlen]), hdrop,
    List.take_append_drop]

/-! State records and table headers (R59). -/

/-- Byte `n` of a string, after the bytes before it. -/
theorem take_append_byte {n : Nat} {bs : List Byte} (h : n < bs.length) :
    bs.take n ++ [byte (leNat ((bs.drop n).take 1))] = bs.take (n + 1) := by
  rw [singleton_byte, toLe_leNat_take (by rw [List.length_drop]; omega), ← List.take_add]

theorem Act.bytes_ofBytes (c : List Byte) (h : c.length = 4) : (Act.ofBytes c).bytes = c := by
  match c, h with
  | [b0, b1, b2, b3], _ => simp [Act.ofBytes, Act.bytes, leNat]

theorem Trans.bytes_ofBytes (c : List Byte) (h : c.length = 12) : (Trans.ofBytes c).bytes = c := by
  have hlits : ((chunks 2 5 c).map leNat).flatMap (toLe 2) = c.take 10 :=
    flatMap_chunks (by omega) fun d hd => by rw [← hd]; exact toLe_leNat d
  calc (Trans.ofBytes c).bytes
      = (c.take 10 ++ [byte (leNat ((c.drop 10).take 1))]) ++ [byte (leNat ((c.drop 11).take 1))] := by
        rw [List.append_assoc, ← hlits]; rfl
    _ = c.take 12 := by rw [take_append_byte (by omega), take_append_byte (by omega)]
    _ = c := List.take_of_length_le (by omega)

theorem StateRec.bytes_ofBytes (bs : List Byte) (h : bs.length = 144) : (StateRec.ofBytes bs).bytes = bs := by
  have hacts : ((chunks 4 8 (bs.drop 16)).map Act.ofBytes).flatMap Act.bytes = (bs.drop 16).take 32 :=
    flatMap_chunks (by rw [List.length_drop]; omega) Act.bytes_ofBytes
  have htrans : ((chunks 12 8 (bs.drop 48)).map Trans.ofBytes).flatMap Trans.bytes = (bs.drop 48).take 96 :=
    flatMap_chunks (by rw [List.length_drop]; omega) Trans.bytes_ofBytes
  have hhead : [byte (leNat (bs.take 1)), byte (leNat ((bs.drop 1).take 1)), byte (leNat ((bs.drop 2).take 1)),
      byte (leNat ((bs.drop 3).take 1))] = bs.take 4 :=
    calc _ = bs.take 0 ++ [byte (leNat ((bs.drop 0).take 1))] ++ [byte (leNat ((bs.drop 1).take 1))] ++
          [byte (leNat ((bs.drop 2).take 1))] ++ [byte (leNat ((bs.drop 3).take 1))] := rfl
      _ = bs.take 4 := by
        rw [take_append_byte (by omega), take_append_byte (by omega), take_append_byte (by omega),
          take_append_byte (by omega)]
  calc (StateRec.ofBytes bs).bytes
      = bs.take 4 ++ (bs.drop 4).take 12 ++ (bs.drop 16).take 32 ++ (bs.drop 48).take 96 := by
        rw [← hhead, ← hacts, ← htrans]; rfl
    _ = bs.take 144 := by rw [← List.take_add, ← List.take_add, ← List.take_add]
    _ = bs := List.take_of_length_le (by omega)

/-- The table that a header and its records spell has bytes 0 to 11 of this header. -/
theorem SeqTab.head_ofParts {h : List Byte} {rs : List StateRec} (hl : h.length = 16)
    (hmagic : h.take 4 = [0x53, 0x51, 0x54, 0x31]) (hres : h.getD 9 0 = 0) (hcount : (h.getD 5 0).toNat = rs.length) :
    (SeqTab.ofParts h rs).head = h.take 12 := by
  match h, hl with
  | [b0, b1, b2, b3, b4, b5, b6, b7, b8, b9, b10, b11, b12, b13, b14, b15], _ =>
    have hstart : toLe 2 (leNat [b10, b11]) = [b10, b11] := toLe_leNat [b10, b11]
    have hkind (b : Byte) : byte (leNat [b]) = b := by simp [leNat]
    have hb5 : byte rs.length = b5 := by rw [← hcount]; exact byte_toNat b5
    have hb9 : b9 = 0 := hres
    have hhead : (SeqTab.ofParts [b0, b1, b2, b3, b4, b5, b6, b7, b8, b9, b10, b11, b12, b13, b14, b15] rs).head =
      [b0, b1, b2, b3] ++ [byte (leNat [b4]), byte rs.length, byte (leNat [b6]), byte (leNat [b7]), byte (leNat [b8]),
        0] ++ toLe 2 (leNat [b10, b11]) := by
      have hm : [b0, b1, b2, b3] = [0x53, 0x51, 0x54, 0x31] := hmagic
      rw [hm]; rfl
    rw [hhead, hstart, hb5, hkind, hkind, hkind, hkind, hb9]
    rfl

/-- Settles O54: the parts of an image, a record and a header are read from the places where they are spelled. -/
theorem imagesAndTablesReadBack : Obligations.ImagesAndTablesReadBack := by
  unfold Obligations.ImagesAndTablesReadBack
  refine ⟨fun i hleaves hdoors htrain htimes hleaf hdoor => ?_, fun _ => LatImage.bytes_ofBytes,
    StateRec.bytes_ofBytes, fun h rs hl hmagic hres hcount hcrc => ?_⟩
  · have hi : i.Fits := ⟨hleaves, hdoors, htrain, htimes, hleaf, hdoor⟩
    exact ⟨hi.length_bytes, hi.imageCrcOk, hi.imageHeadOk, hi.imageReservedOk, hi.ofBytes_bytes⟩
  · have hlen : (h.drop 12).length = 4 := by rw [List.length_drop, hl]
    have htail : toLe 4 (leNat (h.drop 12)) = h.drop 12 := by rw [← hlen]; exact toLe_leNat _
    have hstates : (SeqTab.ofParts h rs).states = rs := rfl
    rw [SeqTab.header, SeqTab.crc, SeqTab.head_ofParts hl hmagic hres hcount, hstates, ← hcrc, htail,
      List.take_append_drop]

end Sys2Proof.Machine
end

section
/-! The terms of the lattice, its loop and its permits: what they read and what an evaluation leaves -/
namespace Sys2Proof.Machine
open Sys2Proof Sys2Proof.Config

/-! The terms of the lattice read its contacts, its image, the dies and four objects. -/

set_option Elab.async false in
/-- The objects that the terms read. -/
def termKeys : List Nat := [Obj.latticeState, Obj.leafInputFault, Obj.doorwayInputFault, Obj.trainInputFault]

/-- From `s` to `t` nothing that a term reads has moved. -/
structure SameTerms (s t : State) : Prop where
  contacts : t.lat.contacts = s.lat.contacts
  image : t.recd.activeImage = s.recd.activeImage
  dies : t.dies = s.dies
  variant : t.variant = s.variant
  obj : ∀ k ∈ termKeys, t.get k = s.get k

theorem SameTerms.refl (s : State) : SameTerms s s := ⟨rfl, rfl, rfl, rfl, fun _ _ => rfl⟩

theorem SameTerms.trans {s t u : State} (h : SameTerms s t) (g : SameTerms t u) : SameTerms s u :=
  ⟨g.contacts.trans h.contacts, g.image.trans h.image, g.dies.trans h.dies, g.variant.trans h.variant,
    fun k hk => (g.obj k hk).trans (h.obj k hk)⟩

theorem SameTerms.ite {s t u : State} {p : Prop} [Decidable p] (h : SameTerms s t) (g : SameTerms s u) :
    SameTerms s (if p then t else u) := by
  split <;> assumption

section
variable {s t : State}

theorem SameTerms.put {k v : Nat} (hk : k ∉ termKeys) (s : State) : SameTerms s (s.put k v) :=
  ⟨by rw [put_lat], by rw [put_recd], put_dies .., put_variant .., fun _ hj => get_put_ne _ _ _ _ fun h => hk (h ▸ hj)⟩

/-- What moves neither the lattice, its image nor the dies, and no object of the terms. -/
theorem SameTerms.of_moves {κ : Nat} (h : Moves κ s t) (ho : ∀ k ∈ termKeys, t.get k = s.get k)
    (hc : κ.testBit Part.lat.ctorIdx = false ∧ κ.testBit Part.image.ctorIdx = false ∧
      κ.testBit Part.dies.ctorIdx = false := by decide) : SameTerms s t :=
  have hlat : t.lat = s.lat := h.part .lat hc.1
  ⟨congrArg Lattice.contacts hlat, h.part .image hc.2.1, h.part .dies hc.2.2, h.variant, ho⟩

theorem noisy_termKeys : ∀ k ∈ termKeys, noisy k = false := by decide

theorem sameTerms_latticeFault (k r c : Nat) (s : State) : SameTerms s (latticeFault k r c s) :=
  .of_moves (latticeFault_moves (κ := caps [.objs, .recd]) (.refl s)) fun j hj =>
    latticeFault_get _ _ _ _ _ (noisy_termKeys j hj)

theorem sameTerms_admitEvent (log kind src : Nat) (body : List Byte) (s : State) :
    SameTerms s (admitEvent log kind src body s) :=
  .of_moves (admitEvent_moves (κ := caps [.objs, .recd]) (.refl s)) fun j hj =>
    admitEvent_get _ _ _ _ _ _ (noisy_termKeys j hj)

section
variable (h : SameTerms s t)
include h

theorem SameTerms.latticeState : t.get Obj.latticeState = s.get Obj.latticeState := h.obj _ (by decide)

theorem SameTerms.latRun : t.latRun = s.latRun := by rw [State.latRun, State.latRun, h.latticeState]

theorem SameTerms.die (k : Nat) : t.die k = s.die k := by rw [State.die, State.die, h.dies]

theorem SameTerms.latLink (k : Nat) : t.latLink k = s.latLink k := by
  rw [State.latLink, State.latLink, h.variant, h.die]

theorem SameTerms.fd0Ok : t.fd0Ok = s.fd0Ok := by rw [State.fd0Ok, State.fd0Ok, h.latLink, h.die]

theorem SameTerms.image_eq : t.image = s.image := h.image

theorem SameTerms.contact (c : Nat) : t.contact c = s.contact c := by rw [State.contact, State.contact, h.contacts]

theorem SameTerms.asserted (i : LatInput) : t.asserted i = s.asserted i := by
  simp only [State.asserted, h.image_eq, h.latLink, h.contact]

theorem SameTerms.leafFault (l : Nat) : t.bit Obj.leafInputFault l = s.bit Obj.leafInputFault l := by
  rw [State.bit, State.bit, h.obj Obj.leafInputFault (by decide)]

theorem SameTerms.doorwayFault (d : Nat) : t.bit Obj.doorwayInputFault d = s.bit Obj.doorwayInputFault d := by
  rw [State.bit, State.bit, h.obj Obj.doorwayInputFault (by decide)]

theorem SameTerms.trainFault (d : Nat) : t.bit Obj.trainInputFault d = s.bit Obj.trainInputFault d := by
  rw [State.bit, State.bit, h.obj Obj.trainInputFault (by decide)]

theorem SameTerms.closedLocked (l : Fin 24) : t.closedLocked l = s.closedLocked l := by
  simp only [State.closedLocked, State.leafSound, h.image_eq, h.asserted, h.leafFault]

theorem SameTerms.handleOpens (d : Fin 12) : t.handleOpens d = s.handleOpens d := by
  simp only [State.handleOpens, h.image_eq, h.asserted, h.doorwayFault]

theorem SameTerms.loopTerm : t.loopTerm = s.loopTerm := by
  simp only [State.loopTerm, h.latRun, h.fd0Ok, h.image_eq, h.closedLocked, h.handleOpens]

theorem SameTerms.trainOn (i : Fin 3) : t.trainOn i = s.trainOn i := by
  simp only [State.trainOn, h.asserted, h.trainFault]

theorem SameTerms.sidePermit (right : Bool) : t.sidePermit right = s.sidePermit right := by
  simp only [State.sidePermit, h.latRun, h.trainOn]

theorem SameTerms.handleOn (d : Fin 12) : t.handleOn d = s.handleOn d := by
  simp only [State.handleOn, h.asserted, h.doorwayFault]

theorem SameTerms.doorPermit : t.doorPermit = s.doorPermit := by
  funext d
  simp only [State.doorPermit, h.image_eq, h.sidePermit, h.latRun, h.trainOn, h.handleOn]

theorem SameTerms.gateTerm : t.gateTerm = s.gateTerm := by
  funext l
  simp only [State.gateTerm, h.image_eq, h.latRun, h.doorPermit, h.asserted]

theorem SameTerms.permitWord : t.permitWord = s.permitWord := by
  simp only [State.permitWord, h.doorPermit, h.trainOn, h.sidePermit]

end

/-! The exit from DOZE. -/

/-- The objects that the exit from DOZE moves. -/
def dozeKeys : List Nat := [Obj.powerState, Obj.portStatus 0, Obj.portStatus 1]

theorem dozeExit_get {k : Nat} (hk : k ∉ dozeKeys) (s : State) : (dozeExit s).get k = s.get k := by
  simp only [dozeKeys, List.mem_cons, List.not_mem_nil, or_false, not_or] at hk
  obtain ⟨hpow, hport0, hport1⟩ := hk
  unfold dozeExit
  split
  · simp only [each, List.foldl]
    split <;> split <;> simp [hpow, hport0, hport1]
  · rfl

theorem termKeys_not_dozeKeys : ∀ k ∈ termKeys, k ∉ dozeKeys := by decide

theorem sameTerms_dozeExit (s : State) : SameTerms s (dozeExit s) :=
  .of_moves (dozeExit_moves (κ := caps [.objs, .pow, .net]) (.refl s)) fun k hk => dozeExit_get (termKeys_not_dozeKeys k hk) s

/-- A change in the lattice ends as it is, but for the exit from DOZE. -/
theorem latticeMoves_eq (f : State → State) (s : State) :
    latticeMoves f s = f s ∨ latticeMoves f s = dozeExit (f s) := by
  unfold latticeMoves
  dsimp only
  split
  · exact .inl rfl
  · exact .inr rfl

theorem latticeMoves_get (f : State → State) {k : Nat} (hk : k ∉ dozeKeys) (s : State) :
    (latticeMoves f s).get k = (f s).get k := by
  obtain h | h := latticeMoves_eq f s
  · rw [h]
  · rw [h, dozeExit_get hk]

theorem latticeMoves_woken (f : State → State) (s : State) :
    Moves (caps [.objs, .pow, .net]) (f s) (latticeMoves f s) := by
  obtain h | h := latticeMoves_eq f s
  · rw [h]; exact .refl _
  · rw [h]; exact dozeExit_moves (.refl _)

theorem latticeMoves_lat (f : State → State) (s : State) : (latticeMoves f s).lat = (f s).lat :=
  (latticeMoves_woken f s).part .lat (by decide)

theorem sameTerms_latticeMoves (f : State → State) (s : State) : SameTerms (f s) (latticeMoves f s) :=
  .of_moves (latticeMoves_woken f s) fun k hk => latticeMoves_get f (termKeys_not_dozeKeys k hk) s

/-! Coils. -/

theorem coil_onCoil_same (i : Nat) (f : Coil → Coil) (s : State)
    (h : ∀ c, (f c).on = false) : ((s.onCoil i f).coil i).on = false := by
  show ((s.lat.coils.modify i f).getD i Coil.reset).on = false
  rw [List.getD_eq_getElem?_getD, List.getElem?_modify]
  cases s.lat.coils[i]? with
  | none => rfl
  | some c => simpa using h c

theorem coil_onCoil_ne {i j : Nat} (hij : j ≠ i) (f : Coil → Coil) (s : State) : (s.onCoil i f).coil j = s.coil j := by
  show (s.lat.coils.modify i f).getD j Coil.reset = s.lat.coils.getD j Coil.reset
  rw [List.getD_eq_getElem?_getD, List.getElem?_modify, List.getD_eq_getElem?_getD]
  cases s.lat.coils[j]? with
  | none => rfl
  | some c => simp [hij.symm]

theorem coil_coilOff (i : Nat) (s : State) : ((coilOff i s).coil i).on = false := by
  have h : ((s.onCoil i fun c => { c with on := false, want := false, offAt := if c.on then s.now else c.offAt }).coil
      i).on = false := coil_onCoil_same i _ s fun _ => rfl
  unfold coilOff
  dsimp only
  split <;> exact h

theorem coil_coilOff_ne {i j : Nat} (hij : j ≠ i) (s : State) : (coilOff i s).coil j = s.coil j := by
  unfold coilOff
  dsimp only
  split <;> exact coil_onCoil_ne hij _ s

theorem coil_energise_ne {i j : Nat} (hij : j ≠ i) (s : State) : (energise i s).coil j = s.coil j := by
  unfold energise
  dsimp only
  split
  · exact coil_onCoil_ne hij _ s
  · rfl

theorem coil_demandCoil_ne {i j : Nat} (w : Bool) (hij : j ≠ i) (s : State) : (demandCoil i w s).coil j = s.coil j := by
  unfold demandCoil
  split
  · rw [coil_energise_ne hij, coil_onCoil_ne hij]
  · exact coil_coilOff_ne hij s

/-- A coil that its term does not demand is off. -/
theorem evalLoop_off {i : Nat} (hi : i < 2) (s : State) (h : s.demands i = false) : ((evalLoop s).coil i).on = false := by
  have hoff (u : State) : ((demandCoil i (s.demands i) u).coil i).on = false := by
    rw [h]; exact coil_coilOff i u
  obtain rfl | rfl : i = 0 ∨ i = 1 := by omega
  · rw [evalLoop, coil_demandCoil_ne _ (by decide)]
    exact hoff s
  · exact hoff _

/-- The loop's evaluation moves the coils and the time at which the loop opened, and nothing else. -/
def State.unlooped (s : State) : State := s.onLat fun l => { l with coils := [], loopOpenAt := 0 }

theorem unlooped_energise (i : Nat) (s : State) : (energise i s).unlooped = s.unlooped := by
  unfold energise
  dsimp only
  split <;> rfl

theorem unlooped_coilOff (i : Nat) (s : State) : (coilOff i s).unlooped = s.unlooped := by
  unfold coilOff
  dsimp only
  split <;> rfl

theorem unlooped_demandCoil (i : Nat) (w : Bool) (s : State) : (demandCoil i w s).unlooped = s.unlooped := by
  unfold demandCoil
  split
  · rw [unlooped_energise]; rfl
  · exact unlooped_coilOff i s

theorem unlooped_evalLoop (s : State) : (evalLoop s).unlooped = s.unlooped := by
  rw [evalLoop, unlooped_demandCoil, unlooped_demandCoil]

section
variable (h : t.unlooped = s.unlooped)
include h

theorem get_of_unlooped (k : Nat) : t.get k = s.get k :=
  get_congr _ t k (show t.unlooped.variant = s.unlooped.variant from congrArg State.variant h)
    (show t.unlooped.objs = s.unlooped.objs from congrArg State.objs h)

theorem sameTerms_of_unlooped : SameTerms s t where
  contacts := show t.unlooped.lat.contacts = s.unlooped.lat.contacts from h ▸ rfl
  image := show t.unlooped.recd.activeImage = s.unlooped.recd.activeImage from h ▸ rfl
  dies := show t.unlooped.dies = s.unlooped.dies from h ▸ rfl
  variant := show t.unlooped.variant = s.unlooped.variant from h ▸ rfl
  obj k _ := get_of_unlooped h k

end

theorem evalLoop_get (k : Nat) (s : State) : (evalLoop s).get k = s.get k := get_of_unlooped (unlooped_evalLoop s) k

theorem sameTerms_evalLoop (s : State) : SameTerms s (evalLoop s) := sameTerms_of_unlooped (unlooped_evalLoop s)

/-- Without RUN no coil is demanded. -/
theorem demands_of_not_run {i : Nat} (h : s.latRun = false) : s.demands i = false := by
  simp only [State.demands, h, Bool.false_and]

/-- Coil 0 follows the term. -/
theorem demands_zero (h : s.loopTerm = false) : s.demands 0 = false := by
  simp only [State.demands, h, Nat.zero_ne_one, false_and, if_false, Bool.and_false]

/-- Off a platform variant coil 1 follows the term. -/
theorem demands_one (h : s.loopTerm = false) (hp : s.variant.isP = false) : s.demands 1 = false := by
  simp only [State.demands, h, hp, Bool.false_eq_true, and_false, if_false, Bool.and_false]

/-! Permits and gates. -/

theorem permitStatus_no_term : Obj.permitStatus ∉ termKeys := by decide

theorem sameTerms_publish (s : State) : SameTerms s (publish s) :=
  (SameTerms.put permitStatus_no_term s).trans ⟨rfl, rfl, rfl, rfl, fun _ _ => rfl⟩

theorem publish_get {k : Nat} (hk : k ≠ Obj.permitStatus) (s : State) : (publish s).get k = s.get k :=
  get_put_ne _ _ _ s hk

theorem publish_coil (i : Nat) (s : State) : (publish s).coil i = s.coil i := by
  simp only [publish, State.coil, State.onLat, put_lat]

theorem publish_gates (s : State) : (publish s).lat.gates = (List.finRange 24).map (publish s).gateTerm := by
  rw [(sameTerms_publish s).gateTerm]
  rfl

theorem bitVal_le_one (b : Bool) : bitVal b ≤ 1 := by cases b <;> decide

theorem ofBits_lt (bs : List Bool) : ofBits bs < 2 ^ bs.length := by
  induction bs with
  | nil => exact Nat.one_pos
  | cons b bs ih =>
    have hb : bitVal b ≤ 1 := bitVal_le_one b
    rw [ofBits, List.length_cons, Nat.pow_succ]
    omega

theorem permitWord_lt (s : State) : s.permitWord < 4294967296 := by
  have hdoors := ofBits_lt ((List.finRange 12).map s.doorPermit)
  rw [List.length_map, List.length_finRange] at hdoors
  have h0 := bitVal_le_one (s.trainOn 0)
  have h1 := bitVal_le_one (s.trainOn 1)
  have h2 := bitVal_le_one (s.trainOn 2)
  have h3 := bitVal_le_one (s.sidePermit false)
  have h4 := bitVal_le_one (s.sidePermit true)
  rw [State.permitWord]
  omega

theorem publish_permits (s : State) : (publish s).get Obj.permitStatus = (publish s).permitWord := by
  have hfit : fitTo Obj.permitStatus s.permitWord = s.permitWord := by
    have hs : sizeOf Obj.permitStatus = 4 := by decide
    rw [fitTo, hs, if_neg (by decide)]
    exact Nat.mod_eq_of_lt (permitWord_lt s)
  rw [(sameTerms_publish s).permitWord]
  exact (get_put_self _ _ s (by decide)).trans hfit

/-- Outside RUN no doorway has a permit, no gate opens, and of PermitStatus the train bits alone can be set. -/
theorem not_run_terms (h : s.latRun = false) :
    (∀ d, s.doorPermit d = false) ∧ (∀ l, s.gateTerm l = false) ∧
      ∀ j, j < 12 ∨ j = 24 ∨ j = 25 → s.permitWord.testBit j = false := by
  have hside (r : Bool) : s.sidePermit r = false := by simp only [State.sidePermit, h, Bool.false_and]
  have hdoor (d : Fin 12) : s.doorPermit d = false := by
    simp only [State.doorPermit, hside, h, Bool.false_and, Bool.or_self, Bool.and_false]
  have hzero : (List.finRange 12).map s.doorPermit = List.replicate 12 false := by
    rw [show s.doorPermit = fun _ => false from funext hdoor]; decide
  have hword : s.permitWord = 2 ^ 21 * (bitVal (s.trainOn 0) + 2 * bitVal (s.trainOn 1) + 4 * bitVal (s.trainOn 2)) := by
    rw [State.permitWord, hzero, hside, hside]
    have hf : bitVal false = 0 := rfl
    have hr : ofBits (List.replicate 12 false) = 0 := by decide
    rw [hf, hr]
    omega
  have h0 := bitVal_le_one (s.trainOn 0)
  have h1 := bitVal_le_one (s.trainOn 1)
  have h2 := bitVal_le_one (s.trainOn 2)
  refine ⟨hdoor, fun l => by simp only [State.gateTerm, hdoor, Bool.and_false, Bool.false_and], fun j hj => ?_⟩
  rw [hword, Nat.testBit_two_pow_mul]
  obtain hlow | rfl | rfl := hj
  · have : ¬ j ≥ 21 := by omega
    simp [this]
  · have hlt : bitVal (s.trainOn 0) + 2 * bitVal (s.trainOn 1) + 4 * bitVal (s.trainOn 2) < 2 ^ 3 := by omega
    rw [Nat.testBit_lt_two_pow hlt, Bool.and_false]
  · have hlt : bitVal (s.trainOn 0) + 2 * bitVal (s.trainOn 1) + 4 * bitVal (s.trainOn 2) < 2 ^ 4 := by omega
    rw [Nat.testBit_lt_two_pow hlt, Bool.and_false]

end

end Sys2Proof.Machine
end

section
/-! The entry into HELD (R38) -/
namespace Sys2Proof.Machine
open Sys2Proof Sys2Proof.Config

set_option Elab.async false in
/-- What the first act of HELD leaves: the cause noted and the lattice in HELD. -/
def noteHeld (causes : Nat) (s : State) : State :=
  (s.put Obj.heldCause (s.get Obj.heldCause ||| causes)).put Obj.latticeState 2

theorem noteHeld_get {k : Nat} (hc : k ≠ Obj.heldCause) (hl : k ≠ Obj.latticeState) (causes : Nat) (s : State) :
    (noteHeld causes s).get k = s.get k := by
  rw [noteHeld, get_put_ne _ _ _ _ hl, get_put_ne _ _ _ _ hc]

theorem noteHeld_state (causes : Nat) (s : State) : (noteHeld causes s).get Obj.latticeState = 2 :=
  get_put_self _ _ _ (by decide)

theorem noteHeld_cause (causes : Nat) (s : State) :
    (noteHeld causes s).get Obj.heldCause = fitTo Obj.heldCause (s.get Obj.heldCause ||| causes) := by
  rw [noteHeld, get_put_ne _ _ _ _ (by decide), get_put_self _ _ _ (by decide)]

theorem noteHeld_not_run (causes : Nat) (s : State) : (noteHeld causes s).latRun = false := by
  rw [State.latRun, noteHeld_state]; rfl

/-- The entry into HELD, without the exit from DOZE. -/
def holdLattice (causes : Nat) (s : State) : State :=
  if s.get Obj.latticeState != 2 then
    latticeFault Obj.heldCause 0x09 ((publish (evalLoop (noteHeld causes s))).get Obj.heldCause)
      (publish (evalLoop (noteHeld causes s)))
  else publish (evalLoop (noteHeld causes s))

theorem enterHeld_eq (causes : Nat) (s : State) : enterHeld causes s = latticeMoves (holdLattice causes) s := rfl

/-- HELD is the noted cause with the loop evaluated and the permits published; a record and the exit from DOZE may follow. -/
theorem enterHeld_from (causes : Nat) (s : State) :
    (enterHeld causes s).lat = (publish (evalLoop (noteHeld causes s))).lat ∧
    SameTerms (publish (evalLoop (noteHeld causes s))) (enterHeld causes s) ∧
    ∀ k, noisy k = false → k ∉ dozeKeys →
      (enterHeld causes s).get k = (publish (evalLoop (noteHeld causes s))).get k := by
  have hrec (u : State) (b : Bool) (k c : Nat) :
      (if b then latticeFault k 0x09 c u else u).lat = u.lat ∧
      SameTerms u (if b then latticeFault k 0x09 c u else u) ∧
      ∀ j, noisy j = false → (if b then latticeFault k 0x09 c u else u).get j = u.get j := by
    cases b
    · exact ⟨rfl, .refl _, fun _ _ => rfl⟩
    · exact ⟨(noted_latticeFault ..).lat, sameTerms_latticeFault .., fun j hj => latticeFault_get _ _ _ _ _ hj⟩
  obtain ⟨hlat, hterms, hget⟩ := hrec (publish (evalLoop (noteHeld causes s))) (s.get Obj.latticeState != 2) Obj.heldCause
    ((publish (evalLoop (noteHeld causes s))).get Obj.heldCause)
  rw [enterHeld_eq]
  exact ⟨(latticeMoves_lat _ s).trans hlat, hterms.trans (sameTerms_latticeMoves (holdLattice causes) s),
    fun k hk hd => (latticeMoves_get _ hd s).trans (hget k hk)⟩

theorem enterHeld_get {k : Nat} (hn : noisy k = false) (hd : k ∉ dozeKeys) (hp : k ≠ Obj.permitStatus) (causes : Nat)
    (s : State) : (enterHeld causes s).get k = (noteHeld causes s).get k := by
  rw [(enterHeld_from causes s).2.2 k hn hd, publish_get hp, evalLoop_get]

/-- The coils are off, the gates closed and the permits false after the entry into HELD. -/
theorem enterHeld_off (causes : Nat) (s : State) :
    (∀ j : Fin 2, ((enterHeld causes s).coil j).on = false) ∧ (∀ g ∈ (enterHeld causes s).lat.gates, g = false) ∧
      ∀ j, j < 12 ∨ j = 24 ∨ j = 25 → (enterHeld causes s).bit Obj.permitStatus j = false := by
  obtain ⟨hlat, -, hget⟩ := enterHeld_from causes s
  have hrun := noteHeld_not_run causes s
  have hrun' : (publish (evalLoop (noteHeld causes s))).latRun = false := by
    rw [(sameTerms_publish _).latRun, (sameTerms_evalLoop _).latRun, hrun]
  obtain ⟨-, hgates, hpermits⟩ := not_run_terms hrun'
  refine ⟨fun j => ?_, fun g hg => ?_, fun j hj => ?_⟩
  · rw [State.coil, hlat]
    exact (congrArg Coil.on (publish_coil j _)).trans (evalLoop_off j.isLt _ (demands_of_not_run hrun))
  · rw [hlat, publish_gates] at hg
    obtain ⟨l, -, rfl⟩ := List.mem_map.1 hg
    exact hgates l
  · rw [State.bit, hget _ (by decide) (by decide), publish_permits]
    exact hpermits j hj

theorem testBit_fitTo {k v j : Nat} (h : j < 8 * sizeOf k) : (fitTo k v).testBit j = v.testBit j := by
  unfold fitTo
  split
  · rfl
  · rw [show (256 : Nat) = 2 ^ 8 from rfl, ← Nat.pow_mul, Nat.testBit_mod_two_pow, decide_eq_true h, Bool.true_and]

theorem enterHeld_entersHeld (i : Nat) (s : State) : EntersHeld i s (enterHeld (2 ^ i) s) := by
  obtain ⟨hcoils, hgates, hpermits⟩ := enterHeld_off (2 ^ i) s
  refine ⟨?_, fun j hj => ?_, hcoils, hgates, hpermits⟩
  · rw [enterHeld_get (by decide) (by decide) (by decide), noteHeld_state]
  · rw [State.bit, enterHeld_get (by decide) (by decide) (by decide), noteHeld_cause, testBit_fitTo hj, Nat.testBit_or,
      Nat.testBit_two_pow, State.bit]
    by_cases hji : j = i
    · simp [hji]
    · simp [hji, Ne.symm hji]

/-- HELD over a state that differs from `s` in the hidden state of the lattice alone. -/
theorem EntersHeld.of_get {i : Nat} {s u t : State} (h : EntersHeld i u t) (hg : ∀ k, u.get k = s.get k) :
    EntersHeld i s t :=
  { h with cause := fun j hj => by rw [h.cause j hj, State.bit, State.bit, hg] }

/-- A row whose act is the entry into HELD. -/
theorem answers_enterHeld {c : Instr} {s u : State} {i : Nat} (he : exec c s = s.answer (enterHeld (2 ^ i) u))
    (hv : u.variant = s.variant) (hp : u.pending = s.pending) (hg : ∀ k, u.get k = s.get k) :
    Answers c s (EntersHeld i s) :=
  have ht : Moves (caps [.objs, .lat, .recd, .pow, .net, .loop]) u (enterHeld (2 ^ i) u) := enterHeld_moves (.refl u)
  answers_answer _ he (ht.variant.trans hv) (ht.pending.trans hp) ((enterHeld_entersHeld i u).of_get hg)

/-! Windows and counts of the monitor. -/

/-- The monitor notes a window. -/
def noteWindow (good : Bool) (s : State) : State :=
  s.onLat fun l => { l with badWindows := if good then 0 else l.badWindows + 1
                            goodWindows := if good then l.goodWindows + 1 else 0 }

/-- The monitor notes a count. -/
def noteCount (good : Bool) (s : State) : State :=
  s.onLat fun l => { l with badCounts := if good then 0 else l.badCounts + 1
                            goodCounts := if good then l.goodCounts + 1 else 0 }

theorem exec_monitorWindow {s : State} (hl : s.live = true) (n : Nat) : exec (.monitorWindow n) s = s.answer
    (if 2 ≤ (noteWindow (decide (1280 ≤ n ∧ n ≤ 1920)) s).lat.badWindows
      then enterHeld (2 ^ 3) (noteWindow (decide (1280 ≤ n ∧ n ≤ 1920)) s)
      else noteWindow (decide (1280 ≤ n ∧ n ≤ 1920)) s) := by
  show execMonitorWindow n s = _
  rw [execMonitorWindow, answerLive_live hl]
  rfl

theorem exec_monitorCount {s : State} (hl : s.live = true) (n : Nat) : exec (.monitorCount n) s = s.answer
    (if 2 ≤ (noteCount (decide (205 ≤ n ∧ n ≤ 307)) s).lat.badCounts
      then enterHeld (2 ^ 4) (noteCount (decide (205 ≤ n ∧ n ≤ 307)) s)
      else noteCount (decide (205 ≤ n ∧ n ≤ 307)) s) := by
  show execMonitorCount n s = _
  rw [execMonitorCount, answerLive_live hl]
  rfl

/-- A window outside its limits: the second in a row brings HELD, a first one is remembered. -/
theorem monitorWindow_bad {s : State} (hl : s.live = true) {n : Nat} (hn : n < 1280 ∨ 1920 < n) :
    (1 ≤ s.lat.badWindows → Answers (.monitorWindow n) s (EntersHeld 3 s)) ∧
    (s.lat.badWindows = 0 → Answers (.monitorWindow n) s fun t =>
      t.objs = s.objs ∧ t.lat = { s.lat with badWindows := 1, goodWindows := 0 }) := by
  have hgood : decide (1280 ≤ n ∧ n ≤ 1920) = false := decide_eq_false (by omega)
  have he := exec_monitorWindow hl n
  rw [hgood] at he
  have hbad : (noteWindow false s).lat.badWindows = s.lat.badWindows + 1 := rfl
  refine ⟨fun h => answers_enterHeld (u := noteWindow false s) ?_ rfl rfl fun _ => rfl,
    fun h => answers_answer (noteWindow false s) ?_ rfl rfl ⟨rfl, ?_⟩⟩
  · rw [he, if_pos (by omega)]
  · rw [he, if_neg (by omega)]
  · simp [noteWindow, State.onLat, h]

/-- A count outside its limits: the second in a row brings HELD, a first one is remembered. -/
theorem monitorCount_bad {s : State} (hl : s.live = true) {n : Nat} (hn : n < 205 ∨ 307 < n) :
    (1 ≤ s.lat.badCounts → Answers (.monitorCount n) s (EntersHeld 4 s)) ∧
    (s.lat.badCounts = 0 → Answers (.monitorCount n) s fun t =>
      t.objs = s.objs ∧ t.lat = { s.lat with badCounts := 1, goodCounts := 0 }) := by
  have hgood : decide (205 ≤ n ∧ n ≤ 307) = false := decide_eq_false (by omega)
  have he := exec_monitorCount hl n
  rw [hgood] at he
  have hbad : (noteCount false s).lat.badCounts = s.lat.badCounts + 1 := rfl
  refine ⟨fun h => answers_enterHeld (u := noteCount false s) ?_ rfl rfl fun _ => rfl,
    fun h => answers_answer (noteCount false s) ?_ rfl rfl ⟨rfl, ?_⟩⟩
  · rw [he, if_pos (by omega)]
  · rw [he, if_neg (by omega)]
  · simp [noteCount, State.onLat, h]

theorem monitorWindow_good {s : State} (hl : s.live = true) {n : Nat} (h1 : 1280 ≤ n) (h2 : n ≤ 1920) :
    Answers (.monitorWindow n) s fun t =>
      t.objs = s.objs ∧ t.lat = { s.lat with badWindows := 0, goodWindows := s.lat.goodWindows + 1 } := by
  have he := exec_monitorWindow hl n
  rw [decide_eq_true ⟨h1, h2⟩, if_neg (by simp [noteWindow, State.onLat])] at he
  exact answers_answer _ he rfl rfl ⟨rfl, rfl⟩

theorem monitorCount_good {s : State} (hl : s.live = true) {n : Nat} (h1 : 205 ≤ n) (h2 : n ≤ 307) :
    Answers (.monitorCount n) s fun t =>
      t.objs = s.objs ∧ t.lat = { s.lat with badCounts := 0, goodCounts := s.lat.goodCounts + 1 } := by
  have he := exec_monitorCount hl n
  rw [decide_eq_true ⟨h1, h2⟩, if_neg (by simp [noteCount, State.onLat])] at he
  exact answers_answer _ he rfl rfl ⟨rfl, rfl⟩

/-- Settles O7: each row's guard holds, and its act is the entry into HELD, in which no term holds. -/
theorem everyHeldCauseBringsTheLatticeIntoHeld : Obligations.EveryHeldCauseBringsTheLatticeIntoHeld := by
  intro s hl
  have held {c : Instr} {i : Nat} (he : exec c s = s.answer (enterHeld (2 ^ i) s)) : Answers c s (EntersHeld i s) :=
    answers_enterHeld he rfl rfl fun _ => rfl
  refine ⟨fun n hn => held ?_, fun n hn => (monitorWindow_bad hl hn).1, fun n hn => (monitorCount_bad hl hn).1,
    fun i hon hfd hrb hj ht => held ?_, fun i hon hfd hrb ht => held ?_, fun i hp ht => held ?_, fun i => held ?_,
    fun n hn => (monitorWindow_bad hl hn).2, fun n => monitorWindow_good hl, fun n hn => (monitorCount_bad hl hn).2,
    fun n => monitorCount_good hl⟩
  · show execChannelDisagree n s = _
    rw [execChannelDisagree, answerLive_live hl, if_pos hn]
  · show execRbNoPull i s = _
    rw [execRbNoPull, answerLive_live hl]
    simp only [hon, hfd, hrb, hj, decide_eq_true ht, beq_self_eq_true, Bool.and_self, if_true]
  · show execRbStuckPulled i s = _
    rw [execRbStuckPulled, answerLive_live hl]
    simp only [hon, hfd, hrb, decide_eq_true ht, beq_self_eq_true, Bool.not_false, Bool.and_self, if_true]
  · show execPulseFault i s = _
    rw [execPulseFault, answerLive_live hl]
    simp only [hp, decide_eq_true ht, Bool.and_self, if_true]
  · show execCoilDrive i s = _
    rw [execCoilDrive, answerLive_live hl]

end Sys2Proof.Machine
end

section
/-! Frames, filters and faults of the lattice's inputs (R25 to R30) -/
namespace Sys2Proof.Machine
open Sys2Proof Sys2Proof.Config

/-! Contacts and pairs. -/

set_option Elab.async false in
/-- Coils that an evaluation has left, in a state of the same terms. -/
theorem loop_off_of_term {t u : State} (hterms : SameTerms u t) (hlat : t.lat.coils = (evalLoop u).lat.coils) :
    (t.loopTerm = false → (t.coil 0).on = false) ∧
    (t.loopTerm = false → t.variant.isP = false → (t.coil 1).on = false) := by
  have hcoil (i : Nat) : t.coil i = (evalLoop u).coil i := by rw [State.coil, hlat]; rfl
  refine ⟨fun h => ?_, fun h hp => ?_⟩
  · rw [hterms.loopTerm] at h
    rw [hcoil]
    exact evalLoop_off (by decide) u (demands_zero h)
  · rw [hterms.loopTerm] at h
    rw [hterms.variant] at hp
    rw [hcoil]
    exact evalLoop_off (by decide) u (demands_one h hp)

/-- A contact takes the state that a frame shows. -/
def Contact.take (r fresh : Bool) (now : Nat) (x : Contact) : Contact :=
  if x.seen == r && !fresh then x else { x with seen := r, since := now }

theorem Contact.take_take (r fresh : Bool) (now : Nat) (x : Contact) :
    Contact.take r fresh now (Contact.take r fresh now x) = Contact.take r fresh now x := by
  unfold Contact.take
  cases fresh <;> by_cases h : x.seen = r <;> simp [h]

theorem Contact.take_eq (r fresh : Bool) (now : Nat) (x : Contact) : Contact.take r fresh now x =
    if x.seen = r ∧ fresh = false then x else { x with seen := r, since := now } := by
  unfold Contact.take
  simp only [Bool.and_eq_true, beq_iff_eq, Bool.not_eq_true']

/-- A frame moves the contacts alone. -/
def State.uncontacted (s : State) : State := s.onLat fun l => { l with contacts := [] }

theorem uncontacted_onContact (c : Nat) (f : Contact → Contact) (s : State) :
    (s.onContact c f).uncontacted = s.uncontacted := rfl

theorem lattRaw_of_uncontacted {s t : State} (h : t.uncontacted = s.uncontacted) (c : Nat) :
    t.lattRaw c = s.lattRaw c := by
  show t.uncontacted.lattRaw c = s.uncontacted.lattRaw c
  rw [h]

theorem now_of_uncontacted {s t : State} (h : t.uncontacted = s.uncontacted) : t.now = s.now :=
  show t.uncontacted.now = s.uncontacted.now from h ▸ rfl

/-- What delivering a frame to a list of contacts leaves. -/
theorem each_take (fresh : Bool) (cs : List Nat) (s : State) :
    (each cs (fun c s => s.onContact c (Contact.take (s.lattRaw c) fresh s.now)) s).uncontacted = s.uncontacted ∧
    ∀ c, (each cs (fun c s => s.onContact c (Contact.take (s.lattRaw c) fresh s.now)) s).lat.contacts[c]? =
      if c ∈ cs then s.lat.contacts[c]?.map (Contact.take (s.lattRaw c) fresh s.now) else s.lat.contacts[c]? := by
  induction cs generalizing s with
  | nil => exact ⟨rfl, fun c => by simp [each]⟩
  | cons b bs ih =>
    have hu : (s.onContact b (Contact.take (s.lattRaw b) fresh s.now)).uncontacted = s.uncontacted := rfl
    obtain ⟨h1, h2⟩ := ih (s.onContact b (Contact.take (s.lattRaw b) fresh s.now))
    refine ⟨h1, fun c => (h2 c).trans ?_⟩
    rw [lattRaw_of_uncontacted hu, now_of_uncontacted hu]
    have hget : (s.onContact b (Contact.take (s.lattRaw b) fresh s.now)).lat.contacts[c]? =
        if b = c then s.lat.contacts[c]?.map (Contact.take (s.lattRaw b) fresh s.now) else s.lat.contacts[c]? := by
      show (s.lat.contacts.modify b _)[c]? = _
      rw [List.getElem?_modify]
      by_cases hbc : b = c <;> simp [hbc]
    rw [hget]
    by_cases hbc : b = c
    · subst hbc
      rw [if_pos rfl, if_pos List.mem_cons_self, Option.map_map]
      split
      · exact congrFun (congrArg Option.map (funext fun x => Contact.take_take _ _ _ x)) _
      · rfl
    · rw [if_neg hbc]
      simp [Ne.symm hbc]

/-! Frames of a die. -/

/-- What a change of one die leaves alone stays in every die. -/
theorem die_onDie {α : Type} (p : Die → α) (k : Nat) (f : Die → Die) (h : ∀ d, p (f d) = p d) (s : State) (j : Nat) :
    p ((s.onDie k f).die j) = p (s.die j) := by
  show p ((s.dies.modify k f).getD j Die.reset) = p (s.dies.getD j Die.reset)
  rw [List.getD_eq_getElem?_getD, List.getElem?_modify, List.getD_eq_getElem?_getD]
  cases s.dies[j]? with
  | none => rfl
  | some d => by_cases hkj : k = j <;> simp [hkj, h]

/-- The die of a frame is heard. -/
def hearDie (k : Nat) (s : State) : State := s.onDie k fun d => { d with lattAt := s.now, lattUp := true }

theorem lattRaw_hearDie (k c : Nat) (s : State) : (hearDie k s).lattRaw c = s.lattRaw c := by
  have hregs : ((hearDie k s).die (c / 64)).regs = (s.die (c / 64)).regs :=
    die_onDie Die.regs k (fun d => { d with lattAt := s.now, lattUp := true }) (fun _ => rfl) s (c / 64)
  have hdown : ((hearDie k s).die (c / 64)).down = (s.die (c / 64)).down :=
    die_onDie Die.down k (fun d => { d with lattAt := s.now, lattUp := true }) (fun _ => rfl) s (c / 64)
  have hmode : (hearDie k s).mode c = s.mode c := by rw [State.mode, State.mode, State.regs, State.regs, hregs]
  rw [State.lattRaw, State.lattRaw, hmode, hdown]
  rfl

/-- The act of a good frame before the evaluation. -/
def takeLattice (k : Nat) (s : State) : State :=
  if !(s.die k).lattUp then watchPairs (takeFrame k (!(s.die k).lattUp) (hearDie k s))
  else takeFrame k (!(s.die k).lattUp) (hearDie k s)

theorem exec_latticeFrame {s : State} (hl : s.live = true) {k : Fin 4} (hd : s.variant.hasDie k.val = true)
    (hr : (s.die k).reversed = false) (hs : s.lat.started = true) :
    exec (.latticeFrame k true) s = s.answer (latticeMoves (fun s => publish (evalLoop (takeLattice k s))) s) := by
  have hf : ∀ u : State, u.lat.started = true → (publish (evalLoop (takeLattice k u))) =
      (let fresh := !(u.die k).lattUp
       let s := u.onDie k fun d => { d with lattAt := u.now, lattUp := true }
       let s := if s.lat.started then takeFrame k fresh s else s
       let s := if fresh then watchPairs s else s
       publish (evalLoop s)) := by
    intro u hu
    have hu' : (u.onDie k fun d => { d with lattAt := u.now, lattUp := true }).lat.started = true := hu
    dsimp only
    rw [if_pos hu']
    rfl
  show execLatticeFrame k true s = _
  rw [execLatticeFrame, answerLive_live hl]
  simp only [hd, hr, Bool.not_true, Bool.or_self, Bool.false_eq_true, if_false]
  simp only [latticeMoves, hf s hs]

/-- The contacts and the dies after a good frame. -/
theorem takeLattice_contacts {k : Nat} (hk : k < 4) (s : State) : (takeLattice k s).dies = (hearDie k s).dies ∧
    ∀ c, c ∈ s.latContacts → c / 64 = k → (takeLattice k s).lat.contacts[c]? =
      s.lat.contacts[c]?.map (Contact.take (s.lattRaw c) (!(s.die k).lattUp) s.now) := by
  have htake := each_take (!(s.die k).lattUp) ((s.latContacts.filter fun c => c / 64 == k && decide (c < 256)))
    (hearDie k s)
  have heq : takeFrame k (!(s.die k).lattUp) (hearDie k s) =
      each ((s.latContacts.filter fun c => c / 64 == k && decide (c < 256)))
        (fun c t => t.onContact c (Contact.take (t.lattRaw c) (!(s.die k).lattUp) t.now)) (hearDie k s) := rfl
  rw [← heq] at htake
  obtain ⟨hu, hc⟩ := htake
  have hboth : (takeLattice k s).lat.contacts = (takeFrame k (!(s.die k).lattUp) (hearDie k s)).lat.contacts ∧
      (takeLattice k s).dies = (takeFrame k (!(s.die k).lattUp) (hearDie k s)).dies := by
    unfold takeLattice
    split <;> exact ⟨rfl, rfl⟩
  refine ⟨hboth.2.trans (show State.dies (State.uncontacted _) = State.dies (State.uncontacted _) from congrArg _ hu), fun c hmem hck => ?_⟩
  have hin : c ∈ s.latContacts.filter fun c => c / 64 == k && decide (c < 256) := by
    rw [List.mem_filter]
    exact ⟨hmem, by simp only [hck, beq_self_eq_true, Bool.true_and, decide_eq_true_eq]; omega⟩
  rw [hboth.1, hc c, if_pos hin, lattRaw_hearDie]
  rfl

theorem takeLattice_moves {k : Nat} {κ : Nat} {s0 s : State} (h : Moves κ s0 s)
    (hc : caps [.lat, .dies] ||| κ = κ := by decide) : Moves κ s0 (takeLattice k s) :=
  h.of hc (.ite (watchPairs_moves (takeFrame_moves (onDie_moves (.refl _)))) (takeFrame_moves (onDie_moves (.refl _))))

/-- A row of the lattice: an act `f`, the loop's evaluation, what `g` does behind it, and the exit from DOZE. What it leaves
of the terms, the coils, the pairs and the objects. -/
theorem latticeMoves_ends {f g : State → State} (s : State) (hg : ∀ u, SameTerms u (g u))
    (hlat : ∀ u, (g u).lat.coils = u.lat.coils ∧ (g u).lat.pairs = u.lat.pairs) :
    ∃ t, latticeMoves (fun s => g (evalLoop (f s))) s = t ∧ SameTerms (f s) t ∧ t.lat.coils = (evalLoop (f s)).lat.coils ∧
      t.lat.pairs = (f s).lat.pairs ∧ (∀ k, k ∉ dozeKeys → t.get k = (g (evalLoop (f s))).get k) ∧
      t.lat = (g (evalLoop (f s))).lat ∧ SameTerms (g (evalLoop (f s))) t := by
  have hp := sameTerms_latticeMoves (fun s => g (evalLoop (f s))) s
  have hl := latticeMoves_lat (fun s => g (evalLoop (f s))) s
  have hpairs : (evalLoop (f s)).lat.pairs = (f s).lat.pairs :=
    congrArg (fun u => u.lat.pairs) (unlooped_evalLoop (f s))
  exact ⟨_, rfl, ((sameTerms_evalLoop _).trans (hg _)).trans hp, hl ▸ (hlat _).1, hl ▸ (hlat _).2.trans hpairs,
    fun k hk => latticeMoves_get _ hk s, hl, hp⟩

theorem publish_coils_pairs (u : State) : (publish u).lat.coils = u.lat.coils ∧ (publish u).lat.pairs = u.lat.pairs := by
  constructor <;> simp only [publish, State.onLat, put_lat]

/-- LATTICE_FRAME: a good frame of a die. -/
theorem latticeFrame_answers {s : State} (hl : s.live = true) {k : Fin 4} {d : Die} (hd : s.variant.hasDie k.val = true)
    (hx : s.dies[k.val]? = some d) (hr : d.reversed = false) (hs : s.lat.started = true) :
    Answers (.latticeFrame k true) s fun t =>
      OneMoves k.val { d with lattAt := s.now, lattUp := true } s.dies t.dies ∧
      (∀ c x, c ∈ s.latContacts → c / 64 = k.val → s.lat.contacts[c]? = some x → t.lat.contacts[c]? =
        some (if x.seen = s.lattRaw c ∧ d.lattUp = true then x else { x with seen := s.lattRaw c, since := s.now })) ∧
      t.get Obj.permitStatus = t.permitWord ∧ t.lat.gates = (List.finRange 24).map t.gateTerm ∧
      (t.loopTerm = false → (t.coil 0).on = false) := by
  have hdie : s.die k = d := die_eq hx
  have he := exec_latticeFrame hl hd (hdie ▸ hr) hs
  have hmoves : Moves (caps [.objs, .pow, .net, .lat, .dies, .loop]) s
      (latticeMoves (fun s => publish (evalLoop (takeLattice k s))) s) :=
    latticeMoves_moves (fun u => publish_moves (evalLoop_moves (takeLattice_moves (.refl u)))) (.refl s)
  obtain ⟨hdies, hcontacts⟩ := takeLattice_contacts k.isLt s
  obtain ⟨t, ht, hterms, hcoils, -, hget, hlat, hend⟩ := latticeMoves_ends (f := takeLattice k) s sameTerms_publish
    publish_coils_pairs
  rw [ht] at he hmoves
  refine answers_answer t he hmoves.variant hmoves.pending ⟨?_, fun c x hc hck hcx => ?_, ?_, ?_,
    (loop_off_of_term hterms hcoils).1⟩
  · rw [hterms.dies, hdies]
    exact oneMoves_modify _ hx
  · rw [hterms.contacts, hcontacts c hc hck, hcx, hdie, Option.map_some, Contact.take_eq]
    simp only [Bool.not_eq_false']
  · rw [hget _ (by decide), publish_permits, hend.permitWord]
  · rw [hlat, publish_gates, hend.gateTerm]

/-- LATTICE_FILTER_EXPIRY: a contact takes its new state. -/
theorem latticeFilterExpiry_answers {s : State} (hl : s.live = true) {c : Fin 256} {x : Contact}
    (hs : s.lat.started = true) (hup : (s.die (c / 64)).lattUp = true) (hc : c.val ∈ s.latContacts)
    (hx : s.lat.contacts[c.val]? = some x) (hnew : x.seen ≠ x.filtered ∨ x.primed = false)
    (ht : x.since + us (filterOf s.image c) ≤ s.now) : Answers (.latticeFilterExpiry c) s fun t =>
      OneMoves c.val { x with filtered := x.seen, primed := true } s.lat.contacts t.lat.contacts ∧
      (t.loopTerm = false → (t.coil 0).on = false ∧ (s.variant.isP = false → (t.coil 1).on = false)) := by
  have hcon : s.contact c = x := by rw [State.contact, List.getD_eq_getElem?_getD, hx]; rfl
  have he : exec (.latticeFilterExpiry c) s = s.answer (latticeMoves (fun s =>
      id (evalLoop (watchPairs (s.onContact c fun x => { x with filtered := x.seen, primed := true })))) s) := by
    have hn : (x.seen != x.filtered || !x.primed) = true := by simpa using hnew
    show execLatticeFilterExpiry c s = _
    rw [execLatticeFilterExpiry, answerLive_live hl]
    simp only [hcon, hs, hup, hn, decide_eq_true ht, List.contains_iff_mem.2 hc, Bool.and_self, if_true]
    rfl
  have hmoves : Moves (caps [.objs, .pow, .net, .lat, .loop]) s (latticeMoves (fun s =>
      id (evalLoop (watchPairs (s.onContact c fun x => { x with filtered := x.seen, primed := true })))) s) :=
    latticeMoves_moves (fun u => evalLoop_moves (watchPairs_moves (onContact_moves (.refl u)))) (.refl s)
  obtain ⟨t, ht, hterms, hcoils, -⟩ := latticeMoves_ends (g := id)
    (f := fun s => watchPairs (s.onContact c fun x => { x with filtered := x.seen, primed := true })) s SameTerms.refl
    fun _ => ⟨rfl, rfl⟩
  rw [ht] at he hmoves
  obtain ⟨hzero, hone⟩ := loop_off_of_term hterms hcoils
  refine answers_answer t he hmoves.variant hmoves.pending ⟨?_, fun h => ⟨hzero h, fun hp => hone h ?_⟩⟩
  · rw [hterms.contacts]
    exact oneMoves_modify _ hx
  · rw [hmoves.variant, hp]

/-! Input faults. -/

theorem faultPlace_plain (i : LatInput) : isConst (faultPlace i).1 = false ∧ (faultPlace i).1 ≠ Obj.latticeFaultCount ∧
    noisy (faultPlace i).1 = false ∧ (faultPlace i).1 ∉ dozeKeys := by
  have hkey : (faultPlace i).1 ∈ [Obj.leafInputFault, Obj.doorwayInputFault, Obj.trainInputFault] := by
    cases i <;> simp [faultPlace]
  have hall : ∀ k ∈ [Obj.leafInputFault, Obj.doorwayInputFault, Obj.trainInputFault], isConst k = false ∧
      k ≠ Obj.latticeFaultCount ∧ noisy k = false ∧ k ∉ dozeKeys := by decide
  exact hall _ hkey

/-- The fault of a pair, with its bit. -/
def markPair (i : LatInput) (b : Bool) (s : State) : State := s.onPair i fun w => { w with fault := b }

theorem markPair_pairs {i : LatInput} {w : PairWatch} {s : State} (b : Bool) (hw : s.lat.pairs[pairIndex i]? = some w) :
    OneMoves (pairIndex i) { w with fault := b } s.lat.pairs (markPair i b s).lat.pairs := oneMoves_modify _ hw

theorem pair_eq {i : LatInput} {w : PairWatch} {s : State} (hw : s.lat.pairs[pairIndex i]? = some w) : s.pair i = w := by
  rw [State.pair, List.getD_eq_getElem?_getD, hw]; rfl

/-- DISCREPANCY_TIMEOUT. -/
theorem discrepancyTimeout_answers {s : State} (hl : s.live = true) {i : LatInput} {w : PairWatch}
    (hw : s.lat.pairs[pairIndex i]? = some w) (ht : Passed w.badSince (ms s.image.discrepancy) s) (hf : w.fault = false) :
    Answers (.discrepancyTimeout i) s fun t =>
      BitTo (faultPlace i).1 (faultPlace i).2 true s t ∧ CountsUp Obj.latticeFaultCount s t ∧
      OneMoves (pairIndex i) { w with fault := true } s.lat.pairs t.lat.pairs ∧
      (t.loopTerm = false → (t.coil 0).on = false) := by
  obtain ⟨hplain, hcount, hnoisy, hdoze⟩ := faultPlace_plain i
  have he : exec (.discrepancyTimeout i) s = s.answer (latticeMoves (fun s =>
      (fun u => latticeFault (faultPlace i).1 (bitVal (u.faultOpensLoop i)) (u.get (faultPlace i).1) u)
        (evalLoop (((markPair i true s).setBit (faultPlace i).1 (faultPlace i).2 true).inc Obj.latticeFaultCount))) s) := by
    show execDiscrepancyTimeout i s = _
    rw [execDiscrepancyTimeout, answerLive_live hl]
    simp only [pair_eq hw, heldFor_passed ht, hf, Bool.not_false, Bool.and_self, if_true]
    rfl
  have hmoves : Moves (caps [.objs, .pow, .net, .lat, .recd, .loop]) s (latticeMoves (fun s =>
      (fun u => latticeFault (faultPlace i).1 (bitVal (u.faultOpensLoop i)) (u.get (faultPlace i).1) u)
        (evalLoop (((markPair i true s).setBit (faultPlace i).1 (faultPlace i).2 true).inc Obj.latticeFaultCount))) s) :=
    latticeMoves_moves (fun u => latticeFault_moves (evalLoop_moves (put_moves (put_moves (onPair_moves (.refl u))))))
      (.refl s)
  obtain ⟨t, ht, hterms, hcoils, hpairs, hget, -⟩ := latticeMoves_ends
    (g := fun u => latticeFault (faultPlace i).1 (bitVal (u.faultOpensLoop i)) (u.get (faultPlace i).1) u)
    (f := fun s => ((markPair i true s).setBit (faultPlace i).1 (faultPlace i).2 true).inc Obj.latticeFaultCount) s
    (fun u => sameTerms_latticeFault ..) fun u => ⟨congrArg Lattice.coils (noted_latticeFault ..).lat,
      congrArg Lattice.pairs (noted_latticeFault ..).lat⟩
  rw [ht] at he hmoves
  have hobj (k : Nat) (hn : noisy k = false) (hd : k ∉ dozeKeys) : t.get k =
      (((markPair i true s).setBit (faultPlace i).1 (faultPlace i).2 true).inc Obj.latticeFaultCount).get k :=
    (hget k hd).trans ((latticeFault_get _ _ _ _ _ hn).trans (evalLoop_get k _))
  refine answers_answer t he hmoves.variant hmoves.pending ⟨?_, ?_, ?_, (loop_off_of_term hterms hcoils).1⟩
  · refine BitTo.of_get (t := (markPair i true s).setBit (faultPlace i).1 (faultPlace i).2 true)
      (bitTo_setBit _ _ _ _ hplain) ?_
    rw [hobj _ hnoisy hdoze, inc_eq, get_put_ne _ _ _ _ hcount]
  · rw [CountsUp, hobj _ (by decide) (by decide), inc_eq, get_put_self _ _ _ (by decide), setBit_eq,
      get_put_ne _ _ _ _ hcount.symm]
    rfl
  · rw [hpairs, inc_eq, put_lat, setBit_eq, put_lat]
    exact markPair_pairs true hw

theorem faultShared_congr {s t : State} (h : t.lat.pairs = s.lat.pairs) (i : LatInput) :
    t.faultShared i = s.faultShared i := by
  simp only [State.faultShared, State.pair, h]

/-- The act of INPUT_FAULT_CLEAR before the evaluation: the pair, its bit and the record. -/
def clearInputFault (i : LatInput) (s : State) : State :=
  admitEvent 1 0x14 srcDevice
    ([byte (if (faultPlace i).1 = Obj.leafInputFault then 0 else if (faultPlace i).1 = Obj.doorwayInputFault then 1 else 2),
        byte (faultPlace i).2, 0, 0]
      ++ toLe 4 (((markPair i false s).setBit (faultPlace i).1 (faultPlace i).2 ((markPair i false s).faultShared i)).get
        Obj.latticeFaultCount))
    ((markPair i false s).setBit (faultPlace i).1 (faultPlace i).2 ((markPair i false s).faultShared i))

/-- INPUT_FAULT_CLEAR. -/
theorem inputFaultClear_answers {s : State} (hl : s.live = true) {i : LatInput} {w : PairWatch}
    (hw : s.lat.pairs[pairIndex i]? = some w) (ht : Passed w.goodSince (sec 1) s) (hf : w.fault = true) :
    Answers (.inputFaultClear i) s fun t =>
      BitTo (faultPlace i).1 (faultPlace i).2 (t.faultShared i) s t ∧
      OneMoves (pairIndex i) { w with fault := false } s.lat.pairs t.lat.pairs := by
  obtain ⟨hplain, -, hnoisy, hdoze⟩ := faultPlace_plain i
  have he : exec (.inputFaultClear i) s =
      s.answer (latticeMoves (fun s => id (evalLoop (clearInputFault i s))) s) := by
    show execInputFaultClear i s = _
    rw [execInputFaultClear, answerLive_live hl]
    simp only [pair_eq hw, heldFor_passed ht, hf, Bool.and_self, if_true]
    rfl
  have hmoves : Moves (caps [.objs, .pow, .net, .lat, .recd, .loop]) s
      (latticeMoves (fun s => id (evalLoop (clearInputFault i s))) s) :=
    latticeMoves_moves (fun u => evalLoop_moves (admitEvent_moves (put_moves (onPair_moves (.refl u))))) (.refl s)
  obtain ⟨t, ht, -, -, hpairs, hget, -⟩ := latticeMoves_ends (g := id) (f := clearInputFault i) s SameTerms.refl
    fun _ => ⟨rfl, rfl⟩
  rw [ht] at he hmoves
  have hmark : t.lat.pairs = (markPair i false s).lat.pairs := by
    rw [hpairs, clearInputFault, (noted_admitEvent ..).lat, setBit_eq, put_lat]
  refine answers_answer t he hmoves.variant hmoves.pending ⟨?_, hmark ▸ markPair_pairs false hw⟩
  rw [faultShared_congr hmark]
  refine BitTo.of_get (bitTo_setBit _ _ ((markPair i false s).faultShared i) (markPair i false s) hplain) ?_
  exact (hget _ hdoze).trans ((evalLoop_get _ _).trans (admitEvent_get _ _ _ _ _ _ hnoisy))

/-- Settles O6: each row's act, the loop's evaluation behind it, and what is published. -/
theorem latticeInputsFilterFaultAndMoveTheLoop : Obligations.LatticeInputsFilterFaultAndMoveTheLoop := by
  intro s hl
  refine ⟨fun k d hd hx hr hs => latticeFrame_answers hl hd hx hr hs, fun k => answers_answer s ?_ rfl rfl rfl,
    fun c x hs hup hc hx hnew ht => latticeFilterExpiry_answers hl hs hup hc hx hnew ht,
    fun i w hw ht hf => discrepancyTimeout_answers hl hw ht hf, fun i w hw ht hf => inputFaultClear_answers hl hw ht hf⟩
  show execLatticeFrame k false s = _
  rw [execLatticeFrame, answerLive_live hl]
  rfl

end Sys2Proof.Machine
end

section
/-! Readbacks, test pulses and the end of INIT (R22, R33, R35, R38) -/
namespace Sys2Proof.Machine
open Sys2Proof Sys2Proof.Config

/-! Readbacks. -/

set_option Elab.async false in
/-- The filters of both readbacks after a sample. -/
def sampleRb (b1 b2 : Bool) (s : State) : State :=
  s.onLat fun l =>
    { l with rb := if s.latLink 0 then
        [(l.rb.getD 0 Readback.reset).sample s.now b1, (l.rb.getD 1 Readback.reset).sample s.now b2]
      else [Readback.reset, Readback.reset] }

theorem loopClosed_congr {s t : State} (hrb : t.lat.rb = s.lat.rb) (hv : t.variant = s.variant) :
    t.loopClosed = s.loopClosed := by
  simp only [State.loopClosed, State.rb, hrb, hv]

/-- The node with LOOP_CLOSED as the readbacks show it. -/
def showClosed (s : State) : State := s.onLat fun l => { l with closed := s.loopClosed }

/-- The node counts a confirmation. -/
def countClose (s : State) : State :=
  histoCount 100 (((s.now - s.lat.loopOpenAt) / ms 1 : Nat) : Int) ((s.inc Obj.loopCloseCount).put Obj.lastLoopOpenTime
    ((s.now - s.lat.loopOpenAt) / ms 1))

theorem confirmLoop_eq (s : State) : confirmLoop s =
    if s.loopClosed && !s.lat.closed then countClose (showClosed s) else showClosed s := rfl

theorem confirmLoop_lat (s : State) : (confirmLoop s).lat = { s.lat with closed := s.loopClosed } := by
  rw [confirmLoop_eq]
  split
  · rw [countClose, (noted_histoCount ..).lat, put_lat, inc_eq, put_lat]; rfl
  · rfl

theorem confirmLoop_rise {s : State} (hc : s.loopClosed = true) (hw : s.lat.closed = false) :
    CountsUp Obj.loopCloseCount s (confirmLoop s) ∧ (confirmLoop s).get Obj.lastLoopOpenTime =
      fitTo Obj.lastLoopOpenTime ((s.now - s.lat.loopOpenAt) / ms 1) := by
  rw [confirmLoop_eq, hc, hw, Bool.not_false, Bool.and_self, if_pos rfl]
  constructor
  · rw [CountsUp, countClose, histoCount_get _ _ _ _ (by decide), get_put_ne _ _ _ _ (by decide), inc_eq,
      get_put_self _ _ _ (by decide)]
    rfl
  · rw [countClose, histoCount_get _ _ _ _ (by decide), get_put_self _ _ _ (by decide)]
    rfl

theorem confirmLoop_stay {s : State} (h : s.loopClosed = false ∨ s.lat.closed = true) (k : Nat) :
    (confirmLoop s).get k = s.get k := by
  rw [confirmLoop_eq, if_neg (by obtain h | h := h <;> simp [h])]
  rfl

theorem loopOpenAt_energise (i : Nat) (s : State) : (energise i s).lat.loopOpenAt = s.lat.loopOpenAt := by
  unfold energise
  dsimp only
  split <;> rfl

/-- READBACK_SAMPLE. -/
theorem readbackSample_answers {s : State} (hl : s.live = true) (hv : s.served = true) (b1 b2 : Bool) :
    Answers (.readbackSample b1 b2) s fun t =>
      t.lat.rb = (if s.latLink 0 then [(s.lat.rb.getD 0 Readback.reset).sample s.now b1,
        (s.lat.rb.getD 1 Readback.reset).sample s.now b2] else [Readback.reset, Readback.reset]) ∧
      t.lat.closed = t.loopClosed ∧
      (t.loopClosed = true → s.lat.closed = false → CountsUp Obj.loopCloseCount s t ∧
        t.get Obj.lastLoopOpenTime = fitTo Obj.lastLoopOpenTime ((s.now - s.lat.loopOpenAt) / ms 1)) ∧
      ((t.loopClosed = false ∨ s.lat.closed = true) → t.get Obj.loopCloseCount = s.get Obj.loopCloseCount) := by
  have he : exec (.readbackSample b1 b2) s =
      s.answer (latticeMoves (fun s => confirmLoop (energise 1 (energise 0 (sampleRb b1 b2 s)))) s) := by
    show execReadbackSample b1 b2 s = _
    rw [execReadbackSample, answerServed_live hl hv]
    rfl
  have hmoves : Moves (caps [.objs, .pow, .net, .lat, .recd, .loop]) s
      (latticeMoves (fun s => confirmLoop (energise 1 (energise 0 (sampleRb b1 b2 s)))) s) :=
    latticeMoves_moves (fun u => confirmLoop_moves (energise_moves (energise_moves (onLat_moves (.refl u))))) (.refl s)
  have hlat := latticeMoves_lat (fun s => confirmLoop (energise 1 (energise 0 (sampleRb b1 b2 s)))) s
  have hget (k : Nat) (hk : k ∉ dozeKeys) :=
    latticeMoves_get (fun s => confirmLoop (energise 1 (energise 0 (sampleRb b1 b2 s)))) hk s
  generalize latticeMoves (fun s => confirmLoop (energise 1 (energise 0 (sampleRb b1 b2 s)))) s = t at he hmoves hlat hget
  have hun : (energise 1 (energise 0 (sampleRb b1 b2 s))).unlooped = (sampleRb b1 b2 s).unlooped := by
    rw [unlooped_energise, unlooped_energise]
  have hopen : (energise 1 (energise 0 (sampleRb b1 b2 s))).lat.loopOpenAt = s.lat.loopOpenAt := by
    rw [loopOpenAt_energise, loopOpenAt_energise]; rfl
  generalize energise 1 (energise 0 (sampleRb b1 b2 s)) = u at hlat hget hun hopen
  have hrb : u.lat.rb = (sampleRb b1 b2 s).lat.rb := show u.unlooped.lat.rb = _ by rw [hun]; rfl
  have hclosed : u.lat.closed = s.lat.closed := show u.unlooped.lat.closed = _ by rw [hun]; rfl
  have hnow : u.now = s.now := show u.unlooped.now = _ by rw [hun]; rfl
  have hvar : u.variant = s.variant := show u.unlooped.variant = _ by rw [hun]; rfl
  have hobj (k : Nat) : u.get k = s.get k := get_of_unlooped hun k
  rw [confirmLoop_lat] at hlat
  have htrb : t.lat.rb = u.lat.rb := by rw [hlat]
  have hloop : t.loopClosed = u.loopClosed := loopClosed_congr htrb (by rw [hmoves.variant, hvar])
  have hget' (k : Nat) (hk : k ∉ dozeKeys) : t.get k = (confirmLoop u).get k := hget k hk
  refine answers_answer t he hmoves.variant hmoves.pending ⟨htrb.trans hrb, ?_, fun hc hw => ?_, fun h => ?_⟩
  · rw [hloop, hlat]
  · obtain ⟨hcount, htime⟩ := confirmLoop_rise (hloop ▸ hc) (hclosed.trans hw)
    refine ⟨?_, ?_⟩
    · rw [CountsUp, hget' _ (by decide), hcount, hobj]
    · rw [hget' _ (by decide), htime, hnow, hopen]
  · rw [hloop, ← hclosed] at h
    rw [hget' _ (by decide), confirmLoop_stay h, hobj]

/-! Test pulses. -/

theorem coil_eq {s : State} {i : Nat} {c : Coil} (h : s.lat.coils[i]? = some c) : s.coil i = c := by
  rw [State.coil, List.getD_eq_getElem?_getD, h]; rfl

/-- The coils of a state after a pulse of coil `i` has begun. -/
def pulsed (i : Nat) (s : State) : State :=
  s.onCoil i fun c => { c with pulse := true, pulseAt := s.now, pulseDue := s.now + ms s.image.pulsePeriod }

theorem pulsed_coil {s : State} {i : Nat} {c : Coil} (h : s.lat.coils[i]? = some c) : (pulsed i s).lat.coils[i]? =
    some { c with pulse := true, pulseAt := s.now, pulseDue := s.now + ms s.image.pulsePeriod } := (oneMoves_modify _ h).1

theorem coilPin_of_pulse {s : State} {i : Nat} (h : (s.coil i).pulse = true) : s.coilPin i = false := by
  simp [State.coilPin, h]

/-- TEST_PULSE_START. -/
theorem testPulseStart_answers {s : State} (hl : s.live = true) {i : Fin 2} {c : Coil} (hc : s.lat.coils[i.val]? = some c)
    (hon : c.on = true) (hp : c.pulse = false) (ho : (s.coil (1 - i.val)).pulse = false) (ht : c.pulseDue ≤ s.now) :
    Answers (.testPulseStart i) s fun t =>
      t.objs = s.objs ∧ t.coilPin i = false ∧ t.lat.coils[i.val]? =
        some { c with pulse := true, pulseAt := s.now, pulseDue := s.now + ms s.image.pulsePeriod } ∧
      (i = 0 → (s.lat.coils[1]?.isSome = true) → (t.coil 1).pulseDue = s.now + ms s.image.pulsePeriod / 2) := by
  have he : exec (.testPulseStart i) s = s.answer (if i = 0 then
      (pulsed i s).onCoil 1 fun c => { c with pulseDue := s.now + ms s.image.pulsePeriod / 2 } else pulsed i s) := by
    show execTestPulseStart i s = _
    rw [execTestPulseStart, answerLive_live hl]
    simp only [coil_eq hc, hon, hp, ho, decide_eq_true ht, Bool.not_false, Bool.and_self, if_true]
    rfl
  by_cases hi : i = 0
  · rw [if_pos hi] at he
    have hcoil : ((pulsed i s).onCoil 1 fun c => { c with pulseDue := s.now + ms s.image.pulsePeriod / 2 }).lat.coils[i.val]? =
        some { c with pulse := true, pulseAt := s.now, pulseDue := s.now + ms s.image.pulsePeriod } := by
      rw [← pulsed_coil hc]
      show ((pulsed i s).lat.coils.modify 1 _)[i.val]? = _
      rw [List.getElem?_modify]
      simp [hi]
    refine answers_answer _ he rfl rfl ⟨rfl, coilPin_of_pulse ?_, hcoil, fun _ hsome => ?_⟩
    · rw [coil_eq hcoil]
    · obtain ⟨d, hd⟩ := Option.isSome_iff_exists.1 hsome
      have h1 : (pulsed i s).lat.coils[1]? = some d := by
        show (s.lat.coils.modify i.val _)[1]? = _
        rw [List.getElem?_modify, hd]
        simp [hi]
      have h2 : ((pulsed i s).onCoil 1 fun c => { c with pulseDue := s.now + ms s.image.pulsePeriod / 2 }).lat.coils[1]? =
          some { d with pulseDue := s.now + ms s.image.pulsePeriod / 2 } := (oneMoves_modify _ h1).1
      rw [coil_eq h2]
  · rw [if_neg hi] at he
    exact answers_answer _ he rfl rfl
      ⟨rfl, coilPin_of_pulse (by rw [coil_eq (pulsed_coil hc)]), pulsed_coil hc, fun h => absurd h hi⟩

/-- TEST_PULSE_END. -/
theorem testPulseEnd_answers {s : State} (hl : s.live = true) {i : Fin 2} {c : Coil} (hc : s.lat.coils[i.val]? = some c)
    (hp : c.pulse = true) (ht : c.pulseAt + us s.image.pulseWidth ≤ s.now) : Answers (.testPulseEnd i) s fun t =>
      t.objs = s.objs ∧ OneMoves i.val { c with pulse := false } s.lat.coils t.lat.coils := by
  refine answers_answer (s.onCoil i fun c => { c with pulse := false }) ?_ rfl rfl ⟨rfl, oneMoves_modify _ hc⟩
  show execTestPulseEnd i s = _
  rw [execTestPulseEnd, answerLive_live hl]
  simp only [coil_eq hc, hp, decide_eq_true ht, Bool.and_self, if_true]

/-! The end of INIT. -/

/-- The causes that the checks of INIT find, as a mask of HeldCause. -/
def initCauses (imageOk vectorsOk a b : Bool) : Nat := bitVal (!imageOk) + 2 * bitVal (!vectorsOk) + 64 * bitVal (a || b)

theorem initCauses_eq_zero (imageOk vectorsOk a b : Bool) : initCauses imageOk vectorsOk a b = 0 ↔
    imageOk = true ∧ vectorsOk = true ∧ a = false ∧ b = false := by
  revert imageOk vectorsOk a b; decide

theorem testBit_initCauses (imageOk vectorsOk a b : Bool) : (initCauses imageOk vectorsOk a b).testBit 0 = !imageOk ∧
    (initCauses imageOk vectorsOk a b).testBit 1 = !vectorsOk ∧
    (initCauses imageOk vectorsOk a b).testBit 6 = (a || b) := by
  revert imageOk vectorsOk a b; decide

theorem exec_latticeInitEnd {s : State} (hl : s.live = true) {vectorsOk a b : Bool} (hst : s.get Obj.latticeState = 0)
    (hs : s.lat.started = true) (hr : s.initRipe = true) (hw : 2 ≤ s.lat.goodWindows) (ha : s.rb 0 = some a)
    (hb : s.rb 1 = some b) (ho : s.pow.off = none) : exec (.latticeInitEnd vectorsOk) s = s.answer
      (if initCauses s.salt.imageOk vectorsOk a b = 0 then
        latticeMoves (fun s => publish (evalLoop (s.put Obj.latticeState 1))) s
      else enterHeld (initCauses s.salt.imageOk vectorsOk a b) s) := by
  have hcauses : bitVal (!s.salt.imageOk) + 2 * bitVal (!vectorsOk)
      + 64 * bitVal (s.rb 0 == some true || s.rb 1 == some true) = initCauses s.salt.imageOk vectorsOk a b := by
    rw [ha, hb]; cases a <;> cases b <;> rfl
  show execLatticeInitEnd vectorsOk s = _
  rw [execLatticeInitEnd, answerLive_live hl, if_neg (by simp [hst, hs, hr, Nat.not_lt.2 hw, ha, hb, ho]), hcauses]

/-- LATTICE_INIT_END. -/
theorem latticeInitEnd_answers {s : State} (hl : s.live = true) {vectorsOk a b : Bool} (hst : s.get Obj.latticeState = 0)
    (hs : s.lat.started = true) (hr : s.initRipe = true) (hw : 2 ≤ s.lat.goodWindows) (ha : s.rb 0 = some a)
    (hb : s.rb 1 = some b) (ho : s.pow.off = none) : Answers (.latticeInitEnd vectorsOk) s fun t =>
      (s.salt.imageOk = true → vectorsOk = true → a = false → b = false →
        t.get Obj.latticeState = 1 ∧ t.get Obj.permitStatus = t.permitWord ∧ t.get Obj.heldCause = s.get Obj.heldCause) ∧
      ((s.salt.imageOk = false ∨ vectorsOk = false ∨ a = true ∨ b = true) →
        t.get Obj.latticeState = 2 ∧ (t.coil 0).on = false ∧ (t.coil 1).on = false ∧
        t.bit Obj.heldCause 0 = (s.bit Obj.heldCause 0 || !s.salt.imageOk) ∧
        t.bit Obj.heldCause 1 = (s.bit Obj.heldCause 1 || !vectorsOk) ∧
        t.bit Obj.heldCause 6 = (s.bit Obj.heldCause 6 || a || b)) := by
  have he := exec_latticeInitEnd hl (vectorsOk := vectorsOk) hst hs hr hw ha hb ho
  by_cases h0 : initCauses s.salt.imageOk vectorsOk a b = 0
  · obtain ⟨h1, h2, h3, h4⟩ := (initCauses_eq_zero ..).1 h0
    rw [if_pos h0] at he
    have hmoves : Moves (caps [.objs, .pow, .net, .lat, .loop]) s
        (latticeMoves (fun s => publish (evalLoop (s.put Obj.latticeState 1))) s) :=
      latticeMoves_moves (fun u => publish_moves (evalLoop_moves (put_moves (.refl u)))) (.refl s)
    obtain ⟨t, ht, -, -, -, hget, -, hend⟩ := latticeMoves_ends (f := State.put Obj.latticeState 1) s sameTerms_publish
      publish_coils_pairs
    rw [ht] at he hmoves
    have hobj (k : Nat) (hd : k ∉ dozeKeys) (hp : k ≠ Obj.permitStatus) : t.get k = (s.put Obj.latticeState 1).get k := by
      rw [hget k hd, publish_get hp, evalLoop_get]
    refine answers_answer t he hmoves.variant hmoves.pending ⟨fun _ _ _ _ => ⟨?_, ?_, ?_⟩, fun h => ?_⟩
    · rw [hobj _ (by decide) (by decide), get_put_self _ _ _ (by decide)]; rfl
    · rw [hget _ (by decide), publish_permits, hend.permitWord]
    · rw [hobj _ (by decide) (by decide), get_put_ne _ _ _ _ (by decide)]
    · simp [h1, h2, h3, h4] at h
  · rw [if_neg h0] at he
    have hmoves : Moves (caps [.objs, .lat, .recd, .pow, .net, .loop]) s
      (enterHeld (initCauses s.salt.imageOk vectorsOk a b) s) := enterHeld_moves (.refl s)
    obtain ⟨hcoils, -⟩ := enterHeld_off (initCauses s.salt.imageOk vectorsOk a b) s
    obtain ⟨hb0, hb1, hb6⟩ := testBit_initCauses s.salt.imageOk vectorsOk a b
    have hbit (j : Nat) (hj : j < 16) : (enterHeld (initCauses s.salt.imageOk vectorsOk a b) s).bit Obj.heldCause j =
        (s.bit Obj.heldCause j || (initCauses s.salt.imageOk vectorsOk a b).testBit j) := by
      have hsize : sizeOf Obj.heldCause = 2 := by decide
      rw [State.bit, enterHeld_get (by decide) (by decide) (by decide), noteHeld_cause, testBit_fitTo (by omega),
        Nat.testBit_or, State.bit]
    refine answers_answer _ he hmoves.variant hmoves.pending ⟨fun h1 h2 h3 h4 => ?_, fun _ => ⟨?_, hcoils 0, hcoils 1,
      ?_, ?_, ?_⟩⟩
    · exact absurd ((initCauses_eq_zero ..).2 ⟨h1, h2, h3, h4⟩) h0
    · rw [enterHeld_get (by decide) (by decide) (by decide), noteHeld_state]
    · rw [hbit 0 (by decide), hb0]
    · rw [hbit 1 (by decide), hb1]
    · rw [hbit 6 (by decide), hb6, Bool.or_assoc]

/-- Settles O8, row by row. -/
theorem readbacksPulsesAndTheEndOfInit : Obligations.ReadbacksPulsesAndTheEndOfInit := by
  intro s hl
  exact ⟨fun b1 b2 hv => readbackSample_answers hl hv b1 b2,
    fun i c hc hon hp ho ht => testPulseStart_answers hl hc hon hp ho ht,
    fun i c hc hp ht => testPulseEnd_answers hl hc hp ht,
    fun v a b hst hs hr hw ha hb ho => latticeInitEnd_answers hl hst hs hr hw ha hb ho⟩

end Sys2Proof.Machine
end

section
/-! Objects and drive of an axis -/
namespace Sys2Proof.Machine
open Sys2Proof Sys2Proof.Config

/-! Objects of an axis. -/

set_option Elab.async false in
theorem axis_plain (k0 a : Nat) (h : rangeOf k0 = 24 ∧ isConst k0 = false) (ha : a < 24) : isConst (k0 + 256 * a) = false :=
  (isConst_shift k0 a 24 h.1 ha).trans h.2

theorem axis_size {n : Nat} (k0 a : Nat) (h : rangeOf k0 = 24 ∧ sizeOf k0 = n) (ha : a < 24) : sizeOf (k0 + 256 * a) = n :=
  (sizeOf_shift k0 a 24 h.1 ha).trans h.2

theorem axis_quiet (k0 a : Nat) (h : 0x310000 ≤ k0 ∧ k0 < 0x34E000) (ha : a < 24) : noisy (k0 + 256 * a) = false := by
  have h1 : ¬ (k0 + 256 * a) / 65536 = 0x13 := by omega
  have hne (k : Nat) (hk : k < 0x310000 ∨ 0x350000 ≤ k) : ¬ k0 + 256 * a = k := by omega
  simp only [noisy, Bool.or_eq_false_iff, beq_eq_false_iff_ne]
  exact ⟨⟨⟨⟨h1, hne _ (by decide)⟩, hne _ (by decide)⟩, hne _ (by decide)⟩, hne _ (by decide)⟩

theorem axis_awake (k0 a : Nat) (h : 0x310000 ≤ k0) : k0 + 256 * a ∉ dozeKeys := by
  have hne (k : Nat) (hk : k < 0x310000) : ¬ k0 + 256 * a = k := by omega
  simp only [dozeKeys, List.mem_cons, List.not_mem_nil, or_false, not_or]
  exact ⟨hne _ (by decide), hne _ (by decide), hne _ (by decide)⟩

section
variable {a : Nat} (ha : a < 24)
include ha

theorem axisStatus_plain : isConst (Obj.axisStatus a) = false := axis_plain 0x310001 a (by decide) ha

theorem axisStatus_size : sizeOf (Obj.axisStatus a) = 2 := axis_size 0x310001 a (by decide) ha

/-- Bit `j` of AxisStatus after a bit of it is set. -/
theorem st_setSt (b j : Nat) (v : Bool) (s : State) (hj : j < 16) :
    (setSt a b v s).st a j = if j = b then v else s.st a j :=
  bit_setBit _ _ _ _ _ (axisStatus_plain ha) (by rw [axisStatus_size ha]; exact hj)

end

theorem setSt_get {a b k : Nat} {v : Bool} (s : State) (hk : k ≠ Obj.axisStatus a) : (setSt a b v s).get k = s.get k :=
  get_put_ne _ _ _ s hk

/-- The bits of AxisStatus read its value alone. -/
theorem st_congr {a : Nat} {s t : State} (h : t.get (Obj.axisStatus a) = s.get (Obj.axisStatus a)) (b : Nat) :
    t.st a b = s.st a b := by
  rw [State.st, State.st, State.bit, State.bit, h]

theorem fitTo_zero (k : Nat) : fitTo k 0 = 0 := by
  unfold fitTo
  split
  · rfl
  · exact Nat.zero_mod _

/-! The drive at rest. -/

section
variable {a : Nat} (ha : a < 24) (s : State)
include ha

theorem zeroDrive_duty : (zeroDrive a s).get (Obj.duty a) = 0 := by
  have hplain : isConst (Obj.duty a) = false := axis_plain 0x330020 a (by decide) ha
  rw [zeroDrive, setSt_get _ (obj_ne _ _ _ (by decide)), get_put_ne _ _ _ _ (obj_ne _ _ _ (by decide)),
    get_put_self _ _ _ hplain]
  exact fitTo_zero _

theorem zeroDrive_speedRef : (zeroDrive a s).get (Obj.speedRef a) = 0 := by
  have hplain : isConst (Obj.speedRef a) = false := axis_plain 0x330022 a (by decide) ha
  rw [zeroDrive, setSt_get _ (obj_ne _ _ _ (by decide)), get_put_self _ _ _ hplain]
  exact fitTo_zero _

/-- HOLDING falls, the other bits of AxisStatus stay. -/
theorem zeroDrive_st (j : Nat) (hj : j < 16) (h : j ≠ stHolding) : (zeroDrive a s).st a j = s.st a j := by
  rw [zeroDrive, st_setSt ha _ _ _ _ hj, if_neg h]
  refine st_congr ?_ j
  rw [get_put_ne _ _ _ _ (obj_ne _ _ _ (by decide)), get_put_ne _ _ _ _ (obj_ne _ _ _ (by decide))]

end

/-- The objects that a drive at rest moves. -/
def zeroKeys (a : Nat) : List Nat := [Obj.duty a, Obj.speedRef a, Obj.axisStatus a]

theorem zeroDrive_get {a k : Nat} (hk : k ∉ zeroKeys a) (s : State) : (zeroDrive a s).get k = s.get k := by
  simp only [zeroKeys, List.mem_cons, List.not_mem_nil, or_false, not_or] at hk
  obtain ⟨hd, hv, hst⟩ := hk
  rw [zeroDrive, setSt_get _ hst, get_put_ne _ _ _ _ hv, get_put_ne _ _ _ _ hd]

theorem zeroDrive_axes (a : Nat) (s : State) : (zeroDrive a s).axes = s.axes := by
  rw [zeroDrive, setSt, setBit_eq, put_axes, put_axes, put_axes]

/-! Axis faults. -/

/-- An axis whose EN_a has gone low by a fault. -/
def Axis.freed (rise : Bool) (b : Nat) (x : Axis) : Axis :=
  { ({ x with reaction := Reaction.join (if rise then .none else x.reaction) (reactionOf b), clean := false } : Axis).halt
    with en := false, braked := false }

theorem join_enLow (r : Reaction) : Reaction.join r .enLow = .enLow := by cases r <;> rfl

/-- The state behind the reaction to a cause of over-current, sense or direction: EN_a low. -/
def freedBy (a b : Nat) (s : State) : State :=
  zeroDrive a ((s.setBit (Obj.faultCause a) b true).onAxis a (Axis.freed (!s.st a stFault) b))

theorem raiseFault_freed {a b : Nat} {s : State} {x : Axis} (hx : s.axes[a]? = some x) (hb : reactionOf b = .enLow) :
    raiseFault a b s = if s.st a stFault then freedBy a b s else
      dozeExit (axisFaultRecord a 2 ((setSt a stFault true (freedBy a b s)).onInst (8 + a) fun q =>
        { q with forced := q.forced || q.running })) := by
  have hmod (f g : Axis → Axis) (u : State) : (u.onAxis a f).onAxis a g = u.onAxis a (g ∘ f) := by
    simp only [State.onAxis, List.modify_modify_eq]
  have hreact : applyReaction a ((s.setBit (Obj.faultCause a) b true).onAxis a fun x =>
      { x with reaction := Reaction.join (if !s.st a stFault then .none else x.reaction) (reactionOf b), clean := false }) =
      freedBy a b s := by
    have hax : (((s.setBit (Obj.faultCause a) b true).onAxis a fun x =>
        { x with reaction := Reaction.join (if !s.st a stFault then .none else x.reaction) (reactionOf b),
                 clean := false }).axis a).reaction = .enLow := by
      have hx' : (s.setBit (Obj.faultCause a) b true).axes[a]? = some x := by rw [setBit_eq, put_axes]; exact hx
      rw [axis_eq (oneMoves_modify _ hx').1, hb]
      exact join_enLow _
    rw [applyReaction, hax]
    simp only [freeAxis, hmod]
    rfl
  unfold raiseFault
  simp only [hreact]
  cases s.st a stFault <;> rfl

end Sys2Proof.Machine
end

section
/-! Axis faults (R66, R67, R72) -/
namespace Sys2Proof.Machine
open Sys2Proof Sys2Proof.Config

section
variable {a b : Nat} (ha : a < 24) (s : State)
include ha

set_option Elab.async false in
theorem faultCause_plain : isConst (Obj.faultCause a) = false := axis_plain 0x310002 a (by decide) ha

theorem freedBy_duty : (freedBy a b s).get (Obj.duty a) = 0 := zeroDrive_duty ha _

theorem freedBy_speedRef : (freedBy a b s).get (Obj.speedRef a) = 0 := zeroDrive_speedRef ha _

theorem freedBy_st (j : Nat) (hj : j < 16) (h : j ≠ stHolding) : (freedBy a b s).st a j = s.st a j :=
  (zeroDrive_st ha _ j hj h).trans (st_congr (get_put_ne _ _ _ s (obj_ne _ _ _ (by decide))) j)

theorem freedBy_cause : BitTo (Obj.faultCause a) b true s (freedBy a b s) := by
  refine (bitTo_setBit _ b true s (faultCause_plain ha)).of_get ?_
  refine zeroDrive_get ?_ _
  simp only [zeroKeys, List.mem_cons, List.not_mem_nil, or_false, not_or]
  exact ⟨obj_ne _ _ _ (by decide), obj_ne _ _ _ (by decide), obj_ne _ _ _ (by decide)⟩

end

theorem freedBy_axis {a b : Nat} (s : State) {x : Axis} (hx : s.axes[a]? = some x) :
    (freedBy a b s).axes[a]? = some (Axis.freed (!s.st a stFault) b x) := by
  have hx' : (s.setBit (Obj.faultCause a) b true).axes[a]? = some x := by rw [setBit_eq, put_axes]; exact hx
  rw [freedBy, zeroDrive_axes]
  exact (oneMoves_modify _ hx').1

theorem freedBy_seq (a b : Nat) (s : State) : (freedBy a b s).seq = s.seq :=
  (zeroDrive_moves (κ := caps [.objs, .axes]) (onAxis_moves (put_moves (.refl s)))).part .seq (by decide)

/-- An object that neither a notice nor the exit from DOZE moves stays behind the record of a fault. -/
theorem dozeExit_record_get {a k : Nat} {u : State} (hn : noisy k = false) (hd : k ∉ dozeKeys) :
    (dozeExit (axisFaultRecord a 2 u)).get k = u.get k :=
  (dozeExit_get hd _).trans (axisFaultRecord_get _ _ _ _ hn)

/-- A cause that switches EN_a low at once: what the fault leaves. -/
theorem raiseFault_takes {a : Fin 24} {b : Nat} {s : State} {x : Axis} (hx : s.axes[a.val]? = some x)
    (hb : reactionOf b = .enLow) : TakesFault a b s (raiseFault a b s) ∧
      ∃ y, (raiseFault a b s).axes[a.val]? = some y ∧ y.en = false ∧ y.reaction = .enLow := by
  have hreact : (Axis.freed (!s.st a stFault) b x).reaction = .enLow := by
    show Reaction.join _ (reactionOf b) = _
    rw [hb]; exact join_enLow _
  rw [raiseFault_freed hx hb]
  cases hfault : s.st a stFault
  case true =>
    rw [hfault] at hreact
    rw [if_pos rfl]
    have hax := freedBy_axis (b := b) s hx
    rw [hfault] at hax
    exact ⟨⟨freedBy_cause a.isLt s, (freedBy_st a.isLt s _ (by decide) (by decide)).trans hfault, freedBy_duty a.isLt s,
      freedBy_speedRef a.isLt s, fun h => absurd (hfault.symm.trans h) (by decide)⟩, _, hax, rfl, hreact⟩
  case false =>
    rw [hfault] at hreact
    rw [if_neg Bool.false_ne_true]
    have hforce : Moves (caps [.objs, .recd, .pow, .net]) ((setSt a stFault true (freedBy a b s)).onInst (8 + a.val) fun q =>
        { q with forced := q.forced || q.running }) _ := dozeExit_moves (axisFaultRecord_moves (a := a.val) (reaction := 2) (.refl _))
    have hget (k0 : Nat) (h : 0x310000 ≤ k0 ∧ k0 < 0x34E000) (hk : k0 + 256 * a.val ≠ Obj.axisStatus a) :
        (dozeExit (axisFaultRecord a 2 ((setSt a stFault true (freedBy a b s)).onInst (8 + a.val) fun q =>
          { q with forced := q.forced || q.running }))).get (k0 + 256 * a.val) = (freedBy a b s).get (k0 + 256 * a.val) := by
      rw [dozeExit_record_get (axis_quiet k0 a h a.isLt) (axis_awake k0 a h.1)]
      exact setSt_get _ hk
    have hax := freedBy_axis (b := b) s hx
    rw [hfault] at hax
    refine ⟨⟨(freedBy_cause a.isLt s).of_get (hget 0x310002 (by decide) (obj_ne _ _ _ (by decide))), ?_,
      (hget 0x330020 (by decide) (obj_ne _ _ _ (by decide))).trans (freedBy_duty a.isLt s),
      (hget 0x330022 (by decide) (obj_ne _ _ _ (by decide))).trans (freedBy_speedRef a.isLt s), fun _ q hq => ?_⟩,
      _, ?_, rfl, hreact⟩
    · refine (st_congr (t := dozeExit _) (s := setSt a stFault true (freedBy a b s)) ?_ stFault).trans ?_
      · exact dozeExit_record_get (axis_quiet 0x310001 a (by decide) a.isLt) (axis_awake 0x310001 a (by decide))
      · exact (st_setSt a.isLt _ _ _ _ (by decide)).trans (if_pos rfl)
    · rw [show (dozeExit _).seq = _ from hforce.part .seq (by decide)]
      have hq' : (setSt a stFault true (freedBy a b s)).seq.insts[8 + a.val]? = some q := by
        rw [setSt, setBit_eq, put_seq, freedBy_seq]; exact hq
      exact (oneMoves_modify _ hq').1
    · rw [show (dozeExit _).axes = _ from hforce.part .axes (by decide)]
      show (setSt a stFault true (freedBy a b s)).axes[a.val]? = _
      rw [setSt, setBit_eq, put_axes, hax]

theorem answers_raiseFault {c : Instr} {s : State} {a : Fin 24} {b : Nat} {x : Axis} (hx : s.axes[a.val]? = some x)
    (hb : reactionOf b = .enLow) (he : exec c s = s.answer (raiseFault a b s)) : Answers c s fun t =>
      TakesFault a b s t ∧ ∃ y, t.axes[a.val]? = some y ∧ y.en = false ∧ y.reaction = .enLow :=
  have hm : Moves (caps [.objs, .seq, .recd, .axes, .pow, .net]) s (raiseFault a b s) := raiseFault_moves (.refl s)
  answers_answer _ he hm.variant hm.pending (raiseFault_takes hx hb)

/-- Settles O9: each cause raises its fault, and the direction changes at the end of its guard. -/
theorem axisFaultsSwitchTheDriveOff : Obligations.AxisFaultsSwitchTheDriveOff := by
  intro s a x hl ha hx
  refine ⟨fun i1 i2 i3 h1 h2 h3 => answers_raiseFault hx rfl ?_, fun held hh => answers_raiseFault hx rfl ?_,
    fun hd hdir => answers_raiseFault hx rfl ?_, fun g d hg ht => ?_⟩
  · show execOvercurrent a i1 i2 i3 s = _
    rw [execOvercurrent, answerLive_live hl]
    simp only [ha, h1, h2, h3, and_self, decide_true, Bool.and_self, if_true]
  · show execSenseFault a held s = _
    rw [execSenseFault, answerLive_live hl, ha, decide_eq_true hh, Bool.and_self, if_pos rfl]
  · show execDirectionFault a s = _
    rw [execDirectionFault, answerLive_live hl]
    simp only [axis_eq hx, ha, decide_eq_true hd, decide_eq_true hdir, Bool.and_self, if_true]
  · refine answers_answer (s.onAxis a fun x => { x with guard := none, dir := d, dirBase := s.pos a, teeth := 0, gap := none })
      ?_ rfl rfl ⟨rfl, oneMoves_modify _ hx⟩
    show execDirGuardEnd a s = _
    rw [execDirGuardEnd, answerLive_live hl]
    simp only [axis_eq hx, hg, ht, if_true]

end Sys2Proof.Machine
end

section
/-! Signed values -/
namespace Sys2Proof.Machine
open Sys2Proof Sys2Proof.Config

/-! Signed values (R167). -/

set_option Elab.async false in
/-- A value of `w` bits is read back from its two's complement. -/
theorem signedOf_encSigned {w : Nat} {v : Int} (hw : 0 < w) (hlo : -(2 ^ (w - 1) : Nat) ≤ v) (hhi : v < (2 ^ (w - 1) : Nat)) :
    signedOf w (encSigned w v) = v := by
  obtain ⟨m, rfl⟩ : ∃ m, w = m + 1 := ⟨w - 1, by omega⟩
  have hpow : 2 ^ (m + 1) = 2 * 2 ^ m := Nat.pow_succ'
  have hpos : 0 < 2 ^ m := Nat.two_pow_pos _
  unfold signedOf encSigned
  rw [Nat.add_sub_cancel] at *
  rw [hpow]
  generalize 2 ^ m = h at *
  obtain hv | hv := Int.lt_or_le v 0
  · have hm : v % ((2 * h : Nat) : Int) = v + (2 * h : Nat) := by
      rw [← Int.add_emod_right]
      exact Int.emod_eq_of_lt (by omega) (by omega)
    rw [hm, Nat.mod_eq_of_lt (by omega)]
    split <;> omega
  · have hm : v % ((2 * h : Nat) : Int) = v := Int.emod_eq_of_lt hv (by omega)
    rw [hm, Nat.mod_eq_of_lt (by omega)]
    split <;> omega

theorem encSigned_lt (w : Nat) (v : Int) : encSigned w v < 2 ^ w := by
  have hpos : (0 : Int) < ((2 ^ w : Nat) : Int) := by exact_mod_cast Nat.two_pow_pos w
  have h := Int.emod_lt_of_pos v hpos
  unfold encSigned
  omega

theorem fitTo_encSigned (k : Nat) (v : Int) : fitTo k (encSigned (8 * sizeOf k) v) = encSigned (8 * sizeOf k) v := by
  have h := encSigned_lt (8 * sizeOf k) v
  unfold fitTo
  split
  · rfl
  · exact Nat.mod_eq_of_lt (by rwa [show (256 : Nat) = 2 ^ 8 from rfl, ← Nat.pow_mul])

theorem get_puti_self {k : Nat} (hc : isConst k = false) (v : Int) (s : State) :
    (s.puti k v).get k = encSigned (8 * sizeOf k) v := by
  rw [puti_eq, get_put_self _ _ _ hc, fitTo_encSigned]

theorem geti_puti_self {k : Nat} {v : Int} (hc : isConst k = false) (hw : 0 < sizeOf k)
    (hlo : -(2 ^ (8 * sizeOf k - 1) : Nat) ≤ v) (hhi : v < (2 ^ (8 * sizeOf k - 1) : Nat)) (s : State) :
    (s.puti k v).geti k = v := by
  rw [State.geti, get_puti_self hc, signedOf_encSigned (by omega) hlo hhi]

end Sys2Proof.Machine
end

section
/-! Current windows and trips (R67, R77 to R81, R87) -/
namespace Sys2Proof.Machine
open Sys2Proof Sys2Proof.Config

/-! The current window. -/

set_option Elab.async false in
/-- What the window adds to the axis in a motion to an end. -/
def windowed (s : State) (a : Nat) (x : Axis) : Axis :=
  { x with
    sums := x.sums.modify (s.binAt a) fun y => ⟨y.sum + s.mag a, y.count + 1⟩
    overSince := if x.armed && decide (s.threshold a (s.binAt a) (s.target a == 1) < s.mag a)
      then some (x.overSince.getD s.now) else none
    overBin := s.binAt a
    slowSince := if s.tooSlow a then some (x.slowSince.getD s.now) else none
    endStopSince := if s.atEndStop a then some (x.endStopSince.getD s.now) else none
    cycle := x.cycle.map fun c => c.window (s.target a == 1) (s.binAt a) (s.mag a)
      ((s.threshold a (s.binAt a) (s.target a == 1) : Int) - s.mag a) }

/-- CurrentMean after a window. -/
def meanTaken (a : Nat) (mean : Int) (s : State) : State := s.puti (Obj.currentMean a) (clampI (-60000) 60000 mean)

theorem exec_currentWindow {s : State} (hl : s.live = true) {a : Fin 24} (ha : s.variant.hasAxis a.val = true) (mean : Int) :
    exec (.currentWindow a mean) s = s.answer (if s.toEnd a then
      extremeSample (2 * a) ((meanTaken a mean s).mag a)
        ((meanTaken a mean s).onAxis a (windowed (meanTaken a mean s) a)) else meanTaken a mean s) := by
  have hend : (meanTaken a mean s).toEnd a = s.toEnd a := by
    have hne (k0 : Nat) (h : k0 ≠ 0x330021) : (meanTaken a mean s).get (k0 + 256 * a.val) = s.get (k0 + 256 * a.val) :=
      get_put_ne _ _ _ s (obj_ne _ _ _ h)
    have hax : (meanTaken a mean s).axis a = s.axis a := by rw [State.axis, meanTaken, puti_eq, put_axes]; rfl
    simp (disch := decide) only [State.toEnd, State.target, State.st, State.bit, hne, hax]
    rfl
  show execCurrentWindow a mean s = _
  rw [execCurrentWindow, answerLive_live hl]
  simp only [ha, Bool.not_true, Bool.false_eq_true, if_false]
  congr 1
  by_cases h : s.toEnd a = true
  · rw [if_pos h]
    rw [show (State.puti (Obj.currentMean a.val) (clampI (-60000) 60000 mean) s) = meanTaken a mean s from rfl, hend, h]
    rfl
  · rw [if_neg h]
    rw [Bool.not_eq_true] at h
    rw [show (State.puti (Obj.currentMean a.val) (clampI (-60000) 60000 mean) s) = meanTaken a mean s from rfl, hend, h]
    rfl

theorem clampI_bounds (v : Int) : -60000 ≤ clampI (-60000) 60000 v ∧ clampI (-60000) 60000 v ≤ 60000 := by
  unfold clampI
  omega

section
variable {s : State} {a : Fin 24} {mean : Int}

theorem currentMean_plain (a : Fin 24) : isConst (Obj.currentMean a) = false := axis_plain 0x330021 a (by decide) a.isLt
theorem currentMean_size (a : Fin 24) : sizeOf (Obj.currentMean a) = 4 := axis_size 0x330021 a (by decide) a.isLt

theorem meanTaken_mag : (meanTaken a mean s).mag a = (clampI (-60000) 60000 mean).natAbs := by
  obtain ⟨hlo, hhi⟩ := clampI_bounds mean
  have hsize := currentMean_size a
  rw [State.mag, meanTaken, geti_puti_self (currentMean_plain a) (by omega)]
  · rw [hsize, half_four]; omega
  · rw [hsize, half_four]; omega

/-- No threshold reads CurrentMean. -/
theorem meanTaken_threshold : (meanTaken a mean s).threshold a ((meanTaken a mean s).binAt a)
    ((meanTaken a mean s).target a == 1) = s.threshold a (s.binAt a) (s.target a == 1) := by
  have hne (k0 : Nat) (h : k0 ≠ 0x330021) : (meanTaken a mean s).get (k0 + 256 * a.val) = s.get (k0 + 256 * a.val) :=
    get_put_ne _ _ _ s (obj_ne _ _ _ h)
  have hvar : (meanTaken a mean s).variant = s.variant := put_variant ..
  have henv (o : Bool) : (meanTaken a mean s).get (envKey a o) = s.get (envKey a o) := by
    cases o
    · exact hne _ (by decide)
    · exact hne _ (by decide)
  simp (disch := decide) only [State.threshold, State.envelopeActive, State.unref, State.st, State.bit, State.binAt, State.stroke, State.pos,
    State.geti, State.target, hvar, henv, hne]
  rfl

/-- CURRENT_WINDOW. -/
theorem currentWindow_answers {x : Axis} (hl : s.live = true) (ha : s.variant.hasAxis a.val = true)
    (hx : s.axes[a.val]? = some x) (mean : Int) : Answers (.currentWindow a mean) s fun t =>
      t.get (Obj.currentMean a) = encSigned 32 (clampI (-60000) 60000 mean) ∧ OnlyMoves [Obj.currentMean a] s t ∧
      (s.toEnd a = false → t.axes = s.axes) ∧
      (s.toEnd a = true → ∃ y, OneMoves a.val y s.axes t.axes ∧ y.overSince =
        if x.armed = true ∧ s.threshold a (s.binAt a) (s.target a == 1) < (clampI (-60000) 60000 mean).natAbs
        then some (x.overSince.getD s.now) else none) := by
  have he := exec_currentWindow hl ha mean
  have hval : (meanTaken a mean s).get (Obj.currentMean a) = encSigned 32 (clampI (-60000) 60000 mean) := by
    rw [meanTaken, get_puti_self (currentMean_plain a), currentMean_size]
  have honly : OnlyMoves [Obj.currentMean a] s (meanTaken a mean s) := onlyMoves_put _ _ s
  have hax : (meanTaken a mean s).axes = s.axes := put_axes ..
  cases hend : s.toEnd a
  case false =>
    rw [hend, if_neg Bool.false_ne_true] at he
    exact answers_answer _ he (put_variant ..) (put_pending ..) ⟨hval, honly, fun _ => hax, nofun⟩
  case true =>
    rw [hend, if_pos rfl] at he
    have hm : Moves (caps [.objs, .recd, .axes]) s (extremeSample (2 * a) ((meanTaken a mean s).mag a)
        ((meanTaken a mean s).onAxis a (windowed (meanTaken a mean s) a))) :=
      extremeSample_moves (onAxis_moves (put_moves (.refl s)))
    refine answers_answer _ he hm.variant hm.pending ⟨hval, honly, nofun, fun _ =>
      ⟨windowed (meanTaken a mean s) a x, ?_, ?_⟩⟩
    · rw [← hax] at hx ⊢
      exact oneMoves_modify _ hx
    · have hnow : (meanTaken a mean s).now = s.now := put_now ..
      show (if x.armed && decide ((meanTaken a mean s).threshold a _ _ < _) then _ else none) = _
      rw [meanTaken_threshold, meanTaken_mag, hnow]
      simp only [Bool.and_eq_true, decide_eq_true_eq]

end

/-! Trips. -/

theorem ownLatch_get {a : Nat} (ha : a < 24) {kind k : Nat} (hk : k / 65536 ≠ 0x35) (s : State) :
    (ownLatch a kind s).get k = s.get k := by
  refine each_mem_get fun n hn u => ?_
  split
  · unfold capture
    dsimp only
    split
    · rfl
    · have hne : k ≠ latchRecordKey a n := by
        unfold latchRecordKey
        simp only [List.mem_cons, List.not_mem_nil, or_false] at hn
        split <;> (simp only [Obj.latchRecord0, Obj.latchRecord1]; omega)
      exact get_put_ne _ _ _ _ hne
  · rfl

theorem refreshMoving_get {a k : Nat} (hk : k ≠ Obj.axisStatus a) (s : State) : (refreshMoving a s).get k = s.get k := by
  unfold refreshMoving
  dsimp only
  split
  · rfl
  · exact setSt_get s hk

theorem refreshMoving_st {a : Nat} (ha : a < 24) {j : Nat} (hj : j < 16) (hm : j ≠ stMoving) (s : State) :
    (refreshMoving a s).st a j = s.st a j := by
  unfold refreshMoving
  dsimp only
  split
  · rfl
  · exact (st_setSt ha _ _ _ _ hj).trans (if_neg hm)

/-- What is kept of every axis from one state to another. -/
def KeepsOfAxes {α : Type} (p : Axis → α) (s t : State) : Prop := ∀ j : Nat, t.axes[j]?.map p = s.axes[j]?.map p

theorem keepsOfAxes_onAxis {α : Type} {p : Axis → α} {f : Axis → Axis} (hf : ∀ x, p (f x) = p x) (a : Nat) (s : State) :
    KeepsOfAxes p s (s.onAxis a f) := fun j => by
  show (s.axes.modify a f)[j]?.map p = _
  rw [List.getElem?_modify]
  cases s.axes[j]? with
  | none => rfl
  | some x => by_cases h : a = j <;> simp [h, hf]

theorem KeepsOfAxes.of_axes {α : Type} {p : Axis → α} {s t : State} (h : t.axes = s.axes) : KeepsOfAxes p s t :=
  fun j => by rw [h]

theorem KeepsOfAxes.trans {α : Type} {p : Axis → α} {s t u : State} (h : KeepsOfAxes p s t) (g : KeepsOfAxes p t u) :
    KeepsOfAxes p s u := fun j => (g j).trans (h j)

theorem keepsOfAxes_each {α β : Type} {p : Axis → α} {f : β → State → State} (hf : ∀ b u, KeepsOfAxes p u (f b u))
    (bs : List β) (s : State) : KeepsOfAxes p s (each bs f s) := by
  induction bs generalizing s with
  | nil => exact fun _ => rfl
  | cons b bs ih => exact (hf b s).trans (ih _)

theorem keepsOfAxes_ownLatch {α : Type} {p : Axis → α} (hp : ∀ x l, p { x with latches := l } = p x) (a kind : Nat)
    (s : State) : KeepsOfAxes p s (ownLatch a kind s) := by
  refine keepsOfAxes_each (fun n u => ?_) _ s
  split
  · unfold capture
    dsimp only
    split
    · exact fun _ => rfl
    · exact (KeepsOfAxes.of_axes (put_axes ..)).trans (keepsOfAxes_onAxis (fun x => hp x _) a _)
  · exact fun _ => rfl

theorem keepsOfAxes_refreshMoving {α : Type} {p : Axis → α} (hp : ∀ x c, p { x with cycle := c } = p x) (a : Nat)
    (s : State) : KeepsOfAxes p s (refreshMoving a s) := by
  unfold refreshMoving
  dsimp only
  split
  · exact fun _ => rfl
  · exact (KeepsOfAxes.of_axes (by rw [setSt, setBit_eq, put_axes])).trans (keepsOfAxes_onAxis (fun x => hp x _) a _)

/-- The axis brakes with OBSTACLE set. -/
def braking (a : Nat) (s : State) : State :=
  refreshMoving a (brakeAxis a ((setSt a stObstacle true s).onAxis a fun x => { x with clean := false }))

/-- The trip is counted and kept. -/
def tripCounted (a cause : Nat) (s : State) : State :=
  ((braking a s).inc (Obj.obstacleCount a)).put (Obj.lastTrip a)
    (s.tripRecord a cause (s.binAt a) (s.threshold a (s.binAt a) (s.target a == 1)))

/-- A trip ends with its latch and its record. -/
theorem obstacle_ends (a cause : Nat) (s : State) :
    ∃ body src, obstacle a cause s = admitEvent 1 0x10 src body (ownLatch a 7 (tripCounted a cause s)) := ⟨_, _, rfl⟩

theorem braking_get {a k : Nat} (hk : k ∉ zeroKeys a) (s : State) : (braking a s).get k = s.get k := by
  have hst : k ≠ Obj.axisStatus a := fun h => hk (by simp [zeroKeys, h])
  rw [braking, refreshMoving_get hst, brakeAxis, zeroDrive_get hk]
  exact setSt_get s hst

section
variable {a : Nat} (ha : a < 24) (cause : Nat) (s : State)
include ha

theorem obstacle_get {k : Nat} (hn : noisy k = false) (hk : k / 65536 ≠ 0x35) :
    (obstacle a cause s).get k = (tripCounted a cause s).get k := by
  obtain ⟨body, src, h⟩ := obstacle_ends a cause s
  rw [h, admitEvent_get _ _ _ _ _ _ hn, ownLatch_get ha hk]

theorem braking_obstacle : (braking a s).st a stObstacle = true := by
  rw [braking, refreshMoving_st ha (by decide) (by decide), brakeAxis, zeroDrive_st ha _ _ (by decide) (by decide)]
  exact (st_setSt ha _ _ _ _ (by decide)).trans (if_pos rfl)

theorem braking_duty : (braking a s).get (Obj.duty a) = 0 := by
  rw [braking, refreshMoving_get (obj_ne _ _ _ (by decide)), brakeAxis, zeroDrive_duty ha]

end

/-- What a trip leaves (R81). -/
theorem obstacle_trips (a : Fin 24) (cause : Nat) (s : State) : Trips a cause s (obstacle a cause s) := by
  have hcount : isConst (Obj.obstacleCount a) = false := axis_plain 0x340018 a (by decide) a.isLt
  have hlast : isConst (Obj.lastTrip a) = false := axis_plain 0x340013 a (by decide) a.isLt
  have hget (k0 : Nat) (h : 0x310000 ≤ k0 ∧ k0 < 0x34E000) :
      (obstacle a cause s).get (k0 + 256 * a.val) = (tripCounted a cause s).get (k0 + 256 * a.val) :=
    obstacle_get a.isLt cause s (axis_quiet k0 a h a.isLt) (by have := a.isLt; omega)
  refine ⟨?_, ?_, fun x hx => ?_, ?_, ?_⟩
  · refine (st_congr (s := braking a s) ?_ stObstacle).trans (braking_obstacle a.isLt s)
    rw [hget 0x310001 (by decide), tripCounted, get_put_ne _ _ _ _ (obj_ne _ _ _ (by decide)), inc_eq,
      get_put_ne _ _ _ _ (obj_ne _ _ _ (by decide))]
  · rw [hget 0x330020 (by decide), tripCounted, get_put_ne _ _ _ _ (obj_ne _ _ _ (by decide)), inc_eq,
      get_put_ne _ _ _ _ (obj_ne _ _ _ (by decide)), braking_duty a.isLt]
  · have hkeep : KeepsOfAxes (fun y => (y.en, y.braked)) (brakeAxis a ((setSt a stObstacle true s).onAxis a fun x =>
        { x with clean := false })) (obstacle a cause s) := by
      obtain ⟨body, src, h⟩ := obstacle_ends a cause s
      have hcounted : (tripCounted a cause s).axes = (braking a s).axes := by
        rw [tripCounted, put_axes, inc_eq, put_axes]
      rw [h]
      refine (keepsOfAxes_refreshMoving (fun _ _ => rfl) a _).trans ?_
      refine (KeepsOfAxes.of_axes hcounted).trans ((keepsOfAxes_ownLatch (fun _ _ => rfl) a 7 _).trans ?_)
      exact .of_axes (noted_admitEvent ..).axes
    have hbrake : (brakeAxis a ((setSt a stObstacle true s).onAxis a fun x => { x with clean := false })).axes[a.val]? =
        some { ({ x with clean := false } : Axis).halt with en := true, braked := true } := by
      have hx' : (setSt a stObstacle true s).axes[a.val]? = some x := by rw [setSt, setBit_eq, put_axes]; exact hx
      rw [brakeAxis, zeroDrive_axes]
      exact (oneMoves_modify _ (oneMoves_modify _ hx').1).1
    have hmap := hkeep a
    rw [hbrake, Option.map_some, Option.map_eq_some_iff] at hmap
    obtain ⟨y, hy, hyx⟩ := hmap
    exact ⟨y, hy, congrArg Prod.fst hyx, congrArg Prod.snd hyx⟩
  · rw [CountsUp, hget 0x340018 (by decide), tripCounted, get_put_ne _ _ _ _ (obj_ne _ _ _ (by decide)), inc_eq,
      get_put_self _ _ _ hcount, braking_get]
    simp [zeroKeys]
  · rw [hget 0x340013 (by decide), tripCounted, get_put_self _ _ _ hlast]

theorem answers_obstacle {c : Instr} {s : State} {a : Fin 24} {cause : Nat} (he : exec c s = s.answer (obstacle a cause s)) :
    Answers c s (Trips a cause s) :=
  have hm : Moves (caps [.objs, .recd, .axes]) s (obstacle a cause s) := obstacle_moves (.refl s)
  answers_answer _ he hm.variant hm.pending (obstacle_trips a cause s)

/-- Settles O10: the window and the arming act on the axis, and each trip is one act. -/
theorem obstacleTripsBrakeTheAxis : Obligations.ObstacleTripsBrakeTheAxis := by
  intro s a x hl ha hx
  refine ⟨fun mean => currentWindow_answers hl ha hx mean, fun hend ht => ?_, fun hend harm ht => answers_obstacle ?_,
    fun hend hslow ht => answers_obstacle ?_, fun n hend h0 harm hlev => answers_obstacle ?_⟩
  · refine answers_answer (s.onAxis a fun x => { x with armed := true }) ?_ rfl rfl ⟨rfl, oneMoves_modify _ hx⟩
    show execArmDelayExpiry a s = _
    rw [execArmDelayExpiry, answerLive_live hl]
    simp only [axis_eq hx, hend, decide_eq_true ht, Bool.and_self, if_true]
  · show execCurrentTrip a s = _
    rw [execCurrentTrip, answerLive_live hl]
    simp only [State.detecting, axis_eq hx, hend, harm, heldFor_passed ht, Bool.and_self, if_true]
  · have harm : x.armed = true := by
      rw [State.tooSlow, axis_eq hx] at hslow
      simp only [Bool.and_eq_true] at hslow
      exact hslow.1.1.1
    show execSpeedTrip a s = _
    rw [execSpeedTrip, answerLive_live hl]
    simp only [State.detecting, axis_eq hx, hend, harm, hslow, heldFor_passed ht, Bool.and_self, if_true]
  · show execTripInput a n s = _
    rw [execTripInput, answerLive_live hl]
    simp only [axis_eq hx, hend, h0, harm, hlev, beq_self_eq_true, Bool.and_self, if_true]

end Sys2Proof.Machine
end

section
/-! Motions: the ends of a motion -/
namespace Sys2Proof.Machine
open Sys2Proof Sys2Proof.Config

/-! The end of a motion. -/

set_option Elab.async false in
/-- What reaching the target moves in the axis. -/
def Axis.reached (clean opening : Bool) (now : Nat) (x : Axis) : Axis :=
  { x with
    en := true, braked := false, running := false, cruising := false, armed := false, tripArmed := false
    overSince := none, slowSince := none, endStopSince := none
    pendingLearn := if clean then some opening else none
    cycle := x.cycle.map fun c =>
      if opening then { c with openStrokeMs := min 65535 ((now - c.openMoveAt) / ms 1), openEndAt := some now }
      else { c with closeStrokeMs := min 65535 ((now - c.closeMoveAt) / ms 1), closedAt := some now } }

/-- A stroke that counts as clean at its end (R83). -/
def State.cleanStroke (s : State) (a : Nat) : Bool :=
  (s.axis a).clean && (s.axis a).fullStroke && !s.st a stOvertime && !s.unref a && !s.variant.isE

/-- AxisStatus at the target. -/
def targetShown (a : Nat) (s : State) : State :=
  setSt a stHolding ((setSt a stAtTarget true s).vref a == 0) (setSt a stAtTarget true s)

theorem reachTarget_eq (a : Nat) (s : State) : reachTarget a s =
    setReserveMotion a false ((targetShown a s).onAxis a (Axis.reached (s.cleanStroke a) (s.target a == 1) s.now)) := by
  have hnow : (setReserveMotion a false (holdAxis a (setSt a stAtTarget true s))).now = s.now := by
    show (setSt a _ _ (setSt a _ _ s)).now = _
    simp only [setSt, setBit_eq, put_now]
  unfold reachTarget
  dsimp only
  rw [hnow]
  simp only [holdAxis, setReserveMotion, State.onAxis, State.onSup, List.modify_modify_eq]
  rfl

section
variable {a : Nat} (s : State)

theorem targetShown_get {k : Nat} (hk : k ≠ Obj.axisStatus a) : (targetShown a s).get k = s.get k := by
  rw [targetShown, setSt_get _ hk, setSt_get _ hk]

theorem reachTarget_get (k : Nat) : (reachTarget a s).get k = (targetShown a s).get k := by
  rw [reachTarget_eq]; rfl

theorem targetShown_st (ha : a < 24) : (targetShown a s).st a stAtTarget = true ∧
    (targetShown a s).st a stHolding = decide (s.vref a = 0) ∧
    ∀ j, j < 16 → j ≠ stAtTarget → j ≠ stHolding → (targetShown a s).st a j = s.st a j := by
  have hv : (setSt a stAtTarget true s).vref a = s.vref a := by
    rw [State.vref, State.vref, State.geti, State.geti, setSt_get s (obj_ne _ _ _ (by decide))]
  refine ⟨?_, ?_, fun j hj h0 h1 => ?_⟩
  · rw [targetShown, st_setSt ha _ _ _ _ (by decide), if_neg (by decide), st_setSt ha _ _ _ _ (by decide), if_pos rfl]
  · rw [targetShown, st_setSt ha _ _ _ _ (by decide), if_pos rfl, hv]
    exact Bool.beq_eq_decide_eq _ _
  · rw [targetShown, st_setSt ha _ _ _ _ hj, if_neg h1, st_setSt ha _ _ _ _ hj, if_neg h0]

theorem targetShown_axes : (targetShown a s).axes = s.axes := by
  simp only [targetShown, setSt, setBit_eq, put_axes]

theorem reachTarget_axes {x : Axis} (hx : s.axes[a]? = some x) :
    OneMoves a (Axis.reached (s.cleanStroke a) (s.target a == 1) s.now x) s.axes (reachTarget a s).axes := by
  rw [reachTarget_eq]
  show OneMoves a _ s.axes ((targetShown a s).axes.modify a _)
  rw [targetShown_axes]
  exact oneMoves_modify _ hx

end

/-- AT_TARGET. -/
theorem atTarget_answers {s : State} {a : Fin 24} {x : Axis} (hl : s.live = true) (hx : s.axes[a.val]? = some x)
    (hend : s.toEnd a = true) (hu : s.unref a = false) (hr : x.running = false)
    (hpos : (s.pos a - (if s.target a = 1 then (s.stroke a : Int) else 0)).natAbs ≤ s.get (Obj.targetWindow a)) :
    Answers (.atTarget a) s fun t => t.st a 0 = true ∧ t.st a 10 = decide (s.vref a = 0) ∧
      OnlyMoves [Obj.axisStatus a] s t ∧
      ∃ y, OneMoves a.val y s.axes t.axes ∧ y.en = true ∧ y.braked = false ∧ y.armed = false ∧ y.tripArmed = false ∧
        y.pendingLearn = if x.clean = true ∧ x.fullStroke = true ∧ s.st a 7 = false ∧ s.variant.isE = false
          then some (decide (s.target a = 1)) else none := by
  have he : exec (.atTarget a) s = s.answer (reachTarget a s) := by
    show execAtTarget a s = _
    rw [execAtTarget, answerLive_live hl]
    simp only [axis_eq hx, hend, hu, hr, decide_eq_true hpos, Bool.not_false, Bool.and_self, if_true]
  have hm : Moves (caps [.objs, .axes, .sup]) s (reachTarget a s) := reachTarget_moves (.refl s)
  obtain ⟨h0, h10, -⟩ := targetShown_st s a.isLt
  refine answers_answer _ he hm.variant hm.pending ⟨?_, ?_, fun k hk => ?_, _, reachTarget_axes s hx, rfl, rfl, rfl, rfl, ?_⟩
  · exact (st_congr (reachTarget_get s _) 0).trans h0
  · exact (st_congr (reachTarget_get s _) 10).trans h10
  · rw [reachTarget_get, targetShown_get s (by simpa using hk)]
  · have hclean : (s.cleanStroke a = true) = (x.clean = true ∧ x.fullStroke = true ∧ s.st a 7 = false ∧ s.variant.isE = false) := by
      simp only [State.cleanStroke, axis_eq hx, hu, Bool.not_false, Bool.and_true, Bool.and_eq_true, Bool.not_eq_true',
        and_assoc]
    show (if s.cleanStroke a = true then some (s.target a == 1) else none) = _
    simp only [hclean, Bool.beq_eq_decide_eq]

/-- The objects of a datum. -/
theorem takeDatum_st {a : Nat} (ha : a < 24) (s : State) : (takeDatum a s).unref a = false ∧
    ∀ j, j < 16 → j ≠ stUnref → (takeDatum a s).st a j = s.st a j := by
  have hjump (u : State) : (jumpPos a u).get (Obj.axisStatus a) = u.get (Obj.axisStatus a) := by
    rw [jumpPos]
    exact get_put_ne _ _ _ u (obj_ne _ _ _ (by decide))
  have hget : (takeDatum a s).get (Obj.axisStatus a) = (setSt a stUnref false (jumpPos a (s.puti (Obj.positionOffset a)
      (s.geti (Obj.revCount a) * s.get (Obj.countsPerRev a) + s.get (Obj.inRev a) - s.geti (Obj.datumCount a))))).get
        (Obj.axisStatus a) := by
    rw [takeDatum]
    refine (get_put_ne _ _ _ _ (obj_ne _ _ _ (by decide))).trans ?_
    rw [get_put_ne _ _ _ _ (obj_ne _ _ _ (by decide)), get_put_ne _ _ _ _ (obj_ne _ _ _ (by decide))]
  refine ⟨?_, fun j hj hu => ?_⟩
  · rw [State.unref, st_congr hget, st_setSt ha _ _ _ _ (by decide), if_pos rfl]
  · rw [st_congr hget, st_setSt ha _ _ _ _ hj, if_neg hu, st_congr (hjump _)]
    exact st_congr (get_put_ne _ _ _ s (obj_ne _ _ _ (by decide))) j

/-- A datum is there for a motion that ends at its end stop (R101). -/
def State.datumHere (s : State) (a : Nat) : Bool :=
  s.target a == 0 && (s.get (Obj.datumChannel a) == 0xFFFF
    || (decide (s.get (Obj.datumChannel a) ≤ 255) && s.inputOn (s.get (Obj.datumChannel a))))

/-- END_STOP_DETECT. -/
theorem endStopDetect_answers {s : State} {a : Fin 24} {x : Axis} (hl : s.live = true) (hx : s.axes[a.val]? = some x)
    (hend : s.atEndStop a = true) (ht : Passed x.endStopSince (ms (s.get (Obj.endStopTime a))) s) :
    Answers (.endStopDetect a) s fun t => t.st a 0 = true ∧
      t.unref a = !(decide (s.target a = 0) && (decide (s.get (Obj.datumChannel a) = 65535)
        || (decide (s.get (Obj.datumChannel a) ≤ 255) && s.inputOn (s.get (Obj.datumChannel a))))) := by
  have hgetc : (reachTarget a s).get (Obj.datumChannel a) = s.get (Obj.datumChannel a) := by
    rw [reachTarget_get, targetShown_get s (obj_ne _ _ _ (by decide))]
  have hin (c : Nat) (hc : c ≤ 255) : (reachTarget a s).inputOn c = s.inputOn c := by
    have h1 (k0 : Nat) (h : 0x600000 ≤ k0) : (reachTarget a s).get (k0 + 256 * c) = s.get (k0 + 256 * c) := by
      rw [reachTarget_get, targetShown_get s (by have := a.isLt; simp only [Obj.axisStatus]; omega)]
    simp only [State.inputOn, State.flag]
    rw [h1 _ (by decide), h1 _ (by decide)]
  have he : exec (.endStopDetect a) s = s.answer
      (if s.datumHere a then takeDatum a (reachTarget a s) else reachTarget a s) := by
    show execEndStopDetect a s = _
    rw [execEndStopDetect, answerLive_live hl]
    simp only [axis_eq hx, hend, heldFor_passed ht, Bool.and_self, if_true, hgetc]
    congr 2
    rw [State.datumHere]
    by_cases hc : s.get (Obj.datumChannel a) ≤ 255
    · rw [hin _ hc]
    · simp [hc]
  have hm : Moves (caps [.objs, .axes, .sup]) s (if s.datumHere a then takeDatum a (reachTarget a s) else reachTarget a s) :=
    .ite (takeDatum_moves (reachTarget_moves (.refl s))) (reachTarget_moves (.refl s))
  obtain ⟨h0, -, hrest⟩ := targetShown_st s a.isLt
  have hunref : s.unref a = true := by
    rw [State.atEndStop] at hend
    simp only [Bool.and_eq_true] at hend
    exact hend.1.1.1
  have hreach0 : (reachTarget a s).st a 0 = true := (st_congr (reachTarget_get s _) 0).trans h0
  have hreach5 : (reachTarget a s).unref a = true :=
    (st_congr (reachTarget_get s _) stUnref).trans ((hrest _ (by decide) (by decide) (by decide)).trans hunref)
  have hdatum : s.datumHere a = (decide (s.target a = 0) && (decide (s.get (Obj.datumChannel a) = 65535)
        || (decide (s.get (Obj.datumChannel a) ≤ 255) && s.inputOn (s.get (Obj.datumChannel a))))) := by
    simp only [State.datumHere, Bool.beq_eq_decide_eq]
  rw [← hdatum]
  cases hd : s.datumHere a
  case true =>
    rw [hd, if_pos rfl] at he hm
    obtain ⟨hoff, hst⟩ := takeDatum_st a.isLt (reachTarget a s)
    exact answers_answer _ he hm.variant hm.pending ⟨(hst 0 (by decide) (by decide)).trans hreach0, hoff⟩
  case false =>
    rw [hd, if_neg Bool.false_ne_true] at he hm
    exact answers_answer _ he hm.variant hm.pending ⟨hreach0, hreach5⟩

/-- OVERTIME. -/
theorem overtime_answers {s : State} {a : Fin 24} {x : Axis} (hl : s.live = true) (hx : s.axes[a.val]? = some x)
    (hend : s.toEnd a = true) (h7 : s.st a 7 = false) (ht : s.overtimeAt a ≤ s.now) : Answers (.overtime a) s fun t =>
      BitTo (Obj.axisStatus a) 7 true s t ∧ OnlyMoves [Obj.axisStatus a] s t ∧
      OneMoves a.val { x with clean := false } s.axes t.axes := by
  have hx' : (setSt a stOvertime true s).axes[a.val]? = some x := by rw [setSt, setBit_eq, put_axes]; exact hx
  refine answers_answer ((setSt a stOvertime true s).onAxis a fun x => { x with clean := false }) ?_ (put_variant ..)
    (put_pending ..) ⟨bitTo_setBit _ _ _ _ (axisStatus_plain a.isLt), onlyMoves_put _ _ s, ?_⟩
  · show execOvertime a s = _
    rw [execOvertime, answerLive_live hl]
    simp only [hend, h7, decide_eq_true ht, Bool.not_false, Bool.and_self, if_true]
  · have hax : (setSt a stOvertime true s).axes = s.axes := by rw [setSt, setBit_eq, put_axes]
    rw [← hax]
    exact oneMoves_modify _ hx'

end Sys2Proof.Machine
end

section
/-! The speed loop and the set-points -/
namespace Sys2Proof.Machine
open Sys2Proof Sys2Proof.Config

/-! The speed loop. -/

set_option Elab.async false in
/-- No drive of an earlier axis moves the object `k0` of an axis: a test on the object's number for axis 0. -/
def ownKey (k0 : Nat) : Bool :=
  [0x330020, 0x330022, 0x310001].all fun m => decide (m < k0 + 256 ∨ k0 + 0x1800 ≤ m ∨ k0 % 256 ≠ m % 256)

theorem ownKey_not_zeroKeys {k0 a b : Nat} (ha : a < 24) (hb : b < a) (h : ownKey k0 = true) : k0 + 256 * a ∉ zeroKeys b := by
  simp only [ownKey, List.all_cons, List.all_nil, Bool.and_true, Bool.and_eq_true, decide_eq_true_eq] at h
  obtain ⟨h1, h2, h3⟩ := h
  simp only [zeroKeys, Obj.duty, Obj.speedRef, Obj.axisStatus, List.mem_cons, List.not_mem_nil, or_false, not_or]
  refine ⟨?_, ?_, ?_⟩ <;> omega

/-- Two states show axis `a` alike: its unit, and every object but those that the drives of axes before it move. -/
structure AlikeAt (a : Nat) (s t : State) : Prop where
  unit : t.axes[a]? = s.axes[a]?
  variant : t.variant = s.variant
  now : t.now = s.now
  obj : ∀ k, (∀ b, b < a → k ∉ zeroKeys b) → t.get k = s.get k

theorem put_get_congr {s t : State} (hv : t.variant = s.variant) {k v j : Nat} (h : t.get j = s.get j) :
    (t.put k v).get j = (s.put k v).get j := by
  by_cases hj : j = k
  · subst hj
    cases hc : isConst j
    · rw [get_put_self _ _ _ hc, get_put_self _ _ _ hc]
    · rw [get_const _ _ hc, get_const _ _ hc, put_variant, put_variant, hv]
  · rw [get_put_ne _ _ _ _ hj, get_put_ne _ _ _ _ hj, h]

/-- The trajectory speed takes a value; a motion that has come to rest holds (R71). -/
def restTo (a : Nat) (v : Int) (s : State) : State :=
  if v = 0 ∧ !(s.puti (Obj.speedRef a) v).st a stHolding ∧ (s.puti (Obj.speedRef a) v).target a ≤ 2 then
    setSt a stHolding true (s.puti (Obj.speedRef a) v)
  else s.puti (Obj.speedRef a) v

/-- The trajectory speed after one step of the ramp to rest. -/
def State.ramped (s : State) (a : Nat) : Int :=
  if 0 ≤ s.vref a then max 0 (s.vref a - s.rampStep a) else min 0 (s.vref a + s.rampStep a)

/-- One step of a running trajectory. -/
def runTraj (a : Nat) (s : State) : State :=
  (s.puti (Obj.speedRef a) (s.trajStep a).2.1).onAxis a fun x =>
    { x with traj := (s.trajStep a).1, running := !(s.trajStep a).2.2
             cruising := !(s.trajStep a).2.2 && !(s.puti (Obj.speedRef a) (s.trajStep a).2.1).unref a
               && (s.trajStep a).2.1.natAbs == (s.puti (Obj.speedRef a) (s.trajStep a).2.1).cruise a }

theorem moveTraj_eq (a : Nat) (s : State) :
    moveTraj a s = if (s.axis a).running then runTraj a s else restTo a (s.ramped a) s := rfl

section
variable {a : Nat} {s t : State} (h : AlikeAt a s t)
include h

theorem AlikeAt.put (k v : Nat) : AlikeAt a (s.put k v) (t.put k v) where
  unit := by rw [put_axes, put_axes, h.unit]
  variant := by rw [put_variant, put_variant, h.variant]
  now := by rw [put_now, put_now, h.now]
  obj j hj := put_get_congr h.variant (h.obj j hj)

theorem AlikeAt.setSt (b : Nat) (v : Bool) (ha : a < 24) : AlikeAt a (Machine.setSt a b v s) (Machine.setSt a b v t) := by
  rw [Machine.setSt, Machine.setSt, setBit_eq, setBit_eq, h.obj _ fun b hb => ownKey_not_zeroKeys ha hb (by decide)]
  exact h.put _ _

theorem AlikeAt.onAxis (f : Axis → Axis) : AlikeAt a (s.onAxis a f) (t.onAxis a f) :=
  { h with
    unit := by
      show (t.axes.modify a f)[a]? = (s.axes.modify a f)[a]?
      rw [List.getElem?_modify, List.getElem?_modify, h.unit] }

theorem AlikeAt.axis_eq : t.axis a = s.axis a := by
  rw [State.axis, State.axis, List.getD_eq_getElem?_getD, List.getD_eq_getElem?_getD, h.unit]

variable (ha : a < 24)
include ha

theorem AlikeAt.get (k0 : Nat) (hk : ownKey k0 = true) : t.get (k0 + 256 * a) = s.get (k0 + 256 * a) :=
  h.obj _ fun _ hb => ownKey_not_zeroKeys ha hb hk

theorem AlikeAt.prof : t.prof a = s.prof a := by
  have hprof : t.get (Obj.activeProfile a) = s.get (Obj.activeProfile a) := h.get ha 0x310004 (by decide)
  rw [State.prof, State.prof, hprof]
  have hk : Obj.profile0 a + s.get (Obj.activeProfile a) = (0x330010 + s.get (Obj.activeProfile a)) + 256 * a := by
    simp only [Obj.profile0]; omega
  rw [hk, h.get ha]
  simp only [ownKey, List.all_cons, List.all_nil, Bool.and_true, Bool.and_eq_true, decide_eq_true_eq]
  omega

theorem AlikeAt.st (b : Nat) : t.st a b = s.st a b := st_congr (h.get ha 0x310001 (by decide)) b

theorem AlikeAt.vref : t.vref a = s.vref a := by
  rw [State.vref, State.vref, State.geti, State.geti, h.get ha 0x330022 (by decide)]

theorem AlikeAt.target : t.target a = s.target a := h.get ha 0x310003 (by decide)

theorem AlikeAt.unref : t.unref a = s.unref a := h.st ha stUnref

theorem AlikeAt.stroke : t.stroke a = s.stroke a := h.get ha 0x300001 (by decide)

theorem AlikeAt.cruise : t.cruise a = s.cruise a := by
  rw [State.cruise, State.cruise, h.stroke ha, h.prof ha]

theorem AlikeAt.creep : t.creep a = s.creep a := by
  rw [State.creep, State.creep, h.cruise ha, h.prof ha]

theorem AlikeAt.rampStep : t.rampStep a = s.rampStep a := by
  rw [State.rampStep, State.rampStep, h.prof ha, h.cruise ha]

theorem AlikeAt.trajCap : t.trajCap a = s.trajCap a := by
  funext d
  simp only [State.trajCap, h.prof ha, h.cruise ha, h.creep ha, h.stroke ha, h.unref ha]

theorem AlikeAt.trajStep : t.trajStep a = s.trajStep a := by
  simp only [State.trajStep, h.axis_eq, h.vref ha, h.target ha, h.stroke ha, h.unref ha, h.rampStep ha, h.trajCap ha]

theorem AlikeAt.moveTraj : AlikeAt a (Machine.moveTraj a s) (Machine.moveTraj a t) := by
  have hp (v : Int) : AlikeAt a (s.puti (Obj.speedRef a) v) (t.puti (Obj.speedRef a) v) := h.put _ _
  have hramped : t.ramped a = s.ramped a := by simp only [State.ramped, h.vref ha, h.rampStep ha]
  rw [moveTraj_eq, moveTraj_eq, h.axis_eq]
  split
  · rw [runTraj, runTraj, h.trajStep ha, (hp _).unref ha, (hp _).cruise ha]
    exact (hp _).onAxis _
  · rw [restTo, restTo, hramped, (hp _).st ha, (hp _).target ha]
    split
    · exact (hp _).setSt _ _ ha
    · exact hp _

theorem AlikeAt.dutyLim : t.dutyLim a = s.dutyLim a := by
  simp only [State.dutyLim, h.st ha, h.unref ha, h.prof ha]
  rw [h.get ha 0x330006 (by decide), h.get ha 0x33000B (by decide)]

end

/-- What the loop of an axis writes: its duty and sum. -/
def driven (a : Nat) (s : State) : State :=
  let lim : Int := s.dutyLim a
  let acc := clampI (-lim) lim ((s.axis a).acc + Int.tdiv (s.get (Obj.speedKi a) * (s.vref a - s.spd a)) 65536)
  let duty := clampI (-lim) lim (Int.tdiv (s.get (Obj.feedForward a) * s.vref a) 1000
    + Int.tdiv (s.get (Obj.speedKp a) * (s.vref a - s.spd a)) 256 + acc)
  (s.puti (Obj.duty a) duty).onAxis a fun x =>
    { x with acc := acc
             guard := if (decide (duty < 0) && x.dir) || (decide (0 < duty) && !x.dir) then
                 some (x.guard.getD ((s.puti (Obj.duty a) duty).now + us ((s.puti (Obj.duty a) duty).get (Obj.dirGuard a)),
                   decide (0 < duty)))
               else none }

theorem speedLoop_eq (a : Nat) (s : State) : speedLoop a s = refreshMoving a (driven a (moveTraj a s)) := rfl

theorem moveTraj_get {a k : Nat} (hk : k ∉ zeroKeys a) (s : State) : (moveTraj a s).get k = s.get k := by
  simp only [zeroKeys, List.mem_cons, List.not_mem_nil, or_false, not_or] at hk
  obtain ⟨-, hv, hst⟩ := hk
  rw [moveTraj_eq]
  split
  · exact get_put_ne _ _ _ s hv
  · rw [restTo]
    split
    · rw [setSt_get _ hst]
      exact get_put_ne _ _ _ s hv
    · exact get_put_ne _ _ _ s hv

theorem speedLoop_get {a k : Nat} (hk : k ∉ zeroKeys a) (s : State) : (speedLoop a s).get k = s.get k := by
  have hk' := hk
  simp only [zeroKeys, List.mem_cons, List.not_mem_nil, or_false, not_or] at hk'
  rw [speedLoop_eq, refreshMoving_get hk'.2.2, ← moveTraj_get hk s]
  exact get_put_ne _ _ _ _ hk'.1

theorem getElem?_onAxis_ne {a b : Nat} (hab : a ≠ b) (f : Axis → Axis) (s : State) : (s.onAxis b f).axes[a]? = s.axes[a]? := by
  show (s.axes.modify b f)[a]? = _
  rw [List.getElem?_modify]
  cases s.axes[a]? <;> simp [hab.symm]

theorem speedLoop_axis_ne {a b : Nat} (hab : a ≠ b) (s : State) : (speedLoop b s).axes[a]? = s.axes[a]? := by
  have hput (v : Int) : (s.puti (Obj.speedRef b) v).axes = s.axes := put_axes ..
  have htraj : (moveTraj b s).axes[a]? = s.axes[a]? := by
    rw [moveTraj_eq]
    split
    · rw [runTraj, getElem?_onAxis_ne hab, hput]
    · rw [restTo]
      split
      · rw [setSt, setBit_eq, put_axes, hput]
      · rw [hput]
  have hdrive : (driven b (moveTraj b s)).axes[a]? = (moveTraj b s).axes[a]? := by
    rw [driven, getElem?_onAxis_ne hab, puti_eq, put_axes]
  rw [speedLoop_eq, refreshMoving]
  split
  · rw [hdrive, htraj]
  · rw [getElem?_onAxis_ne hab, setSt, setBit_eq, put_axes, hdrive, htraj]

/-- One turn of the row: a driven axis runs its loop. -/
def loopTurn (a : Nat) (s : State) : State := if (s.axis a).en && !(s.axis a).braked then speedLoop a s else s

theorem loopTurn_get {a k : Nat} (hk : k ∉ zeroKeys a) (s : State) : (loopTurn a s).get k = s.get k := by
  unfold loopTurn
  split
  · exact speedLoop_get hk s
  · rfl

theorem loopTurn_axis_ne {a b : Nat} (hab : a ≠ b) (s : State) : (loopTurn b s).axes[a]? = s.axes[a]? := by
  unfold loopTurn
  split
  · exact speedLoop_axis_ne hab s
  · rfl

theorem loopTurn_moves {κ : Nat} {s0 s : State} {a : Nat} (h : Moves κ s0 s) (hc : caps [.objs, .axes] ||| κ = κ := by decide) :
    Moves κ s0 (loopTurn a s) :=
  h.of hc (.ite (speedLoop_moves (.refl _)) (.refl _))

/-- Turns of axes other than `a`. -/
theorem loopTurns_others (a : Nat) (bs : List Nat) (hbs : a ∉ bs) (s : State) :
    (each bs loopTurn s).axes[a]? = s.axes[a]? ∧
    ∀ k, (∀ b ∈ bs, k ∉ zeroKeys b) → (each bs loopTurn s).get k = s.get k := by
  induction bs generalizing s with
  | nil => exact ⟨rfl, fun _ _ => rfl⟩
  | cons b bs ih =>
    simp only [List.mem_cons, not_or] at hbs
    obtain ⟨hax, hget⟩ := ih hbs.2 (loopTurn b s)
    exact ⟨hax.trans (loopTurn_axis_ne hbs.1 s), fun k hk =>
      (hget k fun c hc => hk c (by simp [hc])).trans (loopTurn_get (hk b (by simp)) s)⟩

theorem each_append {α : Type} (xs ys : List α) (f : α → State → State) (s : State) :
    each (xs ++ ys) f s = each ys f (each xs f s) := by
  simp only [each, List.foldl_append]

/-- The turn of an axis among those of the others, which stand in rising order. -/
theorem loopTurns_at (s : State) {a : Nat} (ha : a ∈ s.axes24) : ∃ v t, AlikeAt a s v ∧
    each s.axes24 loopTurn s = t ∧ t.axes[a]? = (loopTurn a v).axes[a]? ∧
    ∀ k, (∀ b, b ≠ a → b < 24 → k ∉ zeroKeys b) → t.get k = (loopTurn a v).get k := by
  have hrise : s.axes24.Pairwise (· < ·) := List.Pairwise.filter _ List.pairwise_lt_range
  have hlt : ∀ b ∈ s.axes24, b < 24 := fun b hb => List.mem_range.1 (of_mem_filter hb)
  obtain ⟨xs, ys, hsplit⟩ := List.append_of_mem ha
  rw [hsplit] at hrise hlt
  have hxs : ∀ b ∈ xs, b < a := fun b hb => (List.pairwise_append.1 hrise).2.2 b hb a (by simp)
  have hys : ∀ b ∈ ys, a < b := (List.pairwise_cons.1 (List.pairwise_append.1 hrise).2.1).1
  obtain ⟨hax, hget⟩ := loopTurns_others a xs (fun h => Nat.lt_irrefl _ (hxs a h)) s
  have hm : Moves (caps [.objs, .axes]) s (each xs loopTurn s) := each_moves (fun _ _ => loopTurn_moves (.refl _)) (.refl s)
  obtain ⟨hax', hget'⟩ := loopTurns_others a ys (fun h => Nat.lt_irrefl _ (hys a h)) (loopTurn a (each xs loopTurn s))
  refine ⟨each xs loopTurn s, _, ⟨hax, hm.variant, hm.now, fun k hk => hget k fun b hb => hk b (hxs b hb)⟩, rfl, ?_, ?_⟩
  · rw [hsplit, each_append]; exact hax'
  · intro k hk
    rw [hsplit, each_append]
    exact hget' k fun b hb => hk b (Nat.ne_of_gt (hys b hb)) (hlt b (by simp [hb]))

/-- What the loop leaves of its axis: the trajectory speed, the sum and the duty. -/
theorem driven_shows {a : Nat} (ha : a < 24) {v : State} {y : Axis} (hy : v.axes[a]? = some y) :
    let lim : Int := v.dutyLim a
    let acc := clampI (-lim) lim (y.acc + Int.tdiv (v.get (Obj.speedKi a) * (v.vref a - v.spd a)) 65536)
    (refreshMoving a (driven a v)).vref a = v.vref a ∧ (∃ z, (refreshMoving a (driven a v)).axes[a]? = some z ∧ z.acc = acc) ∧
    (refreshMoving a (driven a v)).get (Obj.duty a) = encSigned 16 (clampI (-lim) lim
      (Int.tdiv (v.get (Obj.feedForward a) * v.vref a) 1000 + Int.tdiv (v.get (Obj.speedKp a) * (v.vref a - v.spd a)) 256
        + acc)) := by
  have hplain : isConst (Obj.duty a) = false := axis_plain 0x330020 a (by decide) ha
  have hsize : sizeOf (Obj.duty a) = 2 := axis_size 0x330020 a (by decide) ha
  have hget (k0 : Nat) (h1 : k0 ≠ 0x310001) : (refreshMoving a (driven a v)).get (k0 + 256 * a) = (driven a v).get (k0 + 256 * a) :=
    refreshMoving_get (obj_ne _ _ _ h1) _
  intro lim acc
  refine ⟨?_, ?_, ?_⟩
  · rw [State.vref, State.geti, hget _ (by decide), State.vref, State.geti]
    exact congrArg _ (get_put_ne _ _ _ v (obj_ne _ _ _ (by decide)))
  · have hacc : (driven a v).axes[a]?.map Axis.acc = some acc := by
      have hax : (v.puti (Obj.duty a) (clampI (-lim) lim (Int.tdiv (v.get (Obj.feedForward a) * v.vref a) 1000
          + Int.tdiv (v.get (Obj.speedKp a) * (v.vref a - v.spd a)) 256 + clampI (-lim) lim ((v.axis a).acc + Int.tdiv (v.get (Obj.speedKi a) * (v.vref a - v.spd a)) 65536)))).axes[a]? = some y := by
        rw [puti_eq, put_axes]; exact hy
      rw [driven]
      show ((State.axes _).modify a _)[a]?.map _ = _
      rw [List.getElem?_modify, hax, axis_eq hy]
      simp [acc, lim]
    have hkeep := keepsOfAxes_refreshMoving (p := Axis.acc) (fun _ _ => rfl) a (driven a v) a
    rw [hacc, Option.map_eq_some_iff] at hkeep
    exact hkeep
  · rw [hget _ (by decide), driven, axis_eq hy]
    refine (get_puti_self hplain _ v).trans ?_
    rw [hsize]

/-- A step of the trajectory leaves the loop's sum. -/
theorem moveTraj_unit {a : Nat} {s : State} {x : Axis} (hx : s.axes[a]? = some x) :
    ∃ y, (moveTraj a s).axes[a]? = some y ∧ y.acc = x.acc := by
  have hput (v : Int) : (s.puti (Obj.speedRef a) v).axes = s.axes := put_axes ..
  rw [moveTraj_eq]
  split
  · have hx' : (s.puti (Obj.speedRef a) (s.trajStep a).2.1).axes[a]? = some x := by rw [hput]; exact hx
    exact ⟨_, (oneMoves_modify _ hx').1, rfl⟩
  · refine ⟨x, ?_, rfl⟩
    rw [restTo]
    split
    · rw [setSt, setBit_eq, put_axes, hput, hx]
    · rw [hput, hx]

/-- SPEED_LOOP_UPDATE. -/
theorem speedLoopUpdate_answers {s : State} (hl : s.live = true) : Answers .speedLoopUpdate s fun t =>
      (∀ a x, a ∈ s.axes24 → s.axes[a]? = some x → x.en = true → x.braked = false →
        let u := moveTraj a s
        let lim : Int := u.dutyLim a
        let e := u.vref a - s.spd a
        let acc := clampI (-lim) lim (x.acc + Int.tdiv (s.get (Obj.speedKi a) * e) 65536)
        t.vref a = u.vref a ∧ (∃ y, t.axes[a]? = some y ∧ y.acc = acc) ∧
        t.get (Obj.duty a) = encSigned 16 (clampI (-lim) lim (Int.tdiv (s.get (Obj.feedForward a) * u.vref a) 1000
          + Int.tdiv (s.get (Obj.speedKp a) * e) 256 + acc))) ∧
      (∀ (a : Fin 24) (x : Axis), s.axes[a.val]? = some x → (x.en = false ∨ x.braked = true) →
        t.axes[a.val]? = some x ∧ t.get (Obj.duty a) = s.get (Obj.duty a)) := by
  have he : exec .speedLoopUpdate s = s.answer (each s.axes24 loopTurn s) := by
    show execSpeedLoopUpdate s = _
    rw [execSpeedLoopUpdate, answerLive_live hl]
    rfl
  have hm : Moves (caps [.objs, .axes]) s (each s.axes24 loopTurn s) :=
    each_moves (fun _ _ => loopTurn_moves (.refl _)) (.refl s)
  refine answers_answer _ he hm.variant hm.pending ⟨fun a x hmem hx hen hbr => ?_, fun a x hx hoff => ?_⟩
  · have ha : a < 24 := List.mem_range.1 (of_mem_filter hmem)
    obtain ⟨v, t, halike, ht, hax, hget⟩ := loopTurns_at s hmem
    have hunit : v.axis a = x := axis_eq (halike.unit.trans hx)
    have hturn : loopTurn a v = refreshMoving a (driven a (moveTraj a v)) := by
      rw [loopTurn, hunit, hen, hbr]; rfl
    have hw : AlikeAt a (moveTraj a s) (moveTraj a v) := halike.moveTraj ha
    obtain ⟨y, hy, hacc⟩ := moveTraj_unit hx
    have hshow := driven_shows ha (hw.unit.trans hy)
    have hconst (k0 : Nat) (hk : ownKey k0 = true) (hz : k0 + 256 * a ∉ zeroKeys a) :
        (moveTraj a v).get (k0 + 256 * a) = s.get (k0 + 256 * a) :=
      (hw.get ha k0 hk).trans (moveTraj_get hz s)
    have hzero (k0 : Nat) (h : k0 ∉ [0x330020, 0x330022, 0x310001]) : k0 + 256 * a ∉ zeroKeys a := by
      simp only [zeroKeys, List.mem_cons, List.not_mem_nil, or_false, not_or] at h ⊢
      exact ⟨obj_ne _ _ _ h.1, obj_ne _ _ _ h.2.1, obj_ne _ _ _ h.2.2⟩
    have hspd : (moveTraj a v).spd a = s.spd a := by
      rw [State.spd, State.spd, State.geti, State.geti, hconst _ (by decide) (hzero _ (by decide))]
    rw [hw.dutyLim ha, hw.vref ha, hspd, hacc, hconst 0x330008 (by decide) (hzero _ (by decide)),
      hconst 0x330009 (by decide) (hzero _ (by decide)), hconst 0x330007 (by decide) (hzero _ (by decide)), ← hturn] at hshow
    obtain ⟨h1, ⟨z, hz, hzacc⟩, h3⟩ := hshow
    have hkey (k0 : Nat) (hk : k0 = 0x330020 ∨ k0 = 0x330022) : t.get (k0 + 256 * a) = (loopTurn a v).get (k0 + 256 * a) := by
      refine hget _ fun b hb hb' => ?_
      simp only [zeroKeys, Obj.duty, Obj.speedRef, Obj.axisStatus, List.mem_cons, List.not_mem_nil, or_false, not_or]
      refine ⟨?_, ?_, ?_⟩ <;> omega
    rw [ht]
    intro u lim e acc
    refine ⟨?_, ⟨z, hax.trans hz, hzacc⟩, ?_⟩
    · rw [← h1, State.vref, State.vref, State.geti, State.geti, hkey 0x330022 (.inr rfl)]
    · exact (hkey 0x330020 (.inl rfl)).trans h3
  · have hstay : ∀ bs : List Nat, ∀ u : State, (∀ b ∈ bs, b < 24) → u.axes[a.val]? = some x →
        (each bs loopTurn u).axes[a.val]? = some x ∧ (each bs loopTurn u).get (Obj.duty a) = u.get (Obj.duty a) := by
      intro bs
      induction bs with
      | nil => exact fun u _ hu => ⟨hu, rfl⟩
      | cons b bs ih =>
        intro u hbs hu
        have hturn : (loopTurn b u).axes[a.val]? = some x ∧ (loopTurn b u).get (Obj.duty a) = u.get (Obj.duty a) := by
          by_cases hab : a.val = b
          · subst hab
            have hidle : loopTurn a u = u := by
              rw [loopTurn, axis_eq hu]
              obtain h | h := hoff <;> simp [h]
            rw [hidle]
            exact ⟨hu, rfl⟩
          · refine ⟨(loopTurn_axis_ne hab u).trans hu, loopTurn_get ?_ u⟩
            have hb := hbs b (by simp)
            simp only [zeroKeys, Obj.duty, Obj.speedRef, Obj.axisStatus, List.mem_cons, List.not_mem_nil, or_false, not_or]
            refine ⟨?_, ?_, ?_⟩ <;> omega
        obtain ⟨h1, h2⟩ := ih (loopTurn b u) (fun c hc => hbs c (by simp [hc])) hturn.1
        exact ⟨h1, h2.trans hturn.2⟩
    exact hstay _ s (fun b hb => List.mem_range.1 (of_mem_filter hb)) hx

/-! Set-points of the drive bus and the charger. -/

/-- The objects that a set-point moves. -/
def busKeys (j : Nat) : List Nat := [Obj.target j, Obj.output j, Obj.busStatus j]

/-- What a set-point steps to. -/
def steppedTo (s : State) (j raw : Nat) : Nat :=
  if raw < 65536 * s.busTarget j then min (65536 * s.busTarget j) (raw + s.get (Obj.slewUp j) * 65536 / 100)
  else max (65536 * s.busTarget j) (raw - s.get (Obj.slewDown j) * 65536 / 100)

section
variable {j k : Nat} (s : State)

theorem updateSetpoint_get (hk : k ∉ busKeys j) : (updateSetpoint j s).get k = s.get k := by
  simp only [busKeys, List.mem_cons, List.not_mem_nil, or_false, not_or] at hk
  obtain ⟨h1, h2, h3⟩ := hk
  rw [updateSetpoint]
  refine (get_put_ne _ _ _ _ h3).trans ?_
  rw [get_put_ne _ _ _ _ h2, get_put_ne _ _ _ _ h1]
  rfl

theorem updateSetpoint_setpts : (updateSetpoint j s).setpts =
    s.setpts.set j ⟨steppedTo s j (s.setpts.getD j ⟨0, 0⟩).raw, s.busTarget j⟩ := by
  rw [updateSetpoint]
  simp only [put_setpts]
  rfl

theorem output_plain (hj : j < 3) : isConst (Obj.output j) = false ∧ Obj.output j ≠ Obj.busStatus j := by
  revert hj j; decide

theorem updateSetpoint_output (hj : j < 3) : (updateSetpoint j s).get (Obj.output j) =
    fitTo (Obj.output j) ((steppedTo s j (s.setpts.getD j ⟨0, 0⟩).raw + 32768) / 65536) := by
  obtain ⟨hplain, hne⟩ := output_plain hj
  rw [updateSetpoint]
  refine (get_put_ne _ _ _ _ hne).trans ?_
  rw [get_put_self _ _ _ hplain]
  rfl

end

/-- Two states in which set-point `j` steps alike. -/
structure AlikeBus (j : Nat) (s t : State) : Prop where
  point : t.setpts[j]? = s.setpts[j]?
  seq : t.seq = s.seq
  sup : t.sup = s.sup
  obj : ∀ k ∈ [Obj.chargeCode, Obj.idleCode j, Obj.slewUp j, Obj.slewDown j], t.get k = s.get k

theorem AlikeBus.busTarget {j : Nat} {s t : State} (h : AlikeBus j s t) : t.busTarget j = s.busTarget j := by
  simp only [State.busTarget, State.busRequests, h.seq, h.sup, h.obj Obj.chargeCode (by simp),
    h.obj (Obj.idleCode j) (by simp)]

theorem AlikeBus.steppedTo {j : Nat} {s t : State} (h : AlikeBus j s t) (raw : Nat) :
    Machine.steppedTo t j raw = Machine.steppedTo s j raw := by
  simp only [Machine.steppedTo, h.busTarget, h.obj (Obj.slewUp j) (by simp), h.obj (Obj.slewDown j) (by simp)]

theorem bus_keys_apart : ∀ i j : Fin 3, i ≠ j →
    (∀ k ∈ [Obj.chargeCode, Obj.idleCode j, Obj.slewUp j, Obj.slewDown j], k ∉ busKeys i) ∧ Obj.output j ∉ busKeys i := by
  decide

theorem updateSetpoint_moves' (j : Nat) (s : State) : Moves (caps [.objs, .setpts]) s (updateSetpoint j s) :=
  updateSetpoint_moves (.refl s)

/-- A step of another set-point. -/
theorem alikeBus_update {i j : Nat} (hi : i < 3) (hj : j < 3) (hij : i ≠ j) (s : State) :
    AlikeBus j s (updateSetpoint i s) ∧ (updateSetpoint i s).get (Obj.output j) = s.get (Obj.output j) := by
  obtain ⟨hkeys, hout⟩ := bus_keys_apart ⟨i, hi⟩ ⟨j, hj⟩ fun h => hij (Fin.val_eq_of_eq h)
  have hm := updateSetpoint_moves' i s
  refine ⟨⟨?_, hm.part .seq (by decide), hm.part .sup (by decide), fun k hk => updateSetpoint_get s (hkeys k hk)⟩,
    updateSetpoint_get s hout⟩
  rw [updateSetpoint_setpts, List.getElem?_set_ne hij]

theorem AlikeBus.trans {j : Nat} {s t u : State} (h : AlikeBus j s t) (g : AlikeBus j t u) : AlikeBus j s u :=
  ⟨g.point.trans h.point, g.seq.trans h.seq, g.sup.trans h.sup, fun k hk => (g.obj k hk).trans (h.obj k hk)⟩

/-- Steps of other set-points. -/
theorem alikeBus_each {j : Nat} (hj : j < 3) (is : List Nat) (his : ∀ i ∈ is, i < 3 ∧ i ≠ j) (s : State) :
    AlikeBus j s (each is updateSetpoint s) ∧ (each is updateSetpoint s).get (Obj.output j) = s.get (Obj.output j) := by
  induction is generalizing s with
  | nil => exact ⟨⟨rfl, rfl, rfl, fun _ _ => rfl⟩, rfl⟩
  | cons i is ih =>
    obtain ⟨hi, hij⟩ := his i (by simp)
    obtain ⟨h1, h2⟩ := alikeBus_update hi hj hij s
    obtain ⟨h3, h4⟩ := ih (fun b hb => his b (by simp [hb])) (updateSetpoint i s)
    exact ⟨h1.trans h3, h4.trans h2⟩

/-- What the steps of a list of set-points leave of one of them. -/
theorem each_updateSetpoint {is : List Nat} (hnodup : is.Nodup) (hlt : ∀ i ∈ is, i < 3) {j : Nat} (hj : j ∈ is) {s : State}
    {p : SetPoint} (hp : s.setpts[j]? = some p) :
    (each is updateSetpoint s).setpts[j]? = some ⟨steppedTo s j p.raw, s.busTarget j⟩ ∧
    (each is updateSetpoint s).get (Obj.output j) = fitTo (Obj.output j) ((steppedTo s j p.raw + 32768) / 65536) := by
  obtain ⟨xs, ys, rfl⟩ := List.append_of_mem hj
  have hj3 : j < 3 := hlt j hj
  obtain ⟨-, hys, hxs⟩ := List.nodup_append.1 hnodup
  obtain ⟨hbefore, -⟩ := alikeBus_each hj3 xs (fun i hi => ⟨hlt i (by simp [hi]), hxs i hi j (by simp)⟩) s
  obtain ⟨hafter, hout⟩ := alikeBus_each hj3 ys
    (fun i hi => ⟨hlt i (by simp [hi]), fun h => (List.nodup_cons.1 hys).1 (h ▸ hi)⟩) (updateSetpoint j (each xs updateSetpoint s))
  have hpoint : (each xs updateSetpoint s).setpts[j]? = some p := hbefore.point.trans hp
  have hraw : (each xs updateSetpoint s).setpts.getD j ⟨0, 0⟩ = p := by
    rw [List.getD_eq_getElem?_getD, hpoint]; rfl
  rw [each_append]
  refine ⟨hafter.point.trans ?_, hout.trans ?_⟩
  · obtain ⟨hlt, -⟩ := List.getElem?_eq_some_iff.1 hpoint
    rw [updateSetpoint_setpts, List.getElem?_set_self hlt, hraw, hbefore.steppedTo, hbefore.busTarget]
  · rw [updateSetpoint_output _ hj3, hraw, hbefore.steppedTo]

/-- SETPOINT_UPDATE. -/
theorem setpointUpdate_answers {s : State} (hl : s.live = true) (hs : s.served = true) (hph : s.get Obj.powerPhase ≠ 0x14) :
    Answers .setpointUpdate s fun t => t.axes = s.axes ∧
      ∀ j p, j < (if s.variant.isT then 3 else 2) → s.setpts[j]? = some p → ∃ raw, t.setpts[j]? = some ⟨raw, s.busTarget j⟩ ∧
        raw = (if p.raw < 65536 * s.busTarget j
          then min (65536 * s.busTarget j) (p.raw + s.get (Obj.slewUp j) * 65536 / 100)
          else max (65536 * s.busTarget j) (p.raw - s.get (Obj.slewDown j) * 65536 / 100)) ∧
        t.get (Obj.output j) = fitTo (Obj.output j) ((raw + 32768) / 65536) := by
  have he : exec .setpointUpdate s = s.answer (each (if s.variant.isT then [0, 1, 2] else [0, 1]) updateSetpoint s) := by
    show execSetpointUpdate s = _
    rw [execSetpointUpdate, answerLive_live hl]
    simp only [hs, bne_iff_ne.2 hph, Bool.and_self, if_true]
  have hm : Moves (caps [.objs, .setpts]) s (each (if s.variant.isT then [0, 1, 2] else [0, 1]) updateSetpoint s) :=
    each_moves (fun _ _ => updateSetpoint_moves (.refl _)) (.refl s)
  refine answers_answer _ he hm.variant hm.pending ⟨hm.part .axes (by decide), fun j p hj hp => ?_⟩
  have hmem : j ∈ if s.variant.isT then [0, 1, 2] else [0, 1] := by
    cases hT : s.variant.isT <;> simp only [hT, Bool.false_eq_true, if_true, if_false] at hj ⊢ <;> simp <;> omega
  obtain ⟨hpoint, hout⟩ := each_updateSetpoint (by split <;> decide) (by split <;> decide) hmem hp
  exact ⟨steppedTo s j p.raw, hpoint, rfl, hout⟩

/-- Settles O11: the three ends of a motion, the speed loop axis by axis and the set-points one by one. -/
theorem motionsAreDrivenAndEndAtTheirTarget : Obligations.MotionsAreDrivenAndEndAtTheirTarget := by
  refine ⟨fun s a x hl _ hx => ⟨?_, ?_, ?_⟩, fun s hl => ⟨speedLoopUpdate_answers hl, setpointUpdate_answers hl⟩⟩
  · exact atTarget_answers hl hx
  · exact endStopDetect_answers hl hx
  · exact overtime_answers hl hx

end Sys2Proof.Machine
end

section
/-! Feedback: what the counts of an axis move -/
namespace Sys2Proof.Machine
open Sys2Proof Sys2Proof.Config

/-! What the feedback of an axis leaves. -/

set_option Elab.async false in
/-- The objects of an axis that a fault of it moves besides its cause. -/
def faultKeys (a : Nat) : List Nat := Obj.faultCause a :: zeroKeys a

theorem applyReaction_get {a k : Nat} (hk : k ∉ zeroKeys a) (s : State) : (applyReaction a s).get k = s.get k := by
  unfold applyReaction
  split
  · exact zeroDrive_get hk _
  · exact zeroDrive_get hk _
  · exact zeroDrive_get hk _
  · rfl

theorem raiseFault_get {a b k : Nat} (hk : k ∉ faultKeys a) (hn : noisy k = false) (hd : k ∉ dozeKeys) (s : State) :
    (raiseFault a b s).get k = s.get k := by
  simp only [faultKeys, List.mem_cons, not_or] at hk
  obtain ⟨hcause, hzero⟩ := hk
  have hst : k ≠ Obj.axisStatus a := fun h => hzero (by simp [zeroKeys, h])
  have hreact (f : Axis → Axis) : (applyReaction a ((s.setBit (Obj.faultCause a) b true).onAxis a f)).get k = s.get k :=
    (applyReaction_get hzero _).trans (get_put_ne _ _ _ s hcause)
  unfold raiseFault
  dsimp only
  split
  · exact (dozeExit_get hd _).trans ((axisFaultRecord_get _ _ _ _ hn).trans ((setSt_get _ hst).trans (hreact _)))
  · exact hreact _

theorem unreference_get {a k : Nat} (hk : k ≠ Obj.axisStatus a) (s : State) : (unreference a s).get k = s.get k := by
  unfold unreference
  split
  · rfl
  · dsimp only
    split
    · rw [setSt_get _ hk, onAxis_get, setSt_get _ hk]
    · rw [onAxis_get, setSt_get _ hk]

theorem feedbackFault_get {a kind k : Nat} (hk : k ∉ Obj.feedbackFault a :: faultKeys a) (hn : noisy k = false)
    (hd : k ∉ dozeKeys) (s : State) : (feedbackFault a kind s).get k = s.get k := by
  simp only [List.mem_cons, not_or] at hk
  obtain ⟨hfault, hkeys⟩ := hk
  have hst : k ≠ Obj.axisStatus a := fun h => hkeys (by simp [faultKeys, zeroKeys, h])
  unfold feedbackFault
  dsimp only
  refine (raiseFault_get hkeys hn hd _).trans ?_
  split
  · exact get_put_ne _ _ _ s hfault
  · exact (unreference_get hst _).trans (get_put_ne _ _ _ s hfault)

theorem checkNip_get {a k : Nat} (hk : k ≠ Obj.axisStatus a) (s : State) : (checkNip a s).get k = s.get k := by
  unfold checkNip
  split
  · exact setSt_get _ hk
  · rfl

theorem runCompares_get {a k : Nat} (hs : k ≠ Obj.compareStatus a) (hp : k ≠ Obj.comparePulseCount a) (s : State) :
    (runCompares a s).get k = s.get k := by
  refine each_mem_get fun i _ u => ?_
  dsimp only
  split
  · exact (get_put_ne _ _ _ _ hp).trans (get_put_ne _ _ _ _ hs)
  · rfl

/-- The objects that a moved Position can move. -/
def movedKeys (a : Nat) : List Nat := [Obj.compareStatus a, Obj.comparePulseCount a, Obj.axisStatus a]

theorem posMoved_get {a k : Nat} (hk : k ∉ movedKeys a) (s : State) : (posMoved a s).get k = s.get k := by
  simp only [movedKeys, List.mem_cons, List.not_mem_nil, or_false, not_or] at hk
  obtain ⟨hs, hp, hst⟩ := hk
  exact (checkNip_get hst _).trans (runCompares_get hs hp _)

theorem checkTravel_get {a k : Nat} (hk : k ≠ Obj.feedbackStatus a) (s : State) : (checkTravel a s).get k = s.get k := by
  unfold checkTravel
  dsimp only
  split
  · exact get_put_ne _ _ _ _ hk
  · rfl

theorem markEdge_get {a : Nat} {up : Bool} {t k : Nat} (hk : k ≠ Obj.fbLastEdgeTime a) (s : State) :
    (markEdge a up t s).get k = s.get k :=
  get_put_ne _ _ _ s hk

/-! Bits of FeedbackStatus. -/

section
variable {a : Nat} (ha : a < 24)
include ha

theorem feedbackStatus_plain : isConst (Obj.feedbackStatus a) = false := axis_plain 0x320024 a (by decide) ha

theorem fb_setFb (b j : Nat) (v : Bool) (s : State) (hj : j < 8 * sizeOf (Obj.feedbackStatus a)) :
    (setFb a b v s).fb a j = if j = b then v else s.fb a j :=
  bit_setBit _ b j v s (feedbackStatus_plain ha) hj

end

theorem fb_congr {a : Nat} {s t : State} (h : t.get (Obj.feedbackStatus a) = s.get (Obj.feedbackStatus a)) (b : Nat) :
    t.fb a b = s.fb a b := by
  rw [State.fb, State.fb, State.bit, State.bit, h]

/-! The counts. -/

/-- The counts and Position take a total that they can hold. -/
def countsTaken (a : Nat) (total : Int) (s : State) : State :=
  ((s.puti (Obj.revCount a) (total / s.get (Obj.countsPerRev a))).put (Obj.inRev a)
    (total % s.get (Obj.countsPerRev a)).toNat).puti (Obj.position a) (total - s.geti (Obj.positionOffset a))

/-- The objects that hold the counts. -/
def countKeys (a : Nat) : List Nat := [Obj.revCount a, Obj.inRev a, Obj.position a]

theorem countsTaken_get {a k : Nat} {total : Int} (hk : k ∉ countKeys a) (s : State) :
    (countsTaken a total s).get k = s.get k := by
  simp only [countKeys, List.mem_cons, List.not_mem_nil, or_false, not_or] at hk
  obtain ⟨hrev, hin, hpos⟩ := hk
  rw [countsTaken, puti_eq, get_put_ne _ _ _ _ hpos, get_put_ne _ _ _ _ hin, puti_eq, get_put_ne _ _ _ _ hrev]

theorem setTotal_inRange {a : Nat} {total : Int} {s : State} (h : InRange a total s) :
    setTotal a total s = countsTaken a total s := by
  obtain ⟨h1, h2, h3, h4⟩ := h
  have hin : ¬(total / (s.get (Obj.countsPerRev a) : Int) < -8388608 ∨ 8388607 < total / (s.get (Obj.countsPerRev a) : Int) ∨
      total - s.geti (Obj.positionOffset a) < -2147483648 ∨ 2147483647 < total - s.geti (Obj.positionOffset a)) := by omega
  rw [setTotal]
  dsimp only
  rw [if_neg hin, countsTaken]

theorem CountsAt.of_get {a : Nat} {total : Int} {s t u : State} (h : CountsAt a total s t)
    (hg : ∀ k ∈ countKeys a, u.get k = t.get k) : CountsAt a total s u := by
  obtain ⟨h1, h2, h3⟩ := h
  refine ⟨?_, ?_, ?_⟩
  · rw [State.geti, hg _ (by simp [countKeys])]; exact h1
  · rw [hg _ (by simp [countKeys])]; exact h2
  · rw [State.pos, State.geti, hg _ (by simp [countKeys])]; exact h3

theorem countsAt_countsTaken {a : Nat} (ha : a < 24) {total : Int} {s : State} (h : InRange a total s) :
    CountsAt a total s (countsTaken a total s) := by
  obtain ⟨h1, h2, h3, h4⟩ := h
  have hrev : sizeOf (Obj.revCount a) = 4 := axis_size 0x320022 a (by decide) ha
  have hpos : sizeOf (Obj.position a) = 4 := axis_size 0x320020 a (by decide) ha
  have hgot := geti_puti_self (s := s) (k := Obj.revCount a) (v := total / (s.get (Obj.countsPerRev a) : Int))
    (axis_plain 0x320022 a (by decide) ha) (hrev ▸ by decide) (by rw [hrev, half_four]; omega) (by rw [hrev, half_four]; omega)
  have hput := geti_puti_self (s := (s.puti (Obj.revCount a) (total / s.get (Obj.countsPerRev a))).put (Obj.inRev a)
      (total % s.get (Obj.countsPerRev a)).toNat) (k := Obj.position a) (v := total - s.geti (Obj.positionOffset a))
    (axis_plain 0x320020 a (by decide) ha) (hpos ▸ by decide) (by rw [hpos, half_four]; omega) (by rw [hpos, half_four]; omega)
  refine ⟨?_, ?_, hput⟩
  · refine Eq.trans ?_ hgot
    rw [countsTaken, State.geti, State.geti, puti_eq, get_put_ne _ _ _ _ (obj_ne _ _ _ (by decide)),
      get_put_ne _ _ _ _ (obj_ne _ _ _ (by decide))]
    rfl
  · rw [countsTaken, puti_eq, get_put_ne _ _ _ _ (obj_ne _ _ _ (by decide)),
      get_put_self _ _ _ (axis_plain 0x320021 a (by decide) ha)]

end Sys2Proof.Machine
end

section
/-! Edges of an encoder -/
namespace Sys2Proof.Machine
open Sys2Proof Sys2Proof.Config

/-! What an edge leaves of its axis's unit. -/

set_option Elab.async false in
/-- What the lines of an axis show of its unit. -/
structure Axis.Lines where
  levelA : Bool
  levelB : Bool
  pairBad : List Bool
  pairLong : List Bool
  illegalAt : List Nat
  toothAt : Option Nat
  teeth : Nat
  invalidRun : Nat
  lastWord : Option Int
  rangeStopped : Bool

def Axis.lines (x : Axis) : Axis.Lines :=
  ⟨x.levelA, x.levelB, x.pairBad, x.pairLong, x.illegalAt, x.toothAt, x.teeth, x.invalidRun, x.lastWord, x.rangeStopped⟩

theorem KeepsOfAxes.unit {α : Type} {p : Axis → α} {s t : State} (h : KeepsOfAxes p s t) {a : Nat} {x : Axis}
    (hx : s.axes[a]? = some x) : ∃ y, t.axes[a]? = some y ∧ p y = p x := by
  have ha := h a
  rw [hx, Option.map_some, Option.map_eq_some_iff] at ha
  exact ha

section
variable {α : Type} {p : Axis → α} {s t : State} (h : KeepsOfAxes p s t)
include h

theorem KeepsOfAxes.onAxis {f : Axis → Axis} {a : Nat} (hf : ∀ x, p (f x) = p x := by exact fun _ => rfl) :
    KeepsOfAxes p s (t.onAxis a f) :=
  h.trans (keepsOfAxes_onAxis hf a t)

theorem KeepsOfAxes.axes {u : State} (hu : u.axes = t.axes) : KeepsOfAxes p s u := h.trans (.of_axes hu)

theorem KeepsOfAxes.setSt {a b : Nat} {v : Bool} : KeepsOfAxes p s (Machine.setSt a b v t) := h.axes (put_axes ..)

theorem KeepsOfAxes.put {k v : Nat} : KeepsOfAxes p s (t.put k v) := h.axes (put_axes ..)

end

theorem KeepsOfAxes.refl {α : Type} (p : Axis → α) (s : State) : KeepsOfAxes p s s := fun _ => rfl

section
variable {a : Nat} {s t : State} (h : KeepsOfAxes Axis.lines s t)
include h

theorem KeepsOfAxes.applyReaction : KeepsOfAxes Axis.lines s (Machine.applyReaction a t) := by
  unfold Machine.applyReaction
  split
  · exact KeepsOfAxes.axes (KeepsOfAxes.onAxis h) (zeroDrive_axes a _)
  · exact KeepsOfAxes.axes (KeepsOfAxes.onAxis h) (zeroDrive_axes a _)
  · exact KeepsOfAxes.axes (KeepsOfAxes.onAxis h) (zeroDrive_axes a _)
  · exact h

theorem KeepsOfAxes.raiseFault {b : Nat} : KeepsOfAxes Axis.lines s (Machine.raiseFault a b t) := by
  unfold Machine.raiseFault
  dsimp only
  split
  · refine KeepsOfAxes.axes (t := axisFaultRecord a 2 _) ?_ ((dozeExit_moves (.refl _) : Moves (caps [.objs, .pow, .net]) _ _).part
      .axes (by decide))
    refine KeepsOfAxes.axes ?_ (noted_axisFaultRecord ..).axes
    exact h.put.onAxis.applyReaction.setSt
  · exact h.put.onAxis.applyReaction

theorem KeepsOfAxes.unreference : KeepsOfAxes Axis.lines s (Machine.unreference a t) := by
  unfold Machine.unreference
  split
  · exact h
  · dsimp only
    split
    · exact h.setSt.onAxis.setSt
    · exact h.setSt.onAxis

theorem KeepsOfAxes.feedbackFault {kind : Nat} : KeepsOfAxes Axis.lines s (Machine.feedbackFault a kind t) := by
  unfold Machine.feedbackFault
  dsimp only
  split
  · exact h.put.raiseFault
  · exact h.put.unreference.raiseFault

theorem KeepsOfAxes.checkNip : KeepsOfAxes Axis.lines s (Machine.checkNip a t) := by
  unfold Machine.checkNip
  split
  · exact h.setSt.onAxis
  · exact h

theorem KeepsOfAxes.runCompares : KeepsOfAxes Axis.lines s (Machine.runCompares a t) := by
  refine h.trans (keepsOfAxes_each (fun i u => ?_) _ _)
  dsimp only
  split
  · exact (KeepsOfAxes.refl _ u).onAxis.put.put.onAxis
  · exact (KeepsOfAxes.refl _ u).onAxis

theorem KeepsOfAxes.posMoved : KeepsOfAxes Axis.lines s (Machine.posMoved a t) :=
  h.onAxis.runCompares.checkNip

theorem KeepsOfAxes.checkTravel : KeepsOfAxes Axis.lines s (Machine.checkTravel a t) := by
  unfold Machine.checkTravel
  dsimp only
  split
  · exact h.onAxis.put
  · exact h.onAxis

theorem KeepsOfAxes.markEdge {up : Bool} {n : Nat} : KeepsOfAxes Axis.lines s (Machine.markEdge a up n t) :=
  h.put.onAxis

end

theorem countsTaken_axes (a : Nat) (total : Int) (s : State) : (countsTaken a total s).axes = s.axes := by
  rw [countsTaken, puti_eq, put_axes, put_axes, puti_eq, put_axes]

/-- What the edge leaves. -/
def edgeTaken (a : Nat) (up : Bool) (t : Nat) (s : State) : State :=
  checkTravel a (posMoved a (markEdge a up t (countsTaken a (s.total a + (if up then 1 else -1)) s)))

section
variable {a : Nat} {up : Bool} {s : State}

/-- An edge that the counts can hold. -/
theorem countOne_inRange {x : Axis} (hx : s.axes[a]? = some x) (hstop : x.rangeStopped = false)
    (h : InRange a (s.total a + (if up then 1 else -1)) s) (t : Nat) : countOne a up t s = edgeTaken a up t s := by
  have hx' : (countsTaken a (s.total a + (if up then 1 else -1)) s).axes[a]? = some x := by rw [countsTaken_axes]; exact hx
  rw [countOne, axis_eq hx, hstop, if_neg Bool.false_ne_true]
  dsimp only
  rw [setTotal_inRange h, axis_eq hx', hstop, if_neg Bool.false_ne_true, edgeTaken]

theorem edgeTaken_counts (ha : a < 24) (h : InRange a (s.total a + (if up then 1 else -1)) s) (t : Nat) :
    CountsAt a (s.total a + (if up then 1 else -1)) s (edgeTaken a up t s) := by
  have hgot := countsAt_countsTaken ha h
  refine hgot.of_get fun k hk => ?_
  have hkey (k0 : Nat) (hk0 : k0 ∈ [0x320022, 0x320021, 0x320020]) : (edgeTaken a up t s).get (k0 + 256 * a) =
      (countsTaken a (s.total a + (if up then 1 else -1)) s).get (k0 + 256 * a) := by
    simp only [List.mem_cons, List.not_mem_nil, or_false] at hk0
    rw [edgeTaken, checkTravel_get, posMoved_get, markEdge_get]
    · simp only [Obj.fbLastEdgeTime]; omega
    · simp only [movedKeys, Obj.compareStatus, Obj.comparePulseCount, Obj.axisStatus, List.mem_cons, List.not_mem_nil,
        or_false, not_or]
      omega
    · simp only [Obj.feedbackStatus]; omega
  simp only [countKeys, List.mem_cons, List.not_mem_nil, or_false] at hk
  obtain rfl | rfl | rfl := hk
  · exact hkey 0x320022 (by decide)
  · exact hkey 0x320021 (by decide)
  · exact hkey 0x320020 (by decide)

end

theorem edgeTaken_lines (a : Nat) (up : Bool) (t : Nat) (s : State) : KeepsOfAxes Axis.lines s (edgeTaken a up t s) :=
  ((KeepsOfAxes.refl _ s).axes (countsTaken_axes a _ s)).markEdge.posMoved.checkTravel

theorem edgeTaken_moves (a : Nat) (up : Bool) (t : Nat) (s : State) : Moves (caps [.objs, .axes]) s (edgeTaken a up t s) :=
  checkTravel_moves (posMoved_moves (markEdge_moves (put_moves (put_moves (put_moves (.refl s))))))

/-- The unit with the given levels on its lines. -/
def Axis.withLevels (la lb : Bool) (x : Axis) : Axis := { x with levelA := la, levelB := lb }

/-- The encoder's lines of axis `a` have the given levels. -/
def lined (a : Nat) (la lb : Bool) (s : State) : State := s.onAxis a (Axis.withLevels la lb)

/-- An illegal transition is counted. -/
def illegalCounted (a : Nat) (s : State) : State :=
  ((setFb a 2 true s).inc (Obj.illegalCount a)).onAxis a fun x =>
    { x with illegalAt := x.illegalAt.filter (fun t => decide (s.now < t + sec 1)) ++ [s.now] }

theorem illegalTransition_eq (a : Nat) (s : State) : illegalTransition a s =
    if (illegalCounted a s).get (Obj.illegalLimit a) < ((illegalCounted a s).axis a).illegalAt.length then
      feedbackFault a 3 (illegalCounted a s) else illegalCounted a s := by
  have hnow : ((setFb a 2 true s).inc (Obj.illegalCount a)).now = s.now := by
    rw [inc_eq, put_now, setFb, setBit_eq, put_now]
  rw [illegalTransition, illegalCounted, hnow]

theorem illegalTransition_get {a k : Nat} (hk : k ∉ Obj.feedbackFault a :: faultKeys a) (hn : noisy k = false)
    (hd : k ∉ dozeKeys) (s : State) : (illegalTransition a s).get k = (illegalCounted a s).get k := by
  rw [illegalTransition_eq]
  split
  · exact feedbackFault_get hk hn hd _
  · rfl

theorem not_feedbackFaultKey {a : Nat} (ha : a < 24) (k0 : Nat)
    (hk : k0 ∈ [0x320024, 0x320029, 0x320021, 0x320020]) : k0 + 256 * a ∉ Obj.feedbackFault a :: faultKeys a ∧
    noisy (k0 + 256 * a) = false ∧ k0 + 256 * a ∉ dozeKeys := by
  simp only [List.mem_cons, List.not_mem_nil, or_false] at hk
  refine ⟨?_, axis_quiet k0 a (by omega) ha, axis_awake k0 a (by omega)⟩
  simp only [faultKeys, zeroKeys, Obj.feedbackFault, Obj.faultCause, Obj.duty, Obj.speedRef, Obj.axisStatus, List.mem_cons,
    List.not_mem_nil, or_false, not_or]
  omega

section
variable {s : State} {a : Fin 24} {x : Axis} (hl : s.live = true) (hs : s.served = true)
  (ha : s.variant.hasAxis a.val = true) (hx : s.axes[a.val]? = some x)
include hl hs ha hx

/-- ENCODER_EDGE of an axis whose pairs are good. -/
theorem exec_encoderEdge (la lb : Bool) (hm : s.get (Obj.feedbackMode a) = 0) (h0 : x.pairBad.getD 0 false = false)
    (h1 : x.pairBad.getD 1 false = false) :
    exec (.encoderEdge a la lb) s = s.answer (
      if (la != x.levelA) && (lb != x.levelB) then illegalTransition a (lined a la lb s)
      else if (la != x.levelA) || (lb != x.levelB) then
        countOne a ((if la != x.levelA then la != lb else la == lb) != s.inverted a)
          (s.f - 6 * s.get (Obj.quadFilter a)) (lined a la lb s)
      else lined a la lb s) := by
  show execEncoderEdge a la lb s = _
  rw [execEncoderEdge]
  simp only [hl, hs, ha, hm, axis_eq hx, h0, h1, Bool.not_true, Bool.or_self, Bool.false_eq_true, if_false,
    bne_self_eq_false]
  rfl

/-- ENCODER_EDGE on one line. -/
theorem encoderEdge_answers (la lb : Bool) (hm : s.get (Obj.feedbackMode a) = 0) (h0 : x.pairBad.getD 0 false = false)
    (h1 : x.pairBad.getD 1 false = false) (hstop : x.rangeStopped = false) (hone : (la != x.levelA) = !(lb != x.levelB))
    (hin : InRange a (s.total a + (if ((if la != x.levelA then la != lb else la == lb) != s.inverted a) then 1 else -1)) s) :
    Answers (.encoderEdge a la lb) s fun t =>
        CountsAt a (s.total a + (if ((if la != x.levelA then la != lb else la == lb) != s.inverted a) then 1 else -1)) s t ∧
        ∃ y, t.axes[a.val]? = some y ∧ y.levelA = la ∧ y.levelB = lb := by
  have he := exec_encoderEdge hl hs ha hx la lb hm h0 h1
  have hx' : (lined a la lb s).axes[a.val]? = some (x.withLevels la lb) :=
    (oneMoves_modify _ hx).1
  have hnot : ((la != x.levelA) && (lb != x.levelB)) = false := by rw [hone]; cases lb != x.levelB <;> rfl
  have hany : ((la != x.levelA) || (lb != x.levelB)) = true := by rw [hone]; cases lb != x.levelB <;> rfl
  rw [hnot, hany, if_neg Bool.false_ne_true, if_pos rfl] at he
  generalize ((if la != x.levelA then la != lb else la == lb) != s.inverted a) = up at he hin ⊢
  have hin' : InRange a ((lined a la lb s).total a + (if up then 1 else -1)) (lined a la lb s) := hin
  rw [countOne_inRange hx' hstop hin'] at he
  have hmoves : Moves (caps [.objs, .axes]) s (edgeTaken a up (s.f - 6 * s.get (Obj.quadFilter a)) (lined a la lb s)) :=
    (onAxis_moves (.refl s)).trans (edgeTaken_moves a up _ _)
  obtain ⟨y, hy, hlines⟩ := (edgeTaken_lines a up _ _).unit hx'
  refine answers_answer _ he hmoves.variant hmoves.pending ⟨edgeTaken_counts a.isLt hin' _, y, hy, ?_, ?_⟩
  · exact congrArg Axis.Lines.levelA hlines
  · exact congrArg Axis.Lines.levelB hlines

/-- ENCODER_EDGE on both lines. -/
theorem encoderEdge_illegal (la lb : Bool) (hm : s.get (Obj.feedbackMode a) = 0) (h0 : x.pairBad.getD 0 false = false)
    (h1 : x.pairBad.getD 1 false = false) (hla : la ≠ x.levelA) (hlb : lb ≠ x.levelB) :
    Answers (.encoderEdge a la lb) s fun t =>
        t.fb a 2 = true ∧ CountsUp (Obj.illegalCount a) s t ∧ t.get (Obj.inRev a) = s.get (Obj.inRev a) ∧
        t.get (Obj.position a) = s.get (Obj.position a) ∧
        ∃ y, t.axes[a.val]? = some y ∧ y.levelA = la ∧ y.levelB = lb ∧
          y.illegalAt = x.illegalAt.filter (fun u => decide (s.now < u + sec 1)) ++ [s.now] := by
  have he := exec_encoderEdge hl hs ha hx la lb hm h0 h1
  rw [bne_iff_ne.2 hla, bne_iff_ne.2 hlb, Bool.and_self, if_pos rfl] at he
  have hmoves : Moves (caps [.objs, .seq, .recd, .axes, .pow, .net]) s (illegalTransition a (lined a la lb s)) :=
    illegalTransition_moves (onAxis_moves (.refl s))
  have hget (k0 : Nat) (hk : k0 ∈ [0x320024, 0x320029, 0x320021, 0x320020]) :
      (illegalTransition a (lined a la lb s)).get (k0 + 256 * a.val) =
      ((setFb a 2 true (lined a la lb s)).inc (Obj.illegalCount a)).get (k0 + 256 * a.val) := by
    obtain ⟨hkeys, hn, hd⟩ := not_feedbackFaultKey a.isLt k0 hk
    exact illegalTransition_get hkeys hn hd _
  have hkeep (k0 : Nat) (hk : k0 ∈ [0x320021, 0x320020]) :
      (illegalTransition a (lined a la lb s)).get (k0 + 256 * a.val) = s.get (k0 + 256 * a.val) := by
    rw [hget k0 (by simp at hk ⊢; omega), inc_eq, get_put_ne _ _ _ _ (by simp at hk; simp only [Obj.illegalCount]; omega)]
    exact get_put_ne _ _ _ (lined a la lb s) (by simp at hk; simp only [Obj.feedbackStatus]; omega)
  have hcounted : KeepsOfAxes Axis.lines (illegalCounted a (lined a la lb s)) (illegalTransition a (lined a la lb s)) := by
    rw [illegalTransition_eq]
    split
    · exact (KeepsOfAxes.refl _ _).feedbackFault
    · exact .refl _ _
  have hx' : ((setFb a 2 true (lined a la lb s)).inc (Obj.illegalCount a)).axes[a.val]? =
      some (x.withLevels la lb) := by
    rw [inc_eq, put_axes, setFb, setBit_eq, put_axes]
    exact (oneMoves_modify _ hx).1
  obtain ⟨y, hy, hlines⟩ := hcounted.unit (oneMoves_modify _ hx').1
  refine answers_answer _ he hmoves.variant hmoves.pending ⟨?_, ?_, hkeep 0x320021 (by decide), hkeep 0x320020 (by decide),
    y, hy, congrArg Axis.Lines.levelA hlines, congrArg Axis.Lines.levelB hlines, congrArg Axis.Lines.illegalAt hlines⟩
  · refine (fb_congr (hget 0x320024 (by decide)) 2).trans ?_
    refine (fb_congr (get_put_ne _ _ _ _ (obj_ne _ _ _ (by decide))) 2).trans ?_
    exact (fb_setFb a.isLt 2 2 true _ (by rw [show sizeOf (Obj.feedbackStatus a) = _ from axis_size (n := 2) 0x320024 a (by decide) a.isLt]; decide)).trans (if_pos rfl)
  · refine (hget 0x320029 (by decide)).trans ?_
    rw [inc_eq]
    refine (get_put_self _ _ _ (axis_plain 0x320029 a (by decide) a.isLt)).trans ?_
    rw [setFb, setBit_eq, get_put_ne _ _ _ _ (obj_ne _ _ _ (by decide))]
    rfl

end

end Sys2Proof.Machine
end

section
/-! Teeth and Speed -/
namespace Sys2Proof.Machine
open Sys2Proof Sys2Proof.Config

section
variable {s : State} {a : Fin 24} {x : Axis} (hl : s.live = true) (hx : s.axes[a.val]? = some x)
include hl hx

set_option Elab.async false in
/-- ILLEGAL_BIT_EXPIRY. -/
theorem illegalBitExpiry_answers (ht : ∀ u, u ∈ x.illegalAt → u + sec 1 ≤ s.now) : Answers (.illegalBitExpiry a) s fun t =>
      BitTo (Obj.feedbackStatus a) 2 false s t ∧ OnlyMoves [Obj.feedbackStatus a] s t ∧
      OneMoves a.val { x with illegalAt := [] } s.axes t.axes := by
  have hall : (x.illegalAt.all fun t => decide (t + sec 1 ≤ s.now)) = true :=
    List.all_eq_true.2 fun u hu => decide_eq_true (ht u hu)
  refine answers_answer (setFb a 2 false (s.onAxis a fun x => { x with illegalAt := [] })) ?_ (put_variant ..)
    (put_pending ..) ⟨?_, ?_, ?_⟩
  · show execIllegalBitExpiry a s = _
    rw [execIllegalBitExpiry, answerLive_live hl, axis_eq hx, hall, if_pos rfl]
  · exact bitTo_setBit _ _ _ _ (feedbackStatus_plain a.isLt)
  · exact onlyMoves_put _ _ (s.onAxis a fun x => { x with illegalAt := [] })
  · rw [setFb, setBit_eq, put_axes]
    exact oneMoves_modify _ hx

/-- The unit after the first tooth of a run. -/
def Axis.firstTooth (now : Nat) (x : Axis) : Axis :=
  { x with toothAt := some now, teeth := 1, gap := none, exempt := false }

/-- TONE_TOOTH, the first of a run. -/
theorem toneTooth_answers (hs : s.served = true) (ha : s.variant.hasAxis a.val = true) (hm : s.get (Obj.feedbackMode a) = 1)
    (h0 : x.pairBad.getD 0 false = false) (hfirst : x.toothAt = none) (hen : x.en = true) (hstop : x.rangeStopped = false)
    (hin : InRange a (s.total a + (if s.toneUp a then 1 else -1)) s) :
    Answers (.toneTooth a) s fun t => CountsAt a (s.total a + (if s.toneUp a then 1 else -1)) s t ∧
        ∃ y, t.axes[a.val]? = some y ∧ y.toothAt = some s.now ∧ y.teeth = 1 := by
  have hx' : (s.onAxis a (Axis.firstTooth s.now)).axes[a.val]? = some (x.firstTooth s.now) := (oneMoves_modify _ hx).1
  have hup : (s.onAxis a (Axis.firstTooth s.now)).toneUp a = s.toneUp a := by
    rw [State.toneUp, State.toneUp, axis_eq hx', axis_eq hx]; rfl
  have hin' : InRange a ((s.onAxis a (Axis.firstTooth s.now)).total a + (if s.toneUp a then 1 else -1))
      (s.onAxis a (Axis.firstTooth s.now)) := hin
  have htwice : (s.onAxis a fun x => { x with toothAt := some s.now }).onAxis a
      (fun x => { x with teeth := 1, gap := none, exempt := false }) = s.onAxis a (Axis.firstTooth s.now) := by
    simp only [State.onAxis, List.modify_modify_eq]
    rfl
  have he : exec (.toneTooth a) s = s.answer (edgeTaken a (s.toneUp a) (s.f - 6 * s.get (Obj.quadFilter a))
      (s.onAxis a (Axis.firstTooth s.now))) := by
    show execToneTooth a s = _
    rw [execToneTooth, answerServed_live hl hs]
    simp only [ha, hm, axis_eq hx, h0, hfirst, Bool.not_true, Bool.or_self, bne_self_eq_false, Bool.false_eq_true, if_false,
      Option.isNone_none, Bool.true_or, if_true]
    rw [htwice, countTooth]
    simp only [axis_eq hx', show (x.firstTooth s.now).en = x.en from rfl, hen, if_true, hup]
    rw [countOne_inRange hx' hstop hin']
    rfl
  have hmoves : Moves (caps [.objs, .axes]) s (edgeTaken a (s.toneUp a) (s.f - 6 * s.get (Obj.quadFilter a))
      (s.onAxis a (Axis.firstTooth s.now))) := (onAxis_moves (.refl s)).trans (edgeTaken_moves a _ _ _)
  obtain ⟨y, hy, hlines⟩ := (edgeTaken_lines a _ _ _).unit hx'
  exact answers_answer _ he hmoves.variant hmoves.pending ⟨edgeTaken_counts a.isLt hin' _, y, hy,
    congrArg Axis.Lines.toothAt hlines, congrArg Axis.Lines.teeth hlines⟩

/-- The edges of the window of the speed. -/
def Axis.windowEdges (x : Axis) (s : State) (a : Nat) : List Edge :=
  x.edges.filter fun e => decide (s.f ≤ e.t + ms (s.get (Obj.speedWindow a)))

/-- SPEED_COMPUTE gives Speed what its rule says. -/
theorem speedCompute_answers (ha : s.variant.hasAxis a.val = true) : ∃ v : Int,
    (x.edges = [] → v = 0) ∧
    (∀ e0 e1, (x.windowEdges s a).head? = some e0 → x.edges.getLast? = some e1 → e0.t ≠ e1.t →
      v = Int.tdiv ((e1.pos - e0.pos) * 150000000) ((e1.t : Int) - e0.t)) ∧
    Answers (.speedCompute a) s fun t => t.get (Obj.speed a) = encSigned 32 v := by
  have hanswer (v : Int) (f : Axis → Axis)
      (he : exec (.speedCompute a) s = s.answer (refreshMoving a ((s.onAxis a f).puti (Obj.speed a) v))) :
      Answers (.speedCompute a) s fun t => t.get (Obj.speed a) = encSigned 32 v := by
    have hm : Moves (caps [.objs, .axes]) s (refreshMoving a ((s.onAxis a f).puti (Obj.speed a) v)) :=
      refreshMoving_moves (put_moves (onAxis_moves (.refl s)))
    refine answers_answer _ he hm.variant hm.pending ?_
    rw [refreshMoving_get (obj_ne _ _ _ (by decide)), get_puti_self (axis_plain 0x320023 a (by decide) a.isLt),
      show sizeOf (Obj.speed a) = 4 from axis_size 0x320023 a (by decide) a.isLt]
  have he : exec (.speedCompute a) s = execSpeedCompute a s := rfl
  rw [execSpeedCompute, answerLive_live hl] at he
  simp only [ha, Bool.not_true, Bool.false_eq_true, if_false, axis_eq hx] at he
  refine ⟨_, ?_, ?_, hanswer _ _ he⟩
  · intro hnone
    rw [hnone]
    rfl
  · intro e0 e1 hhead hlast hne
    have hheadD : (x.windowEdges s a).headD e1 = e0 := by rw [List.headD_eq_head?_getD, hhead]; rfl
    subst hheadD
    rw [hlast]
    exact if_pos hne

end

/-- Settles O12: edges and teeth take their total when the counts can hold it, and Speed follows its window. -/
theorem edgesAndTeethMoveThePosition : Obligations.EdgesAndTeethMoveThePosition := by
  intro s a x hl hs ha hx
  obtain ⟨v, hnone, htwo, hanswers⟩ := speedCompute_answers hl hx ha
  refine ⟨fun la lb => encoderEdge_answers hl hs ha hx la lb, fun la lb => encoderEdge_illegal hl hs ha hx la lb,
    illegalBitExpiry_answers hl hx, toneTooth_answers hl hx hs ha, ?_, ?_⟩
  · intro hedges
    rw [hnone hedges] at hanswers
    exact hanswers
  · intro e0 e1 hhead hlast hne
    rw [htwo e0 e1 hhead hlast hne] at hanswers
    exact hanswers

end Sys2Proof.Machine
end

section
/-! Faults of an axis -/
namespace Sys2Proof.Machine
open Sys2Proof Sys2Proof.Config

/-! A fault of an axis whatever its reaction (R72). -/

set_option Elab.async false in
theorem reaction_rises (r : Reaction) (b : Nat) : Reaction.join r (reactionOf b) ≠ .none := by
  unfold reactionOf
  split <;> cases r <;> decide

/-- Every reaction but none stops the drive. -/
theorem applyReaction_stops {a : Nat} {s : State} (h : (s.axis a).reaction ≠ .none) :
    ∃ f, applyReaction a s = zeroDrive a (s.onAxis a f) := by
  cases hr : (s.axis a).reaction with
  | none => exact absurd hr h
  | enLow => exact ⟨_, by rw [applyReaction, hr]; rfl⟩
  | brake => exact ⟨_, by rw [applyReaction, hr]; rfl⟩
  | noMotion => exact ⟨_, by rw [applyReaction, hr]⟩

/-- The axis takes a cause and its reaction, before FAULT shows. -/
def stoppedBy (a b : Nat) (f : Axis → Axis) (s : State) : State := zeroDrive a ((s.setBit (Obj.faultCause a) b true).onAxis a f)

theorem raiseFault_stops {a b : Nat} {s : State} {x : Axis} (hx : s.axes[a]? = some x) : ∃ f, raiseFault a b s =
    if s.st a stFault then stoppedBy a b f s
    else dozeExit (axisFaultRecord a 2 ((setSt a stFault true (stoppedBy a b f s)).onInst (8 + a) fun q =>
        { q with forced := q.forced || q.running })) := by
  have hx' : (s.setBit (Obj.faultCause a) b true).axes[a]? = some x := by rw [setBit_eq, put_axes]; exact hx
  obtain ⟨f, hf⟩ := applyReaction_stops (a := a) (s := (s.setBit (Obj.faultCause a) b true).onAxis a fun x =>
      { x with reaction := Reaction.join (if !s.st a stFault then .none else x.reaction) (reactionOf b), clean := false })
    (by rw [axis_eq (oneMoves_modify _ hx').1]; exact reaction_rises _ b)
  refine ⟨f ∘ fun x => { x with reaction := Reaction.join (if !s.st a stFault then .none else x.reaction) (reactionOf b),
                                clean := false }, ?_⟩
  have htwice : ((s.setBit (Obj.faultCause a) b true).onAxis a fun x =>
      { x with reaction := Reaction.join (if !s.st a stFault then .none else x.reaction) (reactionOf b),
               clean := false }).onAxis a f = (s.setBit (Obj.faultCause a) b true).onAxis a (f ∘ fun x =>
      { x with reaction := Reaction.join (if !s.st a stFault then .none else x.reaction) (reactionOf b),
               clean := false }) := by
    simp only [State.onAxis, List.modify_modify_eq]
  rw [htwice] at hf
  unfold raiseFault
  simp only [hf]
  cases s.st a stFault <;> rfl

section
variable {a : Fin 24} {b : Nat} {f : Axis → Axis} {s : State}

theorem stoppedBy_st (j : Nat) (hj : j < 16) (h : j ≠ stHolding) : (stoppedBy a b f s).st a j = s.st a j :=
  (zeroDrive_st a.isLt _ j hj h).trans (st_congr (get_put_ne _ _ _ s (obj_ne _ _ _ (by decide))) j)

theorem stoppedBy_cause : BitTo (Obj.faultCause a) b true s (stoppedBy a b f s) := by
  refine (bitTo_setBit (Obj.faultCause a) b true s (axis_plain 0x310002 a (by decide) a.isLt)).of_get ?_
  refine zeroDrive_get ?_ _
  simp only [zeroKeys, List.mem_cons, List.not_mem_nil, or_false, not_or]
  exact ⟨obj_ne _ _ _ (by decide), obj_ne _ _ _ (by decide), obj_ne _ _ _ (by decide)⟩

/-- A cause that an axis takes: what it leaves, whatever the reaction. -/
theorem raiseFault_takesFault {x : Axis} (hx : s.axes[a.val]? = some x) : TakesFault a b s (raiseFault a b s) := by
  obtain ⟨f, hf⟩ := raiseFault_stops (b := b) hx
  have hseq : (stoppedBy a b f s).seq = s.seq := by
    rw [stoppedBy, zeroDrive, setSt, setBit_eq, put_seq, put_seq, put_seq]
    exact put_seq ..
  rw [hf]
  cases hfault : s.st a stFault
  case true =>
    exact ⟨stoppedBy_cause, (stoppedBy_st _ (by decide) (by decide)).trans hfault, zeroDrive_duty a.isLt _,
      zeroDrive_speedRef a.isLt _, fun h => absurd (hfault.symm.trans h) (by decide)⟩
  case false =>
    rw [if_neg Bool.false_ne_true]
    have hforce : Moves (caps [.objs, .recd, .pow, .net]) ((setSt a stFault true (stoppedBy a b f s)).onInst (8 + a.val) fun q =>
        { q with forced := q.forced || q.running }) _ := dozeExit_moves (axisFaultRecord_moves (a := a.val) (reaction := 2) (.refl _))
    have hget (k0 : Nat) (h : 0x310000 ≤ k0 ∧ k0 < 0x34E000) :
        (dozeExit (axisFaultRecord a 2 ((setSt a stFault true (stoppedBy a b f s)).onInst (8 + a.val) fun q =>
          { q with forced := q.forced || q.running }))).get (k0 + 256 * a.val) =
        (setSt a stFault true (stoppedBy a b f s)).get (k0 + 256 * a.val) :=
      dozeExit_record_get (axis_quiet k0 a h a.isLt) (axis_awake k0 a h.1)
    have hplain (k0 : Nat) (h : 0x310000 ≤ k0 ∧ k0 < 0x34E000) (hk : k0 + 256 * a.val ≠ Obj.axisStatus a) :=
      (hget k0 h).trans (setSt_get (v := true) (b := stFault) (stoppedBy a b f s) hk)
    refine ⟨stoppedBy_cause.of_get (hplain 0x310002 (by decide) (obj_ne _ _ _ (by decide))), ?_,
      (hplain 0x330020 (by decide) (obj_ne _ _ _ (by decide))).trans (zeroDrive_duty a.isLt _),
      (hplain 0x330022 (by decide) (obj_ne _ _ _ (by decide))).trans (zeroDrive_speedRef a.isLt _), fun _ q hq => ?_⟩
    · exact (st_congr (hget 0x310001 (by decide)) stFault).trans ((st_setSt a.isLt _ _ _ _ (by decide)).trans (if_pos rfl))
    · rw [show (dozeExit _).seq = _ from hforce.part .seq (by decide)]
      have hq' : (setSt a stFault true (stoppedBy a b f s)).seq.insts[8 + a.val]? = some q := by
        rw [setSt, setBit_eq, put_seq, hseq]; exact hq
      exact (oneMoves_modify _ hq').1

theorem TakesFault.of_before {u t : State} (h : TakesFault a b u t)
    (hc : u.get (Obj.faultCause a) = s.get (Obj.faultCause a)) (hst : u.st a stFault = s.st a stFault) (hseq : u.seq = s.seq) :
    TakesFault a b s t where
  cause j hj := (h.cause j hj).trans (by rw [State.bit, State.bit, hc])
  fault := h.fault
  duty := h.duty
  speed := h.speed
  forced hs q hq := h.forced (hst.trans hs) q (by rw [hseq]; exact hq)

theorem unreference_st (j : Nat) (hj : j < 16) (hu : j ≠ stUnref) (hn : j ≠ stInNip) :
    (unreference a s).st a j = s.st a j := by
  unfold unreference
  split
  · rfl
  · dsimp only
    have hset : (setSt a stUnref true s).st a j = s.st a j := (st_setSt a.isLt _ _ _ _ hj).trans (if_neg hu)
    split
    · exact ((st_setSt a.isLt _ _ _ _ hj).trans (if_neg hn)).trans hset
    · exact hset

theorem unreference_seq (a : Nat) (s : State) : (unreference a s).seq = s.seq :=
  (unreference_moves (.refl s) : Moves (caps [.objs, .axes]) s _).part .seq (by decide)

theorem unreference_unit {a : Nat} {s : State} {x : Axis} (hx : s.axes[a]? = some x) :
    ∃ y, (unreference a s).axes[a]? = some y :=
  (((KeepsOfAxes.refl Axis.lines s).unreference).unit hx).imp fun _ h => h.1

/-- A feedback fault: its bit, and the axis fault that it is. -/
theorem feedbackFault_takes {kind : Nat} {x : Axis} (hx : s.axes[a.val]? = some x) :
    TakesFault a 2 s (feedbackFault a kind s) ∧ BitTo (Obj.feedbackFault a) kind true s (feedbackFault a kind s) := by
  have hx' : (s.setBit (Obj.feedbackFault a) kind true).axes[a.val]? = some x := by rw [setBit_eq, put_axes]; exact hx
  have hset (k0 : Nat) (h : k0 ≠ 0x320025) :
      (s.setBit (Obj.feedbackFault a) kind true).get (k0 + 256 * a.val) = s.get (k0 + 256 * a.val) :=
    get_put_ne _ _ _ s (obj_ne _ _ _ h)
  have hseq : (s.setBit (Obj.feedbackFault a) kind true).seq = s.seq := put_seq ..
  have hbit := bitTo_setBit (Obj.feedbackFault a) kind true s (axis_plain 0x320025 a (by decide) a.isLt)
  have hraise (u : State) : (raiseFault a 2 u).get (Obj.feedbackFault a) = u.get (Obj.feedbackFault a) := by
    refine raiseFault_get ?_ (axis_quiet 0x320025 a (by decide) a.isLt) (axis_awake 0x320025 a (by decide)) u
    simp only [faultKeys, zeroKeys, Obj.faultCause, Obj.duty, Obj.speedRef, Obj.axisStatus, List.mem_cons,
      List.not_mem_nil, or_false, not_or]
    omega
  unfold feedbackFault
  dsimp only
  split
  · exact ⟨(raiseFault_takesFault hx').of_before (hset 0x310002 (by decide)) (st_congr (hset 0x310001 (by decide)) _) hseq,
      hbit.of_get (hraise _)⟩
  · obtain ⟨y, hy⟩ := unreference_unit hx'
    have hun (k0 : Nat) (h : k0 ≠ 0x310001) :
        (unreference a (s.setBit (Obj.feedbackFault a) kind true)).get (k0 + 256 * a.val) =
          (s.setBit (Obj.feedbackFault a) kind true).get (k0 + 256 * a.val) := unreference_get (obj_ne _ _ _ h) _
    refine ⟨(raiseFault_takesFault hy).of_before ((hun 0x310002 (by decide)).trans (hset 0x310002 (by decide))) ?_ ?_,
      hbit.of_get ((hraise _).trans (hun 0x320025 (by decide)))⟩
    · exact (unreference_st _ (by decide) (by decide) (by decide)).trans (st_congr (hset 0x310001 (by decide)) _)
    · exact (unreference_seq ..).trans hseq

end

end Sys2Proof.Machine
end

section
/-! Reference marks -/
namespace Sys2Proof.Machine
open Sys2Proof Sys2Proof.Config

/-! Reference marks. -/

set_option Elab.async false in
/-- The mark is latched, and the travel since the last one begins anew. -/
def marked (a : Nat) (s : State) : State := setFb a 5 false ((ownLatch a 8 s).onAxis a fun x => { x with travel := 0 })

/-- The reference error is shown. -/
def judgedMark (a : Nat) (e : Int) (s : State) : State := (marked a s).puti (Obj.lastRefError a) e

/-- A mark within the tolerance. -/
def goodMark (a : Nat) (e : Int) (s : State) : State := setFb a 4 false ((judgedMark a e s).put (Obj.refSlipRun a) 0)

section
variable {a : Fin 24} {s : State}

theorem feedbackStatus_size (a : Fin 24) : sizeOf (Obj.feedbackStatus a) = 2 := axis_size 0x320024 a (by decide) a.isLt

theorem fb_set (b j : Nat) (v : Bool) (s : State) (hj : j < 16) : (setFb a b v s).fb a j = if j = b then v else s.fb a j :=
  fb_setFb a.isLt b j v s (by rw [feedbackStatus_size]; exact hj)

theorem marked_get {k0 : Nat} (h : 0x310000 ≤ k0 ∧ k0 < 0x34E000) (hk : k0 ≠ 0x320024) :
    (marked a s).get (k0 + 256 * a.val) = s.get (k0 + 256 * a.val) :=
  (get_put_ne _ _ _ _ (obj_ne _ _ _ hk)).trans (ownLatch_get a.isLt (by omega) s)

theorem marked_fb (j : Nat) (hj : j < 16) : (marked a s).fb a j = if j = 5 then false else s.fb a j := by
  rw [marked, fb_set 5 j _ _ hj]
  congr 1
  exact fb_congr (ownLatch_get a.isLt (by simp only [Obj.feedbackStatus]; omega) s) j

theorem marked_unref : (marked a s).unref a = s.unref a := st_congr (marked_get (k0 := 0x310001) (by decide) (by decide)) _

/-- A mark of an axis whose feedback takes it. -/
theorem exec_referenceMark (hl : s.live = true) (hs : s.served = true) (ha : s.variant.hasAxis a.val = true)
    (hm : s.get (Obj.feedbackMode a) = 0) (hr : s.get (Obj.refMode a) ≠ 0) :
    exec (.referenceMark a) s = s.answer (
      if s.unref a || !s.fb a 3 then phaseCapture a 0 (marked a s)
      else
        let e := refError (s.get (Obj.countsPerRev a)) (s.get (Obj.inRev a))
        if e.natAbs ≤ s.get (Obj.refTolerance a) then
          if s.get (Obj.refMode a) = 2 then snapCount a e (goodMark a e s) else goodMark a e s
        else referenceSlip a e (judgedMark a e s)) := by
  have hget (k0 : Nat) (h : (0x310000 ≤ k0 ∧ k0 < 0x34E000) ∧ k0 ≠ 0x320024) :
      (marked a s).get (k0 + 256 * a.val) = s.get (k0 + 256 * a.val) := marked_get h.1 h.2
  show execReferenceMark a s = _
  rw [execReferenceMark, answerServed_live hl hs]
  simp only [ha, hm, beq_self_eq_true, Bool.and_self, if_true]
  rw [reference, if_neg hr]
  simp only [show setFb a.val 5 false ((ownLatch a.val 8 s).onAxis a.val fun x => { x with travel := 0 }) = marked a s from rfl,
    marked_unref, marked_fb 3 (by decide), if_neg (show 3 ≠ 5 by decide), hget 0x320002 (by decide), hget 0x320021 (by decide)]
  congr 1
  split
  · rfl
  · have hjudged (e : Int) (k0 : Nat) (h : (0x310000 ≤ k0 ∧ k0 < 0x34E000) ∧ k0 ≠ 0x320024 ∧ k0 ≠ 0x320028) :
        ((marked a s).puti (Obj.lastRefError a) e).get (k0 + 256 * a.val) = s.get (k0 + 256 * a.val) :=
      (get_put_ne _ _ _ _ (obj_ne _ _ _ h.2.2)).trans (marked_get h.1 h.2.1)
    have hmode (e : Int) : (setFb a 4 false (((marked a s).puti (Obj.lastRefError a) e).put (Obj.refSlipRun a) 0)).get
        (Obj.refMode a) = s.get (Obj.refMode a) :=
      (get_put_ne _ _ _ _ (obj_ne _ _ _ (by decide))).trans
        ((get_put_ne _ _ _ _ (obj_ne _ _ _ (by decide))).trans (hjudged e 0x320006 (by decide)))
    simp only [hjudged _ 0x320007 (by decide), hmode]
    simp only [goodMark, judgedMark, Int.natCast_zero, Int.sub_zero]

/-- REFERENCE_MARK of an axis without its phase. -/
theorem referenceMark_captures (hl : s.live = true) (hs : s.served = true) (ha : s.variant.hasAxis a.val = true)
    (hm : s.get (Obj.feedbackMode a) = 0) (hr : s.get (Obj.refMode a) ≠ 0) (hph : s.unref a = true ∨ s.fb a 3 = false) :
    Answers (.referenceMark a) s fun t =>
        t.get (Obj.inRev a) = 0 ∧ t.fb a 3 = true ∧ t.fb a 5 = false ∧ t.get (Obj.position a) = s.get (Obj.position a) := by
  have he := exec_referenceMark hl hs ha hm hr
  have hcond : (s.unref a || !s.fb a 3) = true := by
    obtain h | h := hph <;> simp [h]
  rw [hcond, if_pos rfl] at he
  have hmoves : Moves (caps [.objs, .axes]) s (phaseCapture a 0 (marked a s)) :=
    phaseCapture_moves (setFb_moves (onAxis_moves (ownLatch_moves (.refl s))))
  have hkept : ∀ u : State, ∀ b v, (setFb a b v u).get (Obj.inRev a) = u.get (Obj.inRev a) ∧
      (setFb a b v u).get (Obj.position a) = u.get (Obj.position a) := fun u b v =>
    ⟨get_put_ne _ _ _ u (obj_ne _ _ _ (by decide)), get_put_ne _ _ _ u (obj_ne _ _ _ (by decide))⟩
  have hfb : (State.puti (Obj.positionOffset a) (((marked a s).put (Obj.inRev a) 0).geti (Obj.positionOffset a) +
      ((0 : Nat) - (marked a s).get (Obj.inRev a) : Int)) ((marked a s).put (Obj.inRev a) 0)).fb a 5 = false := by
    refine (fb_congr (t := State.puti _ _ _) (s := marked a s) ?_ 5).trans ((marked_fb 5 (by decide)).trans (if_pos rfl))
    exact (get_put_ne _ _ _ _ (obj_ne _ _ _ (by decide))).trans (get_put_ne _ _ _ _ (obj_ne _ _ _ (by decide)))
  refine answers_answer _ he hmoves.variant hmoves.pending ⟨?_, ?_, ?_, ?_⟩
  · refine (hkept _ _ _).1.trans ((get_put_ne _ _ _ _ (obj_ne _ _ _ (by decide))).trans ?_)
    rw [get_put_self _ _ _ (axis_plain 0x320021 a (by decide) a.isLt), fitTo_zero]
  · exact (fb_set 3 3 true _ (by decide)).trans (if_pos rfl)
  · exact (fb_set 3 5 true _ (by decide)).trans ((if_neg (by decide)).trans hfb)
  · refine (hkept _ _ _).2.trans ((get_put_ne _ _ _ _ (obj_ne _ _ _ (by decide))).trans ?_)
    exact (get_put_ne _ _ _ _ (obj_ne _ _ _ (by decide))).trans (marked_get (k0 := 0x320020) (by decide) (by decide))

theorem snapCount_get {a k : Nat} {e : Int} (hk : k ∉ countKeys a) (s : State) : (snapCount a e s).get k = s.get k := by
  simp only [countKeys, List.mem_cons, List.not_mem_nil, or_false, not_or] at hk
  obtain ⟨hrev, hin, hpos⟩ := hk
  exact (get_put_ne _ _ _ _ hpos).trans ((get_put_ne _ _ _ _ hin).trans (get_put_ne _ _ _ _ hrev))

theorem not_countKey (a : Nat) (k0 : Nat) (h : k0 ∉ [0x320022, 0x320021, 0x320020]) : k0 + 256 * a ∉ countKeys a := by
  simp only [countKeys, List.mem_cons, List.not_mem_nil, or_false, not_or] at h ⊢
  exact ⟨obj_ne _ _ _ h.1, obj_ne _ _ _ h.2.1, obj_ne _ _ _ h.2.2⟩

/-- The slip is counted. -/
def slipCounted (a : Nat) (s : State) : State :=
  (((setFb a 4 true s).inc (Obj.refSlipCount a)).put (Obj.refSlipRun a)
    (min 255 (((setFb a 4 true s).inc (Obj.refSlipCount a)).get (Obj.refSlipRun a) + 1)))

/-- In correcting mode the counts snap. -/
def snapped (a : Nat) (e : Int) (s : State) : State := if s.get (Obj.refMode a) = 2 then snapCount a e s else s

theorem referenceSlip_ends (a : Nat) (e : Int) (s : State) : ∃ src body, referenceSlip a e s =
    let v := snapped a e (admitEvent 1 0x11 src body (ownLatch a 9 (slipCounted a s)))
    if v.get (Obj.refSlipLimit a) ≤ v.get (Obj.refSlipRun a) then unreference a v else v := ⟨_, _, rfl⟩

/-- What follows a counted slip moves the counts in correcting mode, and nothing else that the row shows. -/
theorem referenceSlip_get {e : Int} {k0 : Nat} (h : (0x320000 ≤ k0 ∧ k0 < 0x34E000))
    (hk : s.get (Obj.refMode a) ≠ 2 ∨ k0 ∉ [0x320022, 0x320021, 0x320020]) :
    (referenceSlip a e s).get (k0 + 256 * a.val) = (slipCounted a s).get (k0 + 256 * a.val) := by
  have hnotst : k0 + 256 * a.val ≠ Obj.axisStatus a := obj_ne _ _ _ (by omega)
  have hlatch (k1 : Nat) (h1 : 0x310000 ≤ k1 ∧ k1 < 0x34E000) (u : State) (cls ty src : Nat) (body : List Byte) :
      (admitEvent cls ty src body (ownLatch a 9 u)).get (k1 + 256 * a.val) = u.get (k1 + 256 * a.val) :=
    (admitEvent_get _ _ _ _ _ _ (axis_quiet k1 a h1 a.isLt)).trans (ownLatch_get a.isLt (by omega) u)
  have hmode : (slipCounted a s).get (Obj.refMode a) = s.get (Obj.refMode a) :=
    (get_put_ne _ _ _ _ (obj_ne _ _ _ (by decide))).trans
      ((get_put_ne _ _ _ _ (obj_ne _ _ _ (by decide))).trans (get_put_ne _ _ _ _ (obj_ne _ _ _ (by decide))))
  obtain ⟨src, body, heq⟩ := referenceSlip_ends a e s
  have hadmit := hlatch k0 (by omega) (slipCounted a s) 1 0x11 src body
  have hwmode := (hlatch 0x320006 (by decide) (slipCounted a s) 1 0x11 src body).trans hmode
  have hsnap : (snapped a e (admitEvent 1 0x11 src body (ownLatch a 9 (slipCounted a s)))).get (k0 + 256 * a.val) =
      (slipCounted a s).get (k0 + 256 * a.val) := by
    unfold snapped
    split
    · next h2 =>
      exact (snapCount_get (not_countKey a k0 (hk.resolve_left fun hne => hne (hwmode.symm.trans h2))) _).trans hadmit
    · exact hadmit
  rw [heq]
  dsimp only
  split
  · exact (unreference_get hnotst _).trans hsnap
  · exact hsnap

end

end Sys2Proof.Machine
end

section
/-! Judged marks and input pairs -/
namespace Sys2Proof.Machine
open Sys2Proof Sys2Proof.Config

section
variable {a : Fin 24} {s : State} {e : Int}

set_option Elab.async false in
theorem judgedMark_get {k0 : Nat} (h : (0x310000 ≤ k0 ∧ k0 < 0x34E000) ∧ k0 ≠ 0x320024 ∧ k0 ≠ 0x320028) :
    (judgedMark a e s).get (k0 + 256 * a.val) = s.get (k0 + 256 * a.val) :=
  (get_put_ne _ _ _ _ (obj_ne _ _ _ h.2.2)).trans (marked_get h.1 h.2.1)

theorem judgedMark_error : (judgedMark a e s).get (Obj.lastRefError a) = encSigned (8 * sizeOf (Obj.lastRefError a)) e :=
  get_puti_self (axis_plain 0x320028 a (by decide) a.isLt) e _

theorem judgedMark_fb (j : Nat) (hj : j < 16) : (judgedMark a e s).fb a j = if j = 5 then false else s.fb a j :=
  (fb_congr (get_put_ne _ _ _ _ (obj_ne _ _ _ (by decide))) j).trans (marked_fb j hj)

theorem goodMark_get {k0 : Nat} (h1 : k0 ≠ 0x320024) (h2 : k0 ≠ 0x320027) :
    (goodMark a e s).get (k0 + 256 * a.val) = (judgedMark a e s).get (k0 + 256 * a.val) :=
  (get_put_ne _ _ _ _ (obj_ne _ _ _ h1)).trans (get_put_ne _ _ _ _ (obj_ne _ _ _ h2))

theorem goodMark_run : (goodMark a e s).get (Obj.refSlipRun a) = 0 := by
  refine (get_put_ne _ _ _ _ (obj_ne _ _ _ (by decide))).trans ?_
  rw [get_put_self _ _ _ (axis_plain 0x320027 a (by decide) a.isLt), fitTo_zero]

theorem goodMark_fb (j : Nat) (hj : j < 16) : (goodMark a e s).fb a j = if j = 4 then false else (judgedMark a e s).fb a j := by
  rw [goodMark, fb_set 4 j _ _ hj]
  congr 1
  exact fb_congr (get_put_ne _ _ _ _ (obj_ne _ _ _ (by decide))) j

theorem slipCounted_get {k0 : Nat} (h1 : k0 ≠ 0x320024) (h2 : k0 ≠ 0x320027) (h3 : k0 ≠ 0x320026) :
    (slipCounted a s).get (k0 + 256 * a.val) = s.get (k0 + 256 * a.val) :=
  (get_put_ne _ _ _ _ (obj_ne _ _ _ h2)).trans
    ((get_put_ne _ _ _ _ (obj_ne _ _ _ h3)).trans (get_put_ne _ _ _ _ (obj_ne _ _ _ h1)))

theorem slipCounted_fb (j : Nat) (hj : j < 16) : (slipCounted a s).fb a j = if j = 4 then true else s.fb a j :=
  (fb_congr ((get_put_ne _ _ _ _ (obj_ne _ _ _ (by decide))).trans (get_put_ne _ _ _ _ (obj_ne _ _ _ (by decide)))) j).trans
    (fb_set 4 j true s hj)

theorem slipCounted_counts : CountsUp (Obj.refSlipCount a) s (slipCounted a s) := by
  refine (get_put_ne _ _ _ _ (obj_ne _ _ _ (by decide))).trans ?_
  rw [inc_eq, get_put_self _ _ _ (axis_plain 0x320026 a (by decide) a.isLt)]
  exact congrArg (fun n => fitTo _ (n + 1)) (get_put_ne _ _ _ s (obj_ne _ _ _ (by decide)))

/-- REFERENCE_MARK of an axis with its phase. -/
theorem referenceMark_judges (hl : s.live = true) (hs : s.served = true) (ha : s.variant.hasAxis a.val = true)
    (hm : s.get (Obj.feedbackMode a) = 0) (hr : s.get (Obj.refMode a) ≠ 0) (hu : s.unref a = false) (h3 : s.fb a 3 = true)
    (he : e = refError (s.get (Obj.countsPerRev a)) (s.get (Obj.inRev a))) :
      Answers (.referenceMark a) s fun t => t.fb a 5 = false ∧
        t.get (Obj.lastRefError a) = encSigned (8 * sizeOf (Obj.lastRefError a)) e ∧
        (e.natAbs ≤ s.get (Obj.refTolerance a) → t.get (Obj.refSlipRun a) = 0 ∧ t.fb a 4 = false) ∧
        (s.get (Obj.refTolerance a) < e.natAbs → CountsUp (Obj.refSlipCount a) s t ∧ t.fb a 4 = true) ∧
        (s.get (Obj.refMode a) ≠ 2 → t.get (Obj.inRev a) = s.get (Obj.inRev a) ∧
          t.get (Obj.position a) = s.get (Obj.position a)) := by
  have hexec := exec_referenceMark hl hs ha hm hr
  rw [hu, h3, Bool.not_true, Bool.or_self, if_neg Bool.false_ne_true] at hexec
  dsimp only at hexec
  rw [← he] at hexec
  have hjudged : Moves (caps [.objs, .axes]) s (judgedMark a e s) :=
    put_moves (setFb_moves (onAxis_moves (ownLatch_moves (.refl s))))
  by_cases htol : e.natAbs ≤ s.get (Obj.refTolerance a)
  · rw [if_pos htol] at hexec
    have hgood : Moves (caps [.objs, .axes]) s (if s.get (Obj.refMode a) = 2 then snapCount a e (goodMark a e s)
        else goodMark a e s) := .ite (snapCount_moves (setFb_moves (put_moves hjudged))) (setFb_moves (put_moves hjudged))
    have hget (k0 : Nat) (hk : s.get (Obj.refMode a) ≠ 2 ∨ k0 ∉ [0x320022, 0x320021, 0x320020]) :
        (if s.get (Obj.refMode a) = 2 then snapCount a e (goodMark a e s) else goodMark a e s).get (k0 + 256 * a.val) =
          (goodMark a e s).get (k0 + 256 * a.val) := by
      split
      · next h2 => exact snapCount_get (not_countKey a k0 (hk.resolve_left fun hne => hne h2)) _
      · rfl
    have hfb (j : Nat) := fb_congr (hget 0x320024 (.inr (by decide))) j
    have hstay (hmode : s.get (Obj.refMode a) ≠ 2) (k0 : Nat) (hk : k0 = 0x320021 ∨ k0 = 0x320020) :=
      (hget k0 (.inl hmode)).trans ((goodMark_get (by omega) (by omega)).trans (judgedMark_get (by omega)))
    refine answers_answer _ hexec hgood.variant hgood.pending ⟨?_, ?_, fun _ => ⟨?_, ?_⟩,
      fun h => absurd h (Nat.not_lt.2 htol), fun hmode => ⟨hstay hmode 0x320021 (.inl rfl), hstay hmode 0x320020 (.inr rfl)⟩⟩
    · exact (hfb 5).trans ((goodMark_fb 5 (by decide)).trans
        ((if_neg (by decide)).trans ((judgedMark_fb 5 (by decide)).trans (if_pos rfl))))
    · exact (hget 0x320028 (.inr (by decide))).trans ((goodMark_get (by decide) (by decide)).trans judgedMark_error)
    · exact (hget 0x320027 (.inr (by decide))).trans goodMark_run
    · exact (hfb 4).trans ((goodMark_fb 4 (by decide)).trans (if_pos rfl))
  · rw [if_neg htol] at hexec
    have hslip : Moves (caps [.objs, .recd, .axes]) s (referenceSlip a e (judgedMark a e s)) :=
      referenceSlip_moves (put_moves (setFb_moves (onAxis_moves (ownLatch_moves (.refl s)))))
    have hmode : (judgedMark a e s).get (Obj.refMode a) = s.get (Obj.refMode a) := judgedMark_get (k0 := 0x320006) (by decide)
    have hget (k0 : Nat) (h : 0x320000 ≤ k0 ∧ k0 < 0x34E000)
        (hk : s.get (Obj.refMode a) ≠ 2 ∨ k0 ∉ [0x320022, 0x320021, 0x320020]) :
        (referenceSlip a e (judgedMark a e s)).get (k0 + 256 * a.val) =
          (slipCounted a (judgedMark a e s)).get (k0 + 256 * a.val) := referenceSlip_get h (hmode.symm ▸ hk)
    have hfb (j : Nat) := fb_congr (hget 0x320024 (by decide) (.inr (by decide))) j
    have hstay (hne : s.get (Obj.refMode a) ≠ 2) (k0 : Nat) (hk : k0 = 0x320021 ∨ k0 = 0x320020) :=
      (hget k0 (by omega) (.inl hne)).trans
        ((slipCounted_get (by omega) (by omega) (by omega)).trans (judgedMark_get (by omega)))
    refine answers_answer _ hexec hslip.variant hslip.pending ⟨?_, ?_, fun h => absurd h htol, fun _ => ⟨?_, ?_⟩,
      fun hne => ⟨hstay hne 0x320021 (.inl rfl), hstay hne 0x320020 (.inr rfl)⟩⟩
    · exact (hfb 5).trans ((slipCounted_fb 5 (by decide)).trans
        ((if_neg (by decide)).trans ((judgedMark_fb 5 (by decide)).trans (if_pos rfl))))
    · exact (hget 0x320028 (by decide) (.inr (by decide))).trans
        ((slipCounted_get (by decide) (by decide) (by decide)).trans judgedMark_error)
    · refine (hget 0x320026 (by decide) (.inr (by decide))).trans (slipCounted_counts.trans ?_)
      exact congrArg (fun n => fitTo _ (n + 1)) (judgedMark_get (k0 := 0x320026) (by decide))
    · exact (hfb 4).trans ((slipCounted_fb 4 (by decide)).trans (if_pos rfl))

end

/-! Input pairs. -/

/-- The unit after a change of a pair. -/
def Axis.pairTaken (i : Nat) (b : Bool) (x : Axis) : Axis :=
  { x with pairBad := x.pairBad.set i b, pairLong := if b then x.pairLong else x.pairLong.set i false }

/-- The unit after a pair has stayed bad. -/
def Axis.pairLasts (i : Nat) (x : Axis) : Axis := { x with pairLong := x.pairLong.set i true }

section
variable {s : State} {a : Fin 24} {x : Axis} (hl : s.live = true) (hx : s.axes[a.val]? = some x)
include hl hx

/-- PAIR_GLITCH. -/
theorem pairGlitch_answers (i : Fin 3) (b : Bool) (hp : s.pairInput a i = true) : Answers (.pairGlitch a i b) s fun t =>
      t.fb a 1 = (x.pairBad.set i b).any id ∧
      (b = true → x.pairBad.getD i false = false → CountsUp (Obj.pairGlitchCount a) s t) ∧
      ∃ y, OneMoves a.val y s.axes t.axes ∧ y.pairBad = x.pairBad.set i b := by
  have hone := oneMoves_modify (Axis.pairTaken i b) hx
  have hcount (c : Bool) : (if c then (s.onAxis a (Axis.pairTaken i b)).inc (Obj.pairGlitchCount a)
      else s.onAxis a (Axis.pairTaken i b)).axes = s.axes.modify a (Axis.pairTaken i b) := by
    cases c
    · rfl
    · exact put_axes ..
  have he : exec (.pairGlitch a i b) s = s.answer (showPairs a (if b && !x.pairBad.getD i false then
      (s.onAxis a (Axis.pairTaken i b)).inc (Obj.pairGlitchCount a) else s.onAxis a (Axis.pairTaken i b))) := by
    show execPairGlitch a i b s = _
    rw [execPairGlitch, answerLive_live hl]
    simp only [hp, Bool.not_true, Bool.false_eq_true, if_false, axis_eq hx]
    rfl
  have hm : Moves (caps [.objs, .axes]) s (showPairs a (if b && !x.pairBad.getD i false then
      (s.onAxis a (Axis.pairTaken i b)).inc (Obj.pairGlitchCount a) else s.onAxis a (Axis.pairTaken i b))) :=
    showPairs_moves (.ite (put_moves (onAxis_moves (.refl s))) (onAxis_moves (.refl s)))
  refine answers_answer _ he hm.variant hm.pending ⟨?_, fun hb hbad => ?_, x.pairTaken i b, ?_, rfl⟩
  · refine (fb_set 1 1 _ _ (by decide)).trans ((if_pos rfl).trans ?_)
    rw [axis_eq (x := x.pairTaken i b) (by rw [hcount]; exact hone.1)]
    rfl
  · rw [hb, hbad]
    refine (get_put_ne _ _ _ _ (obj_ne _ _ _ (by decide))).trans ?_
    exact get_put_self _ _ _ (axis_plain 0x32002A a (by decide) a.isLt)
  · rw [showPairs, setFb, setBit_eq, put_axes, hcount]
    exact hone

/-- PAIR_FAULT. -/
theorem pairFault_answers (i : Fin 3) (held : Nat) (hp : s.pairInput a i = true) (hbad : x.pairBad.getD i false = true)
    (ht : s.get (Obj.pairFaultTime a) ≤ held) : Answers (.pairFault a i held) s fun t =>
        TakesFault a 2 s t ∧ BitTo (Obj.feedbackFault a) i true s t ∧
        ∃ y, t.axes[a.val]? = some y ∧ y.pairLong = x.pairLong.set i true := by
  have hx' : (s.onAxis a (Axis.pairLasts i)).axes[a.val]? = some (x.pairLasts i) := (oneMoves_modify _ hx).1
  have he : exec (.pairFault a i held) s = s.answer (feedbackFault a i (s.onAxis a (Axis.pairLasts i))) := by
    show execPairFault a i held s = _
    rw [execPairFault, answerLive_live hl]
    simp only [hp, axis_eq hx, hbad, decide_eq_true ht, Bool.and_self, if_true]
    rfl
  have hm : Moves (caps [.objs, .seq, .recd, .axes, .pow, .net]) s
      (feedbackFault a i (s.onAxis a (Axis.pairLasts i))) := feedbackFault_moves (onAxis_moves (.refl s))
  obtain ⟨htakes, hbit⟩ := feedbackFault_takes (kind := i) hx'
  obtain ⟨y, hy, hlines⟩ := ((KeepsOfAxes.refl Axis.lines _).feedbackFault (kind := i)).unit hx'
  exact answers_answer _ he hm.variant hm.pending ⟨htakes.of_before rfl rfl rfl, hbit, y, hy,
    congrArg Axis.Lines.pairLong hlines⟩

/-- COMPARE_PULSE_END. -/
theorem comparePulseEnd_answers (u : Nat) (hu : x.pulseUntil = some u) (ht : u ≤ s.now) :
    Answers (.comparePulseEnd a) s fun t =>
      t.objs = s.objs ∧ OneMoves a.val { x with pulseUntil := none } s.axes t.axes := by
  refine answers_answer (s.onAxis a fun x => { x with pulseUntil := none }) ?_ rfl rfl ⟨rfl, oneMoves_modify _ hx⟩
  show execComparePulseEnd a s = _
  rw [execComparePulseEnd, answerLive_live hl, axis_eq hx, hu]
  simp only [Option.map_some, Option.getD_some, decide_eq_true ht, if_true]

end

end Sys2Proof.Machine
end

section
/-! Serial words -/
namespace Sys2Proof.Machine
open Sys2Proof Sys2Proof.Config

/-! Serial words. -/

set_option Elab.async false in
/-- The four bits of the latest word. -/
def wordShown (a : Nat) (low crc err jump : Bool) (s : State) : State := setFbs a 7 [low, crc, err, jump] s

/-- The unit after an invalid word. -/
def Axis.wordLost (x : Axis) : Axis := { x with invalidRun := x.invalidRun + 1 }

/-- The unit after a valid word. -/
def Axis.wordTaken (total : Int) (x : Axis) : Axis := { x with lastWord := some total, validSeen := true, invalidRun := 0 }

/-- The unit whose counts have left their range. -/
def Axis.stopRange (x : Axis) : Axis := { x with rangeStopped := true }

/-- The first valid word of an axis with a valid offset references it. -/
def firstWord (a : Nat) (first : Bool) (s : State) : State :=
  if first && s.unref a && s.flag (Obj.offsetValid a) then
    (setSt a stUnref false s).onAxis a fun x => { x with unrefAt := none }
  else s

section
variable {a : Fin 24} {s : State} {low crc err jump : Bool}

theorem wordShown_get {k0 : Nat} (h : k0 ≠ 0x320024) :
    (wordShown a low crc err jump s).get (k0 + 256 * a.val) = s.get (k0 + 256 * a.val) :=
  get_put_ne _ _ _ s (obj_ne _ _ _ h)

theorem wordShown_axes : (wordShown a low crc err jump s).axes = s.axes := put_axes ..

theorem wordShown_fb (j : Nat) (hj : j < 16) : (wordShown a low crc err jump s).fb a j =
    if j = 10 then jump else if j = 9 then err else if j = 8 then crc else if j = 7 then low else s.fb a j := by
  show (s.put (Obj.feedbackStatus a) (setBitOf (setBitOf (setBitOf (setBitOf (s.get (Obj.feedbackStatus a)) 7 low) 8 crc) 9 err)
    10 jump)).bit (Obj.feedbackStatus a) j = _
  rw [bit_put _ _ j s (feedbackStatus_plain a.isLt) (by rw [feedbackStatus_size]; exact hj)]
  simp only [testBit_setBitOf]
  rfl

theorem wordShown_lines : KeepsOfAxes Axis.lines s (wordShown a low crc err jump s) := .of_axes wordShown_axes

/-- An invalid word. -/
theorem invalidWord_shows {x : Axis} (hx : s.axes[a.val]? = some x) :
    (∀ j, (invalidWord a s).fb a j = s.fb a j) ∧ CountsUp (Obj.ssiErrCount a) s (invalidWord a s) ∧
    (invalidWord a s).get (Obj.position a) = s.get (Obj.position a) ∧
    (s.get (Obj.ssiErrLimit a) ≤ x.invalidRun + 1 →
      TakesFault a 2 s (invalidWord a s) ∧ (invalidWord a s).bit (Obj.feedbackFault a) 4 = true) ∧
    ∃ y, (invalidWord a s).axes[a.val]? = some y ∧ y.invalidRun = x.invalidRun + 1 := by
  have hx' : ((s.inc (Obj.ssiErrCount a)).onAxis a Axis.wordLost).axes[a.val]? = some x.wordLost := by
    refine (oneMoves_modify _ ?_).1
    rw [inc_eq, put_axes]; exact hx
  have hcount (k0 : Nat) (h : k0 ≠ 0x32002B) :
      ((s.inc (Obj.ssiErrCount a)).onAxis a Axis.wordLost).get (k0 + 256 * a.val) = s.get (k0 + 256 * a.val) :=
    get_put_ne _ _ _ s (obj_ne _ _ _ h)
  have hseq : ((s.inc (Obj.ssiErrCount a)).onAxis a Axis.wordLost).seq = s.seq := put_seq ..
  have heq : invalidWord a s = if s.get (Obj.ssiErrLimit a) ≤ x.invalidRun + 1 then
      feedbackFault a 4 ((s.inc (Obj.ssiErrCount a)).onAxis a Axis.wordLost)
      else (s.inc (Obj.ssiErrCount a)).onAxis a Axis.wordLost := by
    show (if ((s.inc (Obj.ssiErrCount a)).onAxis a Axis.wordLost).get (Obj.ssiErrLimit a) ≤
      (((s.inc (Obj.ssiErrCount a)).onAxis a Axis.wordLost).axis a).invalidRun then _ else _) = _
    rw [hcount 0x320014 (by decide), axis_eq hx']
    rfl
  have hget (k0 : Nat) (hk : k0 ∈ [0x320024, 0x32002B, 0x320020]) : (invalidWord a s).get (k0 + 256 * a.val) =
      ((s.inc (Obj.ssiErrCount a)).onAxis a Axis.wordLost).get (k0 + 256 * a.val) := by
    simp only [List.mem_cons, List.not_mem_nil, or_false] at hk
    rw [heq]
    split
    · refine feedbackFault_get ?_ (axis_quiet k0 a (by omega) a.isLt) (axis_awake k0 a (by omega)) _
      simp only [faultKeys, zeroKeys, Obj.feedbackFault, Obj.faultCause, Obj.duty, Obj.speedRef, Obj.axisStatus,
        List.mem_cons, List.not_mem_nil, or_false, not_or]
      omega
    · rfl
  refine ⟨fun j => fb_congr ((hget 0x320024 (by decide)).trans (hcount _ (by decide))) j, ?_,
    (hget 0x320020 (by decide)).trans (hcount _ (by decide)), fun hlim => ?_, ?_⟩
  · exact (hget 0x32002B (by decide)).trans (get_put_self _ _ _ (axis_plain 0x32002B a (by decide) a.isLt))
  · rw [heq, if_pos hlim]
    obtain ⟨htakes, hbit⟩ := feedbackFault_takes (kind := 4) hx'
    refine ⟨htakes.of_before (hcount 0x310002 (by decide)) (st_congr (hcount 0x310001 (by decide)) _) hseq, ?_⟩
    have hsize : sizeOf (Obj.feedbackFault a) = 1 := axis_size 0x320025 a (by decide) a.isLt
    exact (hbit 4 (by rw [hsize]; decide)).trans (if_pos rfl)
  · have hkeep : KeepsOfAxes Axis.lines ((s.inc (Obj.ssiErrCount a)).onAxis a Axis.wordLost) (invalidWord a s) := by
      rw [heq]
      split
      · exact (KeepsOfAxes.refl _ _).feedbackFault
      · exact .refl _ _
    obtain ⟨y, hy, hlines⟩ := hkeep.unit hx'
    exact ⟨y, hy, congrArg Axis.Lines.invalidRun hlines⟩

theorem firstWord_get {k0 : Nat} {first : Bool} (h : k0 ≠ 0x310001) :
    (firstWord a first s).get (k0 + 256 * a.val) = s.get (k0 + 256 * a.val) := by
  unfold firstWord
  split
  · exact get_put_ne _ _ _ s (obj_ne _ _ _ h)
  · rfl

theorem firstWord_unref (first : Bool) :
    (firstWord a first s).unref a = (s.unref a && !(first && s.flag (Obj.offsetValid a))) := by
  unfold firstWord
  split
  · next h =>
    simp only [Bool.and_eq_true] at h
    obtain ⟨⟨hfirst, hu⟩, hflag⟩ := h
    rw [hfirst, hflag, Bool.and_self, Bool.not_true, Bool.and_false]
    exact (st_setSt a.isLt _ _ _ _ (by decide)).trans (if_pos rfl)
  · next h => cases first <;> cases hu : s.unref a <;> cases hf : s.flag (Obj.offsetValid a) <;> simp_all

end

section
variable {s : State} {a : Fin 24} {x : Axis} (hl : s.live = true) (hs : s.served = true)
  (ha : s.variant.hasAxis a.val = true) (hx : s.axes[a.val]? = some x) (hser : s.get (Obj.feedbackMode a) = 2)
include hl hs ha hx hser

/-- SSI_WORD_START. -/
theorem ssiWordStart_answers (h : Bool) (ht : x.wordAt + us (s.get (Obj.ssiPeriod a)) ≤ s.now) :
    Answers (.ssiWordStart a h) s fun t => t.objs = s.objs ∧
      OneMoves a.val { x with wordAt := s.now, wordHigh := h } s.axes t.axes := by
  refine answers_answer (s.onAxis a fun x => { x with wordAt := s.now, wordHigh := h }) ?_ rfl rfl
    ⟨rfl, oneMoves_modify _ hx⟩
  show execSsiWordStart a h s = _
  rw [execSsiWordStart, answerServed_live hl hs]
  simp only [ha, State.isSerial, hser, axis_eq hx, decide_eq_true ht, beq_self_eq_true, Bool.and_self, if_true]

/-- What a valid word leaves. -/
def wordCounted (a : Nat) (x : Axis) (total : Int) (s : State) : State :=
  let u := firstWord a (!x.validSeen) ((countsTaken a total s).onAxis a (Axis.wordTaken total))
  posMoved a (markEdge a (decide (x.lastWord.getD total ≤ total)) (u.f - (u.now - x.wordAt)) u)

/-- SSI_WORD_END: an invalid word is counted, a valid one that the counts can hold is taken. -/
theorem exec_ssiWordEnd {word mt st : Nat} {err ok : Bool} (hf : s.ssiFields a word = (mt, st, err, ok)) {jump : Bool}
    (hj : jump = (x.lastWord.map fun u => decide (s.get (Obj.ssiJumpLimit a) < (s.ssiTotal a mt st - u).natAbs)).getD false) :
    exec (.ssiWordEnd a word) s = s.answer (
      let v := wordShown a (!x.wordHigh) (!ok) err jump s
      if !x.wordHigh || !ok || err || jump then invalidWord a v
      else if x.rangeStopped then v
      else
        let w := setTotal a (s.ssiTotal a mt st) v
        if (w.axis a).rangeStopped then w
        else
          let u := firstWord a (!x.validSeen) (w.onAxis a (Axis.wordTaken (s.ssiTotal a mt st)))
          posMoved a (markEdge a (decide (x.lastWord.getD (s.ssiTotal a mt st) ≤ s.ssiTotal a mt st))
            (u.f - (u.now - x.wordAt)) u)) := by
  show execSsiWordEnd a word s = _
  rw [execSsiWordEnd, answerServed_live hl hs]
  simp only [ha, State.isSerial, hser, axis_eq hx, beq_self_eq_true, Bool.not_true, Bool.or_self, Bool.false_eq_true,
    if_false, hf, ← hj]
  rfl

omit hl hs ha hx hser in
theorem InRange.of_get {total : Int} {t : State} (h : InRange a total s)
    (hc : t.get (Obj.countsPerRev a) = s.get (Obj.countsPerRev a))
    (ho : t.get (Obj.positionOffset a) = s.get (Obj.positionOffset a)) : InRange a total t := by
  rw [InRange, hc, State.geti, ho]
  exact h

omit hl hs ha hser in
/-- A total that the counts cannot hold stops the axis's range. -/
theorem setTotal_outOfRange {total : Int} (h : ¬InRange a total s) :
    setTotal a total s = feedbackFault a 5 (s.onAxis a Axis.stopRange) ∧
    ((setTotal a total s).axis a).rangeStopped = true := by
  have hx' : (s.onAxis a Axis.stopRange).axes[a.val]? = some x.stopRange := (oneMoves_modify _ hx).1
  have heq : setTotal a total s = feedbackFault a 5 (s.onAxis a Axis.stopRange) := by
    unfold InRange at h
    rw [setTotal]
    dsimp only
    exact if_pos (by omega)
  obtain ⟨y, hy, hlines⟩ := ((KeepsOfAxes.refl Axis.lines _).feedbackFault (kind := 5)).unit hx'
  refine ⟨heq, ?_⟩
  rw [heq, axis_eq hy]
  exact congrArg Axis.Lines.rangeStopped hlines

omit hl hs ha hx hser in
theorem CountsAt.of_before {total : Int} {u t : State} (h : CountsAt a total u t)
    (hc : u.get (Obj.countsPerRev a) = s.get (Obj.countsPerRev a))
    (ho : u.get (Obj.positionOffset a) = s.get (Obj.positionOffset a)) : CountsAt a total s t := by
  unfold CountsAt at *
  simp only [State.geti, hc, ho] at h ⊢
  exact h

omit hl hs ha hx hser in
theorem posMoved_st (j : Nat) (hj : j < 16) (hn : j ≠ stInNip) : (posMoved a s).st a j = s.st a j := by
  have hnip (u : State) : (checkNip a u).st a j = u.st a j := by
    unfold checkNip
    split
    · exact (st_setSt a.isLt _ _ _ _ hj).trans (if_neg hn)
    · rfl
  exact (hnip _).trans (st_congr (runCompares_get (obj_ne _ _ _ (by decide)) (obj_ne _ _ _ (by decide)) _) j)

omit hl hs ha hser in
/-- What a valid word shows. -/
theorem wordCounted_shows {total : Int} (hin : InRange a total s) :
    (∀ j, (wordCounted a x total s).fb a j = s.fb a j) ∧ CountsAt a total s (wordCounted a x total s) ∧
    (∃ y, (wordCounted a x total s).axes[a.val]? = some y ∧ y.lastWord = some total ∧ y.invalidRun = 0) ∧
    (wordCounted a x total s).unref a = (s.unref a && !(!x.validSeen && s.flag (Obj.offsetValid a))) := by
  have hget (k0 : Nat) (hk : k0 ∈ [0x320024, 0x320022, 0x320021, 0x320020]) :
      (wordCounted a x total s).get (k0 + 256 * a.val) = (countsTaken a total s).get (k0 + 256 * a.val) := by
    simp only [List.mem_cons, List.not_mem_nil, or_false] at hk
    refine (posMoved_get ?_ _).trans ((markEdge_get ?_ _).trans (firstWord_get ?_))
    · simp only [movedKeys, Obj.compareStatus, Obj.comparePulseCount, Obj.axisStatus, List.mem_cons, List.not_mem_nil,
        or_false, not_or]
      omega
    · simp only [Obj.fbLastEdgeTime]; omega
    · omega
  have hcount (k0 : Nat) (hk : k0 ∉ [0x320022, 0x320021, 0x320020]) :
      (countsTaken a total s).get (k0 + 256 * a.val) = s.get (k0 + 256 * a.val) := countsTaken_get (not_countKey a k0 hk) s
  refine ⟨fun j => fb_congr ((hget 0x320024 (by decide)).trans (hcount _ (by decide))) j,
    (countsAt_countsTaken a.isLt hin).of_get fun k hk => ?_, ?_, ?_⟩
  · simp only [countKeys, List.mem_cons, List.not_mem_nil, or_false] at hk
    obtain rfl | rfl | rfl := hk
    · exact hget 0x320022 (by decide)
    · exact hget 0x320021 (by decide)
    · exact hget 0x320020 (by decide)
  · have hx' : ((countsTaken a total s).onAxis a (Axis.wordTaken total)).axes[a.val]? = some (x.wordTaken total) := by
      refine (oneMoves_modify _ ?_).1
      rw [countsTaken_axes]; exact hx
    have hfirst : KeepsOfAxes Axis.lines ((countsTaken a total s).onAxis a (Axis.wordTaken total))
        (firstWord a (!x.validSeen) ((countsTaken a total s).onAxis a (Axis.wordTaken total))) := by
      unfold firstWord
      split
      · exact (KeepsOfAxes.refl _ _).setSt.onAxis
      · exact .refl _ _
    obtain ⟨y, hy, hlines⟩ := hfirst.markEdge.posMoved.unit hx'
    exact ⟨y, hy, congrArg Axis.Lines.lastWord hlines, congrArg Axis.Lines.invalidRun hlines⟩
  · refine (posMoved_st _ (by decide) (by decide)).trans ((st_congr (markEdge_get (obj_ne _ _ _ (by decide)) _) _).trans ?_)
    refine (firstWord_unref _).trans ?_
    have hu : ((countsTaken a total s).onAxis a (Axis.wordTaken total)).unref a = s.unref a :=
      st_congr (hcount 0x310001 (by decide)) _
    have hf : ((countsTaken a total s).onAxis a (Axis.wordTaken total)).flag (Obj.offsetValid a) =
        s.flag (Obj.offsetValid a) := by
      rw [State.flag, State.flag, onAxis_get, hcount 0x32000C (by decide)]
    rw [hu, hf]

omit hl hs ha hx hser in
theorem wordCounted_moves {κ : Nat} {s0 : State} {total : Int} (h : Moves κ s0 s)
    (hc : caps [.objs, .axes] ||| κ = κ := by decide) : Moves κ s0 (wordCounted a x total s) := by
  have hcounted : Moves (caps [.objs, .axes]) s ((countsTaken a total s).onAxis a (Axis.wordTaken total)) :=
    onAxis_moves (put_moves (put_moves (put_moves (.refl s))))
  exact h.of hc (posMoved_moves (markEdge_moves (.ite (onAxis_moves (setSt_moves hcounted)) hcounted)))

/-- SSI_WORD_END. -/
theorem ssiWordEnd_answers (word mt st : Nat) (err ok : Bool) (hf : s.ssiFields a word = (mt, st, err, ok)) :
    Answers (.ssiWordEnd a word) s fun t =>
      let total := s.ssiTotal a mt st
      let jump := (x.lastWord.map fun u => decide (s.get (Obj.ssiJumpLimit a) < (total - u).natAbs)).getD false
      t.fb a 7 = !x.wordHigh ∧ t.fb a 8 = !ok ∧ t.fb a 9 = err ∧ t.fb a 10 = jump ∧
      ((x.wordHigh = false ∨ ok = false ∨ err = true ∨ jump = true) →
        CountsUp (Obj.ssiErrCount a) s t ∧ t.get (Obj.position a) = s.get (Obj.position a) ∧
        (s.get (Obj.ssiErrLimit a) ≤ x.invalidRun + 1 → TakesFault a 2 s t ∧ t.bit (Obj.feedbackFault a) 4 = true) ∧
        ∃ y, t.axes[a.val]? = some y ∧ y.invalidRun = x.invalidRun + 1) ∧
      (x.wordHigh = true → ok = true → err = false → jump = false → x.rangeStopped = false → InRange a total s →
        CountsAt a total s t ∧ (∃ y, t.axes[a.val]? = some y ∧ y.lastWord = some total ∧ y.invalidRun = 0) ∧
        t.unref a = (s.unref a && !(!x.validSeen && s.flag (Obj.offsetValid a)))) := by
  dsimp only
  generalize hj : (x.lastWord.map fun u =>
    decide (s.get (Obj.ssiJumpLimit a) < (s.ssiTotal a mt st - u).natAbs)).getD false = jump
  have he := exec_ssiWordEnd hl hs ha hx hser hf hj.symm
  dsimp only at he
  generalize hv : wordShown a (!x.wordHigh) (!ok) err jump s = v at he
  generalize s.ssiTotal a mt st = total at he ⊢
  have hget (k0 : Nat) (h : k0 ≠ 0x320024) : v.get (k0 + 256 * a.val) = s.get (k0 + 256 * a.val) := hv ▸ wordShown_get h
  have hxv : v.axes[a.val]? = some x := by rw [← hv, wordShown_axes]; exact hx
  have hmv {κ : Nat} (hc : caps [.objs] ||| κ = κ) : Moves κ s v := hv ▸ setFbs_moves (.refl s) hc
  have hfb : v.fb a 7 = !x.wordHigh ∧ v.fb a 8 = !ok ∧ v.fb a 9 = err ∧ v.fb a 10 = jump := by
    rw [← hv]
    exact ⟨wordShown_fb 7 (by decide), wordShown_fb 8 (by decide), wordShown_fb 9 (by decide), wordShown_fb 10 (by decide)⟩
  obtain ⟨h7, h8, h9, h10⟩ := hfb
  cases hbad : !x.wordHigh || !ok || err || jump
  case true =>
    rw [hbad, if_pos rfl] at he
    obtain ⟨hfbs, hcount, hpos, hlim, hunit⟩ := invalidWord_shows hxv
    have hm : Moves (caps [.objs, .seq, .recd, .axes, .pow, .net]) s (invalidWord a v) :=
      invalidWord_moves (hmv (by decide))
    refine answers_answer _ he hm.variant hm.pending ⟨(hfbs 7).trans h7, (hfbs 8).trans h8, (hfbs 9).trans h9,
      (hfbs 10).trans h10, fun _ => ⟨?_, hpos.trans (hget 0x320020 (by decide)), fun h => ?_, hunit⟩,
      fun h1 h2 h3 h4 => by rw [h1, h2, h3, h4] at hbad; exact absurd hbad (by decide)⟩
    · exact hcount.trans (congrArg (fun n => fitTo _ (n + 1)) (hget 0x32002B (by decide)))
    · obtain ⟨htakes, hbit⟩ := hlim (by rw [hget 0x320014 (by decide)]; exact h)
      exact ⟨htakes.of_before (hget 0x310002 (by decide)) (st_congr (hget 0x310001 (by decide)) _)
        ((hmv (κ := caps [.objs]) rfl).part .seq (by decide)), hbit⟩
  case false =>
    rw [hbad, if_neg Bool.false_ne_true] at he
    have hgood : ¬(x.wordHigh = false ∨ ok = false ∨ err = true ∨ jump = true) := by
      rintro (h | h | h | h) <;> rw [h] at hbad <;> simp at hbad
    by_cases hin : x.rangeStopped = false ∧ InRange a total s
    · obtain ⟨hstop, hin⟩ := hin
      have hinv : InRange a total v := hin.of_get (hget 0x320002 (by decide)) (hget 0x32000B (by decide))
      rw [hstop, if_neg Bool.false_ne_true, setTotal_inRange hinv, axis_eq (x := x) (by rw [countsTaken_axes]; exact hxv),
        hstop, if_neg Bool.false_ne_true] at he
      obtain ⟨hfbs, hcounts, hunit, hunref⟩ := wordCounted_shows hxv hinv
      have hm : Moves (caps [.objs, .axes]) s (wordCounted a x total v) := wordCounted_moves (hmv (by decide))
      refine answers_answer _ he hm.variant hm.pending ⟨(hfbs 7).trans h7, (hfbs 8).trans h8, (hfbs 9).trans h9,
        (hfbs 10).trans h10, fun h => absurd h hgood, fun _ _ _ _ _ _ => ⟨?_, hunit, hunref.trans ?_⟩⟩
      · exact hcounts.of_before (hget 0x320002 (by decide)) (hget 0x32000B (by decide))
      · have hu : v.unref a = s.unref a := st_congr (hget 0x310001 (by decide)) _
        have hf : v.flag (Obj.offsetValid a) = s.flag (Obj.offsetValid a) := by
          rw [State.flag, State.flag, hget 0x32000C (by decide)]
        rw [hu, hf]
    · obtain ⟨t, ht, hm, hfbs⟩ : ∃ t, exec (.ssiWordEnd a word) s = s.answer t ∧
          Moves (caps [.objs, .seq, .recd, .axes, .pow, .net]) s t ∧ ∀ j, t.fb a j = v.fb a j := by
        cases hstop : x.rangeStopped
        case true =>
          rw [hstop, if_pos rfl] at he
          exact ⟨v, he, hmv (by decide), fun _ => rfl⟩
        case false =>
          have hout : ¬InRange a total v := fun h => hin ⟨hstop,
            h.of_get (hget 0x320002 (by decide)).symm (hget 0x32000B (by decide)).symm⟩
          obtain ⟨heq, hstopped⟩ := setTotal_outOfRange hxv hout
          rw [hstop, if_neg Bool.false_ne_true, hstopped, if_pos rfl, heq] at he
          refine ⟨_, he, feedbackFault_moves (onAxis_moves (hmv (by decide))), fun j => fb_congr ?_ j⟩
          obtain ⟨hkeys, hn, hd⟩ := not_feedbackFaultKey a.isLt 0x320024 (by decide)
          exact feedbackFault_get hkeys hn hd _
      exact answers_answer _ ht hm.variant hm.pending ⟨(hfbs 7).trans h7, (hfbs 8).trans h8, (hfbs 9).trans h9,
        (hfbs 10).trans h10, fun h => absurd h hgood, fun _ _ _ _ h5 h6 => absurd ⟨h5, h6⟩ hin⟩

end

/-- Settles O13: marks, pairs, the compare pulse, and the words of a serial axis. -/
theorem referencesPairsComparesAndSerialWords : Obligations.ReferencesPairsComparesAndSerialWords := by
  refine ⟨fun s a x hl ha hx => ⟨?_, ?_, ?_, ?_, ?_⟩, fun s a x hl hs ha hx hser => ⟨?_, ?_⟩⟩
  · exact fun hs hm hr hph => referenceMark_captures hl hs ha hm hr hph
  · exact fun e hs hm hr hu h3 he => referenceMark_judges hl hs ha hm hr hu h3 he
  · exact pairGlitch_answers hl hx
  · exact pairFault_answers hl hx
  · exact comparePulseEnd_answers hl hx
  · exact fun h ht => ssiWordStart_answers hl hs ha hx hser h ht
  · exact fun word mt st err ok hf => ssiWordEnd_answers hl hs ha hx hser word mt st err ok hf

end Sys2Proof.Machine
end

section
/-! The settling of the pins -/
namespace Sys2Proof.Machine
open Sys2Proof Sys2Proof.Config

/-! What the pads read, and what the settling of the pins leaves of it. -/

set_option Elab.async false in
/-- The objects that the settling of the pins writes: conflicts and latch records. -/
def settledKeys (k : Nat) : Prop :=
  k = Obj.conflictFlags ∨ k = Obj.conflictCount ∨ (0x350000 ≤ k ∧ (k % 256 = 3 ∨ k % 256 = 6))

/-- Two states whose pads read alike. -/
structure SamePads (s t : State) : Prop where
  variant : t.variant = s.variant
  now : t.now = s.now
  pow : t.pow = s.pow
  rst : t.rst = s.rst
  clk : t.clk = s.clk
  outside : t.gp.outside = s.gp.outside
  orphan : t.gp.orphan = s.gp.orphan
  pps : t.gp.ppsUntil = s.gp.ppsUntil
  pulse : ∀ a, (t.axis a).pulseUntil = (s.axis a).pulseUntil
  obj : ∀ k, ¬settledKeys k → t.get k = s.get k

theorem SamePads.refl (s : State) : SamePads s s :=
  ⟨rfl, rfl, rfl, rfl, rfl, rfl, rfl, rfl, fun _ => rfl, fun _ _ => rfl⟩

theorem SamePads.trans {s t u : State} (h : SamePads s t) (g : SamePads t u) : SamePads s u :=
  ⟨g.variant.trans h.variant, g.now.trans h.now, g.pow.trans h.pow, g.rst.trans h.rst, g.clk.trans h.clk,
    g.outside.trans h.outside, g.orphan.trans h.orphan, g.pps.trans h.pps, fun a => (g.pulse a).trans (h.pulse a),
    fun k hk => (g.obj k hk).trans (h.obj k hk)⟩

theorem samePads_put {k : Nat} (hk : settledKeys k) (v : Nat) (s : State) : SamePads s (s.put k v) where
  variant := put_variant ..
  now := put_now ..
  pow := put_pow ..
  rst := put_rst ..
  clk := put_clk ..
  outside := by rw [put_gp]
  orphan := by rw [put_gp]
  pps := by rw [put_gp]
  pulse a := by rw [State.axis, State.axis, put_axes]
  obj j hj := get_put_ne _ _ _ s fun h => hj (h ▸ hk)

theorem samePads_each {α : Type} {f : α → State → State} (hf : ∀ b u, SamePads u (f b u)) (bs : List α) (s : State) :
    SamePads s (each bs f s) := by
  induction bs generalizing s with
  | nil => exact .refl s
  | cons b bs ih => exact (hf b s).trans (ih _)

theorem KeepsOfAxes.axis_eq {α : Type} {p : Axis → α} {s t : State} (h : KeepsOfAxes p s t) (a : Nat) :
    p (t.axis a) = p (s.axis a) := by
  have ha := h a
  rw [State.axis, State.axis, List.getD_eq_getElem?_getD, List.getD_eq_getElem?_getD]
  cases ht : t.axes[a]? <;> cases hs : s.axes[a]? <;> rw [ht, hs] at ha
  · exact absurd ha (by simp)
  · exact absurd ha (by simp)
  · exact Option.some.inj ha

theorem samePads_capture (a n kind t : Nat) (s : State) : SamePads s (capture a n kind t s) := by
  unfold capture
  dsimp only
  split
  · exact .refl s
  · have hkey : settledKeys (latchRecordKey a n) := by
      refine .inr (.inr ?_)
      unfold latchRecordKey
      split <;> simp only [Obj.latchRecord0, Obj.latchRecord1] <;> omega
    refine (samePads_put hkey _ s).trans ⟨rfl, rfl, rfl, rfl, rfl, rfl, rfl, rfl, fun b => ?_, fun _ _ => rfl⟩
    exact (KeepsOfAxes.refl Axis.pulseUntil _).onAxis.axis_eq b

theorem samePads_offerLatches (kind n : Nat) (sources : List Nat) (s : State) : SamePads s (offerLatches kind n sources s) := by
  refine samePads_each (fun a u => samePads_each (fun n v => ?_) _ u) _ s
  dsimp only
  split
  · exact samePads_capture ..
  · exact .refl v

theorem samePads_pinLatch (i : Nat) (rise : Bool) (s : State) : SamePads s (pinLatch i rise s) := samePads_offerLatches ..

theorem samePads_showConflicts (s : State) : SamePads s (showConflicts s) :=
  (samePads_put (.inl rfl) _ s).trans (samePads_put (.inr (.inl rfl)) _ _)

theorem fn_small {s : State} {n : Nat} (hn : n ∈ s.fns17) : n < 8 := by
  have := of_mem_filter hn
  simp only [List.mem_map, List.mem_range] at this
  omega

section
variable {s t : State} (h : SamePads s t)
include h

theorem SamePads.live : t.live = s.live := by rw [State.live, State.live, h.pow, h.rst]

theorem SamePads.low {k : Nat} (hk : k < 0x350000) (h1 : k ≠ Obj.conflictFlags) (h2 : k ≠ Obj.conflictCount) :
    t.get k = s.get k :=
  h.obj k fun hs => by
    obtain hs | hs | hs := hs
    · exact h1 hs
    · exact h2 hs
    · omega

theorem SamePads.served : t.served = s.served := by
  rw [State.served, State.served, h.low (by decide) (by decide) (by decide)]

theorem SamePads.owner (p : State → Nat → Bool) (hp : ∀ n ∈ s.fns17, p t n = p s n) : t.ownerBy (p t) = s.ownerBy (p s) := by
  have hfns : t.fns17 = s.fns17 := by rw [State.fns17, State.fns17, h.variant]
  rw [State.ownerBy, State.ownerBy, hfns]
  congr 1
  exact find?_eq_find? hp

theorem SamePads.ownerOfPin (i : Nat) : t.ownerOfPin i = s.ownerOfPin i := by
  refine h.owner (fun u n => u.bit (Obj.gpMask n) i) fun n hn => ?_
  have := fn_small hn
  rw [State.bit, State.bit, h.low] <;> simp only [Obj.gpMask, Obj.conflictFlags, Obj.conflictCount] <;> omega

theorem SamePads.ownerOfAxis (a : Nat) : t.ownerOfAxis a = s.ownerOfAxis a := by
  refine h.owner (fun u n => u.bit (Obj.fnAxisMask n) a) fun n hn => ?_
  have := fn_small hn
  rw [State.bit, State.bit, h.low] <;> simp only [Obj.fnAxisMask, Obj.conflictFlags, Obj.conflictCount] <;> omega

theorem SamePads.pinCfg {n : Nat} (hn : n < 96) : t.pinCfg n = s.pinCfg n := by
  rw [State.pinCfg, State.pinCfg, h.low] <;> simp only [Obj.pinConfig, Obj.conflictFlags, Obj.conflictCount] <;> omega

theorem SamePads.compareOutput (a : Nat) : t.get (Obj.compareOutput a) = s.get (Obj.compareOutput a) :=
  h.obj _ fun hs => by simp only [settledKeys, Obj.compareOutput, Obj.conflictFlags, Obj.conflictCount] at hs; omega

theorem SamePads.counting {n : Nat} (hn : n < 96) : t.counting n = s.counting n := by
  have hpps := h.low (k := Obj.ppsPin) (by decide) (by decide) (by decide)
  have htick := h.low (k := Obj.tickPin) (by decide) (by decide) (by decide)
  have hclk := h.low (k := Obj.clkOutPin) (by decide) (by decide) (by decide)
  simp only [State.counting, State.pinMode, State.claimsOn, h.pinCfg hn, h.ownerOfPin, h.ownerOfAxis, h.variant,
    h.compareOutput, hpps, htick, hclk]
  rfl

theorem SamePads.altLevel (n alt : Nat) : t.altLevel n alt = s.altLevel n alt := by
  have hdiv := h.low (k := Obj.clkOutDiv) (by decide) (by decide) (by decide)
  unfold State.altLevel
  simp only [State.f, h.variant, h.compareOutput, h.pulse, h.now, h.pps, h.clk, hdiv]

theorem SamePads.pad {n : Nat} (hn : n < 96) : t.pad n = s.pad n := by
  have hpower : t.get Obj.powerState = s.get Obj.powerState := h.low (by decide) (by decide) (by decide)
  have hlevel : t.get (Obj.outputLevel (n / 16)) = s.get (Obj.outputLevel (n / 16)) := by
    rw [h.low] <;> simp only [Obj.outputLevel, Obj.conflictFlags, Obj.conflictCount] <;> omega
  have hconfig : t.get (Obj.pinConfig (n / 16) (n % 16)) = s.get (Obj.pinConfig (n / 16) (n % 16)) := h.pinCfg hn
  have hreleased : t.padReleased n = s.padReleased n := by
    rw [State.padReleased, State.padReleased, h.live, h.served, hpower]
  have hmode : t.pinMode n = s.pinMode n := by rw [State.pinMode, State.pinMode, h.pinCfg hn]
  have halt : t.altLevel n = s.altLevel n := funext fun alt => h.altLevel n alt
  rw [State.pad, State.pad, State.bit, State.bit, State.bit, State.bit, hreleased, hmode, hpower, hlevel, hconfig, h.outside,
    h.orphan, h.pinCfg hn, h.counting hn, halt]

theorem SamePads.syncOf {n : Nat} (hn : n < 96) : t.syncOf n = s.syncOf n := by
  have hpad := h.pad hn
  have hcfg := h.pinCfg hn
  unfold State.syncOf State.pinMode
  rw [hpad, hcfg]

end

/-! The settling of the pins. -/

/-- The synchronised value of one pin takes its level. -/
def settlePin (n : Nat) (s : State) : State :=
  if s.syncOf n == s.syncBit n then s else pinLatch n (s.syncOf n) (s.onGp fun g => { g with sync := g.sync.set n (s.syncOf n) })

theorem settlePins_eq (s : State) : settlePins s = holdPatterns (each (List.range 96) settlePin (showConflicts s)) := rfl

theorem pinLatch_gp (i : Nat) (rise : Bool) (s : State) : (pinLatch i rise s).gp = s.gp :=
  (pinLatch_moves (.refl s) : Moves (caps [.objs, .axes]) s _).part .gp (by decide)

theorem samePads_settlePin (n : Nat) (s : State) : SamePads s (settlePin n s) := by
  unfold settlePin
  split
  · exact .refl s
  · have hset : SamePads s (s.onGp fun g => { g with sync := g.sync.set n (s.syncOf n) }) :=
      ⟨rfl, rfl, rfl, rfl, rfl, rfl, rfl, rfl, fun _ => rfl, fun _ _ => rfl⟩
    exact hset.trans (samePads_pinLatch ..)

theorem settlePin_sync (n : Nat) (s : State) : (settlePin n s).gp.sync = s.gp.sync.set n (s.syncOf n) := by
  unfold settlePin
  split
  · next h =>
    rw [beq_iff_eq] at h
    rw [h, State.syncBit]
    refine (List.ext_getElem? fun m => ?_).symm
    rw [List.getElem?_set]
    split
    · next hm =>
      subst hm
      rw [List.getD_eq_getElem?_getD]
      by_cases hn : n < s.gp.sync.length
      · simp [hn]
      · simp [hn]
    · rfl
  · rw [pinLatch_gp]
    rfl

/-- The synchronised values after the first `n` pins. -/
theorem settled_sync (s : State) (n : Nat) (hn : n ≤ 96) :
    SamePads s (each (List.range n) settlePin s) ∧ (each (List.range n) settlePin s).gp.sync.length = s.gp.sync.length ∧
    ∀ m, m < n → m < s.gp.sync.length → (each (List.range n) settlePin s).syncBit m = s.syncOf m := by
  induction n with
  | zero => exact ⟨.refl s, rfl, fun m hm => absurd hm (Nat.not_lt_zero m)⟩
  | succ n ih =>
    obtain ⟨hpads, hlen, hsync⟩ := ih (by omega)
    rw [List.range_succ, each_append]
    have hstep := settlePin_sync n (each (List.range n) settlePin s)
    refine ⟨hpads.trans (samePads_settlePin n _), ?_, fun m hm hml => ?_⟩
    · show (settlePin n _).gp.sync.length = _
      rw [hstep, List.length_set, hlen]
    · show (settlePin n _).syncBit m = _
      rw [State.syncBit, hstep, List.getD_eq_getElem?_getD]
      by_cases hmn : n = m
      · subst hmn
        rw [List.getElem?_set_self (by omega), Option.getD_some, hpads.syncOf (by omega)]
      · rw [List.getElem?_set_ne hmn, ← hsync m (by omega) hml, State.syncBit, List.getD_eq_getElem?_getD]

theorem samePads_holdPatterns (s : State) : SamePads s (holdPatterns s) :=
  ⟨rfl, rfl, rfl, rfl, rfl, rfl, rfl, rfl, fun _ => rfl, fun _ _ => rfl⟩

theorem holdPatterns_syncBit (s : State) (m : Nat) : (holdPatterns s).syncBit m = s.syncBit m := rfl

theorem samePads_settlePins (s : State) : SamePads s (settlePins s) := by
  rw [settlePins_eq]
  exact (samePads_showConflicts s).trans ((samePads_each samePads_settlePin _ _).trans (samePads_holdPatterns _))

/-- After the settling every synchronised value is the one of its pad. -/
theorem settlePins_sync (s : State) {m : Nat} (hm : m < 96) (hl : m < s.gp.sync.length) :
    (settlePins s).syncBit m = (settlePins s).syncOf m := by
  have hgp : (showConflicts s).gp = s.gp :=
    (showConflicts_moves (.refl s) : Moves (caps [.objs]) s _).part .gp (by decide)
  have hsync := (settled_sync (showConflicts s) 96 (Nat.le_refl _)).2.2 m hm (by rw [hgp]; exact hl)
  rw [(samePads_settlePins s).syncOf hm, ← (samePads_showConflicts s).syncOf hm, ← hsync, settlePins_eq, holdPatterns_syncBit]

end Sys2Proof.Machine
end

section
/-! Pins, patterns and lines -/
namespace Sys2Proof.Machine
open Sys2Proof Sys2Proof.Config

/-! Notices of pins and lines. -/

set_option Elab.async false in
theorem line_eq {s : State} {n : Nat} {l : PinLine} (h : s.gp.lines[n]? = some l) : s.line n = l := by
  rw [State.line, List.getD_eq_getElem?_getD, h]; rfl

theorem put_line {k v : Nat} (s : State) : (s.put k v).gp.lines = s.gp.lines := by rw [put_gp]

theorem pinNotice_gp {num : Nat} {level : Bool} {port : Nat} {pins : List Nat} (s : State) :
    (pinNotice num level port pins s).gp = s.gp :=
  (pinNotice_moves (.refl s) : Moves (caps [.objs]) s _).part .gp (by decide)

theorem pinNotice_now {num : Nat} {level : Bool} {port : Nat} {pins : List Nat} (s : State) :
    (pinNotice num level port pins s).now = s.now :=
  (pinNotice_moves (.refl s) : Moves (caps [.objs]) s _).now

theorem pinNotice_get {num : Nat} {level : Bool} {port : Nat} {pins : List Nat} {k : Nat} (hn : noisy k = false) (s : State) :
    (pinNotice num level port pins s).get k = s.get k := raiseIn_get _ _ _ _ _ _ _ _ hn

/-- The reported line. -/
def PinLine.report (v : Bool) (now : Nat) (l : PinLine) : PinLine :=
  { l with reported := v, lastAt := some now, suppressed := false }

theorem reportLine_lines {n pin : Nat} {v : Bool} (s : State) :
    (reportLine n pin v s).gp.lines = s.gp.lines.modify n (PinLine.report v s.now) := by
  show (pinNotice n v (pin / 16) [pin] s).gp.lines.modify n _ = _
  rw [pinNotice_gp]
  rfl

theorem reportLine_get {n pin : Nat} {v : Bool} {k : Nat} (hn : noisy k = false) (s : State) :
    (reportLine n pin v s).get k = s.get k := by
  unfold reportLine State.onLine
  rw [onGp_get, pinNotice_get hn]

/-- The objects of pattern units and lines. -/
theorem unit_keys : ∀ u : Fin 4, noisy (Obj.unitStatus u) = false ∧ noisy (Obj.matchCount u) = false ∧
    isConst (Obj.unitStatus u) = false ∧ isConst (Obj.matchCount u) = false ∧ Obj.unitStatus u ≠ Obj.matchCount u ∧
    fitTo (Obj.unitStatus u) 3 = 3 := by decide

theorem line_keys : ∀ n : Fin 8, noisy (Obj.lineEdgeCount n) = false ∧ isConst (Obj.lineEdgeCount n) = false ∧
    isConst (Obj.suppressedEdges n) = false ∧ Obj.lineEdgeCount n ≠ Obj.suppressedEdges n ∧
    Obj.lineConfig n ≠ Obj.lineEdgeCount n := by decide

section
variable {s : State} (hl : s.live = true)
include hl

/-- GP_PIN_CHANGE. -/
theorem gpPinChange_answers (n : Fin 96) (level : Bool) : Answers (.gpPinChange n level) s fun t =>
      t.gp.outside = s.gp.outside.set n level ∧
      ∀ m, m < 96 → m < s.gp.sync.length → t.syncBit m = t.syncOf m := by
  have he : exec (.gpPinChange n level) s =
      s.answer (settlePins (s.onGp fun g => { g with outside := g.outside.set n.val level })) := by
    show execGpPinChange n level s = _
    rw [execGpPinChange, hl]
    rfl
  have hm : Moves (caps [.objs, .axes, .gp]) s (settlePins (s.onGp fun g => { g with outside := g.outside.set n.val level })) :=
    settlePins_moves (onGp_moves (.refl s))
  exact answers_answer _ he hm.variant hm.pending ⟨(samePads_settlePins _).outside, fun m h96 hlen =>
    settlePins_sync (s.onGp fun g => { g with outside := g.outside.set n.val level }) h96 hlen⟩

/-- PATTERN_MATCH. -/
theorem patternMatch_answers (u : Fin 4) {x : PatternUnit} (hx : s.gp.units[u.val]? = some x)
    (ht : Passed x.holdSince (us (s.get (Obj.holdTime u))) s) (h0 : s.bit (Obj.unitStatus u) 0 = false)
    (hp : s.patternHolds u = true) : Answers (.patternMatch u) s fun t =>
        t.get (Obj.unitStatus u) = 3 ∧ CountsUp (Obj.matchCount u) s t ∧ t.gp = s.gp := by
  obtain ⟨hqs, hqm, hcs, hcm, hne, hfit⟩ := unit_keys u
  have hunit : s.gp.units.getD u ⟨none⟩ = x := by rw [List.getD_eq_getElem?_getD, hx]; rfl
  have hbits : ∀ port pins, Moves (caps [.objs]) s
      (pinNotice (8 + u.val) true port pins ((s.put (Obj.unitStatus u) 3).inc (Obj.matchCount u))) :=
    fun _ _ => pinNotice_moves (put_moves (put_moves (.refl s)))
  have he : exec (.patternMatch u) s = execPatternMatch u s := rfl
  rw [execPatternMatch, answerLive_live hl] at he
  simp only [hunit, heldFor_passed ht, h0, hp, Bool.not_false, Bool.and_self, if_true] at he
  refine answers_answer _ he (hbits _ _).variant (hbits _ _).pending ⟨?_, ?_, (hbits _ _).part .gp (by decide)⟩
  · rw [pinNotice_get hqs, inc_eq, get_put_ne _ _ _ _ hne, get_put_self _ _ _ hcs, hfit]
  · rw [CountsUp, pinNotice_get hqm, inc_eq, get_put_self _ _ _ hcm, get_put_ne _ _ _ _ hne.symm]

/-- PATTERN_MATCH_END. -/
theorem patternMatchEnd_answers (u : Fin 4) (h0 : s.bit (Obj.unitStatus u) 0 = true) (hp : s.patternHolds u = false) :
    Answers (.patternMatchEnd u) s fun t => BitTo (Obj.unitStatus u) 0 false s t ∧ t.gp = s.gp := by
  obtain ⟨hqs, -, hcs, -⟩ := unit_keys u
  have hbit := bitTo_setBit (Obj.unitStatus u) 0 false s hcs
  obtain ⟨t, he, hm, hget⟩ : ∃ t, exec (.patternMatchEnd u) s = s.answer t ∧ Moves (caps [.objs]) s t ∧
      t.get (Obj.unitStatus u) = (s.setBit (Obj.unitStatus u) 0 false).get (Obj.unitStatus u) := by
    have he : exec (.patternMatchEnd u) s = execPatternMatchEnd u s := rfl
    rw [execPatternMatchEnd, answerLive_live hl] at he
    simp only [h0, hp, Bool.not_false, Bool.and_self, if_true] at he
    cases h2 : (s.setBit (Obj.unitStatus u) 0 false).bit (Obj.control u) 2
    · rw [h2, if_neg Bool.false_ne_true] at he
      exact ⟨_, he, put_moves (.refl s), rfl⟩
    · rw [h2, if_pos rfl] at he
      exact ⟨_, he, pinNotice_moves (put_moves (.refl s)), pinNotice_get hqs _⟩
  exact answers_answer _ he hm.variant hm.pending ⟨hbit.of_get hget, hm.part .gp (by decide)⟩

/-- What a line's edge does, by its selection and its interval. -/
theorem exec_lineEdge {n : Fin 8} {pin : Nat} {l : PinLine} (hpin : s.linePin n = some pin) (hx : s.gp.lines[n.val]? = some l)
    (hne : s.syncBit pin ≠ l.seen) : exec (.lineEdge n) s = s.answer (
      let v := s.syncBit pin
      let u := s.onLine n fun l => { l with seen := v }
      if (s.get (Obj.lineConfig n) / 16 % 4).testBit (if v then 0 else 1) then
        if (l.lastAt.map fun t => decide (s.now < t + s.lineInterval n)).getD false then
          ((u.inc (Obj.lineEdgeCount n)).inc (Obj.suppressedEdges n)).onLine n fun l => { l with suppressed := true }
        else reportLine n pin v (u.inc (Obj.lineEdgeCount n))
      else u) := by
  have hcfg : ((s.onLine n fun l => { l with seen := s.syncBit pin }).inc (Obj.lineEdgeCount n)).lineInterval n =
      s.lineInterval n := by
    rw [State.lineInterval, State.lineInterval, inc_eq, get_put_ne _ _ _ _ (line_keys n).2.2.2.2]
    rfl
  have hnow : ((s.onLine n fun l => { l with seen := s.syncBit pin }).inc (Obj.lineEdgeCount n)).now = s.now := put_now ..
  show execLineEdge n s = _
  rw [execLineEdge, answerLive_live hl]
  simp only [hpin, line_eq hx, beq_eq_false_iff_ne.2 hne, Bool.false_eq_true, if_false, hcfg, hnow]
  congr 1
  have hsel (b : Bool) : (if b = true then (s.get (Obj.lineConfig n) / 16 % 4).testBit 0
      else (s.get (Obj.lineConfig n) / 16 % 4).testBit 1) = (s.get (Obj.lineConfig n) / 16 % 4).testBit (if b then 0 else 1) := by
    cases b <;> rfl
  have hget : (s.onLine n fun l => { l with seen := s.syncBit pin }).get (Obj.lineConfig n) = s.get (Obj.lineConfig n) := rfl
  rw [hget, hsel]
  cases (s.get (Obj.lineConfig n) / 16 % 4).testBit (if s.syncBit pin then 0 else 1) <;> rfl

/-- LINE_EDGE outside MinInterval. -/
theorem lineEdge_reports {n : Fin 8} {pin : Nat} {l : PinLine} (hpin : s.linePin n = some pin)
    (hx : s.gp.lines[n.val]? = some l) (hne : s.syncBit pin ≠ l.seen)
    (hsel : (s.get (Obj.lineConfig n) / 16 % 4).testBit (if s.syncBit pin then 0 else 1) = true)
    (ht : ∀ u, l.lastAt = some u → u + s.lineInterval n ≤ s.now) : Answers (.lineEdge n) s fun t =>
          CountsUp (Obj.lineEdgeCount n) s t ∧ OneMoves n.val
            { l with seen := s.syncBit pin, reported := s.syncBit pin, lastAt := some s.now, suppressed := false }
            s.gp.lines t.gp.lines := by
  obtain ⟨hq, hc, -⟩ := line_keys n
  have he := exec_lineEdge hl hpin hx hne
  have hopen : (l.lastAt.map fun t => decide (s.now < t + s.lineInterval n)).getD false = false := by
    cases hlast : l.lastAt with
    | none => rfl
    | some u => exact decide_eq_false (Nat.not_lt.2 (ht u hlast))
  dsimp only at he
  rw [hsel, hopen, if_pos rfl, if_neg Bool.false_ne_true] at he
  have hm : Moves (caps [.objs, .gp]) s (reportLine n pin (s.syncBit pin)
      ((s.onLine n fun l => { l with seen := s.syncBit pin }).inc (Obj.lineEdgeCount n))) :=
    reportLine_moves (put_moves (onLine_moves (.refl s)))
  refine answers_answer _ he hm.variant hm.pending ⟨?_, ?_⟩
  · rw [CountsUp, reportLine_get hq]
    exact get_put_self _ _ _ hc
  · rw [reportLine_lines, inc_eq, put_line, put_now]
    show OneMoves n.val _ _ ((s.gp.lines.modify n _).modify n _)
    rw [List.modify_modify_eq]
    exact oneMoves_modify _ hx

/-- LINE_EDGE inside MinInterval. -/
theorem lineEdge_suppresses {n : Fin 8} {pin : Nat} {l : PinLine} (hpin : s.linePin n = some pin)
    (hx : s.gp.lines[n.val]? = some l) (hne : s.syncBit pin ≠ l.seen) (u : Nat)
    (hsel : (s.get (Obj.lineConfig n) / 16 % 4).testBit (if s.syncBit pin then 0 else 1) = true)
    (hu : l.lastAt = some u) (ht : s.now < u + s.lineInterval n) : Answers (.lineEdge n) s fun t =>
          CountsUp (Obj.lineEdgeCount n) s t ∧ CountsUp (Obj.suppressedEdges n) s t ∧
          OnlyMoves [Obj.lineEdgeCount n, Obj.suppressedEdges n] s t ∧
          OneMoves n.val { l with seen := s.syncBit pin, suppressed := true } s.gp.lines t.gp.lines := by
  obtain ⟨-, hc, hcs, hkeys, -⟩ := line_keys n
  have he := exec_lineEdge hl hpin hx hne
  have hshut : (l.lastAt.map fun t => decide (s.now < t + s.lineInterval n)).getD false = true := by
    rw [hu]; exact decide_eq_true ht
  dsimp only at he
  rw [hsel, hshut, if_pos rfl, if_pos rfl] at he
  have hm : Moves (caps [.objs, .gp]) s ((((s.onLine n fun l => { l with seen := s.syncBit pin }).inc
      (Obj.lineEdgeCount n)).inc (Obj.suppressedEdges n)).onLine n fun l => { l with suppressed := true }) :=
    onLine_moves (put_moves (put_moves (onLine_moves (.refl s))))
  refine answers_answer _ he hm.variant hm.pending ⟨?_, ?_, ?_, ?_⟩
  · refine (get_put_ne _ _ _ _ hkeys).trans ?_
    exact get_put_self _ _ _ hc
  · refine (get_put_self _ _ _ hcs).trans (congrArg (fun m => fitTo (Obj.suppressedEdges n) (m + 1)) ?_)
    exact get_put_ne _ _ _ _ hkeys.symm
  · intro k hk
    simp only [List.mem_cons, List.not_mem_nil, or_false, not_or] at hk
    refine (get_put_ne _ _ _ _ hk.2).trans ?_
    exact get_put_ne _ _ _ (s.onLine n fun l => { l with seen := s.syncBit pin }) hk.1
  · show OneMoves n.val _ _ ((State.gp _).lines.modify n _)
    rw [inc_eq, put_line, inc_eq, put_line]
    show OneMoves n.val _ _ ((s.gp.lines.modify n _).modify n _)
    rw [List.modify_modify_eq]
    exact oneMoves_modify _ hx

/-- LINE_EDGE of a direction that is not selected. -/
theorem lineEdge_passes {n : Fin 8} {pin : Nat} {l : PinLine} (hpin : s.linePin n = some pin)
    (hx : s.gp.lines[n.val]? = some l) (hne : s.syncBit pin ≠ l.seen)
    (hsel : (s.get (Obj.lineConfig n) / 16 % 4).testBit (if s.syncBit pin then 0 else 1) = false) :
    Answers (.lineEdge n) s fun t => t.objs = s.objs ∧
      OneMoves n.val { l with seen := s.syncBit pin } s.gp.lines t.gp.lines := by
  have he := exec_lineEdge hl hpin hx hne
  dsimp only at he
  rw [hsel, if_neg Bool.false_ne_true] at he
  exact answers_answer _ he rfl rfl ⟨rfl, oneMoves_modify _ hx⟩

/-- MIN_INTERVAL_END. -/
theorem minIntervalEnd_answers {n : Fin 8} {pin : Nat} {l : PinLine} (hpin : s.linePin n = some pin)
    (hx : s.gp.lines[n.val]? = some l) (hs : l.suppressed = true) (ht : Passed l.lastAt (s.lineInterval n) s) :
    Answers (.minIntervalEnd n) s fun t =>
        OneMoves n.val (if s.syncBit pin = l.reported then { l with suppressed := false }
          else { l with reported := s.syncBit pin, lastAt := some s.now, suppressed := false }) s.gp.lines t.gp.lines := by
  have he : exec (.minIntervalEnd n) s = s.answer (if s.syncBit pin == l.reported then
      s.onLine n fun l => { l with suppressed := false }
      else reportLine n pin (s.syncBit pin) (s.onLine n fun l => { l with suppressed := false })) := by
    show execMinIntervalEnd n s = _
    rw [execMinIntervalEnd, answerLive_live hl]
    simp only [hpin, line_eq hx, hs, heldFor_passed ht, Bool.and_self, if_true]
    rfl
  have hm : Moves (caps [.objs, .gp]) s (if s.syncBit pin == l.reported then
      s.onLine n fun l => { l with suppressed := false }
      else reportLine n pin (s.syncBit pin) (s.onLine n fun l => { l with suppressed := false })) :=
    .ite (onLine_moves (.refl s)) (reportLine_moves (onLine_moves (.refl s)))
  refine answers_answer _ he hm.variant hm.pending ?_
  by_cases h : s.syncBit pin = l.reported
  · rw [if_pos h, if_pos (beq_iff_eq.2 h)]
    exact oneMoves_modify _ hx
  · rw [if_neg h, if_neg (by rwa [beq_iff_eq]), reportLine_lines]
    show OneMoves n.val _ _ ((s.gp.lines.modify n _).modify n _)
    rw [List.modify_modify_eq]
    exact oneMoves_modify _ hx

/-- PPS_PULSE. -/
theorem ppsPulse_answers (hc : s.calValid = true) :
    Answers .ppsPulse s fun t => t.gp.ppsUntil = some (s.now + us (s.get Obj.ppsWidth)) := by
  have he : exec .ppsPulse s =
      s.answer (settlePins (s.onGp fun g => { g with ppsUntil := some (s.now + us (s.get Obj.ppsWidth)) })) := by
    show execPpsPulse s = _
    rw [execPpsPulse, answerLive_live hl, hc, if_pos rfl]
  have hm : Moves (caps [.objs, .axes, .gp]) s
      (settlePins (s.onGp fun g => { g with ppsUntil := some (s.now + us (s.get Obj.ppsWidth)) })) :=
    settlePins_moves (onGp_moves (.refl s))
  exact answers_answer _ he hm.variant hm.pending (samePads_settlePins _).pps

/-- PPS_PULSE_END. -/
theorem ppsPulseEnd_answers (u : Nat) (hu : s.gp.ppsUntil = some u) (ht : u ≤ s.now) :
    Answers .ppsPulseEnd s fun t => t.gp.ppsUntil = none ∧ t.gp.outside = s.gp.outside := by
  have he : exec .ppsPulseEnd s = s.answer (settlePins (s.onGp fun g => { g with ppsUntil := none })) := by
    show execPpsPulseEnd s = _
    rw [execPpsPulseEnd, answerLive_live hl, hu]
    simp only [Option.map_some, Option.getD_some, decide_eq_true ht, if_true]
  have hm : Moves (caps [.objs, .axes, .gp]) s (settlePins (s.onGp fun g => { g with ppsUntil := none })) :=
    settlePins_moves (onGp_moves (.refl s))
  exact answers_answer _ he hm.variant hm.pending ⟨(samePads_settlePins _).pps, (samePads_settlePins _).outside⟩

end

/-- Settles O15: pins settle with their pads, patterns match, lines report, and the PPS pulse runs. -/
theorem pinsPatternsAndLines : Obligations.PinsPatternsAndLines := by
  intro s hl
  refine ⟨gpPinChange_answers hl, fun u x hx ht h0 hp => patternMatch_answers hl u hx ht h0 hp,
    patternMatchEnd_answers hl, fun n pin l hpin hx hne => ⟨?_, ?_, ?_⟩, ?_, ppsPulse_answers hl, ppsPulseEnd_answers hl⟩
  · exact fun hsel ht => lineEdge_reports hl hpin hx hne hsel ht
  · exact fun u hsel hu ht => lineEdge_suppresses hl hpin hx hne u hsel hu ht
  · exact fun hsel => lineEdge_passes hl hpin hx hne hsel
  · exact fun n pin l hpin hx hs ht => minIntervalEnd_answers hl hpin hx hs ht

end Sys2Proof.Machine
end

section
/-! The bypass and the links it loses -/
namespace Sys2Proof.Machine
open Sys2Proof Sys2Proof.Config

/-! What a lost link leaves of the bypass. -/

set_option Elab.async false in
theorem onBypass_bypass (f : Bypass → Bypass) (s : State) : (s.onBypass f).net.bypass = f s.net.bypass := rfl

theorem put_bypass (k v : Nat) (s : State) : (s.put k v).net.bypass = s.net.bypass := by rw [put_net]

/-- The objects of the network clock's state. -/
def clockKeys : List Nat := [Obj.ocPortState, Obj.parentPortIdentity, Obj.calState]

/-- A condition that both branches meet. -/
theorem of_ite {α : Type} {P : α → Prop} {c : Prop} [Decidable c] {a b : α} (ha : P a) (hb : P b) : P (if c then a else b) := by
  split
  · exact ha
  · exact hb

/-- The state of the network clock is shown. -/
def clockShown (s : State) : State :=
  s.put Obj.ocPortState (s.ocState 0 + 256 * (if s.variant.hasNb then s.ocState 1 else 0))

/-- The network clock begins anew. -/
def clockAnew (s : State) : State := s.onNet fun n =>
  { n with ptp := { n.ptp with syncPending := none, sync := none, delayReq := none, delayNext := s.now } }

/-- What the network clock settles to. -/
theorem settleClock_ends {P : State → Prop} {s : State} (hshown : P (clockShown s))
    (hparent : ∀ v, P (clockAnew ((clockShown s).put Obj.parentPortIdentity v))) (hnone : P (clockAnew (clockShown s)))
    (hlost : P ((clockAnew (clockShown s)).put Obj.calState 4)) : P (settleClock s) := by
  have heq : settleClock s = match (clockShown s).slavePort with
      | some p =>
        if (clockShown s).get Obj.parentPortIdentity == (((clockShown s).portMaster p).map (·.sender)).getD 0 &&
          (if s.get Obj.ocPortState % 256 = 9 then some 0 else if s.get Obj.ocPortState / 256 = 9 then some 1 else none) == some p
        then clockShown s
        else clockAnew ((clockShown s).put Obj.parentPortIdentity ((((clockShown s).portMaster p).map (·.sender)).getD 0))
      | none =>
        if (s.get Obj.ocPortState % 256 == 9 || s.get Obj.ocPortState / 256 == 9) &&
          ((clockAnew (clockShown s)).get Obj.calState == 2 || (clockAnew (clockShown s)).get Obj.calState == 3)
        then (clockAnew (clockShown s)).put Obj.calState 4 else clockAnew (clockShown s) := rfl
  rw [heq]
  cases (clockShown s).slavePort with
  | none => exact of_ite hlost hnone
  | some p => exact of_ite hshown (hparent _)

theorem settleClock_get {k : Nat} (hk : k ∉ clockKeys) (s : State) : (settleClock s).get k = s.get k := by
  simp only [clockKeys, List.mem_cons, List.not_mem_nil, or_false, not_or] at hk
  obtain ⟨h1, h2, h3⟩ := hk
  have hshown : (clockShown s).get k = s.get k := get_put_ne _ _ _ s h1
  exact settleClock_ends (P := fun t => t.get k = s.get k) hshown (fun v => (get_put_ne _ _ _ _ h2).trans hshown) hshown
    ((get_put_ne _ _ _ _ h3).trans hshown)

theorem settleClock_bypass (s : State) : (settleClock s).net.bypass = s.net.bypass := by
  have hshown : (clockShown s).net.bypass = s.net.bypass := put_bypass ..
  exact settleClock_ends (P := fun t => t.net.bypass = s.net.bypass) hshown (fun v => (put_bypass ..).trans hshown) hshown
    ((put_bypass ..).trans hshown)

/-- The objects that the loss of the link of port `p` moves. -/
def linkKeys (p : Nat) : List Nat := [Obj.portStatus p, Obj.discardAge 0 + 256 * p, Obj.linkDownCount 0 + 256 * p] ++ clockKeys

theorem linkLost_get {p k : Nat} (hp : p < 2) (hk : k ∉ linkKeys p) (hn : noisy k = false) (s : State) :
    (linkLost p s).get k = s.get k := by
  simp only [linkKeys, List.mem_append, List.mem_cons, List.not_mem_nil, or_false, not_or] at hk
  obtain ⟨⟨h1, h2, h3⟩, hclock⟩ := hk
  unfold linkLost
  dsimp only
  split
  · rfl
  · rw [settleClock_get hclock, moveFill_get _ _ (by omega) _ hn]
    refine (get_put_ne _ _ _ _ h2).trans ((get_put_ne _ _ _ _ h3).trans ?_)
    exact get_put_ne _ _ _ _ h1

theorem linkLost_bypass (p : Nat) (s : State) : (linkLost p s).net.bypass = s.net.bypass := by
  unfold linkLost
  dsimp only
  split
  · rfl
  · rw [settleClock_bypass, moveFill_net]
    exact (put_bypass ..).trans ((put_bypass ..).trans (put_bypass ..))

theorem portList_small {s : State} {p : Nat} (h : p ∈ s.portList) : p < 2 := by
  unfold State.portList at h
  split at h <;> simp at h <;> omega

/-- A loop-back test moves bit 8 of each port's status. -/
theorem loopback_get {on : Bool} {k : Nat} {s : State} (hk : ∀ p ∈ s.portList, k ≠ Obj.portStatus p) :
    (loopback on s).get k = s.get k :=
  each_mem_get fun p hp u => get_put_ne _ _ _ u (hk p hp)

theorem loopback_net (on : Bool) (s : State) : (loopback on s).net = s.net :=
  (loopback_moves (.refl s) : Moves (caps [.objs]) s _).part .net (by decide)

theorem portStatus_plain : ∀ p : Fin 2, isConst (Obj.portStatus p) = false := by decide

theorem loopback_bit {on : Bool} {s : State} {p : Nat} (hp : p ∈ s.portList) :
    BitTo (Obj.portStatus p) 8 on s (loopback on s) := by
  have hbit (u : State) (q : Nat) (hq : q < 2) := bitTo_setBit (Obj.portStatus q) 8 on u (portStatus_plain ⟨q, hq⟩)
  have hlist : s.portList = [0] ∨ s.portList = [0, 1] := by unfold State.portList; split <;> simp
  unfold loopback
  obtain h | h := hlist <;> rw [h] at hp ⊢
  · obtain rfl : p = 0 := by simpa using hp
    exact hbit s 0 (by decide)
  · obtain rfl | rfl : p = 0 ∨ p = 1 := by simpa using hp
    · have hone : (each [0, 1] (fun p => State.setBit (Obj.portStatus p) 8 on) s).get (Obj.portStatus 0) =
          (s.setBit (Obj.portStatus 0) 8 on).get (Obj.portStatus 0) := get_put_ne (Obj.portStatus 1) _ _ _ (by decide)
      exact (hbit s 0 (by decide)).of_get hone
    · intro j hj
      exact (hbit _ 1 (by decide) j hj).trans (by
        split
        · rfl
        · rw [State.bit, State.bit]
          exact congrArg (Nat.testBit · j) (get_put_ne _ _ _ s (by decide)))

theorem physOff_get {k : Nat} (hk : ∀ p < 2, k ∉ linkKeys p) (hn : noisy k = false) (s : State) :
    (physOff s).get k = s.get k := by
  refine (each_mem_get fun p hp u => ?_).trans (loopback_get fun p hp => ?_)
  · exact linkLost_get (portList_small hp) (hk p (portList_small hp)) hn u
  · have := hk p (portList_small hp)
    simp only [linkKeys, List.mem_append, List.mem_cons, not_or] at this
    exact this.1.1

theorem physOff_bypass (s : State) : (physOff s).net.bypass = { s.net.bypass with phys := false } := by
  have hlost (ps : List Nat) (u : State) : (each ps linkLost u).net.bypass = u.net.bypass := by
    induction ps generalizing u with
    | nil => rfl
    | cons p ps ih => exact (ih _).trans (linkLost_bypass p u)
  refine (hlost _ _).trans ?_
  rw [loopback_net]
  rfl

/-- A failure of the bypass (R198). -/
theorem bypassFailed_fails {cause : Nat} (hc : cause < 256) (s : State) : BypassFails cause (bypassFailed cause s) := by
  have hkeys (k : Nat) (hk : k = Obj.bypassState ∨ k = Obj.bypassFault) : (∀ p < 2, k ∉ linkKeys p) ∧ noisy k = false := by
    obtain rfl | rfl := hk <;> decide
  have hget (k : Nat) (hk : k = Obj.bypassState ∨ k = Obj.bypassFault) : (bypassFailed cause s).get k =
      (((s.put Obj.bypassState 4).onBypass fun b => { b with coils := false, passed := false, since := s.now }).put
        Obj.bypassFault cause).get k := by
    obtain ⟨hlink, hn⟩ := hkeys k hk
    unfold bypassFailed
    dsimp only
    rw [supplyFault_get _ _ _ _ _ _ hn, physOff_get hlink hn]
  have hby : (bypassFailed cause s).net.bypass =
      { s.net.bypass with coils := false, passed := false, since := s.now, phys := false } := by
    unfold bypassFailed
    dsimp only
    rw [(noted_supplyFault ..).net, physOff_bypass, put_bypass, onBypass_bypass, put_bypass]
  have hfault : fitTo Obj.bypassFault cause = cause := Nat.mod_eq_of_lt hc
  refine ⟨?_, ?_, by rw [hby], by rw [hby]⟩
  · refine (hget _ (.inl rfl)).trans ((get_put_ne _ _ _ _ (by decide)).trans ?_)
    exact get_put_self Obj.bypassState 4 s rfl
  · exact (hget _ (.inr rfl)).trans ((get_put_self _ _ _ rfl).trans hfault)

end Sys2Proof.Machine
end

section
/-! The bypass -/
namespace Sys2Proof.Machine
open Sys2Proof Sys2Proof.Config

set_option Elab.async false in
theorem put_bypassState {v : Nat} (hv : v < 256) (s : State) : (s.put Obj.bypassState v).get Obj.bypassState = v :=
  (get_put_self _ _ s rfl).trans (Nat.mod_eq_of_lt hv)

section
variable {s : State} {b : Bypass} (hl : s.live = true) (hb : s.net.bypass = b)
include hl hb

/-- BYPASS_SELFTEST_START. -/
theorem bypassSelftestStart_answers (h0 : s.get Obj.bypassState = 0) (hserved : s.bypassServed = true)
    (hphy : s.phyOk = true) (hfd : s.fd0Ok = true) (hmode : s.get Obj.bypassMode ≠ 0) (ht : b.retryAt ≤ s.now) :
    Answers .bypassSelftestStart s fun t => t.get Obj.bypassState = 1 ∧
        (∀ p, p ∈ s.portList → BitTo (Obj.portStatus p) 8 true s t) ∧
        t.net = { s.net with bypass := { b with phys := true, passed := false, since := s.now } } := by
  have he : exec .bypassSelftestStart s = s.answer (loopback true ((s.put Obj.bypassState 1).onBypass fun b =>
      { b with phys := true, passed := false, since := s.now })) := by
    show execBypassSelftestStart s = _
    rw [execBypassSelftestStart, answerLive_live hl]
    simp only [h0, hserved, hphy, hfd, bne_iff_ne.2 hmode, hb, decide_eq_true ht, beq_self_eq_true, Bool.and_self, if_true]
  have hm : Moves (caps [.objs, .net]) s (loopback true ((s.put Obj.bypassState 1).onBypass fun b =>
      { b with phys := true, passed := false, since := s.now })) := loopback_moves (onBypass_moves (put_moves (.refl s)))
  have hports : ((s.put Obj.bypassState 1).onBypass fun b => { b with phys := true, passed := false, since := s.now }).portList =
      s.portList := by
    unfold State.portList
    rw [show ((s.put Obj.bypassState 1).onBypass _).variant = s.variant from put_variant ..]
  have hapart : ∀ p < 2, Obj.bypassState ≠ Obj.portStatus p := by decide
  refine answers_answer _ he hm.variant hm.pending ⟨?_, fun p hp j hj => ?_, ?_⟩
  · rw [loopback_get fun p hp => hapart p (portList_small (hports ▸ hp))]
    exact put_bypassState (v := 1) (by decide) s
  · refine (loopback_bit (hports.symm ▸ hp) j hj).trans ?_
    split
    · rfl
    · exact congrArg (Nat.testBit · j) (get_put_ne _ _ _ s (hapart p (portList_small hp)).symm)
  · rw [loopback_net, ← hb]
    have hnet (f : Bypass → Bypass) : ((s.put Obj.bypassState 1).onBypass f).net = (s.onBypass f).net := by
      unfold State.onBypass State.onNet
      rw [put_net]
    exact hnet _

/-- The bypass with the readbacks of its relays. -/
def Bypass.read (a c : Bool) (b : Bypass) : Bypass := { b with rbA := a, rbB := c }

/-- The end of a self-test: the readbacks are taken and the loop-backs end. -/
def testEnded (a c : Bool) (s : State) : State := loopback false (s.onBypass (Bypass.read a c))

omit hl hb in
theorem testEnded_get {a c : Bool} {k : Nat} (hk : k ≠ Obj.portStatus 0) (hk1 : k ≠ Obj.portStatus 1) :
    (testEnded a c s).get k = s.get k := by
  refine (loopback_get fun p hp => ?_).trans rfl
  have := portList_small hp
  obtain rfl | rfl : p = 0 ∨ p = 1 := by omega
  · exact hk
  · exact hk1

omit hl hb in
theorem testEnded_bypass (a c : Bool) : (testEnded a c s).net.bypass = s.net.bypass.read a c := by
  rw [testEnded, loopback_net]; rfl

omit hb in
theorem exec_bypassSelftestEnd (pass a c : Bool) (h1 : s.get Obj.bypassState = 1) : exec (.bypassSelftestEnd pass a c) s =
    s.answer (if a || (c && !s.variant.isE) then bypassFailed 1 (testEnded a c s)
      else if pass then tryInserting ((testEnded a c s).onBypass fun b => { b with passed := true })
      else retryDelay false (toBypassed (testEnded a c s))) := by
  have hvar : (testEnded a c s).variant = s.variant :=
    (loopback_moves (onBypass_moves (.refl s)) : Moves (caps [.objs, .net]) s _).variant
  show execBypassSelftestEnd pass a c s = _
  rw [execBypassSelftestEnd, answerLive_live hl, h1]
  simp only [bne_self_eq_false, Bool.false_eq_true, if_false]
  rw [show loopback false (s.onBypass fun b => { b with rbA := a, rbB := c }) = testEnded a c s from rfl, hvar]

omit hl hb in
theorem testEnded_moves {a c : Bool} : Moves (caps [.objs, .net]) s (testEnded a c s) :=
  loopback_moves (onBypass_moves (.refl s))

/-- BYPASS_SELFTEST_END, failed. -/
theorem bypassSelftestEnd_fails (c : Bool) (h1 : s.get Obj.bypassState = 1) (hrel : (c && !s.variant.isE) = false) :
    Answers (.bypassSelftestEnd false false c) s fun t => t.get Obj.bypassState = 0 ∧ t.net.bypass.coils = false ∧
        t.net.bypass.retryAt = s.now + sec (if b.delay = 0 then s.get Obj.insertRetryDelay else b.delay) ∧
        ∀ p, p ∈ s.portList → BitTo (Obj.portStatus p) 8 false s t := by
  have he := exec_bypassSelftestEnd hl false false c h1
  rw [Bool.false_or, hrel, if_neg Bool.false_ne_true, if_neg Bool.false_ne_true] at he
  have hm : Moves (caps [.objs, .net]) s (retryDelay false (toBypassed (testEnded false c s))) :=
    retryDelay_moves (toBypassed_moves testEnded_moves)
  have hby : (toBypassed (testEnded false c s)).net.bypass =
      { b.read false c with coils := false, passed := false, since := s.now } := by
    rw [toBypassed, onBypass_bypass, put_bypass, testEnded_bypass, testEnded_moves.now, hb]
  have hfirst : (toBypassed (testEnded false c s)).get Obj.insertRetryDelay = s.get Obj.insertRetryDelay :=
    (get_put_ne _ _ _ _ (by decide)).trans (testEnded_get (by decide) (by decide))
  have hnow : (toBypassed (testEnded false c s)).now = s.now :=
    (toBypassed_moves testEnded_moves : Moves (caps [.objs, .net]) s _).now
  have hret : (retryDelay false (toBypassed (testEnded false c s))).net.bypass =
      { b.read false c with coils := false, passed := false, since := s.now
                            retryAt := s.now + sec (if b.delay = 0 then s.get Obj.insertRetryDelay else b.delay) } := by
    rw [retryDelay]
    dsimp only
    rw [onBypass_bypass, hby, hfirst, hnow]
    rfl
  refine answers_answer _ he hm.variant hm.pending ⟨?_, by rw [hret], by rw [hret], fun p hp => ?_⟩
  · exact put_bypassState (v := 0) (by decide) (testEnded false c s)
  · have hports : (s.onBypass (Bypass.read false c)).portList = s.portList := rfl
    have hapart : ∀ p < 2, Obj.portStatus p ≠ Obj.bypassState := by decide
    have hbit : BitTo (Obj.portStatus p) 8 false s (testEnded false c s) := loopback_bit (s := s.onBypass (Bypass.read false c)) hp
    exact hbit.of_get (get_put_ne _ _ _ _ (hapart p (portList_small hp)))

/-- BYPASS_SELFTEST_END, passed. -/
theorem bypassSelftestEnd_passes (c : Bool) (h1 : s.get Obj.bypassState = 1) (hrel : (c && !s.variant.isE) = false) :
    ((s.get Obj.bypassMode ≠ 2 ∨ b.grant = true) → Answers (.bypassSelftestEnd true false c) s fun t =>
        t.get Obj.bypassState = 2 ∧ t.net.bypass.coils = true ∧ t.net.bypass.since = s.now) ∧
    (s.get Obj.bypassMode = 2 → b.grant = false → Answers (.bypassSelftestEnd true false c) s fun t =>
        t.get Obj.bypassState = 1 ∧ t.net.bypass.passed = true ∧ t.net.bypass.coils = b.coils) := by
  have he := exec_bypassSelftestEnd hl true false c h1
  rw [Bool.false_or, hrel, if_neg Bool.false_ne_true, if_pos rfl] at he
  have hm : Moves (caps [.objs, .net]) s (tryInserting ((testEnded false c s).onBypass fun b => { b with passed := true })) :=
    tryInserting_moves (onBypass_moves testEnded_moves)
  have hget (k : Nat) (h : k = Obj.bypassState ∨ k = Obj.bypassMode) :
      ((testEnded false c s).onBypass fun b => { b with passed := true }).get k = s.get k := by
    refine (testEnded_get ?_ ?_) <;> obtain rfl | rfl := h <;> decide
  have hby : ((testEnded false c s).onBypass fun b => { b with passed := true }).net.bypass =
      { b.read false c with passed := true } := by
    rw [onBypass_bypass, testEnded_bypass, hb]
  have hstate := (hget Obj.bypassState (.inl rfl)).trans h1
  have hmode := hget Obj.bypassMode (.inr rfl)
  have hins : tryInserting ((testEnded false c s).onBypass fun b => { b with passed := true }) =
      if s.get Obj.bypassMode ≠ 2 ∨ b.grant = true then
        (((testEnded false c s).onBypass fun b => { b with passed := true }).put Obj.bypassState 2).onBypass fun b =>
          { b with coils := true, passed := false, grant := false, since := s.now }
      else (testEnded false c s).onBypass fun b => { b with passed := true } := by
    rw [tryInserting]
    rw [hstate, hmode, hby, show ((testEnded false c s).onBypass fun b => { b with passed := true }).now = s.now from
      testEnded_moves.now]
    refine ite_congr ?_ (fun _ => rfl) fun _ => rfl
    simp [Bypass.read]
  rw [hins] at he hm
  refine ⟨fun h => ?_, fun h2 hg => ?_⟩
  · rw [if_pos h] at he hm
    exact answers_answer _ he hm.variant hm.pending 
      ⟨put_bypassState (v := 2) (by decide) ((testEnded false c s).onBypass fun b => { b with passed := true }), rfl, rfl⟩
  · rw [if_neg (by rw [hg]; simp [h2])] at he hm
    refine answers_answer _ he hm.variant hm.pending ⟨hstate, rfl, ?_⟩
    rw [hby]; rfl

omit hb in
/-- BYPASS_SELFTEST_END with a relay that shows energised. -/
theorem bypassSelftestEnd_stuck (pass c : Bool) (h1 : s.get Obj.bypassState = 1) :
    Answers (.bypassSelftestEnd pass true c) s (BypassFails 1) := by
  have he := exec_bypassSelftestEnd hl pass true c h1
  rw [Bool.true_or, if_pos rfl] at he
  have hm : Moves (caps [.objs, .recd, .net]) s (bypassFailed 1 (testEnded true c s)) :=
    bypassFailed_moves (loopback_moves (onBypass_moves (.refl s)))
  exact answers_answer _ he hm.variant hm.pending (bypassFailed_fails (by decide) _)

/-- BYPASS_NO_PULL. -/
theorem bypassNoPull_answers (a c : Bool) (h2 : s.get Obj.bypassState = 2) (ht : b.since + ms 20 ≤ s.now) :
    ((a && (s.variant.isE || c)) = false → Answers (.bypassNoPull a c) s (BypassFails 2)) ∧
    ((a && (s.variant.isE || c)) = true → Answers (.bypassNoPull a c) s fun t =>
        t.get Obj.bypassState = (if s.linksMet then 3 else 2) ∧ (s.linksMet = true → CountsUp Obj.insertCount s t) ∧
        t.net.bypass.rbA = a ∧ t.net.bypass.rbB = c) := by
  have he : exec (.bypassNoPull a c) s = s.answer (if a && (s.variant.isE || c) then
      tryInserted (s.onBypass (Bypass.read a c)) else bypassFailed 2 (s.onBypass (Bypass.read a c))) := by
    show execBypassNoPull a c s = _
    rw [execBypassNoPull, answerLive_live hl]
    simp only [h2, hb, decide_eq_true ht, beq_self_eq_true, Bool.and_self, if_true]
    rfl
  refine ⟨fun h => ?_, fun h => ?_⟩
  · rw [h, if_neg Bool.false_ne_true] at he
    have hm : Moves (caps [.objs, .recd, .net]) s (bypassFailed 2 (s.onBypass (Bypass.read a c))) :=
      bypassFailed_moves (onBypass_moves (.refl s))
    exact answers_answer _ he hm.variant hm.pending (bypassFailed_fails (by decide) _)
  · rw [h, if_pos rfl] at he
    have hm : Moves (caps [.objs, .net]) s (tryInserted (s.onBypass (Bypass.read a c))) :=
      tryInserted_moves (onBypass_moves (.refl s))
    have hon : (s.onBypass (Bypass.read a c)).rbOn = true := h
    have hlinks : (s.onBypass (Bypass.read a c)).linksMet = s.linksMet := rfl
    have hstate : (s.onBypass (Bypass.read a c)).get Obj.bypassState = 2 := h2
    have heq : tryInserted (s.onBypass (Bypass.read a c)) = if s.linksMet then
        ((((s.onBypass (Bypass.read a c)).put Obj.bypassState 3).inc Obj.insertCount).put Obj.lastInsertTime
          (((((s.onBypass (Bypass.read a c)).put Obj.bypassState 3).inc Obj.insertCount).now -
            (((s.onBypass (Bypass.read a c)).put Obj.bypassState 3).inc Obj.insertCount).net.bypass.since) / us 1)).onBypass
          fun b => { b with delay := 0 }
        else s.onBypass (Bypass.read a c) := by
      rw [tryInserted]
      simp only [hon, hlinks, hstate, beq_self_eq_true, Bool.true_and]
    refine answers_answer _ he hm.variant hm.pending ?_
    rw [heq]
    cases s.linksMet
    · exact ⟨h2, nofun, rfl, rfl⟩
    · refine ⟨?_, fun _ => ?_, ?_, ?_⟩
      · refine (get_put_ne _ _ _ _ (by decide)).trans ((get_put_ne _ _ _ _ (by decide)).trans ?_)
        exact put_bypassState (by decide) _
      · refine (get_put_ne _ _ _ _ (by decide)).trans ((get_put_self _ _ _ rfl).trans ?_)
        exact congrArg (fun n => fitTo Obj.insertCount (n + 1)) (get_put_ne _ _ _ _ (by decide))
      · rw [if_pos rfl, onBypass_bypass, put_bypass, inc_eq, put_bypass, put_bypass]; rfl
      · rw [if_pos rfl, onBypass_bypass, put_bypass, inc_eq, put_bypass, put_bypass]; rfl

/-- INSERT_LINK_TIMEOUT. -/
theorem insertLinkTimeout_answers (h2 : s.get Obj.bypassState = 2) (ht : b.since + ms s.linkTime ≤ s.now)
    (hno : (s.linksMet && s.rbOn) = false) : Answers .insertLinkTimeout s fun t =>
        t.get Obj.bypassState = 0 ∧ CountsUp Obj.insertFailCount s t ∧
        t.net.bypass.coils = false ∧
        t.net.bypass.delay = (if b.delay = 0 then s.get Obj.insertRetryDelay else min 320 (2 * b.delay)) ∧
        t.net.bypass.retryAt = s.now + sec t.net.bypass.delay := by
  have he : exec .insertLinkTimeout s = s.answer (retryDelay true ((toBypassed s).inc Obj.insertFailCount)) := by
    show execInsertLinkTimeout s = _
    rw [execInsertLinkTimeout, answerLive_live hl]
    simp only [h2, hb, decide_eq_true ht, hno, beq_self_eq_true, Bool.and_self, Bool.false_eq_true, if_true, if_false]
  have hm : Moves (caps [.objs, .net]) s (retryDelay true ((toBypassed s).inc Obj.insertFailCount)) :=
    retryDelay_moves (put_moves (toBypassed_moves (.refl s)))
  have hby : ((toBypassed s).inc Obj.insertFailCount).net.bypass = { b with coils := false, passed := false, since := s.now } := by
    rw [inc_eq, put_bypass, toBypassed, onBypass_bypass, put_bypass, hb]
  have hfirst : ((toBypassed s).inc Obj.insertFailCount).get Obj.insertRetryDelay = s.get Obj.insertRetryDelay :=
    (get_put_ne _ _ _ _ (by decide)).trans (get_put_ne _ _ _ _ (by decide))
  have hnow : ((toBypassed s).inc Obj.insertFailCount).now = s.now :=
    (put_moves (toBypassed_moves (.refl s)) : Moves (caps [.objs, .net]) s _).now
  have hret : (retryDelay true ((toBypassed s).inc Obj.insertFailCount)).net.bypass =
      { b with coils := false, passed := false, since := s.now
               delay := if b.delay = 0 then s.get Obj.insertRetryDelay else min 320 (2 * b.delay)
               retryAt := s.now + sec (if b.delay = 0 then s.get Obj.insertRetryDelay else min 320 (2 * b.delay)) } := by
    rw [retryDelay, onBypass_bypass, hby, hfirst, hnow]
    rfl
  have hget (k : Nat) : (retryDelay true ((toBypassed s).inc Obj.insertFailCount)).get k =
      ((toBypassed s).inc Obj.insertFailCount).get k := rfl
  refine answers_answer _ he hm.variant hm.pending ⟨?_, ?_, by rw [hret], by rw [hret], by rw [hret]⟩
  · refine (hget _).trans ((get_put_ne _ _ _ _ (by decide)).trans ?_)
    exact put_bypassState (v := 0) (by decide) s
  · refine (hget _).trans ((get_put_self _ _ _ rfl).trans ?_)
    exact congrArg (fun n => fitTo Obj.insertFailCount (n + 1)) (get_put_ne _ _ _ _ (by decide))

omit hb in
/-- BYPASS_DROPPED. -/
theorem bypassDropped_answers (a c : Bool) (held : Nat) (h3 : s.get Obj.bypassState = 3)
    (hoff : (a && (s.variant.isE || c)) = false) (ht : 20000 ≤ held) :
    Answers (.bypassDropped a c held) s (BypassFails 3) := by
  have he : exec (.bypassDropped a c held) s = s.answer (bypassFailed 3 (s.onBypass (Bypass.read a c))) := by
    have hon : (s.onBypass fun b => { b with rbA := a, rbB := c }).rbOn = false := hoff
    show execBypassDropped a c held s = _
    rw [execBypassDropped, answerLive_live hl]
    simp only [h3, hon, decide_eq_true ht, beq_self_eq_true, Bool.not_false, Bool.and_self, if_true]
    rfl
  have hm : Moves (caps [.objs, .recd, .net]) s (bypassFailed 3 (s.onBypass (Bypass.read a c))) :=
    bypassFailed_moves (onBypass_moves (.refl s))
  exact answers_answer _ he hm.variant hm.pending (bypassFailed_fails (by decide) _)

end

/-- Settles O17: the self-test, the insertion and every failure of the bypass. -/
theorem bypassTestsInsertsAndFails : Obligations.BypassTestsInsertsAndFails := by
  intro s b hl hb
  refine ⟨bypassSelftestStart_answers hl hb, fun a c h1 ha hc => ?_, fun pass c => bypassSelftestEnd_stuck hl pass c,
    fun a c => bypassNoPull_answers hl hb a c, insertLinkTimeout_answers hl hb, fun a c held => bypassDropped_answers hl a c held⟩
  subst ha
  have hrel : (c && !s.variant.isE) = false := by
    obtain h | h := hc <;> simp [h]
  exact ⟨bypassSelftestEnd_fails hl hb c h1 hrel, bypassSelftestEnd_passes hl hb c h1 hrel⟩

end Sys2Proof.Machine
end

section
/-! The units of the ports -/
namespace Sys2Proof.Machine
open Sys2Proof Sys2Proof.Config

/-! The units of the ports. -/

set_option Elab.async false in
theorem port_eq {s : State} {p : Nat} {u : PortUnit} (h : s.net.ports[p]? = some u) : s.port p = u := by
  rw [State.port, List.getD_eq_getElem?_getD, h]; rfl

theorem put_ports (k v : Nat) (s : State) : (s.put k v).net.ports = s.net.ports := by rw [put_net]

theorem countPort_net (k p n : Nat) (s : State) : (countPort k p n s).net = s.net := put_net ..

theorem countPort_get {k p n j : Nat} (h : j ≠ k + 256 * p) (s : State) : (countPort k p n s).get j = s.get j :=
  get_put_ne _ _ _ s h

theorem moveFill_ports (q : Nat) (s : State) : (moveFill q s).net.ports = s.net.ports := by rw [moveFill_net]

theorem onPort_ports (p : Nat) (f : PortUnit → PortUnit) (s : State) : (s.onPort p f).net.ports = s.net.ports.modify p f := rfl

theorem modify_eq_set {α : Type} {xs : List α} {p : Nat} {u : α} (f : α → α) (h : xs[p]? = some u) :
    xs.modify p f = xs.set p (f u) := by
  refine List.ext_getElem? fun j => ?_
  rw [List.getElem?_modify, List.getElem?_set]
  by_cases hj : p = j
  · subst hj
    obtain ⟨hlt, hget⟩ := List.getElem?_eq_some_iff.1 h
    simp [hlt, hget]
  · cases xs[j]? <;> simp [hj]

theorem set_unit {α : Type} {xs : List α} {p : Nat} {u : α} (v : α) (h : xs[p]? = some u) : (xs.set p v)[p]? = some v := by
  obtain ⟨hlt, -⟩ := List.getElem?_eq_some_iff.1 h
  exact List.getElem?_set_self hlt

theorem oneMoves_set {α : Type} {xs : List α} {p : Nat} {u : α} (v : α) (h : xs[p]? = some u) : OneMoves p v xs (xs.set p v) :=
  ⟨set_unit v h, fun _ hj => List.getElem?_set_ne (Ne.symm hj)⟩

/-! Ageing and serving (R189, R190). -/

theorem flatten_dropWhile_le {α : Type} (f : α → Bool) (qs : List (List α)) :
    (qs.map (List.dropWhile f)).flatten.length ≤ qs.flatten.length := by
  induction qs with
  | nil => exact Nat.le_refl _
  | cons q qs ih =>
    have := (List.dropWhile_suffix f (l := q)).length_le
    simp only [List.map_cons, List.flatten_cons, List.length_append]
    omega

/-- Where the heads that are dropped are none, the queues stay. -/
theorem map_dropWhile_eq {α : Type} (f : α → Bool) (qs : List (List α))
    (h : qs.flatten.length - (qs.map (List.dropWhile f)).flatten.length = 0) : qs.map (List.dropWhile f) = qs := by
  induction qs with
  | nil => rfl
  | cons q qs ih =>
    have hq := (List.dropWhile_suffix f (l := q)).length_le
    have hqs := flatten_dropWhile_le f qs
    simp only [List.map_cons, List.flatten_cons, List.length_append] at h
    rw [List.map_cons, ih (by omega), (List.dropWhile_suffix f).eq_of_length (by omega)]

/-- The unit without the aged heads of its queues. -/
def PortUnit.fresh (drop : List NetFrame → List NetFrame) (u : PortUnit) : PortUnit := { u with queues := u.queues.map drop }

section
variable {s : State} {p : Nat} {u : PortUnit} (hu : s.net.ports[p]? = some u)
include hu

theorem ageHeads_ports : (ageHeads p s).net.ports = s.net.ports.set p (u.fresh s.dropAged) := by
  unfold ageHeads
  simp only [port_eq hu]
  split
  · next h =>
    have hsame : u.fresh s.dropAged = u := by
      unfold PortUnit.fresh
      rw [show u.queues.map s.dropAged = u.queues from map_dropWhile_eq _ _ h]
    obtain ⟨hlt, hget⟩ := List.getElem?_eq_some_iff.1 hu
    rw [hsame, ← hget, List.set_getElem_self]
  · rw [countPort_net, onPort_ports, modify_eq_set _ hu]
    rfl

omit hu in
theorem ageHeads_get {k : Nat} (hk : k ≠ Obj.discardAge 0 + 256 * p) : (ageHeads p s).get k = s.get k := by
  unfold ageHeads
  dsimp only
  split
  · rfl
  · exact countPort_get hk _

/-- The unit sends the first frame of its highest queue where nothing keeps it from it. -/
def PortUnit.sends (u : PortUnit) : PortUnit :=
  if u.up && u.sending.isNone && u.wakeAt.isNone then
    match popHighest u.queues with
    | some (f, qs) => { u with queues := qs, sending := some f }
    | none => u
  else u

/-- A port sends the first frame of its highest queue where nothing keeps it from it. -/
def sendHead (p : Nat) (s : State) : State :=
  if (s.port p).up && (s.port p).sending.isNone && (s.port p).wakeAt.isNone then
    match popHighest (s.port p).queues with
    | some (f, qs) => s.onPort p fun u => { u with queues := qs, sending := some f }
    | none => s
  else s

/-- The unit after its port was served. -/
def PortUnit.served (s : State) (u : PortUnit) : PortUnit :=
  if (u.fresh s.dropAged).sends.cells = 0 ∧ 0 < (u.fresh s.dropAged).cells then
    { (u.fresh s.dropAged).sends with emptySince := s.now }
  else (u.fresh s.dropAged).sends

omit hu in
theorem sendHead_get (k : Nat) : (sendHead p s).get k = s.get k := by
  unfold sendHead
  refine of_ite (P := fun t : State => t.get k = s.get k) ?_ rfl
  cases popHighest (s.port p).queues <;> rfl

omit hu in
theorem sendHead_now : (sendHead p s).now = s.now := by
  unfold sendHead
  refine of_ite (P := fun t : State => t.now = s.now) ?_ rfl
  cases popHighest (s.port p).queues <;> rfl

theorem sendHead_ports : (sendHead p s).net.ports = s.net.ports.set p u.sends := by
  have hsame : s.net.ports = s.net.ports.set p u := by
    obtain ⟨hlt, hget⟩ := List.getElem?_eq_some_iff.1 hu
    rw [← hget, List.set_getElem_self]
  unfold sendHead PortUnit.sends
  rw [port_eq hu]
  cases (u.up && u.sending.isNone && u.wakeAt.isNone)
  · exact hsame
  · simp only [if_true]
    cases popHighest u.queues with
    | none => exact hsame
    | some r => exact modify_eq_set _ hu

omit hu in
theorem serve_eq : serve p s = moveFill (6 + p) (if ((sendHead p (ageHeads p s)).port p).cells = 0 ∧
    0 < ((ageHeads p s).port p).cells then
      (sendHead p (ageHeads p s)).onPort p fun u => { u with emptySince := (sendHead p (ageHeads p s)).now }
    else sendHead p (ageHeads p s)) := rfl

omit hu in
theorem serve_get {k : Nat} (hp : p < 2) (hk : k ≠ Obj.discardAge 0 + 256 * p) (hn : noisy k = false) :
    (serve p s).get k = s.get k := by
  rw [serve_eq, moveFill_get _ _ (by omega) _ hn, ← ageHeads_get (s := s) hk, ← sendHead_get (s := ageHeads p s) k]
  exact of_ite (P := fun t : State => t.get k = (sendHead p (ageHeads p s)).get k) rfl rfl

theorem serve_ports : (serve p s).net.ports = s.net.ports.set p (u.served s) := by
  have hage := ageHeads_ports hu
  have hv : (ageHeads p s).net.ports[p]? = some (u.fresh s.dropAged) := by rw [hage]; exact set_unit _ hu
  have hsend := sendHead_ports hv
  have hw : (sendHead p (ageHeads p s)).net.ports[p]? = some (u.fresh s.dropAged).sends := by rw [hsend]; exact set_unit _ hv
  have hnow : (sendHead p (ageHeads p s)).now = s.now :=
    sendHead_now.trans (ageHeads_moves (.refl s) : Moves (caps [.objs, .net]) s _).now
  rw [serve_eq, moveFill_ports, port_eq hv, port_eq hw, hnow, PortUnit.served]
  split
  · rw [onPort_ports, modify_eq_set _ hw, hsend, List.set_set, hage, List.set_set]
  · rw [hsend, hage, List.set_set]

end

/-! A port that is sending takes a frame at the end of its queue (R188). -/

theorem aged_congr {s t : State} (hk : t.get Obj.frameMaxAge = s.get Obj.frameMaxAge) (hn : t.now = s.now) : t.aged = s.aged := by
  funext f
  rw [State.aged, State.aged, hk, hn]

theorem dropAged_self {s : State} {q : List NetFrame} (h : ∀ f, q.head? = some f → s.aged f = false) : s.dropAged q = q := by
  cases q with
  | nil => rfl
  | cons f q => exact List.dropWhile_cons_of_neg (by rw [h f rfl]; decide)

theorem served_sending {s : State} {u : PortUnit} (hsend : u.sending.isSome = true)
    (hheads : ∀ q ∈ u.queues, ∀ f, q.head? = some f → s.aged f = false) : u.served s = u := by
  have hfresh : u.fresh s.dropAged = u := by
    have hmap : u.queues.map s.dropAged = u.queues := by
      exact (List.map_congr_left fun q hq => dropAged_self (hheads q hq)).trans (List.map_id _)
    unfold PortUnit.fresh
    rw [hmap]
  have hsends : u.sends = u := by
    have hnone : u.sending.isNone = false := by
      cases h : u.sending
      · rw [h] at hsend; exact absurd hsend (by decide)
      · rfl
    unfold PortUnit.sends
    rw [hnone, Bool.and_false, Bool.false_and, if_neg Bool.false_ne_true]
  unfold PortUnit.served
  rw [hfresh, hsends]
  exact if_neg (by omega)

/-- The unit with a frame at the end of its queue. -/
def PortUnit.joined (f : NetFrame) (u : PortUnit) : PortUnit := { u with queues := u.queues.modify f.q fun q => q ++ [f] }

theorem joined_heads {s : State} {u : PortUnit} {f : NetFrame} (hf : s.aged f = false)
    (h : ∀ q ∈ u.queues, ∀ g, q.head? = some g → s.aged g = false) :
    ∀ q ∈ (u.joined f).queues, ∀ g, q.head? = some g → s.aged g = false := by
  intro q hq g hg
  obtain ⟨j, hj⟩ := List.mem_iff_getElem?.1 hq
  rw [PortUnit.joined, List.getElem?_modify] at hj
  cases hq' : u.queues[j]? with
  | none => rw [hq'] at hj; exact absurd hj (by simp)
  | some r =>
    have hr : r ∈ u.queues := List.mem_iff_getElem?.2 ⟨j, hq'⟩
    rw [hq'] at hj
    replace hj : (if f.q = j then r ++ [f] else r) = q := by simpa using hj
    by_cases hfj : f.q = j
    · rw [if_pos hfj] at hj
      subst hj
      cases r with
      | nil => obtain rfl : f = g := by simpa using hg
               exact hf
      | cons r0 r => exact h _ hr g (by simpa using hg)
    · rw [if_neg hfj] at hj
      subst hj
      exact h _ hr g hg

theorem frameMaxAge_key : noisy Obj.frameMaxAge = false ∧ ∀ p < 2, Obj.frameMaxAge ≠ Obj.discardAge 0 + 256 * p := by decide

theorem enqueue_busy {s : State} {p : Nat} {u : PortUnit} {f : NetFrame} (hp : p < 2) (h : Busy p u s) (hf : s.aged f = false) :
    (enqueue p f s).net.ports = s.net.ports.set p (u.joined f) := by
  obtain ⟨hunit, hup, hsends, hawake, hheard, hheads⟩ := h
  have hawake' : (s.onPort p (PortUnit.joined f)).bit (Obj.portStatus p) 4 = false := hawake
  have heq : enqueue p f s = serve p (moveFill (6 + p) (s.onPort p (PortUnit.joined f))) := by
    show (if _ then _ else if _ then _ else serve p (moveFill (6 + p) (if (s.onPort p (PortUnit.joined f)).bit
      (Obj.portStatus p) 4 = true then _ else s.onPort p (PortUnit.joined f)))) = _
    rw [port_eq hunit, hup, hheard, hawake', Bool.not_true, if_neg Bool.false_ne_true, if_neg Bool.false_ne_true,
      if_neg Bool.false_ne_true]
  have hports : (moveFill (6 + p) (s.onPort p (PortUnit.joined f))).net.ports = s.net.ports.set p (u.joined f) := by
    rw [moveFill_ports, onPort_ports, modify_eq_set _ hunit]
  have hunit' : (moveFill (6 + p) (s.onPort p (PortUnit.joined f))).net.ports[p]? = some (u.joined f) := by
    rw [hports]; exact set_unit _ hunit
  have haged : (moveFill (6 + p) (s.onPort p (PortUnit.joined f))).aged = s.aged :=
    aged_congr (moveFill_get _ _ (by omega) _ frameMaxAge_key.1)
      ((moveFill_moves (onPort_moves (.refl s)) : Moves (caps [.objs, .net]) s _).now)
  rw [heq, serve_ports hunit', served_sending (u := u.joined f) hsends (haged ▸ joined_heads hf hheads), hports, List.set_set]

theorem enqueue_queued {s : State} {p : Nat} {u : PortUnit} {f : NetFrame} (hp : p < 2) (h : Busy p u s)
    (hf : s.aged f = false) : Queued p u f (enqueue p f s) := by
  rw [Queued, enqueue_busy hp h hf]
  exact set_unit _ h.unit

end Sys2Proof.Machine
end

section
/-! Frames received -/
namespace Sys2Proof.Machine
open Sys2Proof Sys2Proof.Config

/-! What a received frame counts. -/

set_option Elab.async false in
/-- The counters of a port and its status, for port 0. -/
def portCounters : List Nat :=
  [0x120105, 0x120401, 0x120402, 0x120403, 0x120404, 0x120405, 0x120406, 0x120407, 0x12040B, 0x12040C, 0x12040D, 0x12040E]

theorem portCounter_keys : ∀ p : Fin 2, ∀ k0 ∈ portCounters, isConst (k0 + 256 * p.val) = false ∧
    noisy (k0 + 256 * p.val) = false := by decide

theorem portCounter_plain (p : Fin 2) (k0 : Nat) (h : k0 ∈ portCounters := by decide) : isConst (k0 + 256 * p.val) = false :=
  (portCounter_keys p k0 h).1

theorem portCounter_quiet (p : Fin 2) (k0 : Nat) (h : k0 ∈ portCounters := by decide) : noisy (k0 + 256 * p.val) = false :=
  (portCounter_keys p k0 h).2

theorem countPort_counts {p : Fin 2} (k0 n : Nat) (s : State) (h : k0 ∈ portCounters := by decide) :
    (countPort k0 p n s).get (k0 + 256 * p.val) = fitTo (k0 + 256 * p.val) (s.get (k0 + 256 * p.val) + n) :=
  get_put_self _ _ s (portCounter_plain p k0 h)

theorem onlyMoves_countPort {p : Fin 2} (k0 n : Nat) (s : State) : OnlyMoves [k0 + 256 * p.val] s (countPort k0 p n s) :=
  onlyMoves_put _ _ s

/-- A frame of right length is counted, and one with a wrong FCS also as such. -/
def rxCounted (p : Nat) (f : EthFrame) (s : State) : State :=
  if f.fcsOk then countPort (Obj.rxOctets 0) p f.len (countPort (Obj.rxFrames 0) p 1 s)
  else countPort (Obj.rxFcsErrors 0) p 1 (countPort (Obj.rxOctets 0) p f.len (countPort (Obj.rxFrames 0) p 1 s))

section
variable {p : Fin 2} {f : EthFrame} {s : State}

theorem rxCounted_net : (rxCounted p f s).net = s.net :=
  of_ite (P := fun t : State => t.net = s.net) ((countPort_net ..).trans (countPort_net ..))
    ((countPort_net ..).trans ((countPort_net ..).trans (countPort_net ..)))

theorem rxCounted_moves : Moves (caps [.objs]) s (rxCounted p f s) :=
  .ite (countPort_moves (countPort_moves (.refl s))) (countPort_moves (countPort_moves (countPort_moves (.refl s))))

theorem rxCounted_get {k : Nat} (h1 : k ≠ Obj.rxFrames p) (h2 : k ≠ Obj.rxOctets p) (h3 : k ≠ Obj.rxFcsErrors p) :
    (rxCounted p f s).get k = s.get k :=
  of_ite (P := fun t : State => t.get k = s.get k) ((countPort_get h2 _).trans (countPort_get h1 _))
    ((countPort_get h3 _).trans ((countPort_get h2 _).trans (countPort_get h1 _)))

theorem rxCounted_good (h : f.fcsOk = true) {k : Nat} (h1 : k ≠ Obj.rxFrames p) (h2 : k ≠ Obj.rxOctets p) :
    (rxCounted p f s).get k = s.get k := by
  unfold rxCounted
  rw [h, if_pos rfl]
  exact (countPort_get h2 _).trans (countPort_get h1 _)

theorem rxCounted_frames : CountsUp (Obj.rxFrames p) s (rxCounted p f s) := by
  have hone : (countPort (Obj.rxFrames 0) p 1 s).get (Obj.rxFrames p) = fitTo (Obj.rxFrames p) (s.get (Obj.rxFrames p) + 1) :=
    countPort_counts 0x120401 1 s
  exact of_ite (P := fun t : State => t.get (Obj.rxFrames p) = _) ((countPort_get (obj_ne _ _ _ (by decide)) _).trans hone)
    ((countPort_get (obj_ne _ _ _ (by decide)) _).trans ((countPort_get (obj_ne _ _ _ (by decide)) _).trans hone))

theorem rxCounted_octets : (rxCounted p f s).get (Obj.rxOctets p) = fitTo (Obj.rxOctets p) (s.get (Obj.rxOctets p) + f.len) := by
  have htwo : (countPort (Obj.rxOctets 0) p f.len (countPort (Obj.rxFrames 0) p 1 s)).get (Obj.rxOctets p) =
      fitTo (Obj.rxOctets p) (s.get (Obj.rxOctets p) + f.len) := by
    refine (countPort_counts 0x120403 f.len _).trans ?_
    rw [countPort_get (obj_ne _ _ _ (by decide))]
  exact of_ite (P := fun t : State => t.get (Obj.rxOctets p) = _) htwo ((countPort_get (obj_ne _ _ _ (by decide)) _).trans htwo)

theorem rxCounted_fcs (h : f.fcsOk = false) : CountsUp (Obj.rxFcsErrors p) s (rxCounted p f s) := by
  unfold rxCounted
  rw [h, if_neg Bool.false_ne_true]
  refine (countPort_counts 0x120405 1 _).trans ?_
  rw [countPort_get (obj_ne _ _ _ (by decide)), countPort_get (obj_ne _ _ _ (by decide))]

theorem rxCounted_low {k : Nat} (hk : k < 0x120400 ∨ 0x120600 ≤ k) : (rxCounted p f s).get k = s.get k := by
  have := p.isLt
  refine rxCounted_get ?_ ?_ ?_ <;> simp only [Obj.rxFrames, Obj.rxOctets, Obj.rxFcsErrors] <;> omega

theorem rxCounted_vlanIn : (rxCounted p f s).vlanIn p f = s.vlanIn p f := by
  have hflag : (rxCounted p f s).flag Obj.vlanFiltering = s.flag Obj.vlanFiltering := by
    rw [State.flag, State.flag, rxCounted_low (by decide)]
  have hpvid : (rxCounted p f s).get (Obj.pvid p) = s.get (Obj.pvid p) := by
    have := p.isLt
    exact rxCounted_low (by simp only [Obj.pvid]; omega)
  have hentry : (rxCounted p f s).vlanEntry = s.vlanEntry := by
    funext vid
    unfold State.vlanEntry
    congr 1
    refine List.map_congr_left fun i hi => rxCounted_low ?_
    rw [List.mem_range] at hi
    simp only [Obj.vlanEntry0]; omega
  unfold State.vlanIn State.vidOf
  rw [hflag, hentry, hpvid]

theorem rxCounted_blocked (q : Nat) : (rxCounted p f s).blocked q = s.blocked q := by
  rw [State.blocked, State.blocked, rxCounted_low (by decide)]

end

theorem learn_get (mac p k : Nat) (s : State) : (learn mac p s).get k = s.get k :=
  of_ite (P := fun t : State => t.get k = s.get k) rfl rfl

theorem Busy.of_same {s t : State} {p : Nat} {u : PortUnit} (h : Busy p u s) (hports : t.net.ports = s.net.ports)
    (hnow : t.now = s.now)
    (hget : ∀ k, k = Obj.portStatus p ∨ k = Obj.blockedPort ∨ k = Obj.frameMaxAge → t.get k = s.get k) : Busy p u t where
  unit := by rw [hports]; exact h.unit
  up := h.up
  sends := h.sends
  awake := by rw [State.bit, hget _ (.inl rfl)]; exact h.awake
  heard := by rw [State.blocked, hget _ (.inr (.inl rfl))]; exact h.heard
  heads q hq f hf := by rw [aged_congr (hget _ (.inr (.inr rfl))) hnow]; exact h.heads q hq f hf

theorem aged_now {s : State} {f : NetFrame} (h : f.at_ = s.now) : s.aged f = false :=
  decide_eq_false (by omega)

section
variable {s : State} {p : Fin 2} {u : PortUnit} (hl : s.live = true) (hu : s.net.ports[p.val]? = some u)
  (hp : p.val ∈ s.portList)
include hl hu hp

/-- A frame of right length on a port that is not blocked. -/
theorem exec_portFrameRx {f : EthFrame} (hup : u.up = true) (hmin : 64 ≤ f.len) (hmax : f.len ≤ 1522)
    (hb : s.blocked p = false) (hk : f.kind ≠ .pause) (hr : isReserved f.dst = false) (hv : s.vlanIn p f = true) :
    exec (.portFrameRx p f) s = s.answer (
      let w := if f.fcsOk then learn f.src p (rxCounted p f s) else rxCounted p f s
      if w.toOther p f && w.vlanOut p (1 - p) f then transit p f w else w) := by
  have hkind : (f.kind == FrameKind.pause) = false := by
    cases hf : f.kind <;> first | rfl | exact absurd hf hk
  show execPortFrameRx p f s = _
  rw [execPortFrameRx, answerLive_live hl]
  simp only [port_eq hu, hup, List.contains_iff_mem.2 hp, Bool.and_self, Bool.not_true, Bool.false_eq_true, if_false,
    Nat.not_lt.2 hmin, Nat.not_lt.2 hmax]
  rw [show (if f.fcsOk then countPort (Obj.rxOctets 0) p f.len (countPort (Obj.rxFrames 0) p 1 s)
    else countPort (Obj.rxFcsErrors 0) p 1 (countPort (Obj.rxOctets 0) p f.len (countPort (Obj.rxFrames 0) p 1 s))) =
    rxCounted p f s from rfl]
  simp only [rxCounted_blocked, hb, hr, hkind, rxCounted_vlanIn, hv, Bool.or_self, Bool.not_true, Bool.false_eq_true, if_false]

/-- PORT_FRAME_RX: runts and frames too long. -/
theorem portFrameRx_refuses (f : EthFrame) (hup : u.up = true) :
    (f.len < 64 → Answers (.portFrameRx p f) s fun t =>
      CountsUp (Obj.rxRunts p) s t ∧ OnlyMoves [Obj.rxRunts p] s t ∧ t.net = s.net) ∧
    (1522 < f.len → Answers (.portFrameRx p f) s fun t =>
      CountsUp (Obj.rxTooLong p) s t ∧ OnlyMoves [Obj.rxTooLong p] s t ∧ t.net = s.net) := by
  have he : exec (.portFrameRx p f) s = execPortFrameRx p f s := rfl
  rw [execPortFrameRx, answerLive_live hl] at he
  simp only [port_eq hu, hup, List.contains_iff_mem.2 hp, Bool.and_self, Bool.not_true, Bool.false_eq_true, if_false] at he
  refine ⟨fun h => ?_, fun h => ?_⟩
  · rw [if_pos h] at he
    exact answers_answer _ he (put_variant ..) (put_pending ..)
      ⟨countPort_counts 0x120406 1 s, onlyMoves_countPort 0x120406 1 s, countPort_net ..⟩
  · rw [if_neg (by omega), if_pos h] at he
    exact answers_answer _ he (put_variant ..) (put_pending ..)
      ⟨countPort_counts 0x120407 1 s, onlyMoves_countPort 0x120407 1 s, countPort_net ..⟩

/-- PORT_FRAME_RX: a frame for the device. -/
theorem portFrameRx_own (f : EthFrame) (hup : u.up = true) (hmin : 64 ≤ f.len) (hmax : f.len ≤ 1522)
    (hb : s.blocked p = false) (hk : f.kind ≠ .pause) (hv : s.vlanIn p f = true) (hd : f.dst = Config.mac)
    (hr : isReserved f.dst = false) : Answers (.portFrameRx p f) s fun t =>
        CountsUp (Obj.rxFrames p) s t ∧ t.get (Obj.rxOctets p) = fitTo (Obj.rxOctets p) (s.get (Obj.rxOctets p) + f.len) ∧
        (f.fcsOk = false → CountsUp (Obj.rxFcsErrors p) s t ∧ t.net = s.net) ∧
        (f.fcsOk = true → OnlyMoves [Obj.rxFrames p, Obj.rxOctets p] s t ∧
          (f.src / 2 ^ 40 % 2 = 0 → (s.net.learned.any fun e => e.mac == f.src) = false → s.net.learned.length < 512 →
            t.net.learned = s.net.learned ++ [⟨f.src, p.val, s.now⟩])) := by
  have he := exec_portFrameRx hl hu hp hup hmin hmax hb hk hr hv
  have hother (w : State) : w.toOther p f = false := by rw [State.toOther, if_pos hd]
  dsimp only at he
  rw [hother, Bool.false_and, if_neg Bool.false_ne_true] at he
  cases hfcs : f.fcsOk
  case false =>
    rw [hfcs, if_neg Bool.false_ne_true] at he
    exact answers_answer _ he rxCounted_moves.variant rxCounted_moves.pending
      ⟨rxCounted_frames, rxCounted_octets, fun _ => ⟨rxCounted_fcs hfcs, rxCounted_net⟩, nofun⟩
  case true =>
    rw [hfcs, if_pos rfl] at he
    have hm : Moves (caps [.objs, .net]) s (learn f.src p (rxCounted p f s)) :=
      learn_moves (of_ite (P := fun t : State => Moves (caps [.objs, .net]) s t) (countPort_moves (countPort_moves (.refl s)))
        (countPort_moves (countPort_moves (countPort_moves (.refl s)))))
    have hget (k : Nat) : (learn f.src p (rxCounted p f s)).get k = (rxCounted p f s).get k := learn_get ..
    refine answers_answer _ he hm.variant hm.pending ⟨(hget _).trans rxCounted_frames, (hget _).trans rxCounted_octets, nofun,
      fun _ => ⟨fun k hkm => ?_, fun hsrc hnew hroom => ?_⟩⟩
    · simp only [List.mem_cons, List.not_mem_nil, or_false, not_or] at hkm
      exact (hget k).trans (rxCounted_good hfcs hkm.1 hkm.2)
    · have hnow : (rxCounted p f s).now = s.now := rxCounted_moves.now
      rw [learn, if_neg (by omega)]
      simp only [State.onNet, rxCounted_net, hnew, hroom, hnow, Bool.false_eq_true, if_false, if_true]

/-- PORT_FRAME_RX: a group frame for the other port. -/
theorem portFrameRx_group (f : EthFrame) (v : PortUnit) (hup : u.up = true) (hmin : 64 ≤ f.len) (hmax : f.len ≤ 1522)
    (hfcs : f.fcsOk = true) (hb : s.blocked p = false) (hk : f.kind ≠ .pause) (hvlan : s.flag Obj.vlanFiltering = false)
    (hgroup : f.dst / 2 ^ 40 % 2 = 1) (hr : isReserved f.dst = false) (hd : f.dst ≠ Config.mac)
    (ho : (1 - p.val) ∈ s.portList) (hbusy : Busy (1 - p.val) v s) (hfree : 6 ≤ s.transitFree) :
    Answers (.portFrameRx p f) s fun t => Queued (1 - p.val) v
      ⟨f, some p.val, s.now, cellsOf f.len, queueOf ((f.tag.map (·.1)).getD (s.get (Obj.defaultPcp p))), false, none⟩ t := by
  have hv : s.vlanIn p f = true := by rw [State.vlanIn, hvlan]; rfl
  have he := exec_portFrameRx hl hu hp hup hmin hmax hb hk hr hv
  have hbase : Moves (caps [.objs, .net]) s (learn f.src p (rxCounted p f s)) :=
    learn_moves (of_ite (P := fun t : State => Moves (caps [.objs, .net]) s t) (countPort_moves (countPort_moves (.refl s)))
      (countPort_moves (countPort_moves (countPort_moves (.refl s)))))
  have hlow (k : Nat) (hk : k < 0x120400 ∨ 0x120600 ≤ k) : (learn f.src p (rxCounted p f s)).get k = s.get k :=
    (learn_get ..).trans (rxCounted_low hk)
  have hnet : (learn f.src p (rxCounted p f s)).net.ports = s.net.ports ∧
      (learn f.src p (rxCounted p f s)).net.niWait = s.net.niWait := by
    have hcounted : (rxCounted p f s).net.ports = s.net.ports ∧ (rxCounted p f s).net.niWait = s.net.niWait := by
      rw [rxCounted_net]; exact ⟨rfl, rfl⟩
    refine of_ite (P := fun t : State => t.net.ports = s.net.ports ∧ t.net.niWait = s.net.niWait) hcounted ?_
    exact of_ite (P := fun n : Net => n.ports = s.net.ports ∧ n.niWait = s.net.niWait) hcounted
      (of_ite (P := fun n : Net => n.ports = s.net.ports ∧ n.niWait = s.net.niWait) hcounted hcounted)
  obtain ⟨hports, hwait⟩ := hnet
  dsimp only at he
  rw [hfcs, if_pos rfl] at he
  generalize learn f.src p (rxCounted p f s) = w at *
  have hflag : w.flag Obj.vlanFiltering = false := by rw [State.flag, hlow _ (by decide)]; exact hvlan
  have hto : (w.toOther p f && w.vlanOut p (1 - p) f) = true := by
    rw [State.toOther, if_neg hd, if_pos hgroup, hr, State.vlanOut, hflag]; rfl
  have hfree' : w.transitFree = s.transitFree := by
    simp only [State.transitFree, State.bufferFree, State.queueReserve, State.niCells, hports, hwait]
  have hlist : w.portList = s.portList := by rw [State.portList, State.portList, hbase.variant]
  have hpcp : w.get (Obj.defaultPcp p) = s.get (Obj.defaultPcp p) := by
    have := p.isLt
    exact hlow _ (by simp only [Obj.defaultPcp]; omega)
  have hbusy' : Busy (1 - p.val) v w := hbusy.of_same hports hbase.now fun k hk => hlow k (by
    have := p.isLt
    obtain rfl | rfl | rfl := hk <;> simp only [Obj.portStatus, Obj.blockedPort, Obj.frameMaxAge] <;> omega)
  have htag : w.tagFor p (1 - p.val) f = f := by rw [State.tagFor, hflag]; rfl
  have htransit : transit p f w = enqueue (1 - p.val) ⟨f, some p.val, s.now, cellsOf f.len,
      queueOf ((f.tag.map (·.1)).getD (s.get (Obj.defaultPcp p))), false, none⟩ w := by
    rw [transit]
    simp only [hlist, List.contains_iff_mem.2 ho, hbusy'.heard, hfree', Nat.not_lt.2 hfree, hfcs, htag, hpcp, hbase.now,
      Bool.not_true, Bool.false_and, Bool.false_eq_true, if_false]
  rw [hto, if_pos rfl, htransit] at he
  have hm := enqueue_moves (p := 1 - p.val) (f := ⟨f, some p.val, s.now, cellsOf f.len,
      queueOf ((f.tag.map (·.1)).getD (s.get (Obj.defaultPcp p))), false, none⟩) hbase
  exact answers_answer _ he hm.variant hm.pending
    (enqueue_queued (by omega) hbusy' (aged_now hbase.now.symm))

end

end Sys2Proof.Machine
end

section
/-! Frames sent and aged -/
namespace Sys2Proof.Machine
open Sys2Proof Sys2Proof.Config

section
variable {s : State} {u : PortUnit}

set_option Elab.async false in
theorem served_shows : (u.served s).sending = (u.fresh s.dropAged).sends.sending ∧
    (u.served s).queues = (u.fresh s.dropAged).sends.queues ∧ (u.served s).wakeAt = (u.fresh s.dropAged).sends.wakeAt :=
  of_ite (P := fun v : PortUnit => v.sending = (u.fresh s.dropAged).sends.sending ∧
    v.queues = (u.fresh s.dropAged).sends.queues ∧ v.wakeAt = (u.fresh s.dropAged).sends.wakeAt) ⟨rfl, rfl, rfl⟩ ⟨rfl, rfl, rfl⟩

theorem popHighest_empty {qs : List (List NetFrame)} (h : ∀ q ∈ qs, q = []) : popHighest qs = none := by
  induction qs with
  | nil => rfl
  | cons q qs ih =>
    have hq : q = [] := h q (by simp)
    subst hq
    simp only [popHighest, ih fun r hr => h r (by simp [hr])]

/-- A port that has nothing waiting sends nothing. -/
theorem served_empty (hsend : u.sending = none) (h : ∀ q ∈ u.queues, q = []) :
    (u.served s).sending = none ∧ (u.served s).queues = u.queues := by
  have hmap : u.queues.map s.dropAged = u.queues := by
    exact (List.map_congr_left fun q hq => by rw [h q hq]; rfl).trans (List.map_id _)
  have hfresh : u.fresh s.dropAged = u := by unfold PortUnit.fresh; rw [hmap]
  have hsends : u.sends = u := by
    unfold PortUnit.sends
    rw [popHighest_empty h]
    exact of_ite (P := fun v : PortUnit => v = u) rfl rfl
  obtain ⟨h1, h2, -⟩ := served_shows (s := s) (u := u)
  rw [hfresh, hsends] at h1 h2
  exact ⟨h1.trans hsend, h2⟩

/-- A free port that has a frame waiting sends it. -/
theorem served_pops (hup : u.up = true) (hsend : u.sending = none) (hwake : u.wakeAt = none) {g : NetFrame}
    {qs : List (List NetFrame)} (h : popHighest (u.queues.map s.dropAged) = some (g, qs)) :
    (u.served s).sending = some g ∧ (u.served s).queues = qs ∧ (u.served s).wakeAt = none := by
  have hsends : (u.fresh s.dropAged).sends = { u.fresh s.dropAged with queues := qs, sending := some g } := by
    have hfree : ((u.fresh s.dropAged).up && (u.fresh s.dropAged).sending.isNone && (u.fresh s.dropAged).wakeAt.isNone) =
        true := by
      show (u.up && u.sending.isNone && u.wakeAt.isNone) = true
      rw [hup, hsend, hwake]; rfl
    unfold PortUnit.sends
    rw [hfree, if_pos rfl, show popHighest (u.fresh s.dropAged).queues = some (g, qs) from h]
  obtain ⟨h1, h2, h3⟩ := served_shows (s := s) (u := u)
  rw [hsends] at h1 h2 h3
  exact ⟨h1, h2, h3.trans hwake⟩

/-- A port that is sending loses its aged heads alone. -/
theorem served_busy (hsend : u.sending.isSome = true) : u.served s = u.fresh s.dropAged := by
  have hnone : (u.fresh s.dropAged).sending.isNone = false := by
    show u.sending.isNone = false
    cases h : u.sending
    · rw [h] at hsend; exact absurd hsend (by decide)
    · rfl
  have hsends : (u.fresh s.dropAged).sends = u.fresh s.dropAged := by
    unfold PortUnit.sends
    rw [hnone, Bool.and_false, Bool.false_and, if_neg Bool.false_ne_true]
  unfold PortUnit.served
  rw [hsends]
  exact if_neg (by omega)

end

/-! A frame that has left. -/

/-- The frame that has left is counted. -/
def txCounted (p : Nat) (f : NetFrame) (s : State) : State :=
  let v := countPort (Obj.txOctets 0) p f.frame.len (countPort (Obj.txFrames 0) p 1 s)
  if f.stomp then countPort (Obj.txStomped 0) p 1 v else v

section
variable {s : State} {p : Fin 2} {f : NetFrame}

theorem txCounted_net : (txCounted p f s).net = s.net :=
  of_ite (P := fun t : State => t.net = s.net) ((countPort_net ..).trans ((countPort_net ..).trans (countPort_net ..)))
    ((countPort_net ..).trans (countPort_net ..))

theorem txCounted_moves : Moves (caps [.objs]) s (txCounted p f s) :=
  of_ite (P := fun t : State => Moves (caps [.objs]) s t) (countPort_moves (countPort_moves (countPort_moves (.refl s))))
    (countPort_moves (countPort_moves (.refl s)))

theorem txCounted_low {k : Nat} (hk : k < 0x120400 ∨ 0x120600 ≤ k) : (txCounted p f s).get k = s.get k := by
  have := p.isLt
  have h1 : k ≠ Obj.txFrames 0 + 256 * p := by simp only [Obj.txFrames]; omega
  have h2 : k ≠ Obj.txOctets 0 + 256 * p := by simp only [Obj.txOctets]; omega
  have h3 : k ≠ Obj.txStomped 0 + 256 * p := by simp only [Obj.txStomped]; omega
  exact of_ite (P := fun t : State => t.get k = s.get k)
    ((countPort_get h3 _).trans ((countPort_get h2 _).trans (countPort_get h1 _)))
    ((countPort_get h2 _).trans (countPort_get h1 _))

theorem txCounted_counts : CountsUp (Obj.txFrames p) s (txCounted p f s) ∧
    (txCounted p f s).get (Obj.txOctets p) = fitTo (Obj.txOctets p) (s.get (Obj.txOctets p) + f.frame.len) ∧
    (f.stomp = true → CountsUp (Obj.txStomped p) s (txCounted p f s)) := by
  have hframes : (countPort (Obj.txOctets 0) p f.frame.len (countPort (Obj.txFrames 0) p 1 s)).get (Obj.txFrames p) =
      fitTo (Obj.txFrames p) (s.get (Obj.txFrames p) + 1) :=
    (countPort_get (obj_ne _ _ _ (by decide)) _).trans (countPort_counts 0x120402 1 s)
  have hoctets : (countPort (Obj.txOctets 0) p f.frame.len (countPort (Obj.txFrames 0) p 1 s)).get (Obj.txOctets p) =
      fitTo (Obj.txOctets p) (s.get (Obj.txOctets p) + f.frame.len) := by
    refine (countPort_counts 0x120404 f.frame.len _).trans ?_
    rw [countPort_get (obj_ne _ _ _ (by decide))]
  refine ⟨?_, ?_, fun hst => ?_⟩
  · exact of_ite (P := fun t : State => t.get (Obj.txFrames p) = _) ((countPort_get (obj_ne _ _ _ (by decide)) _).trans hframes)
      hframes
  · exact of_ite (P := fun t : State => t.get (Obj.txOctets p) = _) ((countPort_get (obj_ne _ _ _ (by decide)) _).trans hoctets)
      hoctets
  · unfold txCounted
    rw [hst, if_pos rfl]
    refine (countPort_counts 0x12040C 1 _).trans ?_
    rw [countPort_get (obj_ne _ _ _ (by decide)), countPort_get (obj_ne _ _ _ (by decide))]

end

section
variable {s : State} {p : Fin 2} {u : PortUnit} (hl : s.live = true) (hu : s.net.ports[p.val]? = some u)
include hl hu

/-- The port whose frame has left. -/
def sentOff (p : Nat) (f : NetFrame) (s : State) : State :=
  let v := txCounted p f (s.onPort p fun u => { u with sending := none })
  if (v.port p).cells = 0 then v.onPort p fun u => { u with emptySince := v.now } else v

omit hl in
theorem sentOff_shows (f : NetFrame) : Moves (caps [.objs, .net]) s (sentOff p f s) ∧
    (∀ k, (sentOff p f s).get k = (txCounted p f (s.onPort p fun u => { u with sending := none })).get k) ∧
    ∃ n, (sentOff p f s).net.ports = s.net.ports.set p { u with sending := none, emptySince := n } := by
  have hm : Moves (caps [.objs, .net]) s (txCounted p f (s.onPort p fun u => { u with sending := none })) :=
    of_ite (P := fun t : State => Moves (caps [.objs, .net]) s t)
      (countPort_moves (countPort_moves (countPort_moves (onPort_moves (.refl s)))))
      (countPort_moves (countPort_moves (onPort_moves (.refl s))))
  have hports : (txCounted p f (s.onPort p fun u => { u with sending := none })).net.ports =
      s.net.ports.set p { u with sending := none } := by
    rw [txCounted_net, onPort_ports, modify_eq_set _ hu]
  have hunit : (txCounted p f (s.onPort p fun u => { u with sending := none })).net.ports[p.val]? =
      some { u with sending := none } := by rw [hports]; exact set_unit _ hu
  refine ⟨of_ite (P := fun t : State => Moves (caps [.objs, .net]) s t) (onPort_moves hm) hm,
    fun k => of_ite (P := fun t : State => t.get k = _) rfl rfl, ?_⟩
  refine of_ite (P := fun t : State => ∃ n, t.net.ports = s.net.ports.set p { u with sending := none, emptySince := n })
    ⟨s.now, ?_⟩ ⟨u.emptySince, hports⟩
  rw [onPort_ports, modify_eq_set _ hunit, hports, List.set_set, hm.now]

/-- EGRESS_FRAME_END. -/
theorem egressFrameEnd_answers (f : NetFrame) (hf : u.sending = some f) : Answers (.egressFrameEnd p) s fun t =>
      CountsUp (Obj.txFrames p) s t ∧
      t.get (Obj.txOctets p) = fitTo (Obj.txOctets p) (s.get (Obj.txOctets p) + f.frame.len) ∧
      (f.stomp = true → CountsUp (Obj.txStomped p) s t) ∧
      ∃ y, t.net.ports[p.val]? = some y ∧
        ((∀ q, q ∈ u.queues → q = []) → y.sending = none ∧ y.queues = u.queues) ∧
        (∀ g qs, u.up = true → u.wakeAt = none → popHighest (u.queues.map s.dropAged) = some (g, qs) →
          y.sending = some g ∧ y.queues = qs) := by
  have he : exec (.egressFrameEnd p) s = s.answer (serve p (moveFill (6 + p) (sentOff p f s))) := by
    show execEgressFrameEnd p s = _
    rw [execEgressFrameEnd, answerLive_live hl, port_eq hu, hf]
    rfl
  obtain ⟨hm, hget, n, hports⟩ := sentOff_shows hu f
  have hp := p.isLt
  have hports' : (moveFill (6 + p) (sentOff p f s)).net.ports = s.net.ports.set p { u with sending := none, emptySince := n } := by
    rw [moveFill_ports, hports]
  have hunit : (moveFill (6 + p) (sentOff p f s)).net.ports[p.val]? = some { u with sending := none, emptySince := n } := by
    rw [hports']; exact set_unit _ hu
  have hdrop : (moveFill (6 + p) (sentOff p f s)).dropAged = s.dropAged := by
    funext q
    unfold State.dropAged
    rw [aged_congr (s := s) ?_ (moveFill_moves hm).now]
    rw [moveFill_get _ _ (by omega) _ frameMaxAge_key.1, hget]
    exact txCounted_low (by decide)
  obtain ⟨hframes, hoctets, hstomp⟩ := txCounted_counts (p := p) (f := f) (s := s.onPort p fun u => { u with sending := none })
  have hkeep (k0 : Nat) (hk : k0 ∈ portCounters) (hne : k0 ≠ 0x12040B) :
      (serve p (moveFill (6 + p) (sentOff p f s))).get (k0 + 256 * p.val) =
      (txCounted p f (s.onPort p fun u => { u with sending := none })).get (k0 + 256 * p.val) := by
    rw [serve_get hp (obj_ne _ _ _ hne) (portCounter_quiet p k0 hk), moveFill_get _ _ (by omega) _ (portCounter_quiet p k0 hk),
      hget]
  have hall := serve_moves (p := p) (moveFill_moves (q := 6 + p.val) hm)
  refine answers_answer _ he hall.variant hall.pending ⟨(hkeep 0x120402 (by decide) (by decide)).trans hframes,
    (hkeep 0x120404 (by decide) (by decide)).trans hoctets, fun h => (hkeep 0x12040C (by decide) (by decide)).trans (hstomp h),
    PortUnit.served (moveFill (6 + p) (sentOff p f s)) { u with sending := none, emptySince := n }, ?_, fun h => ?_,
    fun g qs hup hwake hpop => ?_⟩
  · rw [serve_ports hunit, hports', List.set_set]
    exact set_unit _ hu
  · exact served_empty rfl h
  · rw [← hdrop] at hpop
    obtain ⟨h1, h2, -⟩ := served_pops (s := moveFill (6 + p) (sentOff p f s)) (u := { u with sending := none, emptySince := n })
      hup rfl hwake hpop
    exact ⟨h1, h2⟩

/-- FRAME_AGE_DISCARD on a port that is sending. -/
theorem frameAgeDiscard_answers (hsend : u.sending.isSome = true) (hlink : s.host.linkEgress = [])
    (haged : ∃ q ∈ u.queues, ∃ f, q.head? = some f ∧ s.aged f = true) : Answers (.frameAgeDiscard p) s fun t =>
        OneMoves p.val { u with queues := u.queues.map s.dropAged } s.net.ports t.net.ports ∧
        t.get (Obj.discardAge p) = fitTo (Obj.discardAge p) (s.get (Obj.discardAge p) +
          (u.queues.flatten.length - (u.queues.map s.dropAged).flatten.length)) := by
  have hageLink : ageLink s = s := by
    unfold ageLink
    simp only [hlink, List.filter_nil, List.length_nil, Nat.sub_self, if_true]
  have hany : (u.queues.any fun q => (q.head?.map s.aged).getD false) = true := by
    obtain ⟨q, hq, f, hf, hfa⟩ := haged
    exact List.any_eq_true.2 ⟨q, hq, by rw [hf]; exact hfa⟩
  have he : exec (.frameAgeDiscard p) s = s.answer (serve p s) := by
    show execFrameAgeDiscard p s = _
    rw [execFrameAgeDiscard, answerLive_live hl]
    simp only [hageLink, port_eq hu, hany, if_true]
  have hm : Moves (caps [.objs, .net]) s (serve p s) := serve_moves (.refl s)
  refine answers_answer _ he hm.variant hm.pending ⟨?_, ?_⟩
  · rw [serve_ports hu, served_busy hsend]
    exact oneMoves_set _ hu
  · have hdropped : u.queues.flatten.length - (u.queues.map s.dropAged).flatten.length ≠ 0 := by
      intro h0
      obtain ⟨q, hq, f, hf, hfa⟩ := haged
      have hsame : u.queues.map s.dropAged = u.queues := map_dropWhile_eq _ _ h0
      have hself : s.dropAged q = q := by
        obtain ⟨j, hj⟩ := List.mem_iff_getElem?.1 hq
        have hj' : (u.queues.map s.dropAged)[j]? = some (s.dropAged q) := by rw [List.getElem?_map, hj]; rfl
        rw [hsame, hj] at hj'
        exact (Option.some.inj hj').symm
      cases q with
      | nil => exact absurd hf (by simp)
      | cons g r =>
        obtain rfl : g = f := by simpa using hf
        have hlen := congrArg List.length hself
        rw [State.dropAged, List.dropWhile_cons_of_pos hfa] at hlen
        have := (List.dropWhile_suffix s.aged (l := r)).length_le
        simp only [List.length_cons] at hlen
        omega
    have hage : (serve p s).get (Obj.discardAge p) = (ageHeads p s).get (Obj.discardAge p) := by
      rw [serve_eq, moveFill_get _ _ (by omega) _ (portCounter_quiet p 0x12040B), ← sendHead_get (s := ageHeads p s)]
      exact of_ite (P := fun t : State => t.get (Obj.discardAge p) = (sendHead p (ageHeads p s)).get (Obj.discardAge p)) rfl rfl
    rw [hage]
    unfold ageHeads
    simp only [port_eq hu]
    rw [if_neg hdropped]
    exact countPort_counts 0x12040B _ (s.onPort p _)

end

end Sys2Proof.Machine
end

section
/-! Frames of the device, and lost links -/
namespace Sys2Proof.Machine
open Sys2Proof Sys2Proof.Config

/-! Links. -/

set_option Elab.async false in
theorem settleClock_table (s : State) : (settleClock s).net.ports = s.net.ports ∧ (settleClock s).net.learned = s.net.learned := by
  have hshown : (clockShown s).net.ports = s.net.ports ∧ (clockShown s).net.learned = s.net.learned := by
    rw [clockShown, put_net]; exact ⟨rfl, rfl⟩
  refine settleClock_ends (P := fun t => t.net.ports = s.net.ports ∧ t.net.learned = s.net.learned) hshown (fun v => ?_) hshown ?_
  · show (State.net ((clockShown s).put _ _)).ports = _ ∧ (State.net ((clockShown s).put _ _)).learned = _
    rw [put_net]; exact hshown
  · rw [put_net]; exact hshown

/-- The unit of a port whose link is down. -/
def PortUnit.down (now : Nat) (u : PortUnit) : PortUnit :=
  { u with up := false, queues := [[], [], [], []], sending := none, wakeAt := none, emptySince := now }

/-- The port's link shows down. -/
def portDown (p : Nat) (s : State) : State :=
  (s.onPort p (PortUnit.down s.now)).put (Obj.portStatus p)
    ((s.onPort p (PortUnit.down s.now)).get (Obj.portStatus p) &&& 0x1C0)

section
variable {s : State} {p : Fin 2} {u : PortUnit} (hu : s.net.ports[p.val]? = some u)
include hu

theorem linkLost_eq (hup : u.up = true) : linkLost p s = settleClock (moveFill (6 + p) (flushLearning
    ((countPort (Obj.discardAge 0) p u.queues.flatten.length (countPort (Obj.linkDownCount 0) p 1 (portDown p s))).onNet
      fun n => { n with ptp := { n.ptp with masters := n.ptp.masters.set p none } }))) := by
  unfold linkLost
  simp only [port_eq hu, hup, Bool.not_true, Bool.false_eq_true, if_false]
  rfl

/-- What a lost link leaves of its port. -/
theorem linkLost_shows (hup : u.up = true) :
    (linkLost p s).net.ports = s.net.ports.set p (u.down s.now) ∧ (linkLost p s).net.learned = [] ∧
    (linkLost p s).get (Obj.portStatus p) = fitTo (Obj.portStatus p) (s.get (Obj.portStatus p) &&& 0x1C0) ∧
    CountsUp (Obj.linkDownCount p) s (linkLost p s) := by
  have hp := p.isLt
  have hget (k0 : Nat) (hk : k0 = 0x120105 ∨ k0 = 0x12040D) : (linkLost p s).get (k0 + 256 * p.val) =
      (countPort (Obj.linkDownCount 0) p 1 (portDown p s)).get (k0 + 256 * p.val) := by
    rw [linkLost_eq hu hup, settleClock_get, moveFill_get _ _ (by omega)]
    · exact countPort_get (by simp only [Obj.discardAge]; omega) _
    · obtain rfl | rfl := hk <;> exact portCounter_quiet p _
    · have hp := p.isLt
      simp only [clockKeys, Obj.ocPortState, Obj.parentPortIdentity, Obj.calState, List.mem_cons, List.not_mem_nil, or_false,
        not_or]
      omega
  have hdown : (portDown p s).net.ports = s.net.ports.set p (u.down s.now) := by
    rw [portDown, put_ports, onPort_ports, modify_eq_set _ hu]
  refine ⟨?_, ?_, ?_, ?_⟩
  · rw [linkLost_eq hu hup, (settleClock_table _).1, moveFill_ports]
    show (State.net (countPort _ _ _ _)).ports = _
    rw [countPort_net, countPort_net, hdown]
  · rw [linkLost_eq hu hup, (settleClock_table _).2, moveFill_net]
    rfl
  · refine (hget 0x120105 (.inl rfl)).trans ((countPort_get (obj_ne _ _ _ (by decide)) _).trans ?_)
    exact get_put_self _ _ _ (portCounter_plain p 0x120105)
  · refine (hget 0x12040D (.inr rfl)).trans ((countPort_counts 0x12040D 1 _).trans ?_)
    exact congrArg (fun n => fitTo (Obj.linkDownCount p) (n + 1)) (get_put_ne _ _ _ _ (obj_ne _ _ _ (by decide)))

end

/-! What serving a port leaves of the network. -/

section
variable {α : Type} {q : Net → α} (hq : ∀ (n : Net) (ps : List PortUnit), q { n with ports := ps } = q n)
include hq

theorem serve_rest (p : Nat) (s : State) : q (serve p s).net = q s.net := by
  have hport (f : PortUnit → PortUnit) (u : State) : q (u.onPort p f).net = q u.net := hq _ _
  have hage : q (ageHeads p s).net = q s.net :=
    of_ite (P := fun t : State => q t.net = q s.net) rfl (by rw [countPort_net]; exact hport _ s)
  have hsend (v : State) : q (sendHead p v).net = q v.net := by
    unfold sendHead
    refine of_ite (P := fun t : State => q t.net = q v.net) ?_ rfl
    cases popHighest (v.port p).queues with
    | none => rfl
    | some r => exact hport _ v
  rw [serve_eq, moveFill_net]
  exact of_ite (P := fun t : State => q t.net = q s.net) ((hport _ _).trans ((hsend _).trans hage)) ((hsend _).trans hage)

theorem enqueue_rest (p : Nat) (f : NetFrame) (s : State) : q (enqueue p f s).net = q s.net := by
  have hport (f : PortUnit → PortUnit) (u : State) : q (u.onPort p f).net = q u.net := hq _ _
  unfold enqueue
  refine of_ite (P := fun t : State => q t.net = q s.net) (by rw [countPort_net]) ?_
  refine of_ite (P := fun t : State => q t.net = q s.net) (by rw [countPort_net]) ?_
  dsimp only
  rw [serve_rest hq, moveFill_net]
  refine of_ite (P := fun t : State => q t.net = q s.net) ?_ (hport _ s)
  refine (hport _ _).trans ?_
  rw [setBit_eq, put_net]
  exact hport _ s

end

/-! Frames of the device. -/

section
variable {s : State} {p : Fin 2} {u : PortUnit} (hl : s.live = true)
include hl

/-- LEARN_AGEING. -/
theorem learnAgeing_answers (mac : Nat) : Answers (.learnAgeing mac) s fun t => t.objs = s.objs ∧
    t.net = { s.net with learned := s.net.learned.filter fun e =>
      !(e.mac == mac && decide (e.at_ + sec (s.get Obj.learnAgeing) ≤ s.now)) } := by
  refine answers_answer (s.onNet fun n => { n with learned := n.learned.filter fun e =>
    !(e.mac == mac && decide (e.at_ + sec (s.get Obj.learnAgeing) ≤ s.now)) }) ?_ rfl rfl ⟨rfl, rfl⟩
  show execLearnAgeing mac s = _
  rw [execLearnAgeing, answerLive_live hl]

omit hl in
theorem sendOwn_one {f : NetFrame} (h : s.niPorts f.frame.dst = [p.val]) : sendOwn f s = enqueue p f s := by
  rw [sendOwn, h]; rfl

/-- NI_FRAME_TX. -/
theorem niFrameTx_answers (f : NetFrame) (r : List NetFrame) (dst : Nat) (hw : s.net.niWait = f :: r)
    (hport : s.niPorts (if f.frame.dst = 0 then dst % 2 ^ 48 else f.frame.dst) = [p.val]) (hb : Busy p u s)
    (hf : s.aged f = false) : Answers (.niFrameTx dst) s fun t => t.net.niWait = r ∧
        Queued p u { f with frame :=
          { f.frame with dst := if f.frame.dst = 0 then dst % 2 ^ 48 else f.frame.dst } } t := by
  have he : exec (.niFrameTx dst) s = s.answer (enqueue p { f with frame :=
      { f.frame with dst := if f.frame.dst = 0 then dst % 2 ^ 48 else f.frame.dst } }
      (s.onNet fun n => { n with niWait := r })) := by
    show execNiFrameTx dst s = _
    rw [execNiFrameTx, answerLive_live hl, hw]
    exact congrArg s.answer (sendOwn_one (p := p) (s := s.onNet fun n => { n with niWait := r }) hport)
  have hm := enqueue_moves (p := p.val) (f := { f with frame :=
    { f.frame with dst := if f.frame.dst = 0 then dst % 2 ^ 48 else f.frame.dst } })
    (onNet_moves (f := fun n => { n with niWait := r }) (.refl s) : Moves (caps [.objs, .net]) s _)
  have hb' : Busy p u (s.onNet fun n => { n with niWait := r }) := hb.of_same rfl rfl fun _ _ => rfl
  exact answers_answer _ he hm.variant hm.pending ⟨enqueue_rest (q := Net.niWait) (fun _ _ => rfl) .., enqueue_queued p.isLt hb' hf⟩

omit hl in
/-- A frame of the device's own. -/
theorem ownFrame_queued {len : Nat} {mac : Nat} (hport : s.niPorts (mac % 2 ^ 48) = [p.val]) (hb : Busy p u s) {c : Instr}
    (he : exec c s = s.answer (sendOwn (s.ownFrame (mac % 2 ^ 48) len 2 1 .data none) s)) :
    Answers c s fun t => Queued p u (s.ownFrame (mac % 2 ^ 48) len 2 1 .data none) t := by
  rw [sendOwn_one (p := p) (by exact hport)] at he
  have hm : Moves (caps [.objs, .net]) s (enqueue p (s.ownFrame (mac % 2 ^ 48) len 2 1 .data none) s) :=
    enqueue_moves (.refl s)
  exact answers_answer _ he hm.variant hm.pending (enqueue_queued p.isLt hb (aged_now rfl))

theorem arpRequest_answers (r : Fin 2) (target sender : Nat) (hh : s.portHears r = true) (ht : target = s.ipObj Obj.ipAddress)
    (hr : niReady 64 s = true) (hport : s.niPorts (sender % 2 ^ 48) = [p.val]) (hb : Busy p u s) :
    Answers (.arpRequest r target sender) s fun t => Queued p u (s.ownFrame (sender % 2 ^ 48) 64 2 1 .data none) t := by
  refine ownFrame_queued hport hb ?_
  show execArpRequest r target sender s = _
  rw [execArpRequest, answerLive_live hl]
  simp only [hh, ← ht, hr, beq_self_eq_true, Bool.and_self, if_true]

theorem icmpEcho_answers (r : Fin 2) (target sender n : Nat) (hh : s.portHears r = true) (ht : target = s.ipObj Obj.ipAddress)
    (hn : n ≤ 1472) (hr : niReady (46 + n) s = true) (hport : s.niPorts (sender % 2 ^ 48) = [p.val]) (hb : Busy p u s) :
    Answers (.icmpEcho r target sender n) s fun t =>
      Queued p u (s.ownFrame (sender % 2 ^ 48) (46 + n) 2 1 .data none) t := by
  refine ownFrame_queued hport hb ?_
  show execIcmpEcho r target sender n s = _
  rw [execIcmpEcho, answerLive_live hl]
  simp only [hh, ← ht, decide_eq_true hn, hr, beq_self_eq_true, Bool.and_self, if_true]

end

end Sys2Proof.Machine
end

section
/-! Links of the ports -/
namespace Sys2Proof.Machine
open Sys2Proof Sys2Proof.Config

set_option Elab.async false in
theorem tryInserted_get {k : Nat} (h1 : k ≠ Obj.bypassState) (h2 : k ≠ Obj.insertCount) (h3 : k ≠ Obj.lastInsertTime)
    (s : State) : (tryInserted s).get k = s.get k :=
  of_ite (P := fun t : State => t.get k = s.get k)
    ((get_put_ne _ _ _ _ h3).trans ((get_put_ne _ _ _ _ h2).trans (get_put_ne _ _ _ s h1))) rfl

theorem tryInserted_ports (s : State) : (tryInserted s).net.ports = s.net.ports :=
  of_ite (P := fun t : State => t.net.ports = s.net.ports)
    ((put_ports ..).trans ((put_ports ..).trans (put_ports ..))) rfl

theorem portStatus_size : ∀ p : Fin 2, sizeOf (Obj.portStatus p) = 2 := by decide

theorem and_bit_eight (n : Nat) : n &&& 0x100 = (n.testBit 8).toNat * 2 ^ 8 := by
  have hpow (i : Nat) : Nat.testBit 0x100 i = decide (8 = i) := Nat.testBit_two_pow (n := 8) (m := i)
  refine Nat.eq_of_testBit_eq fun i => ?_
  rw [Nat.testBit_and, hpow]
  by_cases h : 8 = i
  · subst h
    cases n.testBit 8 <;> rfl
  · cases n.testBit 8
    · simp [h]
    · rw [show true.toNat * 2 ^ 8 = 0x100 from rfl, hpow]
      simp [h]

/-- The status word of a link that has come up. -/
theorem linkUp_bits (n : Nat) (a b c : Bool) :
    let w := (1 + 2 * bitVal a + 4 * bitVal b + 8 * bitVal c + (n &&& 0x100)) % 65536
    w.testBit 0 = true ∧ w.testBit 1 = a ∧ w.testBit 2 = b ∧ w.testBit 3 = c ∧ w.testBit 8 = n.testBit 8 := by
  have hand : n &&& 0x100 = (n.testBit 8).toNat * 2 ^ 8 := and_bit_eight n
  rw [hand]
  cases n.testBit 8 <;> cases a <;> cases b <;> cases c <;> decide

section
variable {s : State} {p : Fin 2} {u : PortUnit} (hl : s.live = true) (hu : s.net.ports[p.val]? = some u)
include hl

/-- LINK_UP without a common mode. -/
theorem linkUp_fails (hp : p.val ∈ s.portList) (eee mdix a b : Bool) (hphys : s.net.bypass.phys = true)
    (hcoils : s.net.bypass.coils = true) (hphy : s.phyOk = true) : Answers (.linkUp p false eee mdix a b) s fun t =>
        BitTo (Obj.portStatus p) 7 true s t ∧ OnlyMoves [Obj.portStatus p] s t ∧ t.net = s.net := by
  refine answers_answer (s.setBit (Obj.portStatus p) 7 true) ?_ (put_variant ..) (put_pending ..)
    ⟨bitTo_setBit _ _ _ _ (portStatus_plain p), onlyMoves_put _ _ s, put_net ..⟩
  show execLinkUp p false eee mdix a b s = _
  rw [execLinkUp, answerLive_live hl]
  simp only [List.contains_iff_mem.2 hp, hphys, hcoils, hphy, Bool.not_true, Bool.or_self, Bool.false_eq_true, if_false,
    Bool.not_false, if_true]

include hu

/-- LINK_UP. -/
theorem linkUp_answers (hp : p.val ∈ s.portList) (eee mdix a b : Bool) (hphys : s.net.bypass.phys = true)
    (hcoils : s.net.bypass.coils = true) (hphy : s.phyOk = true) : Answers (.linkUp p true eee mdix a b) s fun t =>
        t.bit (Obj.portStatus p) 0 = true ∧ t.bit (Obj.portStatus p) 1 = u.an ∧ t.bit (Obj.portStatus p) 2 = mdix ∧
        t.bit (Obj.portStatus p) 3 = (u.an && s.flag (Obj.eeeEnable p) && eee) ∧
        t.bit (Obj.portStatus p) 8 = s.bit (Obj.portStatus p) 8 ∧
        OneMoves p.val { u with up := true, emptySince := s.now } s.net.ports t.net.ports := by
  have he : exec (.linkUp p true eee mdix a b) s = s.answer (tryInserted (settleClock (((s.put (Obj.portStatus p)
      (1 + 2 * bitVal u.an + 4 * bitVal mdix + 8 * bitVal (u.an && s.flag (Obj.eeeEnable p) && eee)
        + (s.get (Obj.portStatus p) &&& 0x100))).onPort p fun u => { u with up := true, emptySince := s.now }).onBypass
      fun y => { y with rbA := a, rbB := b }))) := by
    have hnow (k v : Nat) : (s.put k v).now = s.now := put_now ..
    show execLinkUp p true eee mdix a b s = _
    rw [execLinkUp, answerLive_live hl]
    simp only [List.contains_iff_mem.2 hp, hphys, hcoils, hphy, port_eq hu, Bool.not_true, Bool.or_self, Bool.false_eq_true,
      if_false, hnow]
  obtain ⟨h0, h1, h2, h3, h8⟩ :=
    linkUp_bits (s.get (Obj.portStatus p)) u.an mdix (u.an && s.flag (Obj.eeeEnable p) && eee)
  generalize hw : 1 + 2 * bitVal u.an + 4 * bitVal mdix + 8 * bitVal (u.an && s.flag (Obj.eeeEnable p) && eee)
    + (s.get (Obj.portStatus p) &&& 0x100) = w at *
  have hm : Moves (caps [.objs, .net]) s (tryInserted (settleClock (((s.put (Obj.portStatus p) w).onPort p fun u =>
      { u with up := true, emptySince := s.now }).onBypass fun y => { y with rbA := a, rbB := b }))) :=
    tryInserted_moves (settleClock_moves (onBypass_moves (onPort_moves (put_moves (.refl s)))))
  have hclock : ∀ q : Fin 2, Obj.portStatus q ∉ clockKeys ∧ Obj.portStatus q ≠ Obj.bypassState ∧
      Obj.portStatus q ≠ Obj.insertCount ∧ Obj.portStatus q ≠ Obj.lastInsertTime := by decide
  obtain ⟨hck, hk1, hk2, hk3⟩ := hclock p
  have hst : (tryInserted (settleClock (((s.put (Obj.portStatus p) w).onPort p fun u =>
      { u with up := true, emptySince := s.now }).onBypass fun y => { y with rbA := a, rbB := b }))).get (Obj.portStatus p) =
      w % 65536 := by
    rw [tryInserted_get hk1 hk2 hk3, settleClock_get hck]
    refine (get_put_self _ w s (portStatus_plain p)).trans ?_
    rw [fitTo, portStatus_size p]
    rfl
  refine answers_answer _ he hm.variant hm.pending ⟨?_, ?_, ?_, ?_, ?_, ?_⟩
  · rw [State.bit, hst]; exact h0
  · rw [State.bit, hst]; exact h1
  · rw [State.bit, hst]; exact h2
  · rw [State.bit, hst]; exact h3
  · rw [State.bit, State.bit, hst]; exact h8
  · rw [tryInserted_ports, (settleClock_table _).1]
    have hu' : (s.put (Obj.portStatus p) w).net.ports[p.val]? = some u := by rw [put_ports]; exact hu
    show OneMoves _ _ _ ((s.put (Obj.portStatus p) w).net.ports.modify p _)
    rw [modify_eq_set _ hu', put_ports]
    exact oneMoves_set _ hu

/-- LINK_DOWN. -/
theorem linkDown_answers (hup : u.up = true) : Answers (.linkDown p) s fun t =>
      CountsUp (Obj.linkDownCount p) s t ∧ t.net.learned = [] ∧
      t.get (Obj.portStatus p) = fitTo (Obj.portStatus p) (s.get (Obj.portStatus p) &&& 0x1C0) ∧
      OneMoves p.val ⟨false, u.an, [[], [], [], []], none, s.now, none⟩ s.net.ports t.net.ports := by
  have he : exec (.linkDown p) s = s.answer (linkLost p s) := by
    show execLinkDown p s = _
    rw [execLinkDown, answerLive_live hl]
  have hm : Moves (caps [.objs, .net]) s (linkLost p s) := linkLost_moves (.refl s)
  obtain ⟨hports, hlearned, hst, hcount⟩ := linkLost_shows hu hup
  exact answers_answer _ he hm.variant hm.pending ⟨hcount, hlearned, hst, by rw [hports]; exact oneMoves_set _ hu⟩

/-- LPI_ENTRY. -/
theorem lpiEntry_answers (hpow : s.get Obj.powerState = 2) (hup : u.up = true) (h3 : s.bit (Obj.portStatus p) 3 = true)
    (h4 : s.bit (Obj.portStatus p) 4 = false) (hc : u.cells = 0) (ht : u.emptySince + ms 1 ≤ s.now) :
    Answers (.lpiEntry p) s fun t =>
        BitTo (Obj.portStatus p) 4 true s t ∧ CountsUp (Obj.lpiTxEntries p) s t ∧
        OnlyMoves [Obj.portStatus p, Obj.lpiTxEntries p] s t := by
  have he : exec (.lpiEntry p) s = s.answer (countPort (Obj.lpiTxEntries 0) p 1 (s.setBit (Obj.portStatus p) 4 true)) := by
    show execLpiEntry p s = _
    rw [execLpiEntry, answerLive_live hl]
    simp only [port_eq hu, hpow, hup, h3, h4, hc, decide_eq_true ht, beq_self_eq_true, Bool.not_false, Bool.and_self, if_true]
  have hm : Moves (caps [.objs]) s (countPort (Obj.lpiTxEntries 0) p 1 (s.setBit (Obj.portStatus p) 4 true)) :=
    countPort_moves (put_moves (.refl s))
  refine answers_answer _ he hm.variant hm.pending ⟨?_, ?_, fun k hk => ?_⟩
  · exact (bitTo_setBit _ 4 true s (portStatus_plain p)).of_get (countPort_get (obj_ne _ _ _ (by decide)) _)
  · refine (countPort_counts 0x12040E 1 _).trans ?_
    exact congrArg (fun n => fitTo (Obj.lpiTxEntries p) (n + 1)) (get_put_ne _ _ _ s (obj_ne _ _ _ (by decide)))
  · simp only [List.mem_cons, List.not_mem_nil, or_false, not_or] at hk
    exact (countPort_get hk.2 _).trans (get_put_ne _ _ _ s hk.1)

/-- LPI_WAKE. -/
theorem lpiWake_answers (w : Nat) (g : NetFrame) (qs : List (List NetFrame)) (hw : u.wakeAt = some w) (ht : w ≤ s.now)
    (hup : u.up = true) (hsend : u.sending = none) (hpop : popHighest (u.queues.map s.dropAged) = some (g, qs)) :
    Answers (.lpiWake p) s fun t =>
        ∃ y, t.net.ports[p.val]? = some y ∧ y.wakeAt = none ∧ y.sending = some g ∧ y.queues = qs := by
  have he : exec (.lpiWake p) s = s.answer (serve p (s.onPort p fun u => { u with wakeAt := none })) := by
    show execLpiWake p s = _
    rw [execLpiWake, answerLive_live hl, port_eq hu, hw]
    simp only [Option.map_some, Option.getD_some, decide_eq_true ht, if_true]
  have hm : Moves (caps [.objs, .net]) s (serve p (s.onPort p fun u => { u with wakeAt := none })) :=
    serve_moves (onPort_moves (.refl s))
  have hu' : (s.onPort p fun u => { u with wakeAt := none }).net.ports[p.val]? = some { u with wakeAt := none } := by
    rw [onPort_ports, modify_eq_set _ hu]; exact set_unit _ hu
  obtain ⟨h1, h2, h3⟩ := served_pops (s := s.onPort p fun u => { u with wakeAt := none }) (u := { u with wakeAt := none })
    hup hsend rfl hpop
  refine answers_answer _ he hm.variant hm.pending ⟨_, ?_, h3, h1, h2⟩
  rw [serve_ports hu']
  exact set_unit _ hu'

/-- PARTNER_LPI. -/
theorem partnerLpi_answers (b : Bool) (hup : u.up = true) (h3 : s.bit (Obj.portStatus p) 3 = true) :
    Answers (.partnerLpi p b) s fun t =>
      BitTo (Obj.portStatus p) 5 b s t ∧ OnlyMoves [Obj.portStatus p] s t ∧ t.net = s.net := by
  refine answers_answer (s.setBit (Obj.portStatus p) 5 b) ?_ (put_variant ..) (put_pending ..)
    ⟨bitTo_setBit _ _ _ _ (portStatus_plain p), onlyMoves_put _ _ s, put_net ..⟩
  show execPartnerLpi p b s = _
  rw [execPartnerLpi, answerLive_live hl]
  simp only [port_eq hu, hup, h3, Bool.and_self, if_true]

end

/-- Settles O16: frames in, out and aged, the device's own frames, and the links. -/
theorem framesAndLinksOfThePorts : Obligations.FramesAndLinksOfThePorts := by
  refine ⟨fun s p u hl hu hp => ⟨?_, ?_, ?_, ?_, ?_, ?_, ?_⟩, fun s p u hl hu hp => ⟨?_, ?_, ?_, ?_, ?_, ?_, ?_, ?_, ?_⟩⟩
  · exact fun f hup => (portFrameRx_refuses hl hu hp f hup).1
  · exact fun f hup => (portFrameRx_refuses hl hu hp f hup).2
  · exact fun f hup hmin hmax hb hk hv hd hr => portFrameRx_own hl hu hp f hup hmin hmax hb hk hv hd hr
  · exact fun f v hup hmin hmax hfcs hb hk hvlan hgroup hr hd ho hbusy hfree =>
      portFrameRx_group hl hu hp f v hup hmin hmax hfcs hb hk hvlan hgroup hr hd ho hbusy hfree
  · exact egressFrameEnd_answers hl hu
  · exact frameAgeDiscard_answers hl hu
  · exact learnAgeing_answers hl
  · exact fun f r dst hw hport hb hf => niFrameTx_answers hl f r dst hw hport hb hf
  · exact fun r target sender hh ht hr hport hb => arpRequest_answers hl r target sender hh ht hr hport hb
  · exact fun r target sender n hh ht hn hr hport hb => icmpEcho_answers hl r target sender n hh ht hn hr hport hb
  · exact fun eee mdix a b => linkUp_fails hl hp eee mdix a b
  · exact fun eee mdix a b => linkUp_answers hl hu hp eee mdix a b
  · exact linkDown_answers hl hu
  · exact lpiEntry_answers hl hu
  · exact lpiWake_answers hl hu
  · exact partnerLpi_answers hl hu

end Sys2Proof.Machine
end

section
/-! The transparent clock and the masters -/
namespace Sys2Proof.Machine
open Sys2Proof Sys2Proof.Config

/-! The transparent clock. -/

section
variable {s : State} (hl : s.live = true) {p : Fin 2} {f : EthFrame} {udp : Bool} {d seq port : Nat}
  (ht : s.tcServes udp d = true)
include hl ht

set_option Elab.async false in
/-- TC_EVENT_FORWARD that leaves an entry. -/
theorem tcEventForward_adds (residence : Nat) (isSync : Bool) (hroom : (s.net.tc.filter fun e => e.toNb == (p.val == 0)).length < 32)
    (hf : f.kind = .ptp udp d (if isSync then .sync true else .delayReq) seq port) :
    Answers (.tcEventForward p f residence) s fun t => t.objs = s.objs ∧
      t.net = { s.net with tc := s.net.tc ++ [⟨p.val == 0, isSync, seq, port, residence, s.now⟩] } := by
  refine answers_answer (s.onNet fun n => { n with tc := n.tc ++ [⟨p.val == 0, isSync, seq, port, residence, s.now⟩] }) ?_
    rfl rfl ⟨rfl, rfl⟩
  show execTcEventForward p f residence s = _
  rw [execTcEventForward, answerLive_live hl, hf]
  cases isSync <;> simp only [Bool.false_eq_true, if_true, if_false, ht, Bool.not_true, hroom]

/-- TC_EVENT_FORWARD of a one-step Sync. -/
theorem tcEventForward_counts (residence : Nat) (hf : f.kind = .ptp udp d (.sync false) seq port) :
    Answers (.tcEventForward p f residence) s fun t =>
      CountsUp Obj.tcUncorrected s t ∧ OnlyMoves [Obj.tcUncorrected] s t ∧ t.net = s.net := by
  refine answers_answer (s.inc Obj.tcUncorrected) ?_ (put_variant ..) (put_pending ..)
    ⟨get_put_self _ _ s rfl, onlyMoves_put _ _ s, put_net ..⟩
  show execTcEventForward p f residence s = _
  rw [execTcEventForward, answerLive_live hl, hf]
  simp only [ht, Bool.not_true, Bool.false_eq_true, if_false]

/-- TC_CORRECTION of a Follow_Up. -/
theorem tcCorrection_answers (hf : f.kind = .ptp udp d .followUp seq port) :
    let hit := fun e : TcEntry => e.isSync == true && e.toNb == (p.val == 0) && e.seq == seq && e.port == port
    (s.net.tc.any hit = true → Answers (.tcCorrection p f) s fun t => CountsUp Obj.tcCorrected s t ∧
        OnlyMoves [Obj.tcCorrected] s t ∧ t.net = { s.net with tc := s.net.tc.filter fun e => !hit e }) ∧
    (s.net.tc.any hit = false → Answers (.tcCorrection p f) s fun t => CountsUp Obj.tcUncorrected s t ∧
        OnlyMoves [Obj.tcUncorrected] s t ∧ t.net = s.net) := by
  intro hit
  have he : exec (.tcCorrection p f) s = s.answer (if s.net.tc.any hit then
      (s.inc Obj.tcCorrected).onNet fun n => { n with tc := n.tc.filter fun e => !hit e } else s.inc Obj.tcUncorrected) := by
    show execTcCorrection p f s = _
    rw [execTcCorrection, answerLive_live hl, hf]
    simp only [ht, Bool.not_true, Bool.false_eq_true, if_false]
    rfl
  refine ⟨fun h => ?_, fun h => ?_⟩
  · rw [h, if_pos rfl] at he
    have hnet (g : Net → Net) : ((s.inc Obj.tcCorrected).onNet g).net = g s.net := by
      show g (State.net _) = _
      rw [inc_eq, put_net]
    refine answers_answer _ he (put_variant ..) (put_pending ..) ⟨get_put_self _ _ s rfl, onlyMoves_put _ _ s, ?_⟩
    exact hnet _
  · rw [h, if_neg Bool.false_ne_true] at he
    exact answers_answer _ he (put_variant ..) (put_pending ..) ⟨get_put_self _ _ s rfl, onlyMoves_put _ _ s, put_net ..⟩

end

/-- TC_ENTRY_EXPIRY. -/
theorem tcEntryExpiry_answers {s : State} (hl : s.live = true) : Answers .tcEntryExpiry s fun t => t.objs = s.objs ∧
    t.net = { s.net with tc := s.net.tc.filter fun e => decide (s.now < e.at_ + sec 1) } := by
  refine answers_answer (s.onNet fun n => { n with tc := n.tc.filter fun e => decide (s.now < e.at_ + sec 1) }) ?_ rfl rfl
    ⟨rfl, rfl⟩
  show execTcEntryExpiry s = _
  rw [execTcEntryExpiry, answerLive_live hl]

/-! The state of the ordinary clock. -/

/-- Two states whose ordinary clock sees the same masters. -/
structure SameMasters (s t : State) : Prop where
  variant : t.variant = s.variant
  ports : t.net.ports = s.net.ports
  masters : t.net.ptp.masters = s.net.ptp.masters
  enable : t.get Obj.ptpEnable = s.get Obj.ptpEnable
  blocked : t.get Obj.blockedPort = s.get Obj.blockedPort

section
variable {s t : State} (h : SameMasters s t)
include h

theorem SameMasters.portHears (p : Nat) : t.portHears p = s.portHears p := by
  rw [State.portHears, State.portHears, State.portList, State.portList, State.port, State.port, State.blocked, State.blocked,
    h.variant, h.ports, h.blocked]

theorem SameMasters.portMaster (p : Nat) : t.portMaster p = s.portMaster p := by
  rw [State.portMaster, State.portMaster, h.portHears, h.masters]

theorem SameMasters.slavePort : t.slavePort = s.slavePort := by
  rw [State.slavePort, State.slavePort, State.flag, State.flag, h.enable, h.portMaster, h.portMaster]

theorem SameMasters.ocState (p : Nat) : t.ocState p = s.ocState p := by
  rw [State.ocState, State.ocState, State.flag, State.flag, h.enable, h.portHears, h.slavePort, h.portMaster]

end

/-- What the settling of the clock leaves: the masters, and its state shown. -/
theorem settleClock_shows (s : State) : SameMasters s (settleClock s) ∧ (settleClock s).clk = s.clk ∧
    (settleClock s).get Obj.ocPortState = fitTo Obj.ocPortState
      ((settleClock s).ocState 0 + 256 * (if s.variant.hasNb then (settleClock s).ocState 1 else 0)) := by
  have hput (k v : Nat) (u : State) (hk : k ≠ Obj.ptpEnable ∧ k ≠ Obj.blockedPort) (h : SameMasters s u) :
      SameMasters s (u.put k v) :=
    ⟨(put_variant ..).trans h.variant, (put_ports ..).trans h.ports, by rw [put_net]; exact h.masters,
      (get_put_ne _ _ _ u hk.1.symm).trans h.enable, (get_put_ne _ _ _ u hk.2.symm).trans h.blocked⟩
  have hanew (u : State) (h : SameMasters s u) : SameMasters s (clockAnew u) := ⟨h.variant, h.ports, h.masters, h.enable, h.blocked⟩
  have hshown : SameMasters s (clockShown s) := hput _ _ _ (by decide) ⟨rfl, rfl, rfl, rfl, rfl⟩
  have hsame : SameMasters s (settleClock s) := settleClock_ends (P := SameMasters s) hshown
    (fun v => hanew _ (hput _ _ _ (by decide) hshown)) (hanew _ hshown) (hput _ _ _ (by decide) (hanew _ hshown))
  refine ⟨hsame, ?_, ?_⟩
  · exact (settleClock_moves (.refl s) : Moves (caps [.objs, .net]) s _).part .clk (by decide)
  · rw [hsame.ocState, hsame.ocState]
    have hword : (clockShown s).get Obj.ocPortState = fitTo Obj.ocPortState
        (s.ocState 0 + 256 * (if s.variant.hasNb then s.ocState 1 else 0)) := get_put_self _ _ s rfl
    exact settleClock_ends (P := fun t => t.get Obj.ocPortState = _) hword
      (fun v => (get_put_ne _ _ _ _ (by decide)).trans hword) hword ((get_put_ne _ _ _ _ (by decide)).trans hword)

section
variable {s : State} (hl : s.live = true) {p : Fin 2}
include hl

/-- ANNOUNCE_RX. -/
theorem announceRx_answers (a : Announce) (m : Option Master) (hh : s.ptpHeard p a.udp a.domain = true)
    (hm : s.net.ptp.masters[p.val]? = some m)
    (hk : ∀ n, m = some n → n.ann.sender = a.sender ∨ announceBetter a n.ann = true) : Answers (.announceRx p a) s fun t =>
        OneMoves p.val (some ⟨a, s.now⟩) s.net.ptp.masters t.net.ptp.masters ∧
        t.clk.ptpUtcOffset = (match a.utcOffset with | some u => some u | none => s.clk.ptpUtcOffset) ∧
        t.get Obj.ocPortState = fitTo Obj.ocPortState (t.ocState 0 + 256 * (if s.variant.hasNb then t.ocState 1 else 0)) := by
  have hget : s.net.ptp.masters.getD p none = m := by rw [List.getD_eq_getElem?_getD, hm]; rfl
  have he : exec (.announceRx p a) s = s.answer (settleClock ((s.onPtp fun u =>
      { u with masters := u.masters.set p (some ⟨a, s.now⟩) }).onClk fun k => { k with ptpUtcOffset := match a.utcOffset with
        | some u => some u
        | none => k.ptpUtcOffset })) := by
    show execAnnounceRx p a s = _
    rw [execAnnounceRx, answerLive_live hl]
    simp only [hh, Bool.not_true, Bool.false_eq_true, if_false, hget]
    cases m with
    | none => rfl
    | some n =>
      have hkeep : (n.ann.sender == a.sender || announceBetter a n.ann) = true := by
        obtain h | h := hk n rfl
        · rw [beq_iff_eq.2 h, Bool.true_or]
        · rw [h, Bool.or_true]
      simp only [hkeep, if_true] <;> rfl
  have hmoves : Moves (caps [.objs, .clk, .net]) s (settleClock ((s.onPtp fun u =>
      { u with masters := u.masters.set p (some ⟨a, s.now⟩) }).onClk fun k => { k with ptpUtcOffset := match a.utcOffset with
        | some u => some u
        | none => k.ptpUtcOffset })) := settleClock_moves (onClk_moves (onPtp_moves (.refl s)))
  obtain ⟨hsame, hclk, hword⟩ := settleClock_shows ((s.onPtp fun u =>
      { u with masters := u.masters.set p (some ⟨a, s.now⟩) }).onClk fun k => { k with ptpUtcOffset := match a.utcOffset with
        | some u => some u
        | none => k.ptpUtcOffset })
  refine answers_answer _ he hmoves.variant hmoves.pending ⟨?_, ?_, hword⟩
  · rw [hsame.masters]
    exact oneMoves_set _ hm
  · rw [hclk]
    rfl

/-- ANNOUNCE_TIMEOUT. -/
theorem announceTimeout_answers (m : Master) (hm : s.net.ptp.masters[p.val]? = some (some m))
    (ht : m.at_ + ms (3 * m.ann.intervalMs) ≤ s.now) : Answers (.announceTimeout p) s fun t =>
        OneMoves p.val none s.net.ptp.masters t.net.ptp.masters ∧
        t.get Obj.ocPortState = fitTo Obj.ocPortState (t.ocState 0 + 256 * (if s.variant.hasNb then t.ocState 1 else 0)) := by
  have hget : s.net.ptp.masters.getD p none = some m := by rw [List.getD_eq_getElem?_getD, hm]; rfl
  have he : exec (.announceTimeout p) s = s.answer (settleClock (s.onPtp fun u => { u with masters := u.masters.set p none })) := by
    show execAnnounceTimeout p s = _
    rw [execAnnounceTimeout, answerLive_live hl]
    simp only [hget, ht, if_true]
  have hmoves : Moves (caps [.objs, .net]) s (settleClock (s.onPtp fun u => { u with masters := u.masters.set p none })) :=
    settleClock_moves (onPtp_moves (.refl s))
  obtain ⟨hsame, -, hword⟩ := settleClock_shows (s.onPtp fun u => { u with masters := u.masters.set p none })
  refine answers_answer _ he hmoves.variant hmoves.pending ⟨?_, hword⟩
  rw [hsame.masters]
  exact oneMoves_set _ hm

/-- SYNC_RX. -/
theorem syncRx_answers (udp : Bool) (d sender seq : Nat) (origin : Int) (iv : Nat) (hf : s.fromMaster p udp d sender = true) :
      (Answers (.syncRx p udp d sender seq false false origin iv) s fun t => t.objs = s.objs ∧
        t.net.ptp = { s.net.ptp with syncMs := iv, syncPending := none, sync := some (origin, (s.calNs : Int)) }) ∧
      (Answers (.syncRx p udp d sender seq false true origin iv) s fun t => t.objs = s.objs ∧
        t.net.ptp = { s.net.ptp with syncMs := iv, syncPending := some (seq, s.calNs) }) ∧
      (∀ b at_, s.net.ptp.syncPending = some (seq, at_) → Answers (.syncRx p udp d sender seq true b origin iv) s fun t =>
        t.objs = s.objs ∧ t.net.ptp = { s.net.ptp with syncPending := none, sync := some (origin, (at_ : Int)) }) := by
  have he (fu two : Bool) : exec (.syncRx p udp d sender seq fu two origin iv) s = execSyncRx p udp d sender seq fu two origin iv s :=
    rfl
  simp only [execSyncRx, answerLive_live hl, hf, Bool.not_true, Bool.false_eq_true, if_false] at he
  refine ⟨answers_answer _ (he false false) rfl rfl ⟨rfl, rfl⟩, answers_answer _ (he false true) rfl rfl ⟨rfl, rfl⟩,
    fun b at_ hp => ?_⟩
  have he' := he true b
  simp only [if_true, hp] at he'
  exact answers_answer _ he' rfl rfl ⟨rfl, rfl⟩

end

end Sys2Proof.Machine
end

section
/-! The servo of the ordinary clock -/
namespace Sys2Proof.Machine
open Sys2Proof Sys2Proof.Config

/-! The servo. -/

set_option Elab.async false in
/-- What a moved calendar shows: the time it was moved to, and the objects but those of WakeAt. -/
theorem moveCal_shows (ns : Int) (s : State) : (moveCal ns s).calNs = ns.toNat ∧
    (moveCal ns s).clk.rate = s.clk.rate ∧ (moveCal ns s).net.ptp.delayMs = s.net.ptp.delayMs ∧
    (moveCal ns s).net.ptp.delayReq = none ∧
    ∀ k, k ≠ Obj.wakeAt → noisy k = false → (moveCal ns s).get k = s.get k := by
  generalize hv : saveOffset ((setCal ns s).onNet fun n =>
    { n with ptp := { n.ptp with syncPending := none, sync := none, delayReq := none } }) = v
  have hm : moveCal ns s = checkWakeAt v := by rw [← hv]; rfl
  have hcheck : Moves (caps [.objs]) v (checkWakeAt v) := checkWakeAt_moves (.refl v)
  have hclk : (checkWakeAt v).clk = v.clk := hcheck.part .clk (by decide)
  have hnet : (checkWakeAt v).net = v.net := hcheck.part .net (by decide)
  have hcal : v.calNs = ns.toNat := by
    rw [← hv]
    show ns.toNat + (((s.now - s.now : Nat) : Int) * 20 * (1000000000 + s.clk.rate) / 3000000000).toNat = _
    simp
  refine ⟨?_, ?_, ?_, ?_, fun k hk hn => ?_⟩
  · rw [hm, State.calNs, hclk, hcheck.now]; exact hcal
  · rw [hm, hclk, ← hv]; rfl
  · rw [hm, hnet, ← hv]; rfl
  · rw [hm, hnet, ← hv]; rfl
  · have hkeep : (checkWakeAt v).get k = v.get k := by
      unfold checkWakeAt
      dsimp only
      exact of_ite (P := fun t : State => t.get k = v.get k) ((stateNotice_get _ _ _ _ hn).trans (get_put_ne _ _ _ v hk)) rfl
    rw [hm, hkeep, ← hv]
    rfl

/-- The offset that was measured is shown, and the Delay_Req is answered. -/
structure Measured (o m : Nat) (iv : Nat) (t : State) : Prop where
  offset : t.get Obj.offsetFromMaster = o
  delay : t.get Obj.meanPathDelay = m
  answered : t.net.ptp.delayReq = none
  interval : t.net.ptp.delayMs = iv

section
variable {o m iv : Nat} {t : State} (h : Measured o m iv t)
include h

theorem Measured.onClk (f : Clocks → Clocks) : Measured o m iv (t.onClk f) := ⟨h.offset, h.delay, h.answered, h.interval⟩

theorem Measured.put {k v : Nat} (h1 : Obj.offsetFromMaster ≠ k := by decide) (h2 : Obj.meanPathDelay ≠ k := by decide) :
    Measured o m iv (t.put k v) where
  offset := (get_put_ne _ _ _ t h1).trans h.offset
  delay := (get_put_ne _ _ _ t h2).trans h.delay
  answered := by rw [put_net]; exact h.answered
  interval := by rw [put_net]; exact h.interval

theorem Measured.moveCal (ns : Int) : Measured o m iv (Machine.moveCal ns t) := by
  obtain ⟨-, -, hms, hreq, hget⟩ := moveCal_shows ns t
  exact ⟨(hget _ (by decide) (by decide)).trans h.offset, (hget _ (by decide) (by decide)).trans h.delay, hreq,
    hms.trans h.interval⟩

theorem Measured.stepUtc : Measured o m iv (Machine.stepUtc t) := by
  have hused := h.onClk fun k => { k with usedUtcOffset := some t.utcNow }
  exact of_ite (P := Measured o m iv) hused (hused.put.moveCal _)

theorem Measured.stepOffset (e : Int) : Measured o m iv (Machine.stepOffset e t) :=
  (h.onClk fun k => { k with integ := 0, lockRun := 0 }).put.put.moveCal _

theorem Measured.judgeLock (e : Int) : Measured o m iv (Machine.judgeLock e t) := by
  have hrun := h.onClk fun k => { k with lockRun := if e.natAbs < t.get Obj.lockThreshold then k.lockRun + 1 else 0 }
  exact of_ite (P := Measured o m iv) hrun.put (of_ite (P := Measured o m iv) (hrun.put.onClk _) hrun)

theorem Measured.applyOffset (e : Int) (n : Nat) : Measured o m iv (Machine.applyOffset e n t) := by
  have hslewed : Measured o m iv (slewOffset e n (Machine.stepUtc t)) :=
    ⟨h.stepUtc.offset, h.stepUtc.delay, h.stepUtc.answered, h.stepUtc.interval⟩
  have hjudged : Measured o m iv (if (Machine.stepUtc t).get Obj.stepThreshold ≤ e.natAbs then
      Machine.stepOffset e (Machine.stepUtc t) else Machine.judgeLock e (slewOffset e n (Machine.stepUtc t))) :=
    of_ite (P := Measured o m iv) (h.stepUtc.stepOffset e) (hslewed.judgeLock e)
  exact of_ite (P := Measured o m iv) (h.onClk _)
    (Measured.onClk (of_ite (P := Measured o m iv) hjudged.put hjudged) _)

end

/-- With the UTC offset that it already uses, the calendar does not step for it. -/
def utcUsed (s : State) : State := s.onClk fun k => { k with usedUtcOffset := some s.utcNow }

theorem stepUtc_used {s : State} (h : s.clk.usedUtcOffset = some s.utcNow) : stepUtc s = utcUsed s := by
  unfold stepUtc
  dsimp only
  rw [h]
  exact if_pos rfl

/-- An offset at the threshold is stepped out. -/
theorem applyOffset_steps {s : State} {o : Int} {n : Nat} (hsrc : s.get Obj.calSource ≠ 2)
    (hu : s.clk.usedUtcOffset = some s.utcNow) (ho : s.get Obj.stepThreshold ≤ o.natAbs) :
    CountsUp Obj.calStepCount s (applyOffset o n s) ∧ (applyOffset o n s).get Obj.calState = 2 ∧
    (applyOffset o n s).calNs = ((s.calNs : Int) - o).toNat := by
  obtain ⟨hcal, -, -, -, hget⟩ := moveCal_shows ((s.calNs : Int) - o)
    ((((utcUsed s).onClk fun k => { k with integ := 0, lockRun := 0 }).put Obj.calState 2).inc Obj.calStepCount)
  generalize hv : (((utcUsed s).onClk fun k => { k with integ := 0, lockRun := 0 }).put Obj.calState 2) = v at hcal hget
  have hvns : v.calNs = s.calNs := by
    rw [← hv, State.calNs, put_clk, put_now]
    rfl
  have hstep : stepOffset o (utcUsed s) = moveCal ((s.calNs : Int) - o) (v.inc Obj.calStepCount) := by
    rw [← hvns, ← hv]; rfl
  have hstate : (moveCal ((s.calNs : Int) - o) (v.inc Obj.calStepCount)).get Obj.calState = 2 := by
    refine (hget _ (by decide) (by decide)).trans ((get_put_ne _ _ _ _ (by decide)).trans ?_)
    rw [← hv]
    exact get_put_self _ _ _ rfl
  have hthr : (utcUsed s).get Obj.stepThreshold ≤ o.natAbs := ho
  have heq : applyOffset o n s = disciplined (moveCal ((s.calNs : Int) - o) (v.inc Obj.calStepCount)) := by
    unfold applyOffset
    rw [if_neg hsrc, stepUtc_used hu]
    dsimp only
    rw [if_pos hthr, hstep, hstate]
    rfl
  rw [heq]
  refine ⟨?_, hstate, hcal⟩
  refine (hget _ (by decide) (by decide)).trans ((get_put_self _ _ _ rfl).trans ?_)
  rw [← hv]
  exact congrArg (fun n => fitTo Obj.calStepCount (n + 1)) (get_put_ne _ _ _ _ (by decide))

/-- The lock judgement leaves the rate. -/
theorem judgeLock_rate (o : Int) (s : State) : (judgeLock o s).clk.integ = s.clk.integ ∧ (judgeLock o s).clk.rate = s.clk.rate := by
  refine of_ite (P := fun t : State => t.clk.integ = s.clk.integ ∧ t.clk.rate = s.clk.rate) ?_
    (of_ite (P := fun t : State => t.clk.integ = s.clk.integ ∧ t.clk.rate = s.clk.rate) ?_ ⟨rfl, rfl⟩)
  · rw [put_clk]; exact ⟨rfl, rfl⟩
  · show (State.put Obj.calState 3 _).clk.integ = _ ∧ (State.put Obj.calState 3 _).clk.rate = _
    rw [put_clk]; exact ⟨rfl, rfl⟩

/-- An offset below the threshold is slewed out. -/
theorem applyOffset_slews {s : State} {o : Int} {n : Nat} (hsrc : s.get Obj.calSource ≠ 2)
    (hu : s.clk.usedUtcOffset = some s.utcNow) (ho : o.natAbs < s.get Obj.stepThreshold) :
    let lim : Int := s.get Obj.slewLimit
    let d : Int := max 1 n
    (applyOffset o n s).clk.integ = clampTo lim (s.clk.integ + Int.tdiv (o * 1000) (16 * d)) ∧
    (applyOffset o n s).clk.rate = clampTo lim (Int.tdiv (-o * 1000) (4 * d) - (applyOffset o n s).clk.integ) := by
  intro lim d
  have hthr : ¬(utcUsed s).get Obj.stepThreshold ≤ o.natAbs := Nat.not_le.2 ho
  have hclk : (applyOffset o n s).clk.integ = (judgeLock o (slewOffset o n (utcUsed s))).clk.integ ∧
      (applyOffset o n s).clk.rate = (judgeLock o (slewOffset o n (utcUsed s))).clk.rate := by
    unfold applyOffset
    rw [if_neg hsrc, stepUtc_used hu]
    dsimp only
    rw [if_neg hthr]
    have hput : ∀ u : State, ∀ v : Int, (u.puti Obj.xtalError v).clk = u.clk := fun u v => put_clk ..
    generalize judgeLock o (slewOffset o n (utcUsed s)) = w
    show (State.clk (if _ then _ else _)).integ = _ ∧ (State.clk (if _ then _ else _)).rate = _
    split
    · rw [hput]; exact ⟨rfl, rfl⟩
    · exact ⟨rfl, rfl⟩
  obtain ⟨hi, hr⟩ := judgeLock_rate o (slewOffset o n (utcUsed s))
  rw [hclk.1, hclk.2, hi, hr]
  exact ⟨rfl, rfl⟩

/-- A measured offset, before it is applied. -/
def measured (o m : Int) (iv : Nat) (s : State) : State :=
  (((s.onPtp fun u => { u with delayMs := iv }).puti Obj.offsetFromMaster o).puti Obj.meanPathDelay m).onPtp fun u =>
    { u with delayReq := none }

theorem measured_get (o m : Int) (iv : Nat) (s : State) (k : Nat) (h1 : k ≠ Obj.offsetFromMaster)
    (h2 : k ≠ Obj.meanPathDelay) : (measured o m iv s).get k = s.get k :=
  (get_put_ne Obj.meanPathDelay (encSigned (8 * sizeOf Obj.meanPathDelay) m) k
    ((s.onPtp fun u => { u with delayMs := iv }).puti Obj.offsetFromMaster o) h2).trans
    (get_put_ne Obj.offsetFromMaster (encSigned (8 * sizeOf Obj.offsetFromMaster) o) k
      (s.onPtp fun u => { u with delayMs := iv }) h1)

theorem measured_shows (o m : Int) (iv : Nat) (s : State) : Measured (encSigned (8 * sizeOf Obj.offsetFromMaster) o)
    (encSigned (8 * sizeOf Obj.meanPathDelay) m) iv (measured o m iv s) := by
  refine ⟨?_, get_puti_self (k := Obj.meanPathDelay) rfl m
      ((s.onPtp fun u => { u with delayMs := iv }).puti Obj.offsetFromMaster o), rfl, ?_⟩
  · exact (get_put_ne Obj.meanPathDelay (encSigned (8 * sizeOf Obj.meanPathDelay) m) Obj.offsetFromMaster
      ((s.onPtp fun u => { u with delayMs := iv }).puti Obj.offsetFromMaster o) (by decide)).trans
      (get_puti_self (k := Obj.offsetFromMaster) rfl o _)
  · show (State.net (State.puti _ _ _)).ptp.delayMs = iv
    rw [puti_eq, put_net, puti_eq, put_net]
    rfl

section
variable {s : State} (hl : s.live = true) {p : Fin 2}
include hl

/-- DELAY_REQ_TX. -/
theorem delayReqTx_answers (u : PortUnit) (udp : Bool) (len : Nat) (hp : s.slavePort = some p.val)
    (ht : s.net.ptp.delayNext ≤ s.now) (hb : Busy p u s)
    (hudp : udp = (s.get Obj.ptpTransport == 1 || (s.get Obj.ptpTransport == 2 && ((s.portMaster p).map (·.udp)).getD false)))
    (hlen : len = (if udp then 90 else 64)) (hr : niReady len s = true) : Answers .delayReqTx s fun t =>
        t.net.ptp = { s.net.ptp with delayReq := some (s.net.ptp.delaySeq, (s.calNs : Int))
                                     delaySeq := (s.net.ptp.delaySeq + 1) % 65536
                                     delayNext := s.now + ms s.net.ptp.delayMs } ∧
        Queued p u (s.ownFrame (if udp then 0x01005E000181 else 0x011B19000000) len 7 3
          (.ptp udp (s.get Obj.ptpDomain) .delayReq s.net.ptp.delaySeq (Config.mac * 65536 + p + 1)) none) t := by
  have he : exec .delayReqTx s = s.answer (enqueue p (s.ownFrame (if udp then 0x01005E000181 else 0x011B19000000) len 7 3
      (.ptp udp (s.get Obj.ptpDomain) .delayReq s.net.ptp.delaySeq (Config.mac * 65536 + p + 1)) none)
      (s.onPtp fun u => { u with delayReq := some (s.net.ptp.delaySeq, (s.calNs : Int))
                                 delaySeq := (s.net.ptp.delaySeq + 1) % 65536, delayNext := s.now + ms u.delayMs })) := by
    show execDelayReqTx s = _
    rw [execDelayReqTx, answerLive_live hl]
    simp only [hp, Nat.not_lt.2 ht, if_false, ← hudp, ← hlen, hr, Bool.not_true, Bool.false_eq_true]
  have hm := enqueue_moves (p := p.val) (f := s.ownFrame (if udp then 0x01005E000181 else 0x011B19000000) len 7 3
      (.ptp udp (s.get Obj.ptpDomain) .delayReq s.net.ptp.delaySeq (Config.mac * 65536 + p + 1)) none)
      (onPtp_moves (f := fun u => { u with delayReq := some (s.net.ptp.delaySeq, (s.calNs : Int))
                                           delaySeq := (s.net.ptp.delaySeq + 1) % 65536
                                           delayNext := s.now + ms u.delayMs }) (.refl s) : Moves (caps [.objs, .net]) s _)
  exact answers_answer _ he hm.variant hm.pending ⟨enqueue_rest (q := Net.ptp) (fun _ _ => rfl) ..,
    enqueue_queued p.isLt (hb.of_same rfl rfl fun _ _ => rfl) (aged_now rfl)⟩

/-- DELAY_RESP_RX. -/
theorem delayRespRx_answers (udp : Bool) (d sender seq : Nat) (received : Int) (iv : Nat) (t1 t2 t3 down up o : Int)
    (hf : s.fromMaster p udp d sender = true) (hsync : s.net.ptp.sync = some (t1, t2))
    (hreq : s.net.ptp.delayReq = some (seq, t3)) (hdown : down = t2 - (t1 - s.clk.usedUtcOffset.getD s.utcNow * 1000000000))
    (hup : up = (received - s.clk.usedUtcOffset.getD s.utcNow * 1000000000) - t3) (ho : o = Int.tdiv (down - up) 2) :
      Answers (.delayRespRx p udp d sender seq received iv) s fun t =>
        t.get Obj.offsetFromMaster = encSigned (8 * sizeOf Obj.offsetFromMaster) o ∧
        t.get Obj.meanPathDelay = encSigned (8 * sizeOf Obj.meanPathDelay) (Int.tdiv (down + up) 2) ∧
        t.net.ptp.delayReq = none ∧ t.net.ptp.delayMs = iv ∧
        (s.get Obj.calSource = 2 → t.calNs = s.calNs ∧ t.get Obj.calState = s.get Obj.calState) ∧
        (s.get Obj.calSource ≠ 2 → s.clk.usedUtcOffset = some s.utcNow → s.get Obj.stepThreshold ≤ o.natAbs →
          CountsUp Obj.calStepCount s t ∧ t.get Obj.calState = 2 ∧ t.calNs = ((s.calNs : Int) - o).toNat) ∧
        (s.get Obj.calSource ≠ 2 → s.clk.usedUtcOffset = some s.utcNow → o.natAbs < s.get Obj.stepThreshold →
          let lim : Int := s.get Obj.slewLimit
          let d : Int := max 1 s.net.ptp.syncMs
          t.clk.integ = clampTo lim (s.clk.integ + Int.tdiv (o * 1000) (16 * d)) ∧
          t.clk.rate = clampTo lim (Int.tdiv (-o * 1000) (4 * d) - t.clk.integ)) := by
  generalize hw : measured o (Int.tdiv (down + up) 2) iv s = w
  have he : exec (.delayRespRx p udp d sender seq received iv) s = s.answer (applyOffset o s.net.ptp.syncMs w) := by
    have hms : ((s.onPtp fun u => { u with delayMs := iv }).puti Obj.offsetFromMaster o |>.puti Obj.meanPathDelay
        (Int.tdiv (down + up) 2)).net.ptp.syncMs = s.net.ptp.syncMs := by
      rw [puti_eq, put_net, puti_eq, put_net]; rfl
    show execDelayRespRx p udp d sender seq received iv s = _
    rw [execDelayRespRx, answerLive_live hl]
    simp only [hf, Bool.not_true, Bool.false_eq_true, if_false]
    rw [show (s.onPtp fun u => { u with delayMs := iv }).net.ptp.sync = some (t1, t2) from hsync,
      show (s.onPtp fun u => { u with delayMs := iv }).net.ptp.delayReq = some (seq, t3) from hreq]
    dsimp only
    rw [if_neg (fun h => h rfl)]
    rw [show (s.onPtp fun u => { u with delayMs := iv }).clk = s.clk from rfl,
      show (s.onPtp fun u => { u with delayMs := iv }).utcNow = s.utcNow from rfl, ← hdown, ← hup, ← ho, hms, ← hw]
    rfl
  have hget (k : Nat) (h1 : k ≠ Obj.offsetFromMaster) (h2 : k ≠ Obj.meanPathDelay) : w.get k = s.get k := by
    rw [← hw]
    exact measured_get _ _ _ _ k h1 h2
  have hshown : Measured (encSigned (8 * sizeOf Obj.offsetFromMaster) o)
      (encSigned (8 * sizeOf Obj.meanPathDelay) (Int.tdiv (down + up) 2)) iv w :=
    hw ▸ measured_shows _ _ _ _
  have hbase : Moves (caps [.objs, .clk, .net]) s w :=
    hw ▸ onPtp_moves (put_moves (put_moves (onPtp_moves (.refl s))))
  have hclk : w.clk = s.clk := (hw ▸ onPtp_moves (put_moves (put_moves (onPtp_moves (.refl s)))) :
    Moves (caps [.objs, .net]) s w).part .clk (by decide)
  have hutc : w.utcNow = s.utcNow := by
    rw [State.utcNow, State.utcNow, hclk, State.geti, State.geti, hget _ (by decide) (by decide)]
  have hcal : w.calNs = s.calNs := by rw [State.calNs, State.calNs, hclk, hbase.now]
  have hm := applyOffset_moves (o := o) (t := s.net.ptp.syncMs) hbase
  have hsrc := hget Obj.calSource (by decide) (by decide)
  have hthr := hget Obj.stepThreshold (by decide) (by decide)
  obtain ⟨h1, h2, h3, h4⟩ := hshown.applyOffset o s.net.ptp.syncMs
  refine answers_answer _ he hm.variant hm.pending ⟨h1, h2, h3, h4, fun h => ?_, fun h hu hge => ?_, fun h hu hlt => ?_⟩
  · have heq : applyOffset o s.net.ptp.syncMs w = disciplined w := if_pos (hsrc.trans h)
    rw [heq]
    exact ⟨hcal, hget _ (by decide) (by decide)⟩
  · obtain ⟨hc, hst, hns⟩ := applyOffset_steps (n := s.net.ptp.syncMs) (by rw [hsrc]; exact h) (by rw [hclk, hutc]; exact hu)
      (by rw [hthr]; exact hge)
    refine ⟨hc.trans ?_, hst, by rw [hns, hcal]⟩
    rw [hget _ (by decide) (by decide)]
  · have hslew := applyOffset_slews (n := s.net.ptp.syncMs) (by rw [hsrc]; exact h) (by rw [hclk, hutc]; exact hu)
      (by rw [hthr]; exact hlt)
    rw [hget _ (by decide) (by decide), hclk] at hslew
    exact hslew

end

/-- Settles O18: the transparent clock's entries, and the ordinary clock's master, offset and servo. -/
theorem networkClocksCorrectAndDiscipline : Obligations.NetworkClocksCorrectAndDiscipline := by
  refine ⟨fun s p f udp d seq port hl ht => ⟨fun residence hroom => ⟨?_, ?_⟩, ?_, ?_, ?_⟩,
    fun s p hl => ⟨?_, ?_, ?_, ?_, ?_⟩⟩
  · exact fun hf => tcEventForward_adds hl ht residence true hroom hf
  · exact fun hf => tcEventForward_adds hl ht residence false hroom hf
  · exact fun residence hf => tcEventForward_counts hl ht residence hf
  · exact fun hf => tcCorrection_answers hl ht hf
  · exact tcEntryExpiry_answers hl
  · exact fun a m hh hm hk => announceRx_answers hl a m hh hm hk
  · exact fun m hm ht => announceTimeout_answers hl m hm ht
  · exact fun udp d sender seq origin iv hf => syncRx_answers hl udp d sender seq origin iv hf
  · exact fun u udp len hp ht hb hudp hlen hr => delayReqTx_answers hl u udp len hp ht hb hudp hlen hr
  · exact fun udp d sender seq received iv t1 t2 t3 down up o hf hsync hreq hdown hup ho =>
      delayRespRx_answers hl udp d sender seq received iv t1 t2 t3 down up o hf hsync hreq hdown hup ho

end Sys2Proof.Machine
end

section
/-! Resets of the logic die -/
namespace Sys2Proof.Machine
open Sys2Proof Sys2Proof.Config

/-! What the loss of the logic die leaves, and the cause that is latched (R339, R342, R348). -/

set_option Elab.async false in
theorem saveSettings_get (k : Nat) (s : State) : (saveSettings s).get k = s.get k :=
  of_ite (P := fun t : State => t.get k = s.get k) rfl rfl

theorem cutJob_get (k : Nat) (s : State) : (cutJob s).get k = s.get k := by
  unfold cutJob
  split
  · rfl
  · exact of_ite (P := fun t : State => t.get k = s.get k) rfl rfl

/-- An entry of the store whose number passes a filter reads on as it was. -/
theorem storeGet_filter {p : Nat → Bool} {k : Nat} (hk : p k = true) (d : Nat) (es : List (Nat × Nat)) :
    storeGet d k (es.filter fun e => p e.1) = storeGet d k es := by
  induction es with
  | nil => rfl
  | cons e es ih =>
    obtain ⟨j, v⟩ := e
    by_cases hj : j = k
    · subst hj
      rw [List.filter_cons_of_pos (by exact hk)]
      simp only [storeGet, if_true]
    · rw [storeGet, if_neg hj, ← ih]
      by_cases hp : p j = true
      · rw [List.filter_cons_of_pos (by exact hp), storeGet, if_neg hj]
      · rw [List.filter_cons_of_neg (by exact hp)]

/-- An object in VAON keeps its value through the loss of the logic die. -/
theorem loseLogic_get {k : Nat} (hk : heldInVaon k = true) (s : State) : (loseLogic s).get k = s.get k := by
  have hs : (saveSettings (cutJob s)).get k = s.get k := (saveSettings_get k _).trans (cutJob_get k s)
  have hobjs : (loseLogic s).objs =
      (saveSettings (cutJob s)).objs.filter fun e => (saveSettings (cutJob s)).keptAtReset e.1 := rfl
  have hkept : (saveSettings (cutJob s)).keptAtReset k = true := by simp [State.keptAtReset, hk]
  rw [← hs]
  unfold State.get
  rw [hobjs, storeGet_filter hkept]
  rfl

/-- The cause that is latched. -/
def causeLatched (c : Nat) (s : State) : State :=
  s.onRst fun r => { r with latched := if r.latched.contains c then r.latched else r.latched ++ [c] }

theorem mem_causeLatched (c : Nat) (s : State) : c ∈ (causeLatched c s).rst.latched := by
  show c ∈ (if s.rst.latched.contains c then s.rst.latched else s.rst.latched ++ [c])
  split
  next h => exact List.contains_iff_mem.1 h
  next => simp

theorem foldl_min_le {c d : Nat} {cs : List Nat} (h : c ∈ cs) : cs.foldl min d ≤ c := by
  have hstart (cs : List Nat) (d : Nat) : cs.foldl min d ≤ d := by
    induction cs generalizing d with
    | nil => exact Nat.le_refl d
    | cons e cs ih => exact Nat.le_trans (ih _) (Nat.min_le_left d e)
  induction cs generalizing d with
  | nil => exact absurd h (by simp)
  | cons e cs ih =>
    obtain rfl | h := List.mem_cons.1 h
    · exact Nat.le_trans (hstart cs _) (Nat.min_le_right d c)
    · exact ih h

/-- The objects of the reset causes. -/
def causeKeys : List Nat := [Obj.resetCauseMask, Obj.resetCause, Obj.logicResetCount, Obj.watchdogCount]

/-- The causes are shown. -/
def causeShown (s : State) : State :=
  (s.put Obj.resetCauseMask ((s.rst.latched.map (2 ^ ·)).sum)).put Obj.resetCause (s.rst.latched.foldl min 12)

theorem latchCause_eq (c : Nat) (s : State) : latchCause c s =
    let t := causeShown (causeLatched c s)
    let t := if 2 ≤ c ∧ c ≤ 8 then t.inc Obj.logicResetCount else t
    if c = 6 then t.inc Obj.watchdogCount else t := by
  have hrst : ((causeLatched c s).put Obj.resetCauseMask (((causeLatched c s).rst.latched.map (2 ^ ·)).sum)).rst =
      (causeLatched c s).rst := put_rst ..
  unfold causeShown
  rw [← hrst]
  rfl

theorem causeShown_get {k : Nat} (hk : k ∉ causeKeys) (c : Nat) (s : State) :
    (causeShown (causeLatched c s)).get k = s.get k := by
  simp only [causeKeys, List.mem_cons, List.not_mem_nil, or_false, not_or] at hk
  obtain ⟨h1, h2, -⟩ := hk
  exact (get_put_ne _ _ _ _ h2).trans (get_put_ne _ _ _ _ h1)

theorem latchCause_ends {P : State → Prop} {c : Nat} {s : State} (hshown : P (causeShown (causeLatched c s)))
    (hreset : ∀ t, P t → P (t.inc Obj.logicResetCount)) (hdog : ∀ t, P t → P (t.inc Obj.watchdogCount)) :
    P (latchCause c s) := by
  rw [latchCause_eq]
  have h := of_ite (P := P) (c := 2 ≤ c ∧ c ≤ 8) (hreset _ hshown) hshown
  exact of_ite (P := P) (hdog _ h) h

theorem latchCause_get {k : Nat} (hk : k ∉ causeKeys) (c : Nat) (s : State) : (latchCause c s).get k = s.get k := by
  have hshown := causeShown_get hk c s
  simp only [causeKeys, List.mem_cons, List.not_mem_nil, or_false, not_or] at hk
  obtain ⟨-, -, h3, h4⟩ := hk
  exact latchCause_ends (P := fun t => t.get k = s.get k) hshown (fun t h => (get_put_ne _ _ _ t h3).trans h)
    fun t h => (get_put_ne _ _ _ t h4).trans h

theorem latchCause_rst (c : Nat) (s : State) : (latchCause c s).rst = (causeLatched c s).rst :=
  latchCause_ends (P := fun t => t.rst = (causeLatched c s).rst) ((put_rst ..).trans (put_rst ..))
    (fun t h => (put_rst t _ _).trans h) fun t h => (put_rst t _ _).trans h

theorem latchCause_cause {c : Nat} (hc : c < 256) (s : State) : (latchCause c s).get Obj.resetCause ≤ c := by
  refine latchCause_ends (P := fun t => t.get Obj.resetCause ≤ c) ?_
    (fun t h => by rw [inc_eq, get_put_ne _ _ _ t (by decide)]; exact h)
    fun t h => by rw [inc_eq, get_put_ne _ _ _ t (by decide)]; exact h
  have hle : (causeLatched c s).rst.latched.foldl min 12 ≤ c := foldl_min_le (mem_causeLatched c s)
  refine Nat.le_trans (Nat.le_of_eq (get_put_self Obj.resetCause ((causeLatched c s).rst.latched.foldl min 12) _ rfl)) ?_
  have hfit : fitTo Obj.resetCause ((causeLatched c s).rst.latched.foldl min 12) = _ := Nat.mod_eq_of_lt (Nat.lt_of_le_of_lt hle hc)
  exact Nat.le_trans (Nat.le_of_eq hfit) hle

theorem latchCause_counts {c : Nat} (hc : 2 ≤ c ∧ c ≤ 8) (s : State) : CountsUp Obj.logicResetCount s (latchCause c s) := by
  have hshown : (causeShown (causeLatched c s)).get Obj.logicResetCount = s.get Obj.logicResetCount :=
    (get_put_ne _ _ _ _ (by decide)).trans (get_put_ne _ _ _ _ (by decide))
  have hcount : ((causeShown (causeLatched c s)).inc Obj.logicResetCount).get Obj.logicResetCount =
      fitTo Obj.logicResetCount (s.get Obj.logicResetCount + 1) := by
    rw [inc_eq, get_put_self _ _ _ rfl, hshown]
  rw [latchCause_eq]
  simp only [if_pos hc]
  exact of_ite (P := fun t : State => CountsUp Obj.logicResetCount s t) ((get_put_ne _ _ _ _ (by decide)).trans hcount) hcount

theorem latchCause_watchdog (s : State) : CountsUp Obj.watchdogCount s (latchCause 6 s) := by
  have hshown : (causeShown (causeLatched 6 s)).get Obj.watchdogCount = s.get Obj.watchdogCount :=
    (get_put_ne _ _ _ _ (by decide)).trans (get_put_ne _ _ _ _ (by decide))
  have hcount : ((causeShown (causeLatched 6 s)).inc Obj.logicResetCount).get Obj.watchdogCount =
      s.get Obj.watchdogCount := (get_put_ne _ _ _ _ (by decide)).trans hshown
  rw [latchCause_eq]
  show (State.inc Obj.watchdogCount ((causeShown (causeLatched 6 s)).inc Obj.logicResetCount)).get Obj.watchdogCount = _
  rw [inc_eq, get_put_self _ _ _ rfl, hcount]

/-! A reset of the logic die (R339). -/

/-- Every part of a state but the levels at its balls. -/
def allParts : List Part := [.objs, .free, .places, .semas, .waits, .flights, .bursts, .ingress, .egress, .fns, .hostRest,
  .lat, .seq, .image, .recd, .salt, .axes, .setpts, .chans, .dies, .sup, .pow, .clk, .rst, .diag, .net, .gp]

/-- The reset state is shown. -/
def resetShown (c : Nat) (s : State) : State := ((latchCause c (loseLogic s)).put Obj.powerState 0).put Obj.powerPhase 0

theorem assertReset_eq (c : Nat) (s : State) : assertReset c s =
    ((resetShown c s).onRst fun r => { r with assertedAt := (resetShown c s).now }).onPow fun p =>
      { p with restart := true, failedAt := none, stateAt := (resetShown c s).now, phaseAt := (resetShown c s).now } := rfl

theorem resetShown_get {c k : Nat} (h1 : k ≠ Obj.powerState) (h2 : k ≠ Obj.powerPhase) (s : State) :
    (resetShown c s).get k = (latchCause c (loseLogic s)).get k :=
  (get_put_ne _ _ _ _ h2).trans (get_put_ne _ _ _ _ h1)

theorem assertReset_objs (c : Nat) (s : State) (k : Nat) : (assertReset c s).get k = (resetShown c s).get k := rfl

/-- What is in VAON stays, but for the power state and the causes. -/
theorem assertReset_get {k : Nat} (hk : k ∉ Obj.powerState :: Obj.powerPhase :: causeKeys) (hv : heldInVaon k = true)
    (c : Nat) (s : State) : (assertReset c s).get k = s.get k := by
  simp only [List.mem_cons, not_or] at hk
  obtain ⟨h1, h2, hk⟩ := hk
  rw [assertReset_objs, resetShown_get h1 h2, latchCause_get (by simpa using hk), loseLogic_get hv]

theorem resetShown_rst (c : Nat) (s : State) : (resetShown c s).rst = (causeLatched c (loseLogic s)).rst :=
  (put_rst ..).trans ((put_rst ..).trans (latchCause_rst ..))

theorem assertReset_watchdog (s : State) : CountsUp Obj.watchdogCount s (assertReset 6 s) := by
  have h := latchCause_watchdog (loseLogic s)
  rw [CountsUp, loseLogic_get rfl] at h
  exact ((assertReset_objs 6 s _).trans (resetShown_get (by decide) (by decide) s)).trans h

theorem assertReset_resets {c : Nat} (hc : 2 ≤ c ∧ c ≤ 8) (s : State) : Resets c s (assertReset c s) := by
  have hm : Moves (caps [.objs, .rst]) (loseLogic s) (resetShown c s) :=
    put_moves (put_moves (latchCause_moves (.refl _)))
  have hhost : (resetShown c s).host = HostSide.reset :=
    (put_host ..).trans ((put_host ..).trans (latchCause_ends (P := fun t => t.host = HostSide.reset)
      ((put_host ..).trans (put_host ..)) (fun t h => (put_host t _ _).trans h) fun t h => (put_host t _ _).trans h))
  have hpow : (resetShown c s).pow = (loseLogic s).pow := hm.part .pow (by decide)
  refine ⟨?_, ?_, ⟨?_, ?_⟩, ?_, ⟨?_, ?_⟩, ⟨hhost, hm.part .seq (by decide), hm.part .net (by decide)⟩, rfl⟩
  · rw [assertReset_eq]
    show ((resetShown c s).pow.logicUp && _) = false
    rw [hpow]
    rfl
  · show (resetShown c s).rst.inReset = true
    rw [resetShown_rst]
    rfl
  · show c ∈ (resetShown c s).rst.latched
    rw [resetShown_rst]
    exact mem_causeLatched c _
  · rw [assertReset_objs, resetShown_get (by decide) (by decide)]
    exact latchCause_cause (by omega) _
  · have h := latchCause_counts hc (loseLogic s)
    rw [CountsUp, loseLogic_get rfl] at h
    exact ((assertReset_objs c s _).trans (resetShown_get (by decide) (by decide) s)).trans h
  · refine (assertReset_objs c s _).trans ((get_put_ne _ _ _ _ (by decide)).trans ?_)
    exact (get_put_self Obj.powerState 0 _ rfl).trans (fitTo_zero _)
  · exact (assertReset_objs c s _).trans ((get_put_self Obj.powerPhase 0 _ rfl).trans (fitTo_zero _))

end Sys2Proof.Machine
end

section
/-! The calendar, the RTC and the monitors of the clocks -/
namespace Sys2Proof.Machine
open Sys2Proof Sys2Proof.Config

/-! Faults of a clock (R335). -/

set_option Elab.async false in
/-- The objects of a fault of a clock take it. -/
def faultShown (code b : Nat) (s : State) : State :=
  ((s.put Obj.lastClockFault code).inc Obj.clockFaultCount).setBit Obj.clockStatus b false

theorem clockFault_get {k : Nat} (hn : noisy k = false) (code b : Nat) (s : State) :
    (clockFault code b s).get k = (faultShown code b s).get k := by
  have heq : clockFault code b s = stateNotice Obj.clockStatus ((faultShown code b s).get Obj.clockStatus)
      (faultShown code b s) := rfl
  rw [heq, stateNotice_get _ _ _ _ hn]

theorem clockFault_code {code : Nat} (hc : code < 256) (b : Nat) (s : State) :
    (clockFault code b s).get Obj.lastClockFault = code := by
  rw [clockFault_get rfl]
  refine (get_put_ne _ _ _ _ (by decide)).trans ((get_put_ne _ _ _ _ (by decide)).trans ?_)
  exact (get_put_self Obj.lastClockFault code s rfl).trans (Nat.mod_eq_of_lt (by exact hc))

theorem clockFault_counts (code b : Nat) (s : State) : CountsUp Obj.clockFaultCount s (clockFault code b s) := by
  have hbefore : (s.put Obj.lastClockFault code).get Obj.clockFaultCount = s.get Obj.clockFaultCount :=
    get_put_ne _ _ _ _ (by decide)
  rw [CountsUp, clockFault_get rfl]
  refine (get_put_ne _ _ _ _ (by decide)).trans ?_
  rw [inc_eq, get_put_self _ _ _ rfl, hbefore]

theorem clockFault_bit (code b : Nat) (s : State) : BitTo Obj.clockStatus b false s (clockFault code b s) := by
  have hbefore : ((s.put Obj.lastClockFault code).inc Obj.clockFaultCount).get Obj.clockStatus = s.get Obj.clockStatus :=
    (get_put_ne _ _ _ _ (by decide)).trans (get_put_ne _ _ _ _ (by decide))
  intro j hj
  have h := bitTo_setBit Obj.clockStatus b false ((s.put Obj.lastClockFault code).inc Obj.clockFaultCount) rfl j hj
  rw [State.bit, State.bit, hbefore] at h
  rw [State.bit, State.bit, clockFault_get rfl]
  exact h

/-- A fault of a clock that resets the logic die. -/
theorem clockFault_resets {code : Nat} (hc : code < 256) (b : Nat) (s : State) :
    Resets 7 s (assertReset 7 (clockFault code b s)) ∧ (assertReset 7 (clockFault code b s)).get Obj.lastClockFault = code ∧
      CountsUp Obj.clockFaultCount s (assertReset 7 (clockFault code b s)) := by
  have hr := assertReset_resets (c := 7) (by decide) (clockFault code b s)
  have hcount : (clockFault code b s).get Obj.logicResetCount = s.get Obj.logicResetCount :=
    (clockFault_get rfl _ _ _).trans ((get_put_ne _ _ _ _ (by decide)).trans ((get_put_ne _ _ _ _ (by decide)).trans
      (get_put_ne _ _ _ _ (by decide))))
  refine ⟨⟨hr.stopped, hr.inReset, hr.cause, ?_, hr.state, hr.lost, hr.again⟩, ?_, ?_⟩
  · rw [CountsUp, ← hcount]
    exact hr.counts
  · rw [assertReset_get (by decide) rfl]
    exact clockFault_code hc b s
  · rw [CountsUp, assertReset_get (by decide) rfl]
    exact clockFault_counts code b s

/-! The bypass falls without its clock. -/

theorem dropBypass_coils (s : State) : (dropBypass s).net.bypass.coils = false :=
  of_ite (P := fun t : State => t.net.bypass.coils = false) rfl rfl

theorem dropBypass_get {k : Nat} (hk : ∀ p < 2, k ≠ Obj.portStatus p) (h : k ≠ Obj.bypassState) (s : State) :
    (dropBypass s).get k = s.get k :=
  of_ite (P := fun t : State => t.get k = s.get k) rfl
    ((get_put_ne Obj.bypassState 0 k (loopback false s) h).trans (loopback_get fun p hp => hk p (portList_small hp)))

theorem linksLost_bypass (ps : List Nat) (s : State) : (each ps linkLost s).net.bypass = s.net.bypass := by
  induction ps generalizing s with
  | nil => rfl
  | cons p ps ih => exact (ih _).trans (linkLost_bypass p s)

theorem physHeld_coils (s : State) : (physHeld s).net.bypass.coils = false :=
  (congrArg Bypass.coils (linksLost_bypass _ _)).trans (dropBypass_coils s)

theorem physHeld_get {k : Nat} (hk : ∀ p < 2, k ∉ linkKeys p) (h : k ≠ Obj.bypassState) (hn : noisy k = false) (s : State) :
    (physHeld s).get k = s.get k := by
  have hports (p : Nat) (hp : p < 2) : k ≠ Obj.portStatus p := by
    have := hk p hp
    simp only [linkKeys, List.mem_append, List.mem_cons, not_or] at this
    exact this.1.1
  refine (each_mem_get fun p hp u => ?_).trans (dropBypass_get hports h s)
  exact linkLost_get (portList_small hp) (hk p (portList_small hp)) hn u

/-! The rows. -/

theorem rtcAutoTrim_answers {s : State} (err : Int) (hl : s.live = true) (hc : s.get Obj.calState = 3)
    (ha : s.flag Obj.rtcAutoTrim = true) (hr : s.clk.rtcRuns = true) (ht : s.clk.lastTrim + sec 1024 ≤ s.now) :
    Answers (.rtcAutoTrim err) s fun t =>
      t.get Obj.rtcTrim = encSigned 16 (clampTo 2000 (s.geti Obj.rtcTrim - err)) ∧ t.clk.lastTrim = s.now ∧
      OnlyMoves [Obj.rtcTrim] s t := by
  have he : exec (.rtcAutoTrim err) s = s.answer ((setTrim (encSigned 16 (clampTo 2000 (s.geti Obj.rtcTrim - err))) s).onClk
      fun k => { k with lastTrim := s.now }) := by
    show execRtcAutoTrim err s = _
    rw [execRtcAutoTrim, answerLive_live hl, if_pos ⟨hc, ha, hr, ht⟩]
  have hm : Moves (caps [.objs, .clk]) s ((setTrim (encSigned 16 (clampTo 2000 (s.geti Obj.rtcTrim - err))) s).onClk
      fun k => { k with lastTrim := s.now }) := onClk_moves (setTrim_moves (.refl s))
  refine answers_answer _ he hm.variant hm.pending ⟨?_, rfl, fun k hk => ?_⟩
  · exact (get_put_self Obj.rtcTrim _ (holdRtc s) rfl).trans (fitTo_encSigned Obj.rtcTrim _)
  · exact get_put_ne _ _ _ (holdRtc s) (by simpa using hk)

theorem calOffsetSave_answers {s : State} (hl : s.live = true) (hv : s.calValid = true)
    (ht : s.clk.lastOffsetSave + sec 1 ≤ s.now) : Answers .calOffsetSave s fun t =>
      t.objs = s.objs ∧
      t.clk = { s.clk with calOffset := some ((s.calNs : Int) - rtcNs s.rtc), lastOffsetSave := s.now } := by
  have he : exec .calOffsetSave s = s.answer (saveOffset s) := by
    show execCalOffsetSave s = _
    rw [execCalOffsetSave, answerLive_live hl, if_pos (by simp [hv, ht])]
  have hm : Moves (caps [.clk]) s (saveOffset s) := saveOffset_moves (.refl s)
  refine answers_answer _ he hm.variant hm.pending ⟨rfl, ?_⟩
  show ({ s.clk with calOffset := if s.calValid = true then _ else none, lastOffsetSave := s.now } : Clocks) = _
  rw [if_pos hv]

theorem holdoverExpiry_answers {s : State} (hl : s.live = true) (hv : s.calValid = true)
    (ha : s.get Obj.holdoverLimit < s.disciplineAge) : Answers .holdoverExpiry s fun t =>
      t.get Obj.calState = 0 ∧ OnlyMoves [Obj.calState] s t ∧ t.clk.calOffset = none ∧ t.clk.rate = 0 := by
  have he : exec .holdoverExpiry s = s.answer (saveOffset ((setRate 0 0 s).put Obj.calState 0)) := by
    show execHoldoverExpiry s = _
    rw [execHoldoverExpiry, answerLive_live hl, if_pos (by simp [hv, ha])]
  have hm : Moves (caps [.objs, .clk]) s (saveOffset ((setRate 0 0 s).put Obj.calState 0)) :=
    saveOffset_moves (put_moves (onClk_moves (setCal_moves (.refl s))))
  have hcal : ((setRate 0 0 s).put Obj.calState 0).get Obj.calState = 0 :=
    (get_put_self Obj.calState 0 (setRate 0 0 s) rfl).trans (fitTo_zero _)
  refine answers_answer _ he hm.variant hm.pending ⟨hcal, fun k hk => ?_, ?_, ?_⟩
  · exact get_put_ne Obj.calState 0 k (setRate 0 0 s) (by simpa using hk)
  · have hinvalid : ((setRate 0 0 s).put Obj.calState 0).calValid = false := by rw [State.calValid, hcal]; rfl
    show (if ((setRate 0 0 s).put Obj.calState 0).calValid = true then some _ else none) = none
    rw [hinvalid]
    rfl
  · show ((setRate 0 0 s).put Obj.calState 0).clk.rate = 0
    rw [put_clk]
    rfl

theorem operatingSecond_answers {s : State} (hl : s.live = true) (ht : s.clk.tbSeconds < s.tb / 1000000) :
    Answers .operatingSecond s fun t =>
      CountsUp Obj.operatingSeconds s t ∧ OnlyMoves [Obj.operatingSeconds] s t ∧
      t.clk = { s.clk with tbSeconds := s.clk.tbSeconds + 1 } := by
  have he : exec .operatingSecond s = s.answer (countSeconds 1 s) := by
    show execOperatingSecond s = _
    rw [execOperatingSecond, answerLive_live hl, if_pos ht]
  have hm : Moves (caps [.objs, .clk]) s (countSeconds 1 s) := onClk_moves (put_moves (.refl s))
  refine answers_answer _ he hm.variant hm.pending ⟨get_put_self _ _ s rfl, fun k hk => ?_, ?_⟩
  · exact get_put_ne Obj.operatingSeconds _ k s (by simpa using hk)
  · show ({ (s.addTo Obj.operatingSeconds 1).clk with tbSeconds := _ } : Clocks) = _
    rw [addTo_eq, put_clk]

theorem pllUnlock_answers {s : State} (held : Nat) (hl : s.live = true) (hh : 1 ≤ held) : Answers (.pllUnlock held) s fun t =>
    Resets 7 s t ∧ t.get Obj.lastClockFault = 1 ∧ CountsUp Obj.clockFaultCount s t := by
  have he : exec (.pllUnlock held) s = s.answer (assertReset 7 (clockFault 1 0 s)) := by
    show execPllUnlock held s = _
    rw [execPllUnlock, answerLive_live hl, if_pos hh]
  have hm := (assertReset_moves (clockFault_moves (.refl s)) : Moves (caps allParts) s (assertReset 7 (clockFault 1 0 s)))
  exact answers_answer _ he hm.variant hm.pending (clockFault_resets (by decide) 0 s)

section
variable {s : State} (n : Nat) (hl : s.live = true) (hr : s.clk.rtcRuns = true)
include hl hr

theorem xtalFreq_fails (hn : n < 31094 ∨ 31406 < n) (hx : s.clk.xtalBad ≠ 0) : Answers (.xtalFreq n) s fun t =>
    Resets 7 s t ∧ t.get Obj.lastClockFault = 2 ∧ CountsUp Obj.clockFaultCount s t := by
  have he : exec (.xtalFreq n) s = s.answer (assertReset 7 (clockFault 2 1 s)) := by
    show execXtalFreq n s = _
    rw [execXtalFreq, answerLive_live hl, hr, if_neg (by decide), if_neg (by omega), if_neg hx]
  have hm := (assertReset_moves (clockFault_moves (.refl s)) : Moves (caps allParts) s (assertReset 7 (clockFault 2 1 s)))
  exact answers_answer _ he hm.variant hm.pending (clockFault_resets (by decide) 1 s)

theorem xtalFreq_doubts (hn : n < 31094 ∨ 31406 < n) (hx : s.clk.xtalBad = 0) : Answers (.xtalFreq n) s fun t =>
    t.objs = s.objs ∧ t.clk = { s.clk with xtalBad := 1 } := by
  have he : exec (.xtalFreq n) s = s.answer (s.onClk fun k => { k with xtalBad := 1 }) := by
    show execXtalFreq n s = _
    rw [execXtalFreq, answerLive_live hl, hr, if_neg (by decide), if_neg (by omega), if_pos hx]
  exact answers_answer _ he rfl rfl ⟨rfl, rfl⟩

theorem xtalFreq_passes (h1 : 31094 ≤ n) (h2 : n ≤ 31406) : Answers (.xtalFreq n) s fun t =>
    t.objs = s.objs ∧ t.clk = { s.clk with xtalBad := 0 } := by
  have he : exec (.xtalFreq n) s = s.answer (s.onClk fun k => { k with xtalBad := 0 }) := by
    show execXtalFreq n s = _
    rw [execXtalFreq, answerLive_live hl, hr, if_neg (by decide), if_pos ⟨h1, h2⟩]
  exact answers_answer _ he rfl rfl ⟨rfl, rfl⟩

end

section
variable {s : State} (hl : s.live = true)
include hl

theorem clockDivFault_answers (w : Fin 3) (n : Nat)
    (hn : n + 1 < [300000, 150000, 25000].getD w 0 ∨ [300000, 150000, 25000].getD w 0 + 1 < n) :
    Answers (.clockDivFault w n) s fun t =>
      Resets 7 s t ∧ t.get Obj.lastClockFault = [3, 4, 6].getD w 0 ∧ CountsUp Obj.clockFaultCount s t := by
  have hoff : countOff ([300000, 150000, 25000].getD w 0) n = true := decide_eq_true hn
  have hcodes : ∀ w : Fin 3, [3, 4, 6].getD w 0 < 256 := by decide
  have he : exec (.clockDivFault w n) s = s.answer (assertReset 7 (clockFault ([3, 4, 6].getD w 0) ([2, 3, 5].getD w 0) s)) := by
    show execClockDivFault w n s = _
    obtain ⟨w, hw⟩ := w
    obtain rfl | rfl | rfl : w = 0 ∨ w = 1 ∨ w = 2 := by omega
    all_goals exact (answerLive_live hl _).trans (congrArg s.answer (if_pos hoff))
  have hm := (assertReset_moves (clockFault_moves (.refl s)) : Moves (caps allParts) s
    (assertReset 7 (clockFault ([3, 4, 6].getD w 0) ([2, 3, 5].getD w 0) s)))
  exact answers_answer _ he hm.variant hm.pending (clockFault_resets (hcodes w) _ s)

theorem nclkDiv_answers (n : Nat) (hb : s.clk.nclkBad = false) (hn : n + 1 < 125000 ∨ 125001 < n) :
    Answers (.nclkDiv n) s fun t =>
      t.clk = { s.clk with nclkBad := true } ∧ BitTo Obj.clockStatus 4 false s t ∧ t.get Obj.lastClockFault = 5 ∧
      CountsUp Obj.clockFaultCount s t ∧ t.net.bypass.coils = false := by
  have hoff : countOff 125000 n = true := decide_eq_true hn
  have he : exec (.nclkDiv n) s = s.answer (physHeld (clockFault 5 4 (s.onClk fun k => { k with nclkBad := true }))) := by
    show execNclkDiv n s = _
    rw [execNclkDiv, answerLive_live hl, hoff, hb]
    rfl
  have hm : Moves (caps [.objs, .net]) (s.onClk fun k => { k with nclkBad := true })
      (physHeld (clockFault 5 4 (s.onClk fun k => { k with nclkBad := true }))) :=
    physHeld_moves (clockFault_moves (.refl _))
  refine answers_answer _ he hm.variant hm.pending ⟨hm.part .clk (by decide), ?_, ?_, ?_, physHeld_coils _⟩
  · exact (clockFault_bit 5 4 (s.onClk fun k => { k with nclkBad := true })).of_get
      (physHeld_get (by decide) (by decide) rfl _)
  · rw [physHeld_get (by decide) (by decide) rfl]
    exact clockFault_code (by decide) 4 _
  · rw [CountsUp, physHeld_get (by decide) (by decide) rfl]
    exact clockFault_counts 5 4 _

theorem nclkRecover_answers (held : Nat) (hb : s.clk.nclkBad = true) (hh : 1000000 ≤ held) :
    Answers (.nclkRecover held) s fun t =>
      t.clk = { s.clk with nclkBad := false } ∧ BitTo Obj.clockStatus 4 true s t ∧ OnlyMoves [Obj.clockStatus] s t := by
  have he : exec (.nclkRecover held) s =
      s.answer ((s.onClk fun k => { k with nclkBad := false }).setBit Obj.clockStatus 4 true) := by
    show execNclkRecover held s = _
    rw [execNclkRecover, answerLive_live hl, if_pos (by simp [hb, hh])]
  have hm : Moves (caps [.objs, .clk]) s ((s.onClk fun k => { k with nclkBad := false }).setBit Obj.clockStatus 4 true) :=
    put_moves (onClk_moves (.refl s))
  exact answers_answer _ he hm.variant hm.pending ⟨put_clk .., bitTo_setBit Obj.clockStatus 4 true _ rfl,
    fun k hk => get_put_ne Obj.clockStatus _ k (s.onClk fun k => { k with nclkBad := false }) (by simpa using hk)⟩

end

/-- The RTC stops at the count that it had when its last edge came. -/
def rtcStopped (held : Nat) (s : State) : State :=
  (holdRtc s).onClk fun k => { k with rtcRuns := false, rtcBase := s.rtc - held * 32768 / 1000000 }

/-- The device's own count of the crystal begins anew with the RTC's return. -/
def rtcDropped (held : Nat) (s : State) : State := (rtcStopped held s).onClk fun k => { k with xtalBad := 0 }

theorem rtc_stopped {held : Nat} {s t : State} (h : t.clk.rtcRuns = false) (hb : t.clk.rtcBase = s.rtc - held * 32768 / 1000000) :
    t.rtc = s.rtc - held * 32768 / 1000000 := by
  rw [State.rtc, h]
  exact hb

theorem rtcStop_answers {s : State} (held : Nat) (hh : 1000 ≤ held) (hr : s.clk.rtcRuns = true) :
    Answers (.rtcStop held) s fun t =>
      t.clk.rtcRuns = false ∧ t.rtc = s.rtc - held * 32768 / 1000000 ∧
      (s.live = true → BitTo Obj.clockStatus 6 false s t ∧ t.get Obj.lastClockFault = 7 ∧
        CountsUp Obj.clockFaultCount s t) := by
  have hexec : exec (.rtcStop held) s = s.answer (if (rtcStopped held s).live = true
      then clockFault 7 6 (rtcDropped held s) else rtcStopped held s) := by
    show execRtcStop held s = _
    rw [execRtcStop, if_pos ⟨hh, hr⟩]
    rfl
  by_cases hl : s.live = true
  · have he := hexec.trans (congrArg s.answer (if_pos (show (rtcStopped held s).live = true from hl)))
    have hm : Moves (caps [.objs]) (rtcDropped held s)
        (clockFault 7 6 (rtcDropped held s)) := clockFault_moves (.refl _)
    have hclk : (clockFault 7 6 (rtcDropped held s)).clk = (rtcDropped held s).clk := hm.part .clk (by decide)
    have hruns : (clockFault 7 6 (rtcDropped held s)).clk.rtcRuns = false := (congrArg Clocks.rtcRuns hclk).trans rfl
    have hbase : (clockFault 7 6 (rtcDropped held s)).clk.rtcBase = s.rtc - held * 32768 / 1000000 :=
      (congrArg Clocks.rtcBase hclk).trans rfl
    refine answers_answer _ he hm.variant hm.pending ⟨hruns, ?_, fun _ => ⟨?_, ?_, ?_⟩⟩
    · exact rtc_stopped hruns hbase
    · exact clockFault_bit 7 6 (rtcDropped held s)
    · exact clockFault_code (by decide) 6 _
    · exact clockFault_counts 7 6 (rtcDropped held s)
  · have he := hexec.trans (congrArg s.answer (if_neg (show ¬ (rtcStopped held s).live = true from hl)))
    exact answers_answer _ he rfl rfl ⟨rfl, rtc_stopped rfl rfl, fun h => absurd h hl⟩

theorem rtcEdgesReturn_answers {s : State} (hr : s.clk.rtcRuns = false) : Answers .rtcEdgesReturn s fun t =>
    t.clk = { s.clk with rtcRuns := true, rtcAt := s.now } ∧ OnlyMoves [Obj.clockStatus] s t ∧
      (s.live = true → BitTo Obj.clockStatus 6 true s t) := by
  have hexec : exec .rtcEdgesReturn s = s.answer (if s.live = true
      then (s.onClk fun k => { k with rtcRuns := true, rtcAt := s.now }).setBit Obj.clockStatus 6 true
      else s.onClk fun k => { k with rtcRuns := true, rtcAt := s.now }) := by
    show execRtcEdgesReturn s = _
    rw [execRtcEdgesReturn, hr]
    rfl
  by_cases hl : s.live = true
  · have hm : Moves (caps [.objs, .clk]) s ((s.onClk fun k => { k with rtcRuns := true, rtcAt := s.now }).setBit
        Obj.clockStatus 6 true) := put_moves (onClk_moves (.refl s))
    exact answers_answer _ (hexec.trans (congrArg s.answer (if_pos hl))) hm.variant hm.pending ⟨put_clk ..,
      fun k hk => get_put_ne Obj.clockStatus _ k (s.onClk fun k => { k with rtcRuns := true, rtcAt := s.now })
        (by simpa using hk), fun _ => bitTo_setBit Obj.clockStatus 6 true _ rfl⟩
  · exact answers_answer _ (hexec.trans (congrArg s.answer (if_neg hl))) rfl rfl
      ⟨rfl, fun _ _ => rfl, fun h => absurd h hl⟩

/-- Settles O19: the calendar, the RTC and the seconds run, and each clock out of its limits takes its fault. -/
theorem calendarRtcAndClockMonitors : Obligations.CalendarRtcAndClockMonitors := by
  refine fun s => ⟨fun err => rtcAutoTrim_answers err, calOffsetSave_answers, holdoverExpiry_answers,
    operatingSecond_answers, fun held hl => pllUnlock_answers held hl, fun n hl hr hn => ⟨?_, ?_⟩, fun n hl hr => ?_,
    fun w n hl => clockDivFault_answers hl w n, fun n hl => nclkDiv_answers hl n, fun held hl => nclkRecover_answers hl held,
    fun held => rtcStop_answers held, rtcEdgesReturn_answers⟩
  · exact xtalFreq_fails n hl hr hn
  · exact xtalFreq_doubts n hl hr hn
  · exact xtalFreq_passes n hl hr

end Sys2Proof.Machine
end

section
/-! Resets and starts -/
namespace Sys2Proof.Machine
open Sys2Proof Sys2Proof.Config

/-! Starts (R316, R344). -/

set_option Elab.async false in
/-- The objects that the entry into P0 shows. -/
def p0Shown (s : State) : State :=
  ((s.put Obj.powerState 0).put Obj.powerPhase 0x10).put Obj.lastWakeCause s.pow.wakeCause

theorem enterP0_eq (s : State) : enterP0 s =
    (((p0Shown s).onLat fun l => { l with loopOpenAt := (p0Shown s).now }).onRst fun r =>
      { r with latched := [], brownAt := none, p0At := (p0Shown s).now, releasedAt := (p0Shown s).now }).onPow fun p =>
      { p with restart := false, failedAt := none, phaseAt := (p0Shown s).now, stateAt := (p0Shown s).now } := by
  have hpow : ((s.put Obj.powerState 0).put Obj.powerPhase 0x10).pow = s.pow := (put_pow ..).trans (put_pow ..)
  unfold p0Shown
  rw [← hpow]
  rfl

/-- From `s` to `t` a start is in P0. -/
structure EntersP0 (s t : State) : Prop where
  phase : t.get Obj.powerPhase = 0x10
  state : t.get Obj.powerState = 0
  restart : t.pow.restart = false
  failed : t.pow.failedAt = none
  began : t.rst.p0At = s.now
  latched : t.rst.latched = []
  wake : t.get Obj.lastWakeCause = fitTo Obj.lastWakeCause s.pow.wakeCause
  cause : t.get Obj.resetCause = s.get Obj.resetCause

theorem p0Shown_now (s : State) : (p0Shown s).now = s.now := (put_now ..).trans ((put_now ..).trans (put_now ..))

theorem enterP0_get (k : Nat) (s : State) : (enterP0 s).get k = (p0Shown s).get k := by
  rw [enterP0_eq]
  rfl

theorem p0Shown_get (k : Nat) (h : k ≠ Obj.lastWakeCause) (s : State) :
    (p0Shown s).get k = ((s.put Obj.powerState 0).put Obj.powerPhase 0x10).get k := get_put_ne _ _ _ _ h

theorem enterP0_enters (s : State) : EntersP0 s (enterP0 s) := by
  refine ⟨?_, ?_, rfl, rfl, p0Shown_now s, rfl, ?_, ?_⟩
  · rw [enterP0_get, p0Shown_get _ (by decide), get_put_self _ _ _ rfl]
    rfl
  · rw [enterP0_get, p0Shown_get _ (by decide), get_put_ne _ _ _ _ (by decide), get_put_self _ _ _ rfl, fitTo_zero]
  · exact (enterP0_get _ s).trans (get_put_self Obj.lastWakeCause _ _ rfl)
  · rw [enterP0_get, p0Shown_get _ (by decide), get_put_ne _ _ _ _ (by decide), get_put_ne _ _ _ _ (by decide)]

/-! The rows. -/

/-- XRESET_N is low. -/
def xresetHeld (s : State) : State := s.onRst fun r => { r with xresetLow := true }

section
variable {s : State} {held : Nat} (hh : 2 ≤ held) (hx : s.rst.xresetLow = false)
include hh hx

theorem execXresetAssert_eq : exec (.xresetAssert held) s = s.answer (if (xresetHeld s).parked = true
    then (latchCause 5 (xresetHeld s)).onPow fun p => { p with restart := true } else assertReset 5 (xresetHeld s)) := by
  show execXresetAssert held s = _
  rw [execXresetAssert, if_neg (by simp [hx]; omega)]
  rfl

theorem xresetAssert_resets (hp : s.get Obj.powerState ≤ 3) : Answers (.xresetAssert held) s fun t =>
    Resets 5 s t ∧ t.rst.xresetLow = true := by
  have hup : (xresetHeld s).parked = false := decide_eq_false (by rw [show (xresetHeld s).get _ = s.get _ from rfl]; omega)
  have he : exec (.xresetAssert held) s = s.answer (assertReset 5 (xresetHeld s)) := by
    rw [execXresetAssert_eq hh hx, hup]
    rfl
  have hm : Moves (caps allParts) s (assertReset 5 (xresetHeld s)) := assertReset_moves (onRst_moves (.refl s))
  have hr := assertReset_resets (c := 5) (by decide) (xresetHeld s)
  refine answers_answer _ he hm.variant hm.pending
    ⟨⟨hr.stopped, hr.inReset, hr.cause, hr.counts, hr.state, hr.lost, hr.again⟩, ?_⟩
  show (resetShown 5 (xresetHeld s)).rst.xresetLow = true
  rw [resetShown_rst]
  show (saveSettings (cutJob (xresetHeld s))).rst.xresetLow = true
  have hkept : Moves (caps [.free, .salt, .pow]) (xresetHeld s) (saveSettings (cutJob (xresetHeld s))) :=
    saveSettings_moves (cutJob_moves (.refl _))
  exact congrArg ResetUnit.xresetLow (hkept.part .rst (by decide) : _ = (xresetHeld s).rst)

theorem xresetAssert_latches (hp : 4 ≤ s.get Obj.powerState) : Answers (.xresetAssert held) s fun t =>
    5 ∈ t.rst.latched ∧ CountsUp Obj.logicResetCount s t ∧ t.rst.xresetLow = true ∧ t.pow.restart = true := by
  have hup : (xresetHeld s).parked = true := decide_eq_true hp
  have he : exec (.xresetAssert held) s =
      s.answer ((latchCause 5 (xresetHeld s)).onPow fun p => { p with restart := true }) := by
    rw [execXresetAssert_eq hh hx, hup]
    rfl
  have hm : Moves (caps [.objs, .rst, .pow]) s ((latchCause 5 (xresetHeld s)).onPow fun p => { p with restart := true }) :=
    onPow_moves (latchCause_moves (onRst_moves (.refl s)))
  refine answers_answer _ he hm.variant hm.pending ⟨?_, latchCause_counts (by decide) (xresetHeld s), ?_, rfl⟩
  · show 5 ∈ (latchCause 5 (xresetHeld s)).rst.latched
    rw [latchCause_rst]
    exact mem_causeLatched 5 _
  · show (latchCause 5 (xresetHeld s)).rst.xresetLow = true
    rw [latchCause_rst]
    rfl

end

theorem tryStart_of_startable {s : State} (h : s.startable = true) : tryStart s = enterP0 s := if_pos h

theorem xresetRelease_answers (s : State) : Answers .xresetRelease s fun t => t.rst.xresetLow = false ∧
    ((s.onRst fun r => { r with xresetLow := false }).startable = true → t.get Obj.powerPhase = 0x10) ∧
    ((s.onRst fun r => { r with xresetLow := false }).startable = false → t.objs = s.objs) := by
  generalize hu : (s.onRst fun r => { r with xresetLow := false }) = u
  have he : exec .xresetRelease s = s.answer (tryStart u) := by rw [← hu]; rfl
  have hlow : u.rst.xresetLow = false := by rw [← hu]; rfl
  have hobjs : u.objs = s.objs := by rw [← hu]; rfl
  have hm : Moves (caps [.objs, .lat, .pow, .rst]) s (tryStart u) :=
    .ite (enterP0_moves (hu ▸ onRst_moves (.refl s))) (hu ▸ onRst_moves (.refl s))
  refine answers_answer _ he hm.variant hm.pending ⟨?_, fun h => ?_, fun h => ?_⟩
  · refine of_ite (P := fun t : State => t.rst.xresetLow = false) ?_ hlow
    rw [enterP0_eq]
    show (p0Shown u).rst.xresetLow = false
    rw [p0Shown, put_rst, put_rst, put_rst, hlow]
  · rw [tryStart_of_startable h]
    exact (enterP0_enters u).phase
  · rw [tryStart, h]
    exact hobjs

theorem watchdogExpiry_answers {s : State} (hl : s.live = true) (ha : s.rst.armed = true)
    (hp : s.get Obj.powerPhase ≠ 0x24)
    (hs : s.rst.lastTickAt + ms (s.get Obj.watchdogTimeout) ≤ s.now ∨
      ∃ f ∈ s.host.flights, f.inLane = true ∧ f.since + ms (s.get Obj.watchdogTimeout) ≤ s.now) :
    Answers .watchdogExpiry s fun t => Resets 6 s t ∧ CountsUp Obj.watchdogCount s t := by
  have hstuck : (decide (s.rst.lastTickAt + ms (s.get Obj.watchdogTimeout) ≤ s.now) ||
      s.host.flights.any fun f => f.inLane && decide (f.since + ms (s.get Obj.watchdogTimeout) ≤ s.now)) = true := by
    obtain h | ⟨f, hf, hlane, hold⟩ := hs
    · simp [h]
    · refine Bool.or_eq_true_iff.2 (.inr (List.any_eq_true.2 ⟨f, hf, ?_⟩))
      simp [hlane, hold]
  have he : exec .watchdogExpiry s = s.answer (assertReset 6 s) := by
    show execWatchdogExpiry s = _
    rw [execWatchdogExpiry, answerLive_live hl]
    dsimp only
    rw [hstuck, ha, if_pos (by simpa using hp)]
  have hm : Moves (caps allParts) s (assertReset 6 s) := assertReset_moves (.refl s)
  exact answers_answer _ he hm.variant hm.pending ⟨assertReset_resets (by decide) s, assertReset_watchdog s⟩

theorem deviceResetAssert_answers {s : State} (hl : s.live = true) (hd : s.rst.device = true)
    (ht : Passed s.rst.deviceCommitAt (ms 2) s) : Answers .deviceResetAssert s fun t => Resets 8 s t := by
  have he : exec .deviceResetAssert s = s.answer (assertReset 8 s) := by
    show execDeviceResetAssert s = _
    rw [execDeviceResetAssert, answerLive_live hl, hd, heldFor_passed ht]
    rfl
  have hm : Moves (caps allParts) s (assertReset 8 s) := assertReset_moves (.refl s)
  exact answers_answer _ he hm.variant hm.pending (assertReset_resets (by decide) s)

theorem cutJob_salt (s : State) : (cutJob s).salt = { s.salt with journal := (cutJob s).salt.journal } := by
  unfold cutJob
  split
  · rfl
  · exact of_ite (P := fun t : State => t.salt = { s.salt with journal := t.salt.journal }) rfl rfl

/-- What a POR of VAON leaves of a state whose logic die has stopped. -/
def porLeft (w : State) : State :=
  { State.powerOn w.variant with
    now := w.now, free := w.free, pending := w.pending, salt := w.salt
    objs := w.objs.filter fun e => keptAtPower e.1 || (w.keptAtReset e.1 && decide (0x600000 ≤ e.1))
    chans := w.chans, dies := w.dies, direct := w.direct, wakes := w.wakes
    gp := { (State.powerOn w.variant).gp with outside := w.gp.outside }
    diag := { (State.powerOn w.variant).diag with badWords := w.diag.badWords }
    rst := { (State.powerOn w.variant).rst with xresetLow := w.rst.xresetLow, assertedAt := w.now }
    clk := { (State.powerOn w.variant).clk with rtcAt := w.now }
    sup := { (State.powerOn w.variant).sup with okAt := some w.now } }

theorem loseLogic_salt (s : State) : (loseLogic s).salt = { s.salt with journal := (loseLogic s).salt.journal } := by
  have hm : Moves (caps [.pow]) (cutJob s) (saveSettings (cutJob s)) := saveSettings_moves (.refl _)
  have hsalt : (loseLogic s).salt = (cutJob s).salt := hm.part .salt (by decide)
  rw [hsalt]
  exact cutJob_salt s

theorem loseLogic_regs (s : State) : (loseLogic s).dies.map (·.regs) = s.dies.map (·.regs) := by
  have hm : Moves (caps [.free, .salt, .pow]) s (saveSettings (cutJob s)) := saveSettings_moves (cutJob_moves (.refl _))
  have hdies : (loseLogic s).dies = s.dies.map fun d => { d with lattUp := false, funcUp := false } := by
    have hdies : (saveSettings (cutJob s)).dies = s.dies := hm.part .dies (by decide)
    rw [← hdies]
    rfl
  rw [hdies, List.map_map]
  rfl

theorem vaonPor_answers {s : State} (mv : Int) (held : Nat) (hv : mv < 1550) (hh : 2 ≤ held) :
    Answers (.vaonPor mv held) s fun t =>
      t.live = false ∧ t.rst.latched = [1] ∧ t.pow = Power.reset ∧ t.host = HostSide.reset ∧ t.net = Net.reset ∧
      t.salt.copyA = s.salt.copyA ∧ t.salt.copyB = s.salt.copyB ∧ t.salt.cycleLog = s.salt.cycleLog ∧
      t.salt.eventLog = s.salt.eventLog ∧ t.salt.faultLog = s.salt.faultLog ∧
      t.dies.map (·.regs) = s.dies.map (·.regs) ∧ t.clk.rtcBase = 0 ∧ t.now = s.now := by
  have he : exec (.vaonPor mv held) s = s.answer (porLeft (loseLogic s)) := by
    show execVaonPor mv held s = _
    rw [execVaonPor, if_pos ⟨hv, hh⟩]
    rfl
  have hm : Moves (caps allParts) s (loseLogic s) := loseLogic_moves (.refl s)
  have hsalt := loseLogic_salt s
  refine answers_answer _ he hm.variant hm.pending ⟨rfl, rfl, rfl, rfl, rfl, ?_, ?_, ?_, ?_, ?_, loseLogic_regs s, rfl, hm.now⟩
  all_goals
    rw [show (porLeft (loseLogic s)).salt = (loseLogic s).salt from rfl, hsalt]

theorem restartHoldoffExpiry_answers {s : State} (h : s.startable = true) :
    Answers .restartHoldoffExpiry s fun t => t.get Obj.powerPhase = 0x10 ∧ t.pow.restart = false := by
  have hr : s.pow.restart = true := by
    simp only [State.startable, Bool.and_eq_true] at h
    obtain ⟨⟨⟨⟨⟨⟨⟨-, hrestart⟩, -⟩, -⟩, -⟩, -⟩, -⟩, -⟩ := h
    exact hrestart
  have he : exec .restartHoldoffExpiry s = s.answer (enterP0 s) := by
    show execRestartHoldoffExpiry s = _
    rw [execRestartHoldoffExpiry, hr, tryStart_of_startable h]
    simp
  have hm : Moves (caps [.objs, .lat, .pow, .rst]) s (enterP0 s) := enterP0_moves (.refl s)
  exact answers_answer _ he hm.variant hm.pending ⟨(enterP0_enters s).phase, (enterP0_enters s).restart⟩

theorem phaseP0_answers {s : State} (h : s.startable = true) : Answers .phaseP0 s fun t =>
    t.get Obj.powerPhase = 0x10 ∧ t.get Obj.powerState = 0 ∧ t.pow.restart = false ∧ t.rst.p0At = s.now ∧
      t.rst.latched = [] ∧ t.get Obj.lastWakeCause = fitTo Obj.lastWakeCause s.pow.wakeCause := by
  have he : exec .phaseP0 s = s.answer (enterP0 s) := by
    show execPhaseP0 s = _
    rw [execPhaseP0, tryStart_of_startable h]
  have hm : Moves (caps [.objs, .lat, .pow, .rst]) s (enterP0 s) := enterP0_moves (.refl s)
  obtain ⟨hphase, hstate, hrestart, -, hbegan, hlatched, hwake, -⟩ := enterP0_enters s
  exact answers_answer _ he hm.variant hm.pending ⟨hphase, hstate, hrestart, hbegan, hlatched, hwake⟩

/-- Settles O23: what resets the logic die stops it with its cause, and a start that nothing holds is in P0. -/
theorem resetsStopTheLogicDieAndStartsBegin : Obligations.ResetsStopTheLogicDieAndStartsBegin :=
  fun s => ⟨fun _ hh hx => xresetAssert_resets hh hx, fun _ hh hx => xresetAssert_latches hh hx, xresetRelease_answers s,
    watchdogExpiry_answers, deviceResetAssert_answers, fun mv held => vaonPor_answers mv held,
    restartHoldoffExpiry_answers, phaseP0_answers⟩

end Sys2Proof.Machine
end

section
/-! Rails and failed starts -/
namespace Sys2Proof.Machine
open Sys2Proof Sys2Proof.Config

/-! Rails and the lines that enable them (R285). -/

set_option Elab.async false in
theorem onPen_pen {i j : Nat} (hij : j ≠ i) (f : Pen → Pen) (s : State) : (onPen i f s).pen j = s.pen j := by
  unfold State.pen onPen
  show ((((s.sup.pens.modify i _).getD j ⟨false, 0, none⟩).settle s.now).high) = _
  rw [List.getD_eq_getElem?_getD, List.getElem?_modify, List.getD_eq_getElem?_getD]
  simp only [Ne.symm hij, if_false, id_map']

theorem raisePen_railAt (i n : Nat) (s : State) : (raisePen i n s).sup.railAt = s.sup.railAt :=
  of_ite (P := fun t : State => t.sup.railAt = s.sup.railAt) rfl rfl

theorem raisePen_objs (i n : Nat) (s : State) : (raisePen i n s).objs = s.objs :=
  of_ite (P := fun t : State => t.objs = s.objs) rfl rfl

theorem raisePen_railGood {i r : Nat} (hr : r ≠ railOfPen i) (hi : railOfPen r ≠ i) (n : Nat) (s : State) :
    (raisePen i n s).railGood r = s.railGood r := by
  refine of_ite (P := fun t : State => t.railGood r = s.railGood r) rfl ?_
  unfold State.railGood
  rw [onPen_pen hi]
  show ((setBitOf s.sup.rails (railOfPen i) false).testBit r && _) = _
  rw [testBit_setBitOf, if_neg hr]
  rfl

section
variable {s : State}

/-- The rail's power-good. -/
def railUp (r : Nat) (s : State) : State := s.onSup fun u => { u with rails := u.rails ||| 2 ^ r, railAt := s.now }

theorem railUp_good {r : Nat} (hp : s.pen (railOfPen r) = true) : (railUp r s).railGood r = true := by
  show ((s.sup.rails ||| 2 ^ r).testBit r && s.pen (railOfPen r)) = true
  rw [hp, Nat.testBit_or, Nat.testBit_two_pow_self, Bool.or_true]
  rfl

theorem railPowerGood_answers (r : Fin 4) (mv : Int) (hg : s.railGood r = false) (hp : s.pen (railOfPen r) = true)
    (hv : (railLevels r).1 ≤ mv) : Answers (.railPowerGood r mv) s fun t =>
      t.railGood r = true ∧ t.objs = s.objs ∧ t.sup.railAt = s.now := by
  have he : exec (.railPowerGood r mv) s = s.answer (if (railUp r s).get Obj.powerPhase = 0x11 ∧ railOfPen r < 3
      then raisePen (railOfPen r + 1) (s.now + ms 1) (railUp r s) else railUp r s) := by
    show execRailPowerGood r mv s = _
    have hc : ¬ (mv < (railLevels r).1 ∨ s.railGood r = true ∨ s.pen (railOfPen r) = false) := by
      rw [hg, hp]
      simp only [Bool.false_eq_true, Bool.true_eq_false, or_false]
      omega
    obtain ⟨r, hr⟩ := r
    obtain rfl | rfl | rfl | rfl : r = 0 ∨ r = 1 ∨ r = 2 ∨ r = 3 := by omega
    all_goals exact congrArg s.answer (if_neg hc)
  have hm : Moves (caps [.sup]) s (if (railUp r s).get Obj.powerPhase = 0x11 ∧ railOfPen r < 3
      then raisePen (railOfPen r + 1) (s.now + ms 1) (railUp r s) else railUp r s) :=
    .ite (raisePen_moves (onSup_moves (.refl s))) (onSup_moves (.refl s))
  have hpens : ∀ r : Fin 4, (r : Nat) ≠ railOfPen (railOfPen r + 1) ∧ railOfPen r ≠ railOfPen r + 1 := by decide
  have hnext := hpens r
  refine answers_answer _ he hm.variant hm.pending ?_
  refine of_ite (P := fun t : State => t.railGood r = true ∧ t.objs = s.objs ∧ t.sup.railAt = s.now)
    ⟨?_, raisePen_objs .., raisePen_railAt ..⟩ ⟨railUp_good hp, rfl, rfl⟩
  rw [raisePen_railGood hnext.1 hnext.2]
  exact railUp_good hp

/-! Rails lost. -/

theorem fallPens_rails (gap : Nat) (is : List Nat) (s : State) : (fallPens gap is s).sup.rails = s.sup.rails := by
  have hone (ps : List (Nat × Nat)) (u : State) : (each ps (fun q s => onPen q.1
      (fun p => { p with toggle := some (s.now + q.2 * gap) }) s) u).sup.rails = u.sup.rails := by
    induction ps generalizing u with
    | nil => rfl
    | cons p ps ih => exact ih _
  exact hone is.zipIdx s

theorem fallPens_pow (gap : Nat) (is : List Nat) (s : State) :
    (fallPens gap is s).pow = { s.pow with lastPenFall := (fallPens gap is s).pow.lastPenFall } := by
  have hone (ps : List (Nat × Nat)) (u : State) : (each ps (fun q s => onPen q.1
      (fun p => { p with toggle := some (s.now + q.2 * gap) }) s) u).pow = u.pow := by
    induction ps generalizing u with
    | nil => rfl
    | cons p ps ih => exact ih _
  have h := hone is.zipIdx s
  exact congrArg (fun p : Power => { p with lastPenFall := (fallPens gap is s).pow.lastPenFall }) h

theorem fallPens_live (gap : Nat) (is : List Nat) (s : State) : (fallPens gap is s).live = s.live := by
  have hm : Moves (caps [.sup, .pow]) s (fallPens gap is s) := fallPens_moves (.refl s)
  have hrst : (fallPens gap is s).rst = s.rst := hm.part .rst (by decide)
  rw [State.live, fallPens_pow, hrst]
  rfl

theorem railLost_live (r : Nat) (s : State) : (railLost r s).live = s.live :=
  of_ite (P := fun t : State => t.live = s.live) (fallPens_live ..) rfl

theorem railFell_rails (r : Nat) (s : State) : (railFell r s).sup.rails = s.sup.rails := by
  unfold railFell
  exact of_ite (P := fun t : State => t.sup.rails = s.sup.rails) (fallPens_rails ..) rfl

theorem railLost_bit (r : Nat) (s : State) : (railLost r s).sup.rails.testBit r = false := by
  rw [railLost, railFell_rails]
  show (setBitOf s.sup.rails r false).testBit r = false
  rw [testBit_setBitOf, if_pos rfl]

theorem railGood_of_bit {r : Nat} {t : State} (h : t.sup.rails.testBit r = false) : t.railGood r = false := by
  rw [State.railGood, h]
  rfl

end

theorem assertReset_rails (c : Nat) (s : State) : (assertReset c s).sup.rails = s.sup.rails := by
  have hm : Moves (caps [.objs, .rst, .pow]) (loseLogic s) (assertReset c s) := by
    rw [assertReset_eq]
    exact onPow_moves (onRst_moves (put_moves (put_moves (latchCause_moves (.refl _)))))
  have hkept : Moves (caps [.free, .salt, .pow]) s (saveSettings (cutJob s)) := saveSettings_moves (cutJob_moves (.refl _))
  have hsup : (saveSettings (cutJob s)).sup = s.sup := hkept.part .sup (by decide)
  have hlost : (loseLogic s).sup.rails = (saveSettings (cutJob s)).sup.rails := rfl
  have hpart : (assertReset c s).sup = (loseLogic s).sup := hm.part .sup (by decide)
  rw [hpart, hlost, hsup]

theorem assertReset_brownAt (c : Nat) (s : State) : (assertReset c s).rst.brownAt = s.rst.brownAt := by
  have hkept : Moves (caps [.free, .salt, .pow]) s (saveSettings (cutJob s)) := saveSettings_moves (cutJob_moves (.refl _))
  have hrst : (saveSettings (cutJob s)).rst = s.rst := hkept.part .rst (by decide)
  show (resetShown c s).rst.brownAt = _
  rw [resetShown_rst]
  show (saveSettings (cutJob s)).rst.brownAt = _
  rw [hrst]

/-- A rail has browned out. -/
def railBrown (r : Nat) (s : State) : State :=
  (railLost r s).onRst fun u => { u with brownAt := some (u.brownAt.getD (railLost r s).now) }

theorem railBrownOut_answers {s : State} (r : Fin 3) (mv : Int) (held : Nat) (hl : s.live = true)
    (hp : s.get Obj.powerState ≤ 3) (hg : s.railGood r = true) (hv : mv < (railLevels r).2) (hh : 2 ≤ held) :
    Answers (.railBrownOut r mv held) s fun t =>
      Resets (2 + r.val) s t ∧ t.railGood r = false ∧ t.rst.brownAt.isSome = true := by
  have hphase : (railLost r s).get Obj.powerState = s.get Obj.powerState :=
    get_congr _ _ _ (railLost_moves (.refl s) : Moves (caps [.sup, .pow]) s _).variant
      ((railLost_moves (.refl s) : Moves (caps [.sup, .pow]) s _).part .objs (by decide))
  have hup : (railLost r s).parked = false := decide_eq_false (by omega)
  have he : exec (.railBrownOut r mv held) s = s.answer (assertReset (2 + r) (railBrown r s)) := by
    show execRailBrownOut r mv held s = _
    rw [execRailBrownOut, if_neg (by simp [hv, hh])]
    dsimp only
    rw [hg, hup, railLost_live, hl]
    rfl
  have hkept : (railBrown r s).get Obj.logicResetCount = s.get Obj.logicResetCount :=
    get_congr _ _ _ (railLost_moves (.refl s) : Moves (caps [.sup, .pow]) s _).variant
      ((railLost_moves (.refl s) : Moves (caps [.sup, .pow]) s _).part .objs (by decide))
  have hm : Moves (caps allParts) s (assertReset (2 + r) (railBrown r s)) :=
    assertReset_moves (onRst_moves (railLost_moves (.refl s)))
  have hr := assertReset_resets (c := 2 + r) (by omega) (railBrown r s)
  refine answers_answer _ he hm.variant hm.pending
    ⟨⟨hr.stopped, hr.inReset, hr.cause, ?_, hr.state, hr.lost, hr.again⟩, ?_, ?_⟩
  · rw [CountsUp, ← hkept]
    exact hr.counts
  · refine railGood_of_bit ?_
    rw [assertReset_rails]
    exact railLost_bit r s
  · rw [assertReset_brownAt]
    rfl

/-! The loss of VPHY (R345). -/

/-- Port `q` has no link. -/
def Linkless (q : Nat) (s : State) : Prop := ∀ u, s.net.ports[q]? = some u → u.up = false

theorem linkLost_linkless (p : Fin 2) (s : State) : Linkless p (linkLost p s) ∧ ∀ q, Linkless q s → Linkless q (linkLost p s) := by
  have hdown (h : (s.port p).up = false) : linkLost p s = s := by
    unfold linkLost
    dsimp only
    rw [h]
    rfl
  cases hu : s.net.ports[p.val]? with
  | none =>
    have hup : (s.port p).up = false := by
      rw [State.port, List.getD_eq_getElem?_getD, hu]
      rfl
    rw [hdown hup]
    exact ⟨fun u h => absurd (hu.symm.trans h) (by simp), fun _ h => h⟩
  | some u =>
    cases hup : u.up with
    | false =>
      rw [hdown ((congrArg PortUnit.up (port_eq hu)).trans hup)]
      exact ⟨fun v h => by rw [hu] at h; exact Option.some.inj h ▸ hup, fun _ h => h⟩
    | true =>
      have hports := (linkLost_shows hu hup).1
      refine ⟨fun v h => ?_, fun q hq v h => ?_⟩ <;> rw [hports, List.getElem?_set] at h
      · rw [if_pos rfl] at h
        split at h
        · exact Option.some.inj h ▸ rfl
        · exact absurd h (by simp)
      · split at h
        · split at h
          · exact Option.some.inj h ▸ rfl
          · exact absurd h (by simp)
        · exact hq v h

theorem linksLost_linkless {ps : List Nat} (hps : ∀ p ∈ ps, p < 2) (s : State) :
    (∀ p ∈ ps, Linkless p (each ps linkLost s)) ∧ ∀ q, Linkless q s → Linkless q (each ps linkLost s) := by
  induction ps generalizing s with
  | nil => exact ⟨fun p hp => absurd hp (by simp), fun _ h => h⟩
  | cons p ps ih =>
    obtain ⟨hself, hother⟩ := linkLost_linkless ⟨p, hps p (by simp)⟩ s
    obtain ⟨hrest, hkept⟩ := ih (fun q hq => hps q (by simp [hq])) (linkLost p s)
    refine ⟨fun q hq => ?_, fun q hq => hkept q (hother q hq)⟩
    obtain rfl | hq := List.mem_cons.1 hq
    · exact hkept q hself
    · exact hrest q hq

theorem dropBypass_variant (s : State) : (dropBypass s).variant = s.variant :=
  (dropBypass_moves (.refl s) : Moves (caps [.objs, .net]) s _).variant

theorem physHeld_linkless (s : State) : ∀ p ∈ s.portList, Linkless p (physHeld s) :=
  (linksLost_linkless (fun _ hp => portList_small hp) (dropBypass s)).1

theorem vphyBrownOut_answers {s : State} (mv : Int) (held : Nat) (hv : mv < 2950) (hh : 10 ≤ held)
    (hg : s.railGood 3 = true) : Answers (.vphyBrownOut mv held) s fun t =>
      t.railGood 3 = false ∧ (s.live = true → t.net.bypass.coils = false ∧
        ∀ p u, p ∈ s.portList → t.net.ports[p]? = some u → u.up = false) := by
  have he : exec (.vphyBrownOut mv held) s =
      s.answer (if (railLost 3 s).live = true then physHeld (railLost 3 s) else railLost 3 s) := by
    show execVphyBrownOut mv held s = _
    rw [execVphyBrownOut, if_pos ⟨hv, hh, hg⟩]
  have hlost : Moves (caps [.sup, .pow]) s (railLost 3 s) := railLost_moves (.refl s)
  have hlist : (railLost 3 s).portList = s.portList := by rw [State.portList, State.portList, hlost.variant]
  rw [railLost_live] at he
  by_cases hl : s.live = true
  · rw [if_pos hl] at he
    have hm : Moves (caps [.objs, .net]) (railLost 3 s) (physHeld (railLost 3 s)) := physHeld_moves (.refl _)
    have hsup : (physHeld (railLost 3 s)).sup = (railLost 3 s).sup := hm.part .sup (by decide)
    refine answers_answer _ he (hm.variant.trans hlost.variant) (hm.pending.trans hlost.pending)
      ⟨railGood_of_bit ?_, fun _ => ⟨physHeld_coils _, fun p u hp => physHeld_linkless _ p (hlist ▸ hp) u⟩⟩
    rw [hsup]
    exact railLost_bit 3 s
  · rw [if_neg hl] at he
    exact answers_answer _ he hlost.variant hlost.pending ⟨railGood_of_bit (railLost_bit 3 s), fun h => absurd h hl⟩

/-! Starts that fail (R286). -/

theorem dropPens_live (gap : Nat) (follow : Bool) (s : State) : (dropPens gap follow s).live = s.live := by
  have hone (is : List Nat) (u : State) : (each is (fun i s => onPen i (fun p => { p with toggle := none }) s) u).live =
      u.live := by
    induction is generalizing u with
    | nil => rfl
    | cons i is ih => exact ih _
  exact (fallPens_live ..).trans (hone _ s)

/-- A start that fails: its PENs fall in turn. -/
def startDropped (s : State) : State := dropPens (ms 1) false (if s.live then loseLogic s else s)

theorem startDropped_live (s : State) : (startDropped s).live = false := by
  rw [startDropped, dropPens_live]
  split
  · rfl
  next h => simpa using h

theorem startDropped_now (s : State) : (startDropped s).now = s.now :=
  (dropPens_moves (.ite (loseLogic_moves (.refl _)) (.refl _)) : Moves (caps allParts) s (startDropped s)).now

/-- The phase of a start that fails is shown. -/
def failShown (s : State) : State := (startDropped s).put Obj.powerPhase 0

theorem failShown_now (s : State) : (failShown s).now = s.now := (put_now ..).trans (startDropped_now s)

theorem failShown_live (s : State) : (failShown s).live = false := by
  rw [failShown, State.live, put_pow, put_rst]
  exact startDropped_live s

theorem failShown_phase (s : State) : (failShown s).get Obj.powerPhase = 0 := by
  rw [failShown, get_put_self _ _ _ rfl, fitTo_zero]

theorem failStart_eq (s : State) : failStart s =
    ((failShown s).onRst fun r => { r with brownAt := none }).onPow fun p =>
      { p with failedAt := some (max (failShown s).now (p.lastPenFall.getD (failShown s).now)), restart := false } := rfl

/-- From `s` to `t` the start has failed, and may be repeated once its PENs are down. -/
structure StartFails (s t : State) : Prop where
  phase : t.get Obj.powerPhase = 0
  stopped : t.live = false
  restart : t.pow.restart = false
  failed : ∃ u, t.pow.failedAt = some u ∧ s.now ≤ u

theorem failStart_fails (s : State) : StartFails s (failStart s) := by
  have hphase := failShown_phase s
  have hlive := failShown_live s
  have hnow := failShown_now s
  rw [failStart_eq]
  generalize failShown s = w at hphase hlive hnow ⊢
  exact ⟨hphase, hlive, rfl, _, rfl, Nat.le_trans (Nat.le_of_eq hnow.symm) (Nat.le_max_left _ _)⟩

theorem railStartTimeout_answers {s : State} (i : Fin 4) (hp : s.get Obj.powerPhase = 0x11) (hpen : s.pen i = true)
    (hg : s.railGood (railOfPen i) = false)
    (ht : max ((s.sup.pens.getD i ⟨false, 0, none⟩).settle s.now).since s.pow.phaseAt + ms 10 ≤ s.now) :
    Answers .railStartTimeout s fun t => t.get Obj.powerPhase = 0 ∧ t.live = false ∧ t.pow.restart = false ∧
      ∃ u, t.pow.failedAt = some u ∧ s.now ≤ u := by
  have hlate : ([0, 1, 2, 3] : List Nat).any (fun i => s.pen i && !s.railGood (railOfPen i) &&
      decide (max ((s.sup.pens.getD i ⟨false, 0, none⟩).settle s.now).since s.pow.phaseAt + ms 10 ≤ s.now)) = true := by
    have hmem : ∀ j : Fin 4, (j : Nat) ∈ [0, 1, 2, 3] := by decide
    refine List.any_eq_true.2 ⟨i, hmem i, ?_⟩
    rw [hpen, hg, decide_eq_true ht]
    rfl
  have he : exec .railStartTimeout s = s.answer (failStart s) := by
    show execRailStartTimeout s = _
    rw [execRailStartTimeout]
    dsimp only
    rw [hlate, hp]
    rfl
  have hm : Moves (caps allParts) s (failStart s) := failStart_moves (.refl s)
  obtain ⟨hphase, hstopped, hrestart, hfailed⟩ := failStart_fails s
  exact answers_answer _ he hm.variant hm.pending ⟨hphase, hstopped, hrestart, hfailed⟩

theorem failedStartRetry_answers {s : State} (ht : Passed s.pow.failedAt (sec 1) s) (hx : s.rst.xresetLow = false) :
    Answers .failedStartRetry s fun t =>
      t.get Obj.powerPhase = 0x10 ∧ t.get Obj.resetCause ≤ 12 ∧ t.rst.p0At = s.now ∧ t.pow.failedAt = none := by
  have he : exec .failedStartRetry s = s.answer (enterP0 (latchCause 12 s)) := by
    show execFailedStartRetry s = _
    rw [execFailedStartRetry, heldFor_passed ht, hx]
    rfl
  have hlatch : Moves (caps [.objs, .rst]) s (latchCause 12 s) := latchCause_moves (.refl s)
  have hm : Moves (caps [.objs, .lat, .pow, .rst]) s (enterP0 (latchCause 12 s)) := enterP0_moves (latchCause_moves (.refl s))
  obtain ⟨hphase, -, -, hfailed, hbegan, -, -, hcause⟩ := enterP0_enters (latchCause 12 s)
  refine answers_answer _ he hm.variant hm.pending ⟨hphase, ?_, hbegan.trans hlatch.now, hfailed⟩
  rw [hcause]
  exact latchCause_cause (by decide) s

/-- Settles O22: rails become good, brown out and fail a start as their levels and times say. -/
theorem railsComeGoAndFailStarts : Obligations.RailsComeGoAndFailStarts :=
  fun _ => ⟨railPowerGood_answers, railBrownOut_answers, vphyBrownOut_answers, railStartTimeout_answers,
    failedStartRetry_answers⟩

end Sys2Proof.Machine
end

section
/-! Completions and what stays of the transactions -/
namespace Sys2Proof.Machine
open Sys2Proof Sys2Proof.Config

/-! What completions leave of the other transactions and of the completion queue (R236). -/

set_option Elab.async false in
theorem find_filter_other {id j : Nat} (hj : j ≠ id) (fs : List Flight) :
    (fs.filter (·.id != id)).find? (·.id == j) = fs.find? (·.id == j) := by
  induction fs with
  | nil => rfl
  | cons f fs ih =>
    by_cases hf : f.id = id
    · have hne : (f.id == j) = false := beq_eq_false_iff_ne.2 fun h => hj (h.symm.trans hf)
      rw [List.filter_cons_of_neg (by simp [hf]), ih, List.find?_cons_of_neg (by simp [hne])]
    · rw [List.filter_cons_of_pos (by simp [hf]), List.find?_cons, List.find?_cons, ih]

theorem find_map_other {id j : Nat} (hj : j ≠ id) (g : Flight → Flight) (hg : ∀ f, (g f).id = f.id) (fs : List Flight) :
    (fs.map fun f => if f.id == id then g f else f).find? (·.id == j) = fs.find? (·.id == j) := by
  induction fs with
  | nil => rfl
  | cons f fs ih =>
    rw [List.map_cons, List.find?_cons, List.find?_cons, ih]
    by_cases hf : f.id = id
    · have hne : (f.id == j) = false := beq_eq_false_iff_ne.2 fun h => hj (h.symm.trans hf)
      simp [hf, hg, show (id == j) = false from beq_eq_false_iff_ne.2 (Ne.symm hj)]
    · simp [hf]

/-- An orphan leaves when it completes. -/
def orphanGone (id : Nat) (s : State) : State := s.onHost fun h => { h with flights := h.flights.filter (·.id != id) }

/-- What a completion does, when it does something. -/
theorem completeWith_ends {P : State → Prop} {id st det : Nat} {data : List Byte} {s : State} (hsame : P s)
    (horphan : ∀ n b, P (moveFill 4 (moveFill 3 (if b = true then (orphanGone id s).inc (Obj.discardedCompletions n)
      else orphanGone id s))))
    (hdone : ∀ d, P (moveFill 3 ((s.onFlight id fun f => { f with phase := .done }).onHost fun h =>
      { h with done := h.done ++ [d] }))) : P (completeWith id st det data s) := by
  unfold completeWith
  split
  · exact hsame
  next f hf =>
    split
    · exact hsame
    · split
      · have h := horphan f.place (decide (f.place < 2))
        simp only [decide_eq_true_eq] at h
        exact h
      · exact hdone _

theorem orphanGone_host (id n : Nat) (b : Bool) (s : State) : (moveFill 4 (moveFill 3 (if b = true
    then (orphanGone id s).inc (Obj.discardedCompletions n) else orphanGone id s))).host.flights =
      s.host.flights.filter (·.id != id) ∧ (moveFill 4 (moveFill 3 (if b = true
    then (orphanGone id s).inc (Obj.discardedCompletions n) else orphanGone id s))).host.done = s.host.done := by
  have hkept : (if b = true then (orphanGone id s).inc (Obj.discardedCompletions n) else orphanGone id s).host =
      (orphanGone id s).host := of_ite (P := fun t : State => t.host = (orphanGone id s).host) (put_host ..) rfl
  rw [moveFill_host_flights, moveFill_host_flights, moveFill_host_done, moveFill_host_done, hkept]
  exact ⟨rfl, rfl⟩

theorem completeWith_flight {id j : Nat} (hj : j ≠ id) (st det : Nat) (data : List Byte) (s : State) :
    (completeWith id st det data s).flight j = s.flight j := by
  refine completeWith_ends (P := fun t => t.flight j = s.flight j) rfl (fun n b => ?_) fun d => ?_
  · unfold State.flight
    rw [(orphanGone_host id n b s).1]
    exact find_filter_other hj _
  · unfold State.flight
    rw [moveFill_host_flights]
    exact find_map_other hj (fun f => { f with phase := .done }) (fun _ => rfl) s.host.flights

theorem completeWith_done_mem {d : Done} {s : State} (h : d ∈ s.host.done) (id st det : Nat) (data : List Byte) :
    d ∈ (completeWith id st det data s).host.done := by
  refine completeWith_ends (P := fun t => d ∈ t.host.done) h (fun n b => ?_) fun e => ?_
  · rw [(orphanGone_host id n b s).2]
    exact h
  · rw [moveFill_host_done]
    exact List.mem_append_left _ h

theorem completeAll_done_mem {d : Done} {s : State} (h : d ∈ s.host.done) (ids : List Nat) (st : Nat) :
    d ∈ (completeAll ids st s).host.done := by
  induction ids generalizing s with
  | nil => exact h
  | cons id ids ih => exact ih (completeWith_done_mem h id st 0 [])

/-- Each transaction of a list completes. -/
theorem completeAll_done {f : Flight} {ids : List Nat} {s : State} (hid : f.id ∈ ids) (hf : s.flight f.id = some f)
    (ho : f.orphan = false) (hp : f.phase ≠ .done) (st : Nat) : doneOf f st 0 [] s.now ∈ (completeAll ids st s).host.done := by
  induction ids generalizing s with
  | nil => exact absurd hid (by simp)
  | cons id ids ih =>
    by_cases h : f.id = id
    · refine completeAll_done_mem (s := complete id st s) ?_ ids st
      rw [← h, complete, completeWith_host_done f st 0 [] s hf hp ho]
      simp
    · have hrest := ih ((List.mem_cons.1 hid).resolve_left h) ((completeWith_flight h st 0 [] s).trans hf)
      rw [completeWith_now] at hrest
      exact hrest

end Sys2Proof.Machine
end

section
/-! Flushes of the recorder -/
namespace Sys2Proof.Machine
open Sys2Proof Sys2Proof.Config

section
variable {s : State} (hl : s.live = true)
include hl

set_option Elab.async false in
theorem flushPeriodExpiry_answers (ho : s.saltOpen = true) (hq : s.recd.queue.any Job.isFlush = false)
    (ht : s.recd.lastCommit + sec (s.get Obj.flushPeriod) ≤ s.now) : Answers .flushPeriodExpiry s fun t =>
      t.objs = s.objs ∧ t.recd = { s.recd with queue := s.recd.queue ++ [Job.waiting (.flush false) []] } := by
  have hwant : wantFlush s = s.onRec fun r => { r with queue := r.queue ++ [Job.waiting (.flush false) []] } := by
    unfold wantFlush addFlush State.onRec
    simp only [ho, hq, Bool.not_true, Bool.false_eq_true, if_false]
  have he : exec .flushPeriodExpiry s = s.answer (s.onRec fun r =>
      { r with queue := r.queue ++ [Job.waiting (.flush false) []] }) := by
    show execFlushPeriodExpiry s = _
    rw [execFlushPeriodExpiry, answerLive_live hl, if_pos ht, hwant]
  exact answers_answer _ he rfl rfl ⟨rfl, rfl⟩

end

/-- A periodic flush takes its cut. -/
def flushCut (j : Job) (s : State) : State := (s.put Obj.recorderState 2).onRec fun r =>
  { r with running := some { j with
             startedAt := s.now, cut := r.brine.length, estimate := s.flushTime, updates := r.updates
             snap := some ⟨s.recd.histos, s.recd.extremes,
               if s.recd.envPending then some (s.objs.filter fun e => isEnvKey e.1) else none⟩
             opSeconds := s.get Obj.operatingSeconds, powerCycles := s.get Obj.powerCycleCount }
           updates := [], envPending := r.envPending && !true }

theorem startJob_flush {j : Job} (hj : j.kind = .flush false) (s : State) : startJob j s = flushCut j s := by
  obtain ⟨kind, flights, startedAt, cut, updates, snap, opSeconds, powerCycles, estimate⟩ := j
  obtain rfl : kind = .flush false := hj
  rfl

/-- From `s` to `t` the periodic flush `j` is under way. -/
structure FlushRuns (j : Job) (s t : State) : Prop where
  shown : t.get Obj.recorderState = 2
  objects : OnlyMoves [Obj.recorderState] s t
  queue : t.recd.queue = s.recd.queue
  updates : t.recd.updates = []
  brine : t.recd.brine = s.recd.brine
  job : ∃ r, t.recd.running = some r ∧ r.kind = .flush false ∧ r.flights = j.flights ∧ r.startedAt = s.now ∧
    r.cut = s.recd.brine.length ∧ r.estimate = s.flushTime ∧ r.updates = s.recd.updates

theorem flushCut_runs {j : Job} (hj : j.kind = .flush false) (s : State) : FlushRuns j s (flushCut j s) := by
  have hrec : (s.put Obj.recorderState 2).recd = s.recd := put_recd ..
  unfold flushCut State.onRec
  rw [hrec]
  exact ⟨get_put_self Obj.recorderState 2 s rfl, fun k hk => get_put_ne _ _ _ s (by simpa using hk), rfl, rfl, rfl,
    _, rfl, hj, rfl, rfl, rfl, rfl, rfl⟩

theorem flushStart_answers {s : State} (hl : s.live = true) (j : Job) (js : List Job) (hr : s.recd.running = none)
    (hq : s.recd.queue = j :: js) (hj : j.kind = .flush false) : Answers .flushStart s fun t =>
      t.get Obj.recorderState = 2 ∧ OnlyMoves [Obj.recorderState] s t ∧ t.recd.queue = js ∧ t.recd.updates = [] ∧
      t.recd.brine = s.recd.brine ∧ ∃ r, t.recd.running = some r ∧ r.kind = .flush false ∧ r.flights = j.flights ∧
        r.startedAt = s.now ∧ r.cut = s.recd.brine.length ∧ r.estimate = s.flushTime ∧ r.updates = s.recd.updates := by
  have hflush : j.isFlush = true := by rw [Job.isFlush, hj]
  have he : exec .flushStart s = s.answer (flushCut j (s.onRec fun r => { r with queue := js })) := by
    show execFlushStart s = _
    rw [execFlushStart, answerLive_live hl, ← startJob_flush hj]
    simp only [hr, hq, hflush, if_true]
  have hm : Moves (caps [.objs, .recd]) s (flushCut j (s.onRec fun r => { r with queue := js })) :=
    onRec_moves (put_moves (onRec_moves (.refl s)))
  obtain ⟨hshown, hobjects, hqueue, hupdates, hbrine, hjob⟩ := flushCut_runs hj (s.onRec fun r => { r with queue := js })
  exact answers_answer _ he hm.variant hm.pending ⟨hshown, hobjects, hqueue, hupdates, hbrine, hjob⟩

/-! The commit of a flush. -/

theorem toLog_get {k : Nat} (hk : k < 0x220102) (r : LogRec) (s : State) : (toLog r s).get k = s.get k := by
  have hseq : (s.put (Obj.newestSeq r.log) r.seqNo).get k = s.get k := get_put_ne _ _ _ s (by simp only [Obj.newestSeq]; omega)
  refine of_ite (P := fun t : State => t.get k = s.get k) hseq ?_
  refine of_ite (P := fun t : State => t.get k = s.get k) ?_ hseq
  exact (get_put_ne _ _ _ _ (by simp only [Obj.wrapCount]; omega)).trans hseq

theorem toLog_recd (r : LogRec) (s : State) : (toLog r s).recd = s.recd :=
  of_ite (P := fun t : State => t.recd = s.recd) (put_recd ..)
    (of_ite (P := fun t : State => t.recd = s.recd) ((put_recd ..).trans (put_recd ..)) (put_recd ..))

theorem toLogs_recd (rs : List LogRec) (s : State) : (each rs toLog s).recd = s.recd := by
  induction rs generalizing s with
  | nil => rfl
  | cons r rs ih => exact (ih _).trans (toLog_recd r s)

/-- The records up to the cut join their logs. -/
def flushLogged (j : Job) (s : State) : State :=
  applyUpdates j.updates (each (s.recd.brine.take j.cut) toLog (s.onRec fun r => { r with brine := r.brine.drop j.cut }))

theorem flushLogged_get {k : Nat} (hk : k < 0x220102) (j : Job) (s : State) : (flushLogged j s).get k = s.get k :=
  (each_mem_get fun r _ u => toLog_get hk r u : (each (s.recd.brine.take j.cut) toLog
    (s.onRec fun r => { r with brine := r.brine.drop j.cut })).get k = _)

/-- The stores take the snapshot of the cut. -/
def flushSnapped (n : StoreSnap) (s : State) : State :=
  let s := s.onSalt fun p => { p with histos := n.histos, extremes := n.extremes, envelopes := n.envs.getD p.envelopes }
  healWords 0x069000 0x074FFF none (if n.envs.isSome then healWords 0x063000 0x068FFF none s else s)

theorem flushSnapped_get (k : Nat) (n : StoreSnap) (s : State) : (flushSnapped n s).get k = s.get k :=
  of_ite (P := fun t : State => (healWords 0x069000 0x074FFF none t).get k = s.get k) rfl rfl

theorem flushSnapped_moves (n : StoreSnap) (s : State) : Moves (caps [.objs, .salt, .diag]) s (flushSnapped n s) :=
  healWords_moves (.ite (healWords_moves (onSalt_moves (.refl s))) (onSalt_moves (.refl s)))

/-- What a flush writes to the Saltpan. -/
def flushStored (j : Job) (s : State) : State :=
  match j.snap with
  | none => flushLogged j s
  | some n => flushSnapped n (flushLogged j s)

theorem flushStored_get {k : Nat} (hk : k < 0x220102) (j : Job) (s : State) : (flushStored j s).get k = s.get k := by
  unfold flushStored
  split
  · exact flushLogged_get hk j s
  · exact (flushSnapped_get k _ _).trans (flushLogged_get hk j s)

theorem flushStored_moves (j : Job) (s : State) : Moves (caps [.objs, .salt, .diag])
    (s.onRec fun r => { r with brine := r.brine.drop j.cut }) (flushStored j s) := by
  have hlogs : Moves (caps [.objs, .salt, .diag]) (s.onRec fun r => { r with brine := r.brine.drop j.cut }) (flushLogged j s) :=
    applyUpdates_moves (each_moves (fun _ _ => toLog_moves (.refl _)) (.refl _))
  unfold flushStored
  split
  · exact hlogs
  · exact hlogs.trans (flushSnapped_moves _ _)

theorem flushStored_recd (j : Job) (s : State) :
    (flushStored j s).recd = { s.recd with brine := s.recd.brine.drop j.cut } := by
  have hlogs : (flushLogged j s).recd = { s.recd with brine := s.recd.brine.drop j.cut } := toLogs_recd _ _
  unfold flushStored
  split
  · exact hlogs
  · exact of_ite (P := fun t : State => (healWords 0x069000 0x074FFF none t).recd = _) hlogs hlogs

/-- What a flush leaves of the recorder and of its counters. -/
def flushData (j : Job) (s : State) : State :=
  moveFill 11 (((flushStored j s).inc Obj.flushCount).put Obj.lastFlushDuration
    ((((flushStored j s).inc Obj.flushCount).now - j.startedAt) / us 1))

theorem commitData_flush {j : Job} {fin : Bool} (hj : j.kind = .flush fin) (s : State) :
    commitData j s = (flushData j s, []) := by
  unfold commitData
  simp only [hj]
  rfl

/-- From `s` to `t` the data of a flush are in the Saltpan. -/
structure FlushStores (j : Job) (s t : State) : Prop where
  counts : CountsUp Obj.flushCount s t
  took : t.get Obj.lastFlushDuration = fitTo Obj.lastFlushDuration ((s.now - j.startedAt) / us 1)
  recorder : t.recd = { s.recd with brine := s.recd.brine.drop j.cut }
  flights : t.host.flights = s.host.flights
  done : t.host.done = s.host.done
  now : t.now = s.now

theorem flushData_stores (j : Job) (s : State) : FlushStores j s (flushData j s) := by
  have hm := flushStored_moves j s
  have hhost : ((flushStored j s).host.flights, (flushStored j s).host.done, (flushStored j s).host.nextFlight) =
      (s.host.flights, s.host.done, s.host.nextFlight) := hm.part .flights (by decide)
  have hrecd := flushStored_recd j s
  have hnow : ((flushStored j s).inc Obj.flushCount).now = s.now := (put_now ..).trans hm.now
  unfold flushData
  refine ⟨?_, ?_, ?_, ?_, ?_, ?_⟩
  · rw [CountsUp, moveFill_get _ _ (by decide) _ rfl, get_put_ne _ _ _ _ (by decide), inc_eq, get_put_self _ _ _ rfl,
      flushStored_get (by decide)]
  · rw [moveFill_get _ _ (by decide) _ rfl, get_put_self _ _ _ rfl, hnow]
  · rw [moveFill_recd, put_recd, inc_eq, put_recd, hrecd]
  · rw [moveFill_host_flights, put_host, inc_eq, put_host]
    exact congrArg Prod.fst hhost
  · rw [moveFill_host_done, put_host, inc_eq, put_host]
    exact congrArg (fun x => x.2.1) hhost
  · rw [moveFill_now, put_now, hnow]

/-- From `w` to `t` the commit of a flush is written. -/
structure CommitWrites (fin : Bool) (n : Nat) (w t : State) : Prop where
  number : t.get Obj.flushNumber = n % 4294967296
  counts : t.get Obj.flushCount = w.get Obj.flushCount
  took : t.get Obj.lastFlushDuration = w.get Obj.lastFlushDuration
  recorder : t.recd = { w.recd with running := none, lastCommit := w.now, brineError := false }
  mark : t.salt.finalMark = fin
  host : t.host = w.host
  now : t.now = w.now

theorem CommitWrites.put {fin : Bool} {n : Nat} {w t : State} (h : CommitWrites fin n w t) (k v : Nat)
    (hk : k ∉ [Obj.flushNumber, Obj.flushCount, Obj.lastFlushDuration]) : CommitWrites fin n w (t.put k v) := by
  simp only [List.mem_cons, List.not_mem_nil, or_false, not_or] at hk
  obtain ⟨h1, h2, h3⟩ := hk
  exact ⟨(get_put_ne _ _ _ t (Ne.symm h1)).trans h.number, (get_put_ne _ _ _ t (Ne.symm h2)).trans h.counts,
    (get_put_ne _ _ _ t (Ne.symm h3)).trans h.took, (put_recd ..).trans h.recorder, by rw [put_salt]; exact h.mark,
    (put_host ..).trans h.host, (put_now ..).trans h.now⟩

/-- The commit of a flush. -/
def commitWritten (j : Job) (fin : Bool) (n : Nat) (w : State) : State :=
  let s := (w.put Obj.flushNumber n).onSalt fun p =>
    { p with journal := pushSlot ⟨n, j.kind.code, true⟩ p.journal, opSeconds := j.opSeconds, powerCycles := j.powerCycles
             finalMark := fin }
  s.onRec fun r => { r with running := none, lastCommit := s.now, brineError := false }

theorem commitWritten_writes (j : Job) (fin : Bool) (n : Nat) (w : State) :
    CommitWrites fin n w (commitWritten j fin n w) := by
  have hrec : (w.put Obj.flushNumber n).recd = w.recd := put_recd ..
  have hnow : (w.put Obj.flushNumber n).now = w.now := put_now ..
  refine ⟨get_put_self Obj.flushNumber n w rfl, get_put_ne _ _ _ w (by decide), get_put_ne _ _ _ w (by decide), ?_, rfl,
    put_host .., hnow⟩
  show ({ (w.put Obj.flushNumber n).recd with
    running := none, lastCommit := (w.put Obj.flushNumber n).now, brineError := false } : Recorder) = _
  rw [hrec, hnow]

/-- The commit of a flush is shown. -/
def commitShown (j : Job) (fin : Bool) (n : Nat) (w : State) : State :=
  let s := commitWritten j fin n w
  let s := if s.diag.badWords.isEmpty then s.setBit Obj.periodicFault 1 false else s
  s.put Obj.recorderState (if fin then 3 else 1)

theorem commitShown_shows (j : Job) (fin : Bool) (n : Nat) (w : State) :
    CommitWrites fin n w (commitShown j fin n w) ∧ (commitShown j fin n w).get Obj.recorderState = if fin then 3 else 1 := by
  have hw := commitWritten_writes j fin n w
  refine ⟨(of_ite (P := CommitWrites fin n w) (hw.put Obj.periodicFault _ (by decide)) hw).put _ _ (by decide), ?_⟩
  refine (get_put_self Obj.recorderState _ _ rfl).trans ?_
  cases fin <;> rfl

/-- What the end of a final flush lets go. -/
def finalEnds (s : State) : State :=
  let s := completeAll (s.recd.queue.flatMap (·.flights)) 0x0340 (s.onRec fun r => { r with queue := [] })
  let s := if s.sup.rsvOffAtCommit then s.onSup fun u => { u with ppRsv := false, rsvOffAtCommit := false } else s
  if s.rst.device then s.onRst fun r => { r with deviceCommitAt := some s.now } else s

theorem commitJob_flush {j : Job} {fin : Bool} (hj : j.kind = .flush fin) (s : State) : commitJob j s =
    let t := completeAll j.flights 0
      (commitShown j fin ((s.get Obj.flushNumber + 1) % 4294967296) (flushData j s))
    if fin then finalEnds t else kick t := by
  have hfin : decide (j.kind = .flush true) = fin := by rw [hj]; cases fin <;> rfl
  unfold commitJob
  simp only [hfin, commitData_flush hj]
  rfl

/-- `t` is `s` but for its supplies and resets. -/
structure SameRecord (s t : State) : Prop where
  objs : t.objs = s.objs
  variant : t.variant = s.variant
  recd : t.recd = s.recd
  salt : t.salt = s.salt
  host : t.host = s.host

theorem SameRecord.refl (s : State) : SameRecord s s := ⟨rfl, rfl, rfl, rfl, rfl⟩

theorem finalEnds_keeps {s : State} (hq : s.recd.queue = []) : SameRecord s (finalEnds s) := by
  have hrec : (s.onRec fun r => { r with queue := [] }) = s := by
    unfold State.onRec
    rw [← hq]
  unfold finalEnds
  rw [hq, hrec]
  have hsup := of_ite (P := SameRecord s) (c := s.sup.rsvOffAtCommit = true)
    (a := s.onSup fun u => { u with ppRsv := false, rsvOffAtCommit := false }) ⟨rfl, rfl, rfl, rfl, rfl⟩ (.refl s)
  exact of_ite (P := SameRecord s) ⟨hsup.objs, hsup.variant, hsup.recd, hsup.salt, hsup.host⟩ hsup

theorem kick_idle {s : State} (hq : s.recd.queue = []) : kick s = s := by
  unfold kick
  rw [hq]
  cases s.recd.running <;> rfl

theorem journalCommit_answers {s : State} (hl : s.live = true) (j : Job) (fin : Bool) (hr : s.recd.running = some j)
    (hq : s.recd.queue = []) (hj : j.kind = .flush fin) (ht : j.startedAt + us j.estimate ≤ s.now) :
    Answers .journalCommit s fun t =>
      t.get Obj.recorderState = (if fin then 3 else 1) ∧ CountsUp Obj.flushCount s t ∧
      t.get Obj.flushNumber = (s.get Obj.flushNumber + 1) % 4294967296 ∧
      t.get Obj.lastFlushDuration = fitTo Obj.lastFlushDuration ((s.now - j.startedAt) / us 1) ∧
      t.recd.running = none ∧ t.recd.brine = s.recd.brine.drop j.cut ∧ t.recd.lastCommit = s.now ∧
      t.salt.finalMark = fin ∧
      ∀ f, f.id ∈ j.flights → s.flight f.id = some f → f.orphan = false → f.phase ≠ .done →
        doneOf f 0 0 [] s.now ∈ t.host.done := by
  have he : exec .journalCommit s = s.answer (commitJob j s) := by
    show execJournalCommit s = _
    rw [execJournalCommit, answerLive_live hl]
    simp only [hr, ht, if_true]
  have hm : Moves (caps allParts) s (commitJob j s) := commitJob_moves (.refl s)
  have hdata := flushData_stores j s
  obtain ⟨hw, hshown⟩ := commitShown_shows j fin ((s.get Obj.flushNumber + 1) % 4294967296) (flushData j s)
  have heq := commitJob_flush hj s
  generalize commitShown j fin ((s.get Obj.flushNumber + 1) % 4294967296) (flushData j s) = v at hw hshown heq
  have hrec : v.recd = { s.recd with brine := s.recd.brine.drop j.cut, running := none, lastCommit := s.now, brineError := false } := by
    rw [hw.recorder, hdata.recorder, hdata.now]
  have hqueue : (completeAll j.flights 0 v).recd.queue = [] := by rw [completeAll_recd, hrec]; exact hq
  have hkept : SameRecord (completeAll j.flights 0 v) (commitJob j s) := by
    rw [heq]
    cases fin
    · show SameRecord _ (kick (completeAll j.flights 0 v))
      rw [kick_idle hqueue]
      exact .refl _
    · exact finalEnds_keeps hqueue
  have hget (k : Nat) (hk : noisy k = false) : (commitJob j s).get k = v.get k :=
    (get_congr _ _ k hkept.variant hkept.objs).trans (completeAll_get _ _ _ _ hk)
  refine answers_answer _ he hm.variant hm.pending ⟨?_, ?_, ?_, ?_, ?_, ?_, ?_, ?_, fun f hid hf ho hp => ?_⟩
  · rw [hget _ rfl, hshown]
  · rw [CountsUp, hget _ rfl, hw.counts]
    exact hdata.counts
  · rw [hget _ rfl, hw.number, Nat.mod_mod]
  · rw [hget _ rfl, hw.took, hdata.took]
  · rw [hkept.recd, completeAll_recd, hrec]
  · rw [hkept.recd, completeAll_recd, hrec]
  · rw [hkept.recd, completeAll_recd, hrec]
  · rw [hkept.salt, completeAll_salt, hw.mark]
  · have hflights : v.host.flights = s.host.flights := (congrArg HostSide.flights hw.host).trans hdata.flights
    have hnow : v.now = s.now := hw.now.trans hdata.now
    rw [hkept.host, ← hnow]
    exact completeAll_done hid (by rw [State.flight, hflights]; exact hf) ho hp 0

end Sys2Proof.Machine
end

section
/-! Samples, scrub rounds and temperatures -/
namespace Sys2Proof.Machine
open Sys2Proof Sys2Proof.Config

set_option Elab.async false in
/-- What each step over a list keeps, the whole of it keeps. -/
theorem each_keeps {α : Type} {P : State → Prop} {xs : List α} {f : α → State → State} {s : State}
    (hf : ∀ a ∈ xs, ∀ t, P t → P (f a t)) (h : P s) : P (each xs f s) := by
  induction xs generalizing s with
  | nil => exact h
  | cons a xs ih => exact ih (fun b hb => hf b (by simp [hb])) (hf a (by simp) s h)

/-! Samples of histograms and extremes (R161, R162). -/

theorem histoCount_other {n m : Nat} (h : m ≠ n) (x : Int) (s : State) :
    (histoCount n x s).recd.histos[m]? = s.recd.histos[m]? := by
  show (s.recd.histos.modify n _)[m]? = _
  rw [List.getElem?_modify]
  simp [Ne.symm h]

theorem dieRange {s : State} {k : Nat} (h : k ∈ (List.range 4).filter s.variant.hasDie) : k < 4 :=
  List.mem_range.1 (List.mem_filter.1 h).1

theorem histogramSample_answers {s : State} (hl : s.live = true) (vfld : List Nat) (temp : Int) (h : Histo)
    (hh : s.recd.histos[101]? = some h) : Answers (.histogramSample vfld temp) s fun t => t.objs = s.objs ∧
      ∃ g, t.recd.histos[101]? = some g ∧ g.bins =
        if h.bins.getD (histoBin 101 temp) 0 = 4294967295 then h.bins else h.bins.modify (histoBin 101 temp) (· + 1) := by
  obtain ⟨u, hu⟩ : ∃ u, each ((List.range 4).filter s.variant.hasDie)
    (fun k s => histoCount (96 + k) (vfld.getD k 0) s) s = u := ⟨_, rfl⟩
  have he : exec (.histogramSample vfld temp) s = s.answer (histoCount 101 temp u) := by
    show execHistogramSample vfld temp s = _
    rw [execHistogramSample, answerLive_live hl, hu]
  have hdies : u.objs = s.objs ∧ u.variant = s.variant ∧ u.pending = s.pending ∧ u.recd.histos[101]? = some h := by
    rw [← hu]
    refine each_keeps (P := fun t => t.objs = s.objs ∧ t.variant = s.variant ∧ t.pending = s.pending ∧
      t.recd.histos[101]? = some h) (fun k hk t ht => ?_) ⟨rfl, rfl, rfl, hh⟩
    obtain ⟨h1, h2, h3, h4⟩ := ht
    exact ⟨h1, h2, h3, (histoCount_other (by have := dieRange hk; omega) _ t).trans h4⟩
  obtain ⟨h1, h2, h3, h4⟩ := hdies
  refine answers_answer _ he h2 h3 ⟨h1, ?_⟩
  show ∃ g, (u.recd.histos.modify 101 _)[101]? = some g ∧ _
  rw [List.getElem?_modify, h4]
  exact ⟨_, rfl, rfl⟩

/-- The entry of an extreme with one more sample. -/
def SampledBy (x : Int) (e g : Extreme) : Prop :=
  (∀ m, e.max = some m → g.max.map (·.value) = some (max m.value x)) ∧ (e.max = none → g.max.map (·.value) = some x) ∧
  (∀ m, e.min = some m → g.min.map (·.value) = some (min m.value x)) ∧ (e.min = none → g.min.map (·.value) = some x)

theorem extremeSample_other {n m : Nat} (h : m ≠ n) (x : Int) (s : State) :
    (extremeSample n x s).recd.extremes[m]? = s.recd.extremes[m]? := by
  show (s.recd.extremes.modify n _)[m]? = _
  rw [List.getElem?_modify]
  simp [Ne.symm h]

/-- The sample is a new largest value. -/
def isUp (x : Int) (e : Extreme) : Bool := (e.max.map fun m => decide (m.value < x)).getD true

/-- The sample is a new smallest value. -/
def isDown (x : Int) (e : Extreme) : Bool := (e.min.map fun m => decide (x < m.value)).getD true

theorem sampledBy_of {x : Int} {p : Peak} {e g : Extreme} (hp : p.value = x)
    (hmax : g.max = if isUp x e then some p else e.max) (hmin : g.min = if isDown x e then some p else e.min) :
    SampledBy x e g := by
  refine ⟨fun m hm => ?_, fun hm => ?_, fun m hm => ?_, fun hm => ?_⟩
  · rw [hmax, isUp, hm]
    by_cases h : m.value < x
    · simp [h, hp, Int.max_eq_right (Int.le_of_lt h)]
    · simp [h, Int.max_eq_left (Int.not_lt.1 h)]
  · rw [hmax, isUp, hm]
    simp [hp]
  · rw [hmin, isDown, hm]
    by_cases h : x < m.value
    · simp [h, hp, Int.min_eq_right (Int.le_of_lt h)]
    · simp [h, Int.min_eq_left (Int.not_lt.1 h)]
  · rw [hmin, isDown, hm]
    simp [hp]

theorem extremeSample_sampled {n : Nat} {s : State} {e : Extreme} (h : s.recd.extremes[n]? = some e) (x : Int) :
    ∃ g, (extremeSample n x s).recd.extremes[n]? = some g ∧ SampledBy x e g := by
  show ∃ g, (s.recd.extremes.modify n _)[n]? = some g ∧ _
  rw [List.getElem?_modify, h]
  simp only [if_true]
  refine ⟨_, rfl, sampledBy_of (p := ⟨x, s.get Obj.operatingSeconds, s.get Obj.powerCycleCount, s.utcOrZero⟩) rfl ?_ ?_⟩
  · show Extreme.max (if (isUp x e || isDown x e) = true then _ else e) = _
    split
    · rfl
    next hn =>
      rw [Bool.or_eq_true, not_or] at hn
      rw [if_neg hn.1]
  · show Extreme.min (if (isUp x e || isDown x e) = true then _ else e) = _
    split
    · rfl
    next hn =>
      rw [Bool.or_eq_true, not_or] at hn
      rw [if_neg hn.2]

/-- The voltages of the rails are published. -/
def railsShown (rails : List Nat) (s : State) : State :=
  each (List.range 5) (fun i s => s.put (Obj.vcoreVoltage + i) (rails.getD i 0)) s

theorem railsShown_get (rails : List Nat) (s : State) (i : Nat) (hi : i < 5) :
    (railsShown rails s).get (Obj.vcoreVoltage + i) = fitTo (Obj.vcoreVoltage + i) (rails.getD i 0) := by
  have hplain : ∀ j : Fin 5, isConst (Obj.vcoreVoltage + j) = false := by decide
  have hlist : (List.range 5 : List Nat) = [0, 1, 2, 3, 4] := rfl
  have hself (j v : Nat) (hj : j < 5) (t : State) : (t.put (Obj.vcoreVoltage + j) v).get (Obj.vcoreVoltage + j) =
      fitTo (Obj.vcoreVoltage + j) v := get_put_self _ _ _ (hplain ⟨j, hj⟩)
  have hother (j v : Nat) (h : j ≠ i) (t : State) : (t.put (Obj.vcoreVoltage + j) v).get (Obj.vcoreVoltage + i) =
      t.get (Obj.vcoreVoltage + i) := get_put_ne _ _ _ _ (by omega)
  unfold railsShown
  rw [hlist]
  simp only [each, List.foldl_cons, List.foldl_nil]
  obtain rfl | rfl | rfl | rfl | rfl : i = 0 ∨ i = 1 ∨ i = 2 ∨ i = 3 ∨ i = 4 := by omega
  · rw [hother 4 _ (by decide), hother 3 _ (by decide), hother 2 _ (by decide), hother 1 _ (by decide), hself 0 _ hi]
  · rw [hother 4 _ (by decide), hother 3 _ (by decide), hother 2 _ (by decide), hself 1 _ hi]
  · rw [hother 4 _ (by decide), hother 3 _ (by decide), hself 2 _ hi]
  · rw [hother 4 _ (by decide), hself 3 _ hi]
  · rw [hself 4 _ hi]

/-- The samples of the other extremes leave that of the temperature. -/
structure Sampling (rails : List Nat) (s : State) (e : Extreme) (t : State) : Prop where
  objs : t.objs = (railsShown rails s).objs
  variant : t.variant = s.variant
  pending : t.pending = s.pending
  entry : t.recd.extremes[53]? = some e

theorem extremeSample_answers {s : State} (hl : s.live = true) (vfld : List Nat) (vrsv : Nat) (rails : List Nat) (temp : Int)
    (e : Extreme) (hx : s.recd.extremes[53]? = some e) : Answers (.extremeSample vfld vrsv rails temp) s fun t =>
      (∀ i, i < 5 → t.get (Obj.vcoreVoltage + i) = fitTo (Obj.vcoreVoltage + i) (rails.getD i 0)) ∧
      ∃ g, t.recd.extremes[53]? = some g ∧ SampledBy temp e g := by
  obtain ⟨u, hu⟩ : ∃ u, each ((List.range 4).filter s.variant.hasDie) (fun k s => extremeSample (48 + k) (vfld.getD k 0) s)
    (railsShown rails s) = u := ⟨_, rfl⟩
  obtain ⟨w, hw⟩ : ∃ w, (if u.variant.isT = true then extremeSample 52 vrsv u else u) = w := ⟨_, rfl⟩
  have hrails : (railsShown rails s).variant = s.variant ∧ (railsShown rails s).pending = s.pending ∧
      (railsShown rails s).recd = s.recd :=
    each_keeps (P := fun t => t.variant = s.variant ∧ t.pending = s.pending ∧ t.recd = s.recd)
      (fun i _ t ht => ⟨(put_variant ..).trans ht.1, (put_pending ..).trans ht.2.1, (put_recd ..).trans ht.2.2⟩) ⟨rfl, rfl, rfl⟩
  have he : exec (.extremeSample vfld vrsv rails temp) s = s.answer
      (extremeSample 55 (rails.getD 4 0) (extremeSample 54 (rails.getD 0 0) (extremeSample 53 temp w))) := by
    show execExtremeSample vfld vrsv rails temp s = _
    rw [execExtremeSample, answerLive_live hl, ← hw, ← hu]
    have hv := hrails.1
    unfold railsShown at hv ⊢
    dsimp only
    rw [hv]
  have hkeep {n : Nat} (hn : n ≠ 53) (x : Int) {t : State} (ht : Sampling rails s e t) :
      Sampling rails s e (extremeSample n x t) :=
    ⟨ht.objs, ht.variant, ht.pending, (extremeSample_other (Ne.symm hn) x t).trans ht.entry⟩
  have hstart : Sampling rails s e (railsShown rails s) :=
    ⟨rfl, hrails.1, hrails.2.1, by rw [hrails.2.2, hx]⟩
  have hdies : Sampling rails s e u := hu ▸ each_keeps (P := Sampling rails s e)
    (fun k hk t ht => hkeep (by have := dieRange hk; omega) _ ht) hstart
  have hrsv : Sampling rails s e w := hw ▸ of_ite (P := Sampling rails s e) (hkeep (by decide) _ hdies) hdies
  obtain ⟨g, hg, hs⟩ := extremeSample_sampled hrsv.entry temp
  refine answers_answer _ he hrsv.variant hrsv.pending ⟨fun i hi => ?_, g, ?_, hs⟩
  · refine (get_congr (railsShown rails s) _ _ (hrsv.variant.trans hrails.1.symm) hrsv.objs).trans ?_
    exact railsShown_get rails s i hi
  · rw [extremeSample_other (by decide), extremeSample_other (by decide), hg]

/-! Scrubbing (R383, R384). -/

theorem BitTo.of_start {k i : Nat} {b : Bool} {s t u : State} (h : BitTo k i b u t) (hg : u.get k = s.get k) : BitTo k i b s t :=
  fun j hj => by
    have hbit : s.bit k j = u.bit k j := by rw [State.bit, State.bit, hg]
    rw [hbit]
    exact h j hj

/-- The word is kept as bad. -/
def wordKept (a u : Nat) (s : State) : State :=
  let hit := s.salt.recordOf a
  let lies (r : LogRec) : Bool := hit.any fun h => h.log == r.log && h.seqNo == r.seqNo
  let mark (r : LogRec) : LogRec := if lies r then { r with bad := true } else r
  let ws := if s.diag.badWords.contains (a, u) then s.diag.badWords else s.diag.badWords ++ [(a, u)]
  { s.onSalt fun p => { p with cycleLog := p.cycleLog.map mark, eventLog := p.eventLog.map mark
                               faultLog := p.faultLog.map mark, pinned := p.pinned.map mark } with
    diag := { s.diag with badWords := ws } }

/-- The word is counted and shown. -/
def badWordShown (a u : Nat) (s : State) : State := ((wordKept a u s).inc Obj.mramUncorr).setBit Obj.periodicFault 1 true

theorem mramBad_eq (a u : Nat) (s : State) : mramBad a u s =
    memoryFault Obj.periodicFault ((badWordShown a u s).get Obj.periodicFault) a 0 0 (badWordShown a u s) := rfl

theorem mem_wordKept (a u : Nat) (s : State) : (a, u) ∈ (wordKept a u s).diag.badWords := by
  show (a, u) ∈ (if s.diag.badWords.contains (a, u) then s.diag.badWords else s.diag.badWords ++ [(a, u)])
  split
  next h => exact List.contains_iff_mem.1 h
  next => simp

/-- What an uncorrectable word leaves. -/
structure WordBad (a u : Nat) (s t : State) : Prop where
  counts : CountsUp Obj.mramUncorr s t
  bit : BitTo Obj.periodicFault 1 true s t
  word : (a, u) ∈ t.diag.badWords

theorem mramBad_leaves (a u : Nat) (s : State) : WordBad a u s (mramBad a u s) := by
  have hkept (k : Nat) : (wordKept a u s).get k = s.get k := rfl
  have hcount : ((wordKept a u s).inc Obj.mramUncorr).get Obj.periodicFault = s.get Obj.periodicFault :=
    (get_put_ne _ _ _ _ (by decide)).trans (hkept _)
  rw [mramBad_eq]
  refine ⟨?_, ?_, ?_⟩
  · rw [CountsUp, memoryFault_get _ _ _ _ _ _ _ rfl, badWordShown]
    exact (get_put_ne _ _ _ _ (by decide)).trans (get_put_self _ _ (wordKept a u s) rfl)
  · refine BitTo.of_get ?_ (memoryFault_get _ _ _ _ _ _ _ rfl)
    exact BitTo.of_start (bitTo_setBit Obj.periodicFault 1 true ((wordKept a u s).inc Obj.mramUncorr) rfl) hcount
  · rw [memoryFault_diag, badWordShown, setBit_eq, put_diag, inc_eq, put_diag]
    exact mem_wordKept a u s

section
variable {s : State} (hl : s.live = true)
include hl

theorem sramScrubRound_passes : Answers (.sramScrubRound true) s fun t =>
    CountsUp Obj.sramScrubRounds s t ∧ OnlyMoves [Obj.sramScrubRounds] s t := by
  have he : exec (.sramScrubRound true) s = s.answer (s.inc Obj.sramScrubRounds) := by
    show execSramScrubRound true s = _
    rw [execSramScrubRound, answerLive_live hl]
    rfl
  have hm : Moves (caps [.objs]) s (s.inc Obj.sramScrubRounds) := put_moves (.refl s)
  exact answers_answer _ he hm.variant hm.pending ⟨get_put_self _ _ s rfl, onlyMoves_put _ _ s⟩

theorem sramScrubRound_fails : Answers (.sramScrubRound false) s fun t =>
    CountsUp Obj.sramScrubRounds s t ∧ BitTo Obj.periodicFault 0 true s t := by
  obtain ⟨u, hu⟩ : ∃ u, (s.inc Obj.sramScrubRounds).setBit Obj.periodicFault 0 true = u := ⟨_, rfl⟩
  have he : exec (.sramScrubRound false) s = s.answer (memoryFault Obj.periodicFault (u.get Obj.periodicFault) 0 0 0 u) := by
    show execSramScrubRound false s = _
    rw [execSramScrubRound, answerLive_live hl, ← hu]
    rfl
  have hm : Moves (caps allParts) s u := hu ▸ put_moves (put_moves (.refl s))
  have hcount : (s.inc Obj.sramScrubRounds).get Obj.periodicFault = s.get Obj.periodicFault := get_put_ne _ _ _ s (by decide)
  refine answers_answer _ he ?_ ?_ ⟨?_, ?_⟩
  · rw [memoryFault_variant, hm.variant]
  · rw [memoryFault_pending, hm.pending]
  · rw [CountsUp, memoryFault_get _ _ _ _ _ _ _ rfl, ← hu]
    exact (get_put_ne _ _ _ _ (by decide)).trans (get_put_self _ _ s rfl)
  · refine BitTo.of_get ?_ (memoryFault_get _ _ _ _ _ _ _ rfl)
    rw [← hu]
    exact BitTo.of_start (bitTo_setBit Obj.periodicFault 0 true (s.inc Obj.sramScrubRounds) rfl) hcount

/-- The end of a round of the Saltpan's scrubber. -/
def scrubEnds (last : Bool) (s : State) : State := if last then s.inc Obj.mramScrubRounds else s

theorem mramScrub_clean (last : Bool) : Answers (.mramScrub none last) s fun t => t.salt = s.salt ∧
    (last = true → CountsUp Obj.mramScrubRounds s t) ∧ OnlyMoves [Obj.mramScrubRounds] s t := by
  have he : exec (.mramScrub none last) s = s.answer (scrubEnds last s) := by
    show execMramScrub none last s = _
    rw [execMramScrub, answerLive_live hl]
    rfl
  have hm : Moves (caps [.objs]) s (scrubEnds last s) := .ite (put_moves (.refl s)) (.refl s)
  refine answers_answer _ he hm.variant hm.pending ⟨?_, fun h => ?_, ?_⟩
  · exact of_ite (P := fun t : State => t.salt = s.salt) (put_salt ..) rfl
  · rw [h]
    exact get_put_self _ _ s rfl
  · exact of_ite (P := fun t : State => OnlyMoves [Obj.mramScrubRounds] s t) (onlyMoves_put _ _ s) fun _ _ => rfl

section
variable (a u : Nat) (last : Bool) (ha : s.salt.committed a = true)
include ha

theorem mramScrub_corrected : Answers (.mramScrub (some (a, u, false)) last) s fun t =>
    CountsUp Obj.mramCorrected s t ∧ t.salt = s.salt := by
  have he : exec (.mramScrub (some (a, u, false)) last) s = s.answer (scrubEnds last (s.inc Obj.mramCorrected)) := by
    show execMramScrub (some (a, u, false)) last s = _
    rw [execMramScrub, answerLive_live hl]
    simp only [ha, Bool.not_true, Bool.false_eq_true, if_false] <;> rfl
  have hm : Moves (caps [.objs]) s (scrubEnds last (s.inc Obj.mramCorrected)) :=
    .ite (put_moves (put_moves (.refl s))) (put_moves (.refl s))
  have hcount : CountsUp Obj.mramCorrected s (s.inc Obj.mramCorrected) := get_put_self _ _ s rfl
  refine answers_answer _ he hm.variant hm.pending ⟨?_, ?_⟩
  · exact of_ite (P := fun t : State => CountsUp Obj.mramCorrected s t) ((get_put_ne _ _ _ _ (by decide)).trans hcount) hcount
  · exact of_ite (P := fun t : State => t.salt = s.salt) ((put_salt ..).trans (put_salt ..)) (put_salt ..)

theorem mramScrub_bad : Answers (.mramScrub (some (a, u, true)) last) s fun t =>
    CountsUp Obj.mramUncorr s t ∧ BitTo Obj.periodicFault 1 true s t ∧ (a, u) ∈ t.diag.badWords := by
  have he : exec (.mramScrub (some (a, u, true)) last) s = s.answer (scrubEnds last (mramBad a u s)) := by
    show execMramScrub (some (a, u, true)) last s = _
    rw [execMramScrub, answerLive_live hl]
    simp only [ha, Bool.not_true, Bool.false_eq_true, if_false, if_true] <;> rfl
  have hm : Moves (caps allParts) s (scrubEnds last (mramBad a u s)) :=
    .ite (put_moves (mramBad_moves (.refl s))) (mramBad_moves (.refl s))
  obtain ⟨hcount, hbit, hword⟩ := mramBad_leaves a u s
  refine answers_answer _ he hm.variant hm.pending (of_ite (P := fun t : State => CountsUp Obj.mramUncorr s t ∧
    BitTo Obj.periodicFault 1 true s t ∧ (a, u) ∈ t.diag.badWords) ⟨?_, ?_, ?_⟩ ⟨hcount, hbit, hword⟩)
  · exact (get_put_ne _ _ _ _ (by decide)).trans hcount
  · exact hbit.of_get (get_put_ne _ _ _ _ (by decide))
  · rw [inc_eq, put_diag]
    exact hword

end

end

/-! The temperature (R386). -/

/-- The temperature is shown. -/
def tempShown (c : Int) (s : State) : State :=
  { s.puti Obj.dieTemp c with diag := { s.diag with overSince := if 1250 < c then some (s.diag.overSince.getD s.now) else none } }

/-- The warning of the temperature, from the bit that stands. -/
def tempJudged (c warn : Int) (s : State) : State :=
  if s.bit Obj.periodicFault 2 then (if c ≤ warn - 50 then s.setBit Obj.periodicFault 2 false else s)
  else if warn < c then
    supplyFault Obj.dieTemp 0 ((s.setBit Obj.periodicFault 2 true).get Obj.dieTemp) 0 (s.setBit Obj.periodicFault 2 true)
  else s

theorem setBit_two (b : Bool) (s : State) : (s.setBit Obj.periodicFault 2 b).bit Obj.periodicFault 2 = b :=
  (bitTo_setBit Obj.periodicFault 2 b s rfl 2 (by decide)).trans (if_pos rfl)

theorem tempJudged_shows (c warn : Int) (s : State) :
    (tempJudged c warn s).get Obj.dieTemp = s.get Obj.dieTemp ∧ (tempJudged c warn s).diag = s.diag ∧
    (tempJudged c warn s).bit Obj.periodicFault 2 =
      (if s.bit Obj.periodicFault 2 = true then decide (warn - 50 < c) else decide (warn < c)) := by
  have hset (b : Bool) : (s.setBit Obj.periodicFault 2 b).get Obj.dieTemp = s.get Obj.dieTemp := get_put_ne _ _ _ s (by decide)
  unfold tempJudged
  by_cases hb : s.bit Obj.periodicFault 2 = true
  · rw [if_pos hb, if_pos hb]
    by_cases hc : c ≤ warn - 50
    · rw [if_pos hc]
      exact ⟨hset _, put_diag .., (setBit_two false s).trans (decide_eq_false (by omega)).symm⟩
    · rw [if_neg hc]
      exact ⟨rfl, rfl, hb.trans (decide_eq_true (by omega)).symm⟩
  · rw [if_neg hb, if_neg hb]
    by_cases hc : warn < c
    · rw [if_pos hc, supplyFault_get _ _ _ _ _ _ rfl, supplyFault_diag, State.bit, supplyFault_get _ _ _ _ _ _ rfl]
      exact ⟨hset _, put_diag .., (setBit_two true s).trans (decide_eq_true hc).symm⟩
    · rw [if_neg hc]
      exact ⟨rfl, rfl, (Bool.eq_false_iff.2 hb).trans (decide_eq_false hc).symm⟩

section
variable {s : State} (hl : s.live = true)
include hl

theorem dieTempSample_answers (c : Int) : Answers (.dieTempSample c) s fun t =>
    t.get Obj.dieTemp = encSigned (8 * Machine.sizeOf Obj.dieTemp) c ∧
      t.diag.overSince = (if 1250 < c then some (s.diag.overSince.getD s.now) else none) ∧
      (s.bit Obj.periodicFault 2 = false → t.bit Obj.periodicFault 2 = decide (s.geti Obj.tempWarn < c)) ∧
      (s.bit Obj.periodicFault 2 = true → t.bit Obj.periodicFault 2 = decide (s.geti Obj.tempWarn - 50 < c)) := by
  have hdiag : (s.puti Obj.dieTemp c).diag = s.diag := put_diag ..
  have hnow : (s.puti Obj.dieTemp c).now = s.now := put_now ..
  have he : exec (.dieTempSample c) s = s.answer (tempJudged c (s.geti Obj.tempWarn) (tempShown c s)) := by
    show execDieTempSample c s = _
    rw [execDieTempSample, answerLive_live hl]
    unfold tempShown
    rw [← hdiag, ← hnow]
    rfl
  have hm : Moves (caps allParts) s (tempShown c s) := update_moves (put_moves (.refl s))
  obtain ⟨htemp, hsince, hwarn⟩ := tempJudged_shows c (s.geti Obj.tempWarn) (tempShown c s)
  have hbit : (tempShown c s).bit Obj.periodicFault 2 = s.bit Obj.periodicFault 2 :=
    congrArg (Nat.testBit · 2) (get_put_ne _ _ _ s (by decide))
  have hjudged : Moves (caps allParts) (tempShown c s) (tempJudged c (s.geti Obj.tempWarn) (tempShown c s)) :=
    .ite (.ite (put_moves (.refl _)) (.refl _)) (.ite (supplyFault_moves (put_moves (.refl _))) (.refl _))
  refine answers_answer _ he (hjudged.variant.trans hm.variant) (hjudged.pending.trans hm.pending)
    ⟨?_, ?_, fun h => ?_, fun h => ?_⟩
  · rw [htemp]
    exact get_puti_self (k := Obj.dieTemp) rfl c s
  · rw [hsince]
    rfl
  · rw [hwarn, hbit, h]
    rfl
  · rw [hwarn, hbit, h]
    rfl

theorem overTempShutdown_answers (ht : Passed s.diag.overSince (sec 10) s) (hp : s.get Obj.powerPhase = 0)
    (hs : s.get Obj.powerState ≤ 2) : Answers .overTempShutdown s fun t =>
      t.pow.off = some (max (s.pow.off.getD 0) 5) ∧ t.objs = s.objs := by
  have hrun : s.rst.inReset = false := by
    simp only [State.live, Bool.and_eq_true, Bool.not_eq_true'] at hl
    exact hl.2
  have hoff : offRequest 5 false s = s.onPow fun p =>
      { p with off := some (max (p.off.getD 0) 5), offHoldup := p.offHoldup || false } := by
    have hparked : s.parked = false := decide_eq_false (by omega)
    have hstate : (s.get Obj.powerState == 3) = false := beq_eq_false_iff_ne.2 (by omega)
    unfold offRequest
    simp only [hparked, hstate, hrun, hp]
    rfl
  have he : exec .overTempShutdown s = s.answer (s.onPow fun p =>
      { p with off := some (max (p.off.getD 0) 5), offHoldup := p.offHoldup || false }) := by
    show execOverTempShutdown s = _
    rw [execOverTempShutdown, answerLive_live hl, heldFor_passed ht, ← hoff]
    rfl
  exact answers_answer _ he rfl rfl ⟨rfl, rfl⟩

end

/-- Settles O20: flushes, samples, scrub rounds and temperatures leave what their rows say. -/
theorem recorderFlushesAndScrubbersReport : Obligations.RecorderFlushesAndScrubbersReport := by
  refine ⟨fun s hl => ⟨flushPeriodExpiry_answers hl, fun j js => flushStart_answers hl j js,
      fun j fin => journalCommit_answers hl j fin, fun vfld temp h => histogramSample_answers hl vfld temp h,
      fun vfld vrsv rails temp e => extremeSample_answers hl vfld vrsv rails temp e⟩,
    fun s hl => ⟨sramScrubRound_passes hl, sramScrubRound_fails hl, mramScrub_clean hl,
      fun a u last ha => mramScrub_corrected hl a u last ha, fun a u last ha => mramScrub_bad hl a u last ha,
      dieTempSample_answers hl, overTempShutdown_answers hl⟩⟩

end Sys2Proof.Machine
end

section
/-! Main supply -/
namespace Sys2Proof.Machine
open Sys2Proof Sys2Proof.Config

/-! Off requests of a device that runs (R318). -/

set_option Elab.async false in
/-- An off request joins those before it. -/
def offJoined (target : Nat) (holdup : Bool) (s : State) : State :=
  s.onPow fun p => { p with off := some (max (p.off.getD 0) target), offHoldup := p.offHoldup || holdup }

/-- A start is marked for the off request that meets it. -/
def startMet (s : State) : State := (if s.pow.off.isNone then markStart s else s).onPow fun p => { p with offInStart := true }

/-- What an off request does when no start is in its first phases. -/
theorem offRequest_ends {P : State → Prop} {target : Nat} {holdup : Bool} {s : State} (hrun : s.rst.inReset = false)
    (hph : ¬ (0x10 ≤ s.get Obj.powerPhase ∧ s.get Obj.powerPhase ≤ 0x12)) (hsame : P s)
    (hstart : P (offJoined target holdup (startMet s))) (hjoin : P (offJoined target holdup s)) :
    P (offRequest target holdup s) := by
  have heq : offRequest target holdup s = if (s.parked || s.get Obj.powerState == 3) = true then s
      else if s.rst.inReset = true ∨ (0x10 ≤ s.get Obj.powerPhase ∧ s.get Obj.powerPhase ≤ 0x12) then unwind target s
      else if 0x13 ≤ s.get Obj.powerPhase ∧ s.get Obj.powerPhase ≤ 0x15 then offJoined target holdup (startMet s)
      else offJoined target holdup s := rfl
  rw [heq]
  refine of_ite (P := P) hsame ?_
  rw [if_neg (by rw [hrun]; simpa using hph)]
  exact of_ite (P := P) hstart hjoin

theorem offRequest_joins {target : Nat} {holdup : Bool} {s : State} (hrun : s.rst.inReset = false)
    (hp : s.get Obj.powerPhase = 0) (hs : s.get Obj.powerState ≤ 2) : offRequest target holdup s = offJoined target holdup s := by
  have hparked : s.parked = false := decide_eq_false (by omega)
  have hstate : (s.get Obj.powerState == 3) = false := beq_eq_false_iff_ne.2 (by omega)
  unfold offRequest
  simp only [hparked, hstate, hrun, hp]
  rfl

theorem markStart_objs (s : State) : (markStart s).objs = s.objs ∧ (markStart s).sup = s.sup := by
  unfold markStart
  refine of_ite (P := fun t : State => t.objs = s.objs ∧ t.sup = s.sup) ⟨rfl, rfl⟩ ?_
  split <;> exact ⟨rfl, rfl⟩

theorem startMet_objs (s : State) : (startMet s).objs = s.objs ∧ (startMet s).sup = s.sup :=
  of_ite (P := fun t : State => t.objs = s.objs ∧ t.sup = s.sup) (markStart_objs s) ⟨rfl, rfl⟩

/-- An off request leaves objects and supplies. -/
theorem offRequest_objs {target : Nat} {holdup : Bool} {s : State} (hrun : s.rst.inReset = false)
    (hph : ¬ (0x10 ≤ s.get Obj.powerPhase ∧ s.get Obj.powerPhase ≤ 0x12)) :
    (offRequest target holdup s).objs = s.objs ∧ (offRequest target holdup s).sup = s.sup :=
  offRequest_ends (P := fun t => t.objs = s.objs ∧ t.sup = s.sup) hrun hph ⟨rfl, rfl⟩ (startMet_objs s) ⟨rfl, rfl⟩

/-! The failure of main (R288, R289). -/

theorem dozeExit_off (s : State) : (dozeExit s).pow.off = s.pow.off := by
  have hwake (u : State) : (each [0, 1] (fun p s => if s.bit (Obj.portStatus p) 4 then
      (s.setBit (Obj.portStatus p) 4 false).onNet fun n =>
        { n with ports := n.ports.modify p fun u => { u with wakeAt := some (s.now + us 30) } } else s) u).pow = u.pow :=
    each_keeps (P := fun t => t.pow = u.pow) (fun p _ t ht => of_ite (P := fun v : State => v.pow = u.pow)
      ((put_pow ..).trans ht) ht) rfl
  unfold dozeExit
  refine of_ite (P := fun t : State => t.pow.off = s.pow.off) ?_ rfl
  rw [hwake]
  show (s.put Obj.powerState 0).pow.off = _
  rw [put_pow]

theorem dozeExit_powerState (s : State) (h : s.get Obj.powerState ≤ 2) : (dozeExit s).get Obj.powerState ≤ 2 := by
  have hwake (u : State) : (each [0, 1] (fun p s => if s.bit (Obj.portStatus p) 4 then
      (s.setBit (Obj.portStatus p) 4 false).onNet fun n =>
        { n with ports := n.ports.modify p fun u => { u with wakeAt := some (s.now + us 30) } } else s) u).get Obj.powerState =
      u.get Obj.powerState :=
    each_keeps (P := fun t => t.get Obj.powerState = u.get Obj.powerState) (fun p hp t ht =>
      of_ite (P := fun v : State => v.get Obj.powerState = u.get Obj.powerState) ((get_put_ne _ _ _ t (by
        obtain rfl | rfl : p = 0 ∨ p = 1 := by simpa using hp
        · decide
        · decide)).trans ht) ht) rfl
  unfold dozeExit
  refine of_ite (P := fun t : State => t.get Obj.powerState ≤ 2) ?_ h
  rw [hwake]
  exact Nat.le_trans (Nat.le_of_eq (get_put_self Obj.powerState 0 s rfl)) (by decide)

/-- The path of the energy after a failure of main. -/
def State.failPath (s : State) : Nat := if s.hasSpring then 1 else 2

/-- The failure of main is shown. -/
def failPut (mv : Nat) (s : State) : State := (s.put Obj.vmainVoltage mv).put Obj.pathState s.failPath

/-- The failure of main is counted, and the charger stops. -/
def failCounted (mv : Nat) (s : State) : State :=
  (((dozeExit (failPut mv s)).onSup fun u => { u with charging := false, failAt := some (dozeExit (failPut mv s)).now }).put
    Obj.balanceActive 0).inc Obj.mainFailCount

/-- The failure of main is told. -/
def failTold (mv : Nat) (s : State) : State :=
  let t := supplyFault Obj.pathState 0 (failCounted mv s).pathFlags mv (failCounted mv s)
  stateNotice Obj.pathState s.failPath (showReserve t)

theorem failMain_eq (mv : Nat) (s : State) : failMain mv s =
    if s.failPath = 2 then offRequest 5 true (failTold mv s) else failTold mv s := rfl

/-- From `s` to `t` the failure of main is told. -/
structure FailTold (mv : Nat) (s t : State) : Prop where
  path : t.get Obj.pathState = s.failPath
  volts : t.get Obj.vmainVoltage = fitTo Obj.vmainVoltage mv
  counts : CountsUp Obj.mainFailCount s t
  phase : t.get Obj.powerPhase = s.get Obj.powerPhase
  state : s.get Obj.powerState ≤ 2 → t.get Obj.powerState ≤ 2
  supply : t.sup = { s.sup with charging := false, failAt := some s.now }
  reset : t.rst = s.rst
  off : t.pow.off = s.pow.off

theorem failPut_get {k : Nat} (h1 : k ≠ Obj.vmainVoltage) (h2 : k ≠ Obj.pathState) (mv : Nat) (s : State) :
    (failPut mv s).get k = s.get k := (get_put_ne _ _ _ _ h2).trans (get_put_ne _ _ _ s h1)

theorem failCounted_get {k : Nat} (h1 : k ≠ Obj.mainFailCount) (h2 : k ≠ Obj.balanceActive) (mv : Nat) (s : State) :
    (failCounted mv s).get k = (dozeExit (failPut mv s)).get k :=
  (get_put_ne Obj.mainFailCount _ k _ h1).trans (get_put_ne Obj.balanceActive _ k
    ((dozeExit (failPut mv s)).onSup fun u => { u with charging := false, failAt := some (dozeExit (failPut mv s)).now }) h2)

theorem failTold_get {k : Nat} (h : k ≠ Obj.reserveState) (hn : noisy k = false) (mv : Nat) (s : State) :
    (failTold mv s).get k = (failCounted mv s).get k := by
  rw [failTold, stateNotice_get _ _ _ _ hn]
  exact (get_put_ne _ _ _ _ h).trans (supplyFault_get _ _ _ _ _ _ hn)

theorem failTold_tells (mv : Nat) (s : State) : FailTold mv s (failTold mv s) := by
  have hdoze : Moves (caps [.objs, .pow, .net]) s (dozeExit (failPut mv s)) := dozeExit_moves (put_moves (put_moves (.refl s)))
  have hsmall : s.failPath < 256 := by rw [State.failPath]; split <;> decide
  have hput : (failPut mv s).get Obj.pathState = s.failPath :=
    (get_put_self _ _ _ rfl).trans (Nat.mod_eq_of_lt (by exact hsmall))
  refine ⟨?_, ?_, ?_, ?_, fun h => ?_, ?_, ?_, ?_⟩
  · rw [failTold_get (by decide) rfl, failCounted_get (by decide) (by decide), dozeExit_get (by decide), hput]
  · rw [failTold_get (by decide) rfl, failCounted_get (by decide) (by decide), dozeExit_get (by decide)]
    exact (get_put_ne _ _ _ _ (by decide)).trans (get_put_self _ _ s rfl)
  · have hbefore : (((dozeExit (failPut mv s)).onSup fun u =>
        { u with charging := false, failAt := some (dozeExit (failPut mv s)).now }).put Obj.balanceActive 0).get
        Obj.mainFailCount = s.get Obj.mainFailCount := by
      refine (get_put_ne Obj.balanceActive 0 Obj.mainFailCount ((dozeExit (failPut mv s)).onSup fun u =>
        { u with charging := false, failAt := some (dozeExit (failPut mv s)).now }) (by decide)).trans ?_
      exact (dozeExit_get (by decide) (failPut mv s)).trans (failPut_get (by decide) (by decide) mv s)
    rw [CountsUp, failTold_get (by decide) rfl, failCounted, inc_eq, get_put_self _ _ _ rfl, hbefore]
  · rw [failTold_get (by decide) rfl, failCounted_get (by decide) (by decide), dozeExit_get (by decide),
      failPut_get (by decide) (by decide)]
  · rw [failTold_get (by decide) rfl, failCounted_get (by decide) (by decide)]
    exact dozeExit_powerState _ (by rw [failPut_get (by decide) (by decide)]; exact h)
  · have hsup : (dozeExit (failPut mv s)).sup = s.sup := hdoze.part .sup (by decide)
    rw [failTold, stateNotice_sup, showReserve, put_sup, supplyFault_sup, failCounted, inc_eq, put_sup, put_sup]
    show ({ (dozeExit (failPut mv s)).sup with charging := false, failAt := some (dozeExit (failPut mv s)).now } : Supply) = _
    rw [hsup, hdoze.now]
  · have hrst : (dozeExit (failPut mv s)).rst = s.rst := hdoze.part .rst (by decide)
    rw [failTold, stateNotice_rst, showReserve, put_rst, supplyFault_rst, failCounted, inc_eq, put_rst, put_rst]
    exact hrst
  · rw [failTold, stateNotice_pow, showReserve, put_pow, supplyFault_pow, failCounted, inc_eq, put_pow, put_pow]
    refine (dozeExit_off (failPut mv s)).trans ?_
    rw [failPut, put_pow, put_pow]

theorem not_inReset {s : State} (hl : s.live = true) : s.rst.inReset = false := by
  simp only [State.live, Bool.and_eq_true, Bool.not_eq_true'] at hl
  exact hl.2

theorem live_of_restored {s : State} (h : s.restored = true) : s.live = true := by
  simp only [State.restored, Bool.and_eq_true] at h
  exact h.1

/-- From `s` to `t` a device that runs has failed over. -/
structure MainFails (mv : Nat) (s t : State) : Prop where
  path : t.get Obj.pathState = s.failPath
  counts : CountsUp Obj.mainFailCount s t
  volts : t.get Obj.vmainVoltage = fitTo Obj.vmainVoltage mv
  supply : t.sup = { s.sup with charging := false, failAt := some s.now }
  off : s.failPath = 2 → s.get Obj.powerPhase = 0 → s.get Obj.powerState ≤ 2 →
    t.pow.off = some (max (s.pow.off.getD 0) 5) ∧ t.pow.offHoldup = true

theorem failMain_fails {s : State} (hl : s.live = true) (hph : ¬ (0x10 ≤ s.get Obj.powerPhase ∧ s.get Obj.powerPhase ≤ 0x12))
    (mv : Nat) : MainFails mv s (failMain mv s) := by
  have htold := failTold_tells mv s
  rw [failMain_eq]
  generalize failTold mv s = w at htold ⊢
  obtain ⟨hpath, hvolts, hcount, hphase, hstate, hsup, hrst, hoff⟩ := htold
  have hrun : w.rst.inReset = false := by rw [hrst]; exact not_inReset hl
  have hserved : ¬ (0x10 ≤ w.get Obj.powerPhase ∧ w.get Obj.powerPhase ≤ 0x12) := by rw [hphase]; exact hph
  have hobjs := offRequest_objs (target := 5) (holdup := true) hrun hserved
  by_cases hp : s.failPath = 2
  · rw [if_pos hp]
    have hv : (offRequest 5 true w).variant = w.variant :=
      (offRequest_moves (.refl _) : Moves (caps allParts) w _).variant
    have hget (k : Nat) : (offRequest 5 true w).get k = w.get k := get_congr _ _ k hv hobjs.1
    refine ⟨(hget _).trans hpath, (hget _).trans hcount, (hget _).trans hvolts, hobjs.2.trans hsup, fun _ h0 h2 => ?_⟩
    rw [offRequest_joins hrun (hphase.trans h0) (hstate h2)]
    refine ⟨?_, Bool.or_true _⟩
    show some (max (w.pow.off.getD 0) 5) = _
    rw [hoff]
  · rw [if_neg hp]
    exact ⟨hpath, hcount, hvolts, hsup, fun h => absurd h hp⟩

/-- Main is declared failed. -/
def mainLost (s : State) : State := s.onSup fun u => { u with mainOk := false, mainFail := true, okAt := none }

theorem mainFail_answers {s : State} (mv held : Nat) (hr : s.restored = true) (hp : s.get Obj.pathState = 0)
    (hv : mv < s.get Obj.mainFailVoltage) (hh : s.get Obj.mainFailTime ≤ held)
    (hph : ¬ (0x10 ≤ s.get Obj.powerPhase ∧ s.get Obj.powerPhase ≤ 0x12)) : Answers (.mainFail mv held) s fun t =>
      t.get Obj.pathState = (if s.hasSpring then 1 else 2) ∧ CountsUp Obj.mainFailCount s t ∧
      t.get Obj.vmainVoltage = fitTo Obj.vmainVoltage mv ∧ t.sup.mainOk = false ∧ t.sup.mainFail = true ∧
      t.sup.charging = false ∧
      (s.hasSpring = false → s.get Obj.powerPhase = 0 → s.get Obj.powerState ≤ 2 →
        t.pow.off = some (max (s.pow.off.getD 0) 5) ∧ t.pow.offHoldup = true) := by
  have hlost : (mainLost s).restored = true := hr
  have hvaon : s.vaonGet Obj.mainFailTime = s.get Obj.mainFailTime := if_pos hr
  have he : exec (.mainFail mv held) s = s.answer (failMain mv (mainLost s)) := by
    show execMainFail mv held s = _
    have hdeclare : declareFail mv s = failMain mv (mainLost s) :=
      (if_pos hlost).trans (if_pos (show (mainLost s).get Obj.pathState = 0 from hp))
    rw [execMainFail, hvaon, hr, hp, ← hdeclare]
    dsimp only
    rw [if_pos rfl, if_pos (by simp [hv, hh])]
  have hm : Moves (caps allParts) s (failMain mv (mainLost s)) := failMain_moves (onSup_moves (.refl s))
  obtain ⟨hpath, hcount, hvolts, hsup, hoff⟩ := failMain_fails (s := mainLost s) (live_of_restored hr) hph mv
  refine answers_answer _ he hm.variant hm.pending ⟨hpath, hcount, hvolts, ?_, ?_, ?_, fun hs h0 h2 => ?_⟩
  · rw [hsup]
    rfl
  · rw [hsup]
    rfl
  · rw [hsup]
  · exact hoff (if_neg (by rw [show (mainLost s).hasSpring = s.hasSpring from rfl, hs]; exact Bool.false_ne_true)) h0 h2

/-! The return of main (R290). -/

/-- The objects of a crossover to main. -/
def crossShown (mv : Nat) (s : State) : State :=
  ((s.put Obj.vmainVoltage mv).inc Obj.crossoverCount).put Obj.lastReserveTime ((s.now - s.sup.failAt.getD s.now) / ms 1)

/-- The event of a crossover. -/
def crossTold (mv : Nat) (s : State) : State :=
  admitEvent 1 0x15 srcDevice (toLe 2 mv ++ toLe 2 (if s.onReserve then s.get Obj.packVoltage else 0) ++
    toLe 4 ((s.now - s.sup.failAt.getD s.now) / ms 1)) (crossShown mv s)

/-- The path leads from main again. -/
def pathBack (mv : Nat) (s : State) : State :=
  (((crossTold mv s).put Obj.pathState 0).setBit Obj.escrowStatus 2 false).setBit Obj.reserveFault 5 false

/-- The end of a crossover. -/
def crossDone (mv : Nat) (s : State) : State :=
  showReserve ((pathBack mv s).onSup fun u => { u with deferred := false, failAt := none })

theorem crossover_eq (mv : Nat) (s : State) : crossover mv s = onRequest 4 (crossDone mv s) := rfl

theorem crossDone_get {k : Nat} (hk : k ∉ [Obj.reserveState, Obj.reserveFault, Obj.escrowStatus, Obj.pathState])
    (hn : noisy k = false) (mv : Nat) (s : State) : (crossDone mv s).get k = (crossShown mv s).get k := by
  simp only [List.mem_cons, List.not_mem_nil, or_false, not_or] at hk
  obtain ⟨h1, h2, h3, h4⟩ := hk
  have hback : (pathBack mv s).get k = (crossTold mv s).get k :=
    (get_put_ne _ _ _ _ h2).trans ((get_put_ne _ _ _ _ h3).trans (get_put_ne _ _ _ _ h4))
  refine (get_put_ne Obj.reserveState _ k ((pathBack mv s).onSup fun u => { u with deferred := false, failAt := none }) h1).trans ?_
  exact hback.trans (admitEvent_get _ _ _ _ _ _ hn)

/-- From `s` to `t` a crossover is shown. -/
structure CrossShows (mv : Nat) (s t : State) : Prop where
  path : t.get Obj.pathState = 0
  counts : CountsUp Obj.crossoverCount s t
  volts : t.get Obj.vmainVoltage = fitTo Obj.vmainVoltage mv
  time : t.get Obj.lastReserveTime = fitTo Obj.lastReserveTime ((s.now - s.sup.failAt.getD s.now) / ms 1)
  phase : t.get Obj.powerPhase = s.get Obj.powerPhase
  supply : t.sup = { s.sup with deferred := false, failAt := none }

theorem crossDone_shows (mv : Nat) (s : State) : CrossShows mv s (crossDone mv s) := by
  have hplain {k : Nat} (h1 : k ≠ Obj.vmainVoltage) (h2 : k ≠ Obj.crossoverCount) (h3 : k ≠ Obj.lastReserveTime) :
      (crossShown mv s).get k = s.get k :=
    (get_put_ne _ _ _ _ h3).trans ((get_put_ne _ _ _ _ h2).trans (get_put_ne _ _ _ s h1))
  refine ⟨?_, ?_, ?_, ?_, ?_, ?_⟩
  · refine (get_put_ne Obj.reserveState _ Obj.pathState ((pathBack mv s).onSup fun u =>
      { u with deferred := false, failAt := none }) (by decide)).trans ?_
    refine ((get_put_ne _ _ _ _ (by decide)).trans (get_put_ne _ _ _ _ (by decide)) :
      (pathBack mv s).get Obj.pathState = ((crossTold mv s).put Obj.pathState 0).get Obj.pathState).trans ?_
    rw [get_put_self _ _ _ rfl, fitTo_zero]
  · have hbefore : (s.put Obj.vmainVoltage mv).get Obj.crossoverCount = s.get Obj.crossoverCount :=
      get_put_ne _ _ _ s (by decide)
    rw [CountsUp, crossDone_get (by decide) rfl]
    refine (get_put_ne _ _ _ _ (by decide)).trans ?_
    rw [inc_eq, get_put_self _ _ _ rfl, hbefore]
  · rw [crossDone_get (by decide) rfl]
    refine (get_put_ne _ _ _ _ (by decide)).trans ((get_put_ne _ _ _ _ (by decide)).trans ?_)
    exact get_put_self _ _ s rfl
  · rw [crossDone_get (by decide) rfl]
    exact get_put_self _ _ _ rfl
  · rw [crossDone_get (by decide) rfl, hplain (by decide) (by decide) (by decide)]
  · have hsup : (pathBack mv s).sup = s.sup := by
      rw [pathBack, setBit_eq, put_sup, setBit_eq, put_sup, put_sup, crossTold, admitEvent_sup, crossShown, put_sup, inc_eq,
        put_sup, put_sup]
    rw [crossDone, showReserve, put_sup]
    show ({ (pathBack mv s).sup with deferred := false, failAt := none } : Supply) = _
    rw [hsup]

theorem onRequest_quiet {s : State} (h : s.get Obj.powerPhase = 0) (n : Nat) : onRequest n s = s.onPow fun p =>
    { p with off := none, offHoldup := false, offInStart := false } := by
  unfold onRequest
  dsimp only
  rw [h]
  rfl

/-- Main is back. -/
def mainBack (s : State) : State := s.onSup fun u => { u with mainOk := true, mainFail := false, okAt := some s.now }

theorem mainOk_answers {s : State} (mv held : Nat) (hr : s.restored = true) (hp : s.get Obj.pathState ≠ 0)
    (ho : s.sup.ov = false) (hv : s.get Obj.mainOkVoltage ≤ mv) (hh : 2000 ≤ held) (h0 : s.get Obj.powerPhase = 0) :
    Answers (.mainOk mv held) s fun t =>
      t.get Obj.pathState = 0 ∧ CountsUp Obj.crossoverCount s t ∧ t.get Obj.vmainVoltage = fitTo Obj.vmainVoltage mv ∧
      t.get Obj.lastReserveTime = fitTo Obj.lastReserveTime ((s.now - s.sup.failAt.getD s.now) / ms 1) ∧
      t.sup.mainOk = true ∧ t.sup.mainFail = false ∧ t.sup.failAt = none ∧ t.pow.off = none := by
  have hback : (mainBack s).restored = true := hr
  have hshows := crossDone_shows mv (mainBack s)
  have he : exec (.mainOk mv held) s = s.answer (onRequest 4 (crossDone mv (mainBack s))) := by
    show execMainOk mv held s = _
    rw [execMainOk, hr, ho]
    dsimp only
    rw [if_pos rfl, if_pos (by simp [hv, hh, hp]), ← crossover_eq]
    exact congrArg s.answer ((if_pos hback).trans (if_neg (show ¬ (mainBack s).get Obj.pathState = 0 from hp)))
  have hm : Moves (caps allParts) s (onRequest 4 (crossDone mv (mainBack s))) :=
    crossover_moves (onSup_moves (.refl s))
  obtain ⟨hpath, hcount, hvolts, htime, hphase, hsup⟩ := hshows
  rw [onRequest_quiet (hphase.trans h0)] at he hm
  generalize crossDone mv (mainBack s) = w at *
  refine answers_answer _ he hm.variant hm.pending ⟨hpath, hcount, hvolts, htime, ?_, ?_, ?_, rfl⟩
  · exact congrArg Supply.mainOk hsup
  · exact congrArg Supply.mainFail hsup
  · exact congrArg Supply.failAt hsup

theorem phase_of_served {s : State} (hs : s.served = true) : ¬ (0x10 ≤ s.get Obj.powerPhase ∧ s.get Obj.powerPhase ≤ 0x13) := by
  simp only [State.served, Bool.not_eq_true', decide_eq_false_iff_not] at hs
  exact hs

/-- The path from main is open against an over-voltage. -/
def pathOpen (mv : Nat) (s : State) : State :=
  (s.put Obj.vmainVoltage mv).onSup fun u => { u with ov := true, ppMain := false }

/-- An over-voltage of main is told. -/
structure OvShows (mv : Nat) (t : State) : Prop where
  ov : t.sup.ov = true
  path : t.sup.ppMain = false
  fail : t.sup.mainFail = true
  ok : t.sup.mainOk = false
  volts : t.get Obj.vmainVoltage = fitTo Obj.vmainVoltage mv

theorem OvShows.of_same {mv : Nat} {u t : State} (h : OvShows mv u) (hsup : t.sup = u.sup) (hv : t.variant = u.variant)
    (ho : t.objs = u.objs) : OvShows mv t := by
  obtain ⟨h1, h2, h3, h4, h5⟩ := h
  exact ⟨hsup ▸ h1, hsup ▸ h2, hsup ▸ h3, hsup ▸ h4, (get_congr u t _ hv ho).trans h5⟩

theorem wake_running {s : State} (hrun : s.rst.inReset = false) (n : Nat) :
    (wake n s).sup = s.sup ∧ (wake n s).variant = s.variant ∧ (wake n s).objs = s.objs := by
  unfold wake
  rw [hrun, Bool.and_false, if_neg Bool.false_ne_true]
  exact of_ite (P := fun t : State => t.sup = s.sup ∧ t.variant = s.variant ∧ t.objs = s.objs) ⟨rfl, rfl, rfl⟩ ⟨rfl, rfl, rfl⟩

/-- A declared failure of main leaves the over-voltage as it is. -/
theorem declareFail_ov {mv : Nat} {w : State} (hl : w.live = true)
    (hph : ¬ (0x10 ≤ w.get Obj.powerPhase ∧ w.get Obj.powerPhase ≤ 0x12)) (ho : w.sup.ov = true)
    (hp : w.sup.ppMain = false) (hv : w.get Obj.vmainVoltage = fitTo Obj.vmainVoltage mv) :
    OvShows mv (declareFail mv w) := by
  have hu : OvShows mv (mainLost w) := ⟨ho, hp, rfl, rfl, hv⟩
  have hrun : (mainLost w).rst.inReset = false := not_inReset hl
  have heq : declareFail mv w = if (mainLost w).restored = true
      then (if (mainLost w).get Obj.pathState = 0 then failMain mv (mainLost w) else mainLost w)
      else if (mainLost w).get Obj.powerState = 3 then (if (mainLost w).hasSpring = true then wake 3 (mainLost w) else mainLost w)
      else if ((mainLost w).parked || (mainLost w).hasSpring) = true then mainLost w
      else offRequest 5 true (mainLost w) := rfl
  rw [heq]
  refine of_ite (P := OvShows mv) (of_ite (P := OvShows mv) ?_ hu) ?_
  · obtain ⟨-, -, hvolts, hsup, -⟩ := failMain_fails (s := mainLost w) hl hph mv
    have hkept {α : Type} (f : Supply → α) (h : f (failMain mv (mainLost w)).sup = f { (mainLost w).sup with
      charging := false, failAt := some (mainLost w).now }) : f (failMain mv (mainLost w)).sup = f _ := h
    exact ⟨(hkept Supply.ov (congrArg _ hsup)).trans ho, (hkept Supply.ppMain (congrArg _ hsup)).trans hp,
      hkept Supply.mainFail (congrArg _ hsup), hkept Supply.mainOk (congrArg _ hsup), hvolts⟩
  · refine of_ite (P := OvShows mv) (of_ite (P := OvShows mv) ?_ hu) (of_ite (P := OvShows mv) hu ?_)
    · obtain ⟨hsup, hvar, hobjs⟩ := wake_running hrun 3
      exact hu.of_same hsup hvar hobjs
    · obtain ⟨hobjs, hsup⟩ := offRequest_objs (target := 5) (holdup := true) hrun hph
      exact hu.of_same hsup (offRequest_moves (.refl _) : Moves (caps allParts) (mainLost w) _).variant hobjs

section
variable {s : State} (mv held : Nat) (hl : s.live = true) (hs : s.served = true)
include hl hs

theorem mainOv_answers (ho : s.sup.ov = false) (hv : s.get Obj.mainOvVoltage < mv) (hh : 100 ≤ held) :
    Answers (.mainOv mv held) s fun t => t.sup.ov = true ∧ t.sup.ppMain = false ∧ t.sup.mainFail = true ∧
      t.sup.mainOk = false ∧ t.get Obj.vmainVoltage = fitTo Obj.vmainVoltage mv := by
  have he : exec (.mainOv mv held) s = s.answer (declareFail mv (pathOpen mv s)) := by
    show execMainOv mv held s = _
    rw [execMainOv, answerServed_live hl hs, ho, if_pos (by simp [hv, hh])]
    rfl
  have hm : Moves (caps allParts) s (declareFail mv (pathOpen mv s)) := declareFail_moves (onSup_moves (put_moves (.refl s)))
  have hlive : (pathOpen mv s).live = true := by
    show ((s.put Obj.vmainVoltage mv).pow.logicUp && !(s.put Obj.vmainVoltage mv).rst.inReset) = true
    rw [put_pow, put_rst]
    exact hl
  have hphase : (pathOpen mv s).get Obj.powerPhase = s.get Obj.powerPhase :=
    get_put_ne Obj.vmainVoltage mv Obj.powerPhase s (by decide)
  have hserved := phase_of_served hs
  obtain ⟨h1, h2, h3, h4, h5⟩ := declareFail_ov (mv := mv) hlive (by rw [hphase]; omega) rfl rfl
    (get_put_self Obj.vmainVoltage mv s rfl)
  exact answers_answer _ he hm.variant hm.pending ⟨h1, h2, h3, h4, h5⟩

theorem mainOvClear_answers (ho : s.sup.ov = true) (hv : mv + 1000 ≤ s.get Obj.mainOvVoltage) (hh : 10000 ≤ held) :
    Answers (.mainOvClear mv held) s fun t => t.sup = { s.sup with ov := false, ppMain := true } ∧
      t.get Obj.vmainVoltage = fitTo Obj.vmainVoltage mv ∧ OnlyMoves [Obj.vmainVoltage] s t := by
  have he : exec (.mainOvClear mv held) s =
      s.answer ((s.put Obj.vmainVoltage mv).onSup fun u => { u with ov := false, ppMain := true }) := by
    show execMainOvClear mv held s = _
    rw [execMainOvClear, answerServed_live hl hs, ho, if_pos (by simp [hv, hh])]
  have hm : Moves (caps [.objs, .sup]) s ((s.put Obj.vmainVoltage mv).onSup fun u => { u with ov := false, ppMain := true }) :=
    onSup_moves (put_moves (.refl s))
  refine answers_answer _ he hm.variant hm.pending ⟨?_, get_put_self Obj.vmainVoltage mv s rfl, onlyMoves_put Obj.vmainVoltage mv s⟩
  show ({ (s.put Obj.vmainVoltage mv).sup with ov := false, ppMain := true } : Supply) = _
  rw [put_sup]

end

end Sys2Proof.Machine
end

section
/-! The charger and the reserve's cycle -/
namespace Sys2Proof.Machine
open Sys2Proof Sys2Proof.Config

/-! The charger (R300). -/

set_option Elab.async false in
theorem chargerResume_answers {s : State} (hl : s.live = true) (hs : s.served = true) (ht : Passed s.sup.okAt (sec 1) s)
    (hok : s.sup.mainOk = true) (hspring : s.hasSpring = true) (hp : s.get Obj.pathState = 0)
    (hf : ∀ b, b = 0 ∨ b = 1 ∨ b = 2 ∨ b = 4 → s.resFault b = false) (hov : s.get Obj.maxCell < s.get Obj.cellOvVoltage)
    (htop : s.get Obj.maxCell < s.get Obj.cellFullVoltage) (hfull : s.sup.full = false) :
    Answers .chargerResume s fun t => t.sup = { s.sup with charging := true, full := false } ∧
      t.get Obj.reserveState = (if s.resFault 3 || s.get Obj.energyAvailable == 0 then 5 else 2) ∧
      OnlyMoves [Obj.reserveState] s t := by
  obtain ⟨u, hu⟩ : ∃ u, (s.onSup fun u => { u with charging := true, full := false }) = u := ⟨_, rfl⟩
  have hrun : runCharger s = showReserve u := by
    unfold runCharger State.onSup
    simp [hspring, hp, hok, heldFor_passed ht, hf 0 (by simp), hf 1 (by simp), hf 2 (by simp), hf 4 (by simp), hov,
      Nat.not_le.2 htop, hfull, ← hu, State.onSup]
  have he : exec .chargerResume s = s.answer (showReserve u) := by
    show execChargerResume s = _
    rw [execChargerResume, answerServed_live hl hs, heldFor_passed ht, ← hrun]
    rfl
  have hm : Moves (caps [.objs, .sup]) s (showReserve u) := hrun ▸ runCharger_moves (.refl s)
  refine answers_answer _ he hm.variant hm.pending ⟨?_, ?_, fun k hk => ?_⟩
  · rw [showReserve, put_sup, ← hu]
    rfl
  · have hspringU : u.hasSpring = true := by rw [← hu]; exact hspring
    have hpathU : u.onReserve = false := by rw [← hu, State.onReserve]; exact beq_eq_false_iff_ne.2 (fun h => absurd (hp.symm.trans h) (by decide))
    have hchargeU : u.sup.charging = true := by rw [← hu]; rfl
    have hfaultU : (u.resFault 3 || u.get Obj.energyAvailable == 0) = (s.resFault 3 || s.get Obj.energyAvailable == 0) := by
      rw [← hu]; rfl
    rw [showReserve, get_put_self _ _ _ rfl, hspringU, hfaultU, hpathU, hchargeU, Bool.not_true,
      if_neg Bool.false_ne_true]
    split <;> rfl
  · have hget : u.get k = s.get k := by rw [← hu]; rfl
    exact (get_put_ne _ _ _ _ (by simpa using hk)).trans hget

/-! A cycle of the reserve monitor (R291 to R296). -/

/-- The objects that a cycle publishes once, and those that it must meet as they were. -/
def cycleKeys : List Nat := [Obj.powerPhase, Obj.wireTestRounds, Obj.packVoltage, Obj.cellSum] ++
  (List.range 16).map fun k => Obj.cellVoltage0 + k

/-- From `s` to `t` a cycle has only judged. -/
structure Cycling (s t : State) : Prop where
  objects : ∀ k ∈ cycleKeys, t.get k = s.get k
  wire : t.sup.wire = s.sup.wire
  cycle : t.sup.lastCycle = s.sup.lastCycle
  reset : t.rst = s.rst
  now : t.now = s.now

theorem cycleKeys_quiet : ∀ k ∈ cycleKeys, noisy k = false ∧ k ∉ dozeKeys := by decide

theorem Cycling.refl (s : State) : Cycling s s := ⟨fun _ _ => rfl, rfl, rfl, rfl, rfl⟩

theorem Cycling.trans {s t u : State} (h : Cycling s t) (g : Cycling t u) : Cycling s u :=
  ⟨fun k hk => (g.objects k hk).trans (h.objects k hk), g.wire.trans h.wire, g.cycle.trans h.cycle, g.reset.trans h.reset,
    g.now.trans h.now⟩

theorem cycling_put {k : Nat} (hk : k ∉ cycleKeys) (v : Nat) (s : State) : Cycling s (s.put k v) :=
  ⟨fun j hj => get_put_ne k v j s fun h => hk (h ▸ hj), by rw [put_sup], by rw [put_sup], put_rst .., put_now ..⟩

theorem Cycling.put {s t : State} (h : Cycling s t) (k v : Nat) (hk : k ∉ cycleKeys) : Cycling s (t.put k v) :=
  h.trans (cycling_put hk v t)

theorem Cycling.onSup {s t : State} (h : Cycling s t) (f : Supply → Supply) (hw : (f t.sup).wire = t.sup.wire)
    (hc : (f t.sup).lastCycle = t.sup.lastCycle) : Cycling s (t.onSup f) :=
  h.trans ⟨fun _ _ => rfl, hw, hc, rfl, rfl⟩

theorem cycling_noted {s t : State} (h : Noted s t) : Cycling s t :=
  ⟨fun k hk => h.obj k (cycleKeys_quiet k hk).1, congrArg Supply.wire h.sup, congrArg Supply.lastCycle h.sup, h.rst, h.now⟩

theorem cycling_dozeExit (s : State) : Cycling s (dozeExit s) := by
  have hm : Moves (caps [.objs, .pow, .net]) s (dozeExit s) := dozeExit_moves (.refl s)
  have hsup : (dozeExit s).sup = s.sup := hm.part .sup (by decide)
  exact ⟨fun k hk => dozeExit_get (cycleKeys_quiet k hk).2 s, congrArg _ hsup, congrArg _ hsup, hm.part .rst (by decide), hm.now⟩

/-- What a change of ReserveFault leaves. -/
theorem setReserveFault_ends {P : State → Prop} {n : Nat} {s : State} (hput : P (s.put Obj.reserveFault n))
    (htell : ∀ t, P t → P (stateNotice Obj.reserveFault n (supplyFault Obj.reserveFault 0 n (t.get Obj.packVoltage) t)))
    (hdoze : ∀ t, P t → P (dozeExit t)) (hsup : ∀ (t : State) (b c : Option Bool), P t → P (t.onSup fun u =>
      { u with ppRsv := b.getD u.ppRsv, rsvOffAtCommit := c.getD u.rsvOffAtCommit })) : P (setReserveFault n s) := by
  have htold : P (each ((List.range 6).filter fun b => n.testBit b && !(s.get Obj.reserveFault).testBit b) (fun _ s =>
      stateNotice Obj.reserveFault n (supplyFault Obj.reserveFault 0 n (s.get Obj.packVoltage) s)) (s.put Obj.reserveFault n)) :=
    each_keeps (P := P) (fun _ _ t ht => htell t ht) hput
  have hwoken := of_ite (P := P) (c := ((List.range 6).any fun b => n.testBit b && !(s.get Obj.reserveFault).testBit b) = true)
    (hdoze _ htold) htold
  unfold setReserveFault
  refine of_ite (P := P) (of_ite (P := P) ?_ ?_) (of_ite (P := P) ?_ hwoken)
  · exact hsup _ none (some true) hwoken
  · exact hsup _ (some false) none hwoken
  · exact hsup _ (some true) (some false) hwoken

theorem cycling_setReserveFault (n : Nat) (s : State) : Cycling s (setReserveFault n s) :=
  setReserveFault_ends (P := Cycling s) (cycling_put (by decide) n s)
    (fun t h => h.trans (cycling_noted ((noted_supplyFault ..).trans (hush_stateNotice ..).noted)))
    (fun t h => h.trans (cycling_dozeExit t)) fun _ _ _ h => h.trans ⟨fun _ _ => rfl, rfl, rfl, rfl, rfl⟩

theorem setReserveFault_reads {k : Nat} (hk : k = Obj.reserveFault ∨ k = Obj.wireFault ∨ k ∈ cycleKeys) (n : Nat) (s : State) :
    (setReserveFault n s).get k = (s.put Obj.reserveFault n).get k := by
  have hquiet : noisy k = false ∧ k ∉ dozeKeys := by
    obtain rfl | rfl | hk := hk
    · decide
    · decide
    · exact cycleKeys_quiet k hk
  exact setReserveFault_ends (P := fun t => t.get k = (s.put Obj.reserveFault n).get k) rfl
    (fun t h => ((stateNotice_get _ _ _ _ hquiet.1).trans (supplyFault_get _ _ _ _ _ _ hquiet.1)).trans h)
    (fun t h => (dozeExit_get hquiet.2 t).trans h) fun t b c h => h

theorem cycling_runCharger (s : State) : Cycling s (runCharger s) := by
  unfold runCharger showReserve
  refine Cycling.put (Cycling.onSup (.refl s) _ ?_ ?_) _ _ (by decide)
  · exact of_ite (P := fun v : Supply => v.wire = s.sup.wire) rfl (of_ite (P := fun v : Supply => v.wire = s.sup.wire) rfl
      (of_ite (P := fun v : Supply => v.wire = s.sup.wire) rfl rfl))
  · exact of_ite (P := fun v : Supply => v.lastCycle = s.sup.lastCycle) rfl
      (of_ite (P := fun v : Supply => v.lastCycle = s.sup.lastCycle) rfl
        (of_ite (P := fun v : Supply => v.lastCycle = s.sup.lastCycle) rfl rfl))

theorem cycling_judgeCells (cells : List Nat) (s : State) : Cycling s (judgeCells cells s) := by
  unfold judgeCells
  dsimp only
  refine Cycling.put (Cycling.put (Cycling.onSup (Cycling.put (.refl s) _ _ ?_) _ rfl rfl) _ _ ?_) _ _ ?_ <;> decide

theorem cycling_judgePack (sum pack : Nat) (s : State) : Cycling s (judgePack sum pack s).2.2 :=
  ⟨fun _ _ => rfl, rfl, rfl, rfl, rfl⟩

/-- The readings of a cycle are published. -/
def cyclePublished (cells : List Nat) (pack : Nat) (s : State) : State :=
  publishCells cells pack (s.onSup fun u => { u with lastCycle := s.now })

/-- The sum of the cells is judged. -/
def cycleSummed (cells : List Nat) (pack : Nat) (s : State) : State :=
  let j := judgePack cells.sum pack s
  setReserveFault (setBitOf (setBitOf (j.2.2.get Obj.reserveFault) 1 j.1) 4 j.2.1) j.2.2

/-- The cells are judged, and the energy is shown. -/
def cycleEnergy (cells : List Nat) (s : State) : State :=
  let s := judgeCells cells s
  (s.put Obj.energyAvailable s.energyNow).put Obj.energyEscrow s.escrowNow

/-- A breach of the escrow is counted and declared. -/
def cycleBreached (s : State) : State :=
  let breach := s.breached && !s.resFault 5
  let s := if breach then s.inc Obj.escrowBreachCount else s
  let f := setBitOf (setBitOf (s.get Obj.reserveFault) 2 (s.get Obj.cellOv != 0)) 3 (s.get Obj.cellUv != 0)
  setReserveFault (if breach then setBitOf f 5 true else f) s

/-- Charger and balancing follow. -/
def cycleBalanced (cells : List Nat) (s : State) : State :=
  let s := runCharger s
  s.put Obj.balanceActive (s.balanceNow cells)

theorem reserveCycle_eq {cells : List Nat} {pack : Nat} {test : List Nat} {s : State} (hr : s.sup.restart = false)
    (hn : cells.length = s.get Obj.cellCount) (h0 : 0 < cells.length) : reserveCycle cells pack test s =
      let w := cycleBalanced cells (cycleBreached (cycleEnergy cells (cycleSummed cells pack (cyclePublished cells pack s))))
      let t := testWire cells test w
      if t.escrowSpent && !t.offRaised && !t.sup.deferred then escrowOff t else t := by
  have htake : (cells ++ List.replicate 16 0).take (s.get Obj.cellCount) = cells := by rw [← hn, List.take_left]
  unfold reserveCycle
  simp only [hr, Bool.false_eq_true, if_false, htake]
  rw [if_neg (by omega)]
  rfl

theorem cycling_balanced {cells : List Nat} {pack : Nat} (s : State) :
    Cycling s (cycleBalanced cells (cycleBreached (cycleEnergy cells (cycleSummed cells pack s)))) := by
  have hsum (u : State) : Cycling u (cycleSummed cells pack u) :=
    (cycling_judgePack cells.sum pack u).trans (cycling_setReserveFault _ _)
  have henergy (u : State) : Cycling u (cycleEnergy cells u) :=
    ((cycling_judgeCells cells u).trans (cycling_put (by decide) _ _)).trans (cycling_put (by decide) _ _)
  have hbreach (u : State) : Cycling u (cycleBreached u) :=
    (of_ite (P := Cycling u) (cycling_put (by decide) _ u) (.refl u)).trans (cycling_setReserveFault _ _)
  have hbalance (u : State) : Cycling u (cycleBalanced cells u) :=
    (cycling_runCharger u).trans (cycling_put (by decide) _ _)
  exact (((hsum s).trans (henergy _)).trans (hbreach _)).trans (hbalance _)

/-! The test of a wire (R296). -/

/-- The wire's result is shown. -/
def wireShown (x : Wire) (w : Nat) (s : State) : State :=
  if 2 ≤ x.fails then s.setBit Obj.wireFault w true else if 3 ≤ x.passes then s.setBit Obj.wireFault w false else s

/-- The wire's result is kept, and the turn passes on. -/
def wireKept (x : Wire) (w : Nat) (last : Bool) (s : State) : State :=
  let s := (wireShown x w s).onSup fun u => { u with wires := u.wires.set w x, wire := if last then 0 else w + 1 }
  if last then s.inc Obj.wireTestRounds else s

/-- The result of the wire's test. -/
def wireResult (cells test : List Nat) (s : State) : Wire :=
  let x := s.wireOf s.sup.wire
  let bad := wireFails s.sup.wire cells test
  { fails := if bad then x.fails + 1 else 0, passes := if bad then 0 else x.passes + 1, lastPass := !bad
    passAt := if bad then x.passAt else some s.now }

theorem testWire_eq (cells test : List Nat) (s : State) : testWire cells test s =
    let t := wireKept (wireResult cells test s) s.sup.wire (decide (cells.length ≤ s.sup.wire)) s
    setReserveFault (setBitOf (t.get Obj.reserveFault) 0 (t.get Obj.wireFault != 0)) t := rfl

/-- What a wire's test leaves of the cycle. -/
structure WireTested (n : Nat) (s t : State) : Prop where
  objects : ∀ k ∈ cycleKeys, k ≠ Obj.wireTestRounds → t.get k = s.get k
  wire : t.sup.wire = if n ≤ s.sup.wire then 0 else s.sup.wire + 1
  cycle : t.sup.lastCycle = s.sup.lastCycle
  reset : t.rst = s.rst
  rounds : n ≤ s.sup.wire → CountsUp Obj.wireTestRounds s t
  fault : t.resFault 0 = decide (t.get Obj.wireFault ≠ 0)

theorem wireKept_leaves (x : Wire) (n : Nat) (s : State) :
    let t := wireKept x s.sup.wire (decide (n ≤ s.sup.wire)) s
    (∀ k ∈ cycleKeys, k ≠ Obj.wireTestRounds → t.get k = s.get k) ∧
    t.sup.wire = (if n ≤ s.sup.wire then 0 else s.sup.wire + 1) ∧ t.sup.lastCycle = s.sup.lastCycle ∧ t.rst = s.rst ∧
    (n ≤ s.sup.wire → CountsUp Obj.wireTestRounds s t) := by
  have hshown : Cycling s (wireShown x s.sup.wire s) :=
    of_ite (P := Cycling s) (cycling_put (by decide) _ s) (of_ite (P := Cycling s) (cycling_put (by decide) _ s) (.refl s))
  unfold wireKept
  generalize wireShown x s.sup.wire s = v at hshown ⊢
  obtain ⟨hobj, -, hcycle, hrst, -⟩ := hshown
  by_cases hn : n ≤ s.sup.wire
  · simp only [hn, decide_true, if_true]
    refine ⟨fun k hk hne => ?_, ?_, ?_, ?_, fun _ => ?_⟩
    · exact (get_put_ne Obj.wireTestRounds _ k (v.onSup fun u => { u with wires := u.wires.set s.sup.wire x, wire := 0 }) hne).trans
        (hobj k hk)
    · rw [inc_eq, put_sup]
      rfl
    · rw [inc_eq, put_sup]
      exact hcycle
    · exact (put_rst ..).trans hrst
    · rw [CountsUp, inc_eq, get_put_self _ _ _ rfl]
      exact congrArg (fun m => fitTo Obj.wireTestRounds (m + 1)) (hobj Obj.wireTestRounds (by decide))
  · simp only [hn, decide_false, Bool.false_eq_true, if_false]
    exact ⟨fun k hk _ => hobj k hk, rfl, hcycle, hrst, fun h => h.elim⟩

theorem testWire_tests (cells test : List Nat) (s : State) : WireTested cells.length s (testWire cells test s) := by
  obtain ⟨hobj, hwire, hcycle, hrst, hrounds⟩ := wireKept_leaves (wireResult cells test s) cells.length s
  rw [testWire_eq]
  dsimp only
  generalize wireKept (wireResult cells test s) s.sup.wire (decide (cells.length ≤ s.sup.wire)) s = v at *
  have hset := cycling_setReserveFault (setBitOf (v.get Obj.reserveFault) 0 (v.get Obj.wireFault != 0)) v
  refine ⟨fun k hk hne => (hset.objects k hk).trans (hobj k hk hne), hset.wire.trans hwire, hset.cycle.trans hcycle,
    hset.reset.trans hrst, fun h => (hset.objects _ (by decide)).trans (hrounds h), ?_⟩
  have hfault : (v.put Obj.reserveFault (setBitOf (v.get Obj.reserveFault) 0 (v.get Obj.wireFault != 0))).get Obj.wireFault =
      v.get Obj.wireFault := get_put_ne _ _ _ v (by decide)
  rw [State.resFault, State.bit, setReserveFault_reads (.inl rfl), setReserveFault_reads (.inr (.inl rfl)), hfault]
  refine (bit_put Obj.reserveFault _ 0 v rfl (by decide)).trans ?_
  rw [testBit_setBitOf, if_pos rfl]
  by_cases h : v.get Obj.wireFault = 0 <;> simp [h]

/-! The published readings (R291). -/

/-- The voltages of the cells are published. -/
def cellsShown (cells : List Nat) (s : State) : State :=
  each (List.range 16) (fun k s => s.put (Obj.cellVoltage0 + k) (min 65535 (cells.getD k 0))) s

theorem cellVoltage_plain : ∀ k : Fin 16, isConst (Obj.cellVoltage0 + k) = false ∧ sizeOf (Obj.cellVoltage0 + k) = 2 := by
  decide

/-- A run of objects that is written holds what was written. -/
theorem eachPut_get {b n i : Nat} (v : Nat → Nat) (hi : i < n) (hc : isConst (b + i) = false) (s : State) :
    (each (List.range n) (fun k s => s.put (b + k) (v k)) s).get (b + i) = fitTo (b + i) (v i) := by
  induction n with
  | zero => omega
  | succ n ih =>
    rw [List.range_succ, each, List.foldl_append]
    show (State.put (b + n) (v n) (each (List.range n) (fun k s => s.put (b + k) (v k)) s)).get (b + i) = _
    by_cases h : i = n
    · subst h
      exact get_put_self _ _ _ hc
    · exact (get_put_ne _ _ _ _ (by omega)).trans (ih (by omega))

theorem cellsShown_get (cells : List Nat) (s : State) {k : Nat} (hk : k < 16) :
    (cellsShown cells s).get (Obj.cellVoltage0 + k) = min 65535 (cells.getD k 0) := by
  obtain ⟨hc, hs⟩ := cellVoltage_plain ⟨k, hk⟩
  exact (eachPut_get (fun k => min 65535 (cells.getD k 0)) hk hc s).trans (fitTo_two hs (by omega))

theorem cellsShown_other {k : Nat} (h : ∀ i, i < 16 → k ≠ Obj.cellVoltage0 + i) (cells : List Nat) (s : State) :
    (cellsShown cells s).get k = s.get k :=
  each_mem_get fun i hi u => get_put_ne _ _ _ u (h i (List.mem_range.1 hi))

theorem cycleKeys_cell {k : Nat} (hk : k < 16) : Obj.cellVoltage0 + k ∈ cycleKeys :=
  List.mem_append_right _ (List.mem_map.2 ⟨k, List.mem_range.2 hk, rfl⟩)

/-- `t` is `s` but for its off request. -/
structure SameCycle (s t : State) : Prop where
  variant : t.variant = s.variant
  objs : t.objs = s.objs
  wire : t.sup.wire = s.sup.wire
  cycle : t.sup.lastCycle = s.sup.lastCycle

theorem SameCycle.refl (s : State) : SameCycle s s := ⟨rfl, rfl, rfl, rfl⟩

theorem escrowOff_same {s : State} (hrun : s.rst.inReset = false)
    (hph : ¬ (0x10 ≤ s.get Obj.powerPhase ∧ s.get Obj.powerPhase ≤ 0x12)) : SameCycle s (escrowOff s) := by
  refine of_ite (P := SameCycle s) ⟨rfl, rfl, rfl, rfl⟩ ?_
  obtain ⟨u, hu⟩ : ∃ u, (s.onSup fun u => { u with deferred := false }) = u := ⟨_, rfl⟩
  have hoff := offRequest_objs (target := 5) (holdup := false) (s := u) (by rw [← hu]; exact hrun) (by rw [← hu]; exact hph)
  have hv : (offRequest 5 false u).variant = u.variant := (offRequest_moves (.refl _) : Moves (caps allParts) u _).variant
  rw [hu]
  have hsame : SameCycle s u := by rw [← hu]; exact ⟨rfl, rfl, rfl, rfl⟩
  exact ⟨hv.trans hsame.variant, hoff.1.trans hsame.objs, (congrArg Supply.wire hoff.2).trans hsame.wire,
    (congrArg Supply.lastCycle hoff.2).trans hsame.cycle⟩

/-- What a cycle publishes. -/
structure Published (cells : List Nat) (pack : Nat) (s t : State) : Prop where
  volts : ∀ k, k < 16 → t.get (Obj.cellVoltage0 + k) = min 65535 (cells.getD k 0)
  pack : t.get Obj.packVoltage = min 65535 pack
  sum : t.get Obj.cellSum = min 65535 cells.sum
  phase : t.get Obj.powerPhase = s.get Obj.powerPhase
  rounds : t.get Obj.wireTestRounds = s.get Obj.wireTestRounds
  wire : t.sup.wire = s.sup.wire
  cycle : t.sup.lastCycle = s.now
  reset : t.rst = s.rst

theorem cyclePublished_shows (cells : List Nat) (pack : Nat) (s : State) : Published cells pack s (cyclePublished cells pack s) := by
  obtain ⟨u, hu⟩ : ∃ u, cellsShown cells (s.onSup fun u => { u with lastCycle := s.now }) = u := ⟨_, rfl⟩
  have hm : Moves (caps [.objs]) (s.onSup fun u => { u with lastCycle := s.now }) u :=
    hu ▸ each_moves (fun _ _ => put_moves (.refl _)) (.refl _)
  have heq : cyclePublished cells pack s = (((u.put Obj.packVoltage (min 65535 pack)).put Obj.cellSum (min 65535 cells.sum)).put
      Obj.minCell (cells.foldl min 65535)).put Obj.maxCell (min 65535 (cells.foldl max 0)) := by rw [← hu]; rfl
  have hcells (k : Nat) (hk : k < 16) : u.get (Obj.cellVoltage0 + k) = min 65535 (cells.getD k 0) := hu ▸ cellsShown_get cells _ hk
  have hother (k : Nat) (h : ∀ i, i < 16 → k ≠ Obj.cellVoltage0 + i) : u.get k = s.get k :=
    hu ▸ cellsShown_other h cells (s.onSup fun u => { u with lastCycle := s.now })
  have hsup : u.sup = { s.sup with lastCycle := s.now } := hm.part .sup (by decide)
  have hrst : u.rst = s.rst := hm.part .rst (by decide)
  rw [heq]
  refine ⟨fun k hk => ?_, ?_, ?_, ?_, ?_, ?_, ?_, ?_⟩
  · rw [get_put_ne, get_put_ne, get_put_ne, get_put_ne, hcells k hk] <;>
      simp only [Obj.cellVoltage0, Obj.maxCell, Obj.minCell, Obj.cellSum, Obj.packVoltage] <;> omega
  · rw [get_put_ne _ _ _ _ (by decide), get_put_ne _ _ _ _ (by decide), get_put_ne _ _ _ _ (by decide), get_put_self _ _ _ rfl,
      fitTo_two rfl (by omega)]
  · rw [get_put_ne _ _ _ _ (by decide), get_put_ne _ _ _ _ (by decide), get_put_self _ _ _ rfl, fitTo_two rfl (by omega)]
  · rw [get_put_ne _ _ _ _ (by decide), get_put_ne _ _ _ _ (by decide), get_put_ne _ _ _ _ (by decide),
      get_put_ne _ _ _ _ (by decide), hother _ (by simp only [Obj.cellVoltage0, Obj.powerPhase]; omega)]
  · rw [get_put_ne _ _ _ _ (by decide), get_put_ne _ _ _ _ (by decide), get_put_ne _ _ _ _ (by decide),
      get_put_ne _ _ _ _ (by decide), hother _ (by simp only [Obj.cellVoltage0, Obj.wireTestRounds]; omega)]
  · rw [put_sup, put_sup, put_sup, put_sup, hsup]
  · rw [put_sup, put_sup, put_sup, put_sup, hsup]
  · rw [put_rst, put_rst, put_rst, put_rst, hrst]

theorem reserveCycle_answers {s : State} (cells : List Nat) (pack : Nat) (test : List Nat) (hl : s.live = true)
    (hs : s.served = true) (ht : s.variant.isT = true) (hr : s.sup.restart = false) (hn : cells.length = s.get Obj.cellCount)
    (h0 : 0 < cells.length) (h16 : cells.length ≤ 16) : Answers (.reserveCycle cells pack test) s fun t =>
      (∀ k, k < cells.length → t.get (Obj.cellVoltage0 + k) = min 65535 (cells.getD k 0)) ∧
      t.get Obj.packVoltage = min 65535 pack ∧ t.get Obj.cellSum = min 65535 cells.sum ∧
      t.sup.lastCycle = s.now ∧ t.sup.wire = (if cells.length ≤ s.sup.wire then 0 else s.sup.wire + 1) ∧
      (cells.length ≤ s.sup.wire → CountsUp Obj.wireTestRounds s t) ∧
      t.resFault 0 = decide (t.get Obj.wireFault ≠ 0) := by
  have he : exec (.reserveCycle cells pack test) s = s.answer (reserveCycle cells pack test s) := by
    show execReserveCycle cells pack test s = _
    rw [execReserveCycle, answerServed_live hl hs, if_pos ht]
  have hm : Moves (caps allParts) s (reserveCycle cells pack test s) := reserveCycle_moves (.refl s)
  have hpub := cyclePublished_shows cells pack s
  have hcyc := cycling_balanced (cells := cells) (pack := pack) (cyclePublished cells pack s)
  have heq := reserveCycle_eq (pack := pack) (test := test) hr hn h0
  dsimp only at heq
  generalize cycleBalanced cells (cycleBreached (cycleEnergy cells (cycleSummed cells pack (cyclePublished cells pack s)))) = w
    at hcyc heq
  have htest := testWire_tests cells test w
  generalize testWire cells test w = v at htest heq
  have hplain (k : Nat) (hk : k ∈ cycleKeys) (hne : k ≠ Obj.wireTestRounds) : v.get k = (cyclePublished cells pack s).get k :=
    (htest.objects k hk hne).trans (hcyc.objects k hk)
  have hwire : w.sup.wire = s.sup.wire := hcyc.wire.trans hpub.wire
  have hsame : SameCycle v (reserveCycle cells pack test s) := by
    rw [heq]
    refine of_ite (P := SameCycle v) (escrowOff_same ?_ ?_) (.refl v)
    · rw [htest.reset, hcyc.reset, hpub.reset]
      exact not_inReset hl
    · rw [hplain _ (by decide) (by decide), hpub.phase]
      have := phase_of_served hs
      omega
  have hget (k : Nat) : (reserveCycle cells pack test s).get k = v.get k := get_congr _ _ k hsame.variant hsame.objs
  refine answers_answer _ he hm.variant hm.pending ⟨fun k hk => ?_, ?_, ?_, ?_, ?_, fun h => ?_, ?_⟩
  · rw [hget, hplain _ (cycleKeys_cell (by omega)) (by simp only [Obj.cellVoltage0, Obj.wireTestRounds]; omega),
      hpub.volts k (by omega)]
  · rw [hget, hplain _ (by decide) (by decide), hpub.pack]
  · rw [hget, hplain _ (by decide) (by decide), hpub.sum]
  · rw [hsame.cycle, htest.cycle, hcyc.cycle, hpub.cycle]
  · rw [hsame.wire, htest.wire, hwire]
  · have hrounds := htest.rounds (hwire ▸ h)
    rw [CountsUp, hcyc.objects _ (by decide), hpub.rounds] at hrounds
    rw [CountsUp, hget, hrounds]
  · rw [State.resFault, State.bit, hget, hget]
    exact htest.fault

/-- Settles O21: main fails, returns and is cut off, and the reserve is charged and read. -/
theorem mainSupplyFailsReturnsAndTheReserveIsRead : Obligations.MainSupplyFailsReturnsAndTheReserveIsRead :=
  fun _ => ⟨mainFail_answers, mainOk_answers, fun mv held hl hs => mainOv_answers mv held hl hs,
    fun mv held hl hs => mainOvClear_answers mv held hl hs, chargerResume_answers, reserveCycle_answers⟩

end Sys2Proof.Machine
end

section
/-! Reads -/
namespace Sys2Proof.Machine
open Sys2Proof Sys2Proof.Config

/-! What a transaction that reads completes with. -/

set_option Elab.async false in
/-- A transaction of no burst. -/
structure Flight.Plain (f : Flight) : Prop where
  begin : f.op ≠ 0x20
  seg : f.op ≠ 0x21
  last : f.op ≠ 0x22

section
variable {f : Flight}

theorem Flight.Plain.runReq_read (h : f.Plain) {idx sub off len : Nat} (hr : f.req = .read idx sub off len) (s : State) :
    runReq f s = runRead f (256 * idx + sub) off len s := by
  obtain ⟨h20, h21, h22⟩ := h
  unfold runReq
  rw [hr]
  split <;> simp_all
  next other => exact absurd rfl (other _ _ _ _ rfl rfl rfl)

variable {s : State} {l : Fin 32}

/-- A READ whose answer leaves the state answers with it. -/
theorem Carries.answers_read (h : Carries l f s) (hp : f.Plain) {idx sub off len k st : Nat} {bs : List Byte}
    (hk : k = 256 * idx + sub) (hwin : k ≠ Obj.window) (hr : f.req = .read idx sub off len)
    (hobj : readObject (f.writer false) k off len s = (st, bs, s)) :
    Answers (.read l) s fun t => Untouched s t ∧ Completed f st 0 bs s t := by
  subst hk
  have hw : f.work = .read := by simp only [Flight.work, hr, hwin, if_false]
  refine h.answers_completeWith (w := .read) rfl hw ?_
  rw [hp.runReq_read hr, runRead, hobj]

/-! What the objects answer. -/

theorem readObject_value {k : Nat} (hwin : k ≠ Obj.window) (hacc : s.access (f.writer false) .read k = 0) (hdom : isDom k = false) :
    readObject (f.writer false) k 0 0 s = (0, toLe (sizeOf k) (s.readValue f.place k), s) := by
  unfold readObject
  simp only [hacc, hwin, hdom, if_false, Bool.false_eq_true, ne_eq, not_true, or_self]
  rfl

theorem readObject_part {k off len : Nat} (hwin : k ≠ Obj.window) (hacc : s.access (f.writer false) .read k = 0)
    (hdom : isDom k = false) (hol : off ≠ 0 ∨ len ≠ 0) : readObject (f.writer false) k off len s = (0x0205, [], s) := by
  unfold readObject
  simp only [hacc, hwin, hdom, if_false, Bool.false_eq_true, hol, if_true]

theorem readObject_dom {k off len : Nat} (hwin : k ≠ Obj.window) (hacc : s.access (f.writer false) .read k = 0)
    (hdom : isDom k = true) (h1 : 1 ≤ len) (h2 : len ≤ 1024) : readObject (f.writer false) k off len s =
      (0, domPart (s.domBytes k) (storeGet 0 k s.recd.gens) off len, s) := by
  unfold readObject
  simp only [hacc, hwin, hdom, if_false, if_true]
  rw [if_neg (by omega)]

theorem readObject_length {k off len : Nat} (hwin : k ≠ Obj.window) (hacc : s.access (f.writer false) .read k = 0)
    (hdom : isDom k = true) (h : len = 0 ∨ 1024 < len) : readObject (f.writer false) k off len s = (0x0204, [], s) := by
  unfold readObject
  simp only [hacc, hwin, hdom, if_false, if_true, h]

theorem readObject_refused {k off len : Nat} (hacc : s.access (f.writer false) .read k ≠ 0) :
    readObject (f.writer false) k off len s = (s.access (f.writer false) .read k, [], s) := by
  unfold readObject
  split
  next h => exact absurd h hacc
  next => rfl

/-! The rows. -/

theorem keep_answers (h : Carries l f s) (hr : f.req = .keep) (ho : f.op = 0x01) : Answers (.keep l) s fun t =>
    Untouched s t ∧ Completed f 0 0
      (toLe 2 ((if f.place < 2 then 256 else 16) - s.inFlightAt f.place) ++ toLe 2 (512 - s.inFlightMasters)) s t := by
  refine h.answers_completeWith (w := .keep) rfl (by simp only [Flight.work, hr, ho, opWork]) ?_
  simp only [runReq, ho, hr]
  rfl

theorem windowRead_answers (h : Carries l f s) (hp : f.Plain) {idx sub off len : Nat} {se : Session} {bs : List Byte} {cur : Nat}
    (hk : 256 * idx + sub = Obj.window) (hr : f.req = .read idx sub off len)
    (hacc : s.access (f.writer false) .read Obj.window = 0) (hse : (s.place f.place).session = some se)
    (hwin : s.window se.cursorLog se.cursorSeq se.windowSize = (bs, cur)) : Answers (.windowRead l) s fun t =>
      (∀ j, noisy j = false → t.get j = s.get j) ∧ t.recd = s.recd ∧
        (t.place f.place).session = some { se with cursorSeq := cur } ∧
        Completed f 0 0 (toLe 4 bs.length ++ toLe 2 0 ++ [0, 0] ++ bs) s t := by
  obtain ⟨u, hu⟩ : ∃ u, (s.onSession f.place fun x => { x with cursorSeq := cur }) = u := ⟨_, rfl⟩
  have hobj : readObject (f.writer false) Obj.window off len s = (0, toLe 4 bs.length ++ toLe 2 0 ++ [0, 0] ++ bs, u) := by
    have hplace : (f.writer false).place = f.place := rfl
    unfold readObject
    simp only [hacc, hplace, hse, hwin, if_true, domPart, List.drop_zero, List.take_length, hu]
  have hw : f.work = .windowRead := by simp only [Flight.work, hr, hk, if_true]
  have he : exec (.windowRead l) s =
      s.answer (completeWith f.id 0 0 (toLe 4 bs.length ++ toLe 2 0 ++ [0, 0] ++ bs) u) := by
    show execWindowRead l s = _
    rw [execWindowRead, answerLive_live h.live, h.runLane_eq hw, hp.runReq_read hr, hk, runRead, hobj]
  have hplaces : f.place < s.host.places.length := by
    refine Classical.byContradiction fun hn => ?_
    rw [State.place, List.getD_eq_getElem?_getD, List.getElem?_eq_none (by omega)] at hse
    exact absurd hse (by simp [Place.empty])
  have hsession : (u.place f.place).session = some { se with cursorSeq := cur } := by
    rw [← hu, State.place, List.getD_eq_getElem?_getD] 
    show ((s.host.places.modify f.place _)[f.place]?.getD Place.empty).session = _
    rw [State.place, List.getD_eq_getElem?_getD, List.getElem?_eq_getElem hplaces] at hse
    rw [List.getElem?_modify, List.getElem?_eq_getElem hplaces]
    simp only [if_true, Option.map_eq_map, Option.map_some, Option.getD_some] at hse ⊢
    rw [hse]
    rfl
  have hdone := completeWith_host_done f 0 0 (toLe 4 bs.length ++ toLe 2 0 ++ [0, 0] ++ bs) u (by rw [← hu]; exact h.known)
    (by rw [h.phase]; nofun) h.own
  have hkeep : u.variant = s.variant ∧ u.pending = s.pending ∧ u.recd = s.recd ∧ u.host.done = s.host.done ∧ u.now = s.now ∧
      ∀ j, u.get j = s.get j := by rw [← hu]; exact ⟨rfl, rfl, rfl, rfl, rfl, fun _ => rfl⟩
  obtain ⟨hv, hpend, hrec, hd, hn, hg⟩ := hkeep
  refine answers_answer _ he ((completeWith_variant ..).trans hv) ((completeWith_pending ..).trans hpend)
    ⟨fun j hj => ?_, ?_, ?_, ?_⟩
  · rw [completeWith_get _ _ _ _ _ _ hj, hg]
  · rw [completeWith_recd, hrec]
  · rw [State.place, completeWith_host_places]
    exact hsession
  · rw [Completed, hdone, hd, hn]

theorem readMulti_answers (h : Carries l f s) {es : List (Nat × Nat)} (hr : f.req = .readMulti es) (ho : f.op = 0x12) :
    Answers (.readMulti l) s fun t => Untouched s t ∧
      Completed f 0 0 ((es.map fun e => 256 * e.1 + e.2).flatMap fun (k : Nat) =>
        if s.access (f.writer false) .multiRead k = 0 then
          [0, 0] ++ toLe 2 (sizeOf k) ++ padTo (roundUp4 (sizeOf k)) (toLe (sizeOf k) (s.readValue f.place k))
        else toLe 2 (s.access (f.writer false) .multiRead k) ++ [0, 0]) s t := by
  have hentry (k : Nat) : s.readEntry (f.writer false) k = if s.access (f.writer false) .multiRead k = 0 then
      [0, 0] ++ toLe 2 (sizeOf k) ++ padTo (roundUp4 (sizeOf k)) (toLe (sizeOf k) (s.readValue f.place k))
        else toLe 2 (s.access (f.writer false) .multiRead k) ++ [0, 0] := by
    unfold State.readEntry
    split
    next h0 =>
      rw [if_pos h0]
      simp only [State.readBytes, length_toLe]
      rfl
    next h0 => rw [if_neg h0]
  refine h.answers_completeWith (w := .readMulti) rfl (by simp only [Flight.work, hr, ho, opWork]) ?_
  simp only [runReq, ho, hr, runReadMulti, hentry, List.flatMap_map]

section
variable {n : Nat} (h : Carries l f s) (hr : f.req = .semaQuery n) (ho : f.op = 0x32)
include h hr ho

theorem semaQuery_refused {st : Nat} (hst : semaRefusal f.place n = st) (h0 : st ≠ 0) : Answers (.semaQuery l) s fun t =>
    Untouched s t ∧ Completed f st 0 [] s t := by
  refine h.answers_completeWith (w := .semaQuery) rfl (by simp only [Flight.work, hr, ho, opWork]) ?_
  simp only [runReq, ho, hr, runQuery]
  split
  next hz => exact absurd (hst.symm.trans hz) h0
  next => rw [hst]; rfl

theorem semaQuery_answers (hp : f.place < 2) (hn : n ≤ 63) : Answers (.semaQuery l) s fun t => Untouched s t ∧
    Completed f 0 0 ([byte (s.sema n).code, byte (s.waiterBits n)] ++ toLe 2 (s.holdOffMs n)) s t := by
  have hst : semaRefusal f.place n = 0 := by rw [semaRefusal, if_neg (by omega), if_neg (by omega)]
  refine h.answers_completeWith (w := .semaQuery) rfl (by simp only [Flight.work, hr, ho, opWork]) ?_
  simp only [runReq, ho, hr, runQuery, hst]

end

end

/-- Settles O35: KEEP, READ, WINDOW_READ, READ_MULTI and SEMA_QUERY complete with what they read. -/
theorem readsAnswerWithWhatTheObjectsShow : Obligations.ReadsAnswerWithWhatTheObjectsShow := by
  intro s l f h h20 h21 h22
  have hp : f.Plain := ⟨h20, h21, h22⟩
  refine ⟨keep_answers h, fun idx sub off len k hk hwin hr => ⟨fun ha hd ho hl => ?_, fun ha hd hol => ?_,
    fun ha hd h1 h2 => ?_, fun ha hd hl => ?_, fun ha => ?_⟩, fun idx sub off len se bs cur hk hr ha hse hwin =>
      windowRead_answers h hp hk hr ha hse hwin, fun es hr ho => readMulti_answers h hr ho,
    fun n hr ho => ⟨semaQuery_answers h hr ho, fun hn => ?_, fun hn h63 => ?_⟩⟩
  · subst ho hl
    exact h.answers_read hp hk hwin hr (readObject_value hwin ha hd)
  · exact h.answers_read hp hk hwin hr (readObject_part hwin ha hd hol)
  · exact h.answers_read hp hk hwin hr (readObject_dom hwin ha hd h1 h2)
  · exact h.answers_read hp hk hwin hr (readObject_length hwin ha hd hl)
  · exact h.answers_read hp hk hwin hr (readObject_refused ha)
  · exact semaQuery_refused h hr ho (if_pos hn) (by decide)
  · exact semaQuery_refused h hr ho (by rw [semaRefusal, if_neg (by omega), if_pos h63]) (by decide)

end Sys2Proof.Machine
end

section
/-! HOST frames -/
namespace Sys2Proof.Machine
open Sys2Proof Sys2Proof.Config

/-! Sessions of the places. -/

set_option Elab.async false in
theorem place_modify {s : State} {p : Nat} {q : Place} (h : s.host.places[p]? = some q) (f : Place → Place) :
    (s.onPlace p f).place p = f q := by
  show ((s.host.places.modify p f)[p]?.getD Place.empty) = f q
  rw [List.getElem?_modify, h]
  simp

theorem place_of_session {s : State} {p : Nat} {se : Session} (h : (s.place p).session = some se) :
    s.host.places[p]? = some (s.place p) := by
  rw [State.place, List.getD_eq_getElem?_getD] at h ⊢
  cases hp : s.host.places[p]? with
  | none =>
    rw [hp] at h
    exact absurd h (by simp [Place.empty])
  | some q => rfl

theorem onSession_session {s : State} {p : Nat} {se : Session} (h : (s.place p).session = some se) (f : Session → Session) :
    ((s.onSession p f).place p).session = some (f se) := by
  rw [State.onSession, place_modify (place_of_session h), h]
  rfl

theorem session_of_bound {s : State} {p : Nat} {se : Session} (h : s.bound p = some se) : (s.place p).session = some se := by
  unfold State.bound at h
  split at h
  · exact h
  · exact absurd h (by simp)

/-- The place that a frame names holds a session of the frame's transport. -/
theorem placeOf_transport {s : State} {tr : Transport} {p : Peer} {sid i : Nat} {se : Session}
    (h : s.placeOf tr p sid = some i) (hb : s.bound i = some se) : se.transport = tr := by
  have hfound := List.find?_some h
  rw [hb] at hfound
  simp only [Option.map_some, Option.getD_some, Bool.and_eq_true, decide_eq_true_eq] at hfound
  exact hfound.1.1

/-! HOST frames (R232, R233). -/

section
variable {s : State} {tr : Transport} {p : Peer} {bs : List Byte}

/-- A frame that is dropped counts under one reason. -/
theorem answers_counted {c : Instr} {s : State} {k : Nat} (hc : isConst k = false) (he : exec c s = s.answer (s.inc k)) :
    Answers c s fun t => CountsUp k s t ∧ OnlyMoves [k] s t ∧ t.host = s.host := by
  have hm : Moves (caps [.objs]) s (s.inc k) := put_moves (.refl s)
  exact answers_answer _ he hm.variant hm.pending ⟨get_put_self _ _ s hc, onlyMoves_put _ _ s, put_host ..⟩

section
variable (hl : s.live = true) (hh : s.hears tr = true) (hlink : tr = .link → s.host.linkIngress.length < 2)
include hl hh hlink

theorem hostFrameRx_eq : exec (.hostFrameRx tr p bs) s = s.answer (hostFrame tr p bs s) := by
  have hroom : (decide (tr ≠ .link) || decide (s.host.linkIngress.length < 2)) = true := by
    by_cases h : tr = .link
    · simp [h, hlink h]
    · simp [h]
  show execHostFrameRx tr p bs s = _
  rw [execHostFrameRx, answerLive_live hl, hh, hroom]
  rfl

theorem hostFrameRx_full (ht : tr ≠ .link) (hf : 16 ≤ s.host.niIngress.length) : Answers (.hostFrameRx tr p bs) s fun t =>
    CountsUp Obj.niIngressDiscards s t ∧ OnlyMoves [Obj.niIngressDiscards] s t ∧ t.host = s.host := by
  refine answers_counted rfl ((hostFrameRx_eq hl hh hlink).trans (congrArg s.answer ?_))
  exact if_pos (by simp [ht, hf])

section
variable (hroom : tr ≠ .link → s.host.niIngress.length < 16)
include hroom

omit hl hh hlink in
theorem hostFrame_room : (decide (tr ≠ .link) && decide (16 ≤ s.host.niIngress.length)) = false := by
  by_cases h : tr = .link
  · simp [h]
  · simp [h, hroom h]

theorem hostFrameRx_malformed (hb : bs.length < 16 ∨ bs.take 2 ≠ [1, 0x10]) : Answers (.hostFrameRx tr p bs) s fun t =>
    CountsUp Obj.malformedFrames s t ∧ OnlyMoves [Obj.malformedFrames] s t ∧ t.host = s.host := by
  refine answers_counted rfl ((hostFrameRx_eq hl hh hlink).trans (congrArg s.answer ?_))
  rw [hostFrame, hostFrame_room hroom, if_neg Bool.false_ne_true, if_pos hb]

section
variable (h16 : 16 ≤ bs.length) (hhead : bs.take 2 = [1, 0x10])
include h16 hhead

theorem hostFrameRx_named : exec (.hostFrameRx tr p bs) s = s.answer (match s.placeOf tr p (leNat ((bs.drop 2).take 2)) with
    | none => s.inc Obj.unknownFrames
    | some i => match s.bound i with
      | some se => receiveHost i se bs s
      | none => s) := by
  rw [hostFrameRx_eq hl hh hlink, hostFrame, hostFrame_room hroom, if_neg Bool.false_ne_true,
    if_neg (by rw [hhead]; simp; omega)] <;> rfl

theorem hostFrameRx_unknown (hp : s.placeOf tr p (leNat ((bs.drop 2).take 2)) = none) :
    Answers (.hostFrameRx tr p bs) s fun t =>
      CountsUp Obj.unknownFrames s t ∧ OnlyMoves [Obj.unknownFrames] s t ∧ t.host = s.host := by
  refine answers_counted rfl ((hostFrameRx_named hl hh hlink hroom h16 hhead).trans (congrArg s.answer ?_))
  rw [hp]

theorem hostFrameRx_received {i : Nat} {se : Session} (hp : s.placeOf tr p (leNat ((bs.drop 2).take 2)) = some i)
    (hb : s.bound i = some se) : exec (.hostFrameRx tr p bs) s = s.answer (receiveHost i se bs s) := by
  rw [hostFrameRx_named hl hh hlink hroom h16 hhead, hp]
  dsimp only
  rw [hb]

end

end

end

/-! What a session receives. -/

section
variable {i len : Nat} {se : Session} (hlen : len = leNat ((bs.drop 14).take 2))
include hlen

theorem receiveHost_length (hb : bs.length ≠ 32 + len) : receiveHost i se bs s = s.inc Obj.malformedFrames := by
  subst hlen
  exact if_pos hb

section
variable (hb : bs.length = 32 + len)
include hb

theorem receiveHost_tag (hk : se.keyless = false) (ht : bs.drop (16 + len) ≠ frameTag se.sk 1 (bs.take (16 + len))) :
    receiveHost i se bs s = s.inc Obj.tagFailCount := by
  subst hlen
  unfold receiveHost
  simp only [hb, ne_eq, not_true, if_false]
  exact if_pos (by simp [hk, ht])

variable (ht : se.keyless = true ∨ bs.drop (16 + len) = frameTag se.sk 1 (bs.take (16 + len)))
include ht

/-- A frame whose tag is right, of `count` elements in `body`, with its FrameCount `fc`. -/
theorem receiveHost_right {fc count : Nat} {body : List Byte} (hfc : fc = leNat ((bs.drop 4).take 4))
    (hcount : count = (bs.getD 12 0).toNat) (hbody : body = (bs.drop 16).take len) : receiveHost i se bs s =
      if fc ≤ se.rxCount then s.inc Obj.replayCount
      else
        let s := s.onSession i fun x => { x with rxCount := fc, timerAt := s.now }
        if !bodyOk count body then
          let s := s.inc Obj.malformedFrames
          if fc = 0xFFFFFFFF then endSession i 6 s else s
        else
          let f : RxFrame := ⟨se.transport, se.peer, i, se.no, fc, body, count⟩
          if se.transport = .link then moveFill 9 (s.onHost fun h => { h with linkIngress := h.linkIngress ++ [f] })
          else moveFill 8 (s.onHost fun h => { h with niIngress := h.niIngress ++ [f] }) := by
  subst hlen hfc hcount hbody
  unfold receiveHost
  simp only [hb, ne_eq, not_true, if_false]
  rw [if_neg]
  obtain h | h := ht
  · simp [h]
  · simp [h]

end

end

end

/-! A frame that its session takes. -/

/-- The session has the frame's FrameCount, and its timer starts anew. -/
def sessionHeard (i fc : Nat) (s : State) : State := s.onSession i fun x => { x with rxCount := fc, timerAt := s.now }

section
variable {s : State} {tr : Transport} {p : Peer} {bs : List Byte} {i fc count : Nat} {se : Session} {body : List Byte}
  (hse : (s.place i).session = some se)
include hse

theorem answers_bodyBad {c : Instr} (he : exec c s = s.answer ((sessionHeard i fc s).inc Obj.malformedFrames)) :
    Answers c s fun t =>
      CountsUp Obj.malformedFrames s t ∧ OnlyMoves [Obj.malformedFrames] s t ∧
      (t.place i).session = some { se with rxCount := fc, timerAt := s.now } ∧
      t.host.niIngress = s.host.niIngress ∧ t.host.linkIngress = s.host.linkIngress := by
  have hm : Moves (caps allParts) s ((sessionHeard i fc s).inc Obj.malformedFrames) := put_moves (onPlace_moves (.refl s))
  refine answers_answer _ he hm.variant hm.pending
    ⟨get_put_self _ _ (sessionHeard i fc s) rfl, onlyMoves_put _ _ (sessionHeard i fc s), ?_, ?_, ?_⟩
  · rw [inc_eq, State.place, put_host]
    exact onSession_session hse _
  · rw [inc_eq, put_host]
    rfl
  · rw [inc_eq, put_host]
    rfl

theorem answers_queued {c : Instr} {f : RxFrame} (htr : se.transport = tr) (he : exec c s = s.answer
    (if se.transport = .link then moveFill 9 ((sessionHeard i fc s).onHost fun h => { h with linkIngress := h.linkIngress ++ [f] })
      else moveFill 8 ((sessionHeard i fc s).onHost fun h => { h with niIngress := h.niIngress ++ [f] }))) :
    Answers c s fun t => (t.place i).session = some { se with rxCount := fc, timerAt := s.now } ∧
      (tr = .link → t.host.linkIngress = s.host.linkIngress ++ [f]) ∧
      (tr ≠ .link → t.host.niIngress = s.host.niIngress ++ [f]) := by
  have hsession := onSession_session hse fun x => { x with rxCount := fc, timerAt := s.now }
  rw [htr] at he
  by_cases h : tr = .link
  · rw [if_pos h] at he
    refine answers_answer _ he ((moveFill_variant ..).trans rfl) ((moveFill_pending ..).trans rfl)
      ⟨?_, fun _ => ?_, fun hn => absurd h hn⟩
    · rw [State.place, moveFill_host_places]
      exact hsession
    · rw [moveFill_host_linkIngress]
      rfl
  · rw [if_neg h] at he
    refine answers_answer _ he ((moveFill_variant ..).trans rfl) ((moveFill_pending ..).trans rfl)
      ⟨?_, fun hn => absurd hn h, fun _ => ?_⟩
    · rw [State.place, moveFill_host_places]
      exact hsession
    · rw [moveFill_host_niIngress]
      rfl

end

/-- Settles O29: a HOST frame is counted under the first check that it fails, or enters its ingress queue. -/
theorem hostFramesAreCheckedInOrder : Obligations.HostFramesAreCheckedInOrder := by
  intro s tr p bs len fc count body hl hh hlink hlen hfc hcount hbody
  refine ⟨hostFrameRx_full hl hh hlink, fun hroom => ⟨hostFrameRx_malformed hl hh hlink hroom, fun h16 hhead =>
    ⟨hostFrameRx_unknown hl hh hlink hroom h16 hhead, fun i se hp hb => ?_⟩⟩⟩
  have he := hostFrameRx_received hl hh hlink hroom h16 hhead hp hb
  refine ⟨fun hb => ?_, fun hb hk ht => ?_, fun hb ht => ?_⟩
  · exact answers_counted rfl (he.trans (congrArg s.answer (receiveHost_length hlen hb)))
  · exact answers_counted rfl (he.trans (congrArg s.answer (receiveHost_tag hlen hb hk ht)))
  · have hright := receiveHost_right (i := i) (s := s) hlen hb ht hfc hcount hbody
    refine ⟨fun hold => ?_, fun hnew hbad hlast => ?_, fun hnew hok => ?_⟩
    · refine answers_counted rfl (he.trans (congrArg s.answer (hright.trans ?_)))
      exact if_pos hold
    · refine answers_bodyBad (session_of_bound ‹_›) (he.trans (congrArg s.answer (hright.trans ?_)))
      rw [if_neg (by omega), hbad]
      exact if_neg hlast
    · obtain ⟨t, htx, hsession, hlinkq, hniq⟩ := answers_queued (fc := fc) (f := ⟨se.transport, se.peer, i, se.no, fc, body, count⟩)
        (session_of_bound ‹_›) (placeOf_transport hp ‹_›) (he.trans (congrArg s.answer (hright.trans (by
          rw [if_neg (by omega), hok]
          rfl))))
      exact ⟨t, htx, hsession, fun f hf => hf ▸ ⟨hlinkq, hniq⟩⟩

end Sys2Proof.Machine
end

section
/-! The local host link -/
namespace Sys2Proof.Machine
open Sys2Proof Sys2Proof.Config

section
variable {s : State} {h : List Byte} {len : Nat} (hl : s.live = true) (hs : s.served = true)

set_option Elab.async false in
/-- A link error beside one object that counts. -/
theorem answers_linkErr_counted {c : Instr} {s : State} {k : Nat} (hc : isConst k = false)
    (he : exec c s = s.answer (linkErr (s.inc k))) : Answers c s fun t =>
      CountsUp k s t ∧ OnlyMoves [k] s t ∧ t.host = { s.host with linkErr := true } := by
  have hm : Moves (caps allParts) s (linkErr (s.inc k)) := onHost_moves (put_moves (.refl s))
  refine answers_answer _ he hm.variant hm.pending ⟨get_put_self _ _ s hc, onlyMoves_put _ _ s, ?_⟩
  rw [linkErr, inc_eq]
  exact congrArg (fun x => { x with linkErr := true }) (put_host ..)

include hl hs

/-! Exchanges whose header is wrong. -/

theorem exec_headerError (hh : headerOk h = false) {c : Instr} (hc : c = .linkStatusExchange h ∨
    (∃ f ok, c = .linkWriteExchange h f ok) ∨ ∃ n ok, c = .linkReadExchange h n ok) :
    exec c s = s.answer (linkErr (s.inc Obj.headerErrors)) := by
  obtain rfl | ⟨f, ok, rfl⟩ | ⟨n, ok, rfl⟩ := hc
  · show execLinkStatusExchange h s = _
    rw [execLinkStatusExchange, answerServed_live hl hs, hh]
    rfl
  · show execLinkWriteExchange h f ok s = _
    rw [execLinkWriteExchange, answerServed_live hl hs, hh]
    rfl
  · show execLinkReadExchange h n ok s = _
    rw [execLinkReadExchange, answerServed_live hl hs, hh]
    rfl

/-! Write exchanges. -/

section
variable (hlen : len = leNat ((h.drop 1).take 2)) (hh : headerOk h = true) (hcode : h.getD 0 0 = 0xA1)
include hlen hh hcode

theorem linkWriteExchange_eq (f : List Byte) (ok : Bool) : exec (.linkWriteExchange h f ok) s = s.answer
    (if ok && decide (1 ≤ len ∧ len ≤ 1472 ∧ f.length = len + 4 ∧ s.host.linkIngress.length < 2)
        && leNat (f.drop len) == crc32c (f.take len) then linkFrame (f.take len) s
      else linkErr (s.inc Obj.frameErrors)) := by
  subst hlen
  show execLinkWriteExchange h f ok s = _
  rw [execLinkWriteExchange, answerServed_live hl hs, hh, if_neg (by simp), if_neg (by rw [hcode]; simp)]

/-- The frame's data are followed by their CRC. -/
theorem linkWriteExchange_good {data : List Byte} (hd : data.length = len) (h1 : 1 ≤ len) (hmax : len ≤ 1472)
    (hroom : s.host.linkIngress.length < 2) :
    exec (.linkWriteExchange h (data ++ toLe 4 (crc32c data)) true) s = s.answer (linkFrame data s) := by
  have hcrc : leNat (toLe 4 (crc32c data)) = crc32c data := (leNat_toLe 4 _).trans (Nat.mod_eq_of_lt (crc32c_lt data))
  rw [linkWriteExchange_eq hl hs hlen hh hcode, ← hd, List.take_left, List.drop_left, hcrc]
  congr 1
  exact if_pos (by simp [length_toLe, hd, h1, hmax, hroom])

theorem linkWriteExchange_bad {f : List Byte} {ok : Bool}
    (hbad : ok = false ∨ f.length ≠ len + 4 ∨ 1472 < len ∨ leNat (f.drop len) ≠ crc32c (f.take len)) :
    exec (.linkWriteExchange h f ok) s = s.answer (linkErr (s.inc Obj.frameErrors)) := by
  rw [linkWriteExchange_eq hl hs hlen hh hcode]
  congr 1
  refine if_neg fun hgood => ?_
  simp only [Bool.and_eq_true, decide_eq_true_eq, beq_iff_eq] at hgood
  obtain ⟨⟨hok, -, hmax, hflen, -⟩, hcrc⟩ := hgood
  obtain h | h | h | h := hbad
  · exact absurd (hok.symm.trans h) (by simp)
  · exact h hflen
  · omega
  · exact h hcrc

end

/-- A frame taken from the link is what the same frame would be from any transport. -/
theorem exec_linkFrame {data : List Byte} (hroom : s.host.linkIngress.length < 2) :
    exec (if data.getD 1 0 = 0x01 then .hello .link linkPeer data
      else if data.getD 1 0 = 0x03 then .proof .link linkPeer data else .hostFrameRx .link linkPeer data) s =
    s.answer (linkFrame data s) := by
  have hears : s.hears .link = true := hs
  by_cases h1 : data.getD 1 0 = 0x01
  · rw [if_pos h1, linkFrame, h1]
    show execHello .link linkPeer data s = _
    rw [execHello, answerLive_live hl, hears] <;> rfl
  · rw [if_neg h1]
    by_cases h3 : data.getD 1 0 = 0x03
    · rw [if_pos h3, linkFrame, h3]
      show execProof .link linkPeer data s = _
      rw [execProof, answerLive_live hl, hears] <;> rfl
    · rw [if_neg h3]
      have hf : linkFrame data s = hostFrame .link linkPeer data s := by
        unfold linkFrame
        split
        · exact absurd ‹_› h1
        · exact absurd ‹_› h3
        · rfl
      rw [hf]
      exact hostFrameRx_eq hl hears fun _ => hroom

/-! Read exchanges. -/

omit hl hs in
/-- Without a frame older than FrameMaxAge nothing is discarded. -/
theorem ageLink_young (hy : ∀ f ∈ s.host.linkEgress, s.now ≤ f.at_ + ms (s.get Obj.frameMaxAge)) : ageLink s = s := by
  have hkeep : (s.host.linkEgress.filter fun f => !decide (f.at_ + ms (s.get Obj.frameMaxAge) < s.now)) =
      s.host.linkEgress := by
    rw [List.filter_eq_self]
    intro f hf
    simpa using hy f hf
  unfold ageLink
  rw [hkeep]
  exact if_pos (Nat.sub_self _)

theorem linkReadExchange_eq (hlen : len = leNat ((h.drop 1).take 2)) (hh : headerOk h = true) (hcode : h.getD 0 0 = 0xA2)
    (hy : ∀ f ∈ s.host.linkEgress, s.now ≤ f.at_ + ms (s.get Obj.frameMaxAge)) {f : TxFrame} {r : List TxFrame}
    (hq : s.host.linkEgress = f :: r) (n : Nat) (ok : Bool) : exec (.linkReadExchange h n ok) s = s.answer
      (if len < f.bytes.length then linkErr s
        else if ok && decide (f.bytes.length + 4 ≤ n) then moveFill 10 (s.onHost fun x => { x with linkEgress := r })
        else s) := by
  subst hlen
  show execLinkReadExchange h n ok s = _
  rw [execLinkReadExchange, answerServed_live hl hs, hh, if_neg (by simp), if_neg (by rw [hcode]; simp)]
  dsimp only
  rw [ageLink_young hy, hq]

end

/-- Settles O33: an exchange of the local host link hands a frame in or out, or counts its error. -/
theorem theLinkExchangesFrames : Obligations.TheLinkExchangesFrames := by
  intro s h len hl hs hlen
  refine ⟨fun c hh hc => answers_linkErr_counted rfl (exec_headerError hl hs hh hc), fun hh hcode => ⟨?_, ?_⟩,
    fun hh hcode hy f r hq => ?_, fun hh hcode => ?_⟩
  · rintro f data rfl hd h1 hmax hroom
    exact ⟨_, linkWriteExchange_good hl hs hlen hh hcode hd h1 hmax hroom, exec_linkFrame hl hs hroom⟩
  · exact fun f ok hbad => answers_linkErr_counted rfl (linkWriteExchange_bad hl hs hlen hh hcode hbad)
  · have he := linkReadExchange_eq hl hs hlen hh hcode hy hq
    refine ⟨fun n hfit hn => ?_, fun n ok hlong => ?_, fun n ok hfit hbad => ?_⟩
    · have htaken := he n true
      rw [if_neg (by omega), if_pos (by simp [hn])] at htaken
      exact answers_answer _ htaken ((moveFill_variant ..).trans rfl) ((moveFill_pending ..).trans rfl)
        (moveFill_host_linkEgress ..)
    · exact answers_answer (linkErr s) ((he n ok).trans (by rw [if_pos hlong])) rfl rfl ⟨rfl, rfl⟩
    · refine answers_answer s ((he n ok).trans ?_) rfl rfl rfl
      rw [if_neg (by omega), if_neg]
      simpa using fun hok => Nat.not_le.2 (hbad.resolve_left (by simp [hok]))
  · refine answers_answer (s.onHost fun h => { h with linkErr := false }) ?_ rfl rfl ⟨rfl, rfl⟩
    show execLinkStatusExchange h s = _
    rw [execLinkStatusExchange, answerServed_live hl hs, hh, if_neg (by simp), if_pos hcode]

end Sys2Proof.Machine
end

section
/-! Admission -/
namespace Sys2Proof.Machine
open Sys2Proof Sys2Proof.Config

/-! What notices cannot move: the refusals of admission. -/

section
variable {s t : State} (h : Hush s t)
include h

set_option Elab.async false in
theorem Hush.ownerBy (f : Nat → Nat) (p : Nat → Nat → Bool) (hf : ∀ n < 8, noisy (f n) = false) :
    (t.ownerBy fun n => p (t.get (f n)) n) = s.ownerBy fun n => p (s.get (f n)) n := by
  have hfns : t.fns17 = s.fns17 := by rw [State.fns17, State.fns17, h.noted.variant]
  rw [State.ownerBy, State.ownerBy, hfns]
  congr 1
  exact find?_eq_find? fun n hn => by rw [h.obj _ (hf n (fn_small hn))]

theorem Hush.ownerOf (k : Nat) : t.ownerOf k = s.ownerOf k := by
  have haxis (a : Nat) : t.ownerOfAxis a = s.ownerOfAxis a := h.ownerBy Obj.fnAxisMask (fun v _ => v.testBit a) (by decide)
  have hchan (c : Nat) : t.ownerOfChan c = s.ownerOfChan c := h.ownerBy Obj.channelMask (fun v _ => v.testBit c) (by decide)
  have hpin (i : Nat) : t.ownerOfPin i = s.ownerOfPin i := h.ownerBy Obj.gpMask (fun v _ => v.testBit i) (by decide)
  have hset (i : Nat) : t.ownerOfSet i = s.ownerOfSet i := h.ownerBy Obj.seqSet (fun v _ => v == i) (by decide)
  have htable (i : Nat) : t.ownerOfTable i = s.ownerOfTable i := by
    have hrec : t.recd = s.recd := h.recd
    unfold State.ownerOfTable State.table State.bit
    rw [h.obj _ (by decide), h.noted.variant, hrec]
  unfold State.ownerOf
  split
  · rfl
  · split
    · rfl
    · exact haxis _
    · exact hchan _
    · exact hpin _
    · exact hset _
    · exact hset _
    · exact htable _
    · exact htable _

theorem Hush.fnState (n : Nat) : t.fnState n = s.fnState n := by
  refine h.obj _ ?_
  simp only [noisy, Obj.functionState, Obj.droppedRecords, Obj.safetyFaultCount, Obj.discardedCompletions, Bool.or_eq_false_iff,
    beq_eq_false_iff_ne]
  omega

theorem Hush.gated (o : OpKind) (k : Nat) : t.gated o k = s.gated o k := by
  simp only [State.gated, h.ownerOf, h.fnState]

theorem Hush.drains (ks : List Nat) : t.drains ks = s.drains ks := by
  simp only [State.drains, h.ownerOf, h.fnState]

theorem Hush.burstKeys (p : Nat) : t.burstKeys p = s.burstKeys p := by
  have hf : t.host.flights = s.host.flights := h.noted.host_flights
  have hb : t.host.bursts = s.host.bursts := h.noted.host_bursts
  rw [State.burstKeys, State.burstKeys, State.queueOf_, State.queueOf_, State.burst, State.burst, hf, hb]

theorem Hush.gatedElem (p : Nat) (r : Req) : t.gatedElem p r = s.gatedElem p r := by
  have hkeys : t.gated r.opKind = s.gated r.opKind := funext (h.gated r.opKind)
  unfold State.gatedElem
  split
  · exact h.drains _
  · exact h.drains _
  · rw [h.drains, h.burstKeys]
  · rw [hkeys]

theorem Hush.place (p : Nat) : t.place p = s.place p := by rw [State.place, State.place, h.noted.host_places]

theorem Hush.admitRefusal (p : Nat) (closing : Bool) (e : Elem) : t.admitRefusal p closing e = s.admitRefusal p closing e := by
  have hf := h.noted.host_flights
  have hbusy : t.tagBusy p e.tag = s.tagBusy p e.tag := by
    rw [State.tagBusy, State.tagBusy, State.ownFlights, State.ownFlights, h.place, hf]
  have hat : t.inFlightAt p = s.inFlightAt p := by rw [State.inFlightAt, State.inFlightAt, hf]
  have hall : t.inFlightMasters = s.inFlightMasters := by rw [State.inFlightMasters, State.inFlightMasters, hf]
  have hnone : t.admitsNone = s.admitsNone := by
    rw [State.admitsNone, State.admitsNone, h.obj _ (by decide), h.noted.rst]
  rw [State.admitRefusal, State.admitRefusal, hbusy, hat, hall, hnone, h.gatedElem]

theorem Hush.mustBeSafe (p : Nat) (r : Req) : t.mustBeSafe p r = s.mustBeSafe p r := by
  unfold State.mustBeSafe
  split
  · rw [h.burstKeys]
  · rfl

theorem Hush.aged_ (ref : Nat) : t.aged_ ref = s.aged_ ref := by
  have hb : t.tb32 = s.tb32 := by rw [State.tb32, State.tb32, State.tb, State.tb, State.f, State.f, h.noted.now, h.noted.clk]
  rw [State.aged_, State.aged_, h.obj _ (by decide), hb]

theorem Hush.safetyExpected (p : Nat) : t.safetyExpected p = s.safetyExpected p := by
  rw [State.safetyExpected, State.safetyExpected, h.place]

end

/-! An element alone in its frame is taken. -/

/-- The state without the first frame of its ingress queue, `fs` being left. -/
def popped (link : Bool) (fs : List RxFrame) (s : State) : State :=
  if link then s.onHost fun h => { h with linkIngress := fs } else s.onHost fun h => { h with niIngress := fs }

/-- The state in which a frame's elements are judged. -/
def unqueued (link : Bool) (fs : List RxFrame) (s : State) : State := moveFill (if link then 9 else 8) (popped link fs s)

theorem hush_unqueued (link : Bool) (fs : List RxFrame) (s : State) : Hush (popped link fs s) (unqueued link fs s) :=
  hush_moveFill _ (by split <;> decide) _

theorem popped_place (link : Bool) (fs : List RxFrame) (s : State) (p : Nat) : (popped link fs s).place p = s.place p := by
  cases link <;> rfl

theorem unqueued_place (link : Bool) (fs : List RxFrame) (s : State) (p : Nat) : (unqueued link fs s).place p = s.place p :=
  ((hush_unqueued link fs s).place p).trans (popped_place link fs s p)

theorem unqueued_admitRefusal (link : Bool) (fs : List RxFrame) (s : State) (p : Nat) (closing : Bool) (e : Elem) :
    (unqueued link fs s).admitRefusal p closing e = s.admitRefusal p closing e := by
  refine ((hush_unqueued link fs s).admitRefusal p closing e).trans ?_
  cases link <;> rfl

theorem unqueued_mustBeSafe (link : Bool) (fs : List RxFrame) (s : State) (p : Nat) (r : Req) :
    (unqueued link fs s).mustBeSafe p r = s.mustBeSafe p r := by
  refine ((hush_unqueued link fs s).mustBeSafe p r).trans ?_
  cases link <;> rfl

theorem unqueued_aged (link : Bool) (fs : List RxFrame) (s : State) (ref : Nat) :
    (unqueued link fs s).aged_ ref = s.aged_ ref := by
  refine ((hush_unqueued link fs s).aged_ ref).trans ?_
  cases link <;> rfl

theorem unqueued_safetyExpected (link : Bool) (fs : List RxFrame) (s : State) (p : Nat) :
    (unqueued link fs s).safetyExpected p = s.safetyExpected p := by
  rw [State.safetyExpected, unqueued_place] <;> rfl

theorem unqueued_get (link : Bool) (fs : List RxFrame) (s : State) {k : Nat} (hk : noisy k = false) :
    (unqueued link fs s).get k = s.get k := by
  refine ((hush_unqueued link fs s).obj k hk).trans ?_
  cases link <;> rfl

section
variable {s : State} {link : Bool} {f : RxFrame} {fs : List RxFrame} {b : List Byte} {e : Elem} {se : Session}

/-- A frame of one element acts as that element does. -/
theorem frameAdmission_eq (hl : s.live = true) (hs : s.served = true)
    (hq : (if link then s.host.linkIngress else s.host.niIngress) = f :: fs) (hroom : s.refusals f.place + f.count ≤ 64)
    (hse : (s.place f.place).session = some se) (hno : se.no = f.sess) (hsplit : splitElems 64 f.body = some [b])
    (hread : e = readElem (s.safetyPrefix f.place) b) (hfc : f.frameCount ≠ 0xFFFFFFFF) :
    exec (.frameAdmission link) s = s.answer
      (settleLanes (takeElem f.place f.frameCount se.closing 0 e (unqueued link fs s))) := by
  have hfirst : exec (.frameAdmission link) s = s.answer (admitFrame f (unqueued link fs s)) := by
    show execFrameAdmission link s = _
    rw [execFrameAdmission, answerServed_live hl hs, hq]
    dsimp only
    rw [if_neg (by omega)]
    cases link <;> rfl
  have hprefix : (unqueued link fs s).safetyPrefix f.place = s.safetyPrefix f.place := by
    rw [State.safetyPrefix, unqueued_get _ _ _ (by decide)] <;> rfl
  rw [hfirst, admitFrame, unqueued_place, hse]
  dsimp only
  rw [if_neg (by rw [hno]; exact Classical.not_not.2 rfl), hsplit, hprefix, if_neg hfc]
  subst hread
  rfl

end

/-! Refused elements. -/

/-- The refusal entry of an element. -/
def refusalOf (p frame i : Nat) (e : Elem) (se : Session) (st : Nat) (data : List Byte) (s : State) : Done :=
  { place := p, sess := se.no, tag := e.tag, op := e.op, status := st, detail := 0, data := data, frame := frame, elem := i,
    duplicate := st == 0x0803, safety := false, flight := none, at_ := s.now }

section
variable {s : State} {p frame i st : Nat} {e : Elem} {se : Session} {data : List Byte}
  (hse : (s.place p).session = some se) (hop : e.op ≠ 0x21)
include hse hop

theorem refuseElem_eq : refuseElem p frame i e st data s = moveFill 4
    ((s.onHost fun h => { h with done := h.done ++ [refusalOf p frame i e se st data s] }).whenever (decide (p < 2))
      fun u => u.inc (Obj.refusedCount p)) := by
  rw [refuseElem, hse]
  dsimp only
  rw [if_neg hop, State.whenever]
  simp only [decide_eq_true_eq]
  rfl

theorem refuseElem_done : (refuseElem p frame i e st data s).host.done =
    s.host.done ++ [refusalOf p frame i e se st data s] := by
  rw [refuseElem_eq hse hop, moveFill_host_done, State.whenever]
  split
  · rw [inc_eq, put_host]
    rfl
  · rfl

theorem refuseElem_flights : (refuseElem p frame i e st data s).host.flights = s.host.flights := by
  rw [refuseElem_eq hse hop, moveFill_host_flights, State.whenever]
  split
  · rw [inc_eq, put_host]
    rfl
  · rfl

theorem refuseElem_counts (hp : p < 2) (hq : noisy (Obj.refusedCount p) = false) (hc : isConst (Obj.refusedCount p) = false) :
    CountsUp (Obj.refusedCount p) s (refuseElem p frame i e st data s) := by
  rw [CountsUp, refuseElem_eq hse hop, moveFill_get _ 4 (by decide) _ hq, State.whenever, if_pos (by simpa using hp), inc_eq,
    get_put_self _ _ _ hc]
  rfl

theorem refuseElem_get {k : Nat} (hn : noisy k = false) (hk : k ≠ Obj.refusedCount p) :
    (refuseElem p frame i e st data s).get k = s.get k := by
  rw [refuseElem_eq hse hop, moveFill_get _ 4 (by decide) _ hn, State.whenever]
  split
  · rw [inc_eq, get_put_ne _ _ _ _ hk]
    rfl
  · rfl

end

/-! Admitted elements. -/

/-- The transaction of an element that enters its Headpond. -/
def admittedOf (p frame i : Nat) (e : Elem) (se : Session) (s : State) : Flight :=
  let fns := s.functionsOf (s.keysOf p e.req)
  { id := s.host.nextFlight, place := p, sess := se.no, tag := e.tag, frame := frame, elem := i, op := e.op, req := e.req
    raw := e.raw, safety := e.safety.map (·.refTime), fns := fns
    cls := fns.foldl min (fns.headD 0), orphan := false
    phase := .queued, since := s.now
    link := decide (se.transport = .link), sk := se.sk, poison := none }

/-- The state with the transaction in its Headpond. -/
def entered (p : Nat) (x : Flight) (s : State) : State :=
  moveFill 4 (moveFill (min p 2) (dozeExit ((s.onHost fun h =>
    { h with nextFlight := h.nextFlight + 1, flights := h.flights ++ [x] }).whenever (decide (p < 2))
      fun u => u.inc (Obj.admittedCount p))))

theorem admitElem_eq {s : State} {p frame i : Nat} {e : Elem} {se : Session} (hse : (s.place p).session = some se)
    (hop : e.op ≠ 0x23) : admitElem p frame i e s = (entered p (admittedOf p frame i e se s) s).whenever (decide (e.op = 2))
      (State.onSession p fun x => { x with closing := true }) := by
  rw [admitElem, hse]
  dsimp only
  rw [if_neg hop, if_neg hop, State.whenever]
  simp only [decide_eq_true_eq, entered, State.whenever]
  rfl

section
variable (p : Nat) (x : Flight) (s : State)

/-- The host side of the state in which the transaction is entered. -/
theorem entered_flights : (entered p x s).host.flights = s.host.flights ++ [x] ∧ (entered p x s).host.done = s.host.done ∧
    (entered p x s).host.nextFlight = s.host.nextFlight + 1 ∧ (entered p x s).host.places = s.host.places := by
  have hin : Moves (caps [.objs, .pow, .net]) (s.onHost fun h =>
      { h with nextFlight := h.nextFlight + 1, flights := h.flights ++ [x] }) (entered p x s) :=
    moveFill_moves (moveFill_moves (dozeExit_moves (.ite (put_moves (.refl _)) (.refl _))))
  have hf : ((entered p x s).host.flights, (entered p x s).host.done, (entered p x s).host.nextFlight) =
      (s.host.flights ++ [x], s.host.done, s.host.nextFlight + 1) := hin.part .flights (by decide)
  have hp : (entered p x s).host.places = s.host.places := hin.part .places (by decide)
  simp only [Prod.mk.injEq] at hf
  obtain ⟨hflights, hdone, hnext⟩ := hf
  exact ⟨hflights, hdone, hnext, hp⟩

theorem entered_counts (hp : p < 2) : CountsUp (Obj.admittedCount p) s (entered p x s) := by
  have hq : noisy (Obj.admittedCount p) = false ∧ isConst (Obj.admittedCount p) = false ∧ Obj.admittedCount p ∉ dozeKeys := by
    obtain rfl | rfl : p = 0 ∨ p = 1 := by omega
    · decide
    · decide
  obtain ⟨hn, hc, hd⟩ := hq
  rw [CountsUp, entered, moveFill_get _ 4 (by decide) _ hn, moveFill_get _ (min p 2) (by omega) _ hn, dozeExit_get hd,
    State.whenever, if_pos (by simpa using hp), inc_eq, get_put_self _ _ _ hc]
  rfl

end

/-! What becomes of the first frame. -/

section
variable {s : State} {p frame : Nat} {closing : Bool} {e : Elem} (h90 : e.op ≠ 0x90)
include h90

theorem takeElem_refused {st : Nat} (h : s.admitRefusal p closing e = st) (hst : st ≠ 0) :
    takeElem p frame closing 0 e s = refuseElem p frame 0 e st [] s := by
  rw [takeElem, if_neg h90, h]
  cases st with
  | zero => exact absurd rfl hst
  | succ n => rfl

theorem takeElem_unrefused (h : s.admitRefusal p closing e = 0) : takeElem p frame closing 0 e s =
    if (checkSafety p e s).1 = 0 then admitElem p frame 0 e (checkSafety p e s).2
    else refuseElem p frame 0 e (checkSafety p e s).1
      (if (checkSafety p e s).1 = 0x0903 then toLe 2 (s.safetyExpected p) else []) (checkSafety p e s).2 := by
  rw [takeElem, if_neg h90, h]
  generalize checkSafety p e s = r
  obtain ⟨st, u⟩ := r
  cases st with
  | zero => rfl
  | succ n => rfl

end

/-- The session expects the next sequence number. -/
def sequenceTaken (p : Nat) (s : State) : State :=
  s.onSession p fun x => { x with safetyExpected := (x.safetyExpected + 1) % 65536 }

/-- The state after a safety code that is right so far: its sequence number is used up. -/
def safetyHeard (p : Nat) (e : Elem) (s : State) : State := if e.safety.isSome then sequenceTaken p s else s

theorem checkSafety_good {s : State} {p : Nat} {e : Elem}
    (h : (e.safety = none ∧ s.mustBeSafe p e.req = false) ∨
      ∃ c, e.safety = some c ∧ c.crcOk = true ∧ c.seq = s.safetyExpected p ∧ s.aged_ c.refTime = false) :
    checkSafety p e s = (0, safetyHeard p e s) := by
  unfold checkSafety safetyHeard
  obtain ⟨hc, hm⟩ | ⟨c, hc, hcrc, hseq, hage⟩ := h
  · rw [hc, hm]
    rfl
  · have hage' : (sequenceTaken p s).aged_ c.refTime = false := hage
    rw [hc]
    dsimp only
    rw [hcrc, if_neg (by simp), if_neg (Classical.not_not.2 hseq)]
    unfold sequenceTaken at hage' ⊢
    rw [hage']
    rfl

/-- A safety code that is missing or wrong counts, and what its place expects may move. -/
theorem checkSafety_bad {s : State} {p st : Nat} {e : Elem}
    (h : (e.safety = none ∧ s.mustBeSafe p e.req = true ∧ st = 0x0901) ∨
      (∃ c, e.safety = some c ∧ c.crcOk = false ∧ st = 0x0902) ∨
      (∃ c, e.safety = some c ∧ c.crcOk = true ∧ c.seq ≠ s.safetyExpected p ∧ st = 0x0903) ∨
      (∃ c, e.safety = some c ∧ c.crcOk = true ∧ c.seq = s.safetyExpected p ∧ s.aged_ c.refTime = true ∧ st = 0x0904)) :
    st ≠ 0 ∧ (checkSafety p e s = (st, s.inc Obj.safetyFailCount) ∨
      checkSafety p e s = (st, (sequenceTaken p s).inc Obj.safetyFailCount)) := by
  unfold checkSafety
  obtain ⟨hc, hm, rfl⟩ | ⟨c, hc, hcrc, rfl⟩ | ⟨c, hc, hcrc, hseq, rfl⟩ | ⟨c, hc, hcrc, hseq, hage, rfl⟩ := h
  · refine ⟨by decide, .inl ?_⟩
    rw [hc, hm]
    rfl
  · refine ⟨by decide, .inl ?_⟩
    rw [hc]
    dsimp only
    rw [hcrc]
    rfl
  · refine ⟨by decide, .inl ?_⟩
    rw [hc]
    dsimp only
    rw [hcrc, if_neg (by simp), if_pos hseq]
  · have hage' : (sequenceTaken p s).aged_ c.refTime = true := hage
    refine ⟨by decide, .inr ?_⟩
    rw [hc]
    dsimp only
    rw [hcrc, if_neg (by simp), if_neg (Classical.not_not.2 hseq)]
    unfold sequenceTaken at hage' ⊢
    rw [hage']
    rfl

/-! The frame has left its queue, and its element is judged. -/

section
variable {s t : State} {p : Nat}

/-- The lanes change nothing else of the host side, and no object. -/
theorem settleLanes_keeps (s : State) : (settleLanes s).objs = s.objs ∧ (settleLanes s).host.flights = s.host.flights ∧
    (settleLanes s).host.done = s.host.done ∧ (settleLanes s).host.nextFlight = s.host.nextFlight ∧
    (settleLanes s).place p = s.place p := by
  have hm : Moves (caps [.fns]) s (settleLanes s) := settleLanes_moves (.refl s)
  have hf : ((settleLanes s).host.flights, (settleLanes s).host.done, (settleLanes s).host.nextFlight) =
      (s.host.flights, s.host.done, s.host.nextFlight) := hm.part .flights (by decide)
  have hp : (settleLanes s).host.places = s.host.places := hm.part .places (by decide)
  have ho : (settleLanes s).objs = s.objs := hm.part .objs (by decide)
  simp only [Prod.mk.injEq] at hf
  obtain ⟨hflights, hdone, hnext⟩ := hf
  exact ⟨ho, hflights, hdone, hnext, by rw [State.place, State.place, hp]⟩

theorem sequenceTaken_place {se : Session} (hse : (s.place p).session = some se) : ((sequenceTaken p s).place p).session =
    some { se with safetyExpected := (se.safetyExpected + 1) % 65536 } :=
  onSession_session hse _

/-- A session that closes keeps what safety codes it expects. -/
theorem closing_expects {se : Session} (hse : (s.place p).session = some se) (b : Bool) :
    ((s.whenever b (State.onSession p fun x => { x with closing := true })).place p).session.map (·.safetyExpected) =
      some se.safetyExpected := by
  cases b with
  | false =>
    show (s.place p).session.map _ = _
    rw [hse]
    rfl
  | true =>
    show ((s.onSession p fun x => { x with closing := true }).place p).session.map _ = _
    rw [onSession_session hse]
    rfl

end

section
variable {s : State} {link : Bool} {f : RxFrame} {fs : List RxFrame} {e : Elem} {se : Session}

/-- The state of an admitted element before the lanes are settled. -/
def admittedIn (link : Bool) (f : RxFrame) (fs : List RxFrame) (e : Elem) (s : State) : State :=
  admitElem f.place f.frameCount 0 e (safetyHeard f.place e (unqueued link fs s))

theorem safetyHeard_moves (p : Nat) (e : Elem) (s : State) : Moves (caps [.places]) s (safetyHeard p e s) :=
  .ite (onSession_moves (.refl s)) (.refl s)

theorem popped_moves (link : Bool) (fs : List RxFrame) (s : State) : Moves (caps [.ingress]) s (popped link fs s) :=
  .ite (onHost_moves (.refl s)) (onHost_moves (.refl s))

theorem settled_ingress {t : State} (hm : Moves (caps [.objs, .places, .flights, .bursts, .pow, .net, .fns]) (popped link fs s) t) :
    (if link then (settleLanes t).host.linkIngress else (settleLanes t).host.niIngress) = fs := by
  have hs : Moves (caps [.objs, .places, .flights, .bursts, .pow, .net, .fns]) (popped link fs s) (settleLanes t) :=
    settleLanes_moves hm
  have hq : ((settleLanes t).host.niIngress, (settleLanes t).host.linkIngress) =
      ((popped link fs s).host.niIngress, (popped link fs s).host.linkIngress) := hs.part .ingress (by decide)
  simp only [Prod.mk.injEq] at hq
  obtain ⟨hni, hlink⟩ := hq
  rw [hni, hlink]
  cases link <;> rfl

theorem admittedIn_moves : Moves (caps [.objs, .places, .flights, .bursts, .pow, .net, .fns]) (popped link fs s)
    (admittedIn link f fs e s) :=
  admitElem_moves ((moveFill_moves (.refl _)).of (by decide) (safetyHeard_moves ..))

variable (hse : (s.place f.place).session = some se)
include hse

/-- The session once the safety code is heard. -/
def heardSession (e : Elem) (se : Session) : Session :=
  if e.safety.isSome then { se with safetyExpected := (se.safetyExpected + 1) % 65536 } else se

theorem heard_session : ((safetyHeard f.place e (unqueued link fs s)).place f.place).session = some (heardSession e se) := by
  have hu : ((unqueued link fs s).place f.place).session = some se := by rw [unqueued_place, hse]
  unfold safetyHeard heardSession
  split
  · exact sequenceTaken_place hu
  · exact hu

omit hse in
theorem heardSession_no : (heardSession e se).no = se.no := by
  unfold heardSession
  split <;> rfl

omit hse in
/-- The transactions are those from before the frame left its queue. -/
theorem heard_host : (safetyHeard f.place e (unqueued link fs s)).host.flights = s.host.flights ∧
    (safetyHeard f.place e (unqueued link fs s)).host.done = s.host.done ∧
    (safetyHeard f.place e (unqueued link fs s)).host.nextFlight = s.host.nextFlight := by
  have hu : (unqueued link fs s).host.flights = s.host.flights ∧ (unqueued link fs s).host.done = s.host.done ∧
      (unqueued link fs s).host.nextFlight = s.host.nextFlight := by
    rw [unqueued, moveFill_host_flights, moveFill_host_done, moveFill_host_nextFlight]
    cases link <;> exact ⟨rfl, rfl, rfl⟩
  unfold safetyHeard
  split
  · exact hu
  · exact hu

section
variable (h23 : e.op ≠ 0x23)
include h23

theorem admittedIn_eq : admittedIn link f fs e s =
    (entered f.place (admittedOf f.place f.frameCount 0 e (heardSession e se) (safetyHeard f.place e (unqueued link fs s)))
      (safetyHeard f.place e (unqueued link fs s))).whenever (decide (e.op = 2))
      (State.onSession f.place fun x => { x with closing := true }) :=
  admitElem_eq (heard_session hse) h23

/-- What the host side holds once the element is in its Headpond. -/
theorem admittedIn_host : (admittedIn link f fs e s).host.done = s.host.done ∧
    (admittedIn link f fs e s).host.nextFlight = s.host.nextFlight + 1 ∧
    ∃ x, (admittedIn link f fs e s).host.flights = s.host.flights ++ [x] ∧ x.id = s.host.nextFlight ∧
      x.place = f.place ∧ x.sess = se.no ∧ x.tag = e.tag ∧ x.frame = f.frameCount ∧ x.op = e.op ∧ x.req = e.req ∧
      x.orphan = false ∧ x.phase = .queued := by
  obtain ⟨hflights, hdone, hnext⟩ := heard_host (link := link) (f := f) (fs := fs) (e := e) (s := s)
  have heq := admittedIn_eq (link := link) (fs := fs) hse h23
  generalize safetyHeard f.place e (unqueued link fs s) = v at *
  obtain ⟨hin, hindone, hinnext, -⟩ := entered_flights f.place (admittedOf f.place f.frameCount 0 e (heardSession e se) v) v
  have hw (u : State) (b : Bool) : (u.whenever b (State.onSession f.place fun x => { x with closing := true })).host.flights =
      u.host.flights ∧ (u.whenever b (State.onSession f.place fun x => { x with closing := true })).host.done = u.host.done ∧
      (u.whenever b (State.onSession f.place fun x => { x with closing := true })).host.nextFlight = u.host.nextFlight := by
    cases b <;> exact ⟨rfl, rfl, rfl⟩
  obtain ⟨hwf, hwd, hwn⟩ := hw (entered f.place (admittedOf f.place f.frameCount 0 e (heardSession e se) v) v)
    (decide (e.op = 2))
  rw [heq, hwf, hwd, hwn, hin, hindone, hinnext, hflights, hdone, hnext]
  exact ⟨rfl, rfl, _, rfl, hnext, rfl, heardSession_no, rfl, rfl, rfl, rfl, rfl, rfl⟩

theorem admittedIn_counts (hp : f.place < 2) : CountsUp (Obj.admittedCount f.place) s (admittedIn link f fs e s) := by
  have hn : noisy (Obj.admittedCount f.place) = false := by
    obtain h | h : f.place = 0 ∨ f.place = 1 := by omega
    · rw [h]
      decide
    · rw [h]
      decide
  have hv : (safetyHeard f.place e (unqueued link fs s)).get (Obj.admittedCount f.place) = s.get (Obj.admittedCount f.place) := by
    rw [← unqueued_get link fs s hn]
    unfold safetyHeard
    split
    · exact get_congr _ _ _ rfl rfl
    · rfl
  rw [CountsUp, ← hv, admittedIn_eq hse h23]
  generalize safetyHeard f.place e (unqueued link fs s) = v
  have hcount := entered_counts f.place (admittedOf f.place f.frameCount 0 e (heardSession e se) v) v hp
  generalize entered f.place (admittedOf f.place f.frameCount 0 e (heardSession e se) v) v = w at *
  rw [State.whenever]
  split
  · exact (get_congr w _ _ rfl rfl).trans hcount
  · exact hcount

theorem admittedIn_expects (hs : e.safety.isSome = true) : ((admittedIn link f fs e s).place f.place).session.map
    (·.safetyExpected) = some ((se.safetyExpected + 1) % 65536) := by
  have hv := heard_session (link := link) (fs := fs) (e := e) hse
  rw [admittedIn_eq hse h23]
  generalize safetyHeard f.place e (unqueued link fs s) = v at *
  obtain ⟨-, -, -, hplaces⟩ := entered_flights f.place (admittedOf f.place f.frameCount 0 e (heardSession e se) v) v
  rw [closing_expects (se := heardSession e se) (by rw [State.place, hplaces]; exact hv), heardSession, if_pos hs]

end

end

/-! A refusal entry. -/

section
variable {s u : State} {link : Bool} {f : RxFrame} {e : Elem} {se : Session} {st : Nat} {data : List Byte}
  (hse : (u.place f.place).session = some se) (hop : e.op ≠ 0x21)
include hse hop

/-- What a refusal entry of one element leaves, from the state `u` in which it is written. -/
theorem settled_refusal (hf : u.host.flights = s.host.flights) (hd : u.host.done = s.host.done) :
    (settleLanes (refuseElem f.place f.frameCount 0 e st data u)).host.flights = s.host.flights ∧
    ∃ d, (settleLanes (refuseElem f.place f.frameCount 0 e st data u)).host.done = s.host.done ++ [d] ∧ d.status = st ∧
      d.tag = e.tag ∧ d.op = e.op ∧ d.sess = se.no ∧ d.flight = none ∧ d.duplicate = (st == 0x0803) := by
  obtain ⟨-, hflights, hdone, -⟩ := settleLanes_keeps (p := 0) (refuseElem f.place f.frameCount 0 e st data u)
  rw [hflights, hdone, refuseElem_flights hse hop, refuseElem_done hse hop, hf, hd]
  exact ⟨rfl, _, rfl, rfl, rfl, rfl, rfl, rfl, rfl⟩

end

theorem refusedCount_quiet {p : Nat} (hp : p < 2) : noisy (Obj.refusedCount p) = false ∧ isConst (Obj.refusedCount p) = false := by
  obtain rfl | rfl : p = 0 ∨ p = 1 := by omega
  · decide
  · decide

/-- However a safety code fails, the session and the transactions of the state that counts it are known. -/
theorem checked_cases {u : State} {p st : Nat} {e : Elem} {se : Session} (hse : (u.place p).session = some se)
    (h : checkSafety p e u = (st, u.inc Obj.safetyFailCount) ∨
      checkSafety p e u = (st, (sequenceTaken p u).inc Obj.safetyFailCount)) :
    ∃ (v : State) (se' : Session), (v.place p).session = some se' ∧ v.host.flights = u.host.flights ∧ v.host.done = u.host.done ∧
      v.get Obj.safetyFailCount = u.get Obj.safetyFailCount ∧ checkSafety p e u = (st, v.inc Obj.safetyFailCount) := by
  obtain h | h := h
  · exact ⟨u, se, hse, rfl, rfl, rfl, h⟩
  · exact ⟨sequenceTaken p u, _, sequenceTaken_place hse, rfl, rfl, get_congr _ _ _ rfl rfl, h⟩

/-- Settles O30: the element of a frame enters its Headpond, or takes a refusal entry by the first check that it fails. -/
theorem elementsAreAdmittedOrRefused : Obligations.ElementsAreAdmittedOrRefused := by
  intro s link f fs b e se hl hs hq hroom hse hno hsplit hread h90 h23 h21 hfc
  have he := frameAdmission_eq hl hs hq hroom hse hno hsplit hread hfc
  have hm : Moves (caps [.objs, .places, .flights, .bursts, .pow, .net, .ingress, .fns]) s
      (settleLanes (takeElem f.place f.frameCount se.closing 0 e (unqueued link fs s))) :=
    settleLanes_moves (takeElem_moves (moveFill_moves (.ite (onHost_moves (.refl _)) (onHost_moves (.refl _)))))
  have hu : ((unqueued link fs s).place f.place).session = some se := by rw [unqueued_place, hse]
  have hflights : (unqueued link fs s).host.flights = s.host.flights :=
    (moveFill_host_flights ..).trans (by cases link <;> rfl)
  have hdone : (unqueued link fs s).host.done = s.host.done := (moveFill_host_done ..).trans (by cases link <;> rfl)
  refine ⟨fun hok hsafe => ?_, fun st hst hst0 => ?_, fun hok st hbad => ?_, fun hclosing ⟨x, hx, htag⟩ => ?_,
    fun hclosing htag hp hfull => ?_, fun hclosing => ?_⟩
  · rw [← unqueued_admitRefusal link fs] at hok
    rw [← unqueued_mustBeSafe link fs, ← unqueued_safetyExpected link fs] at hsafe
    simp only [← unqueued_aged link fs s] at hsafe
    have ht : takeElem f.place f.frameCount se.closing 0 e (unqueued link fs s) = admittedIn link f fs e s := by
      rw [takeElem_unrefused h90 hok, checkSafety_good hsafe]
      rfl
    rw [ht] at he hm
    obtain ⟨ho, hf, hd, hn, hplace⟩ := settleLanes_keeps (p := f.place) (admittedIn link f fs e s)
    obtain ⟨hid, hin, x, hx⟩ := admittedIn_host (link := link) (fs := fs) hse h23
    refine answers_answer _ he hm.variant hm.pending ⟨settled_ingress admittedIn_moves, hd.trans hid, hn.trans hin,
      fun hp => ?_, fun hsome _ => ?_, x, ?_⟩
    · exact (get_congr _ _ _ (settleLanes_moves (κ := caps [.fns]) (.refl _)).variant ho).trans
        (admittedIn_counts (link := link) (fs := fs) hse h23 hp)
    · rw [hplace]
      exact admittedIn_expects hse h23 hsome
    · rw [hf]
      exact hx
  · rw [← unqueued_admitRefusal link fs] at hst
    rw [takeElem_refused h90 hst hst0] at he hm
    obtain ⟨hf, hd⟩ := settled_refusal (st := st) (data := []) hu h21 hflights hdone
    refine answers_answer _ he hm.variant hm.pending ⟨hf, fun hp => ?_, hd⟩
    obtain ⟨hn, hc⟩ := refusedCount_quiet hp
    obtain ⟨ho, -⟩ := settleLanes_keeps (p := 0) (refuseElem f.place f.frameCount 0 e st [] (unqueued link fs s))
    refine (get_congr _ _ _ (settleLanes_moves (κ := caps [.fns]) (.refl _)).variant ho).trans
      ((refuseElem_counts hu h21 hp hn hc).trans ?_)
    rw [unqueued_get link fs s hn]
  · rw [← unqueued_admitRefusal link fs] at hok
    rw [← unqueued_mustBeSafe link fs, ← unqueued_safetyExpected link fs] at hbad
    simp only [← unqueued_aged link fs s] at hbad
    obtain ⟨hst0, hcheck⟩ := checkSafety_bad hbad
    obtain ⟨v, se', hv, hvf, hvd, hvg, hcheck⟩ := checked_cases hu hcheck
    have ht := takeElem_unrefused (frame := f.frameCount) h90 hok
    rw [hcheck, if_neg hst0] at ht
    rw [ht] at he hm
    generalize (if st = 0x0903 then toLe 2 ((unqueued link fs s).safetyExpected f.place) else []) = data at *
    have hw : ((v.inc Obj.safetyFailCount).place f.place).session = some se' := by
      rw [inc_eq, State.place, put_host]
      exact hv
    obtain ⟨hf, d, hd, hstd, htagd, -, -, hnone, -⟩ := settled_refusal (s := s) (st := st) (data := data) hw h21
      (by rw [inc_eq, put_host, hvf, hflights]) (by rw [inc_eq, put_host, hvd, hdone])
    refine answers_answer _ he hm.variant hm.pending ⟨?_, hf, d, hd, hstd, htagd, hnone⟩
    obtain ⟨ho, -⟩ := settleLanes_keeps (p := 0) (refuseElem f.place f.frameCount 0 e st data (v.inc Obj.safetyFailCount))
    refine (get_congr _ _ _ (settleLanes_moves (κ := caps [.fns]) (.refl _)).variant ho).trans ?_
    rw [refuseElem_get hw h21 (by decide) (by simp only [Obj.safetyFailCount, Obj.refusedCount]; omega), inc_eq,
      get_put_self _ _ _ rfl, hvg, unqueued_get link fs s (by decide)]
  · rw [State.admitRefusal, hclosing, if_neg (by simp), if_pos]
    exact List.any_eq_true.2 ⟨x, hx, by simpa using htag⟩
  · rw [State.admitRefusal, hclosing, if_neg (by simp), htag, if_neg (by simp), if_pos ⟨hp, hfull⟩]
  · rw [State.admitRefusal, hclosing]
    rfl

end Sys2Proof.Machine
end

section
/-! The end of a session -/
namespace Sys2Proof.Machine
open Sys2Proof Sys2Proof.Config

/-! Objects that the end of a session leaves alone. -/

section
variable {k : Nat} (hn : noisy k = false)
include hn

set_option Elab.async false in
theorem dropSubs_get (p : Nat) (s : State) : (dropSubs p s).get k = s.get k := by
  unfold dropSubs
  exact (moveFill_get _ 5 (by decide) _ hn).trans (get_congr _ _ _ rfl rfl)

theorem moveFills_get {qs : List Nat} (hq : ∀ q ∈ qs, q < 256) (s : State) : (each qs moveFill s).get k = s.get k :=
  each_mem_get fun q hm t => moveFill_get t q (hq q hm) k hn

theorem endWork_get {p : Nat} (hp : p < 8) (hd : k ≠ Obj.droppedTransactions p) (se : Session) (s : State) :
    (endWork p se s).get k = s.get k := by
  have hc : p < 2 → k ≠ Obj.discardedCompletions p := by
    rintro h rfl
    obtain rfl | rfl : p = 0 ∨ p = 1 := by omega
    · exact absurd hn (by decide)
    · exact absurd hn (by decide)
  unfold endWork
  dsimp only
  rw [moveFills_get hn (by simp only [List.mem_cons, List.not_mem_nil, or_false]; omega)]
  split
  · rename_i h
    rw [State.addTo, State.addTo, get_put_ne _ _ _ _ (hc h), get_put_ne _ _ _ _ hd]
    exact (get_congr _ _ _ rfl rfl).trans ((moveFill_get _ (13 + p) (by omega) _ hn).trans (get_congr _ _ _ rfl rfl))
  · exact (get_congr _ _ _ rfl rfl).trans ((moveFill_get _ (13 + p) (by omega) _ hn).trans (get_congr _ _ _ rfl rfl))

theorem releaseSema_get (n : Nat) (s : State) : (releaseSema n s).get k = s.get k := by
  unfold releaseSema
  split
  · exact get_congr _ _ _ rfl rfl
  · exact (completeAll_get _ _ _ _ hn).trans (get_congr _ _ _ rfl rfl)

theorem releaseAll_get (v : SemaState) (s : State) : (releaseAll v s).get k = s.get k :=
  each_mem_get fun n _ t => releaseSema_get hn n t

omit hn in
theorem demandMoved_get (hk : k < 0x600000) (c old : Nat) (s : State) : (demandMoved c old s).get k = s.get k := by
  have hne : k ≠ Obj.diagStatus c := by simp only [Obj.diagStatus]; omega
  have hfall (b : Nat) (u : State) : (diagFall c b u).get k = u.get k := get_put_ne _ _ _ _ hne
  have hclear (fw : Bool) (u : State) : (clearLatches c fw u).get k = u.get k := by
    unfold clearLatches
    dsimp only
    split <;> split <;> split <;> simp only [hfall]
  unfold demandMoved
  dsimp only
  split
  · split
    · exact hclear _ _
    · rfl
  · split
    · exact get_congr _ _ _ rfl rfl
    · rfl

omit hn in
theorem setOrphan_get (hk : k < 0x600000) (c : Nat) (b : Bool) (s : State) : (setOrphan c b s).get k = s.get k := by
  unfold setOrphan
  split
  · rfl
  · exact (demandMoved_get hk _ _ _).trans (get_congr _ _ _ rfl rfl)

omit hn in
theorem orphanHost_get (hk : k < 0x600000) (m : Nat) (s : State) : (orphanHost m s).get k = s.get k :=
  each_mem_get fun _ _ _ => each_mem_get fun c _ u => setOrphan_get hk c true u

theorem holdoffEnd_get (hk : k < 0x600000) {m : Nat} (hp : k ≠ placeKey m) (s : State) : (holdoffEnd m s).get k = s.get k := by
  unfold holdoffEnd
  rw [get_put_ne _ _ _ _ hp, orphanHost_get hk, releaseAll_get hn]

end

/-! A session's transactions once it has ended. -/

/-- Nothing of session `no` runs in its name or waits to be sent. -/
structure Ended (no : Nat) (s : State) : Prop where
  flights : ∀ f ∈ s.host.flights, f.sess = no → f.orphan = true ∧ f.phase ≠ .queued
  done : ∀ d ∈ s.host.done, d.sess ≠ no

section
variable {no : Nat} {s : State} (h : Ended no s)
include h

theorem Ended.congr {t : State} (hf : t.host.flights = s.host.flights) (hd : t.host.done = s.host.done) : Ended no t :=
  ⟨by rw [hf]; exact h.flights, by rw [hd]; exact h.done⟩

theorem Ended.completeWith (id st det : Nat) (data : List Byte) : Ended no (completeWith id st det data s) := by
  unfold Machine.completeWith
  split
  · exact h
  rename_i f hfound
  have hf : f ∈ s.host.flights := List.mem_of_find?_eq_some hfound
  split
  · exact h
  split
  · have hfew : Ended no (s.onHost fun x => { x with flights := x.flights.filter (·.id != id) }) :=
      ⟨fun g hg => h.flights g (of_mem_filter hg), h.done⟩
    dsimp only
    split
    · exact hfew.congr (by simp) (by simp)
    · exact hfew.congr (by simp) (by simp)
  · rename_i horphan
    have hown : f.sess ≠ no := fun hs => horphan (h.flights f hf hs).1
    refine Ended.congr (s := (s.onFlight id fun f => { f with phase := .done }).onHost fun x => { x with done := x.done ++
      [⟨f.place, f.sess, f.tag, f.op, st, det, data, f.frame, f.elem, false, f.safety.isSome, some id, s.now⟩] })
      ⟨fun g hg hs => ?_, fun d hd => ?_⟩ (by simp) (by simp)
    · obtain ⟨x, hx, hgx⟩ := List.mem_map.1 hg
      subst hgx
      split at hs
      · simp [h.flights x hx hs, *]
      · simp [h.flights x hx hs, *]
    · obtain hd | hd := List.mem_append.1 hd
      · exact h.done d hd
      · rw [List.mem_singleton.1 hd]
        exact hown

theorem Ended.completeAll (ids : List Nat) (st : Nat) : Ended no (completeAll ids st s) :=
  each_keeps (P := Ended no) (fun id _ _ ht => ht.completeWith id st 0 []) h

theorem Ended.put (k v : Nat) : Ended no (s.put k v) := h.congr (by rw [put_host]) (by rw [put_host])

theorem Ended.releaseSema (n : Nat) : Ended no (releaseSema n s) := by
  unfold Machine.releaseSema
  split
  · exact h.congr rfl rfl
  · refine Ended.completeAll ?_ _ _
    exact h.congr rfl rfl

theorem Ended.releaseAll (v : SemaState) : Ended no (releaseAll v s) :=
  each_keeps (P := Ended no) (fun n _ _ ht => ht.releaseSema n) h

theorem Ended.orphanHost (m : Nat) : Ended no (orphanHost m s) := by
  have hm : Moves (caps [.objs, .chans]) s (Machine.orphanHost m s) := orphanHost_moves (.refl s)
  have hf : ((Machine.orphanHost m s).host.flights, (Machine.orphanHost m s).host.done,
      (Machine.orphanHost m s).host.nextFlight) = (s.host.flights, s.host.done, s.host.nextFlight) :=
    hm.part .flights (by decide)
  simp only [Prod.mk.injEq] at hf
  obtain ⟨hflights, hdone, -⟩ := hf
  exact h.congr hflights hdone

theorem Ended.holdoffEnd (m : Nat) : Ended no (holdoffEnd m s) := ((h.releaseAll _).orphanHost m).put _ _

end

/-! Releasing semaphores. -/

/-- A transaction that no COMPLETE has answered yet, or that one has answered with status 0. -/
def Due (f : Flight) (s : State) : Prop := s.flight f.id = some f ∨ doneOf f 0 0 [] s.now ∈ s.host.done

section
variable {f : Flight} {s : State} (ho : f.orphan = false) (hp : f.phase ≠ .done)

theorem Due.congr {t : State} (h : Due f s) (hf : t.host.flights = s.host.flights) (hd : t.host.done = s.host.done)
    (hn : t.now = s.now) : Due f t := by
  rw [Due, State.flight, hf, hd, hn]
  exact h

include ho hp

theorem Due.complete (h : Due f s) (id : Nat) : Due f (complete id 0 s) := by
  obtain h | h := h
  · by_cases hid : f.id = id
    · subst hid
      refine .inr ?_
      rw [Machine.complete, completeWith_host_done f 0 0 [] s h hp ho, completeWith_now]
      exact List.mem_append_right _ (List.mem_singleton_self _)
    · exact .inl ((completeWith_flight hid 0 0 [] s).trans h)
  · refine .inr ?_
    rw [Machine.complete, completeWith_now]
    exact completeWith_done_mem h ..

theorem Due.completeAll (h : Due f s) (ids : List Nat) : Due f (completeAll ids 0 s) :=
  each_keeps (P := Due f) (fun id _ _ ht => ht.complete ho hp id) h

theorem Due.releaseSema (h : Due f s) (n : Nat) : Due f (releaseSema n s) := by
  unfold Machine.releaseSema
  split
  · exact h.congr rfl rfl rfl
  · refine Due.completeAll ho hp ?_ _
    exact h.congr rfl rfl rfl

/-- A transaction that is due and whose number is among those that complete has its COMPLETE. -/
theorem Due.completed (h : Due f s) {ids : List Nat} (hid : f.id ∈ ids) :
    doneOf f 0 0 [] s.now ∈ (Machine.completeAll ids 0 s).host.done := by
  obtain h | h := h
  · exact completeAll_done hid h ho hp 0
  · exact completeAll_done_mem h ids 0

end

section
variable {s : State} {n m : Nat}

theorem sema_set_ne (h : m ≠ n) (v : SemaState) (u : State) : (setSema n v u).sema m = u.sema m := by
  show (u.host.semas.set n v).getD m .free = _
  rw [List.getD_eq_getElem?_getD, List.getElem?_set_ne (Ne.symm h), ← List.getD_eq_getElem?_getD]
  rfl

theorem sema_set_self {u : State} (h : n < u.host.semas.length) (v : SemaState) : (setSema n v u).sema n = v := by
  show (u.host.semas.set n v).getD n .free = _
  rw [List.getD_eq_getElem?_getD, List.getElem?_set_self h]
  rfl

theorem lt_of_sema {u : State} (h : u.sema n ≠ .free) : n < u.host.semas.length := by
  refine Classical.byContradiction fun hlt => ?_
  exact h (by rw [State.sema, List.getD_eq_getElem?_getD, List.getElem?_eq_none (by omega)]; rfl)

/-- What the release of one semaphore leaves of the others and of the transactions that wait for them. -/
structure Beside (n : Nat) (s t : State) : Prop where
  semas : ∀ m, m ≠ n → t.sema m = s.sema m
  length : t.host.semas.length = s.host.semas.length
  waits : ∀ w, w.sema ≠ n → (w ∈ t.host.waits ↔ w ∈ s.host.waits)
  fewer : ∀ w ∈ t.host.waits, w ∈ s.host.waits
  now : t.now = s.now

theorem releaseSema_beside (n : Nat) (s : State) : Beside n s (releaseSema n s) := by
  unfold releaseSema
  split
  · exact ⟨fun m hm => sema_set_ne hm _ s, List.length_set .., fun _ _ => Iff.rfl, fun _ h => h, rfl⟩
  · dsimp only
    refine ⟨fun m hm => ?_, ?_, fun w hw => ?_, fun w hw => ?_, by simp [setSema]⟩
    · rw [State.sema, completeAll_host_semas]
      exact sema_set_ne hm _ _
    · rw [completeAll_host_semas]
      exact List.length_set ..
    · rw [completeAll_host_waits]
      refine List.mem_filter.trans (and_iff_left ?_)
      simp [hw]
    · rw [completeAll_host_waits] at hw
      exact of_mem_filter hw

/-- A semaphore that no master waits for becomes free. -/
theorem releaseSema_free (hlt : n < s.host.semas.length) (hw : ∀ w ∈ s.host.waits, w.sema ≠ n) :
    (releaseSema n s).sema n = .free := by
  have hnone (m : Nat) : (s.host.waits.any fun x => x.sema == n && x.place == m) = false := by
    rw [List.any_eq_false]
    intro w hmem
    simp [hw w hmem]
  rw [releaseSema, State.nextHolder]
  simp only [hnone]
  exact sema_set_self hlt _

/-- A semaphore that one master waits for goes to it. -/
theorem releaseSema_single {q : Nat} (hq : q < 2) (hlt : n < s.host.semas.length) {w : SemaWait} (hw : w ∈ s.host.waits)
    (hn : w.sema = n) (hall : ∀ x ∈ s.host.waits, x.sema = n → x.place = q) : (releaseSema n s).sema n = .held q ∧
      ∀ f, w.flight = f.id → Due f s → f.orphan = false → f.phase ≠ .done →
        doneOf f 0 0 [] s.now ∈ (releaseSema n s).host.done := by
  have hq' : s.nextHolder n = some q := by
    have hyes : (s.host.waits.any fun x => x.sema == n && x.place == q) = true :=
      List.any_eq_true.2 ⟨w, hw, by simp [hn, hall w hw hn]⟩
    have hno (m : Nat) (hm : m ≠ q) : (s.host.waits.any fun x => x.sema == n && x.place == m) = false := by
      rw [List.any_eq_false]
      intro x hx
      by_cases hxn : x.sema = n
      · simp [hall x hx hxn, Ne.symm hm]
      · simp [hxn]
    rw [State.nextHolder]
    obtain rfl | rfl : q = 0 ∨ q = 1 := by omega
    · simp only [hyes, hno 1 (by decide)]
    · simp only [hyes, hno 0 (by decide)]
  rw [releaseSema, hq']
  dsimp only
  refine ⟨?_, fun f hf hdue ho hp => ?_⟩
  · rw [State.sema, completeAll_host_semas]
    exact sema_set_self hlt _
  · refine Due.completed ho hp ?_ ?_
    · exact hdue.congr rfl rfl rfl
    · exact List.mem_map.2 ⟨w, List.mem_filter.2 ⟨hw, by simp [hn, hall w hw hn]⟩, hf⟩

end

section
variable {s : State} {n : Nat}

theorem Beside.refl (n : Nat) (s : State) : Beside n s s := ⟨fun _ _ => rfl, rfl, fun _ _ => Iff.rfl, fun _ h => h, rfl⟩

/-- What stands of semaphore `n` while others are released. -/
structure SemaKept (n : Nat) (s t : State) : Prop where
  sema : t.sema n = s.sema n
  length : t.host.semas.length = s.host.semas.length
  waits : ∀ w, w.sema = n → (w ∈ t.host.waits ↔ w ∈ s.host.waits)
  now : t.now = s.now
  due : ∀ f, f.orphan = false → f.phase ≠ .done → Due f s → Due f t
  done : ∀ d ∈ s.host.done, d ∈ t.host.done

theorem SemaKept.refl (n : Nat) (s : State) : SemaKept n s s :=
  ⟨rfl, rfl, fun _ _ => Iff.rfl, rfl, fun _ _ _ h => h, fun _ h => h⟩

theorem SemaKept.trans {s t u : State} (h : SemaKept n s t) (g : SemaKept n t u) : SemaKept n s u :=
  ⟨g.sema.trans h.sema, g.length.trans h.length, fun w hw => (g.waits w hw).trans (h.waits w hw), g.now.trans h.now,
    fun f ho hp hd => g.due f ho hp (h.due f ho hp hd), fun d hd => g.done d (h.done d hd)⟩

theorem releaseSema_done_mem {d : Done} (h : d ∈ s.host.done) (n : Nat) : d ∈ (releaseSema n s).host.done := by
  unfold releaseSema
  split
  · exact h
  · exact completeAll_done_mem (by exact h) _ _

theorem semaKept_releaseSema {m : Nat} (hm : n ≠ m) (s : State) : SemaKept n s (releaseSema m s) := by
  obtain ⟨hsemas, hlen, hwaits, -, hnow⟩ := releaseSema_beside m s
  exact ⟨hsemas n hm, hlen, fun w hw => hwaits w (by omega), hnow, fun f ho hp h => h.releaseSema ho hp m,
    fun d hd => releaseSema_done_mem hd m⟩

theorem semaKept_others {ms : List Nat} (h : n ∉ ms) (s : State) : SemaKept n s (each ms releaseSema s) :=
  each_keeps (P := SemaKept n s) (fun _ hm t ht => ht.trans (semaKept_releaseSema (fun he => h (by rw [he]; exact hm)) t)) (.refl n s)

/-- A semaphore of the released state has its turn between the others. -/
theorem releaseAll_turn {v : SemaState} (hn : n < 64) (hv : s.sema n = v) : ∃ u, SemaKept n s u ∧
    SemaKept n (releaseSema n u) (releaseAll v s) := by
  have hmem : n ∈ (List.range 64).filter fun n => decide (s.sema n = v) := by simp [hn, hv]
  have hnodup : ((List.range 64).filter fun n => decide (s.sema n = v)).Nodup := List.nodup_range.filter _
  obtain ⟨before, after, hsplit⟩ := List.append_of_mem hmem
  rw [hsplit] at hnodup
  rw [List.nodup_append, List.nodup_cons] at hnodup
  obtain ⟨-, ⟨hafter, -⟩, hapart⟩ := hnodup
  have hbefore : n ∉ before := fun h => hapart n h n List.mem_cons_self rfl
  refine ⟨each before releaseSema s, semaKept_others hbefore s, ?_⟩
  have hall : releaseAll v s = each after releaseSema (releaseSema n (each before releaseSema s)) := by
    rw [releaseAll, hsplit]
    exact List.foldl_append ..
  rw [hall]
  exact semaKept_others hafter _

theorem releaseAll_free {v : SemaState} (hn : n < 64) (hv : s.sema n = v) (hlt : n < s.host.semas.length)
    (hw : ∀ w ∈ s.host.waits, w.sema ≠ n) : (releaseAll v s).sema n = .free := by
  obtain ⟨u, hu, ht⟩ := releaseAll_turn hn hv
  rw [ht.sema]
  exact releaseSema_free (hu.length ▸ hlt) fun w hmem hn => hw w ((hu.waits w hn).1 hmem) hn

theorem releaseAll_single {v : SemaState} {q : Nat} {w : SemaWait} (hn : n < 64) (hv : s.sema n = v)
    (hlt : n < s.host.semas.length) (hq : q < 2) (hw : w ∈ s.host.waits) (hwn : w.sema = n)
    (hall : ∀ x ∈ s.host.waits, x.sema = n → x.place = q) : (releaseAll v s).sema n = .held q ∧
      ∀ f, w.flight = f.id → s.flight f.id = some f → f.orphan = false → f.phase ≠ .done →
        doneOf f 0 0 [] s.now ∈ (releaseAll v s).host.done := by
  obtain ⟨u, hu, ht⟩ := releaseAll_turn hn hv
  obtain ⟨hheld, hdone⟩ := releaseSema_single hq (hu.length ▸ hlt) ((hu.waits w hwn).2 hw) hwn
    fun x hx hxn => hall x ((hu.waits x hxn).1 hx) hxn
  refine ⟨ht.sema.trans hheld, fun f hwf hf ho hp => ht.done _ ?_⟩
  rw [← hu.now]
  exact hdone f hwf (hu.due f ho hp (.inl hf)) ho hp

end

/-! The end of a session. -/

theorem moveFills_host (qs : List Nat) (s : State) : (each qs moveFill s).host.flights = s.host.flights ∧
    (each qs moveFill s).host.done = s.host.done ∧ (each qs moveFill s).host.semas = s.host.semas :=
  each_keeps (P := fun t => t.host.flights = s.host.flights ∧ t.host.done = s.host.done ∧ t.host.semas = s.host.semas)
    (fun _ _ _ ⟨hf, hd, hs⟩ => ⟨(moveFill_host_flights ..).trans hf, (moveFill_host_done ..).trans hd,
      (moveFill_host_semas ..).trans hs⟩) ⟨rfl, rfl, rfl⟩

/-- The numbers of the session's transactions that no lane has started. -/
def unstartedIds (no : Nat) (s : State) : List Nat :=
  (s.host.flights.filter fun f => f.sess == no && s.unstarted f).map (·.id)

/-- What no lane has started is dropped, what runs is orphaned, what waits to be sent is discarded. -/
def workDropped (no : Nat) (s : State) : State := s.onHost fun h =>
  { h with
    waits := h.waits.filter fun w => !(unstartedIds no s).contains w.flight
    flights := (h.flights.filter fun f => !(unstartedIds no s).contains f.id &&
      !(f.sess == no && decide (f.phase = .done))).map fun f => if f.sess == no then { f with orphan := true } else f
    done := h.done.filter fun d => d.sess != no
    niIngress := h.niIngress.filter fun f => f.sess != no
    linkIngress := h.linkIngress.filter fun f => f.sess != no }

theorem workDropped_ended (no : Nat) (s : State) : Ended no (workDropped no s) := by
  refine ⟨fun g hg hs => ?_, fun d hd => by simpa using (List.mem_filter.1 hd).2⟩
  obtain ⟨f, hf, rfl⟩ := List.mem_map.1 hg
  obtain ⟨hf, hkeep⟩ := List.mem_filter.1 hf
  have hno : f.sess = no := by
    split at hs
    · exact hs
    · exact hs
  rw [if_pos (by simpa using hno)]
  refine ⟨rfl, fun hq => ?_⟩
  have hq : f.phase = .queued := hq
  have hid : f.id ∈ unstartedIds no s :=
    List.mem_map.2 ⟨f, List.mem_filter.2 ⟨hf, by simp [hno, State.unstarted, Flight.isQueued, hq]⟩, rfl⟩
  simp [hid] at hkeep

theorem endWork_eq (p : Nat) (se : Session) (s : State) : ∃ (u : State) (n m : Nat),
    u.host.semas = s.host.semas ∧
    endWork p se s = each [min p 2, 3, 4, 8, 9] moveFill (if p < 2 then
      ((workDropped se.no u).addTo (Obj.droppedTransactions p) n).addTo (Obj.discardedCompletions p) m
      else workDropped se.no u) := by
  refine ⟨moveFill (13 + p) (s.onHost fun h => if p < 2 then { h with bursts := h.bursts.set p Burst.closed } else h), _, _,
    (moveFill_host_semas ..).trans ?_, rfl⟩
  by_cases h : p < 2
  · simp [h, State.onHost]
  · simp [h, State.onHost]

theorem endWork_ended (p : Nat) (se : Session) (s : State) : Ended se.no (endWork p se s) := by
  obtain ⟨u, n, m, -, heq⟩ := endWork_eq p se s
  have hw := workDropped_ended se.no u
  obtain ⟨hf, hd, -⟩ := moveFills_host [min p 2, 3, 4, 8, 9] (if p < 2 then
      ((workDropped se.no u).addTo (Obj.droppedTransactions p) n).addTo (Obj.discardedCompletions p) m
      else workDropped se.no u)
  rw [heq]
  exact Ended.congr (of_ite (P := Ended se.no) ((hw.put _ _).put _ _) hw) hf hd

theorem endWork_semas (p : Nat) (se : Session) (s : State) : (endWork p se s).host.semas = s.host.semas := by
  obtain ⟨u, n, m, hu, heq⟩ := endWork_eq p se s
  rw [heq, (moveFills_host _ _).2.2, ← hu]
  split
  · rw [State.addTo, State.addTo, put_host, put_host]
    rfl
  · rfl

theorem endWork_places (p : Nat) (se : Session) (s : State) : (endWork p se s).host.places = s.host.places := by
  have hm : Moves (caps [.objs, .flights, .bursts, .ingress, .waits]) s (endWork p se s) := endWork_moves (.refl s)
  exact hm.part .places (by decide)

/-- The state in which the session has left its place. -/
def sessionOut (p : Nat) (se : Session) (s : State) : State :=
  let s := endWork p se (dropSubs p s)
  let closing := (s.host.flights.filter fun f => f.sess == se.no && f.op == 2).map (·.id)
  completeAll closing 0 (clearPlace p (s.onPlace p fun q => { q with session := none }))

/-- The numbers of a place that a session's end moves. -/
def outKeys (p : Nat) : List Nat := [Obj.droppedTransactions p, transportKey p, peerKey p, sessionIdKey p]

section
variable {s : State} {p : Nat} {se : Session}

theorem sessionOut_ended (p : Nat) (se : Session) (s : State) : Ended se.no (sessionOut p se s) := by
  have h := endWork_ended p se (dropSubs p s)
  unfold sessionOut
  generalize endWork p se (dropSubs p s) = u at h ⊢
  have hout : Ended se.no (u.onPlace p fun q => { q with session := none }) := h.congr rfl rfl
  exact Ended.completeAll (((hout.put _ _).put _ _).put _ _) _ _

theorem sessionOut_get (hp : p < 8) {k : Nat} (hn : noisy k = false) (hk : k ∉ outKeys p) (se : Session) (s : State) :
    (sessionOut p se s).get k = s.get k := by
  simp only [outKeys, List.mem_cons, List.not_mem_nil, or_false, not_or] at hk
  obtain ⟨hd, ht, ha, hi⟩ := hk
  have hu := (endWork_get hn hp hd se _).trans (dropSubs_get hn p s)
  unfold sessionOut
  generalize endWork p se (dropSubs p s) = u at hu ⊢
  dsimp only
  rw [← hu, completeAll_get _ _ _ _ hn, clearPlace, get_put_ne _ _ _ _ hi, get_put_ne _ _ _ _ ha, get_put_ne _ _ _ _ ht]
  exact get_congr _ _ _ rfl rfl

theorem placeKeys_quiet (p : Fin 8) : ∀ k ∈ [transportKey p, peerKey p, sessionIdKey p, placeKey p],
    noisy k = false ∧ isConst k = false ∧ k < 0x600000 ∧ fitTo k 0 = 0 := by
  decide +revert

theorem placeKeys_ne (p : Fin 8) : placeKey p ∉ outKeys p ∧ peerKey p ≠ transportKey p ∧ sessionIdKey p ≠ transportKey p ∧
    sessionIdKey p ≠ peerKey p ∧ placeKey p ≠ transportKey p ∧ placeKey p ≠ peerKey p ∧ placeKey p ≠ sessionIdKey p := by
  decide +revert

theorem sessionOut_shown (p : Fin 8) (se : Session) (s : State) : (sessionOut p se s).get (transportKey p) = 0 ∧
    (sessionOut p se s).get (peerKey p) = 0 ∧ (sessionOut p se s).get (sessionIdKey p) = 0 := by
  have hq := placeKeys_quiet p
  simp only [List.forall_mem_cons] at hq
  obtain ⟨⟨htn, htc, -, htf⟩, ⟨han, hac, -, haf⟩, ⟨hin, hic, -, hif⟩, -⟩ := hq
  obtain ⟨-, hat, hit, hia, -⟩ := placeKeys_ne p
  unfold sessionOut
  dsimp only
  rw [completeAll_get _ _ _ _ htn, completeAll_get _ _ _ _ han, completeAll_get _ _ _ _ hin, clearPlace]
  rw [get_put_self _ _ _ hic, get_put_ne _ _ _ _ hia.symm, get_put_self _ _ _ hac, get_put_ne _ _ _ _ hit.symm,
    get_put_ne _ _ _ _ hat.symm, get_put_self _ _ _ htc]
  exact ⟨htf, haf, hif⟩

theorem sessionOut_places (p : Nat) (se : Session) (s : State) : (sessionOut p se s).host.places =
    (dropSubs p s).host.places.modify p fun q => { q with session := none } := by
  unfold sessionOut
  dsimp only
  rw [completeAll_host_places, clearPlace, put_host, put_host, put_host]
  show ((endWork p se (dropSubs p s)).host.places.modify p _) = _
  rw [endWork_places]

theorem dropSubs_places (p : Nat) (s : State) : (dropSubs p s).host.places =
    s.host.places.modify p fun q => { q with session := q.session.map fun x => { x with subs := [] } } := by
  unfold dropSubs
  dsimp only
  rw [moveFill_host_places]
  rfl

theorem sessionOut_places_getElem (se : Session) {q : Place} (h : s.host.places[p]? = some q) :
    (sessionOut p se s).host.places[p]? = some { q with session := none } := by
  rw [sessionOut_places, dropSubs_places]
  simp [h]

theorem sessionOut_semas (p : Nat) (se : Session) (s : State) : (sessionOut p se s).host.semas = s.host.semas := by
  have hd : (dropSubs p s).host.semas = s.host.semas := (dropSubs_moves (κ := caps [.objs, .places]) (.refl s)).part .semas
    (by decide)
  have hu := (endWork_semas p se (dropSubs p s)).trans hd
  unfold sessionOut
  generalize endWork p se (dropSubs p s) = u at hu ⊢
  dsimp only
  rw [completeAll_host_semas, clearPlace, put_host, put_host, put_host, ← hu]
  rfl

theorem sessionOut_now (p : Nat) (se : Session) (s : State) : (sessionOut p se s).now = s.now := by
  have hm : Moves (caps allParts) s (sessionOut p se s) :=
    completeAll_moves (put_moves (put_moves (put_moves (onPlace_moves (endWork_moves (dropSubs_moves (.refl s)))))))
  exact hm.now

end

/-! The end of a master's session. -/

/-- The cause of the end of a master's session is kept and the loss counted. -/
def lossShown (p cause : Nat) (s : State) : State :=
  let s := (s.put (Obj.lastEndCause p) cause).inc (Obj.lostCount p)
  s.onPow fun q => { q with idleSince := some s.now }

/-- The slot holds its semaphores off. -/
def heldOff (p : Nat) (s : State) : State :=
  let s := remarkSemas (.held p) (.holdoff p) s
  (s.put (placeKey p) 3).onPlace p fun q => { q with holdSince := s.now }

section
variable {s : State} {p cause : Nat} {se : Session} (hb : s.bound p = some se)
include hb

theorem endSession_observer (h : 2 ≤ p) : endSession p cause s = (sessionOut p se s).put (placeKey p) 0 := by
  rw [endSession, hb]
  exact if_pos h

theorem endSession_master (h : p < 2) (h1 : cause ≠ 1) (h4 : cause ≠ 4) : endSession p cause s =
    if (heldOff p (lossShown p cause (sessionOut p se s))).get Obj.semaHoldOff = 0
    then holdoffEnd p (heldOff p (lossShown p cause (sessionOut p se s)))
    else heldOff p (lossShown p cause (sessionOut p se s)) := by
  rw [endSession, hb]
  dsimp only
  rw [if_neg (by omega), if_neg h1, if_neg h4, if_neg h1]
  rfl

end

section
variable {s : State} {q cause : Nat}

theorem masterKeys (q : Fin 2) : isConst (Obj.lastEndCause q) = false ∧ isConst (Obj.lostCount q) = false ∧
    noisy (Obj.lastEndCause q) = false ∧ noisy (Obj.lostCount q) = false ∧ Obj.lastEndCause q ∉ outKeys q ∧
    Obj.lostCount q ∉ outKeys q ∧ Obj.lostCount q ≠ Obj.lastEndCause q ∧ placeKey q ≠ Obj.lastEndCause q ∧
    placeKey q ≠ Obj.lostCount q ∧ fitTo (placeKey q) 3 = 3 ∧ Obj.lastEndCause q < 0x600000 ∧ Obj.lostCount q < 0x600000 := by
  decide +revert

theorem lossKeys_ne (q : Fin 2) : ∀ k ∈ [transportKey q, peerKey q, sessionIdKey q, placeKey q, Obj.semaHoldOff],
    k ≠ Obj.lastEndCause q ∧ k ≠ Obj.lostCount q := by
  decide +revert

theorem semaHoldOff_quiet (p : Fin 8) : Obj.semaHoldOff ∉ outKeys p ∧ Obj.semaHoldOff ≠ placeKey p := by
  decide +revert

theorem lastEndCause_fits (q : Fin 2) (h : cause < 256) : fitTo (Obj.lastEndCause q) cause = cause := by
  have hs : sizeOf (Obj.lastEndCause q) = 1 := by decide +revert
  rw [fitTo, hs, if_neg (by decide)]
  exact Nat.mod_eq_of_lt (by omega)

end

section
variable {s : State} {p : Fin 8} {cause : Nat} {se : Session}

/-- What the end of a session leaves in every place. -/
theorem lossShown_get {k : Nat} (hc : k ≠ Obj.lastEndCause p) (hl : k ≠ Obj.lostCount p) (cause : Nat) (s : State) :
    (lossShown p cause s).get k = s.get k := by
  have h : ((s.put (Obj.lastEndCause p) cause).inc (Obj.lostCount p)).get k = s.get k := by
    rw [inc_eq, get_put_ne _ _ _ _ hl, get_put_ne _ _ _ _ hc]
  exact (get_congr _ _ _ rfl rfl).trans h

theorem heldOff_get {k : Nat} (hk : k ≠ placeKey p) (s : State) : (heldOff p s).get k = s.get k := by
  have h : ((remarkSemas (.held p) (.holdoff p) s).put (placeKey p) 3).get k = s.get k := by
    rw [get_put_ne _ _ _ _ hk]
    exact get_congr _ _ _ rfl rfl
  exact (get_congr _ _ _ rfl rfl).trans h

theorem heldOff_placeNo (hc : isConst (placeKey p) = false) (h3 : fitTo (placeKey p) 3 = 3) (s : State) :
    (heldOff p s).placeNo p = 3 := by
  have h : ((remarkSemas (.held p) (.holdoff p) s).put (placeKey p) 3).get (placeKey p) = 3 :=
    (get_put_self _ _ _ hc).trans h3
  exact (get_congr _ _ _ rfl rfl).trans h

theorem heldOff_ended {no : Nat} {s : State} (h : Ended no s) (p cause : Nat) : Ended no (heldOff p (lossShown p cause s)) := by
  have h1 : Ended no (lossShown p cause s) := Ended.congr ((h.put _ _).put _ _) rfl rfl
  have h2 : Ended no (remarkSemas (.held p) (.holdoff p) (lossShown p cause s)) := h1.congr rfl rfl
  exact Ended.congr (h2.put _ _) rfl rfl

theorem heldOff_place {q : Place} {s : State} {p : Nat} (h : s.host.places[p]? = some q) (cause : Nat) :
    (heldOff p (lossShown p cause s)).place p = { q with holdSince := s.now } := by
  have hl : (lossShown p cause s).host.places = s.host.places := by
    show ((s.put (Obj.lastEndCause p) cause).inc (Obj.lostCount p)).host.places = _
    rw [inc_eq, put_host, put_host]
  have hn : (lossShown p cause s).now = s.now := by
    show ((s.put (Obj.lastEndCause p) cause).inc (Obj.lostCount p)).now = _
    rw [inc_eq, put_now, put_now]
  rw [heldOff, place_modify (q := q)]
  · show { q with holdSince := (lossShown p cause s).now } = _
    rw [hn]
  · rw [put_host]
    show (lossShown p cause s).host.places[p]? = _
    rw [hl, h]

theorem heldOff_sema {s : State} {p n : Nat} (h : s.sema n = .held p) (cause : Nat) :
    (heldOff p (lossShown p cause s)).sema n = .holdoff p := by
  have hl : (lossShown p cause s).host.semas = s.host.semas := by
    show ((s.put (Obj.lastEndCause p) cause).inc (Obj.lostCount p)).host.semas = _
    rw [inc_eq, put_host, put_host]
  have hlt : n < s.host.semas.length := lt_of_sema (by rw [h]; simp)
  have hget : s.host.semas[n]? = some (.held p) := by
    rw [State.sema, List.getD_eq_getElem?_getD, List.getElem?_eq_getElem hlt] at h
    rw [List.getElem?_eq_getElem hlt]
    exact congrArg some h
  have hmap : (heldOff p (lossShown p cause s)).host.semas =
      s.host.semas.map fun x => if x = .held p then .holdoff p else x := by
    rw [heldOff]
    show (((remarkSemas (.held p) (.holdoff p) (lossShown p cause s)).put (placeKey p) 3).host.semas) = _
    rw [put_host]
    show (lossShown p cause s).host.semas.map _ = _
    rw [hl]
  rw [State.sema, hmap, List.getD_eq_getElem?_getD, List.getElem?_map, hget]
  simp

/-- What the end of a master's session leaves before SemaHoldOff is looked at. -/
structure Parted (p cause : Nat) (se : Session) (s t : State) : Prop where
  gone : (t.place p).session = none
  since : (t.place p).holdSince = s.now
  shown : t.get (transportKey p) = 0 ∧ t.get (peerKey p) = 0 ∧ t.get (sessionIdKey p) = 0
  ended : Ended se.no t
  cause : t.get (Obj.lastEndCause p) = cause
  lost : CountsUp (Obj.lostCount p) s t
  placeNo : t.placeNo p = 3
  semas : ∀ n, s.sema n = .held p → t.sema n = .holdoff p
  hold : t.get Obj.semaHoldOff = s.get Obj.semaHoldOff

theorem lossShown_counts (p : Fin 2) (h : cause < 256) (s : State) : (lossShown p cause s).get (Obj.lastEndCause p) = cause ∧
    CountsUp (Obj.lostCount p) s (lossShown p cause s) := by
  obtain ⟨hcc, hlc, -, -, -, -, hne, -⟩ := masterKeys p
  constructor
  · refine (get_congr _ _ _ rfl rfl).trans ((get_put_ne _ _ _ _ hne.symm).trans ?_)
    rw [get_put_self _ _ _ hcc, lastEndCause_fits p h]
  · rw [CountsUp, ← get_put_ne (Obj.lastEndCause p) cause (Obj.lostCount p) s hne]
    exact (get_congr _ _ _ rfl rfl).trans (get_put_self _ _ _ hlc)

theorem parted (hlt : p.val < 2) (hb : s.bound p = some se) (hc : cause < 256) :
    Parted p cause se s (heldOff p (lossShown p cause (sessionOut p se s))) := by
  have hplace := sessionOut_places_getElem se (place_of_session (session_of_bound hb))
  have hended := sessionOut_ended p se s
  have hshown := sessionOut_shown p se s
  have hsemas := sessionOut_semas p se s
  have hnow := sessionOut_now p se s
  have hget {k : Nat} (hn : noisy k = false) (hk : k ∉ outKeys p) : (sessionOut p se s).get k = s.get k :=
    sessionOut_get p.isLt hn hk se s
  generalize sessionOut p se s = c at *
  have hq := placeKeys_quiet p
  simp only [List.forall_mem_cons] at hq
  obtain ⟨-, -, -, ⟨-, hpc, -, -⟩, -⟩ := hq
  obtain ⟨-, -, -, -, hpt, hpa, hpi⟩ := placeKeys_ne p
  obtain ⟨-, -, -, hln, -, hlo, -, hpe, hpl, hp3, -, -⟩ := masterKeys ⟨p.val, hlt⟩
  obtain ⟨hcause, hlost⟩ := lossShown_counts ⟨p.val, hlt⟩ hc c
  dsimp only at hln hlo hpe hpl hp3 hcause hlost
  have hkeep {k : Nat} (hk : k ∈ [transportKey p, peerKey p, sessionIdKey p, placeKey p, Obj.semaHoldOff])
      (hp : k ≠ placeKey p) : (heldOff p (lossShown p cause c)).get k = c.get k := by
    obtain ⟨hkc, hkl⟩ := lossKeys_ne ⟨p.val, hlt⟩ k hk
    exact (heldOff_get hp _).trans (lossShown_get hkc hkl _ _)
  have hg := heldOff_place hplace cause
  obtain ⟨hso, hsp⟩ := semaHoldOff_quiet p
  refine ⟨by rw [hg], by rw [hg]; exact hnow, ⟨?_, ?_, ?_⟩, heldOff_ended hended p cause, ?_, ?_, heldOff_placeNo hpc hp3 _,
    fun n hn => heldOff_sema (by rw [State.sema, hsemas]; exact hn) cause, ?_⟩
  · rw [hkeep (by simp) hpt.symm, hshown.1]
  · rw [hkeep (by simp) hpa.symm, hshown.2.1]
  · rw [hkeep (by simp) hpi.symm, hshown.2.2]
  · rw [heldOff_get hpe.symm, hcause]
  · rw [CountsUp, heldOff_get hpl.symm, ← hget hln hlo]
    exact hlost
  · rw [hkeep (by simp) hsp, hget (by decide) hso]

theorem holdoffEnd_place (m q : Nat) (s : State) : (holdoffEnd m s).place q = s.place q := by
  have hm : Moves (caps [.objs, .semas, .waits, .flights, .hostRest, .chans]) s (holdoffEnd m s) := holdoffEnd_moves (.refl s)
  have hp : (holdoffEnd m s).host.places = s.host.places := hm.part .places (by decide)
  rw [State.place, hp]
  rfl

theorem endSession_ends_master (hlt : p.val < 2) (hb : s.bound p = some se) (h1 : cause ≠ 1) (h4 : cause ≠ 4)
    (hc : cause < 256) : Ends p cause se s (endSession p cause s) := by
  have hparted := parted hlt hb hc
  rw [endSession_master hb hlt h1 h4, hparted.hold]
  generalize heldOff p (lossShown p cause (sessionOut p se s)) = g at *
  obtain ⟨hgone, hsince, ⟨ht, ha, hi⟩, hended, hcause, hlost, hno, hsemas, -⟩ := hparted
  have hq := placeKeys_quiet p
  simp only [List.forall_mem_cons] at hq
  obtain ⟨⟨htn, -, htl, -⟩, ⟨han, -, hal, -⟩, ⟨hin, -, hil, -⟩, -⟩ := hq
  obtain ⟨-, -, -, -, hpt, hpa, hpi⟩ := placeKeys_ne p
  obtain ⟨-, -, hcn, hln, -, -, -, hpe, hpl, -, hcl, hll⟩ := masterKeys ⟨p.val, hlt⟩
  have hobs : ¬ 2 ≤ p.val := by omega
  by_cases h0 : s.get Obj.semaHoldOff = 0
  · rw [if_pos h0]
    refine ⟨?_, ⟨?_, ?_, ?_⟩, (hended.holdoffEnd p).flights, (hended.holdoffEnd p).done, fun h => absurd h hobs,
      fun _ => ⟨?_, ?_⟩, fun _ h => absurd h0 h⟩
    · rw [holdoffEnd_place, hgone]
    · rw [holdoffEnd_get htn htl hpt.symm, ht]
    · rw [holdoffEnd_get han hal hpa.symm, ha]
    · rw [holdoffEnd_get hin hil hpi.symm, hi]
    · rw [holdoffEnd_get hcn hcl hpe.symm, hcause]
    · rw [CountsUp, holdoffEnd_get hln hll hpl.symm]
      exact hlost
  · rw [if_neg h0]
    exact ⟨hgone, ⟨ht, ha, hi⟩, hended.flights, hended.done, fun h => absurd h hobs, fun _ => ⟨hcause, hlost⟩,
      fun _ _ => ⟨hno, hsince, hsemas⟩⟩

theorem endSession_ends_observer (h2 : 2 ≤ p.val) (hb : s.bound p = some se) : Ends p cause se s (endSession p cause s) := by
  have hplace := sessionOut_places_getElem se (place_of_session (session_of_bound hb))
  have hended := sessionOut_ended p se s
  obtain ⟨ht, ha, hi⟩ := sessionOut_shown p se s
  have hq := placeKeys_quiet p
  simp only [List.forall_mem_cons] at hq
  obtain ⟨-, -, -, ⟨hpn, hpc, hpl, hpf⟩, -⟩ := hq
  obtain ⟨hpo, -, -, -, hpt, hpa, hpi⟩ := placeKeys_ne p
  have hmaster : ¬ p.val < 2 := by omega
  rw [endSession_observer hb h2]
  refine ⟨?_, ⟨?_, ?_, ?_⟩, (hended.put _ _).flights, (hended.put _ _).done, fun _ => ?_, fun h => absurd h hmaster,
    fun h => absurd h hmaster⟩
  · rw [State.place, put_host, List.getD_eq_getElem?_getD, hplace]
    rfl
  · rw [get_put_ne _ _ _ _ hpt.symm, ht]
  · rw [get_put_ne _ _ _ _ hpa.symm, ha]
  · rw [get_put_ne _ _ _ _ hpi.symm, hi]
  · rw [State.placeNo, get_put_self _ _ _ hpc, hpf]

/-- A session that ends for a cause other than CLOSE and a reset of its slot (R219). -/
theorem endSession_ends (hb : s.bound p = some se) (h1 : cause ≠ 1) (h4 : cause ≠ 4) (hc : cause < 256) :
    Ends p cause se s (endSession p cause s) := by
  by_cases h2 : 2 ≤ p.val
  · exact endSession_ends_observer h2 hb
  · exact endSession_ends_master (by omega) hb h1 h4 hc

end

end Sys2Proof.Machine
end

section
/-! Sessions and their timers -/
namespace Sys2Proof.Machine
open Sys2Proof Sys2Proof.Config

set_option Elab.async false in
theorem flight_id {s : State} {id : Nat} {f : Flight} (h : s.flight id = some f) : f.id = id := by
  simpa using List.find?_some h

section
variable {s : State} (hl : s.live = true)
include hl

/-! Lock-outs and challenges. -/

theorem authLockoutExpiry_past (role : Fin 3) {g : AuthGate} {u : Nat} (hg : s.host.gates[role.val]? = some g)
    (hu : g.lockedUntil = some u) (h : u ≤ s.now) : Answers (.authLockoutExpiry role) s fun t => t.objs = s.objs ∧
      OneMoves role.val { g with lockedUntil := none } s.host.gates t.host.gates := by
  have hopen : s.lockedOut role = false := by
    rw [State.lockedOut, List.getD_eq_getElem?_getD, hg]
    simp [hu, h]
  have he : exec (.authLockoutExpiry role) s = s.answer (s.onHost fun h =>
      { h with gates := h.gates.modify role fun g => { g with lockedUntil := none } }) := by
    show execAuthLockoutExpiry role s = _
    rw [execAuthLockoutExpiry, answerLive_live hl, hopen]
    rfl
  refine answers_answer _ he rfl rfl ⟨rfl, ?_, fun j hj => ?_⟩
  · show (s.host.gates.modify _ _)[role.val]? = _
    rw [List.getElem?_modify, hg]
    simp
  · show (s.host.gates.modify _ _)[j]? = _
    rw [List.getElem?_modify]
    simp [Ne.symm hj]

theorem authLockoutExpiry_early (role : Fin 3) {g : AuthGate} {u : Nat} (hg : s.host.gates[role.val]? = some g)
    (hu : g.lockedUntil = some u) (h : s.now < u) : Answers (.authLockoutExpiry role) s fun t => t = s := by
  have hlocked : s.lockedOut role = true := by
    rw [State.lockedOut, List.getD_eq_getElem?_getD, hg]
    simp [hu, h]
  refine answers_answer s ?_ rfl rfl rfl
  show execAuthLockoutExpiry role s = _
  rw [execAuthLockoutExpiry, answerLive_live hl, hlocked]
  rfl

theorem challengeTimeout_past (p : Fin 8) {c : Challenge} (hp : s.placeNo p = 1) (hc : (s.place p).challenge = some c)
    (h : c.at_ + sec 1 ≤ s.now) : Answers (.challengeTimeout p) s fun t =>
      t.placeNo p = 0 ∧ OnlyMoves [placeKey p] s t ∧ t.host = s.host := by
  have he : exec (.challengeTimeout p) s = s.answer (s.put (placeKey p) 0) := by
    show execChallengeTimeout p s = _
    rw [execChallengeTimeout, answerLive_live hl, hc]
    simp [hp, h]
  have hq := placeKeys_quiet p
  simp only [List.forall_mem_cons] at hq
  obtain ⟨-, -, -, ⟨-, hpc, -, hpf⟩, -⟩ := hq
  have hm : Moves (caps [.objs]) s (s.put (placeKey p) 0) := put_moves (.refl s)
  refine answers_answer _ he hm.variant hm.pending ⟨?_, onlyMoves_put _ _ s, put_host ..⟩
  rw [State.placeNo, get_put_self _ _ _ hpc, hpf]

/-! Sessions. -/

omit hl in
theorem answers_endSession {c : Instr} {p : Fin 8} {cause : Nat} {se : Session} (hb : s.bound p = some se) (h1 : cause ≠ 1)
    (h4 : cause ≠ 4) (hc : cause < 256) (he : exec c s = s.answer (endSession p cause s)) :
    Answers c s fun t => Ends p cause se s t := by
  have hm : Moves (caps allParts) s (endSession p cause s) := endSession_moves (.refl s)
  exact answers_answer _ he hm.variant hm.pending (endSession_ends hb h1 h4 hc)

theorem sessionTimeout_past (p : Fin 8) {se : Session} (hb : s.bound p = some se)
    (h : se.timerAt + ms (s.get Obj.sessionTimeout) ≤ s.now) : Answers (.sessionTimeout p) s fun t => Ends p 2 se s t := by
  refine answers_endSession hb (by decide) (by decide) (by decide) ?_
  show execSessionTimeout p s = _
  rw [execSessionTimeout, answerLive_live hl, hb]
  dsimp only
  rw [if_pos h]

theorem hostLinkReset_session {p : Nat} {se : Session} (hp : s.linkPlace = some p) (hb : s.bound p = some se) :
    Answers .hostLinkReset s fun t => Ends p 5 se s t := by
  have hlt : p < 8 := List.mem_range.1 (List.mem_of_find?_eq_some hp)
  refine answers_endSession (p := ⟨p, hlt⟩) hb (by decide) (by decide) (by decide) ?_
  show execHostLinkReset s = _
  rw [execHostLinkReset, answerLive_live hl, hp]

theorem hostLinkReset_none (hp : s.linkPlace = none) : Answers .hostLinkReset s fun t => t = s := by
  refine answers_answer s ?_ rfl rfl rfl
  show execHostLinkReset s = _
  rw [execHostLinkReset, answerLive_live hl, hp]

/-! Semaphores. -/

omit hl in
/-- The end of a hold-off leaves what the release of its semaphores does. -/
theorem holdoffEnd_host (m : Nat) (s : State) : (holdoffEnd m s).host.semas = (releaseAll (.holdoff m) s).host.semas ∧
    (holdoffEnd m s).host.done = (releaseAll (.holdoff m) s).host.done := by
  have hm : Moves (caps [.objs, .chans]) (releaseAll (.holdoff m) s) (holdoffEnd m s) := put_moves (orphanHost_moves (.refl _))
  have hf : ((holdoffEnd m s).host.flights, (holdoffEnd m s).host.done, (holdoffEnd m s).host.nextFlight) =
      ((releaseAll (.holdoff m) s).host.flights, (releaseAll (.holdoff m) s).host.done,
        (releaseAll (.holdoff m) s).host.nextFlight) := hm.part .flights (by decide)
  simp only [Prod.mk.injEq] at hf
  obtain ⟨-, hdone, -⟩ := hf
  exact ⟨hm.part .semas (by decide), hdone⟩

theorem semaHoldoffExpiry_past (m : Fin 2) (hp : s.placeNo m = 3)
    (h : (s.place m).holdSince + ms (s.get Obj.semaHoldOff) ≤ s.now) : Answers (.semaHoldoffExpiry m) s fun t =>
      t.placeNo m = 0 ∧ ∀ n, n < 64 → s.sema n = .holdoff m →
        ((∀ w ∈ s.host.waits, w.sema ≠ n) → t.sema n = .free) ∧
        (∀ q w, q < 2 → w ∈ s.host.waits → w.sema = n → (∀ x ∈ s.host.waits, x.sema = n → x.place = q) →
          t.sema n = .held q ∧
          ∀ f, s.flight w.flight = some f → f.orphan = false → f.phase ≠ .done → doneOf f 0 0 [] s.now ∈ t.host.done) := by
  have he : exec (.semaHoldoffExpiry m) s = s.answer (holdoffEnd m s) := by
    show execSemaHoldoffExpiry m s = _
    rw [execSemaHoldoffExpiry, answerLive_live hl]
    simp [hp, h]
  have hm : Moves (caps allParts) s (holdoffEnd m s) := holdoffEnd_moves (.refl s)
  obtain ⟨hsemas, hdone⟩ := holdoffEnd_host m s
  refine answers_answer _ he hm.variant hm.pending ⟨?_, fun n hn hv => ?_⟩
  · have hq := placeKeys_quiet ⟨m.val, by omega⟩
    simp only [List.forall_mem_cons] at hq
    obtain ⟨-, -, -, ⟨-, hpc, -, hpf⟩, -⟩ := hq
    exact (get_put_self _ _ _ hpc).trans hpf
  · have hlt : n < s.host.semas.length := lt_of_sema (by rw [hv]; simp)
    rw [State.sema, hsemas, hdone]
    refine ⟨fun hfree => releaseAll_free hn hv hlt hfree, fun q w hq hw hwn hall => ?_⟩
    obtain ⟨hheld, hdue⟩ := releaseAll_single hn hv hlt hq hw hwn hall
    refine ⟨hheld, fun f hf ho hph => ?_⟩
    have hid : f.id = w.flight := flight_id hf
    exact hdue f hid.symm (by rw [hid]; exact hf) ho hph

/-- The request for a semaphore waits no longer. -/
def waitLate (m : Fin 2) (n : Fin 64) (now : Nat) (x : SemaWait) : Bool :=
  x.sema == n.val && x.place == m.val && decide (x.until_ ≤ now)

theorem semaWaitExpiry_past (m : Fin 2) (n : Fin 64) {w : SemaWait} {f : Flight} (hw : w ∈ s.host.waits) (hn : w.sema = n)
    (hp : w.place = m) (hu : w.until_ ≤ s.now) (hf : s.flight w.flight = some f) (ho : f.orphan = false)
    (hph : f.phase ≠ .done) : Answers (.semaWaitExpiry m n) s fun t =>
      doneOf f 0x0402 0 [] s.now ∈ t.host.done ∧ w ∉ t.host.waits ∧ t.host.semas = s.host.semas := by
  have he : exec (.semaWaitExpiry m n) s = s.answer (completeAll ((s.host.waits.filter (waitLate m n s.now)).map (·.flight))
      0x0402 (s.onHost fun h => { h with waits := h.waits.filter (!waitLate m n s.now ·) })) := by
    show execSemaWaitExpiry m n s = _
    rw [execSemaWaitExpiry, answerLive_live hl]
    rfl
  have hlate : waitLate m n s.now w = true := by simp [waitLate, hn, hp, hu]
  have hid : f.id = w.flight := flight_id hf
  have hm : Moves (caps allParts) s (completeAll ((s.host.waits.filter (waitLate m n s.now)).map (·.flight))
      0x0402 (s.onHost fun h => { h with waits := h.waits.filter (!waitLate m n s.now ·) })) :=
    completeAll_moves (onHost_moves (.refl s))
  refine answers_answer _ he hm.variant hm.pending ⟨?_, ?_, ?_⟩
  · refine completeAll_done (s := s.onHost fun h => { h with waits := h.waits.filter (!waitLate m n s.now ·) }) ?_ ?_ ho hph 0x0402
    · exact List.mem_map.2 ⟨w, List.mem_filter.2 ⟨hw, hlate⟩, hid.symm⟩
    · rw [hid]
      exact hf
  · rw [completeAll_host_waits]
    intro hmem
    have := (List.mem_filter.1 hmem).2
    rw [hlate] at this
    exact absurd this (by decide)
  · exact completeAll_host_semas ..

end

/-- Settles O28: each clock of opening and closing ends what it times once its time has passed. -/
theorem sessionsAndTheirTimersEnd : Obligations.SessionsAndTheirTimersEnd := by
  intro s hl
  exact ⟨fun role _ _ => authLockoutExpiry_past hl role, fun role _ _ => authLockoutExpiry_early hl role,
    fun p _ => challengeTimeout_past hl p, fun p _ => sessionTimeout_past hl p, fun _ _ => hostLinkReset_session hl,
    hostLinkReset_none hl, semaHoldoffExpiry_past hl, fun m n _ _ => semaWaitExpiry_past hl m n⟩

end Sys2Proof.Machine
end

section
/-! CLOSE -/
namespace Sys2Proof.Machine
open Sys2Proof Sys2Proof.Config

set_option Elab.async false in
/-- A session of a place far beyond the eight that a node has. -/
def strayNo : Nat := 519

def straySession : Session :=
  { no := 1, sid := 1, transport := .link, peer := linkPeer, sk := [], keyless := true, rxCount := 1, txCount := 0,
    timerAt := 0, closing := true, endOn := none, safetyExpected := 1, safetySent := 1, subs := [], echo := [],
    cursorLog := 0, cursorSeq := 0, windowSize := 0 }

def strayClose : Flight :=
  { id := 1, place := strayNo, sess := 1, tag := 0, frame := 1, elem := 0, op := 2, req := .close, raw := [], safety := none,
    fns := [0], cls := 0, orphan := false, phase := .lane 0, since := 0, link := true, sk := [], poison := none }

/-- A node whose list of places is 520 long; a CLOSE runs for the last of them. -/
def strayPlaces : State :=
  { State.reset with
    rst := { State.reset.rst with inReset := false }
    pow := { State.reset.pow with logicUp := true }
    host := { State.reset.host with
      places := List.replicate strayNo Place.empty ++ [{ Place.empty with session := some straySession }]
      flights := [strayClose], nextFlight := 2 } }

/-- The number that would show the state of place 519 is that of a CONST object, the size 2 of a queue. -/
theorem placeNo_stray (t : State) : t.placeNo strayNo = 2 := by
  have hc : isConst (placeKey strayNo) = true := by decide +kernel
  rw [State.placeNo, State.get, if_pos hc]
  obtain ⟨cap, letter⟩ := t.variant
  cases cap <;> cases letter <;> decide +kernel

/-- Refutes O36: nothing bounds the place, and the number that place 519 would have in the dictionary is CONST, so no CLOSE
gives it the value 0. -/
theorem not_closeReleasesWhatItsSessionHeld : ¬ Obligations.CloseReleasesWhatItsSessionHeld := by
  intro h
  have hcarries : Carries 0 strayClose strayPlaces :=
    ⟨by decide +kernel, by decide +kernel, by decide +kernel, rfl, by decide +kernel⟩
  have hfresh : Fresh strayPlaces := ⟨List.pairwise_singleton .., fun f hf => by
    rw [List.mem_singleton.1 hf]
    decide⟩
  obtain ⟨-, hsettled⟩ := h strayPlaces 0 strayClose straySession hcarries rfl rfl (by decide +kernel) rfl hfresh
  obtain ⟨t, -, -, -, -, hgone, -⟩ := hsettled (fun x hx _ => by
    rw [List.mem_singleton.1 hx]
    exact ⟨Nat.le_refl _, fun _ => rfl⟩) rfl
  exact absurd ((placeNo_stray t).symm.trans (hgone (by decide))) (by decide)

end Sys2Proof.Machine
end

section
/-! Notices without weirs -/
namespace Sys2Proof.Machine
open Sys2Proof Sys2Proof.Config

/-! Without WEIR subscriptions a moved fill leaves the notice pool. -/

set_option Elab.async false in
/-- The places and the notice pool of `t` are those of `s`. -/
structure PoolKept (s t : State) : Prop where
  places : t.host.places = s.host.places
  pool : t.host.pool = s.host.pool

section
variable {s t u : State}

theorem PoolKept.refl (s : State) : PoolKept s s := ⟨rfl, rfl⟩

theorem PoolKept.trans (h : PoolKept s t) (g : PoolKept t u) : PoolKept s u := ⟨g.places.trans h.places, g.pool.trans h.pool⟩

theorem PoolKept.noWeir (h : PoolKept s t) (hw : NoWeirNotices s) : NoWeirNotices t := by
  intro p x hx
  rw [State.place, h.places] at hx
  exact hw p x hx

theorem poolKept_put (k v : Nat) (s : State) : PoolKept s (s.put k v) := ⟨by rw [put_host], by rw [put_host]⟩

theorem poolKept_onWeir (q : Nat) (f : Weir → Weir) (s : State) : PoolKept s (s.onWeir q f) := ⟨rfl, rfl⟩

/-- The same, wherever no session receives WEIR notices. -/
def Quiet (s t : State) : Prop := NoWeirNotices s → PoolKept s t

theorem Quiet.trans (h : Quiet s t) (g : Quiet t u) : Quiet s u := fun hw => (h hw).trans (g ((h hw).noWeir hw))

theorem PoolKept.quiet (h : PoolKept s t) : Quiet s t := fun _ => h

theorem quiet_weirNotice (q : Nat) (high : Bool) (s : State) : Quiet s (weirNotice q high s) := by
  intro hw
  unfold weirNotice raiseOn
  refine each_keeps (P := PoolKept s) (fun p _ u hu => ?_) ⟨rfl, rfl⟩
  split
  · exact hu
  · rename_i se hse
    have hnone : (se.subs.find? fun b => b.fn == 0 && b.mask.testBit 6) = none := by
      rw [List.find?_eq_none]
      intro b hb
      simp [hu.noWeir hw p se hse b hb]
    rw [hnone]
    exact hu

theorem quiet_crossingNotice (q : Nat) (high : Bool) (s : State) : Quiet s (crossingNotice q high s) := by
  unfold crossingNotice
  refine of_ite (P := Quiet s) ?_ (PoolKept.refl s).quiet
  dsimp only
  refine of_ite (P := Quiet s) ?_ ?_
  · exact ((poolKept_put _ _ s).trans (poolKept_onWeir ..)).quiet
  · exact (quiet_weirNotice q high s).trans (poolKept_onWeir ..).quiet

theorem quiet_crossing (q : Nat) (high : Bool) (n : Nat) (s : State) : Quiet s (crossing q high n s) := by
  have hpeak (u : State) : PoolKept u (if u.get (Obj.peakFill q) < n then u.put (Obj.peakFill q) n else u) :=
    of_ite (P := PoolKept u) (poolKept_put _ _ u) (.refl u)
  have hcount : PoolKept s ((s.setBit (Obj.weirStatus q) (if high then 2 else 3) true).inc
      (if high then Obj.highCrossCount q else Obj.lowCrossCount q)) := (poolKept_put _ _ s).trans (poolKept_put _ _ _)
  have hweir (u : State) : Quiet u (crossingNotice q high (u.onWeir q fun w => { w with armed := !high })) :=
    (poolKept_onWeir q _ u).quiet.trans (quiet_crossingNotice q high _)
  exact (hcount.trans (hpeak _)).quiet.trans (hweir _)

theorem quiet_crossOf (q : Nat) (s : State) : Quiet s (crossOf q s) := by
  unfold crossOf
  have hlast : PoolKept s (s.onWeir q fun w => { w with last := s.fill q }) := poolKept_onWeir ..
  exact of_ite (P := Quiet s) (hlast.quiet.trans (quiet_crossing q true _ _))
    (of_ite (P := Quiet s) (hlast.quiet.trans (quiet_crossing q false _ _)) hlast.quiet)

theorem quiet_moveFill (q : Nat) (s : State) : Quiet s (moveFill q s) := by
  unfold moveFill
  exact of_ite (P := Quiet s) (quiet_crossOf q s)
    ((quiet_crossOf q s).trans ((quiet_crossOf 5 _).trans (quiet_crossOf 5 _)))

/-- Without WEIR subscriptions a moved fill leaves the notice pool as it was. -/
theorem moveFill_pool (hw : NoWeirNotices s) (q : Nat) : (moveFill q s).host.pool = s.host.pool :=
  (quiet_moveFill q s hw).pool

end

end Sys2Proof.Machine
end

section
/-! Bursts and acknowledgements -/
namespace Sys2Proof.Machine
open Sys2Proof Sys2Proof.Config

/-! BURST_ABORT. -/

set_option Elab.async false in
/-- The element of a BURST_ABORT. -/
def abortElem (tag : Nat) : Elem := ⟨0x23, tag % 512, .burstAbort, [], none⟩

/-- Its transaction, which waits for the burst to close. -/
def abortOf (m frame elem tag : Nat) (se : Session) (s : State) : Flight :=
  { admittedOf m frame elem (abortElem tag) se s with phase := .held }

/-- The burst of place `p` is closed, the segments that wait behind it complete, and so does transaction `id`. -/
def burstDropped (p id : Nat) (s : State) : State :=
  let ids := ((upToBegin (s.queueOf_ p)).filter fun f => f.op == 0x21 || f.op == 0x22).map (·.id)
  let s := moveFill (13 + p) (s.onHost fun h => { h with bursts := h.bursts.set p Burst.closed })
  complete id 0 (moveFill p (completeAll ids 0x0606 s))

/-- The numbers of the segments that wait behind the burst of place `p`. -/
def segmentIds (p : Nat) (s : State) : List Nat :=
  ((upToBegin (s.queueOf_ p)).filter fun f => f.op == 0x21 || f.op == 0x22).map (·.id)

/-- The state with the burst closed. -/
def burstShut (p : Nat) (s : State) : State :=
  moveFill (13 + p) (s.onHost fun h => { h with bursts := h.bursts.set p Burst.closed })

section
variable {s : State} {p id : Nat}

theorem burstDropped_eq (p id : Nat) (s : State) : burstDropped p id s =
    complete id 0 (moveFill p (completeAll (segmentIds p s) 0x0606 (burstShut p s))) := rfl

theorem burstDropped_moves (p id : Nat) (s : State) : Moves (caps [.objs, .flights, .bursts]) s (burstDropped p id s) :=
  complete_moves (moveFill_moves (completeAll_moves (moveFill_moves (onHost_moves (.refl _)))))

theorem burstDropped_burst (h : (s.burst p).isOpen = true) (id : Nat) : (burstDropped p id s).burst p = Burst.closed := by
  have hlt : p < s.host.bursts.length := by
    refine Classical.byContradiction fun hge => ?_
    rw [State.burst, List.getD_eq_getElem?_getD, List.getElem?_eq_none (by omega)] at h
    exact absurd h (by decide)
  have hbursts : (burstDropped p id s).host.bursts = s.host.bursts.set p Burst.closed := by
    rw [burstDropped_eq, complete, completeWith_host_bursts, moveFill_host_bursts, completeAll_host_bursts, burstShut,
      moveFill_host_bursts]
    rfl
  rw [State.burst, hbursts, List.getD_eq_getElem?_getD, List.getElem?_set_self hlt]
  rfl

theorem burstDropped_get {k : Nat} (hp : p < 2) (hn : noisy k = false) : (burstDropped p id s).get k = s.get k := by
  rw [burstDropped_eq, complete, completeWith_get _ _ _ _ _ _ hn, moveFill_get _ p (by omega) _ hn, completeAll_get _ _ _ _ hn,
    burstShut, moveFill_get _ (13 + p) (by omega) _ hn]
  exact get_congr _ _ _ rfl rfl

theorem burstShut_flight (j : Nat) : (burstShut p s).flight j = s.flight j := by
  rw [State.flight, burstShut, moveFill_host_flights]
  rfl

theorem burstShut_now : (burstShut p s).now = s.now := moveFill_now ..

/-- A segment behind the burst completes with 16#0606. -/
theorem burstDropped_segment {f : Flight} (hid : f.id ∈ segmentIds p s) (hf : s.flight f.id = some f) (ho : f.orphan = false)
    (hph : f.phase ≠ .done) : doneOf f 0x0606 0 [] s.now ∈ (burstDropped p id s).host.done := by
  rw [burstDropped_eq]
  refine completeWith_done_mem ?_ _ _ _ _
  rw [moveFill_host_done, ← burstShut_now (p := p)]
  exact completeAll_done hid ((burstShut_flight _).trans hf) ho hph _

theorem completeAll_flight {j : Nat} {ids : List Nat} (hj : j ∉ ids) (st : Nat) (s : State) :
    (completeAll ids st s).flight j = s.flight j :=
  each_keeps (P := fun t => t.flight j = s.flight j)
    (fun _ hid _ ht => (completeWith_flight (fun he => hj (by rw [he]; exact hid)) st 0 [] _).trans ht) rfl

/-- The transaction that asked for it completes, too. -/
theorem burstDropped_asker {x : Flight} (hid : x.id ∉ segmentIds p s) (hx : s.flight x.id = some x) (ho : x.orphan = false)
    (hph : x.phase ≠ .done) : doneOf x 0 0 [] s.now ∈ (burstDropped p x.id s).host.done := by
  have hnow : (moveFill p (completeAll (segmentIds p s) 0x0606 (burstShut p s))).now = s.now := by
    rw [moveFill_now, completeAll_now, burstShut_now]
  rw [burstDropped_eq, complete, completeWith_host_done x 0 0 [] _ _ hph ho, hnow]
  · exact List.mem_append_right _ (List.mem_singleton_self _)
  · rw [State.flight, moveFill_host_flights]
    exact (completeAll_flight hid _ _).trans ((burstShut_flight _).trans hx)

end

section
variable {s : State} {m : Fin 2} {se : Session} {tag frame elem : Nat}

theorem burstAbort_eq (hl : s.live = true) (hs : s.served = true) (hb : s.bound m = some se)
    (hok : s.admitRefusal m se.closing (abortElem tag) = 0) : exec (.burstAbort m tag frame elem) s = s.answer
      (settleLanes (abortBurst m s.host.nextFlight (entered m (abortOf m frame elem tag se s) s))) := by
  have hse : (s.place m).session = some se := session_of_bound hb
  have hsafe : checkSafety m (abortElem tag) s = (0, s) := rfl
  have htake : takeElem m frame se.closing elem (abortElem tag) s = admitElem m frame elem (abortElem tag) s := by
    rw [takeElem, if_neg (show ¬ (abortElem tag).op = 0x90 by simp [abortElem]), hok, hsafe] <;> rfl
  have hadmit : admitElem m frame elem (abortElem tag) s =
      abortBurst m s.host.nextFlight (entered m (abortOf m frame elem tag se s) s) := by
    rw [admitElem, hse]
    simp only [entered, State.whenever, decide_eq_true_eq]
    rfl
  rw [← hadmit, ← htake]
  show execBurstAbort m tag frame elem s = _
  rw [execBurstAbort, answerServed_live hl hs, hb]
  rfl

/-- The state with the BURST_ABORT entered. -/
theorem entered_abort (hfresh : Fresh s) {v : State} (hv : entered m (abortOf m frame elem tag se s) s = v) :
    v.host.flights = s.host.flights ++ [abortOf m frame elem tag se s] ∧ v.host.done = s.host.done ∧
      v.host.bursts = s.host.bursts ∧ v.now = s.now ∧ v.queueOf_ m = s.queueOf_ m ∧
      v.flight s.host.nextFlight = some (abortOf m frame elem tag se s) ∧ CountsUp (Obj.admittedCount m) s v := by
  subst hv
  obtain ⟨hf, hd, -, -⟩ := entered_flights m (abortOf m frame elem tag se s) s
  have hm : Moves (caps [.objs, .pow, .net]) (s.onHost fun h =>
      { h with nextFlight := h.nextFlight + 1, flights := h.flights ++ [abortOf m frame elem tag se s] })
      (entered m (abortOf m frame elem tag se s) s) :=
    moveFill_moves (moveFill_moves (dozeExit_moves (.ite (put_moves (.refl _)) (.refl _))))
  have hbursts : (entered m (abortOf m frame elem tag se s) s).host.bursts = s.host.bursts := hm.part .bursts (by decide)
  have hnow : (entered m (abortOf m frame elem tag se s) s).now = s.now := hm.now
  refine ⟨hf, hd, hbursts, hnow, ?_, ?_, entered_counts _ _ _ m.isLt⟩
  · rw [State.queueOf_, hf, List.filter_append]
    simp [State.queueOf_, abortOf, Flight.isQueued]
  · rw [State.flight, hf, List.find?_append, List.find?_eq_none.2 fun f hf => ?_]
    · simp [abortOf, admittedOf]
    · have := hfresh.2 f hf
      simp
      omega

theorem entered_moves (s : State) : Moves (caps allParts) s (entered m (abortOf m frame elem tag se s) s) :=
  moveFill_moves (moveFill_moves (dozeExit_moves (.ite (put_moves (admitFlight_moves (.refl _) rfl))
    (admitFlight_moves (.refl _) rfl))))

/-- Without an open burst the BURST_ABORT is told so. -/
theorem burstAbort_closed (hl : s.live = true) (hs : s.served = true) (hb : s.bound m = some se) (hfresh : Fresh s)
    (hok : s.admitRefusal m se.closing (abortElem tag) = 0) (hopen : (s.burst m).isOpen = false) :
    Answers (.burstAbort m tag frame elem) s fun t => t.host.bursts = s.host.bursts ∧
      ∃ d, t.host.done = s.host.done ++ [d] ∧ d.flight = some s.host.nextFlight ∧ d.tag = tag % 512 ∧ d.status = 0x0601 := by
  have he := burstAbort_eq (frame := frame) (elem := elem) hl hs hb hok
  have hm := entered_moves (se := se) (m := m) (frame := frame) (elem := elem) (tag := tag) s
  obtain ⟨v, hv⟩ : ∃ v, entered m (abortOf m frame elem tag se s) s = v := ⟨_, rfl⟩
  obtain ⟨-, hd, hbursts, hnow, -, hf, -⟩ := entered_abort hfresh hv
  rw [hv] at he hm
  have habort : abortBurst m s.host.nextFlight v = complete s.host.nextFlight 0x0601 v := by
    have hclosed : (v.burst m).isOpen = false := by
      rw [State.burst, hbursts]
      exact hopen
    rw [abortBurst, if_neg (by omega), hclosed]
    rfl
  rw [habort] at he
  obtain ⟨ho, -, hdone, -⟩ := settleLanes_keeps (p := 0) (complete s.host.nextFlight 0x0601 v)
  have hms : Moves (caps allParts) s (settleLanes (complete s.host.nextFlight 0x0601 v)) := settleLanes_moves (complete_moves hm)
  have hmb : Moves (caps [.fns, .objs, .flights]) v (settleLanes (complete s.host.nextFlight 0x0601 v)) :=
    settleLanes_moves (complete_moves (.refl v))
  refine answers_answer _ he hms.variant hms.pending ⟨(hmb.part .bursts (by decide)).trans hbursts,
    doneOf (abortOf m frame elem tag se s) 0x0601 0 [] v.now, ?_, rfl, rfl, rfl⟩
  rw [hdone, ← hd]
  exact completeWith_host_done (abortOf m frame elem tag se s) 0x0601 0 [] v hf (by simp [abortOf]) rfl

theorem admittedCount_quiet (m : Fin 2) : noisy (Obj.admittedCount m) = false := by
  decide +revert

/-- An open burst closes, and the segments that wait behind it complete with 16#0606. -/
theorem burstAbort_open (hl : s.live = true) (hs : s.served = true) (hb : s.bound m = some se) (hfresh : Fresh s)
    (hok : s.admitRefusal m se.closing (abortElem tag) = 0) (hopen : (s.burst m).isOpen = true) :
    Answers (.burstAbort m tag frame elem) s fun t => t.burst m = Burst.closed ∧ CountsUp (Obj.admittedCount m) s t ∧
      (∃ d ∈ t.host.done, d.flight = some s.host.nextFlight ∧ d.tag = tag % 512 ∧ d.status = 0) ∧
      ∀ f ∈ upToBegin (s.queueOf_ m), f.op = 0x21 ∨ f.op = 0x22 → s.flight f.id = some f → f.orphan = false →
        doneOf f 0x0606 0 [] s.now ∈ t.host.done := by
  have he := burstAbort_eq (frame := frame) (elem := elem) hl hs hb hok
  have hm := entered_moves (se := se) (m := m) (frame := frame) (elem := elem) (tag := tag) s
  obtain ⟨v, hv⟩ : ∃ v, entered m (abortOf m frame elem tag se s) s = v := ⟨_, rfl⟩
  obtain ⟨hflights, hd, hbursts, hnow, hq, hf, hcount⟩ := entered_abort hfresh hv
  rw [hv] at he hm
  have habort : abortBurst m s.host.nextFlight v = burstDropped m s.host.nextFlight v := by
    have hclosed : (v.burst m).isOpen = true := by
      rw [State.burst, hbursts]
      exact hopen
    rw [abortBurst, if_neg (by omega), hclosed]
    rfl
  rw [habort] at he
  obtain ⟨ho, -, hdone, -⟩ := settleLanes_keeps (p := 0) (burstDropped m s.host.nextFlight v)
  have hms : Moves (caps allParts) s (settleLanes (burstDropped m s.host.nextFlight v)) :=
    settleLanes_moves (hm.of (by decide) (burstDropped_moves _ _ _))
  have hmb : Moves (caps [.fns]) (burstDropped m s.host.nextFlight v) (settleLanes (burstDropped m s.host.nextFlight v)) :=
    settleLanes_moves (.refl _)
  have hvopen : (v.burst m).isOpen = true := by
    rw [State.burst, hbursts]
    exact hopen
  have hids : segmentIds m v = segmentIds m s := by rw [segmentIds, segmentIds, hq]
  refine answers_answer _ he hms.variant hms.pending ⟨?_, ?_, ?_, fun f hmem hop hknown horphan => ?_⟩
  · have hsame : (settleLanes (burstDropped m s.host.nextFlight v)).host.bursts =
        (burstDropped m s.host.nextFlight v).host.bursts := hmb.part .bursts (by decide)
    rw [State.burst, hsame]
    exact burstDropped_burst hvopen _
  · have hn := admittedCount_quiet m
    exact (get_congr _ _ _ hmb.variant ho).trans ((burstDropped_get m.isLt hn).trans hcount)
  · have hout : s.host.nextFlight ∉ segmentIds m v := by
      rw [hids]
      intro hmem
      obtain ⟨f, hf, hid⟩ := List.mem_map.1 hmem
      have hin : f ∈ s.host.flights :=
        of_mem_filter ((List.takeWhile_prefix _).subset (of_mem_filter hf))
      exact absurd (hfresh.2 f hin) (by omega)
    refine ⟨doneOf (abortOf m frame elem tag se s) 0 0 [] v.now, ?_, rfl, rfl, rfl⟩
    rw [hdone]
    exact burstDropped_asker (x := abortOf m frame elem tag se s) hout hf rfl (by simp [abortOf])
  · have hqueue : f ∈ s.queueOf_ m := (List.takeWhile_prefix _).subset hmem
    obtain ⟨hin, hqueued⟩ := List.mem_filter.1 hqueue
    have hphase : f.phase ≠ .done := by
      intro hph
      simp [Flight.isQueued, hph] at hqueued
    have hseg : f.id ∈ segmentIds m v := by
      rw [hids]
      exact List.mem_map.2 ⟨f, List.mem_filter.2 ⟨hmem, by simpa using hop⟩, rfl⟩
    have hvf : v.flight f.id = some f := by
      rw [State.flight, hflights, List.find?_append]
      rw [State.flight] at hknown
      rw [hknown]
      rfl
    rw [hdone, ← hnow]
    exact burstDropped_segment hseg hvf horphan hphase

end

/-! Idle bursts and acknowledged notices. -/

section
variable {s : State} {m : Fin 2} {se : Session}

theorem burstIdleExpiry_past (hl : s.live = true) (hopen : (s.burst m).isOpen = true)
    (h : (s.burst m).lastAt + ms (s.get Obj.burstIdleTime) ≤ s.now) : Answers (.burstIdleExpiry m) s fun t =>
      t.burst m = Burst.closed ∧ CountsUp Obj.burstExpiredCount s t ∧ t.host.done = s.host.done := by
  have he : exec (.burstIdleExpiry m) s = s.answer ((onBurst m (fun _ => Burst.closed) s).inc Obj.burstExpiredCount) := by
    show execBurstIdleExpiry m s = _
    rw [execBurstIdleExpiry, answerLive_live hl]
    dsimp only
    rw [hopen, if_pos (by simpa using h)]
  have hm : Moves (caps allParts) s ((onBurst m (fun _ => Burst.closed) s).inc Obj.burstExpiredCount) :=
    put_moves (moveFill_moves (onHost_moves (.refl s)))
  have hlt : m.val < s.host.bursts.length := by
    refine Classical.byContradiction fun hge => ?_
    rw [State.burst, List.getD_eq_getElem?_getD, List.getElem?_eq_none (by omega)] at hopen
    exact absurd hopen (by decide)
  refine answers_answer _ he hm.variant hm.pending ⟨?_, ?_, ?_⟩
  · rw [State.burst, inc_eq, put_host, onBurst, moveFill_host_bursts]
    show (s.host.bursts.modify _ _).getD _ _ = _
    rw [List.getD_eq_getElem?_getD, List.getElem?_modify, List.getElem?_eq_getElem hlt]
    simp
  · have hget : (onBurst m (fun _ => Burst.closed) s).get Obj.burstExpiredCount = s.get Obj.burstExpiredCount := by
      rw [onBurst, moveFill_get _ (13 + m) (by omega) _ rfl]
      exact get_congr _ _ _ rfl rfl
    rw [CountsUp, inc_eq, get_put_self _ _ _ rfl, hget]
  · rw [inc_eq, put_host, onBurst, moveFill_host_done]
    rfl

theorem noticeAck_eq (hl : s.live = true) (hs : s.served = true) (hb : s.bound m = some se) (hopen : se.closing = false)
    (e : Nat × Nat × Nat) : exec (.noticeAck ⟨m.val, by omega⟩ [e]) s = s.answer (ackEntry m e s) := by
  show execNoticeAck ⟨m.val, by omega⟩ [e] s = _
  rw [execNoticeAck, answerServed_live hl hs]
  dsimp only
  rw [hb]
  dsimp only
  rw [hopen]
  rfl

/-- The pool's only notice, which was sent, leaves it when it is acknowledged. -/
theorem ackEntry_only {p sub src ack : Nat} {n : Notice} (hw : NoWeirNotices s) (hpool : s.host.pool = [n]) (hp : n.place = p)
    (hsub : n.subId = sub) (hsrc : n.source = src) (hacked : n.acked = true) (hsent : n.sentAt.isSome = true)
    (hack : ack = n.seq) (hlast : ack = seqOf src s.host.seqs) : (ackEntry p (sub, src, ack) s).host.pool = [] ∧
      Moves (caps allParts) s (ackEntry p (sub, src, ack) s) := by
  have hnone : n.sentAt.isNone = false := by rw [← Option.not_isSome, hsent]; rfl
  have heq : ackEntry p (sub, src, ack) s = moveFill 5 (s.onHost fun h => { h with pool := [] }) := by
    unfold ackEntry
    rw [hpool]
    simp [hp, hsub, hsrc, hacked, hnone, ← hlast, ← hack, State.onHost]
    rw [hpool]
    simp [hp, hsub, hsrc, hacked, ← hack]
  rw [heq]
  exact ⟨moveFill_pool (by exact hw) 5, moveFill_moves (onHost_moves (.refl s))⟩

/-- An entry that no notice answers is counted. -/
theorem ackEntry_unknown {p sub src ack : Nat} (h : ∀ n ∈ s.host.pool, n.place = p → n.subId = sub → n.source ≠ src) :
    ackEntry p (sub, src, ack) s = s.inc Obj.noticeAckErrors := by
  have hnone : (s.host.pool.find? fun n => n.place == p && n.subId == sub && n.source == src && n.acked) = none := by
    rw [List.find?_eq_none]
    intro n hn
    simp only [Bool.and_eq_true, beq_iff_eq, not_and]
    exact fun ⟨⟨hp, hsub⟩, hsrc⟩ _ => h n hn hp hsub hsrc
  unfold ackEntry
  dsimp only
  rw [hnone]

end

/-- Settles O31: a burst closes with its segments by an abort and by idleness, and NOTICE_ACK takes a sent notice. -/
theorem burstsCloseAndNoticesAreAcknowledged : Obligations.BurstsCloseAndNoticesAreAcknowledged := by
  intro s m se hl hs hb hfresh
  refine ⟨fun tag frame elem hok hopen => burstAbort_open hl hs hb hfresh hok hopen,
    fun tag frame elem hok hopen => burstAbort_closed hl hs hb hfresh hok hopen, burstIdleExpiry_past hl,
    fun sub src ack n hse hw hpool hp hsub hsrc hacked hsent hack hlast _ => ?_, fun sub src ack hse hnone => ?_⟩
  · obtain ⟨hempty, hm⟩ := ackEntry_only hw hpool hp hsub hsrc hacked hsent hack hlast
    exact answers_answer _ (noticeAck_eq hl hs hb hse _) hm.variant hm.pending hempty
  · exact answers_counted rfl ((noticeAck_eq hl hs hb hse _).trans (congrArg s.answer (ackEntry_unknown hnone)))

end Sys2Proof.Machine
end

section
/-! Frames of the device -/
namespace Sys2Proof.Machine
open Sys2Proof Sys2Proof.Config

/-! A Dulas frame leaves. -/

section
variable {s t u : State} {p kind : Nat} {se : Session} {group : Bool} {es : List (List Byte)}

set_option Elab.async false in
theorem Sends.congr {tr : Transport} {peer : Peer} {bs : List Byte} (h : Sends tr peer group bs s t)
    (he : u.host.linkEgress = t.host.linkEgress) (hn : u.net = t.net) : Sends tr peer group bs s u := by
  obtain ⟨hlink, hni⟩ := h
  refine ⟨fun ht => he.trans (hlink ht), fun ht => ?_⟩
  rw [hn]
  exact hni ht

theorem sendFrame_sends (f : TxFrame) (hat : f.at_ = s.now) : Sends f.transport f.peer f.group f.bytes s (sendFrame f s) := by
  obtain ⟨tr, peer, group, bs, at_⟩ := f
  obtain rfl : at_ = s.now := hat
  have hnet (h : tr ≠ .link) : sendFrame ⟨tr, peer, group, bs, s.now⟩ s = s.onNet fun n =>
      { n with niWait := n.niWait ++ [s.dulasFrame ⟨tr, peer, group, bs, s.now⟩] } := by
    cases tr with
    | link => exact absurd rfl h
    | udpA => rfl
    | udpB => rfl
  refine ⟨fun ht => ?_, fun ht => ?_⟩
  · obtain rfl : tr = .link := ht
    exact moveFill_host_linkEgress ..
  · rw [hnet ht]
    exact ⟨_, rfl, rfl⟩

/-- What a frame that leaves keeps of the host side. -/
structure FrameKept (s t : State) : Prop where
  places : t.host.places = s.host.places
  flights : t.host.flights = s.host.flights
  done : t.host.done = s.host.done
  now : t.now = s.now
  quiet : Quiet s t

theorem sendFrame_kept (f : TxFrame) (s : State) : FrameKept s (sendFrame f s) := by
  unfold sendFrame
  split
  · refine ⟨moveFill_host_places .., moveFill_host_flights .., moveFill_host_done .., moveFill_now .., ?_⟩
    have hpush : PoolKept s (s.onHost fun h => { h with linkEgress := h.linkEgress ++ [f] }) := ⟨rfl, rfl⟩
    exact hpush.quiet.trans (quiet_moveFill 10 _)
  · exact ⟨rfl, rfl, rfl, rfl, fun _ => ⟨rfl, rfl⟩⟩

/-- The session's count of frames sent. -/
def counted (p : Nat) (s : State) : State := s.onSession p fun x => { x with txCount := x.txCount + 1 }

theorem sendElems_eq (hse : (s.place p).session = some se) : sendElems p kind group es s =
    counted p (sendFrame ⟨se.transport, se.peer, group, deviceFrame se kind s.tb32 es, s.now⟩ s) := by
  rw [sendElems, hse]
  rfl

theorem sendElems_sends (hse : (s.place p).session = some se) :
    Sends se.transport se.peer group (deviceFrame se kind s.tb32 es) s (sendElems p kind group es s) := by
  rw [sendElems_eq hse]
  exact (sendFrame_sends ⟨se.transport, se.peer, group, deviceFrame se kind s.tb32 es, s.now⟩ rfl).congr rfl rfl

theorem sendElems_session (hse : (s.place p).session = some se) :
    ((sendElems p kind group es s).place p).session = some { se with txCount := se.txCount + 1 } := by
  rw [sendElems_eq hse]
  refine onSession_session ?_ _
  rw [State.place, (sendFrame_kept _ s).places]
  exact hse

theorem sendElems_host (hse : (s.place p).session = some se) :
    (sendElems p kind group es s).host.flights = s.host.flights ∧ (sendElems p kind group es s).host.done = s.host.done ∧
    (sendElems p kind group es s).now = s.now ∧ (NoWeirNotices s → (sendElems p kind group es s).host.pool = s.host.pool) := by
  rw [sendElems_eq hse]
  obtain ⟨-, hf, hd, hn, hq⟩ := sendFrame_kept ⟨se.transport, se.peer, group, deviceFrame se kind s.tb32 es, s.now⟩ s
  exact ⟨hf, hd, hn, fun hw => (hq hw).pool⟩

theorem endExhausted_young (hse : (s.place p).session = some se) (h : se.txCount < 0xFFFFFFFF) : endExhausted p s = s := by
  rw [endExhausted, hse]
  exact if_neg (by omega)

end

/-! COMPLETION frames. -/

theorem length_fitting_le (n used : Nat) (ds : List Done) : (fitting n used ds).length ≤ ds.length := by
  induction ds generalizing n used with
  | nil => cases n <;> exact Nat.le_refl _
  | cons d ds ih =>
    cases n with
    | zero => exact Nat.zero_le _
    | succ n =>
      rw [fitting]
      split
      · exact Nat.zero_le _
      · exact Nat.succ_le_succ (ih _ _)

section
variable {s : State} {p : Nat} {se : Session}

theorem settleClose_none (hse : (s.place p).session = some se) (h : ∀ f ∈ s.host.flights, f.sess = se.no → f.op ≠ 2) :
    settleClose p s = s := by
  have hbound : s.bound p = none ∨ s.bound p = some se := by
    rw [State.bound, hse]
    split
    · exact .inr rfl
    · exact .inl rfl
  rw [settleClose]
  obtain hb | hb := hbound
  · rw [hb]
  · rw [hb]
    dsimp only
    rw [List.find?_eq_none.2 fun f hf => ?_]
    simp only [Bool.and_eq_true, beq_iff_eq, decide_eq_true_eq, not_and]
    exact fun ⟨hs, hop⟩ => absurd hop (h f hf hs)

/-- The completions `ds` of session `no` are sent. -/
def completionsSent (no : Nat) (ds : List Done) (s : State) : State := s.onHost fun h =>
  { h with done := (h.done.filter fun d => d.sess != no) ++ ((h.done.filter fun d => d.sess == no).drop ds.length)
           flights := h.flights.filter fun f => !(ds.filterMap (·.flight)).contains f.id
           lastKindNotice := false }

/-- The session keeps them to be echoed. -/
def echoed (p : Nat) (ds : List Done) (s : State) : State := s.onSession p fun x =>
  { x with safetySent := (x.safetySent + (ds.filter (·.safety)).length) % 65536
           echo := ((ds.reverse.map Done.entry) ++ x.echo).take 64 }

/-- The state after a COMPLETION frame. -/
def completionFramed (p : Nat) (se : Session) (ds : List Done) (s : State) : State :=
  moveFill 4 (echoed p ds (completionsSent se.no ds
    (sendElems p 0x11 false (doneBytes (s.safetyPrefix p) s.tb32 se.safetySent ds) s)))

variable {ds : List Done} (hse : (s.place p).session = some se)
include hse

theorem completionFramed_session : ((completionFramed p se ds s).place p).session = some { se with
    txCount := se.txCount + 1
    safetySent := (se.safetySent + (ds.filter (·.safety)).length) % 65536
    echo := ((ds.reverse.map Done.entry) ++ se.echo).take 64 } := by
  have hsent := sendElems_session (kind := 0x11) (group := false) (es := doneBytes (s.safetyPrefix p) s.tb32 se.safetySent ds) hse
  rw [completionFramed, State.place, moveFill_host_places]
  generalize sendElems p 0x11 false _ s = u at hsent ⊢
  exact onSession_session (s := completionsSent se.no ds u) hsent _

theorem completionFramed_sends : Sends se.transport se.peer false
    (deviceFrame se 0x11 s.tb32 (doneBytes (s.safetyPrefix p) s.tb32 se.safetySent ds)) s (completionFramed p se ds s) := by
  have hsends := sendElems_sends (kind := 0x11) (group := false) (es := doneBytes (s.safetyPrefix p) s.tb32 se.safetySent ds) hse
  rw [completionFramed]
  generalize sendElems p 0x11 false _ s = u at hsends ⊢
  exact hsends.congr (moveFill_host_linkEgress ..) (moveFill_net ..)

theorem completionFramed_host : (completionFramed p se ds s).host.flights =
      s.host.flights.filter (fun f => !(ds.filterMap (·.flight)).contains f.id) ∧
    (completionFramed p se ds s).host.done =
      (s.host.done.filter fun d => d.sess != se.no) ++ ((s.host.done.filter fun d => d.sess == se.no).drop ds.length) ∧
    (completionFramed p se ds s).host.lastKindNotice = false := by
  obtain ⟨hf, hd, -, -⟩ := sendElems_host (kind := 0x11) (group := false)
    (es := doneBytes (s.safetyPrefix p) s.tb32 se.safetySent ds) hse
  rw [completionFramed, moveFill_host_flights, moveFill_host_done, moveFill_host_lastKindNotice]
  generalize sendElems p 0x11 false _ s = u at hf hd ⊢
  rw [← hf, ← hd]
  exact ⟨rfl, rfl, rfl⟩

/-- A COMPLETION frame without the end of its session. -/
theorem sendCompletions_eq (hds : ds = s.batch p) (htx : se.txCount + 1 < 0xFFFFFFFF) (hend : se.endOn = none)
    (hop : ∀ f ∈ s.host.flights, f.sess = se.no → f.op ≠ 2) : sendCompletions p se s = completionFramed p se ds s := by
  subst hds
  have hsession := completionFramed_session (ds := s.batch p) hse
  have hflights := (completionFramed_host (ds := s.batch p) hse).1
  have hclose : settleClose p (completionFramed p se (s.batch p) s) = completionFramed p se (s.batch p) s := by
    refine settleClose_none hsession fun f hf hs => ?_
    rw [hflights] at hf
    exact hop f (of_mem_filter hf) hs
  have hframe : sendCompletions p se s = endExhausted p (settleClose p (completionFramed p se (s.batch p) s)) := by
    rw [sendCompletions, hend]
    rfl
  rw [hframe, hclose, endExhausted_young hsession htx]

end

theorem completionFrameSend_batch {s : State} {p : Fin 8} {se : Session} (hl : s.live = true) (hs : s.served = true)
    (hse : (s.place p).session = some se) (htx : se.txCount + 1 < 0xFFFFFFFF) (hready : s.completionReady p = true)
    (hturn : s.completionTurn = true) (hend : se.endOn = none) (hop : ∀ f ∈ s.host.flights, f.sess = se.no → f.op ≠ 2) :
    Answers (.completionFrameSend p) s fun t =>
      Sends se.transport se.peer false
        (deviceFrame se 0x11 s.tb32 (doneBytes (s.safetyPrefix p) s.tb32 se.safetySent (s.batch p))) s t ∧
      (t.place p).session = some { se with
        txCount := se.txCount + 1
        safetySent := (se.safetySent + ((s.batch p).filter (·.safety)).length) % 65536
        echo := (((s.batch p).reverse.map Done.entry) ++ se.echo).take 64 } ∧
      (∀ d ∈ t.host.done, d ∈ s.host.done) ∧
      t.host.done.length + (s.batch p).length = s.host.done.length ∧
      t.host.flights = s.host.flights.filter (fun f => !((s.batch p).filterMap (·.flight)).contains f.id) ∧
      t.host.lastKindNotice = false := by
  have heq := sendCompletions_eq hse rfl htx hend hop
  have he : exec (.completionFrameSend p) s = s.answer (completionFramed p se (s.batch p) s) := by
    show execCompletionFrameSend p s = _
    rw [execCompletionFrameSend, answerServed_live hl hs, hse]
    dsimp only
    rw [hready, hturn, ← heq]
    rfl
  have hm : Moves (caps allParts) s (sendCompletions p se s) := sendCompletions_moves (.refl s)
  rw [heq] at hm
  obtain ⟨hflights, hdone, hkind⟩ := completionFramed_host (ds := s.batch p) hse
  refine answers_answer _ he hm.variant hm.pending ⟨completionFramed_sends hse, completionFramed_session hse, ?_, ?_,
    hflights, hkind⟩
  · rw [hdone]
    intro d hd
    obtain hd | hd := List.mem_append.1 hd
    · exact of_mem_filter hd
    · exact of_mem_filter (List.mem_of_mem_drop hd)
  · have hle : (s.batch p).length ≤ (s.host.done.filter fun d => d.sess == se.no).length := by
      have hwritten : s.written p = s.host.done.filter fun d => d.sess == se.no := by
        rw [State.written, hse]
      rw [← hwritten]
      exact length_fitting_le _ _ _
    have hsplit := length_filter_add (fun d : Done => d.sess == se.no) s.host.done
    rw [hdone, List.length_append, List.length_drop, ← hsplit]
    have hne : (s.host.done.filter fun d => d.sess != se.no) = s.host.done.filter fun d => !(d.sess == se.no) := rfl
    rw [hne]
    omega

/-! NOTICE frames. -/

/-- `t` is `s` but for the units of the functions. -/
def FnsOnly (s t : State) : Prop := ∃ fs, t = s.onHost fun h => { h with fns := fs }

theorem FnsOnly.onFn {s t : State} (h : FnsOnly s t) (n : Nat) (f : FnUnit → FnUnit) : FnsOnly s (t.onFn n f) := by
  obtain ⟨fs, rfl⟩ := h
  exact ⟨_, rfl⟩

theorem settleNotes_fnsOnly {s t : State} (h : FnsOnly s t) : FnsOnly s (settleNotes t) := by
  unfold settleNotes
  exact each_keeps (P := FnsOnly s) (fun n _ _ hu => hu.onFn n _) h

/-- A notice that is taken is marked as sent, or leaves the pool. -/
theorem takeNote_only {s : State} {n : Notice} (hpool : s.host.pool = [n]) : FnsOnly
    (s.onHost fun h => { h with pool := if n.acked then [{ n with sentAt := some s.now }] else [] }) (takeNote n s) := by
  have hsame : n.same n = true := by simp [Notice.same, Notice.sameRow]
  have htaken : (s.onHost fun h =>
      { h with pool := if n.acked then h.pool.map fun m => if m.same n then { m with sentAt := some s.now } else m
                       else h.pool.filter fun m => !m.same n }) =
      s.onHost fun h => { h with pool := if n.acked then [{ n with sentAt := some s.now }] else [] } := by
    simp only [State.onHost, hpool]
    simp [hsame]
  unfold takeNote
  rw [htaken]
  refine settleNotes_fnsOnly ?_
  exact of_ite (P := FnsOnly _) ⟨_, rfl⟩ (FnsOnly.onFn ⟨_, rfl⟩ _ _)

theorem filter_range_eq {m : Nat} (h : m < 8) : ((List.range 8).filter fun f => m == f) = [m] := by
  decide +revert

section
variable {s : State} {n : Notice} {p : Nat} {se : Session}

/-- The pool's only notice is the next one to leave. -/
theorem nextNote_only (hse : (s.place p).session = some se) (hpool : s.host.pool = [n]) (hsent : n.sentAt = none) (hp : n.place = p) (hno : n.sess = se.no)
    (hfn : n.fn < 8) (hroom : s.egressRoom se.transport 60 = true) : s.nextNote 0 = some n := by
  have hleaving : s.leaving 0 = [n] := by
    rw [State.leaving, State.unsent, hpool]
    simp [hsent, hp, hse, hno, hroom]
  rw [State.nextNote, hleaving]
  by_cases hsafe : n.safety = true
  · simp [hsafe]
  · simp [hsafe, filter_range_eq hfn, State.leastNote]

theorem nextNote_none (h : s.unsent = []) (k : Nat) : s.nextNote k = none := by
  have hleaving : s.leaving k = [] := by rw [State.leaving, h]; rfl
  rw [State.nextNote, hleaving]
  simp [State.leastNote]

/-- Alone in the pool, it leaves alone. -/
theorem gatherNotes_only (hnext : s.nextNote 0 = some n) (hpool : s.host.pool = [n]) :
    gatherNotes n 32 [] s = ([n], takeNote n s) := by
  have hnone : (takeNote n s).unsent = [] := by
    obtain ⟨fs, h⟩ := takeNote_only hpool
    rw [h, State.unsent]
    show (if n.acked then [{ n with sentAt := some s.now }] else []).filter _ = []
    split <;> rfl
  rw [gatherNotes]
  simp only [List.length_nil, hnext, BEq.rfl, Bool.and_self, if_true, List.nil_append]
  rw [gatherNotes, nextNote_none hnone]

end

/-- A count of frames moves no subscription. -/
theorem counted_noWeir {s : State} (h : NoWeirNotices s) (p : Nat) : NoWeirNotices (counted p s) := by
  intro q x hx
  have hold := h q
  change ((s.host.places.modify p _).getD q Place.empty).session = some x at hx
  simp only [State.place, List.getD_eq_getElem?_getD, List.getElem?_modify] at hx hold
  cases hq : s.host.places[q]? with
  | none =>
    rw [hq] at hx
    exact absurd hx (by simp [Place.empty])
  | some a =>
    rw [hq] at hx hold
    simp only [Option.map_eq_map, Option.map_some, Option.getD_some] at hx hold
    split at hx
    · obtain ⟨y, hy, rfl⟩ := Option.map_eq_some_iff.1 hx
      exact hold y hy
    · exact hold x hx

section
variable {s : State} {n : Notice} {p : Nat} {se : Session} {resent : Bool}

/-- The state after a NOTICE frame. -/
def noticeFramed (p : Nat) (group : Bool) (es : List (List Byte)) (s : State) : State :=
  moveFill 5 ((sendElems p 0x12 group es s).onHost fun h => { h with lastKindNotice := true })

section
variable {group : Bool} {es : List (List Byte)} (hse : (s.place p).session = some se)
include hse

theorem noticeFramed_session :
    ((noticeFramed p group es s).place p).session = some { se with txCount := se.txCount + 1 } := by
  have hsession := sendElems_session (kind := 0x12) (group := group) (es := es) hse
  rw [noticeFramed, State.place, moveFill_host_places]
  exact hsession

theorem sendNotes_eq (htx : se.txCount + 1 < 0xFFFFFFFF) (unicast : Bool) (ns : List Notice) :
    sendNotes p unicast resent ns s =
      noticeFramed p (!unicast && decide (se.transport ≠ .link)) (ns.map fun n => n.bytes resent) s := by
  have hgroup : decide (((s.place p).session.map (·.transport)) ≠ some .link) = decide (se.transport ≠ .link) := by
    rw [hse]
    simp
  have hframe : sendNotes p unicast resent ns s = endExhausted p
      (noticeFramed p (!unicast && decide (se.transport ≠ .link)) (ns.map fun n => n.bytes resent) s) := by
    rw [← hgroup]
    rfl
  rw [hframe, endExhausted_young (noticeFramed_session hse) htx]

theorem noticeFramed_sends : Sends se.transport se.peer group (deviceFrame se 0x12 s.tb32 es) s (noticeFramed p group es s) := by
  have hsends := sendElems_sends (kind := 0x12) (group := group) (es := es) hse
  rw [noticeFramed]
  exact hsends.congr (moveFill_host_linkEgress ..) (moveFill_net ..)

theorem noticeFramed_pool (hw : NoWeirNotices s) : (noticeFramed p group es s).host.pool = s.host.pool := by
  have hq := sendFrame_kept ⟨se.transport, se.peer, group, deviceFrame se 0x12 s.tb32 es, s.now⟩ s
  have hpool := (sendElems_host (kind := 0x12) (group := group) (es := es) hse).2.2.2 hw
  have hsent : NoWeirNotices (sendElems p 0x12 group es s) := by
    rw [sendElems_eq hse]
    exact counted_noWeir ((hq.quiet hw).noWeir hw) p
  have hkind : NoWeirNotices ((sendElems p 0x12 group es s).onHost fun h => { h with lastKindNotice := true }) := hsent
  exact (moveFill_pool hkind 5).trans hpool

end

theorem noticeFramed_kind (group : Bool) (es : List (List Byte)) : (noticeFramed p group es s).host.lastKindNotice = true :=
  moveFill_host_lastKindNotice ..

theorem noticeFramed_moves (group : Bool) (es : List (List Byte)) : Moves (caps allParts) s (noticeFramed p group es s) :=
  moveFill_moves (onHost_moves (sendElems_moves (.refl s)))

end

/-- The state with the notices `ns` in its pool and the units `fs`. -/
def pooled (ns : List Notice) (fs : List FnUnit) (s : State) : State := s.onHost fun h => { h with pool := ns, fns := fs }

/-- A NOTICE frame from the state whose pool is settled. -/
theorem answers_noticeFramed {s : State} {c : Instr} {p : Nat} {se : Session} {group : Bool} {es : List (List Byte)}
    {ns : List Notice} {fs : List FnUnit} (hse : (s.place p).session = some se) (hw : NoWeirNotices s)
    (he : exec c s = s.answer (noticeFramed p group es (pooled ns fs s))) : Answers c s fun t =>
      Sends se.transport se.peer group (deviceFrame se 0x12 s.tb32 es) s t ∧ t.host.pool = ns ∧
      t.host.lastKindNotice = true ∧ (t.place p).session = some { se with txCount := se.txCount + 1 } := by
  have hse' : ((pooled ns fs s).place p).session = some se := hse
  have hw' : NoWeirNotices (pooled ns fs s) := hw
  have hm := noticeFramed_moves (p := p) group es (s := pooled ns fs s)
  have hsends := noticeFramed_sends (group := group) (es := es) hse'
  have hpool := noticeFramed_pool (group := group) (es := es) hse' hw'
  have hsession := noticeFramed_session (group := group) (es := es) hse'
  have hkind := noticeFramed_kind (p := p) (s := pooled ns fs s) group es
  generalize noticeFramed p group es (pooled ns fs s) = t at *
  exact answers_answer t he hm.variant hm.pending ⟨hsends, hpool, hkind, hsession⟩

section
variable {s : State} {n : Notice} {p : Fin 8} {se : Session} (hl : s.live = true) (hs : s.served = true)
  (hse : (s.place p).session = some se) (htx : se.txCount + 1 < 0xFFFFFFFF) (hpool : s.host.pool = [n]) (hp : n.place = p)
  (hno : n.sess = se.no) (hroom : s.egressRoom se.transport 60 = true)
include hl hs hse htx hpool hp hno hroom

theorem noticeFrameSend_eq (hsent : n.sentAt = none) (hfn : n.fn < 8)
    (hturn : n.safety = true ∨ s.host.lastKindNotice = false ∨ ∀ q, q < 8 → s.completionReady q = false) :
    ∃ fs, exec .noticeFrameSend s = s.answer (noticeFramed p (!n.unicast && decide (se.transport ≠ .link)) [n.bytes false]
      (pooled (if n.acked then [{ n with sentAt := some s.now }] else []) fs s)) := by
  obtain ⟨fs, hfs⟩ := settleNotes_fnsOnly (s := s) (t := s) ⟨s.host.fns, rfl⟩
  have hpool' : (settleNotes s).host.pool = [n] := by
    rw [hfs]
    exact hpool
  have hnext : (settleNotes s).nextNote 0 = some n := by
    refine nextNote_only (p := p) (se := se) ?_ hpool' hsent hp hno hfn ?_
    · rw [hfs]
      exact hse
    · rw [hfs]
      exact hroom
  obtain ⟨fs', hfs'⟩ := takeNote_only hpool'
  have hw : takeNote n (settleNotes s) = pooled (if n.acked then [{ n with sentAt := some s.now }] else []) fs' s := by
    rw [hfs', hfs]
    rfl
  refine ⟨fs', ?_⟩
  have hready (q : Nat) : (settleNotes s).completionReady q = s.completionReady q := by
    rw [hfs]
    rfl
  have hkind : (settleNotes s).host.lastKindNotice = s.host.lastKindNotice := by rw [hfs]; rfl
  have hgo : (!n.safety && (settleNotes s).host.lastKindNotice && (List.range 8).any (settleNotes s).completionReady) = false := by
    rw [hkind, funext hready]
    obtain h | h | h := hturn
    · simp [h]
    · simp [h]
    · have hnone : (List.range 8).any s.completionReady = false := by
        rw [List.any_eq_false]
        intro q hq
        simp [h q (List.mem_range.1 hq)]
      rw [hnone, Bool.and_false]
  have hse' : ((pooled (if n.acked then [{ n with sentAt := some s.now }] else []) fs' s).place p).session = some se := hse
  rw [← List.map_singleton (f := fun m : Notice => m.bytes false) (a := n), ← sendNotes_eq hse' htx, ← hw, ← hp]
  show execNoticeFrameSend s = _
  rw [execNoticeFrameSend, answerServed_live hl hs]
  dsimp only
  rw [hnext]
  dsimp only
  rw [hgo, gatherNotes_only hnext hpool']
  rfl

theorem noticeResend_eq {at_ : Nat} (hsent : n.sentAt = some at_) (hacked : n.acked = true)
    (hdue : at_ + ms (s.get Obj.noticeRetry) ≤ s.now) :
    exec (.noticeResend p) s = s.answer (noticeFramed p (!n.unicast && decide (se.transport ≠ .link)) [n.bytes true]
      (pooled [{ n with sentAt := some s.now }] s.host.fns s)) := by
  have hse' : ((pooled [{ n with sentAt := some s.now }] s.host.fns s).place p).session = some se := hse
  rw [← List.map_singleton (f := fun m : Notice => m.bytes true) (a := n), ← sendNotes_eq hse' htx]
  show execNoticeResend p s = _
  rw [execNoticeResend, answerServed_live hl hs, hse]
  dsimp only
  rw [hpool]
  have hsame : n.same n = true := by simp [Notice.same, Notice.sameRow]
  simp [hp, hno, hacked, hsent, hdue, hroom, hsame, pooled, State.onHost, hpool]

end

/-- Settles O32: a COMPLETION frame takes the batch of its session, a NOTICE frame the only notice of the pool. -/
theorem completionsAndNoticesLeaveInFrames : Obligations.CompletionsAndNoticesLeaveInFrames := by
  intro s p se hl hs hse htx
  refine ⟨fun ds hds hready hturn hend hop => ?_, fun n hw hpool hsent hp hno hfn hroom hturn => ?_,
    fun n at_ hw hpool hsent hacked hp hno hdue hroom => ?_⟩
  · subst hds
    exact completionFrameSend_batch hl hs hse htx hready hturn hend hop
  · obtain ⟨fs, he⟩ := noticeFrameSend_eq hl hs hse htx hpool hp hno hroom hsent hfn hturn
    exact answers_noticeFramed hse hw he
  · obtain ⟨t, ht, hsends, hkept, -⟩ := answers_noticeFramed hse hw
      (noticeResend_eq hl hs hse htx hpool hp hno hroom hsent hacked hdue)
    exact ⟨t, ht, hsends, hkept⟩

end Sys2Proof.Machine
end

section
/-! WRITEs and CMDs that a check refuses. -/
namespace Sys2Proof.Machine
open Sys2Proof Sys2Proof.Config

set_option Elab.async false in
/-- The row of another kind of work than the carried transaction's leaves the state as it is. -/
theorem Carries.answers_idle {l : Fin 32} {f : Flight} {s : State} (h : Carries l f s) {w : Work} (hw : f.work ≠ w) :
    Answers (w.row l) s fun t => t = s := by
  refine answers_of s ?_ rfl
  rw [exec_row, answerLive_live h.live]
  simp only [runLane, h.lane, if_neg hw]

theorem Answers.mono {c : Instr} {s : State} {P Q : State → Prop} (h : Answers c s P) (hpq : ∀ t, P t → Q t) :
    Answers c s Q := by
  obtain ⟨t, ht, hp⟩ := h
  exact ⟨t, ht, hpq t hp⟩

/-- Settles O39: the row of the transaction's own kind completes it with the refusal, every other row does nothing. -/
theorem refusedWritesChangeNothing : Obligations.RefusedWritesChangeNothing := by
  unfold Obligations.RefusedWritesChangeNothing
  intro s l f o idx sub st data hf ha hst h0 htab
  refine ⟨fun c hc => ?_, hf.answers_refused ha hst h0 htab⟩
  rw [objectRows_eq_map] at hc
  obtain ⟨w, -, rfl⟩ := List.mem_map.1 hc
  by_cases hw : f.work = w
  · exact (hf.answers_row_refused ha hw hst h0 htab).mono fun t ht => .inr ht
  · exact (hf.answers_idle hw).mono fun t ht => .inl ht

end Sys2Proof.Machine
end

section
/-! Writes and commands that pass their checks: they act and complete. -/
namespace Sys2Proof.Machine
open Sys2Proof Sys2Proof.Config

set_option Elab.async false in
/-- A WRITE or CMD that passes its checks and acts completes with the status of its action. -/
theorem runWrite_taken {f : Flight} {o : OpKind} {k st : Nat} {data : List Byte} {s u : State}
    (hp : s.writeRefusal (f.writer true) o k data = 0) (ha : applyWrite (f.writer true) k data s = (some st, u)) :
    runWrite o f k data s = complete f.id st u := by
  have hobj : writeObject (f.writer true) o k data s = (some st, u) := by
    unfold writeObject
    split
    case h_1 => exact ha
    case h_2 hne => exact absurd hp hne
  simp only [runWrite, hobj]

/-- One that waits for something else to complete it leaves what its action left. -/
theorem runWrite_held {f : Flight} {o : OpKind} {k : Nat} {data : List Byte} {s u : State}
    (hp : s.writeRefusal (f.writer true) o k data = 0) (ha : applyWrite (f.writer true) k data s = (none, u)) :
    runWrite o f k data s = u := by
  have hobj : writeObject (f.writer true) o k data s = (none, u) := by
    unfold writeObject
    split
    case h_1 => exact ha
    case h_2 hne => exact absurd hp hne
  simp only [runWrite, hobj]

section
variable {l : Fin 32} {f : Flight} {idx sub k : Nat} {data : List Byte} {s u : State} {w : Work}

/-- A transaction that the action left in flight completes after it. -/
theorem Carries.completed_after (h : Carries l f s) (hfl : u.host.flights = s.host.flights)
    (hdone : u.host.done = s.host.done) (hnow : u.now = s.now) (st det : Nat) (bs : List Byte) :
    Completed f st det bs s (completeWith f.id st det bs u) := by
  have hk : u.flight f.id = some f := by
    unfold State.flight
    rw [hfl]
    exact h.known
  unfold Completed
  rw [completeWith_host_done f st det bs u hk (by rw [h.phase]; nofun) h.own, hdone, hnow]

theorem WritesAt.asks (h : WritesAt l f idx sub data s) : f.Asks .write idx sub data := .inl ⟨rfl, h.op, h.req⟩

theorem CommandsAt.asks (h : CommandsAt l f idx sub data s) : f.Asks .cmd idx sub data := .inr ⟨rfl, h.op, h.req⟩

theorem WritesAt.work_eq {g : Group} {i : Nat} {d : Sub} (h : WritesAt l f idx sub data s) (hk : 256 * idx + sub = k)
    (hlk : lookup k = some (g, i, d)) : f.work = writeWork g.lo d.sub (leNat data) := by
  simp only [Flight.work, h.req, hk, hlk]

theorem CommandsAt.work_eq {g : Group} {i : Nat} {d : Sub} (h : CommandsAt l f idx sub data s) (hk : 256 * idx + sub = k)
    (hlk : lookup k = some (g, i, d)) : f.work = cmdWork g.lo d.sub := by
  simp only [Flight.work, h.req, hk, hlk]

/-- The row of a transaction whose run gives a state that keeps the fuses and the queue answers with it. -/
theorem Carries.answers_run (h : Carries l f s) (hw : f.work = w) {t : State} (hr : runReq f s = t)
    (hv : t.variant = s.variant) (hp : t.pending = s.pending) {P : State → Prop} (hP : P t) : Answers (w.row l) s P :=
  answers_answer t (by rw [exec_row, answerLive_live h.live, h.runLane_eq hw, hr]) hv hp hP

/-- The row of an object operation that passes its checks answers with what its action left and one COMPLETE. -/
theorem Carries.answers_action (h : Carries l f s) {o : OpKind} (ha : f.Asks o idx sub data) (hw : f.work = w)
    (hk : 256 * idx + sub = k) (hpass : s.writeRefusal (f.writer true) o (256 * idx + sub) data = 0) {st : Nat}
    (hact : applyWrite (f.writer true) k data s = (some st, u)) (hfl : u.host.flights = s.host.flights)
    (hdone : u.host.done = s.host.done) {P : State → Prop}
    (hP : Completed f st 0 [] s (completeWith f.id st 0 [] u) → P (completeWith f.id st 0 [] u)) :
    Answers (w.row l) s P := by
  subst hk
  have hm : Moves (caps allParts) s u := by
    have := applyWrite_moves (κ := caps allParts) (w := f.writer true) (k := 256 * idx + sub) (data := data) (.refl s)
    rwa [hact] at this
  refine h.answers_run hw (t := completeWith f.id st 0 [] u) ?_ ((completeWith_variant ..).trans hm.variant)
    ((completeWith_pending ..).trans hm.pending) (hP (h.completed_after hfl hdone hm.now st 0 []))
  rw [ha.runReq_eq, runWrite_taken hpass hact, complete]

end

end Sys2Proof.Machine
end

section
/-! The spots of the dictionary whose writes act otherwise, and those that something follows from. -/
namespace Sys2Proof.Machine
open Sys2Proof Sys2Proof.Config

set_option Elab.async false in
/-- Where a write acts otherwise than by its value: the groups and subs of `applyWrite` (all subs of a group: none). -/
def actedSpots : List (Nat × Option Nat) :=
  [(0x1003, some 0x1), (0x1101, some 0x8), (0x1110, some 0x1), (0x1110, some 0x2), (0x1110, some 0x3),
   (0x1200, some 0x9), (0x1201, some 0x6), (0x1220, some 0x5), (0x1300, some 0x6), (0x1420, some 0x3),
   (0x1490, some 0x2), (0x1502, some 0x4), (0x1600, some 0x3), (0x1700, some 0x9), (0x1806, some 0x2),
   (0x1806, some 0x3), (0x1820, some 0x6), (0x2001, some 0x5), (0x2110, some 0x1), (0x2200, some 0x3),
   (0x2210, none), (0x2220, some 0x1), (0x3100, some 0x10), (0x3400, some 0xB), (0x3500, some 0x7),
   (0x3500, some 0x16), (0x6100, some 0x6), (0x6100, some 0xA), (0x6200, some 0x2)]

/-- Where something follows from a value: the groups and subs of `putHook`. -/
def hookedSpots : List (Nat × Option Nat) :=
  [(0x1200, some 0x5), (0x1220, some 0x1), (0x1230, some 0x1), (0x1230, some 0x2), (0x1230, some 0x3),
   (0x1410, some 0x1), (0x1410, some 0x2), (0x1421, some 0x1), (0x1424, some 0x2), (0x1502, some 0x5),
   (0x1503, some 0x2), (0x1700, some 0x2), (0x1700, some 0x3), (0x1700, some 0x4), (0x1700, some 0x5),
   (0x1800, none), (0x1806, some 0x1), (0x1810, none), (0x1820, none), (0x1828, some 0x1), (0x3200, some 0x1),
   (0x3200, some 0x2), (0x3200, some 0xF), (0x3400, some 0x8), (0x3400, some 0x9), (0x3500, some 0x10),
   (0x3500, some 0x11), (0x3500, some 0x12), (0x3500, some 0x14), (0x3500, some 0x15), (0x6000, some 0x1),
   (0x6000, some 0x2), (0x6000, some 0x4), (0x6400, some 0x1), (0x6400, some 0x2), (0x6400, some 0x3),
   (0x6400, some 0x8), (0x6400, some 0xB)]

/-- The spot is in a list of spots. -/
def spotIn (xs : List (Nat × Option Nat)) (lo sub : Nat) : Bool :=
  xs.any fun x => x.1 == lo && (x.2 == none || x.2 == some sub)

/-- Elsewhere a write takes the value, with what follows from it. -/
theorem applyWrite_value {k i : Nat} {g : Group} {d : Sub} {w : Writer} {data : List Byte} {s : State}
    (hlk : lookup k = some (g, i, d)) (hs : spotIn actedSpots g.lo d.sub = false) :
    applyWrite w k data s = (some 0, countWrite k (putHook k (leNat data) s)) := by
  unfold applyWrite
  rw [hlk]
  dsimp only
  split
  case h_30 => rfl
  all_goals exact absurd hs (by simp [spotIn, actedSpots, *])

/-- Elsewhere nothing follows from a value. -/
theorem putHook_value {k v i : Nat} {g : Group} {d : Sub} {s : State} (hlk : lookup k = some (g, i, d))
    (hs : spotIn hookedSpots g.lo d.sub = false) : putHook k v s = s.put k v := by
  unfold putHook
  rw [hlk]
  dsimp only
  split
  case h_39 => rfl
  all_goals exact absurd hs (by simp [spotIn, hookedSpots, *])

end Sys2Proof.Machine
end

section
/-! Values taken with nothing else. -/
namespace Sys2Proof.Machine
open Sys2Proof Sys2Proof.Config

set_option Elab.async false in
theorem countWrite_get (k j : Nat) (s : State) : (countWrite k s).get j = s.get j := by
  unfold countWrite
  split
  · exact onRec_get ..
  · rfl

theorem countWrite_host (k : Nat) (s : State) : (countWrite k s).host = s.host := by
  unfold countWrite
  split <;> rfl

theorem countWrite_pow (k : Nat) (s : State) : (countWrite k s).pow = s.pow := by
  unfold countWrite
  split <;> rfl

theorem countWrite_sup (k : Nat) (s : State) : (countWrite k s).sup = s.sup := by
  unfold countWrite
  split <;> rfl

theorem countWrite_now (k : Nat) (s : State) : (countWrite k s).now = s.now := by
  unfold countWrite
  split <;> rfl

/-- An entry of the dictionary that stands for `n` objects, told by its first number. -/
def entryIs (k0 lo sub n : Nat) : Bool :=
  decide ((lookup k0).map (fun x => (x.1.lo, x.2.1, x.2.2.sub, x.1.n)) = some (lo, 0, sub, n)) && !isConst k0

section
variable {k0 lo sub0 n i : Nat}

theorem entry_at (h : entryIs k0 lo sub0 n = true) (hi : i < n) :
    ∃ g d, lookup (k0 + 256 * i) = some (g, i, d) ∧ g.lo = lo ∧ d.sub = sub0 := by
  simp only [entryIs, Bool.and_eq_true, decide_eq_true_eq, Option.map_eq_some_iff, Prod.mk.injEq] at h
  obtain ⟨⟨⟨g, j, d⟩, hlk, hlo, hj, hsub, hn⟩, -⟩ := h
  obtain rfl : j = 0 := hj
  exact ⟨g, d, lookup_shift k0 i g d hlk (hn ▸ hi), hlo, hsub⟩

theorem entry_not_const (h : entryIs k0 lo sub0 n = true) (hi : i < n) : isConst (k0 + 256 * i) = false := by
  have hr : rangeOf k0 = n := by
    simp only [entryIs, Bool.and_eq_true, decide_eq_true_eq, Option.map_eq_some_iff, Prod.mk.injEq] at h
    obtain ⟨⟨⟨g, j, d⟩, hlk, hlo, hj, hsub, hn⟩, -⟩ := h
    obtain rfl : j = 0 := hj
    simp only [rangeOf, hlk]
    exact hn
  rw [isConst_shift k0 i n hr hi]
  simp only [entryIs, Bool.and_eq_true, Bool.not_eq_true'] at h
  exact h.2

end

section
variable {l : Fin 32} {f : Flight} {idx sub k v : Nat} {data : List Byte} {s : State} {w : Work}

/-- A value taken with nothing else: the object reads it back and no other object moves. -/
theorem takes_counted (hc : isConst k = false) (hn : noisy k = false) (id st : Nat) :
    Takes k v s (completeWith id st 0 [] (countWrite k (s.put k v))) := by
  refine ⟨?_, fun j hj hnj => ?_⟩
  · rw [completeWith_get _ _ _ _ _ _ hn, countWrite_get, get_put_self _ _ _ hc]
  · rw [completeWith_get _ _ _ _ _ _ hnj, countWrite_get, get_put_ne _ _ _ _ hj]

/-- A WRITE after whose value nothing follows is taken. -/
theorem WritesAt.answers_value (h : WritesAt l f idx sub data s) (hk : 256 * idx + sub = k)
    (hact : applyWrite (f.writer true) k data s = (some 0, countWrite k (s.put k (leNat data)))) (hw : f.work = w)
    (hc : isConst k = false) (hn : noisy k = false) :
    Answers (w.row l) s fun t => Completed f 0 0 [] s t ∧ Takes k (leNat data) s t :=
  have hhost : (countWrite k (s.put k (leNat data))).host = s.host := (countWrite_host ..).trans (put_host ..)
  h.carried.answers_action h.asks hw hk h.passes hact (by rw [hhost]) (by rw [hhost]) fun hcmp =>
    ⟨hcmp, takes_counted hc hn _ _⟩

/-- The same of an object of a range whose spot neither acts otherwise nor has a hook. -/
theorem WritesAt.answers_entry (h : WritesAt l f idx sub data s) {k0 lo sub0 n i : Nat}
    (he : entryIs k0 lo sub0 n = true) (hi : i < n) (hk : 256 * idx + sub = k0 + 256 * i)
    (hw : writeWork lo sub0 (leNat data) = w)
    (ha : spotIn actedSpots lo sub0 = false) (hh : spotIn hookedSpots lo sub0 = false)
    (hn : noisy (k0 + 256 * i) = false) :
    Answers (w.row l) s fun t => Completed f 0 0 [] s t ∧ Takes (k0 + 256 * i) (leNat data) s t := by
  obtain ⟨g, d, hlk, hlo, hsub⟩ := entry_at he hi
  refine h.answers_value hk ?_ ?_ (entry_not_const he hi) hn
  · rw [applyWrite_value hlk (by rw [hlo, hsub]; exact ha), putHook_value hlk (by rw [hlo, hsub]; exact hh)]
  · rw [h.work_eq hk hlk, hlo, hsub, hw]

end

/-- What lies in no chapter of the counters of notices is quiet. -/
theorem quiet_of_chapter {k : Nat} (h : k / 65536 ≠ 0x13) (hr : k / 65536 ≠ 0x22) (hs : k / 65536 ≠ 0x16)
    (hd : k / 256 ≠ 0x1101 ∧ k / 256 ≠ 0x1102) : noisy k = false := by
  have h1 : k ≠ Obj.droppedRecords := by rintro rfl; exact hr rfl
  have h2 : k ≠ Obj.safetyFaultCount := by rintro rfl; exact hs rfl
  have h3 : k ≠ Obj.discardedCompletions 0 := by rintro rfl; exact hd.1 rfl
  have h4 : k ≠ Obj.discardedCompletions 1 := by rintro rfl; exact hd.2 rfl
  simp [noisy, h, h1, h2, h3, h4]

end Sys2Proof.Machine
end

section
/-! Values by the dictionary, cursors of a session, and WRITE_MULTI. -/
namespace Sys2Proof.Machine
open Sys2Proof Sys2Proof.Config

section
variable {l : Fin 32} {f : Flight} {data : List Byte} {s : State}

set_option Elab.async false in
/-- What follows from a value keeps the host's side, so the transaction that wrote it completes. -/
theorem countWrite_putHook_kept (k v : Nat) (s : State) :
    (countWrite k (putHook k v s)).host.flights = s.host.flights ∧ (countWrite k (putHook k v s)).host.done = s.host.done := by
  have hm : Moves (caps [.objs, .seq, .recd, .axes, .chans, .dies, .sup, .pow, .clk, .net, .gp]) s
      (countWrite k (putHook k v s)) := countWrite_moves (putHook_moves (.refl s))
  have hf : ((countWrite k (putHook k v s)).host.flights, (countWrite k (putHook k v s)).host.done,
      (countWrite k (putHook k v s)).host.nextFlight) = (s.host.flights, s.host.done, s.host.nextFlight) :=
    hm.part .flights (by decide)
  simp only [Prod.mk.injEq] at hf
  exact ⟨hf.1, hf.2.1⟩

/-- An object of its own class is no constant. -/
theorem not_const_of_acc {k i : Nat} {g : Group} {d : Sub} (hlk : lookup k = some (g, i, d))
    (hacc : d.acc = .rw ∨ d.acc = .rwd ∨ ∃ m, d.acc = .rws m) : isConst k = false := by
  unfold isConst
  rw [hlk]
  obtain h | h | ⟨m, h⟩ := hacc <;> simp [h]

/-- The entry is a value of its own: of class RW, RWD or RWS, no bits that a 1 clears and no object of a session. -/
def Sub.holds (d : Sub) : Bool :=
  (match d.acc with
    | .rw => true
    | .rwd => true
    | .rws _ => true
    | _ => false) && !d.flags.contains .w1c && !d.flags.contains .session

/-- Of the spots that act otherwise, one alone holds a value: the demand of an output. -/
theorem actedSpots_plain : (objGroups.all fun g => g.subs.all fun d =>
    !d.holds || !spotIn actedSpots g.lo d.sub || (g.lo == 0x6100 && d.sub == 6)) = true := by decide +kernel

/-- The group and the entry that a number is found in stand in the dictionary. -/
theorem mem_of_lookup {k i : Nat} {g : Group} {d : Sub} (hlk : lookup k = some (g, i, d)) :
    g ∈ objGroups ∧ d ∈ g.subs := by
  unfold lookup at hlk
  dsimp only at hlk
  split at hlk
  next g' hg =>
    split at hlk
    next d' hd =>
      cases hlk
      exact ⟨List.mem_of_find?_eq_some hg, List.mem_of_find?_eq_some hd⟩
    next => cases hlk
  next => cases hlk

/-- A value of its own that the row WRITE takes is written by its value. -/
theorem spot_of_plain {k i v : Nat} {g : Group} {d : Sub} (hlk : lookup k = some (g, i, d))
    (hacc : d.acc = .rw ∨ d.acc = .rwd ∨ ∃ m, d.acc = .rws m) (hw1c : d.flags.contains .w1c = false)
    (hses : d.flags.contains .session = false) (hw : writeWork g.lo d.sub v = .write) :
    spotIn actedSpots g.lo d.sub = false := by
  obtain ⟨hg, hd⟩ := mem_of_lookup hlk
  have hplain : d.holds = true := by
    unfold Sub.holds
    obtain h | h | ⟨m, h⟩ := hacc <;> simp only [h, hw1c, hses] <;> rfl
  have hall := List.all_eq_true.1 (List.all_eq_true.1 actedSpots_plain g hg) d hd
  rw [hplain, Bool.not_true, Bool.false_or, Bool.or_eq_true, Bool.and_eq_true, beq_iff_eq, beq_iff_eq] at hall
  obtain h | ⟨hlo, hsub⟩ := hall
  · exact Bool.not_eq_true' _ ▸ h
  · rw [hlo, hsub] at hw
    exact absurd hw (by rw [show writeWork 0x6100 6 v = .outputDemandWrite from rfl]; decide)

/-- A write of the session's own cursor or window. -/
theorem answers_sessionWritten {se : Session} {sub : Nat} (hk : entryIs (0x221000 + sub) 0x2210 sub 1 = true)
    (h : WritesAt l f 0x2210 sub data s) (hse : (s.place f.place).session = some se) {F : Session → Session}
    (hF : sessionWritten f.place sub (leNat data) s = s.onSession f.place F) :
    Answers (.write l) s fun t => Completed f 0 0 [] s t ∧ (t.place f.place).session = some (F se) := by
  obtain ⟨g, d, hlk, hlo, hsub⟩ := entry_at hk (by decide : 0 < 1)
  rw [Nat.mul_zero, Nat.add_zero] at hlk
  have hact : applyWrite (f.writer true) (0x221000 + sub) data s = (some 0, sessionWritten f.place sub (leNat data) s) := by
    unfold applyWrite
    rw [hlk]
    dsimp only
    rw [hlo, hsub]
    rfl
  have hw : f.work = .write := by
    rw [h.work_eq (k := 0x221000 + sub) (by omega) hlk, hlo, hsub]
    rfl
  refine h.carried.answers_action h.asks hw (by omega) h.passes hact rfl rfl fun hcmp => ⟨hcmp, ?_⟩
  have hpl : (completeWith f.id 0 0 [] (sessionWritten f.place sub (leNat data) s)).host.places =
      (sessionWritten f.place sub (leNat data) s).host.places := (told_completeWith ..).host_places
  rw [hF] at hpl ⊢
  unfold State.place
  rw [hpl]
  exact onSession_session hse F

/-- WRITE_MULTI of two entries of which the first is refused: the second is judged and taken in the same state. -/
theorem writeEach_second {w : Writer} {a b st : Nat} {da db : List Byte} {u : State}
    (ha : s.writeRefusal w .multiWrite a da = st) (h0 : st ≠ 0) (htab : st ≠ 0x0330)
    (hb : s.writeRefusal w .multiWrite b db = 0) (hact : applyWrite w b db s = (some 0, u)) :
    writeEach w [(a / 256, a % 256, da), (b / 256, b % 256, db)] s = ([st, 0], u) := by
  have hobj : writeObject w .multiWrite a da s = (some st, s) := by
    unfold writeObject
    split
    case h_1 heq => exact absurd (ha.symm.trans heq) h0
    case h_2 => rw [ha, if_neg htab]
  have hobj' : writeObject w .multiWrite b db s = (some 0, u) := by
    unfold writeObject
    split
    case h_1 => exact hact
    case h_2 hne => exact absurd hb hne
  simp only [writeEach, Nat.div_add_mod, hobj, hobj', Option.getD_some]

theorem answers_writeMulti_second {a b st : Nat} {da db : List Byte} {u : State} (hf : Carries l f s) (hop : f.op = 0x13)
    (hreq : f.req = .writeMulti [(a / 256, a % 256, da), (b / 256, b % 256, db)])
    (ha : s.writeRefusal (f.writer false) .multiWrite a da = st) (h0 : st ≠ 0) (htab : st ≠ 0x0330)
    (hb : s.writeRefusal (f.writer false) .multiWrite b db = 0)
    (hact : applyWrite (f.writer false) b db s = (some 0, u)) (hu : u.host = s.host) :
    Answers (.writeMulti l) s fun t =>
      Completed f 0 1 (toLe 2 st ++ toLe 2 0) s t ∧ ∀ j, noisy j = false → t.get j = u.get j := by
  have hm : Moves (caps allParts) s u := by
    have := applyWrite_moves (κ := caps allParts) (w := f.writer false) (k := b) (data := db) (.refl s)
    rwa [hact] at this
  have hw : f.work = .writeMulti := by simp only [Flight.work, hreq, hop, opWork]
  refine hf.answers_run hw (t := completeWith f.id 0 1 (toLe 2 st ++ toLe 2 0) u) ?_ ((completeWith_variant ..).trans hm.variant)
    ((completeWith_pending ..).trans hm.pending)
    ⟨hf.completed_after (by rw [hu]) (by rw [hu]) hm.now _ _ _, fun j hj => completeWith_get _ _ _ _ _ _ hj⟩
  have hfil : ([st, 0].filter (· != 0)).length = 1 := by simp [h0]
  have hflat : [st, 0].flatMap (toLe 2) = toLe 2 st ++ toLe 2 0 := by simp
  simp only [runReq, hop, hreq, runWriteMulti, writeEach_second ha h0 htab hb hact, hfil, hflat]

end

end Sys2Proof.Machine
end

section
/-! Objects take what is written (O40). -/
namespace Sys2Proof.Machine
open Sys2Proof Sys2Proof.Config

section
variable {l : Fin 32} {f : Flight} {data : List Byte} {s : State}

set_option Elab.async false in
/-- A wake plan of a master takes its time and shows when it is due. -/
theorem answers_nextService {m : Nat} (hm : m < 2) (h : WritesAt l f (0x1424 + m) 2 data s) :
    Answers (.nextServiceWrite l) s fun t =>
      Completed f 0 0 [] s t ∧ Takes (Obj.nextService m) (leNat data) s t ∧
      t.pow.service = s.pow.service.set m (if leNat data = 0 then none else some (s.now + ms (leNat data))) := by
  have he : entryIs 0x142402 0x1424 2 2 = true := by decide
  obtain ⟨g, d, hlk, hlo, hsub⟩ := entry_at he hm
  have hk : 256 * (0x1424 + m) + 2 = 0x142402 + 256 * m := by omega
  have hn : noisy (Obj.nextService m) = false :=
    quiet_of_chapter (by simp only [Obj.nextService]; omega) (by simp only [Obj.nextService]; omega)
      (by simp only [Obj.nextService]; omega) (by simp only [Obj.nextService]; omega)
  have hc : isConst (Obj.nextService m) = false := entry_not_const he hm
  have hact : applyWrite (f.writer true) (Obj.nextService m) data s =
      (some 0, countWrite (Obj.nextService m) (serviceWritten m (leNat data) (s.put (Obj.nextService m) (leNat data)))) := by
    rw [applyWrite_value hlk (by rw [hlo, hsub]; decide)]
    unfold putHook
    rw [hlk]
    dsimp only
    rw [hlo, hsub]
    rfl
  have hw : f.work = .nextServiceWrite := by rw [h.work_eq hk hlk, hlo, hsub]; rfl
  have hhost : (countWrite (Obj.nextService m) (serviceWritten m (leNat data) (s.put (Obj.nextService m) (leNat data)))).host
      = s.host := (countWrite_host ..).trans (put_host ..)
  refine h.carried.answers_action h.asks hw hk h.passes hact (by rw [hhost]) (by rw [hhost]) fun hcmp => ⟨hcmp, ⟨?_, ?_⟩, ?_⟩
  · rw [completeWith_get _ _ _ _ _ _ hn, countWrite_get]
    exact (onPow_get ..).trans (get_put_self _ _ _ hc)
  · intro j hj hnj
    rw [completeWith_get _ _ _ _ _ _ hnj, countWrite_get]
    exact (onPow_get ..).trans (get_put_ne _ _ _ _ hj)
  · rw [(told_completeWith ..).pow, countWrite_pow]
    simp only [serviceWritten, State.onPow, put_pow, put_now]

/-- What the chemistry and the number of cells share: the entry, and the supply's restart. -/
theorem answers_springWritten {sub : Nat} (he : entryIs (0x141000 + sub) 0x1410 sub 1 = true)
    (hw : writeWork 0x1410 sub (leNat data) = .chemistryWrite)
    (hact : spotIn actedSpots 0x1410 sub = false) (h : WritesAt l f 0x1410 sub data s)
    (hhook : ∀ g d, lookup (0x141000 + sub) = some (g, 0, d) → g.lo = 0x1410 → d.sub = sub →
      putHook (0x141000 + sub) (leNat data) s =
        springWritten (0x141000 + sub) (leNat data) (s.put (0x141000 + sub) (leNat data)))
    {P : State → Prop}
    (hP : ∀ t, (∀ k, noisy k = false →
        t.get k = (springWritten (0x141000 + sub) (leNat data) (s.put (0x141000 + sub) (leNat data))).get k) →
      t.sup.restart = true → P t) :
    Answers (.chemistryWrite l) s fun t => Completed f 0 0 [] s t ∧ P t := by
  obtain ⟨g, d, hlk, hlo, hsub⟩ := entry_at he (by decide : 0 < 1)
  rw [Nat.mul_zero, Nat.add_zero] at hlk
  have hk : 256 * 0x1410 + sub = 0x141000 + sub := by omega
  have hwork : f.work = .chemistryWrite := by rw [h.work_eq hk hlk, hlo, hsub, hw]
  have hkept := countWrite_putHook_kept (0x141000 + sub) (leNat data) s
  refine h.carried.answers_action h.asks hwork hk h.passes
    (applyWrite_value hlk (by rw [hlo, hsub]; exact hact)) hkept.1 hkept.2 fun hcmp => ⟨hcmp, hP _ (fun k hn => ?_) ?_⟩
  · rw [completeWith_get _ _ _ _ _ _ hn, countWrite_get, hhook g d hlk hlo hsub]
  · rw [(told_completeWith ..).sup, countWrite_sup, hhook g d hlk hlo hsub]
    rfl

theorem answers_cellCount (h : WritesAt l f 0x1410 2 data s) :
    Answers (.chemistryWrite l) s fun t =>
      Completed f 0 0 [] s t ∧ Takes Obj.cellCount (leNat data) s t ∧ t.sup.restart = true := by
  refine answers_springWritten (by decide) rfl (by decide) h (fun g d hlk hlo hsub => ?_) fun t hget hsup =>
    ⟨⟨?_, fun j hj hn => ?_⟩, hsup⟩
  · unfold putHook
    rw [hlk]
    dsimp only
    rw [hlo, hsub]
    rfl
  · exact (hget Obj.cellCount (by decide)).trans (get_put_self Obj.cellCount _ s (by decide))
  · exact (hget j hn).trans (get_put_ne Obj.cellCount _ j s hj)

/-- Values put into a row of objects read back. -/
theorem zipPut_get {b : Nat} (xs : List Nat) (n : Nat) (s : State) (i : Nat) (hi : n ≤ i) (hx : i < n + xs.length)
    (hc : isConst (b + i) = false) :
    (each (xs.zipIdx n) (fun (x, i) s => s.put (b + i) x) s).get (b + i) = fitTo (b + i) (xs.getD (i - n) 0) := by
  induction xs generalizing n s with
  | nil => simp only [List.length_nil] at hx; omega
  | cons x xs ih =>
    simp only [List.zipIdx_cons, each, List.foldl_cons]
    by_cases hin : i = n
    · subst hin
      have hrest : (each (xs.zipIdx (i + 1)) (fun (x, j) s => s.put (b + j) x) (s.put (b + i) x)).get (b + i) =
          (s.put (b + i) x).get (b + i) := by
        refine each_mem_get fun a ha t => ?_
        have hle := (List.mem_zipIdx ha).1
        exact get_put_ne _ _ _ _ (by omega)
      simp only [each] at hrest
      rw [hrest, get_put_self _ _ _ hc]
      simp
    · have := ih (n + 1) (s.put (b + n) x) (by omega) (by simp only [List.length_cons] at hx; omega)
      simp only [each] at this
      rw [this]
      obtain ⟨j, rfl⟩ : ∃ j, i = n + 1 + j := ⟨i - (n + 1), by omega⟩
      have h1 : n + 1 + j - n = j + 1 := by omega
      have h2 : n + 1 + j - (n + 1) = j := by omega
      rw [h1, h2, List.getD_cons_succ]

theorem cellValue_facts : ∀ v < 2, ∀ i < 5, isConst (Obj.cellFullVoltage + i) = false ∧
    noisy (Obj.cellFullVoltage + i) = false ∧
    fitTo (Obj.cellFullVoltage + i) ((chemistryDefaults v).getD i 0) = (chemistryDefaults v).getD i 0 := by decide

theorem answers_chemistry (h : WritesAt l f 0x1410 1 data s) (hv : leNat data ≤ 1) :
    Answers (.chemistryWrite l) s fun t => Completed f 0 0 [] s t ∧ t.get Obj.chemistry = leNat data ∧
      t.sup.restart = true ∧ ∀ i, i < 5 → t.get (Obj.cellFullVoltage + i) = (chemistryDefaults (leNat data)).getD i 0 := by
  refine answers_springWritten (by decide) rfl (by decide) h (fun g d hlk hlo hsub => ?_) fun t hget hsup =>
    ⟨?_, hsup, fun i hi => ?_⟩
  · unfold putHook
    rw [hlk]
    dsimp only
    rw [hlo, hsub]
    rfl
  · have hfit : ∀ v < 2, fitTo Obj.chemistry v = v := by decide
    refine (hget Obj.chemistry (by decide)).trans (Eq.trans ?_ ((get_put_self Obj.chemistry (leNat data) s
      (by decide)).trans (hfit _ (by omega))))
    refine each_mem_get fun a ha t => get_put_ne _ _ _ _ ?_
    simp only [Obj.chemistry, Obj.cellFullVoltage]
    omega
  · obtain ⟨hc, hn, hfit⟩ := cellValue_facts (leNat data) (by omega) i hi
    have hlen : (chemistryDefaults (leNat data)).length = 5 := by unfold chemistryDefaults; split <;> rfl
    refine (hget _ hn).trans ((zipPut_get (chemistryDefaults (leNat data)) 0 (s.put Obj.chemistry (leNat data)) i (by omega)
      (by rw [hlen]; omega) hc).trans ?_)
    rw [Nat.sub_zero, hfit]

end

/-- Settles O40: each write runs its spot of the dictionary, takes the value and completes. -/
theorem acceptedWritesAreTaken : Obligations.AcceptedWritesAreTaken := by
  unfold Obligations.AcceptedWritesAreTaken
  intro s l f data v hv
  subst hv
  refine ⟨?_, ?_, ?_, ?_, ?_, ?_, ?_, ?_, ?_, ?_, ?_, ?_, ?_, ?_⟩
  · intro idx sub k g i d hk h hw hlk hacc hw1c hses hn hhook
    have hwork := h.work_eq hk.symm hlk
    rw [hw] at hwork
    refine h.answers_value (w := .write) hk.symm ?_ hw (not_const_of_acc hlk hacc) hn
    rw [applyWrite_value hlk (spot_of_plain hlk hacc hw1c hses hwork.symm), hhook]
  · intro se h hse
    exact answers_sessionWritten (by decide) h hse rfl
  · intro se h hse
    exact answers_sessionWritten (by decide) h hse rfl
  · intro a b da db st u hf hop hreq ha h0 htab hb hact hu
    exact answers_writeMulti_second hf hop hreq ha h0 htab hb hact hu
  · intro m hm h
    exact h.answers_entry (w := .maintainerWrite) (k0 := 0x110103) (by decide : entryIs _ 0x1101 3 2 = true) hm (by omega) rfl
      (by decide) (by decide) (by obtain rfl | rfl : m = 0 ∨ m = 1 := by omega
                                  all_goals decide)
  · intro n hn h
    exact h.answers_entry (w := .boundSlotWrite) (k0 := 0x170001) (by decide : entryIs _ 0x1700 1 8 = true) hn (by omega) rfl
      (by decide) (by decide) (quiet_of_chapter (by omega) (by omega) (by omega) (by omega))
  · intro m hm h
    exact h.answers_entry (w := .deepGrantWrite) (k0 := 0x142401) (by decide : entryIs _ 0x1424 1 2 = true) hm (by omega) rfl
      (by decide) (by decide) (quiet_of_chapter (by omega) (by omega) (by omega) (by omega))
  · intro a ha h
    exact h.answers_entry (w := .latchSourceWrite) (k0 := 0x350001) (by decide : entryIs _ 0x3500 1 24 = true) ha (by omega)
      rfl (by decide) (by decide) (quiet_of_chapter (by omega) (by omega) (by omega) (by omega))
  · intro a ha h
    exact h.answers_entry (w := .latchSourceWrite) (k0 := 0x350004) (by decide : entryIs _ 0x3500 4 24 = true) ha (by omega)
      rfl (by decide) (by decide) (quiet_of_chapter (by omega) (by omega) (by omega) (by omega))
  · intro n hn h
    exact h.answers_entry (w := .bindingWrite) (k0 := 0x210401) (by decide : entryIs _ 0x2104 1 4 = true) hn (by omega) rfl
      (by decide) (by decide) (quiet_of_chapter (by omega) (by omega) (by omega) (by omega))
  · intro a sub ha hlo hhi h
    have hsub : sub = 0x20 ∨ sub = 0x21 ∨ sub = 0x22 ∨ sub = 0x23 := by omega
    have hspot : entryIs (0x300000 + sub) 0x3000 sub 24 = true ∧ writeWork 0x3000 sub (leNat data) = .bindingWrite ∧
        spotIn actedSpots 0x3000 sub = false ∧ spotIn hookedSpots 0x3000 sub = false := by
      obtain rfl | rfl | rfl | rfl := hsub <;> exact ⟨by decide, rfl, by decide, by decide⟩
    obtain ⟨he, hw, hacts, hhook⟩ := hspot
    have hk : 256 * (0x3000 + a) + sub = 0x300000 + sub + 256 * a := by omega
    rw [hk]
    exact h.answers_entry (w := .bindingWrite) he ha hk hw hacts hhook
      (quiet_of_chapter (by omega) (by omega) (by omega) (by omega))
  · intro m hm h
    exact answers_nextService hm h
  · exact answers_cellCount
  · exact answers_chemistry

end Sys2Proof.Machine
end

section
/-! What notices, moved fills, records and completions count in, object by object. -/
namespace Sys2Proof.Machine
open Sys2Proof Sys2Proof.Config

set_option Elab.async false in
/-- The objects that a moved fill of queue `q` counts in. -/
def weirKeys (q : Nat) : List Nat :=
  [Obj.peakFill q, Obj.weirStatus q, Obj.highCrossCount q, Obj.lowCrossCount q, Obj.suppressedNotices q]

/-- The objects that notices, moved fills, records and completions write, one by one. -/
def countedKeys : List Nat :=
  [Obj.foldCount, Obj.noticeSafetyLost, Obj.droppedRecords, Obj.safetyFaultCount, Obj.discardedCompletions 0,
   Obj.discardedCompletions 1] ++ (List.range 15).flatMap weirKeys

/-- From `s` to `t` no object moves that is not counted in by notices, moved fills, records and completions. -/
def Calms (s t : State) : Prop := ∀ k, k ∉ countedKeys → t.get k = s.get k

theorem Calms.refl (s : State) : Calms s s := fun _ _ => rfl

theorem Calms.trans {s t u : State} (h : Calms s t) (g : Calms t u) : Calms s u :=
  fun k hk => (g k hk).trans (h k hk)

theorem Calms.ite {s t u : State} {c : Prop} [Decidable c] (h : Calms s t) (g : Calms s u) :
    Calms s (if c then t else u) := by
  split
  · exact h
  · exact g

theorem calms_put {k : Nat} (hk : k ∈ countedKeys) (v : Nat) (s : State) : Calms s (s.put k v) := by
  intro j hj
  exact get_put_ne _ _ _ _ fun e => hj (e ▸ hk)

/-- What leaves the store alone. -/
theorem calms_of_get {s t : State} (h : ∀ k, t.get k = s.get k) : Calms s t := fun k _ => h k

theorem calms_onHost (f : HostSide → HostSide) (s : State) : Calms s (s.onHost f) := calms_of_get fun _ => rfl

theorem calms_onWeir (q : Nat) (f : Weir → Weir) (s : State) : Calms s (s.onWeir q f) := calms_of_get fun _ => rfl

theorem calms_each {α : Type} {f : α → State → State} (hf : ∀ a s, Calms s (f a s)) (xs : List α) (s : State) :
    Calms s (each xs f s) :=
  fun k hk => each_get s xs f k fun a t => hf a t k hk

theorem weirKeys_counted {q k : Nat} (hq : q < 15) (hk : k ∈ weirKeys q) : k ∈ countedKeys :=
  List.mem_append_right _ (List.mem_flatMap.2 ⟨q, List.mem_range.2 hq, hk⟩)

theorem calms_addNotice (n : Notice) (s : State) : Calms s (addNotice n s) := by
  have hfold : Calms s (s.inc Obj.foldCount) := calms_put (by decide) _ s
  have hlost : Calms s (s.inc Obj.noticeSafetyLost) := calms_put (by decide) _ s
  have hpool (ns : List Notice) (t : State) : Calms t (t.onHost fun h => { h with pool := ns ++ [n] }) :=
    calms_of_get fun _ => rfl
  have hfolded (ns : List Notice) := hfold.trans (hpool ns (s.inc Obj.foldCount))
  have hdropped (ns : List Notice) := hlost.trans (hpool ns (s.inc Obj.noticeSafetyLost))
  unfold addNotice
  dsimp only
  repeat' split
  all_goals first
    | with_reducible exact Calms.refl s
    | with_reducible exact hlost
    | with_reducible exact hfolded _
    | with_reducible exact hdropped _
    | with_reducible exact hpool _ s

theorem calms_raiseOn (fn cls num kind : Nat) (data : List Byte) (saf : Bool) (s : State) :
    Calms s (raiseOn fn cls num kind data saf s) := by
  unfold raiseOn
  refine Calms.trans (t := s.onHost fun h => { h with seqs := bumpSeq (4096 * cls + num) h.seqs })
    (calms_onHost _ s) (calms_each (fun p t => ?_) _ _)
  split
  · exact .refl t
  · split
    · exact .refl t
    · exact calms_addNotice _ t

section
variable {q : Nat} (hq : q < 15)
include hq

theorem calms_crossingNotice (high : Bool) (s : State) : Calms s (crossingNotice q high s) := by
  have hsup : Calms s (s.inc (Obj.suppressedNotices q)) := calms_put (weirKeys_counted hq (by simp [weirKeys])) _ s
  unfold crossingNotice
  refine .ite (.ite ?_ ?_) (.refl s)
  · exact hsup.trans (calms_onWeir _ _ _)
  · exact (calms_raiseOn _ _ _ _ _ _ s).trans (calms_onWeir _ _ _)

theorem calms_crossing (high : Bool) (n : Nat) (s : State) : Calms s (crossing q high n s) := by
  have hcount : (if high then Obj.highCrossCount q else Obj.lowCrossCount q) ∈ countedKeys :=
    weirKeys_counted hq (by cases high <;> simp [weirKeys])
  have hstatus (t : State) (i : Nat) : Calms t (t.setBit (Obj.weirStatus q) i true) :=
    calms_put (weirKeys_counted hq (by simp [weirKeys])) _ t
  have hinc (t : State) : Calms t (t.inc (if high then Obj.highCrossCount q else Obj.lowCrossCount q)) :=
    calms_put hcount _ t
  have hpeak (t : State) : Calms t (if t.get (Obj.peakFill q) < n then t.put (Obj.peakFill q) n else t) :=
    .ite (calms_put (weirKeys_counted hq (by simp [weirKeys])) _ t) (.refl t)
  unfold crossing
  exact ((((hstatus _ _).trans (hinc _)).trans (hpeak _)).trans (calms_onWeir _ _ _)).trans
    (calms_crossingNotice hq high _)

theorem calms_crossOf (s : State) : Calms s (crossOf q s) := by
  unfold crossOf
  exact Calms.trans (t := s.onWeir q fun w => { w with last := s.fill q }) (calms_onWeir _ _ s)
    (.ite (calms_crossing hq _ _ _) (.ite (calms_crossing hq _ _ _) (.refl _)))

theorem calms_moveFill (s : State) : Calms s (moveFill q s) := by
  unfold moveFill
  exact (calms_crossOf hq s).trans
    (.ite (.refl _) ((calms_crossOf (by decide) _).trans (calms_crossOf (by decide) _)))

end

theorem calms_completeWith (id st det : Nat) (data : List Byte) (s : State) : Calms s (completeWith id st det data s) := by
  have hdisc (p : Nat) (hp : p < 2) (t : State) : Calms t (t.inc (Obj.discardedCompletions p)) := by
    refine calms_put ?_ _ t
    obtain rfl | rfl : p = 0 ∨ p = 1 := by omega
    · decide
    · decide
  have hcount (p : Nat) (t : State) : Calms t (if p < 2 then t.inc (Obj.discardedCompletions p) else t) := by
    split
    · exact hdisc p ‹_› t
    · exact .refl t
  unfold completeWith
  split
  · exact .refl s
  · split
    · exact .refl s
    · split
      · exact ((calms_onHost _ s).trans (hcount _ _)).trans
          ((calms_moveFill (by decide) _).trans (calms_moveFill (by decide) _))
      · exact ((calms_onHost _ s).trans (calms_onHost _ _)).trans (calms_moveFill (by decide) _)

end Sys2Proof.Machine
end

section
/-! Every plain object takes what is written (O58). -/
namespace Sys2Proof.Machine
open Sys2Proof Sys2Proof.Config

set_option Elab.async false in
/-- Moved pads write the flags and the count of conflicts and the records of latches. -/
theorem settlePins_other {k : Nat} {s : State} (hf : k ≠ Obj.conflictFlags) (hc : k ≠ Obj.conflictCount)
    (hl : ∀ a n, k ≠ latchRecordKey a n) : (settlePins s).get k = s.get k := by
  have hshow (t : State) : (showConflicts t).get k = t.get k := by
    unfold showConflicts State.addTo
    exact (get_put_ne _ _ _ _ hc).trans (get_put_ne _ _ _ _ hf)
  have hoffer (kind t : Nat) (sources : List Nat) (u : State) : (offerLatches kind t sources u).get k = u.get k := by
    refine each_mem_get fun a _ u => each_mem_get fun n _ v => ?_
    unfold capture
    dsimp only
    simp only [ite_get, onAxis_get, get_put_ne _ _ _ _ (hl a n), ite_self]
  unfold settlePins holdPatterns
  refine (onGp_get ..).trans (Eq.trans (each_mem_get fun n _ t => ?_) (hshow s))
  simp only [ite_get, pinLatch, hoffer, onGp_get, ite_self]

/-- A moved demand clears latches of its own channel. -/
theorem demandMoved_other {c k : Nat} (hne : k ≠ Obj.diagStatus c) (old : Nat) (s : State) :
    (demandMoved c old s).get k = s.get k := by
  have hfall (b : Nat) (u : State) : (diagFall c b u).get k = u.get k := get_put_ne _ _ _ _ hne
  have hclear (fw : Bool) (u : State) : (clearLatches c fw u).get k = u.get k := by
    unfold clearLatches
    dsimp only
    split <;> split <;> split <;> simp only [hfall]
  unfold demandMoved
  simp only [ite_get, hclear, onChan_get, ite_self]

theorem switchCell_other {c k : Nat} (hne : k ≠ Obj.switchOnCount c) (b : Bool) (s : State) :
    (switchCell c b s).get k = s.get k := by
  unfold switchCell
  simp only [ite_get, onChan_get, State.inc, get_put_ne _ _ _ _ hne, ite_self]

theorem orphanStateWritten_self {c k v : Nat} {s : State} (hk : k = Obj.orphanState c) (hc : isConst k = false) :
    (orphanStateWritten c v s).get k = fitTo k v := by
  subst hk
  unfold orphanStateWritten withDemand
  refine (demandMoved_other (by simp only [Obj.orphanState, Obj.diagStatus]; omega) _ _).trans ?_
  exact (onChan_get ..).trans (get_put_self _ _ _ hc)

theorem directPinWritten_self {c k v : Nat} {s : State} (hk : k = Obj.directPin c) (hc : isConst k = false) :
    (directPinWritten c v s).get k = fitTo k v := by
  subst hk
  unfold directPinWritten applyCell withDemand
  refine (switchCell_other (by simp only [Obj.directPin, Obj.switchOnCount]; omega) _ _).trans
    ((demandMoved_other (by simp only [Obj.directPin, Obj.diagStatus]; omega) _ _).trans ?_)
  exact (get_congr _ _ _ rfl rfl : _ = (s.put (Obj.directPin c) v).get (Obj.directPin c)).trans (get_put_self _ _ _ hc)

/-- A number found at another spot of the dictionary is another number. -/
theorem ne_of_spot {k k' i : Nat} {g : Group} {d : Sub} (hlk : lookup k = some (g, i, d))
    (h : (lookup k').map (fun x => (x.1.lo, x.2.2.sub)) ≠ some (g.lo, d.sub)) : k ≠ k' := by
  rintro rfl
  exact h (by rw [hlk]; rfl)

/-- A number lies in the range of its group. -/
theorem lookup_below {k i : Nat} {g : Group} {d : Sub} (hlk : lookup k = some (g, i, d)) : k / 256 < g.lo + g.n := by
  unfold lookup at hlk
  dsimp only at hlk
  split at hlk
  next g' hg =>
    split at hlk
    next d' hd =>
      cases hlk
      exact of_decide_eq_true ((Bool.and_eq_true _ _ ▸ List.find?_some hg : _ ∧ _).2)
    next => cases hlk
  next => cases hlk

/-- The settings of pins lie in chapter 16#18. -/
theorem pinGroups_below : (objGroups.all fun g => !(g.lo == 0x1800 || g.lo == 0x1810) ||
    decide (g.lo + g.n ≤ 0x180C ∨ (0x1810 = g.lo ∧ g.lo + g.n ≤ 0x1900))) = true := by
  decide +kernel

/-- WakeAt and RtcTrim stand alone. -/
theorem clockGroups_single : (objGroups.all fun g => !(g.lo == 0x1421 || g.lo == 0x1503) || g.n == 1) = true := by
  decide +kernel

theorem single_of_clockGroup {k i : Nat} {g : Group} {d : Sub} (hlk : lookup k = some (g, i, d))
    (hlo : g.lo = 0x1421 ∨ g.lo = 0x1503) : k = 256 * g.lo + d.sub := by
  have hbelow := lookup_below hlk
  have hspell := lookup_spells hlk
  have hall := List.all_eq_true.1 clockGroups_single g (mem_of_lookup hlk).1
  have hn : g.n = 1 := by
    obtain h | h := hlo <;> simpa [h] using hall
  omega

/-- Settings of pins are no records of latches and show no conflicts. -/
theorem pinSetting_apart {k i : Nat} {g : Group} {d : Sub} (hlk : lookup k = some (g, i, d))
    (hlo : g.lo = 0x1800 ∨ g.lo = 0x1810) :
    k ≠ Obj.conflictFlags ∧ k ≠ Obj.conflictCount ∧ ∀ a n, k ≠ latchRecordKey a n := by
  have hbelow := lookup_below hlk
  have hspell := lookup_spells hlk
  have hall := List.all_eq_true.1 pinGroups_below g (mem_of_lookup hlk).1
  have hn : g.lo + g.n ≤ 0x180C ∨ (0x1810 = g.lo ∧ g.lo + g.n ≤ 0x1900) := by
    obtain h | h := hlo <;> simpa [h] using hall
  simp only [Obj.conflictFlags, Obj.conflictCount]
  refine ⟨by omega, by omega, fun a n => ?_⟩
  unfold latchRecordKey
  split <;> simp only [Obj.latchRecord0, Obj.latchRecord1] <;> omega

section
variable {k i v : Nat} {g : Group} {d : Sub} {s : State}

/-- A value that the row WRITE takes reads back, whatever follows from it; a past WakeAt alone goes back (R333). -/
theorem putHook_self (hlk : lookup k = some (g, i, d)) (hc : isConst k = false)
    (hw : writeWork g.lo d.sub v = .write) (hwake : k ≠ Obj.wakeAt) : (putHook k v s).get k = fitTo k v := by
  have hspell := lookup_spells hlk
  have hput : (s.put k v).get k = fitTo k v := get_put_self _ _ _ hc
  have hclock (h : ∀ c ∈ clockKeys, (lookup c).map (fun x => (x.1.lo, x.2.2.sub)) ≠ some (g.lo, d.sub)) :
      (settleClock (s.put k v)).get k = fitTo k v :=
    (settleClock_get (fun hm => ne_of_spot hlk (h k hm) rfl) _).trans hput
  have hpins (h : k ≠ Obj.conflictFlags ∧ k ≠ Obj.conflictCount ∧ ∀ a n, k ≠ latchRecordKey a n) :
      (settlePins (s.put k v)).get k = fitTo k v := (settlePins_other h.1 h.2.1 h.2.2).trans hput
  unfold putHook
  rw [hlk]
  dsimp only
  split
  case h_3 hlo hsub => exact hclock (by rw [hlo, hsub]; decide)
  case h_4 hlo hsub => exact hclock (by rw [hlo, hsub]; decide)
  case h_5 hlo hsub => exact hclock (by rw [hlo, hsub]; decide)
  case h_8 hlo hsub => exact absurd (by rw [single_of_clockGroup hlk (.inl hlo), hlo, hsub]) hwake
  case h_10 hlo hsub => exact hclock (by rw [hlo, hsub]; decide)
  case h_11 hlo hsub =>
    obtain rfl : k = Obj.rtcTrim := by rw [single_of_clockGroup hlk (.inr hlo), hlo, hsub]
    exact get_put_self _ _ _ hc
  case h_16 hlo => exact hpins (pinSetting_apart hlk (.inl hlo))
  case h_18 hlo => exact hpins (pinSetting_apart hlk (.inr hlo))
  case h_19 hlo =>
    rw [hlo] at hw
    exact absurd hw (by unfold writeWork; nofun)
  case h_20 hlo hsub => exact (onGp_get ..).trans hput
  case h_26 => exact (onAxis_get ..).trans hput
  case h_27 => exact (onAxis_get ..).trans hput
  case h_28 hlo hsub =>
    refine hpins ⟨ne_of_spot hlk ?_, ne_of_spot hlk ?_, fun a n => ?_⟩
    · rw [hlo, hsub]; decide
    · rw [hlo, hsub]; decide
    · unfold latchRecordKey
      split <;> simp only [Obj.latchRecord0, Obj.latchRecord1] <;> omega
  case h_29 => exact (onAxis_get ..).trans hput
  case h_30 => exact (onAxis_get ..).trans hput
  case h_31 hlo hsub =>
    rw [hlo, hsub] at hw
    have hmode : writeWork 0x6000 0x01 v = if v = 5 ∨ v = 6 then .gangModeWrite else .channelModeWrite := rfl
    rw [hmode] at hw
    split at hw <;> exact absurd hw (by decide)
  case h_34 => exact (get_congr _ _ _ rfl rfl : _ = (s.put k v).get k).trans hput
  case h_35 => exact (get_congr _ _ _ rfl rfl : _ = (s.put k v).get k).trans hput
  case h_36 => exact (get_congr _ _ _ rfl rfl : _ = (s.put k v).get k).trans hput
  case h_37 hlo hsub => exact orphanStateWritten_self (by simp only [Obj.orphanState]; omega) hc
  case h_38 hlo hsub => exact directPinWritten_self (by simp only [Obj.directPin]; omega) hc
  case h_39 => exact hput
  all_goals
    rename_i hlo hsub
    rw [hlo, hsub] at hw
    exact absurd hw nofun

end

/-- No value of its own is counted in by notices, moved fills, records and completions. -/
theorem countedKeys_held : (countedKeys.all fun k => (lookup k).all fun x => !x.2.2.holds) = true := by decide +kernel

theorem holds_of_acc {d : Sub} (hacc : d.acc = .rw ∨ d.acc = .rwd ∨ ∃ m, d.acc = .rws m)
    (hw1c : d.flags.contains .w1c = false) (hses : d.flags.contains .session = false) : d.holds = true := by
  unfold Sub.holds
  obtain h | h | ⟨m, h⟩ := hacc <;> simp only [h, hw1c, hses] <;> rfl

theorem not_counted_of_holds {k i : Nat} {g : Group} {d : Sub} (hlk : lookup k = some (g, i, d)) (hd : d.holds = true) :
    k ∉ countedKeys := by
  intro hm
  have h := List.all_eq_true.1 countedKeys_held k hm
  rw [hlk, Option.all_some, hd] at h
  cases h

/-- Settles O58: what follows from the value leaves it, and so does the COMPLETE. -/
theorem everyPlainObjectTakesWhatIsWritten : Obligations.EveryPlainObjectTakesWhatIsWritten := by
  unfold Obligations.EveryPlainObjectTakesWhatIsWritten
  intro s l f idx sub k data g i d hk h hw hlk hacc hw1c hses hwake
  have hwork := h.work_eq hk.symm hlk
  rw [hw] at hwork
  have hc := not_const_of_acc hlk hacc
  have hkept := countWrite_putHook_kept k (leNat data) s
  refine h.carried.answers_action (w := .write) h.asks hw hk.symm h.passes
    (applyWrite_value hlk (spot_of_plain hlk hacc hw1c hses hwork.symm)) hkept.1 hkept.2 fun hcmp => ⟨?_, ?_⟩
  · rw [calms_completeWith _ _ _ _ _ k (not_counted_of_holds hlk (holds_of_acc hacc hw1c hses)), countWrite_get]
    exact putHook_self hlk hc hwork.symm hwake
  · rw [hcmp]
    exact List.mem_append_right _ List.mem_cons_self

end Sys2Proof.Machine
end

section
/-! Transactions of other sessions while a session ends. -/
namespace Sys2Proof.Machine
open Sys2Proof Sys2Proof.Config

/-! A transaction of another session while a session ends. -/

set_option Elab.async false in
theorem find_kept {α : Type} {p q : α → Bool} {x : α} {xs : List α} (h : xs.find? p = some x) (hq : q x = true) :
    (xs.filter q).find? p = some x := by
  induction xs with
  | nil => cases h
  | cons a as ih =>
    rw [List.find?_cons] at h
    split at h
    · obtain rfl : a = x := Option.some.inj h
      rw [List.filter_cons, if_pos hq, List.find?_cons]
      simp only [*]
    · rename_i hp
      rw [List.filter_cons]
      split
      · rw [List.find?_cons, hp]
        exact ih h
      · exact ih h

theorem find_mapped {id : Nat} {g : Flight → Flight} {f : Flight} (hid : ∀ x, (g x).id = x.id) (hg : g f = f)
    {xs : List Flight} (h : xs.find? (·.id == id) = some f) : (xs.map g).find? (·.id == id) = some f := by
  rw [List.find?_map]
  have hcomp : ((fun x : Flight => x.id == id) ∘ g) = fun x => x.id == id := funext fun x => by simp [hid]
  rw [hcomp, h, Option.map_some, hg]

/-- Numbers unlike each other name one transaction. -/
theorem Fresh.eq_of_id {s : State} (h : Fresh s) {x f : Flight} (hx : x ∈ s.host.flights) (hf : f ∈ s.host.flights)
    (hid : x.id = f.id) : x = f := by
  obtain ⟨i, hi, rfl⟩ := List.getElem_of_mem hx
  obtain ⟨j, hj, rfl⟩ := List.getElem_of_mem hf
  have hpair := List.pairwise_iff_getElem.1 h.1
  obtain hlt | heq | hgt := Nat.lt_trichotomy i j
  · exact absurd hid (hpair i j hi hj hlt)
  · subst heq
    rfl
  · exact absurd hid.symm (hpair j i hj hi hgt)

theorem mem_of_flight {s : State} {id : Nat} {f : Flight} (h : s.flight id = some f) : f ∈ s.host.flights :=
  List.mem_of_find?_eq_some h

/-- The transaction `f` is in flight as it was, or has completed with status 0. -/
def Kept (f : Flight) (n : Nat) (t : State) : Prop :=
  t.now = n ∧ (t.flight f.id = some f ∨ doneOf f 0 0 [] n ∈ t.host.done)

section
variable {f : Flight} {n : Nat} {s t : State}

theorem Kept.congr (h : Kept f n s) (hf : t.host.flights = s.host.flights) (hd : t.host.done = s.host.done)
    (hn : t.now = s.now) : Kept f n t := by
  unfold Kept State.flight at *
  rw [hf, hd, hn]
  exact h

theorem Kept.put (h : Kept f n s) (k v : Nat) : Kept f n (s.put k v) :=
  h.congr (by rw [put_host]) (by rw [put_host]) (put_now ..)

theorem Kept.onPlace (h : Kept f n s) (p : Nat) (g : Place → Place) : Kept f n (s.onPlace p g) := h.congr rfl rfl rfl

theorem Kept.onPow (h : Kept f n s) (g : Power → Power) : Kept f n (s.onPow g) := h.congr rfl rfl rfl

theorem Kept.remarkSemas (h : Kept f n s) (v w : SemaState) : Kept f n (remarkSemas v w s) := h.congr rfl rfl rfl

theorem Kept.complete (h : Kept f n s) (hph : f.phase ≠ .done) (ho : f.orphan = false) (id : Nat) :
    Kept f n (complete id 0 s) := by
  obtain ⟨hn, hf | hd⟩ := h
  · refine ⟨(completeWith_now ..).trans hn, ?_⟩
    by_cases hid : f.id = id
    · refine .inr ?_
      rw [← hid, Machine.complete, completeWith_host_done f 0 0 [] s hf hph ho, hn]
      exact List.mem_append_right _ List.mem_cons_self
    · exact .inl ((completeWith_flight hid 0 0 [] s).trans hf)
  · exact ⟨(completeWith_now ..).trans hn, .inr (completeWith_done_mem hd _ _ _ _)⟩

theorem Kept.completeAll (h : Kept f n s) (hph : f.phase ≠ .done) (ho : f.orphan = false) (ids : List Nat) :
    Kept f n (completeAll ids 0 s) :=
  each_keeps (P := Kept f n) (fun id _ _ ht => ht.complete hph ho id) h

theorem Kept.releaseSema (h : Kept f n s) (hph : f.phase ≠ .done) (ho : f.orphan = false) (i : Nat) :
    Kept f n (releaseSema i s) := by
  unfold Machine.releaseSema
  split
  · exact h.congr rfl rfl rfl
  · refine Kept.completeAll ?_ hph ho _
    exact h.congr rfl rfl rfl

theorem Kept.releaseAll (h : Kept f n s) (hph : f.phase ≠ .done) (ho : f.orphan = false) (v : SemaState) :
    Kept f n (releaseAll v s) :=
  each_keeps (P := Kept f n) (fun i _ _ ht => ht.releaseSema hph ho i) h

theorem Kept.orphanHost (h : Kept f n s) (m : Nat) : Kept f n (orphanHost m s) := by
  have hm : Moves (caps [.objs, .chans]) s (Machine.orphanHost m s) := orphanHost_moves (.refl s)
  have hf : ((Machine.orphanHost m s).host.flights, (Machine.orphanHost m s).host.done,
      (Machine.orphanHost m s).host.nextFlight) = (s.host.flights, s.host.done, s.host.nextFlight) :=
    hm.part .flights (by decide)
  simp only [Prod.mk.injEq] at hf
  exact h.congr hf.1 hf.2.1 hm.now

theorem Kept.holdoffEnd (h : Kept f n s) (hph : f.phase ≠ .done) (ho : f.orphan = false) (m : Nat) :
    Kept f n (holdoffEnd m s) :=
  ((h.releaseAll hph ho _).orphanHost m).put _ _

/-- The end of another session's work leaves the transaction in flight. -/
theorem workDropped_flight {no : Nat} (hfresh : Fresh s) (hf : s.flight f.id = some f) (hph : f.phase ≠ .done)
    (hs : no ≠ f.sess) : (workDropped no s).flight f.id = some f := by
  have hmem := mem_of_flight hf
  have hne : (f.sess == no) = false := by simpa using fun h => hs h.symm
  have hid : f.id ∉ unstartedIds no s := by
    intro h
    obtain ⟨x, hx, hxid⟩ := List.mem_map.1 h
    obtain ⟨hx, hp⟩ := List.mem_filter.1 hx
    obtain rfl := hfresh.eq_of_id hx hmem hxid
    rw [hne, Bool.false_and] at hp
    cases hp
  have hg : (fun x : Flight => if x.sess == no then { x with orphan := true } else x) f = f := by
    dsimp only
    rw [hne]
    rfl
  refine find_mapped (g := fun x => if x.sess == no then { x with orphan := true } else x) (fun x => ?_) hg
    (find_kept (q := fun x => !(unstartedIds no s).contains x.id && !(x.sess == no && decide (x.phase = .done))) hf ?_)
  · split <;> rfl
  · simp [hid, hne]

theorem endWork_eq_flights (p : Nat) (se : Session) (s : State) : ∃ (u : State) (n m : Nat),
    u.host.flights = s.host.flights ∧ (Fresh s → Fresh u) ∧
    endWork p se s = each [min p 2, 3, 4, 8, 9] moveFill (if p < 2 then
      ((workDropped se.no u).addTo (Obj.droppedTransactions p) n).addTo (Obj.discardedCompletions p) m
      else workDropped se.no u) := by
  refine ⟨moveFill (13 + p) (s.onHost fun h => if p < 2 then { h with bursts := h.bursts.set p Burst.closed } else h), _, _,
    (moveFill_host_flights ..).trans ?_, fun hfresh => ?_, rfl⟩
  · by_cases h : p < 2
    · simp [h, State.onHost]
    · simp [h, State.onHost]
  · refine (moveFill_moves (κ := caps allParts) (.refl _)).fresh ?_
    by_cases h : p < 2
    · simpa [h, State.onHost, Fresh] using hfresh
    · simpa [h, State.onHost] using hfresh

theorem endWork_flight {se : Session} (p : Nat) (hfresh : Fresh s) (hf : s.flight f.id = some f) (hph : f.phase ≠ .done)
    (hs : se.no ≠ f.sess) : (endWork p se s).flight f.id = some f := by
  obtain ⟨u, n, m, hu, hfr, heq⟩ := endWork_eq_flights p se s
  have hdrop : (workDropped se.no u).flight f.id = some f :=
    workDropped_flight (hfr hfresh) (by unfold State.flight; rw [hu]; exact hf) hph hs
  rw [heq]
  unfold State.flight
  rw [(moveFills_host _ _).1]
  split
  · rw [State.addTo, State.addTo, put_host, put_host]
    exact hdrop
  · exact hdrop

theorem endSession_kept {p cause : Nat} {se : Session} (hb : s.bound p = some se) (hp : p < 2) (h1 : cause ≠ 1)
    (h4 : cause ≠ 4) (hfresh : Fresh s) (hf : s.flight f.id = some f) (hph : f.phase ≠ .done) (ho : f.orphan = false)
    (hs : se.no ≠ f.sess) : Kept f s.now (endSession p cause s) := by
  have hd : Moves (caps [.objs, .places]) s (dropSubs p s) := dropSubs_moves (.refl s)
  have hdf : ((dropSubs p s).host.flights, (dropSubs p s).host.done, (dropSubs p s).host.nextFlight) =
      (s.host.flights, s.host.done, s.host.nextFlight) := hd.part .flights (by decide)
  simp only [Prod.mk.injEq] at hdf
  have hw : (endWork p se (dropSubs p s)).flight f.id = some f :=
    endWork_flight p (hd.fresh hfresh) (by unfold State.flight; rw [hdf.1]; exact hf) hph hs
  have hnow : (endWork p se (dropSubs p s)).now = s.now :=
    (endWork_moves (κ := caps allParts) (.refl _)).now.trans hd.now
  have hout : Kept f s.now (sessionOut p se s) := by
    unfold sessionOut
    generalize endWork p se (dropSubs p s) = u at hw hnow ⊢
    refine Kept.completeAll ?_ hph ho _
    unfold clearPlace
    have hu : Kept f s.now u := ⟨hnow, .inl hw⟩
    exact (((hu.onPlace _ _).put _ _).put _ _).put _ _
  have hheld : Kept f s.now (heldOff p (lossShown p cause (sessionOut p se s))) := by
    unfold heldOff lossShown
    exact (((((hout.put _ _).put _ _).onPow _).remarkSemas _ _).put _ _).onPlace _ _
  rw [endSession_master hb hp h1 h4]
  split
  · exact hheld.holdoffEnd hph ho p
  · exact hheld

end

/-- What ends a session still holds after a COMPLETE. -/
theorem Ends.completeWith {p : Fin 8} {cause : Nat} {se : Session} {s u : State} (h : Ends p cause se s u)
    (id st det : Nat) (data : List Byte) : Ends p cause se s (completeWith id st det data u) := by
  have hold : Told u (Machine.completeWith id st det data u) := told_completeWith ..
  have hend : Ended se.no (Machine.completeWith id st det data u) := Ended.completeWith ⟨h.flights, h.done⟩ id st det data
  have hplace : (Machine.completeWith id st det data u).place p = u.place p := by
    unfold State.place
    rw [hold.host_places]
  have hsema (n : Nat) : (Machine.completeWith id st det data u).sema n = u.sema n := by
    unfold State.sema
    rw [hold.host_semas]
  have hq := placeKeys_quiet p
  simp only [List.forall_mem_cons] at hq
  obtain ⟨⟨htn, -⟩, ⟨han, -⟩, ⟨hin, -⟩, ⟨hpn, -⟩, -⟩ := hq
  have hno : (Machine.completeWith id st det data u).placeNo p = u.placeNo p := hold.obj _ hpn
  obtain ⟨ht, ha, hi⟩ := h.shown
  refine ⟨by rw [hplace]; exact h.gone, ⟨(hold.obj _ htn).trans ht, (hold.obj _ han).trans ha, (hold.obj _ hin).trans hi⟩,
    hend.flights, hend.done, fun h2 => hno.trans (h.observer h2), fun h2 => ?_, fun h2 hs => ?_⟩
  · obtain ⟨hc, hl⟩ := h.master h2
    obtain ⟨-, -, hcn, hln, -⟩ := masterKeys ⟨p, h2⟩
    exact ⟨(hold.obj _ hcn).trans hc, (hold.obj _ hln).trans hl⟩
  · obtain ⟨h3, hsince, hall⟩ := h.holdoff h2 hs
    exact ⟨hno.trans h3, by rw [hplace]; exact hsince, fun n hn => (hsema n).trans (hall n hn)⟩

end Sys2Proof.Machine
end

section
/-! Slot resets and keys. -/
namespace Sys2Proof.Machine
open Sys2Proof Sys2Proof.Config

section
variable {l : Fin 32} {f : Flight} {data : List Byte} {s : State}

/-! Slot resets and keys. -/

set_option Elab.async false in
theorem slotReset_other {m : Nat} {se : Session} (hm : m < 2) (hne : m ≠ f.place)
    (h : WritesAt l f (0x1101 + m) 8 data s) (hb : s.bound m = some se) (hs : se.no ≠ f.sess) (hfresh : Fresh s) :
    Answers (.slotReset l) s fun t => Ends m 3 se s t ∧ doneOf f 0 0 [] s.now ∈ t.host.done := by
  obtain ⟨g, d, hlk, hlo, hsub⟩ := entry_at (by decide : entryIs 0x110108 0x1101 8 2 = true) hm
  have hk : 256 * (0x1101 + m) + 8 = 0x110108 + 256 * m := by omega
  have hact : applyWrite (f.writer true) (0x110108 + 256 * m) data s = (some 0, endSession m 3 s) := by
    have hreset : slotReset (f.writer true) m s = endSession m 3 s := if_neg fun he => hne he.symm
    unfold applyWrite
    rw [hlk]
    dsimp only
    rw [hlo, hsub, ← hreset]
    rfl
  have hw : f.work = .slotReset := by rw [h.work_eq hk hlk, hlo, hsub]; rfl
  have hmv : Moves (caps allParts) s (endSession m 3 s) := endSession_moves (.refl s)
  have hf := h.carried
  have hph : f.phase ≠ .done := by rw [hf.phase]; nofun
  have hpass := h.passes
  rw [hk] at hpass
  refine hf.answers_run hw (t := completeWith f.id 0 0 [] (endSession m 3 s)) ?_ ((completeWith_variant ..).trans hmv.variant)
    ((completeWith_pending ..).trans hmv.pending)
    ⟨Ends.completeWith (p := ⟨m, by omega⟩) (endSession_ends (p := ⟨m, by omega⟩) hb (by decide) (by decide) (by decide)) .., ?_⟩
  · rw [h.asks.runReq_eq, hk, runWrite_taken hpass hact, complete]
  · obtain ⟨hn, hin | hdone⟩ := endSession_kept (cause := 3) hb hm (by decide) (by decide) hfresh hf.known hph hf.own hs
    · rw [completeWith_host_done f 0 0 [] _ hin hph hf.own, hn]
      exact List.mem_append_right _ List.mem_cons_self
    · exact completeWith_done_mem hdone ..

theorem slotReset_own {se : Session} (hp : f.place < 2) (h : WritesAt l f (0x1101 + f.place) 8 data s)
    (hse : (s.place f.place).session = some se) : Answers (.slotReset l) s fun t => Completed f 0 0 [] s t ∧
      (t.place f.place).session = some { se with endOn := some (f.id, 3) } := by
  obtain ⟨g, d, hlk, hlo, hsub⟩ := entry_at (by decide : entryIs 0x110108 0x1101 8 2 = true) hp
  have hk : 256 * (0x1101 + f.place) + 8 = 0x110108 + 256 * f.place := by omega
  have hact : applyWrite (f.writer true) (0x110108 + 256 * f.place) data s =
      (some 0, s.onSession f.place fun x => { x with endOn := some (f.id, 3) }) := by
    have hreset : slotReset (f.writer true) f.place s = s.onSession f.place fun x => { x with endOn := some (f.id, 3) } :=
      if_pos rfl
    unfold applyWrite
    rw [hlk]
    dsimp only
    rw [hlo, hsub, ← hreset]
    rfl
  have hw : f.work = .slotReset := by rw [h.work_eq hk hlk, hlo, hsub]; rfl
  refine h.carried.answers_action h.asks hw hk h.passes hact rfl rfl fun hcmp => ⟨hcmp, ?_⟩
  have hpl := (told_completeWith f.id 0 0 [] (s.onSession f.place fun x => { x with endOn := some (f.id, 3) })).host_places
  unfold State.place
  rw [hpl]
  exact onSession_session hse _

theorem keyWrite_taken {r : Nat} (hr : r < 3) (h : WritesAt l f 0x1110 (1 + r) data s) :
    Answers (.keyWrite l) s fun t => Completed f 0 0 [] s t ∧
      CountsUp Obj.keyWriteNo s t ∧ t.get (Obj.keyM0 + r) = fitTo (Obj.keyM0 + r)
        (leNat data ^^^ leNat (hmac f.sk (label "DLS-KW" ++ [byte r] ++ toLe 4 (s.get Obj.keyWriteNo)))) := by
  have hspot : ∀ r < 3, entryIs (Obj.keyM0 + r) 0x1110 (1 + r) 1 = true ∧ noisy (Obj.keyM0 + r) = false ∧
      Obj.keyM0 + r ≠ Obj.keyWriteNo := by decide
  obtain ⟨he, hn, hne⟩ := hspot r hr
  obtain ⟨g, d, hlk, hlo, hsub⟩ := entry_at he (by decide : 0 < 1)
  have hc := entry_not_const he (by decide : 0 < 1)
  rw [Nat.mul_zero, Nat.add_zero] at hlk hc
  have hk : 256 * 0x1110 + (1 + r) = Obj.keyM0 + r := by simp only [Obj.keyM0]; omega
  have hact : applyWrite (f.writer true) (Obj.keyM0 + r) data s =
      (some 0, countWrite (Obj.keyM0 + r) (keyWritten r (leNat data) f.sk s)) := by
    obtain rfl | rfl | rfl : r = 0 ∨ r = 1 ∨ r = 2 := by omega
    all_goals
      unfold applyWrite
      rw [hlk]
      dsimp only
      rw [hlo, hsub]
      rfl
  have hw : f.work = .keyWrite := by
    rw [h.work_eq hk hlk, hlo, hsub]
    obtain rfl | rfl | rfl : r = 0 ∨ r = 1 ∨ r = 2 := by omega
    all_goals rfl
  have hhost : (countWrite (Obj.keyM0 + r) (keyWritten r (leNat data) f.sk s)).host = s.host := by
    rw [countWrite_host, keyWritten, State.inc, put_host, put_host]
  refine h.carried.answers_action h.asks hw hk h.passes hact (by rw [hhost]) (by rw [hhost]) fun hcmp => ⟨hcmp, ?_, ?_⟩
  · rw [CountsUp, completeWith_get _ _ _ _ _ _ (by decide), countWrite_get, keyWritten, State.inc,
      get_put_self _ _ _ (by decide), get_put_ne _ _ _ _ hne.symm]
  · rw [completeWith_get _ _ _ _ _ _ hn, countWrite_get, keyWritten, State.inc, get_put_ne _ _ _ _ hne,
      get_put_self _ _ _ hc]

end

end Sys2Proof.Machine
end

section
/-! What waits for a commit. -/
namespace Sys2Proof.Machine
open Sys2Proof Sys2Proof.Config

/-! What a commit must follow waits for it. -/

section
variable {f : Flight} {s t u : State}

set_option Elab.async false in
theorem Waits.congr (h : Waits f s t) (hf : u.host.flights = t.host.flights) (hd : u.host.done = t.host.done) : Waits f s u := by
  unfold Waits
  rw [hf, hd]
  exact h

theorem holdFlight_waits (f : Flight) (s : State) : Waits f s (holdFlight f.id s) := by
  unfold holdFlight
  refine ⟨(moveFill_host_done ..).trans rfl, fun x hx hid => ?_⟩
  rw [moveFill_host_flights] at hx
  obtain ⟨y, -, rfl⟩ := List.mem_map.1 hx
  split
  · rfl
  · rename_i hne
    rw [if_neg hne] at hid
    exact absurd (by simpa using hid) hne

theorem saltOpen_told (h : Told s t) : t.saltOpen = s.saltOpen := by
  unfold State.saltOpen
  rw [h.obj _ (by decide), h.recd]

theorem addFlush_host_kept (b : Bool) (ids : List Nat) (s : State) : (addFlush b ids s).host = s.host := by
  unfold addFlush
  split <;> rfl

/-- The flush that a transaction asks for completes it, joined or queued. -/
theorem addFlush_commits {b : Bool} {id : Nat} (ho : s.saltOpen = true)
    (hq : b = true ∨ ∀ j ∈ s.recd.queue, j.kind ≠ .flush true) :
    ∃ j ∈ (addFlush b [id] s).recd.queue, j.kind = .flush b ∧ id ∈ j.flights := by
  unfold addFlush
  rw [ho, Bool.not_true, if_neg Bool.false_ne_true]
  by_cases hany : s.recd.queue.any Job.isFlush = true
  · obtain ⟨j, hj, hf⟩ := List.any_eq_true.1 hany
    obtain ⟨b', hkind⟩ : ∃ b', j.kind = .flush b' := by
      unfold Job.isFlush at hf
      split at hf
      · exact ⟨_, ‹_›⟩
      · cases hf
    have hb : (b' || b) = b := by
      obtain rfl | hall := hq
      · rw [Bool.or_true]
      · cases b'
        · rfl
        · exact absurd hkind (hall j hj)
    refine ⟨{ j with kind := .flush (b' || b), flights := j.flights ++ [id] }, ?_, congrArg _ hb, by simp⟩
    simp only [State.onRec, hany, if_true]
    refine List.mem_map.2 ⟨j, hj, ?_⟩
    rw [hkind]
  · refine ⟨Job.waiting (.flush b) [id], ?_, rfl, List.mem_cons_self⟩
    simp only [State.onRec, hany]
    exact List.mem_append_right _ List.mem_cons_self

/-- A job other than a flush starts and leaves the queue as it is. -/
theorem startJob_running {j : Job} (hj : j.isFlush = false) (s : State) :
    (∃ j', (startJob j s).recd.running = some j' ∧ j'.kind = j.kind ∧ j'.flights = j.flights) ∧
    (startJob j s).recd.queue = s.recd.queue := by
  obtain ⟨kind⟩ := j
  unfold startJob
  cases kind
  case flush b => cases hj
  all_goals exact ⟨⟨_, rfl, rfl, rfl⟩, by simp [State.onRec]⟩

/-- A job that a transaction asks for completes it, waiting or started. -/
theorem addJob_commits {k : JobKind} {id : Nat} (ho : s.saltOpen = true) :
    ∃ j, (j ∈ (addJob k [id] s).recd.queue ∨ (addJob k [id] s).recd.running = some j) ∧ j.kind = k ∧ id ∈ j.flights := by
  have hmem : Job.waiting k [id] ∈ s.recd.queue ++ [Job.waiting k [id]] := List.mem_append_right _ List.mem_cons_self
  unfold addJob
  rw [if_pos ho]
  unfold kick
  split
  · rename_i j js hrun hqueue
    have hqueue : s.recd.queue ++ [Job.waiting k [id]] = j :: js := hqueue
    split
    · exact ⟨_, .inl hmem, rfl, List.mem_cons_self⟩
    · rw [hqueue] at hmem
      rename_i hflush
      obtain ⟨⟨j', hrun', hkind, hfl⟩, hq'⟩ := startJob_running (Bool.eq_false_iff.2 hflush)
        ((s.onRec fun r => { r with queue := r.queue ++ [Job.waiting k [id]] }).onRec fun r => { r with queue := js })
      obtain hhead | hin := List.mem_cons.1 hmem
      · exact ⟨j', .inr hrun', by rw [hkind, ← hhead]; rfl, by rw [hfl, ← hhead]; exact List.mem_cons_self⟩
      · exact ⟨_, .inl (by rw [hq']; exact hin), rfl, List.mem_cons_self⟩
  · exact ⟨_, .inl hmem, rfl, List.mem_cons_self⟩

end

end Sys2Proof.Machine
end

section
/-! Device resets, flushes and clears. -/
namespace Sys2Proof.Machine
open Sys2Proof Sys2Proof.Config

section
variable {l : Fin 32} {f : Flight} {idx sub k : Nat} {data : List Byte} {s u : State} {w : Work}

set_option Elab.async false in
/-- An action that leaves its transaction waiting answers with what it left. -/
theorem Carries.answers_waiting (h : Carries l f s) {o : OpKind} (ha : f.Asks o idx sub data) (hw : f.work = w)
    (hk : 256 * idx + sub = k) (hpass : s.writeRefusal (f.writer true) o (256 * idx + sub) data = 0)
    (hact : applyWrite (f.writer true) k data s = (none, u)) {P : State → Prop} (hP : P u) : Answers (w.row l) s P := by
  subst hk
  have hm : Moves (caps allParts) s u := by
    have := applyWrite_moves (κ := caps allParts) (w := f.writer true) (k := 256 * idx + sub) (data := data) (.refl s)
    rwa [hact] at this
  exact h.answers_run hw ((ha.runReq_eq s).trans (runWrite_held hpass hact)) hm.variant hm.pending hP

/-- An action that changes nothing answers with its status. -/
theorem Carries.answers_status (h : Carries l f s) {o : OpKind} (ha : f.Asks o idx sub data) (hw : f.work = w)
    (hk : 256 * idx + sub = k) (hpass : s.writeRefusal (f.writer true) o (256 * idx + sub) data = 0) {st : Nat}
    (hact : applyWrite (f.writer true) k data s = (some st, s)) :
    Answers (w.row l) s fun t => Untouched s t ∧ Completed f st 0 [] s t :=
  h.answers_action ha hw hk hpass hact rfl rfl fun hcmp => ⟨(told_completeWith ..).untouched, hcmp⟩

/-! Device resets, flushes and clears. -/

theorem deviceReset_spot (h : WritesAt l f 0x1600 3 data s) : f.work = .deviceReset ∧
    applyWrite (f.writer true) 0x160003 data s = deviceReset (f.writer true) s := by
  obtain ⟨g, d, hlk, hlo, hsub⟩ := entry_at (i := 0) (by decide : entryIs 0x160003 0x1600 3 1 = true) (by decide)
  refine ⟨?_, ?_⟩
  · rw [h.work_eq rfl hlk, hlo, hsub]
    rfl
  · unfold applyWrite
    rw [hlk]
    dsimp only
    rw [hlo, hsub]
    rfl

theorem deviceReset_open (h : WritesAt l f 0x1600 3 data s) (ho : s.saltOpen = true) :
    Answers (.deviceReset l) s fun t => Waits f s t ∧ t.rst.device = true ∧ CommitsWith (.flush true) f t := by
  obtain ⟨hw, hact⟩ := deviceReset_spot h
  have hopen : (s.onRst fun r => { r with device := true }).saltOpen = true := ho
  have hheld : (holdFlight f.id (s.onRst fun r => { r with device := true })).saltOpen = true :=
    (saltOpen_told (told_holdFlight ..)).trans hopen
  have hrun : deviceReset (f.writer true) s =
      (none, addFlush true [f.id] (holdFlight f.id (s.onRst fun r => { r with device := true }))) := by
    unfold deviceReset
    exact if_pos hopen
  obtain ⟨j, hj, hkind, hid⟩ := addFlush_commits (b := true) (id := f.id) hheld (.inl rfl)
  refine h.carried.answers_waiting h.asks hw rfl h.passes (hact.trans hrun) ⟨?_, ?_, j, .inl hj, hkind, hid⟩
  · have hwaits : Waits f s (holdFlight f.id (s.onRst fun r => { r with device := true })) :=
      holdFlight_waits f (s.onRst fun r => { r with device := true })
    exact hwaits.congr (by rw [addFlush_host_kept]) (by rw [addFlush_host_kept])
  · rw [addFlush_rst, (told_holdFlight ..).rst]
    rfl

theorem deviceReset_shut (h : WritesAt l f 0x1600 3 data s) (ho : s.saltOpen = false) (hfin : s.finalRuns = false) :
    Answers (.deviceReset l) s fun t =>
      Completed f 0 0 [] s t ∧ t.rst.device = true ∧ t.rst.deviceCommitAt = some s.now := by
  obtain ⟨hw, hact⟩ := deviceReset_spot h
  have hrun : deviceReset (f.writer true) s =
      (some 0, (s.onRst fun r => { r with device := true }).onRst fun r => { r with deviceCommitAt := some s.now }) := by
    have ho' : (s.onRst fun r => { r with device := true }).saltOpen = false := ho
    have hfin' : (s.onRst fun r => { r with device := true }).finalRuns = false := hfin
    unfold deviceReset
    dsimp only
    rw [ho', hfin', if_neg Bool.false_ne_true, if_neg Bool.false_ne_true]
    rfl
  refine h.carried.answers_action h.asks hw rfl h.passes (hact.trans hrun) rfl rfl fun hcmp => ⟨hcmp, ?_, ?_⟩
  · rw [(told_completeWith ..).rst]
    rfl
  · rw [(told_completeWith ..).rst]
    rfl

theorem flushNow_spot (h : CommandsAt l f 0x2200 3 data s) : f.work = .flushNow ∧
    applyWrite (f.writer true) 0x220003 data s = flushNow (f.writer true) s := by
  obtain ⟨g, d, hlk, hlo, hsub⟩ := entry_at (i := 0) (by decide : entryIs 0x220003 0x2200 3 1 = true) (by decide)
  refine ⟨?_, ?_⟩
  · rw [h.work_eq rfl hlk, hlo, hsub]
    rfl
  · unfold applyWrite
    rw [hlk]
    dsimp only
    rw [hlo, hsub]
    rfl

theorem flushNow_open (h : CommandsAt l f 0x2200 3 data s) (ho : s.saltOpen = true)
    (hq : ∀ j ∈ s.recd.queue, j.kind ≠ .flush true) :
    Answers (.flushNow l) s fun t => Waits f s t ∧ CommitsWith (.flush false) f t := by
  obtain ⟨hw, hact⟩ := flushNow_spot h
  have hheld : (holdFlight f.id s).saltOpen = true := (saltOpen_told (told_holdFlight ..)).trans ho
  have hrun : flushNow (f.writer true) s = (none, addFlush false [f.id] (holdFlight f.id s)) := if_pos ho
  obtain ⟨j, hj, hkind, hid⟩ := addFlush_commits (b := false) (id := f.id) hheld
    (.inr (by rw [(told_holdFlight ..).recd]; exact hq))
  exact h.carried.answers_waiting h.asks hw rfl h.passes (hact.trans hrun)
    ⟨(holdFlight_waits f s).congr (by rw [addFlush_host_kept]) (by rw [addFlush_host_kept]), j, .inl hj, hkind, hid⟩

theorem flushNow_shut (h : CommandsAt l f 0x2200 3 data s) (ho : s.saltOpen = false) :
    Answers (.flushNow l) s fun t => Untouched s t ∧ Completed f 0x0340 0 [] s t := by
  obtain ⟨hw, hact⟩ := flushNow_spot h
  exact h.carried.answers_status h.asks hw rfl h.passes (hact.trans (if_neg (by rw [ho]; decide)))

theorem clearLog_spot (h : WritesAt l f 0x2220 1 data s) : f.work = .clearLog ∧
    applyWrite (f.writer true) 0x222001 data s = clearLogs (f.writer true) (leNat data) s := by
  obtain ⟨g, d, hlk, hlo, hsub⟩ := entry_at (i := 0) (by decide : entryIs 0x222001 0x2220 1 1 = true) (by decide)
  refine ⟨?_, ?_⟩
  · rw [h.work_eq rfl hlk, hlo, hsub]
    rfl
  · unfold applyWrite
    rw [hlk]
    dsimp only
    rw [hlo, hsub]
    rfl

theorem clearLog_open (h : WritesAt l f 0x2220 1 data s) (ho : s.saltOpen = true) :
    Answers (.clearLog l) s fun t => Waits f s t ∧ CommitsWith (.clear (leNat data) f.place) f t := by
  obtain ⟨hw, hact⟩ := clearLog_spot h
  have hheld : (holdFlight f.id s).saltOpen = true := (saltOpen_told (told_holdFlight ..)).trans ho
  have hrun : clearLogs (f.writer true) (leNat data) s =
      (none, addJob (.clear (leNat data) f.place) [f.id] (holdFlight f.id s)) := by
    unfold clearLogs
    rw [ho]
    rfl
  have hmv : Moves (caps [.objs, .recd, .axes]) (holdFlight f.id s)
      (addJob (.clear (leNat data) f.place) [f.id] (holdFlight f.id s)) := by
    unfold addJob
    rw [if_pos hheld]
    exact kick_moves (onRec_moves (.refl _))
  have hfl := hmv.part .flights (by decide)
  have hfl : (_, _, _) = (_, _, _) := hfl
  simp only [Prod.mk.injEq] at hfl
  exact h.carried.answers_waiting h.asks hw rfl h.passes (hact.trans hrun)
    ⟨(holdFlight_waits f s).congr hfl.1 hfl.2.1, addJob_commits hheld⟩

theorem clearLog_shut (h : WritesAt l f 0x2220 1 data s) (ho : s.saltOpen = false) :
    Answers (.clearLog l) s fun t => Untouched s t ∧ Completed f 0x0340 0 [] s t := by
  obtain ⟨hw, hact⟩ := clearLog_spot h
  exact h.carried.answers_status h.asks hw rfl h.passes (hact.trans (if_pos (by rw [ho]; decide)))

end

end Sys2Proof.Machine
end

section
/-! Defaults, the factory image, and the commands of O41. -/
namespace Sys2Proof.Machine
open Sys2Proof Sys2Proof.Config

section
variable {l : Fin 32} {f : Flight} {data : List Byte} {s : State}

/-! Defaults and the factory image. -/

set_option Elab.async false in
/-- Values put back where nothing follows from them: each object of the list takes its own, no other moves. -/
theorem eachPut_taken {ks : List Nat} {v : Nat → Nat} (hh : ∀ k ∈ ks, ∀ x u, putHook k x u = u.put k x) (s : State) (k : Nat) :
    (k ∈ ks → isConst k = false → (each ks (fun k t => putHook k (v k) t) s).get k = fitTo k (v k)) ∧
    (k ∉ ks → (each ks (fun k t => putHook k (v k) t) s).get k = s.get k) := by
  induction ks generalizing s with
  | nil => exact ⟨fun h => absurd h (List.not_mem_nil), fun _ => rfl⟩
  | cons a as ih =>
    obtain ⟨hin, hout⟩ := ih (fun k hk => hh k (List.mem_cons_of_mem a hk)) (putHook a (v a) s)
    have hput : putHook a (v a) s = s.put a (v a) := hh a List.mem_cons_self _ _
    refine ⟨fun hk hc => ?_, fun hk => ?_⟩
    · by_cases hmem : k ∈ as
      · exact hin hmem hc
      · obtain rfl : k = a := (List.mem_cons.1 hk).resolve_right hmem
        exact (hout hmem).trans (by rw [hput, get_put_self _ _ _ hc])
    · obtain ⟨hka, hkas⟩ := not_or.1 (fun h => hk (List.mem_cons.2 h))
      exact (hout hkas).trans (by rw [hput, get_put_ne _ _ _ _ hka])

theorem restoreDefaults_taken {ks : List Nat} (h : WritesAt l f 0x1003 1 data s)
    (hks : ks = (s.objs.map (·.1)).filter s.restorable)
    (hh : ∀ k ∈ ks, noisy k = false ∧ ∀ x u, putHook k x u = u.put k x) : Answers (.restoreDefaults l) s fun t =>
      Completed f (if s.keptFns.isEmpty then 0 else 0x0302) 0 [] s t ∧
      (∀ k ∈ ks, isConst k = false → t.get k = fitTo k (s.restoredValue k)) ∧
      ∀ k, k ∉ ks → noisy k = false → t.get k = s.get k := by
  obtain ⟨g, d, hlk, hlo, hsub⟩ := entry_at (i := 0) (by decide : entryIs 0x100301 0x1003 1 1 = true) (by decide)
  have hw : f.work = .restoreDefaults := by
    rw [h.work_eq rfl hlk, hlo, hsub]
    rfl
  have hact : applyWrite (f.writer true) 0x100301 data s = (some (if s.keptFns.isEmpty then 0 else 0x0302),
      each ks (fun k t => putHook k (s.restoredValue k) t) s) := by
    subst hks
    unfold applyWrite
    rw [hlk]
    dsimp only
    rw [hlo, hsub]
    rfl
  have hm : Moves (caps [.objs, .seq, .recd, .axes, .chans, .dies, .sup, .pow, .clk, .net, .gp]) s
      (each ks (fun k t => putHook k (s.restoredValue k) t) s) := each_moves (fun _ _ => putHook_moves (.refl _)) (.refl s)
  have hfl := hm.part .flights (by decide)
  have hfl : (_, _, _) = (_, _, _) := hfl
  simp only [Prod.mk.injEq] at hfl
  have htaken (k : Nat) := eachPut_taken (v := s.restoredValue) (fun k hk => (hh k hk).2) s k
  refine h.carried.answers_action h.asks hw rfl h.passes hact hfl.1 hfl.2.1 fun hcmp =>
    ⟨hcmp, fun k hk hc => ?_, fun k hk hn => ?_⟩
  · rw [completeWith_get _ _ _ _ _ _ (hh k hk).1]
    exact (htaken k).1 hk hc
  · rw [completeWith_get _ _ _ _ _ _ hn]
    exact (htaken k).2 hk

theorem loadFactory_spot (h : WritesAt l f 0x2001 5 data s) : f.work = .loadFactoryImage ∧
    applyWrite (f.writer true) 0x200105 data s = (some (loadFactory s).1, (loadFactory s).2) := by
  obtain ⟨g, d, hlk, hlo, hsub⟩ := entry_at (i := 0) (by decide : entryIs 0x200105 0x2001 5 1 = true) (by decide)
  refine ⟨?_, ?_⟩
  · rw [h.work_eq rfl hlk, hlo, hsub]
    rfl
  · unfold applyWrite
    rw [hlk]
    dsimp only
    rw [hlo, hsub]
    rfl

/-- The start of what waits moves the recorder's state alone and keeps the pending image. -/
theorem kick_pending (s : State) : (∀ k, k ≠ Obj.recorderState → (kick s).get k = s.get k) ∧
    (kick s).recd.pendingImage = s.recd.pendingImage := by
  unfold kick
  split
  · rename_i j js _ _
    split
    · exact ⟨fun _ _ => rfl, rfl⟩
    · rename_i hj
      obtain ⟨kind⟩ := j
      unfold startJob
      cases kind
      case flush b => exact absurd rfl hj
      all_goals
        exact ⟨fun k hk => (onRec_get ..).trans (get_put_ne _ _ _ _ hk), by simp [State.onRec]⟩
  · exact ⟨fun _ _ => rfl, rfl⟩

theorem loadImage_pending (i : LatImage) (ho : s.saltOpen = true) : (loadImage i s).get Obj.pendingState = 1 ∧
    (loadImage i s).recd.pendingImage = some i ∧ (loadImage i s).host.flights = s.host.flights ∧
    (loadImage i s).host.done = s.host.done := by
  let v : State := (s.onRec fun r => { r with pendingImage := some i }).put Obj.pendingState 1
  have hv : v.saltOpen = true := by
    unfold State.saltOpen at ho ⊢
    rw [get_put_ne _ _ _ _ (by decide), put_recd]
    exact ho
  have hjob : loadImage i s = bumpGen Obj.configImage (kick (v.onRec fun r => { r with queue := r.queue ++ [Job.waiting (.image i) []] })) := by
    unfold loadImage addJob
    rw [if_pos hv]
  have hm : Moves (caps [.objs, .recd, .axes]) v (kick (v.onRec fun r => { r with queue := r.queue ++ [Job.waiting (.image i) []] })) :=
    kick_moves (onRec_moves (.refl v))
  have hfl := hm.part .flights (by decide)
  have hfl : (_, _, _) = (_, _, _) := hfl
  simp only [Prod.mk.injEq] at hfl
  obtain ⟨hget, himg⟩ := kick_pending (v.onRec fun r => { r with queue := r.queue ++ [Job.waiting (.image i) []] })
  have hhost : v.host = s.host := put_host ..
  rw [hjob]
  unfold bumpGen
  refine ⟨?_, himg.trans (by show v.recd.pendingImage = _; rw [put_recd]; rfl), hfl.1.trans (by rw [hhost]),
    hfl.2.1.trans (by rw [hhost])⟩
  rw [onRec_get, hget _ (by decide), onRec_get, get_put_self _ _ _ (by decide)]
  decide

theorem loadFactory_taken (h : WritesAt l f 0x2001 5 data s) (ho : s.saltOpen = true)
    (hc : s.imageCause (factoryImage s.variant).bytes = 0) : Answers (.loadFactoryImage l) s fun t =>
      Completed f 0 0 [] s t ∧ t.get Obj.pendingState = 1 ∧ t.recd.pendingImage = some (factoryImage s.variant) := by
  obtain ⟨hw, hact⟩ := loadFactory_spot h
  have hrun : loadFactory s = (0, loadImage (factoryImage s.variant) s) := by
    unfold loadFactory
    dsimp only
    rw [ho, hc]
    rfl
  obtain ⟨hstate, himg, hfl, hdone⟩ := loadImage_pending (factoryImage s.variant) ho
  rw [hrun] at hact
  refine h.carried.answers_action h.asks hw rfl h.passes hact hfl hdone fun hcmp => ⟨hcmp, ?_, ?_⟩
  · rw [completeWith_get _ _ _ _ _ _ (by decide)]
    exact hstate
  · rw [(told_completeWith ..).recd]
    exact himg

theorem loadFactory_refused {c : Nat} (h : WritesAt l f 0x2001 5 data s) (ho : s.saltOpen = true)
    (hc : s.imageCause (factoryImage s.variant).bytes = c) (h0 : c ≠ 0) : Answers (.loadFactoryImage l) s fun t =>
      Completed f (if c = 3 then 0x0502 else 0x0311) 0 [] s t ∧ Takes Obj.imgRefusalCause c s t ∧ t.recd = s.recd := by
  obtain ⟨hw, hact⟩ := loadFactory_spot h
  have hrun : loadFactory s = (if c = 3 then 0x0502 else 0x0311, s.put Obj.imgRefusalCause c) := by
    unfold loadFactory
    dsimp only
    rw [ho, hc, if_neg (by decide), if_neg h0, imageStatus, if_neg h0]
  rw [hrun] at hact
  refine h.carried.answers_action h.asks hw rfl h.passes hact (by rw [put_host]) (by rw [put_host]) fun hcmp =>
    ⟨hcmp, ⟨?_, fun j hj hn => ?_⟩, ?_⟩
  · rw [completeWith_get _ _ _ _ _ _ (by decide), get_put_self _ _ _ (by decide)]
  · rw [completeWith_get _ _ _ _ _ _ hn, get_put_ne _ _ _ _ hj]
  · rw [(told_completeWith ..).recd, put_recd]

theorem loadFactory_shut (h : WritesAt l f 0x2001 5 data s) (ho : s.saltOpen = false) :
    Answers (.loadFactoryImage l) s fun t => Untouched s t ∧ Completed f 0x0340 0 [] s t := by
  obtain ⟨hw, hact⟩ := loadFactory_spot h
  have hrun : loadFactory s = (0x0340, s) := by
    unfold loadFactory
    dsimp only
    rw [ho]
    rfl
  rw [hrun] at hact
  exact h.carried.answers_status h.asks hw rfl h.passes hact

end

/-- Settles O41: each command runs its own spot of the dictionary, row by row. -/
theorem hostAndRecorderCommandsAct : Obligations.HostAndRecorderCommandsAct := by
  unfold Obligations.HostAndRecorderCommandsAct
  intro s l f data v hv
  subst hv
  exact ⟨fun m se hm hne h hb hs hfresh => slotReset_other hm hne h hb hs hfresh, fun se hp h hse => slotReset_own hp h hse,
    fun r hr h => keyWrite_taken hr h, deviceReset_open, deviceReset_shut, flushNow_open, flushNow_shut, clearLog_open,
    clearLog_shut, fun ks h hks hh => restoreDefaults_taken h hks hh, loadFactory_taken,
    fun c h ho hc h0 => loadFactory_refused h ho hc h0, loadFactory_shut⟩

end Sys2Proof.Machine
end
